-- ==== Sys2Proof/Word.lean ====
section
/-! DEFINITION. The word types, and sparse maps by number: the plain data in which the model keeps registers,
memories and everything that is indexed, and what a flash reports of itself. The operations on sparse maps stand in Machine/MapOps.lean. -/

namespace Sys2Proof

/-- A register, 32 bits wide (R528). -/
abbrev Word := BitVec 32

/-- A byte of flash or of a bus transfer. -/
abbrev Byte := BitVec 8

/-- A sparse map by number: pairs of a key and a value, the keys strictly rising. -/
abbrev Map (α : Type) := List (Nat × α)

/-- What the flash reports in SFDP (R441): whether it could be read, its density in Mbit, a 4 KiB erase type, the page size in
bytes, the 1-1-4 and the 1-4-4 fast read, erase suspend and resume, a means of 4-byte addressing. -/
structure Sfdp where
  readable : Bool
  density : Nat
  erase4k : Bool
  page : Nat
  read114 : Bool
  read144 : Bool
  suspend : Bool
  addr4 : Bool
  deriving DecidableEq, Repr

end Sys2Proof
end

