-- ==== Sys2Proof/Syntax.lean ====
section
/-! DEFINITION. The commands of the block: one constructor per row of spec/opcode_table.json, in its order, with the
operands that the outside or the analogue world supplies (the table gives no fields). -/

namespace Sys2Proof

/-- A command. -/
inductive Instr
  /-- ENCODER_EDGE (R42): a forward or reverse encoder edge posted by the encoder pin engine reaches the timebase and is
  scaled through the fractional accumulator or added to the reverse deficit. -/
  | encoderEdge
  /-- SYNC_IN_EDGE (R44): a qualified SYNC_IN edge gives one step, or one line boundary under external trigger, and
  over-rate or too-short edges are ignored with event 0x300. Operand: whether the edge rises, with the
  width of the pulse in 5 ns. -/
  | syncInEdge (edge : Bool × Nat)
  /-- SYN_RATE_STEP (R45): under the synthetic source or the SYN fallback, P advances at TBS_SYN_RATE on the 5 ns cycle.
  -/
  | synRateStep
  /-- FREERUN_BOUNDARY (R54): in FREERUN a line boundary falls every 1/RATE on T and P advances by LINE_STEPS. -/
  | freerunBoundary
  /-- LINE_START (R52): at T_L the line generator judges the five admission conditions, captures line L or marks it GAP
  with a DL_LINE cause, and records the line history. -/
  | lineStart
  /-- SYNC_OUT_PULSE_END (R60): SYNC_OUT returns inactive after OUT_WIDTH or at half the line period, whichever comes
  first. -/
  | syncOutPulseEnd
  /-- VELOCITY_ESTIMATE (R55): every 1 µs the velocity estimator recomputes V from the step stamps in its window. -/
  | velocityEstimate
  /-- STANDSTILL_DECLARED (R58): 100 ms of T pass without a line boundary, so V reads 0, SYNC_OUT is quiet and event 0x303
  is raised. -/
  | standstillDeclared
  /-- RUN_EXPECT_CHANGE (R46): the filtered RUN_EXPECT pin changes, which sets or clears motion expected on the encoder
  pins and may raise or clear STALL. Operands: the new filtered level. -/
  | runExpectChange (level : Bool)
  /-- COAST_END (R48): COAST_MAX expires under COAST, so P stops and the policy becomes HOLD with event 0x300. -/
  | coastEnd
  /-- SRC_RESUME (R47): the failed source has been free of faults for 10 ms, so P continues from its value, A is cleared
  and event 0x301 is raised. -/
  | srcResume
  /-- BEACON_SEND (R61): a master sends a beacon with its T and ID when 16 µs pass without a broadcast, including during
  standstill. -/
  | beaconSend
  /-- BROADCAST_RECEIVED (R62): a follower accepts a broadcast or beacon, reduces duplicate paths, relays it with updated
  hops and latency, and disciplines T by the offset e. -/
  | broadcastReceived
  /-- ANNOUNCE_SEND (R65): a master announces itself every 1 ms from the end of its link training. -/
  | announceSend
  /-- ANNOUNCE_RECEIVED (R65): a follower compares LS_DELAY, loads T and S once with event 0x309 and starts locking, and a
  master meeting another master runs the device-ID election. -/
  | announceReceived
  /-- NO_MASTER (R65): a follower has no acceptable master 500 ms after its training, raises event 0x307 and drives FAULT
  while completing start-up in HOLD. -/
  | noMaster
  /-- MASTER_LOST (R66): a follower sees no broadcast or beacon for 64 µs, raises event 0x306 and applies ON_FAIL. -/
  | masterLost
  /-- EPOCH_FREEZE (R98): at the boundary of L_apply − 1 a pending commit is frozen into the next-line registers and can
  no longer be cancelled. -/
  | epochFreeze
  /-- EPOCH_APPLIED (R99): at the boundary of L_apply the committed set comes into force, EPOCH advances, RESULT becomes
  2, event 0x100 is raised and the energy plan is re-checked. -/
  | epochApplied
  /-- COMMIT (R96): a write of ARY_APPLY.CMD = 1 checks the staged set by R97 and makes it pending for L_apply =
  ARY_APPLY_L, or refuses it. -/
  | commit
  /-- COMMIT_ASAP (R96): a write of ARY_APPLY.CMD = 2 checks the staged set and makes it pending for L_now + 2, or refuses
  it. -/
  | commitAsap
  /-- CANCEL (R98): a write of ARY_APPLY.CMD = 3 withdraws a pending commit before the boundary of L_apply − 1, or is
  refused with RESULT 10. -/
  | cancel
  /-- SNAP_GO (R94): a write of ARY_SNAP_CMD.GO requests an area snapshot, setting PENDING or refusing it when busy. -/
  | snapGo
  /-- SNAP_EXPOSURE_START (R94): at T_S all 144 rows reset and begin exposure and the strobes of the snapshot slot fire.
  -/
  | snapExposureStart
  /-- SNAP_TRANSFER (R94): at T_S + DUR all nine bands transfer together, and the offset conversion and 144 row
  conversions follow. -/
  | snapTransfer
  /-- SNAP_DONE (R94): the snapshot readout ends, BUSY clears, COUNT advances, event 0x104 is raised and the snapshot
  units are delivered. -/
  | snapDone
  /-- SNAP_NO_GRANT (R94): a snapshot request not granted within 1 s is withdrawn with RESULT 3 and event 0x105. -/
  | snapNoGrant
  /-- EXPOSURE_START (R82): a row class begins its exposure at X_k − d(c) within its slot. Operands: the band and the row
  class. -/
  | exposureStart (k : Nat) (c : Nat)
  /-- SLOT_EDGE (R81): an illumination slot opens or closes on T, and a late edge raises event 0x10D. Operands: the slot,
  whether it opens, and how late the edge is in 5 ns. -/
  | slotEdge (slot : Nat) (opens : Bool) (late : Nat)
  /-- BAND_TRANSFER (R82): at the end of a band's slot the band-wide transfer moves all active rows into their storage
  nodes, with a readback of the row-driver and transfer pulses. Operands: the slot, and masks of the bands whose
  row-driver or transfer-pulse readback is wrong. -/
  | bandTransfer (slot : Nat) (rowBad : Nat) (pulseBad : Nat)
  /-- CONVERSION (R108): a 500 ns conversion slot converts the offset or a row of every column, applies the trim and
  passes samples to the PIP sector unit. Operands: the codes of the listed converters, by 128 slice + converter, and the
  code of every other. -/
  | conversion (listed : List (Nat × Nat)) (d : Nat)
  /-- TAKEOVER (R127): after a passing shadow the spare takes over the column at the next line boundary, the indicted
  converter is retired and event 0x205 records the new map. Operands: the slice. -/
  | takeover (n : Nat)
  /-- AUDIT_REPLACED (R128): after two cycles of baselines taken by a spare, the spare becomes AU and the old AU is
  retired with event 0x209. Operands: the slice. -/
  | auditReplaced (n : Nat)
  /-- COLUMN_CALIBRATION (R112): in start-up step 5 all slices restore their remap state, calibrate trims and baselines,
  and retire converters that fail the limits. Operands: the measurements (sums of 64 codes on K0 and K1, deviation) of the
  listed converters and of every other, the AU means on K0 and K1 by gain, and whether the mirrored remap record can be
  read. -/
  | columnCalibration (m : List (Nat × Nat × Nat × Nat)) (d : Nat × Nat × Nat) (b : List (Nat × List Nat × List Nat)) (bd : List Nat × List Nat) (mirrorOk : Bool)
  /-- TB_APPLY (R126): a temperature band decided by a round takes effect at the next line boundary, switching bit time,
  bias, transfer pulse width, DSNU loading, presets, coefficients and companion changes. Operands: the figures of merit of
  the presets of the new band, by link. -/
  | tbApply (foms : List Nat)
  /-- COMP_WRITE (R162): COMP writes a band-line segment into its slot in the band store and sets its descriptor bits.
  Operands: the sector. -/
  | compWrite (n : Nat)
  /-- REGISTRATION_DRAW (R165): after the last TRL conversion of a capture line has passed COMP, REG draws every completed
  registered line with its tags, labels and short mask. -/
  | registrationDraw
  /-- DL_SECTOR_CHECK (R171): at the boundary of L + 4 a sector unit that has not finished line L discards it and writes
  its band lines INVALID as a DL_SECTOR miss. Operands: the sector. -/
  | dlSectorCheck (n : Nat)
  /-- DSNU_LOAD_DONE (R144): a background DSNU table load from flash completes, LIN switches to it at the next boundary,
  and the next load of the wanted set begins. Operands: whether the flash read passed. -/
  | dsnuLoadDone (ok : Bool)
  /-- FORMATTER_EMIT (R181): once line L + 2 is drawn in all sectors and the class map of L has arrived, the formatter
  reconstructs MOS, converts colour and emits all units of registered line L. -/
  | formatterEmit
  /-- RAW_ROW_EMIT (R195): the ROW-RAW units of a capture line are emitted within 2 µs of its last conversion. -/
  | rawRowEmit
  /-- LEAD_SEGMENT_RECEIVED (R201): a segmentation unit thresholds a LEAD segment into runs, joining runs across sector
  boundaries. Operands: the sector. -/
  | leadSegmentReceived (n : Nat)
  /-- OBJECT_TABLE_LINE (R203): after the last segment of a LEAD band line the object table connects runs, opens, unites,
  splits and closes objects live, and writes the line's labels. -/
  | objectTableLine
  /-- REGISTERED_SEGMENT_ACCUMULATE (R215): the registered copy resolves labels, classifies pixels, accumulates features
  and watches TRL for the velocity ratio on each registered segment. Operands: the sector. -/
  | registeredSegmentAccumulate (n : Nat)
  /-- VERDICT_EVALUATION (R225): a verdict core takes the earliest queued confirmed evaluation, applies the absent policy
  and runs the object's program to a verdict. Operands: the core. -/
  | verdictEvaluation (c : Nat)
  /-- FRAGMENT_RECORD_RECEIVED (R236): a neighbour fragment arrives and is matched with own fragments, merging them into
  one object with the same verdict on both modules. -/
  | fragmentRecordReceived
  /-- STITCH_WINDOW_EXPIRE (R237): a boundary object has no match WIN_N after registered close and is evaluated alone with
  XW_LATE as a DL_XW miss. -/
  | stitchWindowExpire
  /-- NEIGHBOUR_FRAGMENT_EXPIRE (R237): a neighbour fragment matched by no own object within WIN_N of arrival is
  discarded. -/
  | neighbourFragmentExpire
  /-- PARTNER_RECORD_RECEIVED (R238): a partner record arrives and is matched to an own object in PARTNER_WAIT, combining
  the verdicts. -/
  | partnerRecordReceived
  /-- PARTNER_WAIT_EXPIRE (R238): WIN_P ends without a match, so the object keeps its own verdict with XW_LATE as a DL_XW
  miss. -/
  | partnerWaitExpire
  /-- PARTNER_ADOPTED (R239): an unmatched partner record whose verdict fires is adopted after WIN_P with a new object ID
  and valves from its machine columns, or is discarded if it accepts. -/
  | partnerAdopted
  /-- GUST_EVALUATION (R252): a core runs a gust evaluation and, when its verdict fires, issues one gust record and places
  ARM from the flight prediction. Operands: the core. -/
  | gustEvaluation (c : Nat)
  /-- VALVE_FRAME_BUILD (R256): at T_tick − FRAME_LAT the framer builds each enabled bank's frame from the reservations
  and posts it. Operands: the bank. -/
  | valveFrameBuild (b : Nat)
  /-- FRAME_WORD_POST (R257): the framer posts the next word of a frame into the pin-engine FIFO as an entry frees.
  Operands: the bank. -/
  | frameWordPost (b : Nat)
  /-- FRAME_ABANDONED (R257): word 0 of a frame cannot be posted by T_tick, so the frame is abandoned with event 0x619.
  Operands: the bank. -/
  | frameAbandoned (b : Nat)
  /-- ARM_EXPIRE (R259): an ARM span reaches its end without an OPEN or release, counting an expiry and emitting an
  ARM_EXPIRED cancel if no confirmed record exists. -/
  | armExpire
  /-- PARTNER_GUST_RECORD_RECEIVED (R268): on the valve owner a partner's firing gust record places an ARM span over its
  mapped valves. -/
  | partnerGustRecordReceived
  /-- COMPANION_FRAME_START (R276): FVAL rises on a port, counting a frame and letting a pending context take effect at
  frame n_w + DELAY. Operands: the port. -/
  | companionFrameStart (p : Nat)
  /-- COMPANION_FRAME_END (R280): FVAL falls, closing the frame, checking its length, making a partial stripe ready and
  running the exposure loop every PERIOD-th frame. Operands: the port, and the qualified words of a line still in
  progress. -/
  | companionFrameEnd (p : Nat) (ws : List Nat)
  /-- COMPANION_LINE_START (R289): LVAL rises, stamping the line, taking a ring slot or dropping the stripe, aborting a
  lower-priority stripe, or ignoring a stray line. Operands: the port. -/
  | companionLineStart (p : Nat)
  /-- COMPANION_LINE_END (R279): LVAL falls, checking the trailer CRC and line length and marking the line CHK_ERR, FILLED
  or TRUNC. Operands: the port and the qualified words of the line. -/
  | companionLineEnd (p : Nat) (ws : List Nat)
  /-- STRIPE_PROCESS (R295): the engine chooses a ready stripe, switches context if needed and runs LIN, MERGE, DEMOSAIC,
  MIX and STORE with λ on its lines. Operands: the half of the engine. -/
  | stripeProcess (h : Nat)
  /-- PORT_SILENT (R310): no rising LVAL for 100 ms on a configured port sets SILENT with event 0x506. Operands: the port.
  -/
  | portSilent (p : Nat)
  /-- COMPANION_DISCOVERY (R299): in start-up step 6 the controller frees the bus, checks the ID, writes the lists,
  exposure and gain, and establishes context 0 or declares the companion absent. Operands: the port, the pulses of the
  hang cure, whether SDA was released, the ID read, and whether every transaction was acknowledged. -/
  | companionDiscovery (p : Nat) (clocks : Nat) (free : Bool) (id : Nat) (ack : Bool)
  /-- CONTEXT_CHANGE_WRITE (R302): a waiting host, temperature-band or loop change writes its bus transactions once no
  context of the port is pending or retiring. Operands: the port. -/
  | contextChangeWrite (p : Nat)
  /-- CB_TRANSACTION_DONE (R494): a companion bus transaction completes with acknowledge, or fails and is repeated after
  50 µs or withdrawn. Operands: the port, and whether the transaction was acknowledged. -/
  | cbTransactionDone (p : Nat) (ack : Bool)
  /-- CB_CONTENTION_RESTART (R496): after contention the controller waits for 50 µs of idle and restarts the transaction,
  failing it after three restarts. Operands: the port. -/
  | cbContentionRestart (p : Nat)
  /-- CB_STRETCH_TIMEOUT (R494): clock stretching beyond 10 ms per byte, or SCL low for 25 ms, declares the bus faulty and
  the companion absent. Operands: the port. -/
  | cbStretchTimeout (p : Nat)
  /-- CTX_WITHDRAW (R304): a change whose effect frame has not begun 1 s after its last STOP is withdrawn, the current
  context is rewritten and event 0x50C is raised. Operands: the port. -/
  | ctxWithdraw (p : Nat)
  /-- LANE_ROW_SEND (R317): a lane set sends one row of stream words, starting packets in the order LANE_MAP, STATUS, P0
  to P3 and filling idle slots. Operands: the set. -/
  | laneRowSend (n : Nat)
  /-- ALIGN_ROW (R319): every 4,096th row all lanes send ALIGN positions, and any map change takes effect at its end.
  Operands: the set. -/
  | alignRow (n : Nat)
  /-- UNIT_ADMIT (R330): a line unit arrives at the lane buffer and is admitted whole, discarding lower-class units if
  needed, or is refused. -/
  | unitAdmit
  /-- RECORD_ENQUEUE (R324): a record from VDT is added to the open RECORDS packet of each set in REC_SETS, closing it
  when LEN would exceed REC_MAX. -/
  | recordEnqueue
  /-- RECORDS_PACKET_CLOSE (R324): REC_CLOSE passes after a RECORDS packet's first record, closing the packet. Operands:
  the set. -/
  | recordsPacketClose (n : Nat)
  /-- AGE_DROP (R331): a packet reaches its class age limit unsent, and it and the rest of its unit are discarded as a
  DL_LANE miss. Operands: the set and the class. -/
  | ageDrop (n : Nat) (c : Nat)
  /-- STATUS_HEARTBEAT (R327): a STATUS packet is sent when 1 ms passes with no other cause for one. Operands: the set. -/
  | statusHeartbeat (n : Nat)
  /-- LANE_FAULT (R336): a data lane's monitor detects a short, open, PLL or ECC fault, idles the lane, remaps at the next
  ALIGN row, sends LANE_MAP and STATUS, and resends recent packets. Operands: the lane, the cause (0 SHORT, 1 OPEN, 2 PLL,
  3 ECC), and the monitor's swing and current. -/
  | laneFault (lane : Nat) (cause : Nat) (swing : Nat) (cur : Nat)
  /-- LANE_WARN (R333): a swing below 80 % for 10 ms raises WARN and requests a planned move. Operands: the lane, and the
  monitor's swing and current. -/
  | laneWarn (lane : Nat) (swing : Nat) (cur : Nat)
  /-- LANE_MOVE (R337): a write of LNK_MOVE_CMD requests a planned move of a lane to a spare, or is refused without a
  spare. Operands: the word written. -/
  | laneMove (v : Nat)
  /-- LANE_RETURN (R338): a reset lane whose monitor reads clean for 10 ms returns as a spare and is moved back into a
  data slot. Operands: the lane. -/
  | laneReturn (lane : Nat)
  /-- LANE_POLICY_UPDATE (R332): at the line boundary after a loss or return of a data lane, the set drops or restores
  families against C. Operands: the set. -/
  | lanePolicyUpdate (n : Nat)
  /-- SET_UP (R340): HOLDOFF after bring-up the set sends its first STATUS and is UP with event 0x707, making the device
  READY when all sets are UP. Operands: the set. -/
  | setUp (n : Nat)
  /-- SET_IDLE (R341): after the calm status a set finishes its P0 queue and its lanes enter electrical idle with event
  0x71F. Operands: the set. -/
  | setIdle (n : Nat)
  /-- LINK_PACKET_SEND (R343): a link packet starts once its credit allows, a VC0 packet preempting a VC1 or VC2 packet
  between words. Operands: the link. -/
  | linkPacketSend (n : Nat)
  /-- LINK_PACKET_RECEIVED (R342): a link packet arrives whole, is checked, deduplicated and delivered, or discarded with
  its credit returned. Operands: the link, the packet's words, and the contact range that travels beside a fragment. -/
  | linkPacketReceived (n : Nat) (ws : List (BitVec 128)) (contact : Nat × Nat)
  /-- CREDIT_SEND (R343): a receiver sends a CREDIT position with cumulative freed words at least every 256 ns when the
  count has changed. Operands: the link. -/
  | creditSend (n : Nat)
  /-- CREDIT_RECEIVED (R343): a CREDIT position updates the sender's cumulative credit per virtual channel. Operands: the
  link and the two blocks of the CREDIT position. -/
  | creditReceived (n : Nat) (b : Nat × Nat)
  /-- LINK_WORD_LOCK_LOSS (R347): more than 4 of 64 sync headers are invalid, so the link is DOWN with event 0x712.
  Operands: the link and its invalid sync headers of 64. -/
  | linkWordLockLoss (n : Nat) (errs : Nat)
  /-- LINK_RETRAIN (R347): 1 ms after going DOWN, or every 100 ms without a peer, the link retrains in the background. Operands:
  the link, whether it locks, the figures of merit of each peaking, the sum of 64 round trips in 5 ns with the tags of the
  peer's ECHO positions. -/
  | linkRetrain (n : Nat) (lock : Bool) (foms : List Nat) (rtt : Nat × List Nat)
  /-- LINK_TRAINING (R349): in start-up step 6 a link locks, sweeps peaking, exchanges credits, measures latency by ECHO
  and sends PAIR. Operands: the link, whether it locks, the figures of merit of each peaking, the sum of 64 round trips in
  5 ns with the tags of the peer's ECHO positions. -/
  | linkTraining (n : Nat) (lock : Bool) (foms : List Nat) (rtt : Nat × List Nat)
  /-- EYE_MEASURE (R348): every 250 µs the eye monitor forms a FOM, and 8 low measurements request a re-adaptation grant.
  Operands: the link, and the openings of the main and the shadow path. -/
  | eyeMeasure (n : Nat) (hm : Nat) (vm : Nat) (hs : Nat) (vs : Nat)
  /-- READAPT_SWEEP (R350): on its grant the shadow path sweeps peaking and locks a better setting, or raises event 0x71A.
  Operands: the link and the figures of merit of each peaking. -/
  | readaptSweep (n : Nat) (foms : List Nat)
  /-- EQ_SWAP (R350): after 1,024 words decoded alike the shadow and main paths swap roles at a word boundary with event
  0x719. Operands: the link. -/
  | eqSwap (n : Nat)
  /-- PAIR_RECEIVED (R461): a PAIR payload is checked against the geometry, site and device ID, accepting or refusing the
  pair and comparing VDT digests. -/
  | pairReceived
  /-- PAIR_RESEND (R461): PAIR is sent again every 1 s on a link. Operands: the link. -/
  | pairResend (n : Nat)
  /-- SET_PLL_UNLOCK (R351): a set's serialiser PLL unlocks, failing every lane and bringing the set down. Operands: the
  set. -/
  | setPllUnlock (n : Nat)
  /-- DRIVE (R360): a DRIVE step sets, clears, toggles or loads the engine's outputs. Operands: the engine. -/
  | drive (e : Nat)
  /-- SAMPLE (R360): a SAMPLE step reads filtered input levels into X or Y. Operands: the engine. -/
  | sample (e : Nat)
  /-- SHIFT (R363): a SHIFT step moves 1–32 bits out of OSR and into ISR, optionally driving a shift clock. Operands: the
  engine and the phases that pass. -/
  | shift (e : Nat) (phases : Nat)
  /-- WAITPIN (R360): a WAITPIN step waits for a level, an edge or a change on its inputs. Operands: the engine. -/
  | waitpin (e : Nat)
  /-- WAITTIME (R364): a WAITTIME step waits on T against X, Y or a relative time, or arms or disarms the deadline.
  Operands: the engine. -/
  | waittime (e : Nat)
  /-- WAITPOS (R360): a WAITPOS step waits until P reaches X or for the next line start. Operands: the engine. -/
  | waitpos (e : Nat)
  /-- FETCH (R360): a FETCH step waits for and takes a word from the input FIFO. Operands: the engine. -/
  | fetch (e : Nat)
  /-- FETCHN (R362): a FETCHN step takes an input word or, when the FIFO is empty, LASTIN with an underrun. Operands: the
  engine. -/
  | fetchn (e : Nat)
  /-- STORE (R360): a STORE step waits for room and puts a word into the output FIFO. Operands: the engine. -/
  | store (e : Nat)
  /-- STOREN (R362): a STOREN step stores a word or discards it when the output FIFO is full. Operands: the engine. -/
  | storen (e : Nat)
  /-- BRANCH (R361): a BRANCH step continues at its target when its condition holds. Operands: the engine. -/
  | branch (e : Nat)
  /-- COUNT (R360): a COUNT step loads or decrements C0 or C1, branching when the result is not 0. Operands: the engine.
  -/
  | count (e : Nat)
  /-- SIGNAL (R366): a SIGNAL step sets or clears signal bits, posts encoder edges, or raises a NOTE event. Operands: the
  engine. -/
  | signal (e : Nat)
  /-- WAITSIG (R365): a WAITSIG step waits on the signal bus. Operands: the engine. -/
  | waitsig (e : Nat)
  /-- CONST (R361): a CONST step performs one register load or arithmetic operation on X, Y, OSR or ISR. Operands: the
  engine. -/
  | const (e : Nat)
  /-- HALT (R369): a HALT step halts the engine with STATE 3. Operands: the engine. -/
  | halt (e : Nat)
  /-- DEADLINE_EXPIRE (R364): an armed deadline expires and fires at a blocking step, abandoning it and jumping to the
  target as DL_VALVE or event 0x80D. Operands: the engine. -/
  | deadlineExpire (e : Nat)
  /-- PEN_START (R368): a write of PEN_START checks and starts all masked engines together, or none. Operands: the word
  written. -/
  | penStart (v : Nat)
  /-- PEN_HALT (R369): a write of PEN_HALT halts the masked engines at their next clock. Operands: the word written. -/
  | penHalt (v : Nat)
  /-- PMEM_WRITE (R370): a write of PEN_PMEM_DATA stores a step word if every engine covering it is halted, marking
  programs changed. Operands: the step word written. -/
  | pmemWrite (v : Nat)
  /-- FIFO_IN_WRITE (R363): a write of PEN_FIFO_IN posts a word to the selected engine's input FIFO, or is refused.
  Operands: the word written. -/
  | fifoInWrite (v : Nat)
  /-- FIFO_OUT_READ (R363): a read of PEN_FIFO_OUT removes and returns the oldest output word, or 0 when empty. -/
  | fifoOutRead
  /-- SIGNAL_BUS_WRITE (R365): a host write of PEN_SIG changes the signal bus before any engine CLR or SET of the same
  cycle. Operands: the bits written. -/
  | signalBusWrite (v : Nat)
  /-- PIN_LEVEL_CHANGE (R372): a pin's filtered level changes after its synchroniser and glitch filter, feeding engines
  and monitors. Operands: the pin and its new filtered level. -/
  | pinLevelChange (p : Nat) (v : Bool)
  /-- RATE_WINDOW_END (R373): a rate window ends, clearing OVERRATE when its count was within RATE_MAX. Operands: the pin
  and the pulses that its filter rejected. -/
  | rateWindowEnd (p : Nat) (rejects : Nat)
  /-- PIN_STUCK_SET (R374): the stuck timer reaches STUCK_WIN while motion is expected, setting STUCK with event 0x802.
  Operands: the pin. -/
  | pinStuckSet (p : Nat)
  /-- PIN_READBACK_MISMATCH (R358): a driven pin reads back wrongly for 1 µs, or its current limit is engaged for 10 µs,
  raising event 0x817 or 0x818. Operands: the port (0-79 pins, 80-95 strobes,
  96 SYNC_IN, 97 SYNC_OUT), and whether its current limit is engaged. -/
  | pinReadbackMismatch (p : Nat) (limit : Bool)
  /-- STROBE_ON (R376): a strobe becomes active at slot start − LEAD on a captured line, requesting its sense conversion
  on the first pulse of a round. Operands: the strobe. -/
  | strobeOn (n : Nat)
  /-- STROBE_OFF (R376): a strobe returns inactive at slot end − LEAD. Operands: the strobe. -/
  | strobeOff (n : Nat)
  /-- STROBE_EARLY_END (R377): a pulse reaches MAX_W or the duty limit and ends early with event 0x813 or 0x814. Operands:
  the strobe, and whether the duty limit ends the pulse. -/
  | strobeEarlyEnd (n : Nat) (duty : Bool)
  /-- CLOCK_FAULT (R380): the engines' base clock unlocks, halting every engine and forcing strobes inactive. -/
  | clockFault
  /-- METER_SAMPLE (R384): at 100 kHz the input monitor samples voltage and current and updates P10, P100 and P1000.
  Operands: the voltage in 0.25 mV and the current in 31.25 µA. -/
  | meterSample (volts : Nat) (amps : Nat)
  /-- INPUT_OUT_OF_RANGE (R386): the metered input stays below 10.8 V or above 13.2 V for 10 ms, raising event 0x909 or
  0x90A. -/
  | inputOutOfRange
  /-- LEDGER_ENTRY_CLOSE (R387): at each line boundary, or every 1 ms in standstill, the ledger closes an entry of
  measured and modelled energy. -/
  | ledgerEntryClose
  /-- ENVELOPE_WRITE (R409): a write of NRG_ENV changes W_env and triggers a planned re-check. Operands: the word written.
  -/
  | envelopeWrite (v : Nat)
  /-- GUARD_CHECK (R395): the metered guard sheds a step when P100 exceeds W_env and again each further 100 ms. -/
  | guardCheck
  /-- GUARD_RESTORE (R395): after RESTORE_WIN with room, the guard restores its last shed step. -/
  | guardRestore
  /-- ENVELOPE_BREACH (R396): the envelope is breached with all steps shed, setting BREACH and nATTN with event 0x904, or
  clears after BREACH_WIN. -/
  | envelopeBreach
  /-- GRANT_REQUEST (R397): a writer of flash, a link, the snapshot or attestation requests a grant for bursty work.
  Operands: the order of R397, and the link or the kind of work. -/
  | grantRequest (order : Nat) (who : Nat)
  /-- GRANT_EVALUATION (R397): at each line boundary, or every 1 ms, waiting requests are granted in order when the
  metered condition allows. -/
  | grantEvaluation
  /-- GRANT_FORCED (R398): a request waits past its limit and is granted anyway with event 0x906, or a re-adaptation
  raises event 0x907 after 10 s. Operands: the order of R397, and the link or the kind of work. -/
  | grantForced (order : Nat) (who : Nat)
  /-- PF_THRESHOLD_CROSS (R400): the input falls below 10.0 V, or returns within 20 µs as a dip counted with event 0x90B.
  Operands: whether the input falls below the threshold. -/
  | pfThresholdCross (down : Bool)
  /-- POWER_FAIL (R401): the input stays below threshold for 20 µs, the POWER_FAIL record is written and all but the flash
  domain are cut. -/
  | powerFail
  /-- PF_SEAL (R401): when the page program in flight completes, the seal page is programmed if the hold-up voltage
  allows, or skipped. Operands: the hold-up voltage in 0.1 V. -/
  | pfSeal (v : Nat)
  /-- PF_SEAL_DONE (R401): the seal completes, the flash enters deep power-down and the device is held in reset. -/
  | pfSealDone
  /-- PF_RESTART (R403): after the power-fail sequence the input stays at or above 10.8 V for 100 ms and the device
  restarts from step 1. -/
  | pfRestart
  /-- HK_ROUND_START (R413): every period P both housekeeping converters begin a round over their multiplexer indices. -/
  | hkRoundStart
  /-- HK_CONVERSION_DONE (R414): a 100 µs housekeeping conversion completes and is discarded as settling or delivered.
  Operands: the converter and its result. -/
  | hkConversionDone (c : Nat) (v : Int)
  /-- HK_ROUND_END (R420): a round completes, cross-checking converters, checking rails, excluding sensors, forming T_max,
  deciding the band and the rise alarm, and judging the orderly stop. -/
  | hkRoundEnd
  /-- DL_HK_MISS (R437): a round is not complete within 2P, counting DL_HK and driving FAULT. -/
  | dlHkMiss
  /-- URGENT_REQUEST (R417): a thermal, strobe or reserve requester asks for an urgent conversion, aborting the conversion
  in progress unless aborted twice. -/
  | urgentRequest
  /-- URGENT_RESULT (R417): an urgent conversion result is delivered to its requester alone for the sensor, strobe-sense
  or reserve check. Operands: the converter and its result. -/
  | urgentResult (c : Nat) (v : Int)
  /-- ORDERLY_STOP_CONFIRM (R429): the urgent re-conversion of the hottest sensor confirms the stop condition, starting
  the orderly stop, or rejects it with event 0xA14. -/
  | orderlyStopConfirm
  /-- ORDERLY_STOP_CUT (R430): 40 ms after confirmation objects are closed, reservations released, strobes forced off and
  capture stopped, and the calm status is sent. -/
  | orderlyStopCut
  /-- CALM_ENTERED (R430): once the privileged records are mirrored and every P0 queue is empty, the engines halt and the
  device enters CALM with event 0xA0A. -/
  | calmEntered
  /-- CALM_AUTO_RESTART (R431): with CALM_AUTO, T_max below 90 °C for 10 s restarts the device from step 1. -/
  | calmAutoRestart
  /-- THM_RESTART (R431): a write of THM_RESTART with key 0xC3 restarts the device from CALM or TRIP_LATCH, or is ignored
  with event 0xA0E. Operands: the key written. -/
  | thmRestart (key : Nat)
  /-- TRIP (R432): a trip comparator fires, latching the trip and cutting all rails except the island and a flash program
  in flight. Operands: the comparator, H1 or H2. -/
  | trip (h2 : Bool)
  /-- TRIP_FLASH_CUT (R432): the flash rail is cut at the end of the program in flight or at NV_HOLD. Operands: whether
  the program in flight has ended. -/
  | tripFlashCut (done : Bool)
  /-- TRIP_RESTART (R435): both trip sensors stay below 90 °C for 10 s and the device restarts, or enters TRIP_LATCH after
  a latching trip. -/
  | tripRestart
  /-- POWER_GOOD (R546): VIN reaches 10.8 V, the soft-start and rail sequence run, and power-good starts start-up. -/
  | powerGood
  /-- NRESET (R555): nRESET held low for 1 µs resets the device, which restarts from step 1 on release. Operands: whether
  the pin is held low, or released. -/
  | nreset (low : Bool)
  /-- REFCLK_LOST (R550): REFCLK is absent or out of range for 10 µs, holding the device in reset with pins at high
  impedance. -/
  | refclkLost
  /-- REFCLK_RETURN (R550): REFCLK present and in range for 10 ms restarts the device from step 1. -/
  | refclkReturn
  /-- STARTUP_STEP_END (R460): a start-up step completes and the next begins, covering SFDP, slot verification, loading,
  admission, comparator test and AUTO engine start. Operands: the step, what the flash reports in SFDP (step 2, R441), and the
  slots with a read error (step 3) or the comparators that failed (step 4). -/
  | startupStepEnd (n : Nat) (sfdp : Sfdp) (bad : Nat)
  /-- LANE_BRINGUP_BEGIN (R460): once column calibration, link training and companion discovery have ended, step 7 lane
  bring-up begins. -/
  | laneBringupBegin
  /-- CAPTURE_BEGIN (R462): at the first line boundary after step 5, and after lock on a follower, capture begins with
  warm-up. -/
  | captureBegin
  /-- WARMUP_END (R462): the 2,048th non-GAP captured line ends warm-up and the device enters RUN with event 0xB05. -/
  | warmupEnd
  /-- BOOT_RESTART (R459): MGT_BOOT_CMD with CMD 1 restarts the device from step 1 at once. -/
  | bootRestart
  /-- BOOT_VERIFY (R459): MGT_BOOT_CMD with CMD 2 starts background verification of the inactive slot. -/
  | bootVerify
  /-- VERIFY_DONE (R459): the background verification of a slot ends with its RESULT. Operands: whether the slot met a
  read error. -/
  | verifyDone (readErr : Bool)
  /-- BOOT_COMMIT (R452): MGT_BOOT_CMD with CMD 3, or reaching READY with COMMIT_AT_READY, burns rollback and revoke fuses
  with event 0xB08. -/
  | bootCommit
  /-- NV_READ (R458): MGT_NV_CMD READ fetches 256 B of flash into the buffer, or is refused. -/
  | nvRead
  /-- NV_PROGRAM (R458): MGT_NV_CMD PROGRAM writes the buffer to a page under a grant, or is refused. -/
  | nvProgram
  /-- NV_ERASE (R458): MGT_NV_CMD ERASE erases a 4 KiB sector under a grant, or is refused. -/
  | nvErase
  /-- NV_OPERATION_DONE (R458): a pass-through flash operation completes or fails, setting MGT_NV_STATUS.RESULT. Operands:
  whether the operation passed. -/
  | nvOperationDone (ok : Bool)
  /-- ATT_GO (R467): MGT_ATT_CMD.GO latches the nonce and requests a grant to sign an attestation report. -/
  | attGo
  /-- ATTESTATION_DONE (R467): the attestation signature completes and STATUS becomes 2. -/
  | attestationDone
  /-- GET_STATE (R477): MB command 0x01 returns MGT_STATE. Operands: the address, and the bytes clocked. Of this and every MB
  transaction below, 128 is added to the address where SCL stays low after its bytes, with no STOP (R486). -/
  | getState (addr : Nat) (n : Nat)
  /-- GET_ATTN (R477): MB command 0x02 returns the attention byte. Operands: the address, and the bytes clocked. -/
  | getAttn (addr : Nat) (n : Nat)
  /-- GET_ID (R477): MB command 0x03 returns DEVICE_ID. Operands: the address, and the bytes clocked. -/
  | getId (addr : Nat) (n : Nat)
  /-- GET_PTR (R477): MB command 0x04 returns the register pointer. Operands: the address, and the bytes clocked. -/
  | getPtr (addr : Nat) (n : Nat)
  /-- GET_BUS (R477): MB command 0x05 returns MGT_MB_STATUS. Operands: the address, and the bytes clocked. -/
  | getBus (addr : Nat) (n : Nat)
  /-- BLOCK_WRITE (R480): MB command 0x40 writes COUNT bytes as registers from the pointer. Operands: the address, COUNT,
  and the bytes sent after it. -/
  | blockWrite (addr : Nat) (cnt : Nat) (data : List Byte)
  /-- BLOCK_READ (R481): MB command 0x41 reads COUNT bytes as registers from the pointer. Operands: the address, COUNT,
  and the bytes clocked. -/
  | blockRead (addr : Nat) (cnt : Nat) (n : Nat)
  /-- SET_PTR (R479): MB command 0x80 loads the pointer and then writes or reads registers from it. Operands: the address,
  the pointer, the bytes sent after it, or the bytes clocked in a read. -/
  | setPtr (addr : Nat) (ptr : Nat) (data : List Byte) (n : Nat)
  /-- CONTINUE (R479): MB command 0x81 writes or reads registers from the pointer as it stands. Operands: the address, the
  bytes sent, or the bytes clocked in a read. -/
  | continue (addr : Nat) (data : List Byte) (n : Nat)
  /-- CMD_REFUSED (R478): a refused MB command code or COUNT is answered with NACK and event 0xB0D. Operands: the address,
  the code, and COUNT. -/
  | cmdRefused (addr : Nat) (code : Nat) (cnt : Nat)
  /-- MB_TIMEOUT (R486): SCL low for 25 ms mid-transaction makes the target abandon it with event 0xB0B. -/
  | mbTimeout
  /-- IBR_START (R489): after a rise of the attention summary and 50 µs of idle bus, the device sends START, its address,
  the attention byte and PEC. -/
  | ibrStart
  /-- IBR_UNANSWERED (R490): no SCL within 100 µs or no acknowledge ends the in-band request with event 0xB0C. -/
  | ibrUnanswered
  /-- IBR_RETRY (R490): after losing arbitration the device retries the in-band request after the next STOP and idle, up
  to three times. -/
  | ibrRetry
  /-- LULL_ENTER (R491): after LULL_IDLE without being addressed, while the planner asks for Lull, management enters Lull.
  -/
  | lullEnter
  /-- LULL_WAKE (R492): an address match, a rise of attention or the planner's withdrawal ends Lull, the device being
  awake 20 µs later. Operands: whether an address match ends it. -/
  | lullWake (addressed : Bool)
  /-- EVENT_OCCURRENCE (R502): a function raises an event, setting its pending bit, counting it, updating EVT_LAST and
  offering a record through the squall limiter. Operands: the code, the function, the arguments and the data coordinate.
  -/
  | eventOccurrence (code : Nat) (fid : Nat) (args : List Nat) (ctag : Nat) (coord : Nat)
  /-- RECORD_WRITE (R511): the recorder takes the next intake entry and writes or updates a record in the ring, freeing
  old records and emitting summaries. -/
  | recordWrite
  /-- RECORD_LATCH (R514): a read of MGT_REC_WIN[0] latches the next valid record from the cursor and advances it. -/
  | recordLatch
  /-- REC_SEEK_OLDEST (R514): MGT_REC_SEEK with 1 moves the cursor to the oldest valid record. -/
  | recSeekOldest
  /-- REC_SEEK_NEWEST (R514): MGT_REC_SEEK with 2 moves the cursor to the newest valid record. -/
  | recSeekNewest
  /-- LOG_MEM_FAIL (R515): an uncorrectable ring granule is marked bad, its record lost and the failure written to the
  sentinel and the mirror. Operands: the granule and the cause. -/
  | logMemFail (g : Nat) (cause : Nat)
  /-- MIRROR_PAGE_PROGRAM (R516): under a grant the mirror writer programs record bodies and then their VALID marks. -/
  | mirrorPageProgram
  /-- MIRROR_SECTOR_ERASE (R516): when the current sector is half full the next mirror sector is erased under a grant. -/
  | mirrorSectorErase
  /-- PRIV_REMIRROR (R517): an updated privileged record is mirrored again at most once per 10 s. Operands: the SEQ of the
  record. -/
  | privRemirror (seq : Nat)
  /-- RECORDER_SCAN (R519): at start or after a recorder reset, the ring or mirror is scanned, SEQ continues and waiting
  records are written in order. -/
  | recorderScan
  /-- EVT_PEND_CLEAR (R506): a W1C write of xxx_EVT_PEND clears pending bits. Operands: the domain, the word and its
  value. -/
  | evtPendClear (d : Nat) (j : Nat) (v : Nat)
  /-- EVT_CLEAR_PENDING (R506): xxx_EVT_CLEAR bit 0 clears every pending bit of the domain. Operands: the domain. -/
  | evtClearPending (d : Nat)
  /-- EVT_CLEAR_STATS (R506): xxx_EVT_CLEAR bit 1 clears EVT_DROP and every EVT_STAT. Operands: the domain. -/
  | evtClearStats (d : Nat)
  /-- RESET_ARM (R520): a write of MGT_RST_CMD with key 0xB9 arms a reset of a function ID. Operands: the function ID. -/
  | resetArm (f : Nat)
  /-- RESET_FIRE (R520): a write of MGT_RST_CMD with key 0x9B fires the armed reset, or is refused by ID, state, arm or
  running reset. Operands: the function ID. -/
  | resetFire (f : Nat)
  /-- RESET_ARM_EXPIRE (R520): 10 ms pass after an arm without a fire, so the arm is no longer in force. -/
  | resetArmExpire
  /-- RESET_QUIESCE (R521): at the next line boundary or within 50 µs the function takes no more input and its reset-scope
  state returns to reset values. Operands: the function ID. -/
  | resetQuiesce (f : Nat)
  /-- SECTION_RELOAD_DONE (R456): the function's sections are reloaded and checked, or the reload fails twice and the
  function is held in reset. Operands: the function ID and the read failures. -/
  | sectionReloadDone (f : Nat) (errs : Nat)
  /-- RESET_RESUME (R521): at the next line boundary the function resumes, RESULT becomes 3 and event 0xB11 is raised.
  Operands: the function ID. -/
  | resetResume (f : Nat)
  /-- WATCHDOG_EXPIRE (R522): a function shows no progress within its limit, raising its WATCHDOG event and an automatic
  reset or hold. Operands: the function ID. -/
  | watchdogExpire (f : Nat)
  /-- MEMORY_ECC_ERROR (R172): an ECC error in a memory is corrected and counted or, if uncorrectable, triggers the
  outcome its chapter gives. Operands: the memory by its number, its unit and its place, and whether the error is
  uncorrectable. -/
  | memoryEccError (mem : Nat) (unit : Nat) (place : Nat) (uncorr : Bool)
  /-- LEAD_REGISTER_READ (R17): a read of the lead of a latched group returns its value and latches the other registers of
  the group. Operands: the address. -/
  | leadRegisterRead (a : Nat)
  /-- RC_REGISTER_READ (R530): a read of an RC field returns it and returns the field to its reset value. Operands: the
  address. -/
  | rcRegisterRead (a : Nat)
  /-- COUNTER_CLEAR (R533): a write of an xxx_CLEAR register clears the counters its bits name. Operands: the address of
  the clear register and the word written. -/
  | counterClear (a : Nat) (v : Nat)
  /-- DL_CLEAR (R71): a write of TBS_DL_CLEAR clears the named deadline counters and stamps. Operands: the word written.
  -/
  | dlClear (v : Nat)
  /-- PRBS_TEST (R351): a write of LNK_DT_TEST starts PRBS31 on a spare or unused lane, or is refused on a data slot.
  Operands: the lane and the word written. -/
  | prbsTest (lane : Nat) (v : Nat)
  /-- REGISTER_WRITE (R530): a write to a register without a row of its own acts on each field by its access type, or is
  ignored as a whole for a refused value. Operands: the address and the word written. -/
  | registerWrite (a : Nat) (v : Nat)
  /-- PAGE_PROGRAM_DONE (R516): a flash page program or sector erase that the device began for its recorder mirror,
  boot-count log or identity record completes or fails, ending its grant, letting the VALID-mark program or the next write
  begin, or raising event 0xB10. Operands: the mirror's program (0), the mirror's erase (1) or the device's own operation
  (2), and whether it passed. -/
  | pageProgramDone (which : Nat) (ok : Bool)
  /-- MIRRORING_RESUMES (R518): the mirror credit, growing at MIRROR_RATE, reaches 64 KiB, so suspended non-privileged
  mirroring resumes. -/
  | mirroringResumes
  /-- CLOCK_RELOCK (R380): the base clock of the pin engines locks again after a clock fault, ending the forced-inactive
  state of the strobes. -/
  | clockRelock
  deriving DecidableEq, Repr

end Sys2Proof
end

