-- ==== Sys2Proof/Config.lean ====
section
/-! DEFINITION. What an implementation fixes and the spec leaves open: OTP and strap values, tables of the image that no rule
lays out, and the free values. Each is a constant without a body, so no proof can see its value. -/

namespace Sys2Proof.Config

/-! ### OTP, straps and fixed identity (R451, R473, R534, R538) -/

/-- DEVICE_ID of OTP. -/
opaque deviceId : BitVec 64
/-- VARIANT of OTP: 0 FA, 1 NA. -/
opaque variant : BitVec 1
/-- Silicon stepping, major and minor (MGT_ID_STEP). -/
opaque stepping : BitVec 16
/-- KEY_DIGEST_k of OTP, 64 bytes each; none where the slot is empty. -/
opaque keyDigest : Nat → Option (List Byte)
/-- RB_COUNT fuses burned before the model begins: at most 64 (R451). -/
opaque rbCount : BitVec 7
/-- REVOKED bits burned before the model begins. -/
opaque revoked : BitVec 4
/-- The identity modulus N, 512 bytes big-endian (R465). -/
opaque identityN : List Byte
/-- The private exponent of the identity key, which nothing can read (R451). -/
opaque identityD : Nat
/-- The OTP calibration of die sensor i (R412, R451): 0-15 TS0 to TS15, 16 TS-H1, 17 TS-H2. What a conversion delivers is
calibrated already; no rule gives the calibration a format (log entry 323). -/
opaque sensorCalibration : Nat → BitVec 32
/-- Strap levels ADR1, ADR0 as sampled at a start (R473, R543); they may be others at the next. -/
opaque strapAddr : Nat → BitVec 2
/-- Strap level MB_PEC as sampled at a start (R482, R543). -/
opaque strapPec : Nat → Bool

/-! ### Energy and budgets -/

/-- Energy coefficients of the image by the bytes of its NRG section, temperature band and coefficient number of NRG_COEF_SEL, in
0.001 of the unit of R390; R391 puts them in the NRG section, and no rule says where (R448 has no record for them). -/
opaque imageCoef : List Byte → Nat → Nat → BitVec 31
/-- The configured maximum object rate of R32 and R390, in objects per second. Log entry 271. -/
opaque maxObjectRate : BitVec 32

/-! ### Formatter tables (R189): the image's content is not stated -/

/-- Transfer table of DISPLAY by the bytes of the PIP sections it was loaded with: table number and entry. -/
opaque transferDisp : List Byte → Nat → Nat → BitVec 8
/-- Transfer table of CODING by the bytes of the PIP sections it was loaded with: table number and entry. -/
opaque transferCode : List Byte → Nat → Nat → BitVec 10

/-! ### Free values -/

/-- Whether a DSNU load that runs at time T has reached a byte of its slot (R180). -/
opaque dsnuReached : Nat → Nat → Bool
/-- TRIM that unsigned 1.15 cannot hold, or that has no quotient, by the sums of the K0 and K1 codes (R112). -/
opaque trimOutOfFormat : Nat → Nat → BitVec 16

/-- The salt of a signature of the device, 64 bytes (R450, R466). -/
opaque freeSalt : Nat → BitVec 512
/-- A byte of flash left undefined by an operation that was cut short (R459, R468). -/
opaque freeByte : Nat → Byte
/-- A 16-bit free value. -/
opaque free16 : Nat → BitVec 16
/-- A 32-bit free value. -/
opaque free32 : Nat → BitVec 32
/-- A sum of R215 that its width cannot hold, by the width and the exact sum. -/
opaque sumOutOfWidth : Nat → Int → BitVec 64
/-- A view of an object without registered pixels, whose formula divides by 0 (R223). -/
opaque viewOfNothing : Nat → BitVec 16
/-- A truth value left open. -/
opaque freeBool : Nat → Bool

/-- State of the scrambler of a lane when the device starts (R315 gives none): data lanes 0-23, link lane XWn as 24 + n. -/
opaque scramblerSeed : Nat → BitVec 58
/-- State of the PRBS31 generator of data lane i when its test starts (R351 gives none). -/
opaque prbsSeed : Nat → BitVec 31
/-- The content of a TRAIN position by training stage and peaking under test, two blocks of 56 bits: R318 names the two and gives
no places. -/
opaque trainContent : Nat → Nat → BitVec 112
/-- Tags of the ECHO positions that the device sends (R318 gives no values). -/
opaque echoTag : Nat → BitVec 48
/-- What the monitor of a running data lane reads at time T (LNK_DT_MON): lane, T. -/
opaque laneMonitor : Nat → Nat → BitVec 32

end Sys2Proof.Config
end

