-- ==== Sys2Proof/Machine/Operands.lean ====
section
/-! DEFINITION. Bit fields, signed numbers, saturation, rounding and check codes: the number forms that every chapter
uses. Rounding without a stated form takes halves up (log entry 12). -/

namespace Sys2Proof.Machine

/-- Bits `[hi:lo]` of a number. -/
def bits (v hi lo : Nat) : Nat := v / 2 ^ lo % 2 ^ (hi - lo + 1)

/-- Bit `i` of a number. -/
def bit (v i : Nat) : Bool := v / 2 ^ i % 2 == 1

/-- The number with bits `[hi:lo]` replaced by `x`. -/
def setBits (v hi lo x : Nat) : Nat :=
  v - bits v hi lo * 2 ^ lo + x % 2 ^ (hi - lo + 1) * 2 ^ lo

/-- 1 for true, 0 for false. -/
def b2n (b : Bool) : Nat := if b then 1 else 0

/-- The integer that the low `n` bits of `v` spell in two's complement. -/
def toSigned (n v : Nat) : Int :=
  let u := v % 2 ^ n
  if u < 2 ^ (n - 1) then (u : Int) else (u : Int) - (2 ^ n : Nat)

/-- The low `n` bits of an integer in two's complement. -/
def ofSigned (n : Nat) (x : Int) : Nat := (x % (2 ^ n : Nat)).toNat

/-- Clamp an integer into a range. -/
def clampI (lo hi x : Int) : Int := if x < lo then lo else if hi < x then hi else x

/-- Clamp an integer to an unsigned number of `n` bits. -/
def satU (n : Nat) (x : Int) : Nat := (clampI 0 ((2 ^ n : Nat) - 1) x).toNat

/-- Saturate a natural number at `n` bits. -/
def satN (n x : Nat) : Nat := min x (2 ^ n - 1)

/-- Saturate an integer as a signed number of `n` bits. -/
def satS (n : Nat) (x : Int) : Int := clampI (-(2 ^ (n - 1) : Nat)) ((2 ^ (n - 1) : Nat) - 1) x

/-- `a / b` to the nearest integer, halves up; 0 where `b` is 0. -/
def roundDiv (a b : Int) : Int := if b = 0 then 0 else (2 * a + b) / (2 * b)

/-- `a / 2^n` to the nearest integer, halves up. -/
def roundShift (a : Int) (n : Nat) : Int := roundDiv a (2 ^ n : Nat)

/-- The median of three integers. -/
def median3 (a b c : Int) : Int := max (min a b) (min (max a b) c)

/-- Difference `a - b` modulo `2^n`, read as a signed number (R40). -/
def diffMod (n a b : Nat) : Int := toSigned n (a + 2 ^ n - b % 2 ^ n)

/-- Line `a` is later than line `b` (R40). -/
def laterL (a b : Nat) : Bool := decide (0 < diffMod 32 a b)

/-- Put an entry that belongs to a line, its first component, into a list that is in the order of the lines, before those of later
lines. -/
def putInLine {α : Type} (x : Nat × α) : List (Nat × α) → List (Nat × α)
  | [] => [x]
  | y :: ys => if laterL y.1 x.1 then x :: y :: ys else y :: putInLine x ys

/-- Pack fields of (value, width) from the most significant down. -/
def packMsb (fs : List (Nat × Nat)) : Nat := fs.foldl (fun acc p => acc * 2 ^ p.2 + p.1 % 2 ^ p.2) 0

/-- The `n` bytes of a number, lowest first. -/
def leBytes (n v : Nat) : List Byte := (List.range n).map (fun i => BitVec.ofNat 8 (v / 256 ^ i))

/-- The number that bytes spell, lowest first. -/
def ofLe (bs : List Byte) : Nat := bs.foldr (fun b acc => b.toNat + 256 * acc) 0

/-- The `n` bytes of a number, highest first. -/
def beBytes (n v : Nat) : List Byte := (leBytes n v).reverse

/-- One step of CRC-8 with polynomial 0x07 over a byte (R482). -/
def crc8Byte (crc : Nat) (b : Byte) : Nat :=
  (List.range 8).foldl (fun c _ => if c / 128 % 2 = 1 then (c * 2 % 256) ^^^ 0x07 else c * 2 % 256) (crc ^^^ b.toNat)

/-- The SMBus PEC over bytes in order (R482). -/
def pec (bs : List Byte) : Byte := BitVec.ofNat 8 (bs.foldl crc8Byte 0)

/-- One step of the reflected CRC-32 with polynomial 0x04C11DB7 (0xEDB88320 reflected) over a byte (R325). -/
def crc32Byte (crc : Nat) (b : Byte) : Nat :=
  (List.range 8).foldl (fun c _ => if c % 2 = 1 then (c / 2) ^^^ 0xEDB88320 else c / 2) (crc ^^^ b.toNat)

/-- The CRC-32 of R325 over bytes in order. -/
def crc32 (bs : List Byte) : Nat := (bs.foldl crc32Byte 0xFFFFFFFF) ^^^ 0xFFFFFFFF

/-- Replace the element at place `i` of a list. -/
def lset {α : Type} (l : List α) (i : Nat) (v : α) : List α := l.set i v

/-- Sum of integers. -/
def isum (l : List Int) : Int := l.foldl (· + ·) 0

/-- Sum of naturals. -/
def nsum (l : List Nat) : Nat := l.foldl (· + ·) 0

/-- Largest of naturals, 0 for none. -/
def nmax (l : List Nat) : Nat := l.foldl max 0

/-- Integer square root. -/
def isqrt (n : Nat) : Nat := Nat.sqrt n

end Sys2Proof.Machine
end

