-- ==== Sys2Proof/Machine/MapOps.lean ====
section
/-! DEFINITION. Operations on sparse maps. A map holds pairs of a key and a value with strictly rising keys; a map
with a default lists no entry equal to that default, so equal contents are equal data. -/

namespace Sys2Proof

/-- The value under key `k`, if the map lists one. -/
def mget {α : Type} : Map α → Nat → Option α
  | [], _ => none
  | (a, v) :: t, k => if a = k then some v else mget t k

/-- The value under key `k`, or `d` where the map lists none. -/
def mgetD {α : Type} (m : Map α) (k : Nat) (d : α) : α := (mget m k).getD d

/-- Put `v` under key `k`, keeping the keys rising. -/
def mput {α : Type} : Map α → Nat → α → Map α
  | [], k, v => [(k, v)]
  | (a, w) :: t, k, v =>
    if k < a then (k, v) :: (a, w) :: t
    else if k = a then (k, v) :: t
    else (a, w) :: mput t k v

/-- Remove key `k`. -/
def mdel {α : Type} (m : Map α) (k : Nat) : Map α := m.filter (fun p => p.1 != k)

/-- Write `v` under key `k` of a map whose unlisted keys hold `d`: writing `d` removes the entry. -/
def mputD {α : Type} [DecidableEq α] (d : α) (m : Map α) (k : Nat) (v : α) : Map α :=
  if v = d then mdel m k else mput m k v

/-- Apply `f` to the value under key `k`, which is `d` where the map lists none. -/
def mmod {α : Type} (m : Map α) (k : Nat) (d : α) (f : α → α) : Map α := mput m k (f (mgetD m k d))

/-- Apply `f` to the value under key `k` where the map lists one. -/
def madj {α : Type} (m : Map α) (k : Nat) (f : α → α) : Map α :=
  m.map (fun p => if p.1 = k then (p.1, f p.2) else p)

/-- The values, in the order of their keys. -/
def mvals {α : Type} (m : Map α) : List α := m.map (·.2)

/-- The runs of consecutive numbers in an ascending list, each by its first and last number (R202, R261). -/
def runsOf (cols : List Nat) : List (Nat × Nat) :=
  cols.foldr (fun c rs => match rs with
    | (a, b) :: rest => if a = c + 1 then (c, b) :: rest else (c, c) :: (a, b) :: rest
    | [] => [(c, c)]) []

/-- The keys of a map are strictly rising. -/
def mrising {α : Type} : Map α → Bool
  | [] => true
  | [_] => true
  | (a, _) :: (b, w) :: t => decide (a < b) && mrising ((b, w) :: t)

/-- The canonical form of a map with default `d`: rising keys, and no entry equal to the default. -/
def Memory.wf {α : Type} [DecidableEq α] (d : α) (m : Map α) : Bool :=
  mrising m && m.all (fun p => decide (p.2 ≠ d))

/-- Write consecutive values from key `k`. -/
def mputs {α : Type} [DecidableEq α] (d : α) (m : Map α) (k : Nat) : List α → Map α
  | [] => m
  | v :: vs => mputs d (mputD d m k v) (k + 1) vs

/-- Read `n` consecutive values from key `k`. -/
def mgets {α : Type} (d : α) (m : Map α) (k n : Nat) : List α := (List.range n).map (fun i => mgetD m (k + i) d)

end Sys2Proof
end

