-- ==== Sys2Proof/Machine/RegMap.lean ====
section
/-! DEFINITION. The register map (17_address_map.md R528-R537, and the register tables R39, R71, R105, R139, R179,
R200, R245, R274, R313, R354, R383, R409, R440, R471, R500, R506, R527, R538): every assigned register with its
address, array strides, reset value, writable or clear-on-read fields and their stated ranges. -/

namespace Sys2Proof

/-- Access type of a field that is not plain RO (R530). -/
inductive Acc
  | rw | rwh | wo | w1c | rc
  deriving DecidableEq, Repr

/-- A field `[hi:lo]` with its access type and the range outside which a value is refused (R531). -/
structure Fld where
  hi : Nat
  lo : Nat
  acc : Acc
  mn : Nat
  mx : Nat
  deriving DecidableEq, Repr

/-- A register or register array: base, the dimensions as (stride, count) from the outermost (R535), the reset value
of every element (one, or one an element), and the fields that a write or a read can change. -/
structure RegDef where
  name : String
  base : Nat
  dims : List (Nat × Nat)
  resets : List Nat
  flds : List Fld
  deriving DecidableEq, Repr

/-! Addresses of the registers, by the names of the manual. -/
namespace Reg

/-- MGT_ID_PART (R538). -/
abbrev MGT_ID_PART : Nat := 0x000000
/-- MGT_ID_STEP (R538). -/
abbrev MGT_ID_STEP : Nat := 0x000004
/-- MGT_ID_DEV_LO (R538). -/
abbrev MGT_ID_DEV_LO : Nat := 0x000008
/-- MGT_ID_DEV_HI (R538). -/
abbrev MGT_ID_DEV_HI : Nat := 0x00000C
/-- MGT_ID_CAPS (R538). -/
abbrev MGT_ID_CAPS : Nat := 0x000010
/-- MGT_SUM (R538). -/
abbrev MGT_SUM : Nat := 0x000020
/-- MGT_SUM_PRIV (R538). -/
abbrev MGT_SUM_PRIV : Nat := 0x000024
/-- MGT_SUM_FAULT (R538). -/
abbrev MGT_SUM_FAULT : Nat := 0x000028
/-- MGT_SCRATCH (R538). -/
abbrev MGT_SCRATCH : Nat := 0x00002C
/-- ARY_MODE_CFG (R105). -/
abbrev ARY_MODE_CFG : Nat := 0x100000
/-- ARY_GEOM_CFG (R105). -/
abbrev ARY_GEOM_CFG : Nat := 0x100004
/-- ARY_FMAX (R105). -/
abbrev ARY_FMAX : Nat := 0x100008
/-- ARY_FREERUN (R105). -/
abbrev ARY_FREERUN : Nat := 0x10000C
/-- ARY_SNAP_CFG (R105). -/
abbrev ARY_SNAP_CFG : Nat := 0x100010
/-- ARY_SNAP_CMD (R105). -/
abbrev ARY_SNAP_CMD : Nat := 0x100014
/-- ARY_APPLY_L (R105). -/
abbrev ARY_APPLY_L : Nat := 0x100018
/-- ARY_APPLY (R105). -/
abbrev ARY_APPLY : Nat := 0x10001C
/-- ARY_SNAP_STATUS (R105). -/
abbrev ARY_SNAP_STATUS : Nat := 0x100020
/-- ARY_APPLY_STATUS (R105). -/
abbrev ARY_APPLY_STATUS : Nat := 0x100024
/-- ARY_TOCC (R105). -/
abbrev ARY_TOCC : Nat := 0x100028
/-- ARY_TX_PW[5] (R105). -/
abbrev ARY_TX_PW : Nat := 0x10002C
/-- ARY_STATUS (R105). -/
abbrev ARY_STATUS : Nat := 0x100040
/-- ARY_LIVE (R105). -/
abbrev ARY_LIVE : Nat := 0x100044
/-- ARY_STG_SLOT[4] (R105). -/
abbrev ARY_STG_SLOT : Nat := 0x100080
/-- ARY_STG_GWIN (R105). -/
abbrev ARY_STG_GWIN : Nat := 0x100090
/-- ARY_STG_RDSTART (R105). -/
abbrev ARY_STG_RDSTART : Nat := 0x100094
/-- ARY_STG_BAND[9] (R105). -/
abbrev ARY_STG_BAND : Nat := 0x1000A0
/-- ARY_STG_ROWCLS[9] (R105). -/
abbrev ARY_STG_ROWCLS : Nat := 0x1000C8
/-- ARY_STG_WIN[9] (R105). -/
abbrev ARY_STG_WIN : Nat := 0x1000F0
/-- ARY_STG_EXP[9][3] (R105). -/
abbrev ARY_STG_EXP : Nat := 0x100120
/-- active block, as ARY_STG_SLOT[4] (R105). -/
abbrev ARY_ACT_SLOT : Nat := 0x100200
/-- active block, as ARY_STG_GWIN (R105). -/
abbrev ARY_ACT_GWIN : Nat := 0x100210
/-- active block, as ARY_STG_RDSTART (R105). -/
abbrev ARY_ACT_RDSTART : Nat := 0x100214
/-- active block, as ARY_STG_BAND[9] (R105). -/
abbrev ARY_ACT_BAND : Nat := 0x100220
/-- active block, as ARY_STG_ROWCLS[9] (R105). -/
abbrev ARY_ACT_ROWCLS : Nat := 0x100248
/-- active block, as ARY_STG_WIN[9] (R105). -/
abbrev ARY_ACT_WIN : Nat := 0x100270
/-- active block, as ARY_STG_EXP[9][3] (R105). -/
abbrev ARY_ACT_EXP : Nat := 0x1002A0
/-- COL_CFG (R139). -/
abbrev COL_CFG : Nat := 0x200000
/-- COL_AUDIT_CFG (R139). -/
abbrev COL_AUDIT_CFG : Nat := 0x200004
/-- COL_GROSS_CFG (R139). -/
abbrev COL_GROSS_CFG : Nat := 0x20000C
/-- COL_BLK_CFG (R139). -/
abbrev COL_BLK_CFG : Nat := 0x200010
/-- COL_BLK_STATUS (R139). -/
abbrev COL_BLK_STATUS : Nat := 0x200014
/-- COL_SUMMARY (R139). -/
abbrev COL_SUMMARY : Nat := 0x200018
/-- COL_SEL (R139). -/
abbrev COL_SEL : Nat := 0x20001C
/-- COL_TB_CFG[5] (R139). -/
abbrev COL_TB_CFG : Nat := 0x200024
/-- COL_STG_CAG[9] (R139). -/
abbrev COL_STG_CAG : Nat := 0x200040
/-- COL_CAG[9] (R139). -/
abbrev COL_CAG : Nat := 0x200070
/-- COL_BASE[4] (R139). -/
abbrev COL_BASE : Nat := 0x2000A0
/-- COL_IDLE[6] (R139). -/
abbrev COL_IDLE : Nat := 0x2000B0
/-- COL_SEC_STATUS[12] (R139). -/
abbrev COL_SEC_STATUS : Nat := 0x2000D0
/-- COL_SUSP_WIN[13] (R139). -/
abbrev COL_SUSP_WIN : Nat := 0x200100
/-- COL_AUDCNT_WIN[20] (R139). -/
abbrev COL_AUDCNT_WIN : Nat := 0x200140
/-- COL_TRIM_WIN[101] (R139). -/
abbrev COL_TRIM_WIN : Nat := 0x200200
/-- COL_SLS_STATUS[192] (R139). -/
abbrev COL_SLS_STATUS : Nat := 0x201000
/-- COL_SLS_MAP[192] (R139). -/
abbrev COL_SLS_MAP : Nat := 0x201004
/-- COL_SLS_DEFECT[192] (R139). -/
abbrev COL_SLS_DEFECT : Nat := 0x201008
/-- COL_SLS_COUNT[192] (R139). -/
abbrev COL_SLS_COUNT : Nat := 0x20100C
/-- COL_SLS_REF[192] (R139). -/
abbrev COL_SLS_REF : Nat := 0x201010
/-- TBS_SRC_CFG (R71). -/
abbrev TBS_SRC_CFG : Nat := 0x300000
/-- TBS_SCALE (R71). -/
abbrev TBS_SCALE : Nat := 0x300004
/-- TBS_LINE_CFG (R71). -/
abbrev TBS_LINE_CFG : Nat := 0x300008
/-- TBS_SYN_RATE (R71). -/
abbrev TBS_SYN_RATE : Nat := 0x30000C
/-- TBS_VEL_CFG (R71). -/
abbrev TBS_VEL_CFG : Nat := 0x300010
/-- TBS_MOTION_CFG (R71). -/
abbrev TBS_MOTION_CFG : Nat := 0x300014
/-- TBS_LS_DELAY (R71). -/
abbrev TBS_LS_DELAY : Nat := 0x300018
/-- TBS_SYNC_CFG (R71). -/
abbrev TBS_SYNC_CFG : Nat := 0x30001C
/-- TBS_XW_CFG (R71). -/
abbrev TBS_XW_CFG : Nat := 0x300020
/-- TBS_P_LO (R71). -/
abbrev TBS_P_LO : Nat := 0x300040
/-- TBS_P_HI (R71). -/
abbrev TBS_P_HI : Nat := 0x300044
/-- TBS_L (R71). -/
abbrev TBS_L : Nat := 0x300048
/-- TBS_VEL (R71). -/
abbrev TBS_VEL : Nat := 0x30004C
/-- TBS_T_LO (R71). -/
abbrev TBS_T_LO : Nat := 0x300050
/-- TBS_T_HI (R71). -/
abbrev TBS_T_HI : Nat := 0x300054
/-- TBS_SECONDS (R71). -/
abbrev TBS_SECONDS : Nat := 0x300058
/-- TBS_STATE (R71). -/
abbrev TBS_STATE : Nat := 0x30005C
/-- TBS_XW_STATUS (R71). -/
abbrev TBS_XW_STATUS : Nat := 0x300060
/-- TBS_REV_DEFICIT (R71). -/
abbrev TBS_REV_DEFICIT : Nat := 0x300064
/-- TBS_XW_LAT[4] (R71). -/
abbrev TBS_XW_LAT : Nat := 0x300068
/-- TBS_XW_OFFSET (R71). -/
abbrev TBS_XW_OFFSET : Nat := 0x300078
/-- TBS_DL_COUNT[10] (R71). -/
abbrev TBS_DL_COUNT : Nat := 0x300080
/-- TBS_DL_LAST[10] (R71). -/
abbrev TBS_DL_LAST : Nat := 0x3000C0
/-- TBS_DL_CLEAR (R71). -/
abbrev TBS_DL_CLEAR : Nat := 0x3000FC
/-- TBS_HIST_L (R71). -/
abbrev TBS_HIST_L : Nat := 0x300100
/-- TBS_HIST[4] (R71). -/
abbrev TBS_HIST : Nat := 0x300110
/-- PIP_CFG (R179). -/
abbrev PIP_CFG : Nat := 0x400000
/-- PIP_BAND_CFG[9] (R179). -/
abbrev PIP_BAND_CFG : Nat := 0x400010
/-- PIP_BG_CFG[9] (R179). -/
abbrev PIP_BG_CFG : Nat := 0x400040
/-- PIP_BS_DEPTH[9] (R179). -/
abbrev PIP_BS_DEPTH : Nat := 0x400070
/-- PIP_BS_LABEL (R179). -/
abbrev PIP_BS_LABEL : Nat := 0x400094
/-- PIP_BS_STATUS (R179). -/
abbrev PIP_BS_STATUS : Nat := 0x400098
/-- PIP_TDI_STATUS (R179). -/
abbrev PIP_TDI_STATUS : Nat := 0x40009C
/-- PIP_DEF_CFG (R179). -/
abbrev PIP_DEF_CFG : Nat := 0x4000A0
/-- PIP_DEF_COUNT (R179). -/
abbrev PIP_DEF_COUNT : Nat := 0x4000A4
/-- PIP_REG_STATUS (R179). -/
abbrev PIP_REG_STATUS : Nat := 0x4000B0
/-- PIP_REG_PHASE[9] (R179). -/
abbrev PIP_REG_PHASE : Nat := 0x4000C0
/-- PIP_SEC_STATUS[12] (R179). -/
abbrev PIP_SEC_STATUS : Nat := 0x400100
/-- PIP_SEC_DROP[12] (R179). -/
abbrev PIP_SEC_DROP : Nat := 0x400104
/-- PIP_SEC_SHORT[12] (R179). -/
abbrev PIP_SEC_SHORT : Nat := 0x400108
/-- PIP_SEC_HOT[12] (R179). -/
abbrev PIP_SEC_HOT : Nat := 0x40010C
/-- PIP_PMEM_ADDR (R179). -/
abbrev PIP_PMEM_ADDR : Nat := 0x400200
/-- PIP_PMEM_DATA[4] (R179). -/
abbrev PIP_PMEM_DATA : Nat := 0x400210
/-- PIP_CLEAR (R179). -/
abbrev PIP_CLEAR : Nat := 0x400220
/-- PIP_OUT_CFG (R200). -/
abbrev PIP_OUT_CFG : Nat := 0x400800
/-- PIP_DISP_CFG (R200). -/
abbrev PIP_DISP_CFG : Nat := 0x400804
/-- PIP_CODE_CFG (R200). -/
abbrev PIP_CODE_CFG : Nat := 0x400808
/-- PIP_TF_CFG (R200). -/
abbrev PIP_TF_CFG : Nat := 0x40080C
/-- PIP_MOS_CFG (R200). -/
abbrev PIP_MOS_CFG : Nat := 0x400810
/-- PIP_MOS_IR0 (R200). -/
abbrev PIP_MOS_IR0 : Nat := 0x400814
/-- PIP_MOS_IR1 (R200). -/
abbrev PIP_MOS_IR1 : Nat := 0x400818
/-- PIP_RAW_CFG (R200). -/
abbrev PIP_RAW_CFG : Nat := 0x40081C
/-- PIP_RAW_ROWS[9] (R200). -/
abbrev PIP_RAW_ROWS : Nat := 0x400820
/-- PIP_VIS_PLANE[15] (R200). -/
abbrev PIP_VIS_PLANE : Nat := 0x400844
/-- PIP_DISP_MTX[18] (R200). -/
abbrev PIP_DISP_MTX : Nat := 0x400880
/-- PIP_CODE_MTX[18] (R200). -/
abbrev PIP_CODE_MTX : Nat := 0x4008C8
/-- PIP_OUT_STATUS (R200). -/
abbrev PIP_OUT_STATUS : Nat := 0x400910
/-- PIP_OUT_LAT (R200). -/
abbrev PIP_OUT_LAT : Nat := 0x400914
/-- PIP_OUT_HOLD (R200). -/
abbrev PIP_OUT_HOLD : Nat := 0x400918
/-- PIP_MOS_COUNT (R200). -/
abbrev PIP_MOS_COUNT : Nat := 0x40091C
/-- PIP_CLIP_COUNT[2] (R200). -/
abbrev PIP_CLIP_COUNT : Nat := 0x400920
/-- PIP_RAW_STATUS (R200). -/
abbrev PIP_RAW_STATUS : Nat := 0x400928
/-- PIP_SNAP_OUT (R200). -/
abbrev PIP_SNAP_OUT : Nat := 0x40092C
/-- PIP_OUT_CLEAR (R200). -/
abbrev PIP_OUT_CLEAR : Nat := 0x400930
/-- PIP_OUT_COUNT[20] (R200). -/
abbrev PIP_OUT_COUNT : Nat := 0x400940
/-- AUX_CFG (R313). -/
abbrev AUX_CFG : Nat := 0x500000
/-- AUX_STATUS (R313). -/
abbrev AUX_STATUS : Nat := 0x500004
/-- AUX_LOAD (R313). -/
abbrev AUX_LOAD : Nat := 0x500008
/-- AUX_SWITCHES (R313). -/
abbrev AUX_SWITCHES : Nat := 0x50000C
/-- AUX_ABORTS (R313). -/
abbrev AUX_ABORTS : Nat := 0x500010
/-- AUX_JOIN_STATUS (R313). -/
abbrev AUX_JOIN_STATUS : Nat := 0x500014
/-- AUX_CLEAR (R313). -/
abbrev AUX_CLEAR : Nat := 0x500018
/-- AUX_TMEM_ADDR (R313). -/
abbrev AUX_TMEM_ADDR : Nat := 0x50001C
/-- AUX_TMEM_DATA[4] (R313). -/
abbrev AUX_TMEM_DATA : Nat := 0x500020
/-- AUX_PORT_CFG[2] (R313). -/
abbrev AUX_PORT_CFG : Nat := 0x500100
/-- AUX_PORT_GEOM[2] (R313). -/
abbrev AUX_PORT_GEOM : Nat := 0x500104
/-- AUX_PORT_TLINE[2] (R313). -/
abbrev AUX_PORT_TLINE : Nat := 0x500108
/-- AUX_PORT_FILL[2] (R313). -/
abbrev AUX_PORT_FILL : Nat := 0x50010C
/-- AUX_PORT_SAT[2] (R313). -/
abbrev AUX_PORT_SAT : Nat := 0x500110
/-- AUX_PORT_LAG[2] (R313). -/
abbrev AUX_PORT_LAG : Nat := 0x500114
/-- AUX_PORT_OFFS[2] (R313). -/
abbrev AUX_PORT_OFFS : Nat := 0x500118
/-- AUX_PORT_RSTEP[2] (R313). -/
abbrev AUX_PORT_RSTEP : Nat := 0x50011C
/-- AUX_PORT_ALIGN[2] (R313). -/
abbrev AUX_PORT_ALIGN : Nat := 0x500120
/-- AUX_PORT_CFA[2] (R313). -/
abbrev AUX_PORT_CFA : Nat := 0x500124
/-- AUX_PORT_MIX[2][2] (R313). -/
abbrev AUX_PORT_MIX : Nat := 0x500128
/-- AUX_PORT_MARK[2] (R313). -/
abbrev AUX_PORT_MARK : Nat := 0x500130
/-- AUX_PORT_BLACK[2][5] (R313). -/
abbrev AUX_PORT_BLACK : Nat := 0x500134
/-- AUX_STG_EXPL[2] (R313). -/
abbrev AUX_STG_EXPL : Nat := 0x500150
/-- AUX_STG_EXPS[2] (R313). -/
abbrev AUX_STG_EXPS : Nat := 0x500154
/-- AUX_STG_GAIN[2] (R313). -/
abbrev AUX_STG_GAIN : Nat := 0x500158
/-- AUX_STG_K[2] (R313). -/
abbrev AUX_STG_K : Nat := 0x50015C
/-- AUX_EXPL[2] (R313). -/
abbrev AUX_EXPL : Nat := 0x500160
/-- AUX_EXPS[2] (R313). -/
abbrev AUX_EXPS : Nat := 0x500164
/-- AUX_GAIN[2] (R313). -/
abbrev AUX_GAIN : Nat := 0x500168
/-- AUX_K[2] (R313). -/
abbrev AUX_K : Nat := 0x50016C
/-- AUX_PORT_STATUS[2] (R313). -/
abbrev AUX_PORT_STATUS : Nat := 0x500180
/-- AUX_PORT_CTX[2] (R313). -/
abbrev AUX_PORT_CTX : Nat := 0x500184
/-- AUX_PORT_FRAMES[2] (R313). -/
abbrev AUX_PORT_FRAMES : Nat := 0x500188
/-- AUX_PORT_LAST[2] (R313). -/
abbrev AUX_PORT_LAST : Nat := 0x50018C
/-- AUX_PORT_CHK[2] (R313). -/
abbrev AUX_PORT_CHK : Nat := 0x500190
/-- AUX_PORT_LINEERR[2] (R313). -/
abbrev AUX_PORT_LINEERR : Nat := 0x500194
/-- AUX_PORT_FRAMEERR[2] (R313). -/
abbrev AUX_PORT_FRAMEERR : Nat := 0x500198
/-- AUX_PORT_DROP[2] (R313). -/
abbrev AUX_PORT_DROP : Nat := 0x50019C
/-- AUX_PORT_STORE[2] (R313). -/
abbrev AUX_PORT_STORE : Nat := 0x5001A0
/-- AUX_PORT_RING[2] (R313). -/
abbrev AUX_PORT_RING : Nat := 0x5001A4
/-- AUX_PORT_STAMP[2] (R313). -/
abbrev AUX_PORT_STAMP : Nat := 0x5001A8
/-- AUX_BUS_CFG[2] (R313). -/
abbrev AUX_BUS_CFG : Nat := 0x5001C0
/-- AUX_BUS_ID[2] (R313). -/
abbrev AUX_BUS_ID : Nat := 0x5001C4
/-- AUX_BUS_STATUS[2] (R313). -/
abbrev AUX_BUS_STATUS : Nat := 0x5001C8
/-- AUX_EXP_REG[2] (R313). -/
abbrev AUX_EXP_REG : Nat := 0x5001CC
/-- AUX_GAIN_REG[2] (R313). -/
abbrev AUX_GAIN_REG : Nat := 0x5001D0
/-- AUX_LOOP_CFG[2] (R313). -/
abbrev AUX_LOOP_CFG : Nat := 0x5001D4
/-- AUX_LOOP_TGT[2] (R313). -/
abbrev AUX_LOOP_TGT : Nat := 0x5001D8
/-- AUX_LOOP_LIM[2] (R313). -/
abbrev AUX_LOOP_LIM : Nat := 0x5001DC
/-- AUX_LOOP_STATUS[2] (R313). -/
abbrev AUX_LOOP_STATUS : Nat := 0x5001E0
/-- AUX_CTX_K[2][4] (R313). -/
abbrev AUX_CTX_K : Nat := 0x500400
/-- AUX_CTX_RHO[2][4] (R313). -/
abbrev AUX_CTX_RHO : Nat := 0x500404
/-- AUX_CTX_BLACK[2][4] (R313). -/
abbrev AUX_CTX_BLACK : Nat := 0x500408
/-- AUX_CTX_INFO[2][4] (R313). -/
abbrev AUX_CTX_INFO : Nat := 0x50040C
/-- VDT_SEG_CFG (R245). -/
abbrev VDT_SEG_CFG : Nat := 0x600000
/-- VDT_SEG_TH[2] (R245). -/
abbrev VDT_SEG_TH : Nat := 0x600004
/-- VDT_SEG_REF[2] (R245). -/
abbrev VDT_SEG_REF : Nat := 0x60000C
/-- VDT_VEL_CFG (R245). -/
abbrev VDT_VEL_CFG : Nat := 0x600014
/-- VDT_VEL_WIN (R245). -/
abbrev VDT_VEL_WIN : Nat := 0x600018
/-- VDT_FEAT_CFG (R245). -/
abbrev VDT_FEAT_CFG : Nat := 0x60001C
/-- VDT_ABS_CFG (R245). -/
abbrev VDT_ABS_CFG : Nat := 0x600020
/-- VDT_CLS_CFG (R245). -/
abbrev VDT_CLS_CFG : Nat := 0x600024
/-- VDT_PROG_CFG (R245). -/
abbrev VDT_PROG_CFG : Nat := 0x600028
/-- VDT_EJ_MARGIN (R245). -/
abbrev VDT_EJ_MARGIN : Nat := 0x60002C
/-- VDT_OBJ_SEL (R245). -/
abbrev VDT_OBJ_SEL : Nat := 0x600030
/-- VDT_OBJ_STATE (R245). -/
abbrev VDT_OBJ_STATE : Nat := 0x600034
/-- VDT_PROG_INFO[16] (R245). -/
abbrev VDT_PROG_INFO : Nat := 0x600040
/-- VDT_XW_CFG (R245). -/
abbrev VDT_XW_CFG : Nat := 0x600080
/-- VDT_XW_MCOL0 (R245). -/
abbrev VDT_XW_MCOL0 : Nat := 0x600084
/-- VDT_XW_WIN (R245). -/
abbrev VDT_XW_WIN : Nat := 0x600088
/-- VDT_XW_PDL (R245). -/
abbrev VDT_XW_PDL : Nat := 0x60008C
/-- VDT_XW_COUNT[4] (R245). -/
abbrev VDT_XW_COUNT : Nat := 0x600090
/-- VDT_OBJ_STATUS (R245). -/
abbrev VDT_OBJ_STATUS : Nat := 0x600100
/-- VDT_OBJ_COUNT (R245). -/
abbrev VDT_OBJ_COUNT : Nat := 0x600104
/-- VDT_DROP_COUNT (R245). -/
abbrev VDT_DROP_COUNT : Nat := 0x600108
/-- VDT_QUEUE (R245). -/
abbrev VDT_QUEUE : Nat := 0x60010C
/-- VDT_VERDICT_COUNT[16] (R245). -/
abbrev VDT_VERDICT_COUNT : Nat := 0x600110
/-- VDT_VSRC_COUNT[8] (R245). -/
abbrev VDT_VSRC_COUNT : Nat := 0x600150
/-- VDT_CORE_LOAD (R245). -/
abbrev VDT_CORE_LOAD : Nat := 0x600170
/-- VDT_SEG_STATUS[12] (R245). -/
abbrev VDT_SEG_STATUS : Nat := 0x600180
/-- VDT_OBJ_REC[12] (R245). -/
abbrev VDT_OBJ_REC : Nat := 0x6001B0
/-- VDT_CLEAR (R245). -/
abbrev VDT_CLEAR : Nat := 0x6001E0
/-- VDT_GUST_CFG (R274). -/
abbrev VDT_GUST_CFG : Nat := 0x600200
/-- VDT_GUST_VR (R274). -/
abbrev VDT_GUST_VR : Nat := 0x600204
/-- VDT_VR_MEAN (R274). -/
abbrev VDT_VR_MEAN : Nat := 0x600208
/-- VDT_FLY_G (R274). -/
abbrev VDT_FLY_G : Nat := 0x60020C
/-- VDT_FLY_STEP (R274). -/
abbrev VDT_FLY_STEP : Nat := 0x600210
/-- VDT_EJ_TICK (R274). -/
abbrev VDT_EJ_TICK : Nat := 0x600214
/-- VDT_EJ_WIN (R274). -/
abbrev VDT_EJ_WIN : Nat := 0x600218
/-- VDT_EJ_ARM (R274). -/
abbrev VDT_EJ_ARM : Nat := 0x60021C
/-- VDT_EJ_OPEN (R274). -/
abbrev VDT_EJ_OPEN : Nat := 0x600220
/-- VDT_EJ_FRAME (R274). -/
abbrev VDT_EJ_FRAME : Nat := 0x600224
/-- VDT_VB_CFG[8] (R274). -/
abbrev VDT_VB_CFG : Nat := 0x600230
/-- VDT_VB_D[8] (R274). -/
abbrev VDT_VB_D : Nat := 0x600250
/-- VDT_VB_LEAD[8] (R274). -/
abbrev VDT_VB_LEAD : Nat := 0x600270
/-- VDT_GUST_COUNT[8] (R274). -/
abbrev VDT_GUST_COUNT : Nat := 0x600290
/-- VDT_EJ_STATUS (R274). -/
abbrev VDT_EJ_STATUS : Nat := 0x6002B0
/-- VDT_COMMIT_MARGIN (R274). -/
abbrev VDT_COMMIT_MARGIN : Nat := 0x6002B4
/-- VDT_GUST_CLEAR (R274). -/
abbrev VDT_GUST_CLEAR : Nat := 0x6002B8
/-- VDT_COMMIT_LAST (R274). -/
abbrev VDT_COMMIT_LAST : Nat := 0x6002BC
/-- LNK_CFG (R354). -/
abbrev LNK_CFG : Nat := 0x700000
/-- LNK_ROUTE0 (R354). -/
abbrev LNK_ROUTE0 : Nat := 0x700004
/-- LNK_ROUTE1 (R354). -/
abbrev LNK_ROUTE1 : Nat := 0x700008
/-- LNK_AGE_LIM (R354). -/
abbrev LNK_AGE_LIM : Nat := 0x70000C
/-- LNK_FOM_CFG (R354). -/
abbrev LNK_FOM_CFG : Nat := 0x700010
/-- LNK_MOVE_CMD (R354). -/
abbrev LNK_MOVE_CMD : Nat := 0x700014
/-- LNK_STATUS (R354). -/
abbrev LNK_STATUS : Nat := 0x700018
/-- LNK_BUF (R354). -/
abbrev LNK_BUF : Nat := 0x70001C
/-- LNK_CLEAR (R354). -/
abbrev LNK_CLEAR : Nat := 0x700020
/-- LNK_RESENT (R354). -/
abbrev LNK_RESENT : Nat := 0x700024
/-- LNK_ANN[4] (R354). -/
abbrev LNK_ANN : Nat := 0x700030
/-- LNK_SET_CFG[4] (R354). -/
abbrev LNK_SET_CFG : Nat := 0x700100
/-- LNK_SET_STATUS[4] (R354). -/
abbrev LNK_SET_STATUS : Nat := 0x700104
/-- LNK_SET_LANES[4][4] (R354). -/
abbrev LNK_SET_LANES : Nat := 0x700108
/-- LNK_SET_MAP[4][4] (R354). -/
abbrev LNK_SET_MAP : Nat := 0x700118
/-- LNK_SET_SWN_LO[4] (R354). -/
abbrev LNK_SET_SWN_LO : Nat := 0x700128
/-- LNK_SET_SWN_HI[4] (R354). -/
abbrev LNK_SET_SWN_HI : Nat := 0x70012C
/-- LNK_SET_SEQ[4] (R354). -/
abbrev LNK_SET_SEQ : Nat := 0x700130
/-- LNK_SET_AGE[4] (R354). -/
abbrev LNK_SET_AGE : Nat := 0x700134
/-- LNK_SET_DROP[4][4] (R354). -/
abbrev LNK_SET_DROP : Nat := 0x700138
/-- LNK_DT_CFG[24] (R354). -/
abbrev LNK_DT_CFG : Nat := 0x700400
/-- LNK_DT_STATUS[24] (R354). -/
abbrev LNK_DT_STATUS : Nat := 0x700404
/-- LNK_DT_MON[24] (R354). -/
abbrev LNK_DT_MON : Nat := 0x700408
/-- LNK_DT_COUNT[24] (R354). -/
abbrev LNK_DT_COUNT : Nat := 0x70040C
/-- LNK_DT_TEST[24] (R354). -/
abbrev LNK_DT_TEST : Nat := 0x700410
/-- LNK_XW_CFG[4] (R354). -/
abbrev LNK_XW_CFG : Nat := 0x700800
/-- LNK_XW_STATUS[4] (R354). -/
abbrev LNK_XW_STATUS : Nat := 0x700804
/-- LNK_XW_EQ[4] (R354). -/
abbrev LNK_XW_EQ : Nat := 0x700808
/-- LNK_XW_PRESET[4] (R354). -/
abbrev LNK_XW_PRESET : Nat := 0x70080C
/-- LNK_XW_FOM[4] (R354). -/
abbrev LNK_XW_FOM : Nat := 0x700810
/-- LNK_XW_ERR[4] (R354). -/
abbrev LNK_XW_ERR : Nat := 0x700814
/-- LNK_XW_CREDIT[4] (R354). -/
abbrev LNK_XW_CREDIT : Nat := 0x700818
/-- LNK_XW_TX[4] (R354). -/
abbrev LNK_XW_TX : Nat := 0x70081C
/-- LNK_XW_RX[4] (R354). -/
abbrev LNK_XW_RX : Nat := 0x700820
/-- LNK_XW_DUP[4] (R354). -/
abbrev LNK_XW_DUP : Nat := 0x700824
/-- LNK_XW_ADAPT[4] (R354). -/
abbrev LNK_XW_ADAPT : Nat := 0x700828
/-- LNK_XW_RTT[4] (R354). -/
abbrev LNK_XW_RTT : Nat := 0x70082C
/-- LNK_XW_PEER_LO[4] (R354). -/
abbrev LNK_XW_PEER_LO : Nat := 0x700830
/-- LNK_XW_PEER_HI[4] (R354). -/
abbrev LNK_XW_PEER_HI : Nat := 0x700834
/-- PEN_START (R383). -/
abbrev PEN_START : Nat := 0x800000
/-- PEN_HALT (R383). -/
abbrev PEN_HALT : Nat := 0x800004
/-- PEN_RUN (R383). -/
abbrev PEN_RUN : Nat := 0x800008
/-- PEN_SIG (R383). -/
abbrev PEN_SIG : Nat := 0x80000C
/-- PEN_PMEM_ADDR (R383). -/
abbrev PEN_PMEM_ADDR : Nat := 0x800010
/-- PEN_PMEM_DATA (R383). -/
abbrev PEN_PMEM_DATA : Nat := 0x800014
/-- PEN_SEL (R383). -/
abbrev PEN_SEL : Nat := 0x800018
/-- PEN_FIFO_IN (R383). -/
abbrev PEN_FIFO_IN : Nat := 0x80001C
/-- PEN_FIFO_OUT (R383). -/
abbrev PEN_FIFO_OUT : Nat := 0x800020
/-- PEN_X (R383). -/
abbrev PEN_X : Nat := 0x800024
/-- PEN_Y (R383). -/
abbrev PEN_Y : Nat := 0x800028
/-- PEN_CLEAR (R383). -/
abbrev PEN_CLEAR : Nat := 0x80002C
/-- PEN_MON[4] (R383). -/
abbrev PEN_MON : Nat := 0x800030
/-- PEN_LEVEL[3] (R383). -/
abbrev PEN_LEVEL : Nat := 0x800040
/-- PEN_OVERRATE[3] (R383). -/
abbrev PEN_OVERRATE : Nat := 0x800050
/-- PEN_STUCK[3] (R383). -/
abbrev PEN_STUCK : Nat := 0x800060
/-- PEN_ST_SENSE (R383). -/
abbrev PEN_ST_SENSE : Nat := 0x800070
/-- PEN_ST_COUNT[4] (R383). -/
abbrev PEN_ST_COUNT : Nat := 0x800074
/-- PEN_ENG_CFG[16] (R383). -/
abbrev PEN_ENG_CFG : Nat := 0x800100
/-- PEN_ENG_PINS[16] (R383). -/
abbrev PEN_ENG_PINS : Nat := 0x800104
/-- PEN_ENG_PROG[16] (R383). -/
abbrev PEN_ENG_PROG : Nat := 0x800108
/-- PEN_ENG_STATUS[16] (R383). -/
abbrev PEN_ENG_STATUS : Nat := 0x80010C
/-- PEN_ENG_COUNT[16] (R383). -/
abbrev PEN_ENG_COUNT : Nat := 0x800110
/-- PEN_PIN_CFG[80] (R383). -/
abbrev PEN_PIN_CFG : Nat := 0x800400
/-- PEN_ST_CFG[16] (R383). -/
abbrev PEN_ST_CFG : Nat := 0x800600
/-- NRG_ENV (R409). -/
abbrev NRG_ENV : Nat := 0x900000
/-- NRG_GUARD_CFG (R409). -/
abbrev NRG_GUARD_CFG : Nat := 0x900004
/-- NRG_INPUT_V (R409). -/
abbrev NRG_INPUT_V : Nat := 0x900008
/-- NRG_INPUT_I (R409). -/
abbrev NRG_INPUT_I : Nat := 0x90000C
/-- NRG_INPUT_P[3] (R409). -/
abbrev NRG_INPUT_P : Nat := 0x900010
/-- NRG_INPUT_PMAX (R409). -/
abbrev NRG_INPUT_PMAX : Nat := 0x90001C
/-- NRG_E_TOTAL_LO (R409). -/
abbrev NRG_E_TOTAL_LO : Nat := 0x900020
/-- NRG_E_TOTAL_HI (R409). -/
abbrev NRG_E_TOTAL_HI : Nat := 0x900024
/-- NRG_STATUS (R409). -/
abbrev NRG_STATUS : Nat := 0x900028
/-- NRG_PF_STATUS (R409). -/
abbrev NRG_PF_STATUS : Nat := 0x90002C
/-- NRG_LEDGER_SEL (R409). -/
abbrev NRG_LEDGER_SEL : Nat := 0x900030
/-- NRG_LEDGER[8] (R409). -/
abbrev NRG_LEDGER : Nat := 0x900040
/-- NRG_PLAN_DOM[13] (R409). -/
abbrev NRG_PLAN_DOM : Nat := 0x900060
/-- NRG_COEF_SEL (R409). -/
abbrev NRG_COEF_SEL : Nat := 0x9000A0
/-- NRG_COEF (R409). -/
abbrev NRG_COEF : Nat := 0x9000A4
/-- NRG_GRANT (R409). -/
abbrev NRG_GRANT : Nat := 0x9000B0
/-- NRG_GRANT_COUNT (R409). -/
abbrev NRG_GRANT_COUNT : Nat := 0x9000B4
/-- NRG_INPUT_VMIN (R409). -/
abbrev NRG_INPUT_VMIN : Nat := 0x9000B8
/-- NRG_INPUT_VMAX (R409). -/
abbrev NRG_INPUT_VMAX : Nat := 0x9000BC
/-- NRG_PLAN_STEP[4] (R409). -/
abbrev NRG_PLAN_STEP : Nat := 0x9000C0
/-- NRG_GRANT_WAIT[5] (R409). -/
abbrev NRG_GRANT_WAIT : Nat := 0x9000D0
/-- NRG_PLAN_TERM[11] (R409). -/
abbrev NRG_PLAN_TERM : Nat := 0x900100
/-- NRG_E_DOM[14] (R409). -/
abbrev NRG_E_DOM : Nat := 0x900140
/-- NRG_SHED_LOG[8] (R409). -/
abbrev NRG_SHED_LOG : Nat := 0x900180
/-- THM_CFG (R440). -/
abbrev THM_CFG : Nat := 0xA00000
/-- THM_STATUS (R440). -/
abbrev THM_STATUS : Nat := 0xA00004
/-- THM_RATE (R440). -/
abbrev THM_RATE : Nat := 0xA00008
/-- THM_HK_STATUS (R440). -/
abbrev THM_HK_STATUS : Nat := 0xA0000C
/-- THM_SH[2] (R440). -/
abbrev THM_SH : Nat := 0xA00010
/-- THM_TRIP_STATUS (R440). -/
abbrev THM_TRIP_STATUS : Nat := 0xA00018
/-- THM_RESTART (R440). -/
abbrev THM_RESTART : Nat := 0xA0001C
/-- THM_ROUND (R440). -/
abbrev THM_ROUND : Nat := 0xA00020
/-- THM_URGENT (R440). -/
abbrev THM_URGENT : Nat := 0xA00024
/-- THM_CLEAR (R440). -/
abbrev THM_CLEAR : Nat := 0xA00028
/-- THM_TH (R440). -/
abbrev THM_TH : Nat := 0xA0002C
/-- THM_TS[16] (R440). -/
abbrev THM_TS : Nat := 0xA00040
/-- THM_RAIL[6] (R440). -/
abbrev THM_RAIL : Nat := 0xA00080
/-- THM_AIN[8] (R440). -/
abbrev THM_AIN : Nat := 0xA000A0
/-- THM_AIN_CFG[8] (R440). -/
abbrev THM_AIN_CFG : Nat := 0xA000C0
/-- MGT_BUDGET_ROW (R39). -/
abbrev MGT_BUDGET_ROW : Nat := 0xB00100
/-- MGT_BUDGET_NRG (R39). -/
abbrev MGT_BUDGET_NRG : Nat := 0xB00104
/-- MGT_SHED_STATUS (R39). -/
abbrev MGT_SHED_STATUS : Nat := 0xB00108
/-- MGT_BUDGET_LANE[4] (R39). -/
abbrev MGT_BUDGET_LANE : Nat := 0xB00110
/-- MGT_STATE (R471). -/
abbrev MGT_STATE : Nat := 0xB00200
/-- MGT_SLOT_STATUS[2] (R471). -/
abbrev MGT_SLOT_STATUS : Nat := 0xB00204
/-- MGT_SLOT_SEQ[2] (R471). -/
abbrev MGT_SLOT_SEQ : Nat := 0xB0020C
/-- MGT_BOOT_COUNT (R471). -/
abbrev MGT_BOOT_COUNT : Nat := 0xB00214
/-- MGT_OTP_STATUS (R471). -/
abbrev MGT_OTP_STATUS : Nat := 0xB00218
/-- MGT_BOOT_CMD (R471). -/
abbrev MGT_BOOT_CMD : Nat := 0xB0021C
/-- MGT_SU_TIME (R471). -/
abbrev MGT_SU_TIME : Nat := 0xB00220
/-- MGT_CFG_DIGEST[16] (R471). -/
abbrev MGT_CFG_DIGEST : Nat := 0xB00240
/-- MGT_NV_ADDR (R471). -/
abbrev MGT_NV_ADDR : Nat := 0xB00280
/-- MGT_NV_CMD (R471). -/
abbrev MGT_NV_CMD : Nat := 0xB00284
/-- MGT_NV_STATUS (R471). -/
abbrev MGT_NV_STATUS : Nat := 0xB00288
/-- MGT_PAIR_STATUS[4] (R471). -/
abbrev MGT_PAIR_STATUS : Nat := 0xB00290
/-- MGT_CFG_FAULT (R471). -/
abbrev MGT_CFG_FAULT : Nat := 0xB002A0
/-- MGT_NV_BUF[64] (R471). -/
abbrev MGT_NV_BUF : Nat := 0xB00300
/-- MGT_ATT_NONCE[8] (R471). -/
abbrev MGT_ATT_NONCE : Nat := 0xB00400
/-- MGT_ATT_CMD (R471). -/
abbrev MGT_ATT_CMD : Nat := 0xB00420
/-- MGT_ATT_STATUS (R471). -/
abbrev MGT_ATT_STATUS : Nat := 0xB00424
/-- MGT_ATT_SEL (R471). -/
abbrev MGT_ATT_SEL : Nat := 0xB00428
/-- MGT_ATT_DATA[4] (R471). -/
abbrev MGT_ATT_DATA : Nat := 0xB00430
/-- MGT_SU_STEP[8] (R471). -/
abbrev MGT_SU_STEP : Nat := 0xB00480
/-- MGT_GEOM_DIGEST[16] (R471). -/
abbrev MGT_GEOM_DIGEST : Nat := 0xB004C0
/-- MGT_MB_CFG (R500). -/
abbrev MGT_MB_CFG : Nat := 0xB00500
/-- MGT_MB_STATUS (R500). -/
abbrev MGT_MB_STATUS : Nat := 0xB00504
/-- MGT_MB_COUNT[4] (R500). -/
abbrev MGT_MB_COUNT : Nat := 0xB00508
/-- MGT_MB_CLEAR (R500). -/
abbrev MGT_MB_CLEAR : Nat := 0xB00518
/-- MGT_REC_STATUS (R527). -/
abbrev MGT_REC_STATUS : Nat := 0xB00600
/-- MGT_REC_CURSOR (R527). -/
abbrev MGT_REC_CURSOR : Nat := 0xB00604
/-- MGT_REC_SEEK (R527). -/
abbrev MGT_REC_SEEK : Nat := 0xB00608
/-- MGT_REC_RSTAT (R527). -/
abbrev MGT_REC_RSTAT : Nat := 0xB0060C
/-- MGT_REC_SEQ (R527). -/
abbrev MGT_REC_SEQ : Nat := 0xB00610
/-- MGT_REC_CFG (R527). -/
abbrev MGT_REC_CFG : Nat := 0xB00614
/-- MGT_REC_CREDIT (R527). -/
abbrev MGT_REC_CREDIT : Nat := 0xB00618
/-- MGT_REC_BACKLOG (R527). -/
abbrev MGT_REC_BACKLOG : Nat := 0xB0061C
/-- MGT_REC_SENT[8] (R527). -/
abbrev MGT_REC_SENT : Nat := 0xB00620
/-- MGT_REC_WIN[16] (R527). -/
abbrev MGT_REC_WIN : Nat := 0xB00640
/-- MGT_REC_MCOUNT (R527). -/
abbrev MGT_REC_MCOUNT : Nat := 0xB00680
/-- MGT_REC_CLEAR (R527). -/
abbrev MGT_REC_CLEAR : Nat := 0xB00684
/-- MGT_RST_CMD (R527). -/
abbrev MGT_RST_CMD : Nat := 0xB00700
/-- MGT_RST_STATUS (R527). -/
abbrev MGT_RST_STATUS : Nat := 0xB00704
/-- MGT_RST_CFG (R527). -/
abbrev MGT_RST_CFG : Nat := 0xB00708
/-- MGT_RST_LAST (R527). -/
abbrev MGT_RST_LAST : Nat := 0xB0070C
/-- MGT_RST_COUNT (R527). -/
abbrev MGT_RST_COUNT : Nat := 0xB00710
/-- MGT_RST_HELD[4] (R527). -/
abbrev MGT_RST_HELD : Nat := 0xB00720
/-- MGT_SLOT_DIGEST[2][16] (R471). -/
abbrev MGT_SLOT_DIGEST : Nat := 0xB00800

end Reg

/-- Registers of PAGE0, part 1. -/
def regsPage00 : List RegDef := [
  ⟨"MGT_ID_PART", 0x000000, [], [0x0],
    []⟩,
  ⟨"MGT_ID_STEP", 0x000004, [], [0x0],
    []⟩,
  ⟨"MGT_ID_DEV_LO", 0x000008, [], [0x0],
    []⟩,
  ⟨"MGT_ID_DEV_HI", 0x00000C, [], [0x0],
    []⟩,
  ⟨"MGT_ID_CAPS", 0x000010, [], [0x18421008],
    []⟩,
  ⟨"MGT_SUM", 0x000020, [], [0x0],
    []⟩,
  ⟨"MGT_SUM_PRIV", 0x000024, [], [0x0],
    []⟩,
  ⟨"MGT_SUM_FAULT", 0x000028, [], [0x0],
    []⟩,
  ⟨"MGT_SCRATCH", 0x00002C, [], [0x0],
    [⟨31, 0, .rw, 0, 4294967295⟩]⟩]

/-- The registers of PAGE0. -/
def regsPage0 : List RegDef := regsPage00

/-- Registers of ARY, part 1. -/
def regsAry0 : List RegDef := [
  ⟨"ARY_MODE_CFG", 0x100000, [], [0x0],
    [⟨2, 0, .rwh, 0, 7⟩]⟩,
  ⟨"ARY_GEOM_CFG", 0x100004, [], [0x3E8],
    [⟨11, 0, .rwh, 1000, 4000⟩]⟩,
  ⟨"ARY_FMAX", 0x100008, [], [0x0],
    [⟨15, 0, .rwh, 1000, 50000⟩]⟩,
  ⟨"ARY_FREERUN", 0x10000C, [], [0x3E8],
    [⟨15, 0, .rwh, 1000, 50000⟩]⟩,
  ⟨"ARY_SNAP_CFG", 0x100010, [], [0x14],
    [⟨31, 31, .rw, 0, 1⟩, ⟨17, 16, .rw, 0, 3⟩, ⟨15, 0, .rw, 20, 65535⟩]⟩,
  ⟨"ARY_SNAP_CMD", 0x100014, [], [0x0],
    [⟨0, 0, .wo, 0, 1⟩]⟩,
  ⟨"ARY_APPLY_L", 0x100018, [], [0x0],
    [⟨31, 0, .rw, 0, 4294967295⟩]⟩,
  ⟨"ARY_APPLY", 0x10001C, [], [0x0],
    [⟨1, 0, .wo, 0, 3⟩]⟩,
  ⟨"ARY_SNAP_STATUS", 0x100020, [], [0x0],
    []⟩,
  ⟨"ARY_APPLY_STATUS", 0x100024, [], [0x0],
    []⟩,
  ⟨"ARY_TOCC", 0x100028, [], [0x0],
    []⟩,
  ⟨"ARY_TX_PW", 0x10002C, [(4, 5)], [0x20, 0x24, 0x28, 0x30, 0x3C],
    [⟨5, 0, .rwh, 20, 60⟩]⟩,
  ⟨"ARY_STATUS", 0x100040, [], [0x0],
    []⟩,
  ⟨"ARY_LIVE", 0x100044, [], [0x0],
    []⟩,
  ⟨"ARY_STG_SLOT", 0x100080, [(4, 4)], [0x0],
    [⟨31, 16, .rw, 0, 65535⟩, ⟨15, 0, .rw, 0, 65535⟩]⟩,
  ⟨"ARY_STG_GWIN", 0x100090, [], [0x900],
    [⟨27, 16, .rw, 0, 2303⟩, ⟨11, 0, .rw, 1, 2304⟩]⟩,
  ⟨"ARY_STG_RDSTART", 0x100094, [], [0x0],
    [⟨15, 0, .rw, 0, 65535⟩]⟩,
  ⟨"ARY_STG_BAND", 0x1000A0, [(4, 9)], [0x0],
    [⟨31, 16, .rw, 0, 65535⟩, ⟨11, 10, .rw, 0, 3⟩, ⟨9, 8, .rw, 0, 2⟩]⟩,
  ⟨"ARY_STG_ROWCLS", 0x1000C8, [(4, 9)], [0x0],
    [⟨1, 0, .rw, 0, 3⟩, ⟨3, 2, .rw, 0, 3⟩, ⟨5, 4, .rw, 0, 3⟩, ⟨7, 6, .rw, 0, 3⟩, ⟨9, 8, .rw, 0, 3⟩, ⟨11, 10, .rw, 0, 3⟩, ⟨13, 12, .rw, 0, 3⟩, ⟨15, 14, .rw, 0, 3⟩, ⟨17, 16, .rw, 0, 3⟩, ⟨19, 18, .rw, 0, 3⟩, ⟨21, 20, .rw, 0, 3⟩, ⟨23, 22, .rw, 0, 3⟩, ⟨25, 24, .rw, 0, 3⟩, ⟨27, 26, .rw, 0, 3⟩, ⟨29, 28, .rw, 0, 3⟩, ⟨31, 30, .rw, 0, 3⟩]⟩,
  ⟨"ARY_STG_WIN", 0x1000F0, [(4, 9)], [0x80000000],
    [⟨31, 31, .rw, 0, 1⟩, ⟨27, 16, .rw, 0, 2303⟩, ⟨11, 0, .rw, 0, 2304⟩]⟩,
  ⟨"ARY_STG_EXP", 0x100120, [(12, 9), (4, 3)], [0x14],
    [⟨31, 31, .rw, 0, 1⟩, ⟨15, 0, .rw, 20, 65535⟩]⟩,
  ⟨"ARY_STG_SLOT", 0x100200, [(4, 4)], [0x0],
    []⟩,
  ⟨"ARY_STG_GWIN", 0x100210, [], [0x0],
    []⟩,
  ⟨"ARY_STG_RDSTART", 0x100214, [], [0x0],
    []⟩]

/-- Registers of ARY, part 2. -/
def regsAry1 : List RegDef := [
  ⟨"ARY_STG_BAND", 0x100220, [(4, 9)], [0x0],
    []⟩,
  ⟨"ARY_STG_ROWCLS", 0x100248, [(4, 9)], [0x0],
    []⟩,
  ⟨"ARY_STG_WIN", 0x100270, [(4, 9)], [0x0],
    []⟩,
  ⟨"ARY_STG_EXP", 0x1002A0, [(12, 9), (4, 3)], [0x0],
    []⟩]

/-- The registers of ARY. -/
def regsAry : List RegDef := regsAry0 ++ regsAry1

/-- Registers of COL, part 1. -/
def regsCol0 : List RegDef := [
  ⟨"COL_CFG", 0x200000, [], [0x101],
    [⟨8, 8, .rwh, 0, 1⟩, ⟨0, 0, .rwh, 0, 1⟩]⟩,
  ⟨"COL_AUDIT_CFG", 0x200004, [], [0xC620C000],
    [⟨31, 31, .rwh, 0, 1⟩, ⟨30, 30, .rwh, 0, 1⟩, ⟨29, 24, .rwh, 0, 63⟩, ⟨23, 19, .rwh, 0, 31⟩, ⟨18, 12, .rwh, 1, 127⟩]⟩,
  ⟨"COL_GROSS_CFG", 0x20000C, [], [0x40004008],
    [⟨31, 20, .rwh, 0, 4095⟩, ⟨19, 8, .rwh, 0, 4095⟩, ⟨3, 0, .rwh, 1, 15⟩]⟩,
  ⟨"COL_BLK_CFG", 0x200010, [], [0x4],
    [⟨7, 0, .rwh, 0, 255⟩]⟩,
  ⟨"COL_BLK_STATUS", 0x200014, [], [0x0],
    []⟩,
  ⟨"COL_SUMMARY", 0x200018, [], [0x0],
    []⟩,
  ⟨"COL_SEL", 0x20001C, [], [0x0],
    [⟨7, 0, .rw, 0, 191⟩]⟩,
  ⟨"COL_TB_CFG", 0x200024, [(4, 5)], [0x1C06, 0x1D07, 0x1E08, 0x2009, 0x220A],
    [⟨13, 8, .rwh, 24, 34⟩, ⟨3, 0, .rwh, 0, 15⟩]⟩,
  ⟨"COL_STG_CAG", 0x200040, [(4, 9)], [0x0],
    [⟨5, 4, .rw, 0, 3⟩, ⟨3, 2, .rw, 0, 3⟩, ⟨1, 0, .rw, 0, 3⟩]⟩,
  ⟨"COL_CAG", 0x200070, [(4, 9)], [0x0],
    []⟩,
  ⟨"COL_BASE", 0x2000A0, [(4, 4)], [0x0],
    []⟩,
  ⟨"COL_IDLE", 0x2000B0, [(4, 6)], [0x0],
    []⟩,
  ⟨"COL_SEC_STATUS", 0x2000D0, [(4, 12)], [0x0],
    []⟩,
  ⟨"COL_SUSP_WIN", 0x200100, [(4, 13)], [0x0],
    []⟩,
  ⟨"COL_AUDCNT_WIN", 0x200140, [(4, 20)], [0x0],
    []⟩,
  ⟨"COL_TRIM_WIN", 0x200200, [(4, 101)], [0x0],
    []⟩,
  ⟨"COL_SLS_STATUS", 0x201000, [(32, 192)], [0xFE01FC0],
    []⟩,
  ⟨"COL_SLS_MAP", 0x201004, [(32, 192)], [0xFE7F3F80],
    []⟩,
  ⟨"COL_SLS_DEFECT", 0x201008, [(32, 192)], [0x1FFFFF],
    []⟩,
  ⟨"COL_SLS_COUNT", 0x20100C, [(32, 192)], [0x0],
    []⟩,
  ⟨"COL_SLS_REF", 0x201010, [(32, 192)], [0xC0],
    []⟩]

/-- The registers of COL. -/
def regsCol : List RegDef := regsCol0

/-- Registers of TBS, part 1. -/
def regsTbs0 : List RegDef := [
  ⟨"TBS_SRC_CFG", 0x300000, [], [0x0],
    [⟨19, 16, .rwh, 0, 15⟩, ⟨11, 11, .rwh, 0, 1⟩, ⟨10, 8, .rwh, 0, 2⟩, ⟨7, 4, .rwh, 0, 10⟩, ⟨3, 2, .rwh, 0, 2⟩, ⟨1, 0, .rwh, 0, 3⟩]⟩,
  ⟨"TBS_SCALE", 0x300004, [], [0x10001],
    [⟨31, 16, .rwh, 0, 65535⟩, ⟨15, 0, .rwh, 0, 65535⟩]⟩,
  ⟨"TBS_LINE_CFG", 0x300008, [], [0x10],
    [⟨31, 16, .rwh, 0, 65535⟩, ⟨15, 0, .rwh, 16, 65535⟩]⟩,
  ⟨"TBS_SYN_RATE", 0x30000C, [], [0x0],
    [⟨31, 0, .rwh, 0, 838860800⟩]⟩,
  ⟨"TBS_VEL_CFG", 0x300010, [], [0x1E000A],
    [⟨23, 16, .rwh, 0, 250⟩, ⟨3, 0, .rwh, 4, 15⟩]⟩,
  ⟨"TBS_MOTION_CFG", 0x300014, [], [0x400A0000],
    [⟨31, 31, .rwh, 0, 1⟩, ⟨30, 30, .rwh, 0, 1⟩, ⟨29, 23, .rwh, 0, 79⟩, ⟨19, 16, .rwh, 0, 15⟩]⟩,
  ⟨"TBS_LS_DELAY", 0x300018, [], [0x320],
    [⟨11, 0, .rwh, 400, 4000⟩]⟩,
  ⟨"TBS_SYNC_CFG", 0x30001C, [], [0x400C8],
    [⟨31, 30, .rwh, 0, 2⟩, ⟨29, 20, .rwh, 0, 1023⟩, ⟨19, 19, .rw, 0, 1⟩, ⟨18, 18, .rw, 0, 1⟩, ⟨17, 17, .rw, 0, 1⟩, ⟨10, 0, .rw, 20, 2000⟩]⟩,
  ⟨"TBS_XW_CFG", 0x300020, [], [0x0],
    [⟨7, 4, .rwh, 0, 15⟩, ⟨3, 0, .rwh, 0, 15⟩]⟩,
  ⟨"TBS_P_LO", 0x300040, [], [0x0],
    []⟩,
  ⟨"TBS_P_HI", 0x300044, [], [0x0],
    []⟩,
  ⟨"TBS_L", 0x300048, [], [0x0],
    []⟩,
  ⟨"TBS_VEL", 0x30004C, [], [0x0],
    []⟩,
  ⟨"TBS_T_LO", 0x300050, [], [0x0],
    []⟩,
  ⟨"TBS_T_HI", 0x300054, [], [0x0],
    []⟩,
  ⟨"TBS_SECONDS", 0x300058, [], [0x0],
    []⟩,
  ⟨"TBS_STATE", 0x30005C, [], [0x0],
    []⟩,
  ⟨"TBS_XW_STATUS", 0x300060, [], [0x0],
    [⟨4, 4, .w1c, 0, 1⟩]⟩,
  ⟨"TBS_REV_DEFICIT", 0x300064, [], [0x0],
    []⟩,
  ⟨"TBS_XW_LAT", 0x300068, [(4, 4)], [0x0],
    []⟩,
  ⟨"TBS_XW_OFFSET", 0x300078, [], [0x0],
    []⟩,
  ⟨"TBS_DL_COUNT", 0x300080, [(4, 10)], [0x0],
    []⟩,
  ⟨"TBS_DL_LAST", 0x3000C0, [(4, 10)], [0x0],
    []⟩,
  ⟨"TBS_DL_CLEAR", 0x3000FC, [], [0x0],
    [⟨9, 0, .wo, 0, 1023⟩]⟩]

/-- Registers of TBS, part 2. -/
def regsTbs1 : List RegDef := [
  ⟨"TBS_HIST_L", 0x300100, [], [0x0],
    [⟨31, 0, .rw, 0, 4294967295⟩]⟩,
  ⟨"TBS_HIST", 0x300110, [(4, 4)], [0x0],
    []⟩]

/-- The registers of TBS. -/
def regsTbs : List RegDef := regsTbs0 ++ regsTbs1

/-- Registers of PIP, part 1. -/
def regsPip0 : List RegDef := [
  ⟨"PIP_CFG", 0x400000, [], [0x208100],
    [⟨23, 16, .rwh, 0, 255⟩, ⟨15, 12, .rwh, 4, 12⟩, ⟨8, 8, .rwh, 0, 1⟩]⟩,
  ⟨"PIP_BAND_CFG", 0x400010, [(4, 9)], [0x4C000000],
    [⟨31, 28, .rwh, 0, 15⟩, ⟨27, 20, .rwh, 128, 240⟩]⟩,
  ⟨"PIP_BG_CFG", 0x400040, [(4, 9)], [0x50000000],
    [⟨31, 31, .rwh, 0, 1⟩, ⟨30, 27, .rwh, 4, 15⟩, ⟨19, 0, .rwh, 0, 1048575⟩]⟩,
  ⟨"PIP_BS_DEPTH", 0x400070, [(4, 9)], [0x0],
    [⟨9, 0, .rwh, 0, 1023⟩]⟩,
  ⟨"PIP_BS_LABEL", 0x400094, [], [0xB0],
    [⟨7, 0, .rwh, 1, 176⟩]⟩,
  ⟨"PIP_BS_STATUS", 0x400098, [], [0x38E],
    []⟩,
  ⟨"PIP_TDI_STATUS", 0x40009C, [], [0x2B],
    []⟩,
  ⟨"PIP_DEF_CFG", 0x4000A0, [], [0x80800404],
    [⟨31, 31, .rwh, 0, 1⟩, ⟨23, 16, .rwh, 0, 255⟩, ⟨15, 4, .rwh, 0, 4095⟩, ⟨3, 0, .rwh, 2, 15⟩]⟩,
  ⟨"PIP_DEF_COUNT", 0x4000A4, [], [0x0],
    []⟩,
  ⟨"PIP_REG_STATUS", 0x4000B0, [], [0x0],
    []⟩,
  ⟨"PIP_REG_PHASE", 0x4000C0, [(4, 9)], [0x0],
    []⟩,
  ⟨"PIP_SEC_STATUS", 0x400100, [(16, 12)], [0x0],
    [⟨31, 24, .rc, 0, 255⟩]⟩,
  ⟨"PIP_SEC_DROP", 0x400104, [(16, 12)], [0x0],
    []⟩,
  ⟨"PIP_SEC_SHORT", 0x400108, [(16, 12)], [0x0],
    []⟩,
  ⟨"PIP_SEC_HOT", 0x40010C, [(16, 12)], [0x0],
    []⟩,
  ⟨"PIP_PMEM_ADDR", 0x400200, [], [0x0],
    [⟨17, 0, .rw, 0, 262143⟩]⟩,
  ⟨"PIP_PMEM_DATA", 0x400210, [(4, 4)], [0x0],
    []⟩,
  ⟨"PIP_CLEAR", 0x400220, [], [0x0],
    [⟨0, 0, .wo, 0, 1⟩]⟩,
  ⟨"PIP_OUT_CFG", 0x400800, [], [0x0],
    [⟨8, 8, .rwh, 0, 1⟩, ⟨4, 4, .rwh, 0, 1⟩, ⟨3, 3, .rwh, 0, 1⟩, ⟨2, 2, .rwh, 0, 1⟩, ⟨1, 1, .rwh, 0, 1⟩, ⟨0, 0, .rwh, 0, 1⟩]⟩,
  ⟨"PIP_DISP_CFG", 0x400804, [], [0x1010000],
    [⟨27, 24, .rwh, 1, 8⟩, ⟨21, 16, .rwh, 1, 63⟩, ⟨13, 8, .rwh, 0, 63⟩]⟩,
  ⟨"PIP_CODE_CFG", 0x400808, [], [0x0],
    [⟨2, 2, .rwh, 0, 1⟩, ⟨1, 0, .rwh, 0, 1⟩]⟩,
  ⟨"PIP_TF_CFG", 0x40080C, [], [0x0],
    [⟨9, 8, .rwh, 0, 3⟩, ⟨1, 0, .rwh, 0, 3⟩]⟩,
  ⟨"PIP_MOS_CFG", 0x400810, [], [0x20],
    [⟨7, 0, .rwh, 0, 255⟩]⟩,
  ⟨"PIP_MOS_IR0", 0x400814, [], [0x0],
    [⟨31, 16, .rwh, 0, 65535⟩, ⟨15, 0, .rwh, 0, 65535⟩]⟩]

/-- Registers of PIP, part 2. -/
def regsPip1 : List RegDef := [
  ⟨"PIP_MOS_IR1", 0x400818, [], [0x0],
    [⟨31, 16, .rwh, 0, 65535⟩]⟩,
  ⟨"PIP_RAW_CFG", 0x40081C, [], [0x0],
    [⟨31, 31, .rwh, 0, 1⟩, ⟨7, 0, .rwh, 0, 255⟩]⟩,
  ⟨"PIP_RAW_ROWS", 0x400820, [(4, 9)], [0x0],
    [⟨15, 0, .rwh, 0, 65535⟩]⟩,
  ⟨"PIP_VIS_PLANE", 0x400844, [(4, 15)], [0x0],
    [⟨1, 1, .rwh, 0, 1⟩, ⟨0, 0, .rwh, 0, 1⟩]⟩,
  ⟨"PIP_DISP_MTX", 0x400880, [(4, 18)], [0x0],
    [⟨31, 0, .rwh, 0, 4294967295⟩]⟩,
  ⟨"PIP_CODE_MTX", 0x4008C8, [(4, 18)], [0x0],
    [⟨31, 0, .rwh, 0, 4294967295⟩]⟩,
  ⟨"PIP_OUT_STATUS", 0x400910, [], [0x0],
    []⟩,
  ⟨"PIP_OUT_LAT", 0x400914, [], [0x0],
    [⟨15, 0, .rc, 0, 65535⟩]⟩,
  ⟨"PIP_OUT_HOLD", 0x400918, [], [0x0],
    []⟩,
  ⟨"PIP_MOS_COUNT", 0x40091C, [], [0x0],
    []⟩,
  ⟨"PIP_CLIP_COUNT", 0x400920, [(4, 2)], [0x0],
    []⟩,
  ⟨"PIP_RAW_STATUS", 0x400928, [], [0x0],
    []⟩,
  ⟨"PIP_SNAP_OUT", 0x40092C, [], [0x0],
    []⟩,
  ⟨"PIP_OUT_CLEAR", 0x400930, [], [0x0],
    [⟨0, 0, .wo, 0, 1⟩]⟩,
  ⟨"PIP_OUT_COUNT", 0x400940, [(4, 20)], [0x0],
    []⟩]

/-- The registers of PIP. -/
def regsPip : List RegDef := regsPip0 ++ regsPip1

/-- Registers of AUX, part 1. -/
def regsAux0 : List RegDef := [
  ⟨"AUX_CFG", 0x500000, [], [0x0],
    [⟨5, 4, .rwh, 0, 2⟩, ⟨3, 3, .rwh, 0, 1⟩, ⟨1, 1, .rwh, 0, 1⟩, ⟨0, 0, .rwh, 0, 1⟩]⟩,
  ⟨"AUX_STATUS", 0x500004, [], [0x0],
    []⟩,
  ⟨"AUX_LOAD", 0x500008, [], [0x0],
    []⟩,
  ⟨"AUX_SWITCHES", 0x50000C, [], [0x0],
    []⟩,
  ⟨"AUX_ABORTS", 0x500010, [], [0x0],
    []⟩,
  ⟨"AUX_JOIN_STATUS", 0x500014, [], [0x0],
    []⟩,
  ⟨"AUX_CLEAR", 0x500018, [], [0x0],
    [⟨0, 0, .wo, 0, 1⟩]⟩,
  ⟨"AUX_TMEM_ADDR", 0x50001C, [], [0x0],
    [⟨13, 0, .rw, 0, 16383⟩]⟩,
  ⟨"AUX_TMEM_DATA", 0x500020, [(4, 4)], [0x0],
    []⟩,
  ⟨"AUX_PORT_CFG", 0x500100, [(256, 2)], [0x60C00000],
    [⟨31, 27, .rwh, 8, 20⟩, ⟨26, 26, .rwh, 0, 1⟩, ⟨25, 25, .rwh, 0, 1⟩, ⟨24, 24, .rwh, 0, 1⟩, ⟨23, 23, .rwh, 0, 1⟩, ⟨22, 22, .rwh, 0, 1⟩, ⟨21, 20, .rwh, 0, 2⟩, ⟨19, 19, .rwh, 0, 1⟩, ⟨18, 17, .rwh, 0, 2⟩]⟩,
  ⟨"AUX_PORT_GEOM", 0x500104, [(256, 2)], [0x400],
    [⟨28, 16, .rwh, 0, 8191⟩, ⟨12, 0, .rwh, 16, 4096⟩]⟩,
  ⟨"AUX_PORT_TLINE", 0x500108, [(256, 2)], [0x0],
    [⟨19, 0, .rwh, 0, 1048575⟩]⟩,
  ⟨"AUX_PORT_FILL", 0x50010C, [(256, 2)], [0x0],
    [⟨19, 0, .rwh, 0, 1048575⟩]⟩,
  ⟨"AUX_PORT_SAT", 0x500110, [(256, 2)], [0xFFFFF],
    [⟨19, 0, .rwh, 0, 1048575⟩]⟩,
  ⟨"AUX_PORT_LAG", 0x500114, [(256, 2)], [0x0],
    [⟨19, 0, .rwh, 0, 1048575⟩]⟩,
  ⟨"AUX_PORT_OFFS", 0x500118, [(256, 2)], [0x0],
    [⟨19, 0, .rwh, 0, 1048575⟩]⟩,
  ⟨"AUX_PORT_RSTEP", 0x50011C, [(256, 2)], [0x0],
    [⟨15, 0, .rwh, 0, 65535⟩]⟩,
  ⟨"AUX_PORT_ALIGN", 0x500120, [(256, 2)], [0x20],
    [⟨15, 0, .rwh, 0, 65535⟩]⟩,
  ⟨"AUX_PORT_CFA", 0x500124, [(256, 2)], [0x0],
    [⟨31, 0, .rwh, 0, 4294967295⟩]⟩,
  ⟨"AUX_PORT_MIX", 0x500128, [(256, 2), (4, 2)], [0x0],
    [⟨31, 0, .rwh, 0, 4294967295⟩]⟩,
  ⟨"AUX_PORT_MARK", 0x500130, [(256, 2)], [0x3],
    [⟨2, 2, .rwh, 0, 1⟩, ⟨1, 1, .rwh, 0, 1⟩, ⟨0, 0, .rwh, 0, 1⟩]⟩,
  ⟨"AUX_PORT_BLACK", 0x500134, [(256, 2), (4, 5)], [0x0],
    [⟨19, 0, .rwh, 0, 1048575⟩]⟩,
  ⟨"AUX_STG_EXPL", 0x500150, [(256, 2)], [0x0],
    [⟨23, 0, .rw, 0, 16777215⟩]⟩,
  ⟨"AUX_STG_EXPS", 0x500154, [(256, 2)], [0x0],
    [⟨23, 0, .rw, 0, 16777215⟩]⟩]

/-- Registers of AUX, part 2. -/
def regsAux1 : List RegDef := [
  ⟨"AUX_STG_GAIN", 0x500158, [(256, 2)], [0x0],
    [⟨15, 0, .rw, 0, 65535⟩]⟩,
  ⟨"AUX_STG_K", 0x50015C, [(256, 2)], [0x10000],
    [⟨31, 0, .rw, 0, 4294967295⟩]⟩,
  ⟨"AUX_EXPL", 0x500160, [(256, 2)], [0x0],
    []⟩,
  ⟨"AUX_EXPS", 0x500164, [(256, 2)], [0x0],
    []⟩,
  ⟨"AUX_GAIN", 0x500168, [(256, 2)], [0x0],
    []⟩,
  ⟨"AUX_K", 0x50016C, [(256, 2)], [0x10000],
    []⟩,
  ⟨"AUX_PORT_STATUS", 0x500180, [(256, 2)], [0x0],
    []⟩,
  ⟨"AUX_PORT_CTX", 0x500184, [(256, 2)], [0x0],
    []⟩,
  ⟨"AUX_PORT_FRAMES", 0x500188, [(256, 2)], [0x0],
    []⟩,
  ⟨"AUX_PORT_LAST", 0x50018C, [(256, 2)], [0x0],
    []⟩,
  ⟨"AUX_PORT_CHK", 0x500190, [(256, 2)], [0x0],
    []⟩,
  ⟨"AUX_PORT_LINEERR", 0x500194, [(256, 2)], [0x0],
    []⟩,
  ⟨"AUX_PORT_FRAMEERR", 0x500198, [(256, 2)], [0x0],
    []⟩,
  ⟨"AUX_PORT_DROP", 0x50019C, [(256, 2)], [0x0],
    []⟩,
  ⟨"AUX_PORT_STORE", 0x5001A0, [(256, 2)], [0x0],
    []⟩,
  ⟨"AUX_PORT_RING", 0x5001A4, [(256, 2)], [0x0],
    [⟨31, 24, .rc, 0, 255⟩, ⟨23, 16, .rc, 0, 255⟩]⟩,
  ⟨"AUX_PORT_STAMP", 0x5001A8, [(256, 2)], [0x0],
    []⟩,
  ⟨"AUX_BUS_CFG", 0x5001C0, [(256, 2)], [0x802000],
    [⟨31, 25, .rwh, 0, 127⟩, ⟨24, 23, .rwh, 0, 2⟩, ⟨22, 22, .rwh, 0, 1⟩, ⟨21, 20, .rwh, 0, 3⟩, ⟨19, 18, .rwh, 0, 3⟩, ⟨17, 17, .rwh, 0, 1⟩, ⟨16, 13, .rwh, 1, 15⟩]⟩,
  ⟨"AUX_BUS_ID", 0x5001C4, [(256, 2)], [0xFFFF0000],
    [⟨31, 16, .rwh, 0, 65535⟩, ⟨15, 0, .rwh, 0, 65535⟩]⟩,
  ⟨"AUX_BUS_STATUS", 0x5001C8, [(256, 2)], [0x0],
    []⟩,
  ⟨"AUX_EXP_REG", 0x5001CC, [(256, 2)], [0x0],
    [⟨31, 16, .rwh, 0, 65535⟩, ⟨15, 0, .rwh, 0, 65535⟩]⟩,
  ⟨"AUX_GAIN_REG", 0x5001D0, [(256, 2)], [0xFFFF],
    [⟨15, 0, .rwh, 0, 65535⟩]⟩,
  ⟨"AUX_LOOP_CFG", 0x5001D4, [(256, 2)], [0x80000],
    [⟨31, 31, .rwh, 0, 1⟩, ⟨23, 16, .rwh, 2, 255⟩]⟩,
  ⟨"AUX_LOOP_TGT", 0x5001D8, [(256, 2)], [0x0],
    [⟨19, 0, .rwh, 0, 1048575⟩]⟩]

/-- Registers of AUX, part 3. -/
def regsAux2 : List RegDef := [
  ⟨"AUX_LOOP_LIM", 0x5001DC, [(256, 2)], [0xFFFF0001],
    [⟨31, 16, .rwh, 0, 65535⟩, ⟨15, 0, .rwh, 0, 65535⟩]⟩,
  ⟨"AUX_LOOP_STATUS", 0x5001E0, [(256, 2)], [0x0],
    []⟩,
  ⟨"AUX_CTX_K", 0x500400, [(64, 2), (16, 4)], [0x0],
    []⟩,
  ⟨"AUX_CTX_RHO", 0x500404, [(64, 2), (16, 4)], [0x0],
    []⟩,
  ⟨"AUX_CTX_BLACK", 0x500408, [(64, 2), (16, 4)], [0x0],
    []⟩,
  ⟨"AUX_CTX_INFO", 0x50040C, [(64, 2), (16, 4)], [0x0],
    []⟩]

/-- The registers of AUX. -/
def regsAux : List RegDef := regsAux0 ++ regsAux1 ++ regsAux2

/-- Registers of VDT, part 1. -/
def regsVdt0 : List RegDef := [
  ⟨"VDT_SEG_CFG", 0x600000, [], [0x24000010],
    [⟨31, 28, .rwh, 1, 15⟩, ⟨27, 26, .rwh, 0, 3⟩, ⟨24, 24, .rwh, 0, 1⟩, ⟨23, 0, .rwh, 0, 16777215⟩]⟩,
  ⟨"VDT_SEG_TH", 0x600004, [(4, 2)], [0x0],
    [⟨31, 16, .rwh, 0, 65535⟩, ⟨15, 0, .rwh, 0, 65535⟩]⟩,
  ⟨"VDT_SEG_REF", 0x60000C, [(4, 2)], [0x0],
    [⟨19, 0, .rwh, 0, 1048575⟩]⟩,
  ⟨"VDT_VEL_CFG", 0x600014, [], [0x60002000],
    [⟨31, 16, .rwh, 0, 65535⟩, ⟨15, 0, .rwh, 0, 65535⟩]⟩,
  ⟨"VDT_VEL_WIN", 0x600018, [], [0x10],
    [⟨5, 0, .rwh, 0, 63⟩]⟩,
  ⟨"VDT_FEAT_CFG", 0x60001C, [], [0x653],
    [⟨11, 8, .rwh, 0, 10⟩, ⟨7, 4, .rwh, 0, 10⟩, ⟨3, 0, .rwh, 0, 10⟩]⟩,
  ⟨"VDT_ABS_CFG", 0x600020, [], [0x40155555],
    [⟨31, 24, .rwh, 0, 255⟩, ⟨1, 0, .rwh, 0, 2⟩, ⟨3, 2, .rwh, 0, 2⟩, ⟨5, 4, .rwh, 0, 2⟩, ⟨7, 6, .rwh, 0, 2⟩, ⟨9, 8, .rwh, 0, 2⟩, ⟨11, 10, .rwh, 0, 2⟩, ⟨13, 12, .rwh, 0, 2⟩, ⟨15, 14, .rwh, 0, 2⟩, ⟨17, 16, .rwh, 0, 2⟩, ⟨19, 18, .rwh, 0, 2⟩, ⟨21, 20, .rwh, 0, 2⟩]⟩,
  ⟨"VDT_CLS_CFG", 0x600024, [], [0xFFFFF],
    [⟨31, 31, .rwh, 0, 1⟩, ⟨19, 16, .rwh, 0, 15⟩, ⟨15, 0, .rwh, 0, 65535⟩]⟩,
  ⟨"VDT_PROG_CFG", 0x600028, [], [0x80000000],
    [⟨31, 31, .rwh, 0, 1⟩, ⟨19, 16, .rwh, 0, 15⟩]⟩,
  ⟨"VDT_EJ_MARGIN", 0x60002C, [], [0x4],
    [⟨5, 0, .rwh, 0, 63⟩]⟩,
  ⟨"VDT_OBJ_SEL", 0x600030, [], [0x0],
    [⟨11, 0, .rw, 0, 4095⟩]⟩,
  ⟨"VDT_OBJ_STATE", 0x600034, [], [0x0],
    []⟩,
  ⟨"VDT_PROG_INFO", 0x600040, [(4, 16)], [0x0],
    []⟩,
  ⟨"VDT_XW_CFG", 0x600080, [], [0x20020],
    [⟨31, 31, .rwh, 0, 1⟩, ⟨30, 30, .rwh, 0, 1⟩, ⟨29, 29, .rwh, 0, 1⟩, ⟨28, 28, .rwh, 0, 1⟩, ⟨27, 27, .rwh, 0, 1⟩, ⟨23, 20, .rwh, 0, 7⟩, ⟨19, 16, .rwh, 0, 15⟩, ⟨11, 0, .rwh, 0, 4095⟩]⟩,
  ⟨"VDT_XW_MCOL0", 0x600084, [], [0x0],
    [⟨16, 0, .rwh, 0, 131071⟩]⟩,
  ⟨"VDT_XW_WIN", 0x600088, [], [0x640064],
    [⟨31, 16, .rwh, 0, 65535⟩, ⟨15, 0, .rwh, 0, 65535⟩]⟩,
  ⟨"VDT_XW_PDL", 0x60008C, [], [0x0],
    [⟨19, 0, .rwh, 0, 1048575⟩]⟩,
  ⟨"VDT_XW_COUNT", 0x600090, [(4, 4)], [0x0],
    []⟩,
  ⟨"VDT_OBJ_STATUS", 0x600100, [], [0x0],
    [⟨12, 0, .rc, 0, 8191⟩]⟩,
  ⟨"VDT_OBJ_COUNT", 0x600104, [], [0x0],
    []⟩,
  ⟨"VDT_DROP_COUNT", 0x600108, [], [0x0],
    []⟩,
  ⟨"VDT_QUEUE", 0x60010C, [], [0x0],
    [⟨26, 16, .rc, 0, 2047⟩]⟩,
  ⟨"VDT_VERDICT_COUNT", 0x600110, [(4, 16)], [0x0],
    []⟩,
  ⟨"VDT_VSRC_COUNT", 0x600150, [(4, 8)], [0x0],
    []⟩]

/-- Registers of VDT, part 2. -/
def regsVdt1 : List RegDef := [
  ⟨"VDT_CORE_LOAD", 0x600170, [], [0x0],
    []⟩,
  ⟨"VDT_SEG_STATUS", 0x600180, [(4, 12)], [0x0],
    [⟨31, 24, .rc, 0, 255⟩]⟩,
  ⟨"VDT_OBJ_REC", 0x6001B0, [(4, 12)], [0x0],
    []⟩,
  ⟨"VDT_CLEAR", 0x6001E0, [], [0x0],
    [⟨0, 0, .wo, 0, 1⟩]⟩,
  ⟨"VDT_GUST_CFG", 0x600200, [], [0x80000F0],
    [⟨31, 31, .rwh, 0, 1⟩, ⟨30, 30, .rwh, 0, 1⟩, ⟨27, 24, .rwh, 4, 12⟩, ⟨15, 0, .rwh, 0, 65535⟩]⟩,
  ⟨"VDT_GUST_VR", 0x600204, [], [0x4000],
    [⟨15, 0, .rwh, 0, 65535⟩]⟩,
  ⟨"VDT_VR_MEAN", 0x600208, [], [0x4000],
    []⟩,
  ⟨"VDT_FLY_G", 0x60020C, [], [0x2648],
    [⟨15, 0, .rwh, 0, 65535⟩]⟩,
  ⟨"VDT_FLY_STEP", 0x600210, [], [0x100],
    [⟨15, 0, .rwh, 1, 65535⟩]⟩,
  ⟨"VDT_EJ_TICK", 0x600214, [], [0x64],
    [⟨8, 0, .rwh, 20, 500⟩]⟩,
  ⟨"VDT_EJ_WIN", 0x600218, [], [0xC800C8],
    [⟨27, 16, .rwh, 0, 4095⟩, ⟨11, 0, .rwh, 0, 4095⟩]⟩,
  ⟨"VDT_EJ_ARM", 0x60021C, [], [0x3C0014],
    [⟨27, 16, .rwh, 1, 4095⟩, ⟨9, 0, .rwh, 0, 1023⟩]⟩,
  ⟨"VDT_EJ_OPEN", 0x600220, [], [0xC80002],
    [⟨27, 16, .rwh, 1, 4095⟩, ⟨7, 0, .rwh, 1, 255⟩]⟩,
  ⟨"VDT_EJ_FRAME", 0x600224, [], [0x64],
    [⟨15, 0, .rwh, 10, 1000⟩]⟩,
  ⟨"VDT_VB_CFG", 0x600230, [(4, 8)], [0x8000],
    [⟨31, 31, .rwh, 0, 1⟩, ⟨23, 20, .rwh, 0, 15⟩, ⟨15, 8, .rwh, 1, 128⟩]⟩,
  ⟨"VDT_VB_D", 0x600250, [(4, 8)], [0x0],
    [⟨21, 0, .rwh, 0, 4194303⟩]⟩,
  ⟨"VDT_VB_LEAD", 0x600270, [(4, 8)], [0x0],
    [⟨15, 0, .rwh, 0, 65535⟩]⟩,
  ⟨"VDT_GUST_COUNT", 0x600290, [(4, 8)], [0x0],
    []⟩,
  ⟨"VDT_EJ_STATUS", 0x6002B0, [], [0x0],
    [⟨13, 0, .rc, 0, 16383⟩]⟩,
  ⟨"VDT_COMMIT_MARGIN", 0x6002B4, [], [0x7FFFFFFF],
    [⟨31, 0, .rc, 0, 4294967295⟩]⟩,
  ⟨"VDT_GUST_CLEAR", 0x6002B8, [], [0x0],
    [⟨0, 0, .wo, 0, 1⟩]⟩,
  ⟨"VDT_COMMIT_LAST", 0x6002BC, [], [0x0],
    []⟩]

/-- The registers of VDT. -/
def regsVdt : List RegDef := regsVdt0 ++ regsVdt1

/-- Registers of LNK, part 1. -/
def regsLnk0 : List RegDef := [
  ⟨"LNK_CFG", 0x700000, [], [0x10AF014],
    [⟨27, 24, .rwh, 1, 15⟩, ⟨23, 16, .rwh, 1, 255⟩, ⟨15, 8, .rwh, 16, 240⟩, ⟨7, 0, .rwh, 0, 255⟩]⟩,
  ⟨"LNK_ROUTE0", 0x700004, [], [0x0],
    [⟨31, 0, .rwh, 0, 4294967295⟩]⟩,
  ⟨"LNK_ROUTE1", 0x700008, [], [0x0],
    [⟨7, 0, .rwh, 0, 255⟩]⟩,
  ⟨"LNK_AGE_LIM", 0x70000C, [], [0xC819032],
    [⟨29, 20, .rwh, 1, 1023⟩, ⟨19, 10, .rwh, 1, 1023⟩, ⟨9, 0, .rwh, 1, 1023⟩]⟩,
  ⟨"LNK_FOM_CFG", 0x700010, [], [0x402010],
    [⟨23, 16, .rwh, 0, 255⟩, ⟨15, 8, .rwh, 0, 255⟩, ⟨7, 0, .rwh, 0, 255⟩]⟩,
  ⟨"LNK_MOVE_CMD", 0x700014, [], [0x0],
    [⟨4, 0, .wo, 0, 31⟩]⟩,
  ⟨"LNK_STATUS", 0x700018, [], [0x0],
    []⟩,
  ⟨"LNK_BUF", 0x70001C, [], [0x0],
    [⟨31, 16, .rc, 0, 65535⟩]⟩,
  ⟨"LNK_CLEAR", 0x700020, [], [0x0],
    [⟨0, 0, .wo, 0, 1⟩]⟩,
  ⟨"LNK_RESENT", 0x700024, [], [0x0],
    []⟩,
  ⟨"LNK_ANN", 0x700030, [(4, 4)], [0x0],
    []⟩,
  ⟨"LNK_SET_CFG", 0x700100, [(128, 4)], [0x1400],
    [⟨31, 31, .rwh, 0, 1⟩, ⟨30, 28, .rwh, 0, 4⟩, ⟨27, 26, .rwh, 0, 2⟩, ⟨25, 21, .rwh, 0, 31⟩, ⟨15, 8, .rwh, 1, 190⟩]⟩,
  ⟨"LNK_SET_STATUS", 0x700104, [(128, 4)], [0x0],
    []⟩,
  ⟨"LNK_SET_LANES", 0x700108, [(128, 4), (4, 4)], [0x3FFFFFFF],
    [⟨4, 0, .rwh, 0, 31⟩, ⟨9, 5, .rwh, 0, 31⟩, ⟨14, 10, .rwh, 0, 31⟩, ⟨19, 15, .rwh, 0, 31⟩, ⟨24, 20, .rwh, 0, 31⟩, ⟨29, 25, .rwh, 0, 31⟩]⟩,
  ⟨"LNK_SET_MAP", 0x700118, [(128, 4), (4, 4)], [0x3FFFFFFF],
    []⟩,
  ⟨"LNK_SET_SWN_LO", 0x700128, [(128, 4)], [0x0],
    []⟩,
  ⟨"LNK_SET_SWN_HI", 0x70012C, [(128, 4)], [0x0],
    []⟩,
  ⟨"LNK_SET_SEQ", 0x700130, [(128, 4)], [0x0],
    []⟩,
  ⟨"LNK_SET_AGE", 0x700134, [(128, 4)], [0x0],
    [⟨29, 20, .rc, 0, 1023⟩, ⟨19, 10, .rc, 0, 1023⟩, ⟨9, 0, .rc, 0, 1023⟩]⟩,
  ⟨"LNK_SET_DROP", 0x700138, [(128, 4), (4, 4)], [0x0],
    []⟩,
  ⟨"LNK_DT_CFG", 0x700400, [(32, 24)], [0x260],
    [⟨9, 8, .rwh, 0, 3⟩, ⟨7, 4, .rwh, 0, 15⟩, ⟨3, 3, .rwh, 0, 1⟩]⟩,
  ⟨"LNK_DT_STATUS", 0x700404, [(32, 24)], [0x0],
    []⟩,
  ⟨"LNK_DT_MON", 0x700408, [(32, 24)], [0x0],
    []⟩,
  ⟨"LNK_DT_COUNT", 0x70040C, [(32, 24)], [0x0],
    []⟩]

/-- Registers of LNK, part 2. -/
def regsLnk1 : List RegDef := [
  ⟨"LNK_DT_TEST", 0x700410, [(32, 24)], [0x0],
    [⟨31, 31, .rwh, 0, 1⟩]⟩,
  ⟨"LNK_XW_CFG", 0x700800, [(64, 4)], [0x26000000],
    [⟨31, 31, .rwh, 0, 1⟩, ⟨30, 30, .rwh, 0, 1⟩, ⟨29, 28, .rwh, 0, 3⟩, ⟨27, 24, .rwh, 0, 15⟩, ⟨23, 23, .rwh, 0, 1⟩]⟩,
  ⟨"LNK_XW_STATUS", 0x700804, [(64, 4)], [0x0],
    []⟩,
  ⟨"LNK_XW_EQ", 0x700808, [(64, 4)], [0x0],
    []⟩,
  ⟨"LNK_XW_PRESET", 0x70080C, [(64, 4)], [0x94A529],
    [⟨4, 0, .rwh, 0, 18⟩, ⟨9, 5, .rwh, 0, 18⟩, ⟨14, 10, .rwh, 0, 18⟩, ⟨19, 15, .rwh, 0, 18⟩, ⟨24, 20, .rwh, 0, 18⟩]⟩,
  ⟨"LNK_XW_FOM", 0x700810, [(64, 4)], [0x0],
    [⟨7, 0, .rc, 0, 255⟩]⟩,
  ⟨"LNK_XW_ERR", 0x700814, [(64, 4)], [0x0],
    []⟩,
  ⟨"LNK_XW_CREDIT", 0x700818, [(64, 4)], [0x0],
    []⟩,
  ⟨"LNK_XW_TX", 0x70081C, [(64, 4)], [0x0],
    []⟩,
  ⟨"LNK_XW_RX", 0x700820, [(64, 4)], [0x0],
    []⟩,
  ⟨"LNK_XW_DUP", 0x700824, [(64, 4)], [0x0],
    []⟩,
  ⟨"LNK_XW_ADAPT", 0x700828, [(64, 4)], [0x0],
    []⟩,
  ⟨"LNK_XW_RTT", 0x70082C, [(64, 4)], [0x0],
    []⟩,
  ⟨"LNK_XW_PEER_LO", 0x700830, [(64, 4)], [0x0],
    []⟩,
  ⟨"LNK_XW_PEER_HI", 0x700834, [(64, 4)], [0x0],
    []⟩]

/-- The registers of LNK. -/
def regsLnk : List RegDef := regsLnk0 ++ regsLnk1

/-- Registers of PEN, part 1. -/
def regsPen0 : List RegDef := [
  ⟨"PEN_START", 0x800000, [], [0x0],
    [⟨15, 0, .wo, 0, 65535⟩]⟩,
  ⟨"PEN_HALT", 0x800004, [], [0x0],
    [⟨15, 0, .wo, 0, 65535⟩]⟩,
  ⟨"PEN_RUN", 0x800008, [], [0x0],
    []⟩,
  ⟨"PEN_SIG", 0x80000C, [], [0x0],
    [⟨15, 0, .rw, 0, 65535⟩]⟩,
  ⟨"PEN_PMEM_ADDR", 0x800010, [], [0x0],
    [⟨10, 0, .rw, 0, 2047⟩]⟩,
  ⟨"PEN_PMEM_DATA", 0x800014, [], [0x0],
    [⟨31, 0, .rwh, 0, 4294967295⟩]⟩,
  ⟨"PEN_SEL", 0x800018, [], [0x0],
    [⟨3, 0, .rw, 0, 15⟩]⟩,
  ⟨"PEN_FIFO_IN", 0x80001C, [], [0x0],
    [⟨31, 0, .wo, 0, 4294967295⟩]⟩,
  ⟨"PEN_FIFO_OUT", 0x800020, [], [0x0],
    [⟨31, 0, .rc, 0, 4294967295⟩]⟩,
  ⟨"PEN_X", 0x800024, [], [0x0],
    []⟩,
  ⟨"PEN_Y", 0x800028, [], [0x0],
    []⟩,
  ⟨"PEN_CLEAR", 0x80002C, [], [0x0],
    [⟨1, 1, .wo, 0, 1⟩, ⟨0, 0, .wo, 0, 1⟩]⟩,
  ⟨"PEN_MON", 0x800030, [(4, 4)], [0x0],
    [⟨31, 20, .rwh, 0, 4095⟩, ⟨19, 10, .rwh, 0, 1023⟩, ⟨9, 0, .rwh, 0, 1023⟩]⟩,
  ⟨"PEN_LEVEL", 0x800040, [(4, 3)], [0x0],
    []⟩,
  ⟨"PEN_OVERRATE", 0x800050, [(4, 3)], [0x0],
    []⟩,
  ⟨"PEN_STUCK", 0x800060, [(4, 3)], [0x0],
    []⟩,
  ⟨"PEN_ST_SENSE", 0x800070, [], [0x0],
    [⟨31, 16, .rw, 0, 65535⟩, ⟨15, 0, .rw, 0, 65535⟩]⟩,
  ⟨"PEN_ST_COUNT", 0x800074, [(4, 4)], [0x0],
    []⟩,
  ⟨"PEN_ENG_CFG", 0x800100, [(32, 16)], [0x100],
    [⟨31, 8, .rwh, 256, 16777215⟩, ⟨7, 4, .rwh, 0, 15⟩, ⟨3, 3, .rwh, 0, 1⟩, ⟨2, 2, .rwh, 0, 1⟩]⟩,
  ⟨"PEN_ENG_PINS", 0x800104, [(32, 16)], [0x0],
    [⟨31, 25, .rwh, 0, 79⟩, ⟨24, 20, .rwh, 0, 16⟩, ⟨19, 16, .rwh, 0, 15⟩, ⟨15, 9, .rwh, 0, 79⟩, ⟨8, 4, .rwh, 0, 16⟩, ⟨3, 0, .rwh, 0, 15⟩]⟩,
  ⟨"PEN_ENG_PROG", 0x800108, [(32, 16)], [0x0],
    [⟨26, 16, .rwh, 0, 2047⟩, ⟨10, 0, .rwh, 0, 2047⟩]⟩,
  ⟨"PEN_ENG_STATUS", 0x80010C, [(32, 16)], [0x0],
    []⟩,
  ⟨"PEN_ENG_COUNT", 0x800110, [(32, 16)], [0x0],
    []⟩,
  ⟨"PEN_PIN_CFG", 0x800400, [(4, 80)], [0x8000],
    [⟨31, 22, .rwh, 0, 1023⟩, ⟨21, 18, .rwh, 0, 15⟩, ⟨17, 16, .rwh, 0, 2⟩, ⟨15, 14, .rwh, 0, 3⟩, ⟨13, 13, .rwh, 0, 1⟩, ⟨12, 12, .rwh, 0, 1⟩, ⟨11, 9, .rwh, 0, 4⟩, ⟨8, 8, .rwh, 0, 1⟩, ⟨7, 7, .rwh, 0, 1⟩]⟩]

/-- Registers of PEN, part 2. -/
def regsPen1 : List RegDef := [
  ⟨"PEN_ST_CFG", 0x800600, [(4, 16)], [0x10064400],
    [⟨31, 31, .rwh, 0, 1⟩, ⟨30, 29, .rwh, 0, 3⟩, ⟨28, 28, .rwh, 0, 1⟩, ⟨27, 20, .rwh, 0, 255⟩, ⟨19, 12, .rwh, 0, 255⟩, ⟨11, 4, .rwh, 0, 255⟩, ⟨3, 0, .rwh, 0, 8⟩]⟩]

/-- The registers of PEN. -/
def regsPen : List RegDef := regsPen0 ++ regsPen1

/-- Registers of NRG, part 1. -/
def regsNrg0 : List RegDef := [
  ⟨"NRG_ENV", 0x900000, [], [0x3A98],
    [⟨15, 0, .rw, 4000, 15000⟩]⟩,
  ⟨"NRG_GUARD_CFG", 0x900004, [], [0x80640A0A],
    [⟨31, 31, .rwh, 0, 1⟩, ⟨15, 8, .rwh, 1, 255⟩, ⟨7, 0, .rwh, 1, 255⟩]⟩,
  ⟨"NRG_INPUT_V", 0x900008, [], [0x0],
    []⟩,
  ⟨"NRG_INPUT_I", 0x90000C, [], [0x0],
    []⟩,
  ⟨"NRG_INPUT_P", 0x900010, [(4, 3)], [0x0],
    []⟩,
  ⟨"NRG_INPUT_PMAX", 0x90001C, [], [0x0],
    [⟨15, 0, .rc, 0, 65535⟩]⟩,
  ⟨"NRG_E_TOTAL_LO", 0x900020, [], [0x0],
    []⟩,
  ⟨"NRG_E_TOTAL_HI", 0x900024, [], [0x0],
    []⟩,
  ⟨"NRG_STATUS", 0x900028, [], [0x0],
    []⟩,
  ⟨"NRG_PF_STATUS", 0x90002C, [], [0x0],
    []⟩,
  ⟨"NRG_LEDGER_SEL", 0x900030, [], [0x0],
    [⟨9, 0, .rw, 0, 1023⟩]⟩,
  ⟨"NRG_LEDGER", 0x900040, [(4, 8)], [0x0],
    []⟩,
  ⟨"NRG_PLAN_DOM", 0x900060, [(4, 13)], [0x0],
    []⟩,
  ⟨"NRG_COEF_SEL", 0x9000A0, [], [0x0],
    [⟨7, 5, .rw, 0, 4⟩, ⟨4, 0, .rw, 0, 23⟩]⟩,
  ⟨"NRG_COEF", 0x9000A4, [], [0x0],
    []⟩,
  ⟨"NRG_GRANT", 0x9000B0, [], [0x0],
    []⟩,
  ⟨"NRG_GRANT_COUNT", 0x9000B4, [], [0x0],
    []⟩,
  ⟨"NRG_INPUT_VMIN", 0x9000B8, [], [0xFFFF],
    [⟨15, 0, .rc, 0, 65535⟩]⟩,
  ⟨"NRG_INPUT_VMAX", 0x9000BC, [], [0x0],
    [⟨15, 0, .rc, 0, 65535⟩]⟩,
  ⟨"NRG_PLAN_STEP", 0x9000C0, [(4, 4)], [0x0],
    []⟩,
  ⟨"NRG_GRANT_WAIT", 0x9000D0, [(4, 5)], [0x0],
    [⟨31, 16, .rc, 0, 65535⟩]⟩,
  ⟨"NRG_PLAN_TERM", 0x900100, [(4, 11)], [0x0],
    []⟩,
  ⟨"NRG_E_DOM", 0x900140, [(4, 14)], [0x0],
    []⟩,
  ⟨"NRG_SHED_LOG", 0x900180, [(4, 8)], [0x0],
    []⟩]

/-- The registers of NRG. -/
def regsNrg : List RegDef := regsNrg0

/-- Registers of THM, part 1. -/
def regsThm0 : List RegDef := [
  ⟨"THM_CFG", 0xA00000, [], [0x800C3200],
    [⟨31, 31, .rwh, 0, 1⟩, ⟨23, 16, .rwh, 4, 30⟩, ⟨15, 8, .rwh, 10, 200⟩]⟩,
  ⟨"THM_STATUS", 0xA00004, [], [0x0],
    []⟩,
  ⟨"THM_RATE", 0xA00008, [], [0x0],
    []⟩,
  ⟨"THM_HK_STATUS", 0xA0000C, [], [0x1400],
    []⟩,
  ⟨"THM_SH", 0xA00010, [(4, 2)], [0x0],
    []⟩,
  ⟨"THM_TRIP_STATUS", 0xA00018, [], [0x0],
    []⟩,
  ⟨"THM_RESTART", 0xA0001C, [], [0x0],
    [⟨7, 0, .wo, 0, 255⟩]⟩,
  ⟨"THM_ROUND", 0xA00020, [], [0x0],
    []⟩,
  ⟨"THM_URGENT", 0xA00024, [], [0x0],
    []⟩,
  ⟨"THM_CLEAR", 0xA00028, [], [0x0],
    [⟨0, 0, .wo, 0, 1⟩]⟩,
  ⟨"THM_TH", 0xA0002C, [], [0x0],
    []⟩,
  ⟨"THM_TS", 0xA00040, [(4, 16)], [0x0],
    []⟩,
  ⟨"THM_RAIL", 0xA00080, [(4, 6)], [0x0],
    []⟩,
  ⟨"THM_AIN", 0xA000A0, [(4, 8)], [0x0],
    []⟩,
  ⟨"THM_AIN_CFG", 0xA000C0, [(4, 8)], [0x0],
    [⟨5, 3, .rw, 0, 6⟩, ⟨1, 0, .rw, 0, 2⟩]⟩]

/-- The registers of THM. -/
def regsThm : List RegDef := regsThm0

/-- Registers of MGT, part 1. -/
def regsMgt0 : List RegDef := [
  ⟨"MGT_BUDGET_ROW", 0xB00100, [], [0x0],
    []⟩,
  ⟨"MGT_BUDGET_NRG", 0xB00104, [], [0x0],
    []⟩,
  ⟨"MGT_SHED_STATUS", 0xB00108, [], [0x0],
    []⟩,
  ⟨"MGT_BUDGET_LANE", 0xB00110, [(4, 4)], [0x0],
    []⟩,
  ⟨"MGT_STATE", 0xB00200, [], [0x1000000],
    []⟩,
  ⟨"MGT_SLOT_STATUS", 0xB00204, [(4, 2)], [0x0],
    []⟩,
  ⟨"MGT_SLOT_SEQ", 0xB0020C, [(4, 2)], [0x0],
    []⟩,
  ⟨"MGT_BOOT_COUNT", 0xB00214, [], [0x0],
    []⟩,
  ⟨"MGT_OTP_STATUS", 0xB00218, [], [0x0],
    []⟩,
  ⟨"MGT_BOOT_CMD", 0xB0021C, [], [0x0],
    [⟨31, 24, .wo, 0, 255⟩, ⟨1, 0, .wo, 0, 3⟩]⟩,
  ⟨"MGT_SU_TIME", 0xB00220, [], [0xFFFFFFFF],
    []⟩,
  ⟨"MGT_CFG_DIGEST", 0xB00240, [(4, 16)], [0x0],
    []⟩,
  ⟨"MGT_NV_ADDR", 0xB00280, [], [0x0],
    [⟨24, 0, .rw, 0, 33554431⟩]⟩,
  ⟨"MGT_NV_CMD", 0xB00284, [], [0x0],
    [⟨31, 24, .wo, 0, 255⟩, ⟨1, 0, .wo, 0, 3⟩]⟩,
  ⟨"MGT_NV_STATUS", 0xB00288, [], [0x0],
    []⟩,
  ⟨"MGT_PAIR_STATUS", 0xB00290, [(4, 4)], [0x0],
    []⟩,
  ⟨"MGT_CFG_FAULT", 0xB002A0, [], [0x0],
    []⟩,
  ⟨"MGT_NV_BUF", 0xB00300, [(4, 64)], [0x0],
    [⟨31, 0, .rw, 0, 4294967295⟩]⟩,
  ⟨"MGT_ATT_NONCE", 0xB00400, [(4, 8)], [0x0],
    [⟨31, 0, .rw, 0, 4294967295⟩]⟩,
  ⟨"MGT_ATT_CMD", 0xB00420, [], [0x0],
    [⟨0, 0, .wo, 0, 1⟩]⟩,
  ⟨"MGT_ATT_STATUS", 0xB00424, [], [0x0],
    []⟩,
  ⟨"MGT_ATT_SEL", 0xB00428, [], [0x0],
    [⟨5, 0, .rw, 0, 63⟩]⟩,
  ⟨"MGT_ATT_DATA", 0xB00430, [(4, 4)], [0x0],
    []⟩,
  ⟨"MGT_SU_STEP", 0xB00480, [(4, 8)], [0xFFFFFFFF],
    []⟩]

/-- Registers of MGT, part 2. -/
def regsMgt1 : List RegDef := [
  ⟨"MGT_GEOM_DIGEST", 0xB004C0, [(4, 16)], [0x0],
    []⟩,
  ⟨"MGT_MB_CFG", 0xB00500, [], [0x40000000],
    [⟨31, 31, .rw, 0, 1⟩, ⟨30, 30, .rw, 0, 1⟩, ⟨29, 23, .rw, 0, 127⟩, ⟨22, 16, .rw, 0, 127⟩, ⟨15, 0, .rw, 0, 65535⟩]⟩,
  ⟨"MGT_MB_STATUS", 0xB00504, [], [0x1],
    []⟩,
  ⟨"MGT_MB_COUNT", 0xB00508, [(4, 4)], [0x0],
    []⟩,
  ⟨"MGT_MB_CLEAR", 0xB00518, [], [0x0],
    [⟨0, 0, .wo, 0, 1⟩]⟩,
  ⟨"MGT_REC_STATUS", 0xB00600, [], [0x7400],
    [⟨7, 4, .rc, 0, 15⟩]⟩,
  ⟨"MGT_REC_CURSOR", 0xB00604, [], [0x0],
    [⟨31, 0, .rw, 0, 4294967295⟩]⟩,
  ⟨"MGT_REC_SEEK", 0xB00608, [], [0x0],
    [⟨1, 0, .wo, 0, 3⟩]⟩,
  ⟨"MGT_REC_RSTAT", 0xB0060C, [], [0x0],
    []⟩,
  ⟨"MGT_REC_SEQ", 0xB00610, [], [0x0],
    []⟩,
  ⟨"MGT_REC_CFG", 0xB00614, [], [0x80001080],
    [⟨31, 31, .rw, 0, 1⟩, ⟨15, 8, .rw, 1, 255⟩, ⟨7, 0, .rw, 1, 133⟩]⟩,
  ⟨"MGT_REC_CREDIT", 0xB00618, [], [0x100000],
    []⟩,
  ⟨"MGT_REC_BACKLOG", 0xB0061C, [], [0x0],
    []⟩,
  ⟨"MGT_REC_SENT", 0xB00620, [(4, 8)], [0x0],
    []⟩,
  ⟨"MGT_REC_WIN", 0xB00640, [(4, 16)], [0x0],
    []⟩,
  ⟨"MGT_REC_MCOUNT", 0xB00680, [], [0x0],
    []⟩,
  ⟨"MGT_REC_CLEAR", 0xB00684, [], [0x0],
    [⟨1, 1, .wo, 0, 1⟩, ⟨0, 0, .wo, 0, 1⟩]⟩,
  ⟨"MGT_RST_CMD", 0xB00700, [], [0x0],
    [⟨31, 24, .wo, 0, 255⟩, ⟨19, 0, .wo, 0, 1048575⟩]⟩,
  ⟨"MGT_RST_STATUS", 0xB00704, [], [0x0],
    []⟩,
  ⟨"MGT_RST_CFG", 0xB00708, [], [0x8008000A],
    [⟨31, 31, .rw, 0, 1⟩, ⟨23, 16, .rw, 2, 255⟩, ⟨15, 0, .rw, 1, 1000⟩]⟩,
  ⟨"MGT_RST_LAST", 0xB0070C, [], [0x0],
    []⟩,
  ⟨"MGT_RST_COUNT", 0xB00710, [], [0x0],
    []⟩,
  ⟨"MGT_RST_HELD", 0xB00720, [(4, 4)], [0x0],
    []⟩,
  ⟨"MGT_SLOT_DIGEST", 0xB00800, [(64, 2), (4, 16)], [0x0],
    []⟩]

/-- The registers of MGT. -/
def regsMgt : List RegDef := regsMgt0 ++ regsMgt1

/-- The register definitions of domain `d`; page 0 stands as domain 0 (R528). -/
def regDefs : Nat → List RegDef
  | 0 => regsPage0
  | 1 => regsAry
  | 2 => regsCol
  | 3 => regsTbs
  | 4 => regsPip
  | 5 => regsAux
  | 6 => regsVdt
  | 7 => regsLnk
  | 8 => regsPen
  | 9 => regsNrg
  | 10 => regsThm
  | 11 => regsMgt
  | _ => []

/-- The element number of offset `off` in an array of dimensions `dims`, if the offset names an element. -/
def dimIndex : List (Nat × Nat) → Nat → Option Nat
  | [], off => if off = 0 then some 0 else none
  | (st, n) :: rest, off =>
    if off / st < n then
      match dimIndex rest (off % st) with
      | some j => some ((off / st) * (rest.map (·.2)).prod + j)
      | none => none
    else none

/-- The definition and element number at address `a` among `ds`. -/
def findIn (a : Nat) : List RegDef → Option (RegDef × Nat)
  | [] => none
  | d :: ds =>
    if d.base ≤ a then
      match dimIndex d.dims (a - d.base) with
      | some i => some (d, i)
      | none => findIn a ds
    else findIn a ds

/-- Sources of each domain (R501). -/
def evtCount : Nat → Nat
  | 1 => 18 | 2 => 40 | 3 => 20 | 4 => 30 | 5 => 24 | 6 => 28 | 7 => 36 | 8 => 34 | 9 => 16 | 10 => 22 | 11 => 20
  | _ => 0

/-- Event register base EB of each domain (R506). -/
def evtBase : Nat → Nat
  | 1 => 0x100400 | 2 => 0x203000 | 3 => 0x300200 | 4 => 0x400C00 | 5 => 0x500C00 | 6 => 0x600C00
  | 7 => 0x700C00 | 8 => 0x800C00 | 9 => 0x900C00 | 10 => 0xA00C00 | 11 => 0xB00C00
  | _ => 0

/-- A register of a domain's event block (R506). -/
inductive EvtReg
  | sum | pend (j : Nat) | drop | last | clear | cfg (i : Nat) | stat (i : Nat)
  deriving DecidableEq, Repr

/-- The event register at address `a`: its domain and which one it is (R506). -/
def findEvt (a : Nat) : Option (Nat × EvtReg) :=
  let d := a / 0x100000
  let eb := evtBase d
  let n := evtCount d
  if eb = 0 ∨ a < eb ∨ a % 4 ≠ 0 then none
  else
    let off := a - eb
    if off = 0 then some (d, .sum)
    else if off = 4 then some (d, .pend 0)
    else if off = 8 then some (d, .pend 1)
    else if off = 0xC then some (d, .drop)
    else if off = 0x10 then some (d, .last)
    else if off = 0x14 then some (d, .clear)
    else if 0x20 ≤ off ∧ off < 0x20 + 8 * n then
      let i := (off - 0x20) / 8
      if off % 8 = 0 then some (d, .cfg i) else some (d, .stat i)
    else none

/-- The register at address `a`, event registers apart. -/
def findReg (a : Nat) : Option (RegDef × Nat) := findIn a (regDefs (a / 0x100000))

/-- The event code of source `i` of domain `d` (R501). -/
def evtCode (d i : Nat) : Nat :=
  if d = 3 then (if i < 10 then 0x300 + i else 0x310 + (i - 10)) else d * 0x100 + i

/-- The source index of an event code within its domain (R501). -/
def evtIndex (code : Nat) : Nat :=
  if code / 0x100 = 3 then (if code % 0x100 < 16 then code % 0x100 else 10 + (code % 0x100 - 16)) else code % 0x100

/-- The sources that are privileged by default (R505). -/
def privDefault : List Nat :=
  [0x310, 0x311, 0x312, 0x313, 0x314, 0x315, 0x316, 0x317, 0x318, 0x319, 0x205, 0x209, 0x20C, 0x20D, 0x20E,
   0x904, 0x90C, 0xA05, 0xA09, 0xA0A, 0xA0C, 0xA0D, 0xB00, 0xB02, 0xB03, 0xB08, 0xB0F, 0xB10, 0xB11]

/-- Reset value of EVT_CFG of the source with this code (R506). -/
def evtCfgReset (code : Nat) : Nat :=
  if privDefault.contains code then 0xB8002010
  else if code = 0x304 ∨ code = 0xA07 ∨ code = 0xB12 then 0x98002010
  else 0x18002010

/-- Reset value of the register at address `a` (R534); 0 where no register is assigned (R529). -/
def resetOf (a : Nat) : Word :=
  match findEvt a with
  | some (d, .cfg i) => BitVec.ofNat 32 (evtCfgReset (evtCode d i))
  | some (_, .sum) => 0x0000FF00#32
  | some _ => 0
  | none =>
    match findReg a with
    | some (d, i) => BitVec.ofNat 32 (d.resets.getD i (d.resets.getD 0 0))
    | none => 0

/-- A register is assigned at address `a` (R529). -/
def assigned (a : Nat) : Bool := (findEvt a).isSome || (findReg a).isSome

/-- Elements of an array. -/
def RegDef.count (d : RegDef) : Nat := (d.dims.map (·.2)).prod

/-- Registers of domain `d` without its event registers (R537). -/
def regCount (d : Nat) : Nat := ((regDefs d).map RegDef.count).sum

end Sys2Proof
end

