-- ==== Sys2Proof/Machine/State.lean ====
section
/-! DEFINITION. The state of the block as plain data: every register, memory, FIFO, counter, mode and pin of the
spec, the free-value counter, and the queue of the commands that wait. Registers stand in `regs` by address; a
quantity that the spec names without a register has a field of its own. `State.reset` is the machine with its rails
up and nothing loaded, before start-up step 1. -/

namespace Sys2Proof.Machine

/-- Why a step stops with a fault. No command of this hardware stops the block, so no meaning raises one. -/
inductive Fault
  /-- Raised by nobody; safe, because no claim can rest on it. -/
  | neverRaised
  deriving DecidableEq, Repr

/-- Why a step has no meaning. -/
inductive Refusal
  /-- Raised by the dispatch of a command whose meaning is not written; safe. -/
  | notModelled (mnemonic : String)
  deriving DecidableEq, Repr

/-! ## Position timebase (02_position_timebase.md) -/

/-- A payload on a crosswind link (R342, R345, R346): the timebase packets of VC0, a record of VC1 and PAIR of VC2. -/
inductive XwMsg
  | bcast (tSend hops pathLat tCross l v p lsDelay : Nat) (stand fail : Bool) (dev : Nat)
  | beacon (tSend hops pathLat dev t : Nat)
  | announce (tSend hops pathLat dev t lsDelay : Nat)
  | record (typ site obj : Nat) (words : List (BitVec 128)) (contact : Nat × Nat)
  | pair (dev site link : Nat) (geom vdt : List Byte)
  deriving DecidableEq, Repr

/-- An entry of the line history (R53). -/
structure HistEnt where
  l : Nat
  p : Nat
  tl : Nat
  epoch : Nat
  gap : Bool
  deriving DecidableEq, Repr

/-- A boundary whose line start T_L has not come (R49, R50): line, P and T_cross; on a follower the T at which its
broadcast arrived, none where it made the boundary itself under a policy (R47); whether it is only an index that a broadcast
skipped, which has no start of its own (R66). -/
structure DueLine where
  l : Nat
  p : Nat
  tCross : Nat
  arr : Option Nat
  skip : Bool
  deriving DecidableEq, Repr

/-- Steps with one stamp (R55): T, P of the first and of the last of them. -/
structure StepStamp where
  t : Nat
  p0 : Nat
  p1 : Nat
  deriving DecidableEq, Repr

/-- An ON_FAIL policy in force (R47): 0 HOLD, 1 COAST, 2 SYN, and V before the failure. -/
structure SrcFailed where
  pol : Nat
  vBefore : Nat
  since : Nat
  deriving DecidableEq, Repr

/-- The timebase (R40-R66); `keepV` says that the source has returned and V keeps its value under the policy until two steps are
counted (R47). -/
structure Tbs where
  p : Nat
  q : Nat
  l : Nat
  v : Nat
  acc : Nat
  deficit : Nat
  revRun : Bool
  encT : Option Nat
  syncT : Option Nat
  rateAcc : Nat
  steps : List StepStamp
  lastBoundary : Option Nat
  due : List DueLine
  tl : Option Nat
  tlPrev : Option Nat
  hist : List HistEnt
  inService : Bool
  standstill : Bool
  stall : Bool
  runExpect : Bool
  syncOut : Bool
  failed : Option SrcFailed
  keepV : Bool
  stuck : Bool
  overrate : Bool
  dlHeld : List (Nat × Nat)
  deriving DecidableEq, Repr

/-- A timebase message accepted lately (R62): its T_SEND and kind, hop count and path latency of the copy in use, T of its
arrival. -/
structure CopySeen where
  key : Nat × Nat
  hops : Nat
  lat : Nat
  t : Nat
  deriving DecidableEq, Repr

/-- Group timing of a crosswind group (R61-R66): role in effect, path, lock, the offset that is still to be paid and
the cycle count of its payment, and what the group knows of its master. -/
structure Grp where
  role : Nat
  trained : Bool
  accepted : Bool
  noMaster : Bool
  masterLost : Bool
  tLoaded : Bool
  locked : Bool
  okRun : Nat
  badRun : Nat
  pay : Int
  cyc : Nat
  hops : Nat
  pathLat : Nat
  lastKey : Option (Nat × Nat)
  copies : List CopySeen
  lastRx : Option Nat
  rxT : Map Nat
  masterV : Nat
  lastTx : Option Nat
  multiMaster : Bool
  deriving DecidableEq, Repr

/-- The timebase at reset (R71): nothing in service. -/
def Tbs.reset : Tbs where
  p := 0
  q := 0
  l := 0
  v := 0
  acc := 0
  deficit := 0
  revRun := false
  encT := none
  syncT := none
  rateAcc := 0
  steps := []
  lastBoundary := none
  due := []
  tl := none
  tlPrev := none
  hist := []
  inService := false
  standstill := false
  stall := false
  runExpect := false
  syncOut := false
  failed := none
  keepV := false
  stuck := false
  overrate := false
  dlHeld := []

/-- Group timing at reset. -/
def Grp.reset : Grp where
  role := 0
  trained := false
  accepted := false
  noMaster := false
  masterLost := false
  tLoaded := false
  locked := false
  okRun := 0
  badRun := 0
  pay := 0
  cyc := 0
  hops := 0
  pathLat := 0
  lastKey := none
  copies := []
  lastRx := none
  rxT := []
  masterV := 0
  lastTx := none
  multiMaster := false

/-! ## Pixel array (03_pixel_array_exposure.md) -/

/-- A capture parameter set (R95): the 67 words of the staged block from ARY_STG_SLOT[0] to ARY_STG_EXP[8][2], in
address order, and the column amplifier gains COL_STG_CAG[0..8] (R134). -/
structure CapSet where
  w : List Nat
  cag : List Nat
  deriving DecidableEq, Repr

/-- A captured line whose illumination slots may still lie ahead (R81-R83, R88): line, epoch, T_L, its capture set, and the
transfer pulse width of the temperature band in force at T_L. -/
structure CapLine where
  l : Nat
  epoch : Nat
  tl : Nat
  set : CapSet
  txPw : Nat
  deriving DecidableEq, Repr

/-- A live epoch (R101): its number, its set, whether its L_apply has passed, and the last line captured under it. -/
structure LiveEpoch where
  e : Nat
  set : CapSet
  applied : Bool
  lastLine : Option Nat
  deriving DecidableEq, Repr

/-- A pending commit (R96, R98). -/
structure PendingCommit where
  set : CapSet
  lApply : Nat
  epoch : Nat
  frozen : Bool
  deriving DecidableEq, Repr

/-- A conversion sequence that runs (R84): line, its epoch, T_L, next conversion index, the temperature band and the
black clamp number of the line with line 1 of its sequence, whether it is the snapshot's. -/
structure ReadSeq where
  l : Nat
  epoch : Nat
  tl : Nat
  j : Nat
  tb : Nat
  blk : Nat
  blkL1 : Nat
  snap : Bool
  deriving DecidableEq, Repr

/-- The array (R72-R105): the set in force and its epoch, live epochs, pending commit, latest captured line with its epoch and
T_L and its set, the captured lines of late, newest first, conversion sequences in progress, slots that are open and the line of
each slot's latest opening, exposing row classes as 4 k + c, band lines held in the storage nodes, actual class durations under
64 L + 4 k + c where a slot edge was late, the pulse width of the latest transfer, the snapshot's progress, and the GAP lines,
each with its epoch, whose turn in the order of L has not come because an earlier line still converts (R141). -/
structure Ary where
  loaded : Bool
  set : CapSet
  epoch : Nat
  epochs : List LiveEpoch
  pend : Option PendingCommit
  lastCap : Option (Nat × Nat × Nat)
  capSet : CapSet
  flight : List CapLine
  reads : List ReadSeq
  slotOpen : List Nat
  slotLine : Map Nat
  exposing : List Nat
  nodes : Map Nat
  actual : Map Nat
  tb : Nat
  txPw : Nat
  snapReqT : Nat
  snapPend : Bool
  snapBusy : Bool
  snapStage : Nat
  snapT : Nat
  snapCfg : Nat
  snapSkipped : Nat
  rowDrvBad : List Nat
  gapsDue : List (Nat × Nat)
  deriving DecidableEq, Repr

/-- A set of zeros, as the active registers read before the section is loaded (R105). -/
def CapSet.zero : CapSet where
  w := List.replicate 67 0
  cag := List.replicate 9 0

/-- The array at reset. -/
def Ary.reset : Ary where
  loaded := false
  set := CapSet.zero
  epoch := 0
  epochs := []
  pend := none
  lastCap := none
  capSet := CapSet.zero
  flight := []
  reads := []
  slotOpen := []
  slotLine := []
  exposing := []
  nodes := []
  actual := []
  tb := 0
  txPw := 0
  snapReqT := 0
  snapPend := false
  snapBusy := false
  snapStage := 0
  snapT := 0
  snapCfg := 0
  snapSkipped := 0
  rowDrvBad := []
  gapsDue := []

/-! ## Column converters (04_column_converters.md) -/

/-- A shadow in progress (R125): column, spare, lines completed, whether a shadow line runs, the spare's TRIM at its
begin, the sums of AU's values and of the spare's untrimmed values, and whether a conversion disagreed. -/
structure Shadow where
  col : Nat
  spare : Nat
  line : Nat
  live : Bool
  trim0 : Nat
  sumYa : Int
  sumX : Int
  bad : Bool
  deriving DecidableEq, Repr

/-- A replacement of AU in progress (R128): the spare, cycles done, and for 8 places 2 gain + (K1) the sum and the number
of its reference values. -/
structure AuRepl where
  spare : Nat
  cycles : Nat
  sums : Map (Int × Nat)
  deriving DecidableEq, Repr

/-- The audit of the line in progress (R115, R118): whether a row was converted, whether one disagreed, whether AU was
outside REF_TOL, and the sum and number of AU's values. -/
structure AuditLine where
  made : Bool
  bad : Bool
  refOut : Bool
  sum : Int
  n : Nat
  deriving DecidableEq, Repr

/-- A slice (R106-R131). Converters are numbered 0-97 Cp, 98 AU, 99 SP1, 100 SP2. `serv` lists physical columns not
served by their own primary; `conv` lists converters whose state is not that of reset (0 in service, 1 available, 2
retired, 3 retired at calibration). `prov` holds the audits of the cycle, provisional until its reference check; `wait`
the indictments that wait as (0 AU, 1 gross, 2 suspicion; column); `due` a takeover at the next line boundary; `gross` the runs
of lines with an offset out of window, 255 one whose gross fault has been raised. -/
structure Slice where
  serv : Map Nat
  conv : Map Nat
  trim : Map Nat
  span : Map Nat
  bK0 : List Nat
  bK1 : List Nat
  susp : Map Nat
  audc : Map Nat
  au : Nat
  auMode : Nat
  audSusp : Nat
  passRun : Nat
  drvRun : Nat
  refSusp : Bool
  prov : List (Nat × Bool)
  line : AuditLine
  k0 : Option (Bool × Bool × Nat)
  k1 : Option (Bool × Bool × Nat)
  refResult : Nat
  gross : Map Nat
  wait : List (Nat × Nat)
  shadow : Option Shadow
  repl : Option AuRepl
  due : Option (Nat × Nat)
  defects : List Nat
  stage : Nat
  lastIndict : Nat
  audits : Nat
  disagree : Nat
  starve : Nat
  drift : Nat
  mean16 : Nat
  deriving DecidableEq, Repr

/-- Codes of one conversion: those listed by 128 slice + converter, and the code of every other. -/
structure Codes where
  m : Map Nat
  d : Nat
  deriving DecidableEq, Repr

/-- Tags of a line (R22, R100, R133): line, epoch, whether it is GAP, SETTLE bits, BLK_CONV, its capture set, and the bands that
their row drivers' reset kept from being captured, and the columns that COL reports to DEF as defective on it (R130), and the
sectors that a reset made INVALID while it was converted (R28, R523), and the energy steps shed at its T_L (R192). -/
structure LineTag where
  l : Nat
  epoch : Nat
  gap : Bool
  settle : Nat
  blk : Bool
  set : CapSet
  lost : Nat
  defs : List Nat
  invalid : Nat
  shed : Nat
  deriving DecidableEq, Repr

/-- The column domain: slices that differ from reset, the offset codes of the sequence in progress, the black clamp sequence (n
of its latest captured line, its line 1, whether it starts at the next captured line, D of the latest line), the temperature
band of the column path, tags of lines newest first, and the columns reported to DEF. -/
structure Col where
  slices : Map Slice
  offs : Codes
  blkN : Nat
  blkL1 : Nat
  blkArm : Bool
  blkD : Nat
  tb : Nat
  tags : List LineTag
  calibrated : Bool
  deriving DecidableEq, Repr

/-- A slice at reset (R139). -/
def Slice.reset : Slice where
  serv := []
  conv := []
  trim := []
  span := []
  bK0 := [0, 0, 0, 0]
  bK1 := [0, 0, 0, 0]
  susp := []
  audc := []
  au := 98
  auMode := 0
  audSusp := 0
  passRun := 0
  drvRun := 0
  refSusp := false
  prov := []
  line := ⟨false, false, false, 0, 0⟩
  k0 := none
  k1 := none
  refResult := 3
  gross := []
  wait := []
  shadow := none
  repl := none
  due := none
  defects := []
  stage := 0
  lastIndict := 127
  audits := 0
  disagree := 0
  starve := 0
  drift := 0
  mean16 := 0

/-- The column domain at reset. -/
def Col.reset : Col where
  slices := []
  offs := ⟨[], 0⟩
  blkN := 0
  blkL1 := 0
  blkArm := false
  blkD := 0
  tb := 0
  tags := []
  calibrated := false
/-! ## Main pipeline and output formatter (05_main_pipeline.md, 06_reconstruction_outputs.md) -/

/-- An entry of a sector unit's input FIFO (R141, R169): capture line, its epoch, the band of its DSNU table, whether it is the
line marker of a GAP line, whether it was discarded (R170, R523), whether its segment is INVALID because a slice was in reset
(R523), the band and row (none for the offset conversion) with the conversion index of R84, whether it is the last of its line,
the tags of the line, the columns whose converter changed at this line, the class duration as measured, and the samples by
column. -/
structure SecIn where
  l : Nat
  epoch : Nat
  tb : Nat
  mark : Bool
  bad : Bool
  inv : Bool
  row : Option (Nat × Nat)
  j : Nat
  last : Bool
  settle : Nat
  blk : Bool
  fresh : List Nat
  dur : Nat
  samples : Map Nat
  deriving DecidableEq, Repr

/-- A band line open in TDI in one sector (R147-R149): band and index; for each class the rows that contributed, the sum
of their durations and the saturation level of their table; sums S_c and saturation marks under key
18,432 class + column; contributions lost, whether one was lost in this sector, and the tags gathered. -/
structure OpenBL where
  k : Nat
  b : Nat
  n : List Nat
  dsum : List Nat
  satE : List Nat
  sums : Map Int
  marks : Map Nat
  lost : Nat
  lostHere : Bool
  settle : Bool
  blk : Bool
  deriving DecidableEq, Repr

/-- A closed segment in the write queue of COMP (R169): band, index, the capture line that closed it, epoch, codes by
sample number, whether it is INVALID and whether by DL_SECTOR (R68), tags. -/
structure Seg where
  k : Nat
  b : Nat
  l : Nat
  epoch : Nat
  codes : Map Nat
  invalid : Bool
  late : Bool
  short : Bool
  settle : Bool
  blk : Bool
  deriving DecidableEq, Repr

/-- A LEAD segment on its way to live segmentation (R159): band line, LIN20 samples by column, and its kind: 0
data, 1 INVALID, 2 empty. -/
structure LeadSeg where
  b : Nat
  samples : Map Nat
  kind : Nat
  deriving DecidableEq, Repr

/-- A band line in REG's one-line buffer of a band and sector (R166): index, codes by sample number, whether the segment is
INVALID or short, the tags of the band line. -/
structure BandBuf where
  b : Nat
  codes : Map Nat
  invalid : Bool
  late : Bool
  short : Bool
  settle : Bool
  blk : Bool
  deriving DecidableEq, Repr

/-- A sector unit of PIP (R140-R175): input FIFO, the lines whose conversions are being discarded (R170), the last line of which
a reset discards everything (R523), the offsets in use for the line in 1/256 LSB, the offset codes of the line, tracked offsets
O_c, open band lines, the next index to close for each band, the write queue, registered lines completed and not drawn, hot
column counts under 18,432 k + column, LEAD segments for VDT, the line in process, REG's one-line buffers by band, the
capture line that entered last, and the background gains that an update replaced: the line that had entered by then, the offset of
the entry in parameter memory and its old value, newest first (R156), and the capture line with which the sector was late last,
until a later one enters (R171). -/
structure Sec where
  fifo : List SecIn
  discard : List Nat
  skip : Option Nat
  oUse : Map Int
  oTrk : Map Int
  opened : List OpenBL
  nextB : Option (List Nat)
  wq : List Seg
  due : List Nat
  hot : Map (Nat × Bool)
  noNb : List Nat
  lead : List LeadSeg
  line : Nat
  buf : Map BandBuf
  entered : Option Nat
  bgOld : List (Nat × Nat × Nat)
  gone : Option Nat
  deriving DecidableEq, Repr

/-- A slot descriptor of the band store (R162). -/
structure Desc where
  index : Nat
  epoch : Nat
  written : Nat
  invalid : Nat
  late : Nat
  short : Nat
  settle : Bool
  blk : Bool
  deriving DecidableEq, Repr

/-- A registered line as REG draws it (R167): L, P, epoch, GAP, INVALID by sector, ABSENT by band (bits 9 and 10 the companion
bands), SETTLE and BLK_CONV by band, the short mask under 12 k + sector, epoch under which each band was captured, codes under
18,432 k + sample (k = 9, 10 the companion bands), labels and class map by column, the sectors whose accumulation is still to
come, whether the formatter has emitted it, the families that the planner had shed at its draw, the T of its emission trigger
(R181), the set of the line, the sets under which the samples of its captured bands lie, and the band line of its MOS samples. -/
structure RegLine where
  l : Nat
  p : Nat
  epoch : Nat
  gap : Bool
  invalid : Nat
  absent : Nat
  settle : Nat
  blk : Nat
  short : List Nat
  capEpoch : List Nat
  set : CapSet
  codes : Map Nat
  labels : Map Nat
  cls : Map Nat
  accLeft : List Nat
  emitted : Bool
  shed : Nat
  ports : Nat
  trigT : Nat
  own : List CapSet
  mosB : Nat
  deriving DecidableEq, Repr

/-- A registered line that the sectors are drawing (R165-R168): the line as far as it is drawn, the sectors that have drawn it,
and for each band the sectors in which a band line that it needs is missing (10th entry: the label line), those in which one is
INVALID, and those in which one is INVALID by DL_SECTOR (R24, R68). -/
structure RegPart where
  line : RegLine
  done : List Nat
  lack : List Nat
  inv : List Nat
  late : List Nat
  deriving DecidableEq, Repr

/-- A line unit on its way to the lane buffer (R190): family and plane, line, descriptor, format word, the descriptor of
the second line of a 4:2:0 pair, and the payload words. -/
structure LineUnit where
  family : Nat
  plane : Nat
  l : Nat
  desc : BitVec 128
  fmt : BitVec 128
  desc2 : Option (BitVec 128)
  payload : List (BitVec 128)
  deriving DecidableEq, Repr

/-- A row kept for ROW-RAW or a snapshot (R195, R196): capture line, epoch, whether its line is complete, band (15 the
offset conversion), row, class, gain bits, samples. -/
structure RawRow where
  l : Nat
  epoch : Nat
  k : Nat
  r : Nat
  cls : Nat
  hcg : Bool
  cag : Nat
  samples : Map Nat
  deriving DecidableEq, Repr

/-- The main pipeline: sector units that differ from reset, band-store samples under 18,432 slot position + sample and the slot
descriptors, parameter memory, the bands resident in the three DSNU slots, the band being loaded and the band whose table LIN
uses, columns whose converter changed since the last captured line, first captured line, the latest line drawn by all sectors,
the lines being drawn and the lines drawn, starvation counts of the background tracker under 18,432 k + column, defect columns
applied, the formatter's units and rows, the line from which families shed take effect, label lines that wait while the band store
control is in reset (index, epoch, labels by column; R523), and the bytes of the PIP sections that the formatter's transfer tables
were loaded with (R189). -/
structure Pip where
  sec : Map Sec
  store : Map Nat
  desc : Map Desc
  pmem : Map Byte
  dsnu : List (Option Nat)
  dsnuLoad : Option Nat
  linTb : Nat
  swapped : List Nat
  first : Option Nat
  drawn : Option Nat
  parts : List RegPart
  lines : List RegLine
  starve : Map Nat
  colDef : List Nat
  units : List LineUnit
  raw : List RawRow
  rawDone : List (Nat × Bool)
  rawMissEpoch : Option Nat
  snapRows : List RawRow
  snapL : Nat
  flushed : Bool
  pairC : Option (Nat × Bool × List Nat × BitVec 128)
  snapLossy : List Nat
  mosLost : List Nat
  labWait : List (Nat × Nat × Map Nat)
  tf : List Byte
  deriving DecidableEq, Repr

/-- A sector unit at reset. -/
def Sec.reset : Sec where
  fifo := []
  discard := []
  skip := none
  oUse := []
  oTrk := []
  opened := []
  nextB := none
  wq := []
  due := []
  hot := []
  noNb := []
  lead := []
  line := 0
  buf := []
  entered := none
  bgOld := []
  gone := none

/-- A descriptor at reset. -/
def Desc.reset : Desc where
  index := 0
  epoch := 0
  written := 0
  invalid := 0
  late := 0
  short := 0
  settle := false
  blk := false

/-- The main pipeline at reset. -/
def Pip.reset : Pip where
  sec := []
  store := []
  desc := []
  pmem := []
  dsnu := [none, none, none]
  dsnuLoad := none
  linTb := 0
  swapped := []
  first := none
  drawn := none
  parts := []
  lines := []
  starve := []
  colDef := []
  units := []
  raw := []
  rawDone := []
  rawMissEpoch := none
  snapRows := []
  snapL := 0
  flushed := false
  pairC := none
  snapLossy := []
  mosLost := []
  labWait := []
  tf := []

/-! ## Verdict engine (07_verdict_engine.md, 08_gust_verdicts_ejection.md) -/

/-- A LEAD segment after live segmentation (R201, R202): sector, band line, foreground runs of the sector, samples, kind
(0 data, 1 INVALID, 2 empty). -/
structure LeadIn where
  sec : Nat
  b : Nat
  runs : List (Nat × Nat)
  samples : Map Nat
  kind : Nat
  deriving DecidableEq, Repr

/-- A run of the previous processed LEAD band line (R203): columns and slot, none for an untracked run. -/
structure PrevRun where
  lo : Nat
  hi : Nat
  slot : Option Nat
  deriving DecidableEq, Repr

/-- The registered features of an object (R215). `p4` is in 1/16,000 column width; lists run over bands 0-10, the three
MM_BAND numbers and the 16 classes. -/
structure Feat where
  area : Nat
  sumC : Int
  sumL : Int
  p4 : Nat
  cMin : Int
  cMax : Int
  sum : List Int
  ssq : List Nat
  n : List Nat
  ln : List Nat
  al : List Nat
  mn : List Nat
  mx : List Nat
  cls : List Nat
  deriving DecidableEq, Repr

/-- The live copy (R215). -/
structure LiveFeat where
  area : Nat
  cMin : Int
  cMax : Int
  sum0 : Int
  n0 : Nat
  deriving DecidableEq, Repr

/-- The gust record issued for an object (R252, R262, R269): verdict, checkpoint, program, reason, predicted T_CROSS (the
whole T), ratio, predicted velocity v′ (2⁻²⁴ µm/µs), predicted windows (bank, opening tick, valves), and whether it has been
closed (R255). -/
structure GustRec where
  verdict : Nat
  cp : Nat
  prog : Nat
  reason : Nat
  tCross : Nat
  vr : Nat
  v : Nat
  wins : List (Nat × Int × List Nat)
  closed : Bool
  deriving DecidableEq, Repr

/-- An object of the table (R206-R219, R247-R253): ID, state (R210), root slot, first and last live line, live, registered and
gust copies, FLAGS, those of them that the live copy gathered (R251), peer (ID, site, verdict), sectors its runs touched,
reference column, δ at B_first, LEAD crossing in 1/16 line after B_first, TRL hit (line and δ), TRL crossing in 1/16 line after
L_FIRST, whether the watch failed or has ended, VRATIO, T_CROSS (the whole T), program, next checkpoint and whether the one
before it has given no verdict that does not fire (R249), gust record, edge contact ranges, own columns, lines counted in LN and
AL under 32 L + band (16 more for AL), own verdict (verdict, VSRC, reason), first and last registered line, T of the wait,
confirmed windows (bank, opening tick, closing tick, valves), the late-verdict decision (0 none, 1 fired on gust, 2 no fire),
whether it closed registered, and the T at which its verdict became final where it has to wait for its windows since (R266). -/
structure Obj where
  id : Nat
  st : Nat
  root : Nat
  bFirst : Nat
  bLast : Nat
  live : LiveFeat
  reg : Feat
  gust : Feat
  flags : Nat
  lflags : Nat
  peer : Option (Nat × Nat × Nat)
  secs : Nat
  cStar : Nat
  d0 : Nat
  eLead : Nat
  hit : Option (Nat × Nat)
  eTrl : Option Int
  watchBad : Bool
  vratio : Nat
  tCross : Nat
  prog : Option Nat
  cpNext : Nat
  cpBusy : Bool
  gustRec : Option GustRec
  edgeLo : Option (Nat × Nat)
  edgeHi : Option (Nat × Nat)
  own : Int × Int
  seen : List Nat
  verdict : Option (Nat × Nat × Nat)
  lFirst : Nat
  lLast : Nat
  waitT : Nat
  wins : List (Nat × Int × Int × List Nat)
  late : Nat
  closed : Bool
  finalT : Option Nat
  deriving DecidableEq, Repr

/-- An evaluation that waits (R228): slot and ID of the object, gust checkpoint (0 confirmed), commit time (none
unbounded), and the views of a gust evaluation as taken when the checkpoint fired. -/
structure QEnt where
  slot : Nat
  id : Nat
  cp : Nat
  commit : Option Int
  views : Map Nat
  deriving DecidableEq, Repr

/-- A fragment or partner record received and not yet matched: T of arrival, link, site, object, words, edge contact. -/
structure XwRec where
  t : Nat
  link : Nat
  site : Nat
  obj : Nat
  words : List (BitVec 128)
  contact : Nat × Nat
  deriving DecidableEq, Repr

/-- A reservation of the scheduler (R258): object ID and site, bank, whether it is OPEN, its source (0 gust ARM,
1 confirmed, 2 partner ARM, 3 FIRE on gust), valve positions in the bank, ticks from and to (exclusive), and the machine
columns of a partner ARM. -/
structure Resv where
  obj : Nat
  site : Nat
  bank : Nat
  opn : Bool
  src : Nat
  pos : List Nat
  lo : Int
  hi : Int
  deriving DecidableEq, Repr

/-- A valve framer (R256, R257): the last tick built or passed, and the frames still to be posted: tick, whether word 0
is posted, the words left. -/
structure Framer where
  last : Option Nat
  q : List (Nat × Bool × List Nat)
  deriving DecidableEq, Repr

/-- The verdict engine: objects by slot, next ID, runs of the previous processed line, that line, the
sectors missing on it, missing lines in a row,
LEAD segments that wait, last registered line of each sector, labels of the previous registered line, evaluation queue,
neighbour fragments and partner records, records on their way to LNK, reservations, framers, the tick last checked for
commit, clocks spent by the cores (core, T, clocks), pixels whose class table word was lost (line, column; R241). -/
structure Vdt where
  objs : Map Obj
  nextId : Nat
  prev : List PrevRun
  prevB : Option Nat
  prevMiss : Nat
  missing : Nat
  lead : List LeadIn
  accDone : Map Nat
  prevLab : Map Nat
  queue : List QEnt
  frags : List XwRec
  parts : List XwRec
  out : List (List (BitVec 128))
  resv : List Resv
  framers : Map Framer
  checked : Nat
  coreBusy : List (Nat × Nat × Nat)
  clsEcc : List (Nat × Nat)
  deriving DecidableEq, Repr

/-- Features of nothing. -/
def Feat.zero : Feat where
  area := 0
  sumC := 0
  sumL := 0
  p4 := 0
  cMin := 0
  cMax := 0
  sum := List.replicate 11 0
  ssq := List.replicate 11 0
  n := List.replicate 11 0
  ln := List.replicate 11 0
  al := List.replicate 11 0
  mn := [0xFFFFF, 0xFFFFF, 0xFFFFF]
  mx := [0, 0, 0]
  cls := List.replicate 16 0

/-- A slot without an object. -/
def Obj.reset : Obj where
  id := 0
  st := 0
  root := 0
  bFirst := 0
  bLast := 0
  live := ⟨0, 0, 0, 0, 0⟩
  reg := Feat.zero
  gust := Feat.zero
  flags := 0
  lflags := 0
  peer := none
  secs := 0
  cStar := 0
  d0 := 0
  eLead := 0
  hit := none
  eTrl := none
  watchBad := false
  vratio := 0x4000
  tCross := 0
  prog := none
  cpNext := 1
  cpBusy := false
  gustRec := none
  edgeLo := none
  edgeHi := none
  own := (0, 0)
  seen := []
  verdict := none
  lFirst := 0
  lLast := 0
  waitT := 0
  wins := []
  late := 0
  closed := false
  finalT := none

/-- A framer at reset. -/
def Framer.reset : Framer where
  last := none
  q := []

/-- The verdict engine at reset: the first object takes ID 1 (R207). -/
def Vdt.reset : Vdt where
  objs := []
  nextId := 1
  prev := []
  prevB := none
  prevMiss := 0
  missing := 0
  lead := []
  accDone := []
  prevLab := []
  queue := []
  frags := []
  parts := []
  out := []
  resv := []
  framers := []
  checked := 0
  coreBusy := []
  clsEcc := []

/-! ## Companion ports (09_companion_inputs.md) -/

/-- A context slot (R300): 0 free, 1 current, 2 pending, 3 retiring; source 0 start, 1 host, 2 temperature band, 3 loop;
K, exposures, gain, BLACK, epoch, and the first frame or line of effect. -/
structure AuxCtx where
  st : Nat
  src : Nat
  k : Nat
  expL : Nat
  expS : Nat
  gain : Nat
  black : Nat
  epoch : Nat
  eff : Nat
  deriving DecidableEq, Repr

/-- A change that waits or is being written (R301): source, K, exposures, gain, temperature band, epoch. -/
structure AuxChange where
  src : Nat
  k : Nat
  expL : Nat
  expS : Nat
  gain : Nat
  tb : Nat
  epoch : Nat
  deriving DecidableEq, Repr

/-- A line in a port's ring (R289, R294): frame, row, 16 λ (none when its stamp is older than the history), context slot, marks
(bit 0 CHK_ERR, 1 FILLED, 2 TRUNC), the short mark, the pixel words (2²⁰ plus the fill value for one that is missing), whether
the line has ended, and the T at which the engine has consumed it (none before a stripe with it is taken). -/
structure AuxLine where
  frame : Nat
  row : Nat
  lam : Option Nat
  ctx : Nat
  marks : Nat
  short : Bool
  words : List Nat
  done : Bool
  freeAt : Option Nat
  deriving DecidableEq, Repr

/-- A line between MERGE and STORE (R284-R286): frame, row, 16 λ, context slot, marks, LIN20 values (0xF_FFFF saturated), and
whether it has been emitted. -/
structure AuxRow where
  frame : Nat
  row : Nat
  lam : Option Nat
  ctx : Nat
  marks : Nat
  px : List Nat
  out : Bool
  deriving DecidableEq, Repr

/-- A line of the alignment store (R288): 16 λ, its context, marks, codes, and the frame and row it came from. -/
structure AuxStored where
  lam : Nat
  ctx : AuxCtx
  marks : Nat
  codes : List Nat
  frame : Nat
  row : Nat
  deriving DecidableEq, Repr

/-- A companion port with its controller and join: frame in progress (FVAL), FVAL and LVAL edges counted, T of the latest FVAL
and LVAL edge, lines of the frame and its marks (SHORT, LONG, CHK_ERR), the line in progress, ring, the stripes (frame, stripe)
dropped of frames not yet through the engine, rows carried to the next stripe, a long line without its partner yet (its linear
values), stored lines oldest first, 16 λ of the previous stored line, pixels stored of the latest frame (frame, sum of LIN20 −
PED, number), frames since the loop's turn, the frame whose turn waits for its last line (R306), context slots, epoch of the
latest host change, a committed host change that has not reached L_apply, changes that wait in order of arrival, the change
being written, what the bus is doing (0 idle, 1 a change, 2 the rewrite of the current context, 3 discovery), its transactions,
whether the front one is being repeated, restarts after contention, the hang cure and discovery that are due (`cure`: 0 none, 1
of start-up, 2 after a reset of the controller), the ID read that is first in `tx` (`ident`: the ID that the companion holds,
and whether it acknowledges its address), whether discovery succeeded, absent, silent. -/
structure AuxPort where
  fval : Bool
  frames : Nat
  lvals : Nat
  tF : Nat
  tL : Option Nat
  rows : Nat
  fLong : Bool
  fChk : Bool
  cur : Option AuxLine
  ring : List AuxLine
  drops : List (Nat × Nat)
  carry : List AuxRow
  long : Option (AuxRow × List (Option Nat))
  store : List AuxStored
  lastLam : Option Nat
  acc : Nat × Int × Nat
  sinceLoop : Nat
  loopDue : Option Nat
  ctx : List AuxCtx
  epoch : Nat
  host : Option AuxChange
  wait : List AuxChange
  change : Option AuxChange
  bus : Nat
  tx : List (List Byte)
  rep : Bool
  restarts : Nat
  cure : Nat
  ident : Option (Nat × Bool)
  discOk : Bool
  absent : Bool
  silent : Bool
  deriving DecidableEq, Repr

/-- The auxiliary pipeline: ports 0 and 1, table memory (R314), for each half of the engine the port served last and whether
a stripe of it is in progress (port, frame, stripe, T of its first line, T of its end), and the times spent (half, T, 5 ns). -/
structure Aux where
  ports : List AuxPort
  tmem : Map Byte
  last : Nat
  prog : List (Nat × Nat × Nat × Nat × Nat)
  busy : List (Nat × Nat × Nat)
  deriving DecidableEq, Repr

/-- A free context. -/
def AuxCtx.reset : AuxCtx where
  st := 0
  src := 0
  k := 0
  expL := 0
  expS := 0
  gain := 0
  black := 0
  epoch := 0
  eff := 0

/-- A port at reset. -/
def AuxPort.reset : AuxPort where
  fval := false
  frames := 0
  lvals := 0
  tF := 0
  tL := none
  rows := 0
  fLong := false
  fChk := false
  cur := none
  ring := []
  drops := []
  carry := []
  long := none
  store := []
  lastLam := none
  acc := (0, 0, 0)
  sinceLoop := 0
  loopDue := none
  ctx := List.replicate 4 AuxCtx.reset
  epoch := 0
  host := none
  wait := []
  change := none
  bus := 0
  tx := []
  rep := false
  restarts := 0
  cure := 1
  ident := none
  discOk := false
  absent := false
  silent := false

/-- The auxiliary pipeline at reset. -/
def Aux.reset : Aux where
  ports := [AuxPort.reset, AuxPort.reset]
  tmem := []
  last := 0
  prog := []
  busy := []


/-! ## Serial lanes (10_serial_lanes.md R315-R341, R354) -/

/-- A Fraral packet (R320-R324): type, class, type-specific header bits [75:18] as a number, payload, the SEQ of its first
launch, whether it is a repeat. -/
structure LPkt where
  typ : Nat
  cls : Nat
  spec : Nat
  payload : List (BitVec 128)
  seq : Option Nat
  resent : Bool
  deriving DecidableEq, Repr

/-- What waits in a class queue of a lane set (R329-R331): the packets of one unit, or one RECORDS packet; T of admission,
the frame number of a snapshot row, and whether a packet of it has been launched. -/
structure LUnit where
  t : Nat
  snap : Option Nat
  begun : Bool
  pkts : List LPkt
  deriving DecidableEq, Repr

/-- A map change that waits (R336, R337): the lane that leaves (31 none), the cause of R335, whether it is sudden, the lane
that comes in (31 none), and the SWN after which a planned one takes effect, once its LANE_MAP has been launched. -/
structure MapChange where
  lane : Nat
  cause : Nat
  sudden : Bool
  into : Nat
  eff : Option Nat
  deriving DecidableEq, Repr

/-- The RECORDS packet that is open (R324): T of its first record, records, words. -/
structure OpenRecs where
  t : Nat
  n : Nat
  words : List (BitVec 128)
  deriving DecidableEq, Repr

/-- A lane set (R316-R341): stage (0 idle, 1 bring-up, 2 up), whether units are admitted, down, data slots, spares and failed
lanes (physical lanes), MAP_SEQ, SWN, SEQ, data rows since the last ALIGN row, sudden faults and planned moves that wait,
LANE_MAP and STATUS packets that wait, the four class queues, repeats that lead their classes, the open RECORDS packet, the
words left of the packet in progress, the packets launched within the resend window with T of their last row, classes dropped
and the line from which each is (P3, P2, P1), packets sent again since the last event 0x70D, L_EFF, whether R332 is due, T of
the last STATUS, the families discarded by R328. -/
structure LaneSet where
  stage : Nat
  admits : Bool
  down : Bool
  calm : Bool
  slots : List Nat
  spares : List Nat
  failed : List Nat
  mapSeq : Nat
  swn : Nat
  seq : Nat
  rows : Nat
  faults : List MapChange
  planned : Option MapChange
  wants : List MapChange
  maps : List MapChange
  status : List (BitVec 128)
  q : List (List LUnit)
  resend : List LPkt
  recs : Option OpenRecs
  cur : Option LPkt
  left : List (BitVec 128)
  hist : List (Nat × LPkt)
  drop : Nat
  dropL : List Nat
  reDone : Nat
  lEff : Nat
  lossDue : Bool
  statusT : Nat
  routeDead : List Nat
  deriving DecidableEq, Repr

/-- The serial lanes (R315-R341): the lane sets by number, lanes whose function has been reset since they failed, payload of the
latest STATUS of any set, the scrambler of each lane, the PRBS31 generator of each lane under test, the blocks (sync header,
scrambled payload) that each data lane 0-23, and link lane XWn as 24 + n, sent in the last command that made it send, the lane
sets whose start check has run, lanes that send PRBS31, and the keys of the packets that were kept (R346). -/
structure Lnk where
  sets : Map LaneSet
  returned : List Nat
  ann : BitVec 128
  scr : Map Nat
  gen : Map Nat
  wire : Map (List (Nat × Nat))
  checked : List Nat
  prbs : List Nat
  seen : List (Nat × Nat × Nat)
  maxFill : Nat
  deriving DecidableEq, Repr

/-- A lane set at reset: idle. -/
def LaneSet.reset : LaneSet where
  stage := 0
  admits := false
  down := false
  calm := false
  slots := []
  spares := []
  failed := []
  mapSeq := 0
  swn := 0
  seq := 0
  rows := 0
  faults := []
  planned := none
  wants := []
  maps := []
  status := []
  q := [[], [], [], []]
  resend := []
  recs := none
  cur := none
  left := []
  hist := []
  drop := 0
  dropL := [0, 0, 0]
  reDone := 0
  lEff := 0
  lossDue := false
  statusT := 0
  routeDead := []

/-- The serial lanes at reset. -/
def Lnk.reset : Lnk where
  sets := []
  returned := []
  ann := 0
  scr := []
  gen := []
  wire := []
  checked := []
  prbs := []
  seen := []
  maxFill := 0

/-! ## Crosswind link lanes (10_serial_lanes.md R342-R351) -/

/-- A crosswind link lane XWn: state (0 off, 1 training, 2 up, 3 down, 4 failed), word lock, credits initialised, re-adaptation
requested and running, cumulative words sent, freed by the peer and freed here for each virtual channel, words received, send
queues of the channels, SEQ, whether the pair is accepted, the peer, whether its VDT digest differs, peaking of the main and the
shadow path, the best swept setting that waits for its swap, the run of low FOMs, the lowest main FOM since the last read, the T
of its last loss, sweep block and failed lock, the words of the packet launched last, the words that a VC1 or VC2 packet in
progress still has to send, whether the last training found no peer, block 1 of the last CREDIT position, and whether the record
in front has been counted as stalled. -/
structure XwLane where
  st : Nat
  lock : Bool
  credInit : Bool
  wantAdapt : Bool
  adapting : Bool
  sent : List Nat
  freedPeer : List Nat
  freedOwn : List Nat
  freedTold : List Nat
  q0 : List XwMsg
  q1 : List XwMsg
  q2 : List XwMsg
  seq : Nat
  recv : List Nat
  accepted : Bool
  peer : Nat
  digestBad : Bool
  ownBad : Bool
  mainPk : Nat
  shadowPk : Nat
  bestPk : Option Nat
  lowRun : Nat
  low : Option Nat
  downT : Nat
  sweepT : Option Nat
  lastWords : List (BitVec 128)
  left : List (BitVec 128)
  noPeer : Bool
  credit : Nat
  stalled : Bool
  deriving DecidableEq, Repr

/-- A link lane at reset. -/
def XwLane.reset : XwLane where
  st := 0
  lock := false
  credInit := false
  wantAdapt := false
  adapting := false
  sent := [0, 0, 0]
  freedPeer := [0, 0, 0]
  freedOwn := [0, 0, 0]
  freedTold := [0, 0, 0]
  q0 := []
  q1 := []
  q2 := []
  seq := 0
  recv := [0, 0, 0]
  accepted := false
  peer := 0
  digestBad := false
  ownBad := false
  mainPk := 0
  shadowPk := 0
  bestPk := none
  lowRun := 0
  low := none
  downT := 0
  sweepT := none
  lastWords := []
  left := []
  noPeer := false
  credit := 0
  stalled := false

/-! ## Pin engines, pins and strobes (11_pin_engines.md) -/

/-- A pin engine (R359-R371): STATE as PEN_ENG_STATUS numbers it, PC as an offset from BASE, remaining post-step delay, X, Y,
OSR, ISR, C0, C1, LASTIN, the deadline with its target and whether a load of T passed it, the two FIFOs, the output register,
whether its program has changed since it last halted, its CHANGED flag, the bits left of a SHIFT and whether the active phase of
the current bit has begun, whether a waiting step has begun with the T, line start and edge it watches, and the accumulator of
its clock divider in 1/256. -/
structure Engine where
  st : Nat
  pc : Nat
  delay : Nat
  x : Nat
  y : Nat
  osr : Nat
  isr : Nat
  c0 : Nat
  c1 : Nat
  lastIn : Nat
  dl : Option (Nat × Nat)
  inF : List Nat
  outF : List Nat
  out : Nat
  dirty : Bool
  changed : Bool
  shift : Option (Nat × Bool)
  begun : Bool
  from0 : Nat
  lineFrom : Option Nat
  edge : Bool
  acc : Nat
  jumped : Bool
  deriving DecidableEq, Repr

/-- A strobe output (R376-R379): active, T at which it became active, the 1 ms window of T and the active time in it,
whether the duty limit holds it inactive, whether its sense check was made in the round in progress, and whether the pulse began
before the line start of its line. -/
structure Strobe where
  on : Bool
  ahead : Bool
  onT : Nat
  win : Nat
  used : Nat
  capped : Bool
  sensed : Bool
  deriving DecidableEq, Repr

/-- The monitors of a pin (R373, R374): edges in the rate window in progress, OVERRATE, the T of the last filtered edge,
whether motion is expected and since when, STUCK. -/
structure PinMon where
  count : Nat
  overrate : Bool
  edgeT : Nat
  expect : Bool
  expectT : Nat
  stuck : Bool
  deriving DecidableEq, Repr

/-- What was done to the signal bus in one base cycle (R365): T of the cycle, none when nothing has been done; the bus before
it; the host write, the CLR and the SET masks of the cycle. -/
structure SigCycle where
  at? : Option Nat
  was : Nat
  host : Option Nat
  clr : Nat
  set : Nat
  deriving DecidableEq, Repr

/-- No change of the signal bus. -/
def SigCycle.reset : SigCycle where
  at? := none
  was := 0
  host := none
  clr := 0
  set := 0

/-- Pin engines, pins and strobes (R355-R383): engines, step words, signal bus, what was done to it in its latest cycle,
filtered levels (bit p of pin p), monitors and strobes that differ from reset, edges posted to the timebase and not yet there
(true forward), whether the pins are at high impedance (R357), whether the base clock is unlocked (R380), whether the strobes
are forced inactive (R378), whether they wait for an engine to be started after a clock fault (R380), and the levels that the pins
were last driven to (R357). -/
structure Pen where
  eng : Map Engine
  pmem : Map Word
  sig : Nat
  sigCyc : SigCycle
  level : Nat
  mons : Map PinMon
  strobes : Map Strobe
  posted : List Bool
  hiz : Bool
  clockBad : Bool
  forcedOff : Bool
  awaitStart : Bool
  last : Nat
  deriving DecidableEq, Repr

/-- A pin engine at reset: halted. -/
def Engine.reset : Engine where
  st := 0
  pc := 0
  delay := 0
  x := 0
  y := 0
  osr := 0
  isr := 0
  c0 := 0
  c1 := 0
  lastIn := 0
  dl := none
  inF := []
  outF := []
  out := 0
  dirty := false
  changed := false
  shift := none
  begun := false
  from0 := 0
  lineFrom := none
  edge := false
  acc := 0
  jumped := false

/-- A strobe at reset: inactive. -/
def Strobe.reset : Strobe := ⟨false, false, 0, 0, 0, false, false⟩

/-- The monitors of a pin at reset. -/
def PinMon.reset : PinMon := ⟨0, false, 0, false, 0, false⟩

/-- Pins at reset: high impedance until the PEN section is loaded (R357). -/
def Pen.reset : Pen where
  eng := []
  pmem := []
  sig := 0
  sigCyc := SigCycle.reset
  level := 0
  mons := []
  strobes := []
  posted := []
  hiz := true
  clockBad := false
  forcedOff := false
  awaitStart := false
  last := 0

/-! ## Energy (12_energy.md) -/

/-- A grant that waits or runs (R397): its order 1-5, who asked (link number for order 3, kind of flash work for 1 and 2),
T of the request, and whether event 0x907 has been raised for it. -/
structure Grant where
  order : Nat
  who : Nat
  t : Nat
  long : Bool
  deriving DecidableEq, Repr

/-- The input meter, ledger, planner and power-fail sequencer (R384-R403): products V × I of the last second's samples, newest
first; the meter's health; product sums of the ledger entry, whether the meter was out of service in it, and since power-on;
steps shed by the plan and by the guard and those decided for the next line boundary with their causes; admission; breach and
since when its condition is absent; band of the coefficients in use; the shed log; grants waiting and running; the ledger,
newest first; T of the last entry; whether a grant ran in it; sums of the ledger fields in µJ; the divergence window and the T
of the last 0x908; T since which P100 is above W_env and since which a step could be restored; the power-fail phase (0 normal, 1
below threshold, 2 qualified, 3 seal, 4 held in reset) and the T of its crossing; the codes that the next start raises (R400,
R401); whether the reduced envelope of R427 and the TB4 coefficients of R422 are in force, and whether a re-check waits for the
next line boundary (R406); the NRG section of the image in force (R391). -/
structure Nrg where
  samples : List Nat
  meterOk : Bool
  acc : Nat
  accBad : Bool
  total : Nat
  planShed : Nat
  guardShed : Nat
  planNext : Option Nat
  guardNext : Option Nat
  admitted : Bool
  checked : Bool
  planBad : Bool
  breach : Bool
  clearT : Option Nat
  tb : Nat
  log : List Nat
  waiting : List Grant
  running : List Grant
  ledger : List (List Nat)
  closeT : Nat
  granted : Bool
  sums : List Nat
  divMeas : Nat
  divModel : Nat
  divT : Nat
  divLast : Option Nat
  aboveT : Option Nat
  roomT : Option Nat
  pf : Nat
  pfT : Nat
  due : List Nat
  cutNow : Bool
  tb4Now : Bool
  recheck : Bool
  sect : List Byte
  deriving DecidableEq, Repr

/-- Energy at reset: nothing metered, nothing shed. -/
def Nrg.reset : Nrg where
  samples := []
  meterOk := false
  acc := 0
  accBad := false
  total := 0
  planShed := 0
  guardShed := 0
  planNext := none
  guardNext := none
  admitted := false
  checked := false
  planBad := false
  breach := false
  clearT := none
  tb := 0
  log := []
  waiting := []
  running := []
  ledger := []
  closeT := 0
  granted := false
  sums := []
  divMeas := 0
  divModel := 0
  divT := 0
  divLast := none
  aboveT := none
  roomT := none
  pf := 0
  pfT := 0
  due := []
  cutNow := false
  tb4Now := false
  recheck := false
  sect := []

/-! ## Housekeeping and thermal management (13_thermal_housekeeping.md) -/

/-- An urgent request (R417): priority 1 thermal confirmation, 2 strobe fault check, 3 reserve check; its channel (multiplexer
× 32 + index), and the sensor or strobe that asks. -/
structure Urgent where
  prio : Nat
  chan : Nat
  who : Nat
  deriving DecidableEq, Repr

/-- A housekeeping converter (R413-R421): visits left in the round (the first is in progress), conversions still to be
discarded before its delivered one, how often that visit was aborted, the urgent request being served with whether its
settling conversion is done, the requests that wait, suspect rounds, whether it is faulty, passed rounds since its reset, whether
it is returning, and whether it was in reset in the round in progress. -/
structure Conv where
  visits : List Nat
  settle : Nat
  aborts : Nat
  serving : Option (Urgent × Bool)
  queue : List Urgent
  susp : Nat
  faulty : Bool
  passes : Nat
  returning : Bool
  part : Bool
  deriving DecidableEq, Repr

/-- An auxiliary input AINn (R414, R416): the configuration in force, the latest delivered results, newest first, rounds since
the last change, and whether its next visit discards two conversions. -/
structure Ain where
  cfg : Nat
  vals : List Nat
  since : Nat
  twice : Bool
  deriving DecidableEq, Repr

/-- Housekeeping and thermal management (R410-R440): the band in force and the one decided; the two converters; urgent requests
asked for and not yet at a converter; whether a round runs and since when; results of the round by channel; rounds completed;
duration of the last in ms; whether a round has missed 2P and whether this one has (R418); inconclusive monitor rounds and
whether the monitor is implausible; latest readings, exclusions, out-of-range readings, out rounds and good rounds of the
sensors; re-conversions taken in this round; TS-H1 and TS-H2; both converters faulty; the THM fault and ENV_CUT; T_max, the
largest raw reading, R, and the history of T_max with whether exclusions had changed; the rise alarm and its counts; the orderly
stop (0 none, 1 confirmation asked, 2 stopping, 3 cut, 4 CALM), the hottest sensor and T of confirmation; out-of-band counts and
excursions of the rails; the auxiliary inputs; T below 90 °C since; the always-on island: trip stage (0 none, 1 flash hold, 2
island only), its clock offset, trip times, latch, last comparator and hold, comparator tests, orderly stops and trips since
power-on, the trip record that waits for the restart, and whether the device has just left CALM. -/
structure Thm where
  tb : Nat
  tbNext : Option Nat
  conv : List Conv
  asked : List Urgent
  running : Bool
  t0 : Nat
  res : Map Int
  rounds : Nat
  lastMs : Nat
  missed : Bool
  late : Bool
  monRounds : Nat
  monImpl : Bool
  ts : List Int
  excl : List Nat
  oor : List Nat
  outN : List Nat
  goodN : List Nat
  reconv : Map Int
  th : List Int
  fault : Bool
  envCut : Bool
  bothBad : Bool
  tMax : Int
  raw : Int
  rate : Int
  hist : List (Nat × Int × Bool)
  rise : Bool
  riseN : Nat
  fallN : Nat
  stop : Nat
  hot : Nat
  stopT : Nat
  railN : List Int
  railX : List Bool
  ain : Map Ain
  coolT : Option Nat
  trip : Nat
  island : Int
  tripTimes : List Nat
  latched : Bool
  lastH2 : Bool
  lastHold : Bool
  cmpTest : Nat
  stops : Nat
  trips : Nat
  tripRec : Option (Nat × Bool × Bool × Bool)
  leftCalm : Bool
  deriving DecidableEq, Repr

/-- A converter at reset: healthy, idle. -/
def Conv.reset : Conv := ⟨[], 0, 0, none, [], 0, false, 0, false, false⟩

/-- An auxiliary input at reset. -/
def Ain.reset : Ain := ⟨0, [], 0, false⟩

/-- Thermal management at reset. -/
def Thm.reset : Thm where
  tb := 0
  tbNext := none
  conv := [Conv.reset, Conv.reset]
  asked := []
  running := false
  t0 := 0
  res := []
  rounds := 0
  lastMs := 0
  missed := false
  late := false
  monRounds := 0
  monImpl := false
  ts := List.replicate 16 0
  excl := []
  oor := []
  outN := List.replicate 16 0
  goodN := List.replicate 16 0
  reconv := []
  th := [0, 0]
  fault := false
  envCut := false
  bothBad := false
  tMax := 0
  raw := 0
  rate := 0
  hist := []
  rise := false
  riseN := 0
  fallN := 0
  stop := 0
  hot := 0
  stopT := 0
  railN := List.replicate 12 0
  railX := List.replicate 12 false
  ain := []
  coolT := none
  trip := 0
  island := 0
  tripTimes := []
  latched := false
  lastH2 := false
  lastHold := false
  cmpTest := 0
  stops := 0
  trips := 0
  tripRec := none
  leftCalm := false

/-! ## Configuration, start-up, flash, attestation (14_configuration_boot.md) -/

/-- MGT_STATE.STATE (R471). -/
inductive DevState
  | boot | starting | ready | run | safe | calm | tripLatch
  deriving DecidableEq, Repr

/-- An entry of the held table of contents (R446). -/
structure TocEnt where
  typ : Nat
  index : Nat
  target : Nat
  offset : Nat
  length : Nat
  digest : List Byte
  deriving DecidableEq, Repr

/-- A flash operation in flight (R443, R458): 0 pass-through program, 1 pass-through erase, 2 mirror program, 3 mirror erase, 4
boot-count program, 5 boot-count erase, 6 identity program, 7 identity erase, 8 pass-through read, 9 an erase made again after a
restart; its address and data, and whether its grant runs. -/
structure NvOp where
  kind : Nat
  addr : Nat
  data : List Byte
  granted : Bool
  deriving DecidableEq, Repr

/-- Configuration loader, flash, attestation and start-up sequencer (R441-R471). OTP bits burned in service stand in `rbBurned`
(RB_COUNT reached) and `revBurned` beside the OTP constants of Config. `step` is the start-up step, 0 while the device is held
in reset; `nvOp` is the host's pass-through operation, `devOps` the device's own flash operations in order, the first in hand;
`tried` lists the slots tried in this start; `roll`, `revoke` and `autoCommit` are those of the active image; `counted` says
that the boot count of this start was taken; `downBy` says why the device is held in reset: 0 the input fell before power-good
(R546), 1 nRESET low, 2 REFCLK lost; `nvStack` lists the operations begun on the NV port, the one in hand first, those that it
suspended behind it (R443); `eraseDue` the sectors whose erase a power-fail or a trip abandoned (R402, R433); `attCut` says that
a restart cut a signing short (R467). -/
structure Mgt where
  state : DevState
  step : Nat
  slot : Nat
  fallback : Bool
  keySlot : Nat
  loaded : Bool
  loadedFids : List Nat
  toc : List TocEnt
  seqA : Nat
  flash : Map Byte
  sfdpOk : Bool
  rbBurned : Nat
  revBurned : Nat
  verify : Option Nat
  nvOp : Option NvOp
  devOps : List NvOp
  stepsDone : List Nat
  capturing : Bool
  captured : Nat
  startT : Int
  downBy : List Nat
  bootCount : Nat
  faultHold : List Nat
  attBusy : Bool
  attGranted : Bool
  attReport : List Byte
  attSig : List Byte
  tripTestBad : Nat
  geom : List Byte
  geomDigest : List Byte
  vdtDigest : List Byte
  cfgDigest : List Byte
  tried : List Nat
  roll : Nat
  revoke : Nat
  autoCommit : Bool
  counted : Bool
  nvStack : List Nat
  eraseDue : List Nat
  attCut : Bool
  deriving DecidableEq, Repr

/-! ## Management bus (15_management_bus.md) -/

/-- The MB target (R472-R493): register pointer, Lull, in-band request state, the attention byte last sent, and what the target
answered on the bus in the last transaction; `hung` says that SCL stays low in the middle of one (R486). `ack` says that every
byte was acknowledged, `resp` holds the bytes the device drove. -/
structure Mb where
  ptr : Nat
  lull : Bool
  ibr : Nat
  ibrTries : Nat
  ibrActive : Bool
  lastAddr : Int
  ack : Bool
  resp : List Byte
  ibrSent : List Byte
  strap : Nat
  pecStrap : Bool
  hung : Bool
  deriving DecidableEq, Repr

/-- Management at reset (R471): BOOT, start-up step 1. Flash starts erased (log entry 3). -/
def Mgt.reset : Mgt where
  state := .boot
  step := 1
  slot := 0
  fallback := false
  keySlot := 0
  loaded := false
  loadedFids := []
  toc := []
  seqA := 0
  flash := []
  sfdpOk := false
  rbBurned := 0
  revBurned := 0
  verify := none
  nvOp := none
  devOps := []
  stepsDone := []
  capturing := false
  captured := 0
  startT := 0
  downBy := []
  bootCount := 0
  faultHold := []
  attBusy := false
  attGranted := false
  attReport := []
  attSig := []
  tripTestBad := 0
  geom := []
  geomDigest := []
  vdtDigest := []
  cfgDigest := []
  tried := []
  roll := 0
  revoke := 0
  autoCommit := false
  counted := false
  nvStack := []
  eraseDue := []
  attCut := false

/-- The MB target at reset (R479): pointer 0x00_0000. Straps are sampled in start-up step 1. -/
def Mb.reset : Mb where
  ptr := 0
  lull := false
  ibr := 0
  ibrTries := 0
  ibrActive := false
  lastAddr := 0
  ack := false
  resp := []
  ibrSent := []
  strap := 0
  pecStrap := false
  hung := false


/-! ## Event tree, recorder, resets (16_events_resets.md) -/

/-- A record offered to the recorder (R502, R508): code, function, T, S and L of the occurrence, coordinate,
arguments A0.., whether its source is privileged and whether it is to be mirrored. -/
structure Rec where
  code : Nat
  fid : Nat
  t : Nat
  s : Nat
  l : Nat
  ctag : Nat
  coord : Nat
  args : List Nat
  priv : Bool
  mir : Bool
  rep : Nat
  deriving DecidableEq, Repr

/-- One event source (R502, R509, R512, R566): pending bit, OCCUR, DROPS, tokens spent (in 1/200,000,000 of a token)
and the T of that account, pending repeat count, and the record that waits while the recorder takes none, with the
order number in which it was raised. -/
structure Src where
  pend : Bool
  occur : Nat
  drops : Nat
  deficit : Nat
  defT : Nat
  rep : Nat
  wait : Option (Nat × Rec)
  deriving DecidableEq, Repr

/-- A record held in the ring (R507, R510, R517): first granule, granules, SEQ, key, whether it is privileged, whether
it is to be mirrored, whether its present form is in the mirror, and when it was mirrored last. -/
structure RingRec where
  pos : Nat
  len : Nat
  seq : Nat
  code : Nat
  fid : Nat
  ctag : Nat
  coordKey : Nat
  a0 : Nat
  priv : Bool
  mir : Bool
  mirrored : Bool
  mirT : Option Nat
  deriving DecidableEq, Repr

/-- A sentinel entry (R515, R527). -/
structure Sentinel where
  mirrorOk : Bool
  cause : Nat
  granule : Nat
  deriving DecidableEq, Repr

/-- The event recorder and its mirror writer (R507-R519); the sentinel entries, newest first, and how many have been entered,
modulo 8 (R527). -/
structure Recorder where
  intake : List Rec
  ring : Map (BitVec 128)
  recs : List RingRec
  wpos : Nat
  seq : Nat
  table : List Nat
  bad : List Nat
  sent : List Sentinel
  sentN : Nat
  sentUnmirrored : Bool
  corr : Nat
  window : List (BitVec 128)
  winNone : Bool
  jump : Bool
  dropN : Nat
  dropFirst : Nat
  dropLast : Nat
  dropT : Nat
  taking : Bool
  order : Nat
  hold : List (Nat × List (BitVec 128))
  queue : List Nat
  credit : Int
  creditT : Nat
  suspended : Bool
  mSector : Nat
  mGran : Nat
  mUse : Nat
  mProg : Option (Nat × List (Nat × List (BitVec 128)) × Bool)
  mBusy : Bool
  mErased : Bool
  mErasing : Option Nat
  mSkip : List Nat
  mPages : Nat
  mLost : Nat
  mDropped : Nat
  deriving DecidableEq, Repr

/-- The event tree (R501-R506): the sources that differ from reset by code, EVT_LAST and EVT_DROP of each domain, whether an
in-band request is due (R503, R489), whether the attention summary has risen since Lull was entered (R492), occurrences that
wait while the event tree is in reset (R523), and the recorder. -/
structure Evt where
  src : Map Src
  last : Map (Nat × Nat)
  dropSquall : Map Nat
  dropIntake : Map Nat
  ibrDue : Bool
  rise : Bool
  wait : List Rec
  rcd : Recorder
  deriving DecidableEq, Repr

/-- Phase of a per-function reset (R521). -/
inductive RstPhase
  | queued | fired | quiesced | reloaded
  deriving DecidableEq, Repr

/-- A per-function reset in progress (R521): function, cause, phase, L and T at quiesce, and whether a host request
takes part in it. -/
structure RstRun where
  fid : Nat
  cause : Nat
  phase : RstPhase
  lq : Nat
  tq : Nat
  host : Bool
  deriving DecidableEq, Repr

/-- The reset controller (R520-R522). -/
structure Rst where
  armed : Option (Nat × Nat)
  runs : List RstRun
  held : List Nat
  hist : List (Nat × Nat)
  result : Nat
  reqFid : Nat
  deriving DecidableEq, Repr

/-- A source that nothing has raised. -/
def Src.reset : Src where
  pend := false
  occur := 0
  drops := 0
  deficit := 0
  defT := 0
  rep := 0
  wait := none

/-- The recorder before the scan of start-up step 2: it takes no records yet (R566); MGT_REC_CREDIT resets to
0x0010_0000 (R527). -/
def Recorder.reset : Recorder where
  intake := []
  ring := []
  recs := []
  wpos := 0
  seq := 0
  table := []
  bad := []
  sent := []
  sentN := 0
  sentUnmirrored := false
  corr := 0
  window := []
  winNone := false
  jump := false
  dropN := 0
  dropFirst := 0
  dropLast := 0
  dropT := 0
  taking := false
  order := 0
  hold := []
  queue := []
  credit := 0x100000
  creditT := 0
  suspended := false
  mSector := 0
  mGran := 0
  mUse := 0
  mProg := none
  mBusy := false
  mErased := false
  mErasing := none
  mSkip := []
  mPages := 0
  mLost := 0
  mDropped := 0

/-- The event tree at reset. -/
def Evt.reset : Evt where
  src := []
  last := []
  dropSquall := []
  dropIntake := []
  ibrDue := false
  rise := false
  wait := []
  rcd := Recorder.reset

/-- The reset controller at reset. -/
def Rst.reset : Rst where
  armed := none
  runs := []
  held := []
  hist := []
  result := 0
  reqFid := 0

/-- The block (R12): everything the spec gives it, the free-value counter `free` (the model's own), and the queue of
waiting commands `pending` (the model's own), first in, first out. -/
structure State where
  /-- Registers by address that differ from their reset value (R528, R534). -/
  regs : Map Word
  /-- Latched registers captured by the last read of their lead (R17, R533). -/
  latched : Map Word
  /-- T, in 5 ns units (R40). -/
  t : Nat
  /-- The timebase. -/
  tbs : Tbs
  /-- Group timing. -/
  grp : Grp
  /-- Event tree and recorder. -/
  evt : Evt
  /-- Reset controller. -/
  rst : Rst
  /-- Configuration, flash, start-up, attestation. -/
  mgt : Mgt
  /-- Management bus target. -/
  mb : Mb
  /-- Crosswind link lanes that differ from reset, by number. -/
  xw : Map XwLane
  /-- The array, its staged sets and epochs. -/
  ary : Ary
  /-- The column converters. -/
  col : Col
  /-- The main pipeline and the output formatter. -/
  pip : Pip
  /-- The verdict engine. -/
  vdt : Vdt
  /-- Packets delivered from the links and not yet taken, with the link (R342). -/
  xwIn : List (Nat × XwMsg)
  /-- The companion ports and the auxiliary pipeline. -/
  aux : Aux
  /-- The serial lanes and their lane sets. -/
  lnk : Lnk
  /-- Pin engines, pins and strobes. -/
  pen : Pen
  /-- Meter, ledger, planner and power-fail. -/
  nrg : Nrg
  /-- Housekeeping and thermal management. -/
  thm : Thm
  /-- The model's own counter of free values; no claim rests on its value (log entry 1). -/
  free : Nat
  /-- The commands that wait, first in, first out (the model's own). -/
  pending : List Instr
  deriving DecidableEq, Repr

/-- The block right after reset: rails up, before start-up step 1, every register at its reset value, nothing loaded,
no command waiting (R534, R543). -/
def State.reset : State where
  regs := []
  latched := []
  t := 0
  tbs := Tbs.reset
  grp := Grp.reset
  evt := Evt.reset
  rst := Rst.reset
  mgt := Mgt.reset
  mb := Mb.reset
  xw := []
  ary := Ary.reset
  col := Col.reset
  pip := Pip.reset
  vdt := Vdt.reset
  xwIn := []
  aux := Aux.reset
  lnk := Lnk.reset
  pen := Pen.reset
  nrg := Nrg.reset
  thm := Thm.reset
  free := 0
  pending := []

end Sys2Proof.Machine
end

