-- ==== Sys2Proof/Machine/Ops.lean ====
section
/-! DEFINITION. The operations every family shares: reading and writing the register file, time, function state,
raising an event and counting a deadline miss. -/

namespace Sys2Proof.Machine

/-! ### Register file -/

/-- The value of the register at address `a` (R534). -/
def rget (s : State) (a : Nat) : Word := mgetD s.regs a (resetOf a)

/-- The register at `a` as a number. -/
def rnat (s : State) (a : Nat) : Nat := (rget s a).toNat

/-- Field `[hi:lo]` of the register at `a`. -/
def rfld (s : State) (a hi lo : Nat) : Nat := bits (rnat s a) hi lo

/-- Bit `i` of the register at `a`. -/
def rbit (s : State) (a i : Nat) : Bool := bit (rnat s a) i

/-- Write the register at `a`. -/
def rset (s : State) (a v : Nat) : State :=
  { s with regs := mputD (resetOf a) s.regs a (BitVec.ofNat 32 v) }

/-- Write field `[hi:lo]` of the register at `a`. -/
def rfset (s : State) (a hi lo v : Nat) : State := rset s a (setBits (rnat s a) hi lo v)

/-- Add `n` to a counter field, saturating at its width. -/
def rsat (s : State) (a hi lo n : Nat) : State := rfset s a hi lo (satN (hi - lo + 1) (rfld s a hi lo + n))

/-- Add `n` to a counter field, wrapping at its width. -/
def rwrap (s : State) (a hi lo n : Nat) : State := rfset s a hi lo (rfld s a hi lo + n)

/-- Raise a maximum field to at least `v`, saturating at its width. -/
def rmax (s : State) (a hi lo v : Nat) : State :=
  rfset s a hi lo (max (rfld s a hi lo) (satN (hi - lo + 1) v))

/-- Write registers from a list of address and value. -/
def rsets (s : State) (l : List (Nat × Nat)) : State := l.foldl (fun s p => rset s p.1 p.2) s

/-- Return the registers at these addresses to their reset values. -/
def rclear (s : State) (as : List Nat) : State := { s with regs := as.foldl mdel s.regs }

/-! ### Time and free values -/

/-- S, the boot-epoch seconds: T div 200,000,000 (R40). -/
def seconds (s : State) : Nat := s.t / 200000000 % 2 ^ 32

/-- Take the next free value number: the counter advances, and the value is `f` of it. -/
def takeFree {α : Type} (f : Nat → α) (s : State) : α × State := (f s.free, { s with free := s.free + 1 })

/-! ### Functions (R18, R532, R539) -/

/-- The function IDs of R539. -/
def isFunction (fid : Nat) : Bool :=
  let d := fid / 0x10000
  let u := fid / 0x100 % 0x100
  let f := fid % 0x100
  match d with
  | 1 => (u = 0 ∧ f ≤ 1) ∨ (u = 1 ∧ f = 0) ∨ (u = 2 ∧ f ≤ 8) ∨ (u = 3 ∧ f = 0)
  | 2 => (u ≤ 0xB ∧ f ≤ 0xF) ∨ (u = 0xC ∧ f ≤ 1)
  | 3 => (u = 0 ∧ f ≤ 2) ∨ (u = 1 ∧ f ≤ 1) ∨ (u = 2 ∧ f = 0)
  | 4 => (u ≤ 0xB ∧ f ≤ 7) ∨ (u = 0xC ∧ f ≤ 2) ∨ (u = 0xD ∧ f ≤ 4)
  | 5 => u ≤ 3 ∧ f ≤ 1
  | 6 => (u ≤ 0xB ∧ f ≤ 3) ∨ (u = 0xC ∧ f ≤ 2) ∨ (u = 0xD ∧ f ≤ 3) ∨ (u = 0xE ∧ f ≤ 1) ∨ (u = 0xF ∧ f ≤ 2) ∨
      (u = 0x10 ∧ f ≤ 7)
  | 7 => (u = 0 ∧ f ≤ 3) ∨ (u = 1 ∧ f ≤ 0x17) ∨ (u = 2 ∧ f ≤ 3) ∨ (u = 3 ∧ f ≤ 1)
  | 8 => (u = 0 ∧ f ≤ 0xF) ∨ (u = 1 ∧ f ≤ 1) ∨ (u = 2 ∧ f = 0) ∨ (u = 3 ∧ f = 0)
  | 9 => u ≤ 1 ∧ f ≤ 1
  | 10 => (u = 0 ∧ f ≤ 1) ∨ (u = 1 ∧ f = 0) ∨ (u = 2 ∧ f ≤ 1) ∨ (u = 3 ∧ f = 0)
  | 11 => (u = 0 ∧ f ≤ 3) ∨ (u = 1 ∧ f = 0) ∨ (u = 2 ∧ f ≤ 3)
  | _ => false

/-- Function `fid` is held in reset, or between its quiesce and its resume (R521, R522, R456). -/
def inReset (s : State) (fid : Nat) : Bool :=
  s.rst.held.contains fid ||
  s.rst.runs.any (fun r => r.fid == fid && (r.phase == .quiesced || r.phase == .reloaded))

/-- The device is powered and not held in reset (R401, R432, R555): start-up step 0 stands for a device held in reset. -/
def alive (s : State) : Bool := s.mgt.step != 0

/-- The device runs its functions: alive, and not SAFE, not CALM, not TRIP_LATCH. -/
def works (s : State) : Bool :=
  alive s &&
  match s.mgt.state with
  | .safe | .calm | .tripLatch => false
  | _ => true

/-- The functions of domain `d` run (R430, R455): all of them in STARTING, READY and RUN, those of MGT alone in SAFE and
TRIP_LATCH, and in CALM those of NRG, THM and MGT. -/
def domainRuns (s : State) (d : Nat) : Bool :=
  alive s &&
  match s.mgt.state with
  | .safe | .tripLatch => d == 11
  | .calm => decide (9 ≤ d)
  | _ => true

/-- The array, the converters and the pipelines run: the device runs its functions and no orderly stop has reached its cut (R430
step 3). -/
def images (s : State) : Bool := works s && decide (s.thm.stop < 3)

/-- Function `fid` works: the device runs its functions, and this one is not in reset. -/
def up (s : State) (fid : Nat) : Bool := works s && !inReset s fid

/-! ### Raising an event (R502, R509, R512, R566) -/

/-- Address of EVT_CFG of the source with this code (R506). -/
def cfgAddr (code : Nat) : Nat := evtBase (code / 0x100) + 0x20 + 8 * evtIndex code

/-- The addresses of the EVT_CFG registers of all sources, in ascending order. -/
def evtCfgAddrs : List Nat :=
  (List.range 11).flatMap (fun j => (List.range (evtCount (j + 1))).map (fun i => evtBase (j + 1) + 0x20 + 8 * i))

/-- EVT_CFG of a source. -/
def evtCfg (s : State) (code : Nat) : Nat := rnat s (cfgAddr code)

/-- The source with this code. -/
def srcOf (e : Evt) (code : Nat) : Src := mgetD e.src code Src.reset

/-- Count a record dropped at the intake (R512). -/
def dropAtIntake (code t : Nat) (e : Evt) : Evt :=
  let x := srcOf e code
  let r := e.rcd
  { e with
    src := mput e.src code { x with drops := satN 16 (x.drops + 1) }
    dropIntake := mmod e.dropIntake (code / 0x100) 0 (fun n => satN 16 (n + 1))
    rcd := { r with
      dropN := r.dropN + 1
      dropFirst := if r.dropN = 0 then code else r.dropFirst
      dropLast := code
      dropT := if r.dropN = 0 then t else r.dropT } }

/-- Drop the newest entry of the intake that is not privileged; the entry dropped and the rest (R512). -/
def dropNewest (l : List Rec) : Option (Rec × List Rec) :=
  match l.reverse.find? (fun r => !r.priv) with
  | none => none
  | some r =>
    let i := l.length - 1 - (l.reverse.findIdx (fun r => !r.priv))
    some (r, l.eraseIdx i)

/-- Offer a record that the squall limiter has let through (R512, R566). -/
def offerIntake (r : Rec) (e : Evt) : Evt :=
  let x := srcOf e r.code
  if !e.rcd.taking then
    match x.wait with
    | none =>
      { e with src := mput e.src r.code { x with wait := some (e.rcd.order, r) }
               rcd := { e.rcd with order := e.rcd.order + 1 } }
    | some _ =>
      if r.priv then { e with src := mput e.src r.code { x with rep := satN 24 (x.rep + 1) } }
      else dropAtIntake r.code r.t e
  else if e.rcd.intake.length < 8 then { e with rcd := { e.rcd with intake := e.rcd.intake ++ [r] } }
  else if r.priv then
    match dropNewest e.rcd.intake with
    | some (d, rest) =>
      let e1 := dropAtIntake d.code r.t e
      { e1 with rcd := { e1.rcd with intake := rest ++ [r] } }
    | none => { e with src := mput e.src r.code { x with rep := satN 24 (x.rep + 1) } }
  else dropAtIntake r.code r.t e

/-- Units of the token account: one token is 200,000,000, the T units of a second. -/
def tokenUnit : Nat := 200000000

/-- The squall limiter of R509 for a record that is not privileged. A bucket starts full (log entry 4). -/
def squall (cfg : Nat) (r : Rec) (e : Evt) : Evt :=
  let x := srcOf e r.code
  let d := x.deficit - bits cfg 7 0 * (r.t - x.defT)
  if d + tokenUnit ≤ bits cfg 15 8 * tokenUnit then
    offerIntake r { e with src := mput e.src r.code { x with deficit := d + tokenUnit, defT := r.t } }
  else
    { e with
      src := mput e.src r.code { x with deficit := d, defT := r.t, drops := satN 16 (x.drops + 1) }
      dropSquall := mmod e.dropSquall (r.code / 0x100) 0 (fun n => satN 16 (n + 1)) }

/-- The bucket of the source with this code when its EVT_CFG changes from `old` to `new` at T `t` (R509): what it holds then
stays in it, up to the new BURST, and refills at the new RATE from then on. -/
def bucketKept (old new t code : Nat) (e : Evt) : Evt :=
  if old % 65536 = new % 65536 then e
  else
    let x := srcOf e code
    let size := bits new 15 8 * tokenUnit
    let held := bits old 15 8 * tokenUnit - (x.deficit - bits old 7 0 * (t - x.defT))
    { e with src := mput e.src code { x with deficit := size - min held size, defT := t } }

/-- ATTN_EN of a source (R503); 0xB10 counts as enabled while a sentinel entry could not be mirrored (R515). -/
def attnEn (s : State) (code : Nat) : Bool :=
  bit (evtCfg s code) 31 || (code == 0xB10 && s.evt.rcd.sentUnmirrored)

/-- Attention summary of domain `d` under the sources `src` (R503). -/
def domAttn (s : State) (src : Map Src) (d : Nat) : Bool :=
  src.any (fun p => p.1 / 0x100 == d && p.2.pend && attnEn s p.1)

/-- Device attention summary under the sources `src` (R503). -/
def devAttn (s : State) (src : Map Src) : Bool := src.any (fun p => p.2.pend && attnEn s p.1)

/-- The event tree after an occurrence, its record apart (R502, R503): pending bit, OCCUR, EVT_LAST, in-band request at a rise of
the device summary. -/
def occurred (s : State) (o : Rec) : Evt :=
  let x := srcOf s.evt o.code
  let src1 := mput s.evt.src o.code { x with pend := true, occur := satN 16 (x.occur + 1) }
  { s.evt with
    src := src1
    last := mput s.evt.last (o.code / 0x100) (o.code, o.fid)
    rise := s.evt.rise || (!devAttn s s.evt.src && devAttn s src1)
    ibrDue := s.evt.ibrDue || (rbit s Reg.MGT_MB_CFG 30 && !devAttn s s.evt.src && devAttn s src1) }

/-- The event tree after an occurrence (R502), whose record is offered unless REC_EN = 0. -/
def evtAfter (s : State) (o : Rec) : Evt :=
  let e1 := occurred s o
  let cfg := evtCfg s o.code
  if bit cfg 28 then
    let r : Rec := { o with args := if bit cfg 29 then o.args.take 5 else o.args, priv := bit cfg 29, mir := bit cfg 27 }
    if bit cfg 29 then offerIntake r e1 else squall cfg r e1
  else e1

/-- Raise event `code` from function `fid` with its arguments and its data coordinate (R502, R508). While the event tree is in
reset the occurrence waits (R523). -/
def raise (code fid : Nat) (args : List Nat) (ctag coord : Nat) (s : State) : State :=
  let o : Rec := {
    code := code, fid := fid, t := s.t, s := seconds s, l := s.tbs.l, ctag := ctag, coord := coord, args := args
    priv := false, mir := false, rep := 0 }
  if inReset s 0xB0200 then { s with evt := { s.evt with wait := s.evt.wait ++ [o] } }
  else { s with evt := evtAfter s o }

/-- The event tree resumes: the occurrences that waited take place (R523). One that is marked privileged already is 0xB0F, whose
record went to the mirror by itself (R515). -/
def evtResume (s : State) : State :=
  s.evt.wait.foldl (fun s o => { s with evt := if o.priv then occurred s o else evtAfter s o })
    { s with evt := { s.evt with wait := [] } }

/-- Raise an event that has no data coordinate. -/
def raise0 (code fid : Nat) (args : List Nat) (s : State) : State := raise code fid args 0 0 s

/-- Raise an event when a condition holds. -/
def raiseIf (c : Bool) (code fid : Nat) (args : List Nat) (ctag coord : Nat) (s : State) : State :=
  if c then raise code fid args ctag coord s else s

/-! Data coordinates of R508. -/

/-- CTAG 1: slice and physical column (127 none). -/
def coSlice (sl col : Nat) : Nat := sl + col * 256
/-- CTAG 2: sector (15 all), band (15 all) and line. -/
def coSector (sec band l : Nat) : Nat := sec + band * 16 + (l % 2 ^ 32) * 256
/-- CTAG 3: object and site. -/
def coObj (id site : Nat) : Nat := id % 2 ^ 32 + site % 16 * 2 ^ 32
/-- CTAG 4: lane index, whether it is a link, set. -/
def coLane (i : Nat) (link : Bool) (set : Nat) : Nat := i + b2n link * 32 + set * 64
/-- CTAG 5: index and kind (0 pin, 1 strobe, 2 engine). -/
def coPin (i kind : Nat) : Nat := i + kind * 128
/-- CTAG 6: valve bank and tick. -/
def coBank (b tick : Nat) : Nat := b + tick % 2 ^ 32 * 256
/-- CTAG 7: companion port and frame count. -/
def coPort (p fr : Nat) : Nat := p + fr % 2 ^ 32 * 256
/-- CTAG 8: multiplexer index and converter. -/
def coHk (i : Nat) (hkb : Bool) : Nat := i + b2n hkb * 32
/-- CTAG 9: byte address in flash. -/
def coFlash (a : Nat) : Nat := a % 2 ^ 25

/-- A change from `old` to `s` that makes the device attention summary rise starts the in-band request (R489, R503). -/
def noteRise (old s : State) : State :=
  if !devAttn old old.evt.src && devAttn s s.evt.src then
    { s with evt := { s.evt with rise := true, ibrDue := s.evt.ibrDue || rbit s Reg.MGT_MB_CFG 30 } }
  else s

/-- The code of the source whose EVT_CFG stands at address `a`, if any (R506). -/
def cfgSource (a : Nat) : Option Nat :=
  match findEvt a with
  | some (d, .cfg i) => some (evtCode d i)
  | _ => none

/-- The token buckets after the configuration of `old` has become that of `s` (R509). -/
def bucketsKept (old s : State) : Evt :=
  let as := old.regs.map (·.1) ++ (s.regs.map (·.1)).filter (fun a => (mget old.regs a).isNone)
  (as.filterMap cfgSource).foldl (fun e c => bucketKept (evtCfg old c) (evtCfg s c) s.t c e) s.evt

/-- What follows a change of EVT_CFG registers from `old` to `s`: the buckets of the squall limiter (R509) and a rise of the
attention summary (R503). -/
def evtConfigured (old s : State) : State := noteRise old { s with evt := bucketsKept old s }

/-! ### The DSNU table of LIN (R144) -/

/-- Apply `f` to the pipeline. -/
def pipMod (f : Pip → Pip) (s : State) : State := { s with pip := f s.pip }
/-- The table of band `b` is resident. -/
def dsnuResident (s : State) (b : Nat) : Bool := s.pip.dsnu.getD (b % 3) none == some b
/-- The resident band nearest to `tb`, the higher when two are equally near. -/
def dsnuNearest (s : State) (tb : Nat) : Option Nat :=
  (List.range 5).foldl (fun acc i =>
    match acc with
    | some b => some b
    | none =>
      if tb + i ≤ 4 ∧ dsnuResident s (tb + i) then some (tb + i)
      else if i ≤ tb ∧ dsnuResident s (tb - i) then some (tb - i) else none) none
/-- LIN chooses its table at a line boundary: that of the band in force, else the nearest resident (R144). -/
def dsnuSwitch (s : State) : State :=
  match dsnuNearest s s.col.tb with
  | some b => if b = s.pip.linTb then s else raise0 0x404 0x40C02 [] (pipMod (fun p => { p with linTb := b }) s)
  | none => s

/-! ### Deadline misses (R67, R68) -/

/-- Count and stamp a miss of deadline `n` at line `l`. -/
def dlCount (n l : Nat) (s : State) : State :=
  rset (rsat s (Reg.TBS_DL_COUNT + 4 * n) 31 0 1) (Reg.TBS_DL_LAST + 4 * n) l

/-- A miss of deadline `n`, detected by function `fid`: counted and stamped in the deadline supervisor and recorded with code
0x310 + n (R67). While the supervisor is in reset the miss is held and counted at its resume (R523). A miss that a reset of the
detecting function causes is not counted (R68). Log entry 364. -/
def dlMiss (n fid : Nat) (args : List Nat) (ctag coord : Nat) (s : State) : State :=
  if inReset s fid then s
  else
    let s1 := raise (0x310 + n) fid args ctag coord s
    if inReset s 0x30200 then { s1 with tbs := { s1.tbs with dlHeld := s1.tbs.dlHeld ++ [(n, s.tbs.l)] } }
    else dlCount n s.tbs.l s1

/-- A deadline miss that is excused where a function that the detector waits for is in reset (R68). -/
def dlMissUnless (waits : Bool) (n fid : Nat) (args : List Nat) (ctag coord : Nat) (s : State) : State :=
  if waits then s else dlMiss n fid args ctag coord s

/-- The link router or every one of the given link lanes is in reset: what is awaited over them cannot come (R68). -/
def linksInReset (s : State) (ns : List Nat) : Bool :=
  inReset s 0x70300 || (!ns.isEmpty && ns.all (fun n => inReset s (0x70200 + n)))

/-! ### Automatic resets (R521, R522) -/

/-- Start a reset of `fid`: at most four run, a fifth waits (R521); MGT_RST_LAST names it. -/
def startReset (fid cause : Nat) (host : Bool) (s : State) : State :=
  let n := (s.rst.runs.filter (fun r => r.phase != .queued)).length
  let ph : RstPhase := if n < 4 then .fired else .queued
  rset { s with rst := { s.rst with runs := s.rst.runs ++ [⟨fid, cause, ph, s.tbs.l, s.t, host⟩] } }
    Reg.MGT_RST_LAST (cause * 2 ^ 30 + fid)

/-- An automatic reset of `fid` with cause 1 (watchdog) or 2 (ECC or a fault its chapter names) (R521, R522). A request
for a function already being reset or held joins it. The fourth within 60 s is to be held, with cause 3. -/
def autoReset (fid cause : Nat) (s : State) : State :=
  if s.rst.runs.any (fun r => r.fid == fid) || s.rst.held.contains fid then s
  else
    let recent := s.rst.hist.filter (fun h => decide (s.t ≤ h.2 + 12000000000))
    let c := if 3 ≤ (recent.filter (fun h => h.1 == fid)).length then 3 else cause
    rsat (startReset fid c false { s with rst := { s.rst with hist := recent ++ [(fid, s.t)] } })
      Reg.MGT_RST_COUNT 15 0 1

/-- The reset by which a function recovers, where its chapter ties it to AUTO_RECOVER (R522). -/
def autoRecover (fid cause : Nat) (s : State) : State :=
  if rbit s Reg.MGT_RST_CFG 31 then autoReset fid cause s else s

/-! ### Crosswind queues (R342) -/

/-- Link lane `n`. -/
def xwLane (s : State) (n : Nat) : XwLane := mgetD s.xw n XwLane.reset

/-- Replace link lane `n`. -/
def setXw (s : State) (n : Nat) (x : XwLane) : State := { s with xw := mput s.xw n x }

/-- Virtual channel of a message (R342). -/
def vcOf : XwMsg → Nat
  | .record _ _ _ _ _ => 1
  | .pair _ _ _ _ _ => 2
  | _ => 0

/-- Queue a message on link `n`. A link that is not up, or whose pair is refused, takes no VC0 or VC1 traffic
(R347, R461). -/
def xwSend (n : Nat) (m : XwMsg) (s : State) : State :=
  let x := xwLane s n
  if x.st ≠ 2 then s
  else
    match vcOf m with
    | 0 => if x.accepted then setXw s n { x with q0 := x.q0 ++ [m] } else s
    | 1 => if x.accepted then setXw s n { x with q1 := x.q1 ++ [m] } else s
    | _ => setXw s n { x with q2 := x.q2 ++ [m] }

/-- Queue a message on every link of a 4-bit mask. -/
def xwSendMask (mask : Nat) (m : XwMsg) (s : State) : State :=
  (List.range 4).foldl (fun s n => if bit mask n then xwSend n m s else s) s

end Sys2Proof.Machine
end

