-- ==== Sys2Proof/Machine/Timebase.lean ====
section
/-! DEFINITION. The position timebase (02_position_timebase.md): steps, boundaries, velocity, source failure, group
timing. What a line start does to the array and the pipeline stands in Machine/Lines.lean. -/

namespace Sys2Proof.Machine

/-! ### Configuration -/

/-- LINE_STEPS (R49). -/
def lineSteps (s : State) : Nat := rfld s Reg.TBS_LINE_CFG 15 0
/-- PHASE (R49). -/
def linePhase (s : State) : Nat := rfld s Reg.TBS_LINE_CFG 31 16
/-- The source that feeds P (R41): 0 ENC, 1 SYNCIN, 2 XW, 3 SYN, as SOURCE selects. A device whose role in effect is follower
takes P from broadcasts alone, also where R65 has made a master of it a follower (log entry 244). -/
def source (s : State) : Nat := if s.grp.role = 2 then 2 else rfld s Reg.TBS_SRC_CFG 1 0
/-- ON_FAIL (R47): 0 HOLD, 1 COAST, 2 SYN. -/
def onFail (s : State) : Nat := rfld s Reg.TBS_SRC_CFG 10 8
/-- LS_DELAY in 5 ns (R50). -/
def lsDelay (s : State) : Nat := rfld s Reg.TBS_LS_DELAY 11 0
/-- Capture mode in effect (R93): 0 LINE, 1 EXTTRIG, 2 FREERUN. -/
def captureMode (s : State) : Nat := rfld s Reg.ARY_STATUS 2 0
/-- F_max of 10.22 steps per µs. -/
def vMax : Nat := 2 ^ 32 - 1

/-- Apply `f` to the timebase. -/
def tbsMod (f : Tbs → Tbs) (s : State) : State := { s with tbs := f s.tbs }

/-- Apply `f` to the group timing. -/
def grpMod (f : Grp → Grp) (s : State) : State := { s with grp := f s.grp }

/-- V as it reads now (R45, R47, R54, R55, R58, R523): 0 in standstill and while the deficit is above zero; the rate of the
policy while one is in force, whatever the deficit (log entry 245); LINE_STEPS × RATE / 10⁶ in FREERUN; TBS_SYN_RATE under SYN; the
V held while the position counter is in reset; the estimate otherwise. -/
def velNow (s : State) : Nat :=
  if s.tbs.standstill then 0
  else if captureMode s = 2 then min vMax (lineSteps s * rfld s Reg.ARY_FREERUN 15 0 * 2 ^ 22 / 1000000)
  else
    match s.tbs.failed with
    | some f => if f.pol = 1 then f.vBefore else if f.pol = 2 then rnat s Reg.TBS_SYN_RATE else 0
    | none =>
      if s.tbs.deficit ≠ 0 then 0
      else if inReset s 0x30000 then s.tbs.v
      else if source s = 3 then rnat s Reg.TBS_SYN_RATE
      else s.tbs.v

/-- The line period predicted by V, LINE_STEPS / V, compared with a time: `x` (5 ns) is at most t_pred × `num`/`den`
(R52, R55). With V = 0 the period is infinite. In FREERUN t_pred = 1/RATE (R54). -/
def withinPred (s : State) (x num den : Nat) : Bool :=
  if captureMode s = 2 then
    decide (x * rfld s Reg.ARY_FREERUN 15 0 * den ≤ 200000000 * num)
  else if velNow s = 0 then true
  else decide (x * velNow s * den ≤ lineSteps s * 200 * 2 ^ 22 * num)

/-! ### Steps and boundaries (R42, R49) -/

/-- Stamps are kept for 65.536 ms (R55). -/
def stampsKept (t : Nat) (l : List StepStamp) : List StepStamp := l.filter (fun x => decide (t ≤ x.t + 13107200))

/-- Keep the stamps of the last 65.536 ms (R55) and add a step at the present T. -/
def addStamp (t p : Nat) (l : List StepStamp) : List StepStamp :=
  let kept := stampsKept t l
  match kept with
  | x :: rest => if x.t = t then { x with p1 := p } :: rest else ⟨t, p, p⟩ :: kept
  | [] => [⟨t, p, p⟩]

/-- The broadcast a master sends at T_cross of a boundary (R61, R345). -/
def bcastMsg (s : State) : XwMsg :=
  .bcast (s.t % 2 ^ 40) 0 0 s.t s.tbs.l (velNow s) s.tbs.p (lsDelay s) s.tbs.standstill s.tbs.failed.isSome
    Config.deviceId.toNat

/-- A follower whose source is still replaced by a policy while broadcasts come again starts no line (R66): it waits for the
source to return (R47) and for a later L of the master (log entry 246). -/
def holdsLines (s : State) : Bool := s.grp.role == 2 && captureMode s != 2 && s.tbs.failed.isSome && !s.grp.masterLost

/-- A line boundary (R49): L advances, P is recorded for the line, standstill ends, LIN switches to a DSNU table that has become
resident (R144), and a master broadcasts (R61). -/
def boundary (s : State) : State :=
  if holdsLines s then s else
  let l := (s.tbs.l + 1) % 2 ^ 32
  let s1 := tbsMod (fun b => { b with
    l := l, lastBoundary := some s.t, due := b.due ++ [⟨l, b.p, s.t, none, false⟩], standstill := false }) s
  let s2 := raiseIf s.tbs.standstill 0x303 0x30001 [1] 0 0 (if works s1 then dsnuSwitch s1 else s1)
  if s.grp.role = 1 ∧ !inReset s 0x30101 then
    grpMod (fun g => { g with lastTx := some s.t }) (xwSendMask (rfld s Reg.TBS_XW_CFG 7 4) (bcastMsg s2) s2)
  else s2

/-- One step: P advances, Q advances modulo LINE_STEPS, and a boundary occurs where Q comes to 0 (R42, R49). -/
def oneStep (s : State) : State :=
  let p := (s.tbs.p + 1) % 2 ^ 40
  let q := s.tbs.q + 1
  let s1 := tbsMod (fun b => { b with
    p := p, q := if q < lineSteps s then q else 0, steps := addStamp s.t p b.steps }) s
  if q < lineSteps s then s1 else boundary s1

/-- `n` steps in one cycle. -/
def nSteps : Nat → State → State
  | 0, s => s
  | n + 1, s => nSteps n (oneStep s)

/-- P advances by LINE_STEPS at once and a boundary occurs, as under EXTTRIG and FREERUN (R53, R54). -/
def jumpLine (s : State) : State :=
  let p := (s.tbs.p + lineSteps s) % 2 ^ 40
  boundary (tbsMod (fun b => { b with p := p, steps := addStamp s.t p b.steps }) s)

/-- The timebase counts its configured source: in service, no policy in force, position counter not in reset, and not
in FREERUN (R54). -/
def counting (s : State) : Bool :=
  s.tbs.inService && s.tbs.failed.isNone && up s 0x30000 && captureMode s != 2

/-- A forward edge: it pays the deficit off, or adds M to A and gives a step for every N in A (R42). -/
def forwardEdge (s : State) : State :=
  if s.tbs.deficit ≠ 0 then
    tbsMod (fun b => { b with deficit := b.deficit - 1, revRun := if b.deficit = 1 then false else b.revRun }) s
  else
    let a := s.tbs.acc + rfld s Reg.TBS_SCALE 31 16
    let n := rfld s Reg.TBS_SCALE 15 0
    nSteps (a / n) (tbsMod (fun b => { b with acc := a % n }) s)

/-- A reverse edge: the deficit grows, saturating at 0xF_FFFF; above REV_MAX event 0x302 is raised once for the run
(R43). -/
def reverseEdge (s : State) : State :=
  let d := min (s.tbs.deficit + 1) 0xFFFFF
  let above := decide (2 ^ rfld s Reg.TBS_MOTION_CFG 19 16 < d)
  raiseIf (above && !s.tbs.revRun) 0x302 0x30000 [] 0 0
    (tbsMod (fun b => { b with deficit := d, revRun := b.revRun || above }) s)

/-- ENCODER_EDGE (R42, R43, R44): an edge posted by the encoder pin engine, counted under ENC unless it comes within
40 ns of the previous accepted one. -/
def encoderEdge (forward : Bool) (s : State) : State :=
  if counting s && source s == 0 &&
      (match s.tbs.encT with | none => true | some t0 => decide (t0 + 8 ≤ s.t)) then
    let s1 := tbsMod (fun b => { b with encT := some s.t }) s
    if forward then forwardEdge s1 else reverseEdge s1
  else s

/-- IN_EDGE selects an edge of this direction (R71): 0 rising, 1 falling, 2 both. -/
def edgeSelected (rising : Bool) (s : State) : Bool :=
  match rfld s Reg.TBS_SYNC_CFG 31 30 with
  | 0 => rising
  | 1 => !rising
  | _ => true

/-- SYNC_IN_EDGE (R44, R53, R71): an edge on SYNC_IN of a direction that IN_EDGE selects; `width` is the length of the pulse
that qualifies it, in 5 ns. An edge within 40 ns of the previous counted one, or of a pulse shorter than IN_FILT, is ignored
with event 0x300 cause 3. Log entry 249. -/
def syncInEdge (rising : Bool) (width : Nat) (s : State) : State :=
  if counting s && source s == 1 && edgeSelected rising s then
    if (match s.tbs.syncT with | none => false | some t0 => decide (s.t < t0 + 8)) ||
        decide (width < rfld s Reg.TBS_SYNC_CFG 29 20) then
      raise0 0x300 0x30000 [3] s
    else
      let s1 := tbsMod (fun b => { b with syncT := some s.t }) s
      if captureMode s = 1 then jumpLine s1 else oneStep s1
  else s

/-- One 5 ns cycle of P at `rate` (10.22 steps per µs): the fraction accumulates and gives a step for each whole one. At
the highest rate of R45 this is one step at most. -/
def rateCycle (rate : Nat) (s : State) : State :=
  let a := s.tbs.rateAcc + rate
  nSteps (a / (200 * 2 ^ 22)) (tbsMod (fun b => { b with rateAcc := a % (200 * 2 ^ 22) }) s)

/-- SYN_RATE_STEP (R45, R47): one 5 ns cycle under SYN, or under the SYN fallback, in which P advances and boundaries occur
whatever reverse deficit the failed source has left (log entry 245). -/
def synRateStep (s : State) : State :=
  if (counting s && source s == 3) ||
      (s.tbs.inService && captureMode s != 2 && (match s.tbs.failed with | some f => f.pol == 2 | none => false)) then
    rateCycle (rnat s Reg.TBS_SYN_RATE) s
  else s

/-- FREERUN_BOUNDARY (R54): a boundary of the free-run rate. -/
def freerunBoundary (s : State) : State :=
  if s.tbs.inService && captureMode s == 2 && works s then jumpLine s else s

/-! ### Velocity (R55) -/

/-- The estimate of R55 from the stamps, newest first; `keep` is V before this estimate. -/
def velEstimate (win now keep : Nat) (steps : List StepStamp) : Nat :=
  match steps with
  | [] => 0
  | a :: rest =>
    let v : Nat :=
      match rest.find? (fun x => decide (x.t + 2 ^ win * 200 ≤ a.t)) with
      | some b => (a.p1 + 2 ^ 40 - b.p1) % 2 ^ 40 * 200 * 2 ^ 22 / (a.t - b.t)
      | none =>
        match rest.getLast? with
        | some b => (a.p1 + 2 ^ 40 - b.p0) % 2 ^ 40 * 200 * 2 ^ 22 / (a.t - b.t)
        | none => if a.p0 = a.p1 then 0 else keep
    let v1 := if a.t < now then min v (200 * 2 ^ 22 / (now - a.t)) else v
    min vMax v1

/-- Two steps at least are kept since the source entered service or returned (R47, R55). -/
def enoughSteps (steps : List StepStamp) : Bool :=
  match steps with
  | [] => false
  | [a] => a.p0 != a.p1
  | _ => true

/-- VELOCITY_ESTIMATE (R55): every 1 µs, for the ENC and SYNCIN sources; in reset the estimator holds (R523). V is 0 where fewer
than two steps are kept, but for a source that has returned, whose V keeps its value until two are counted (R47). -/
def velocityEstimate (s : State) : State :=
  if counting s && decide (source s ≤ 1) && up s 0x30002 then
    if s.tbs.standstill || s.tbs.deficit != 0 then tbsMod (fun b => { b with v := 0 }) s
    else
      let steps := stampsKept s.t s.tbs.steps
      if enoughSteps steps then
        tbsMod (fun b => { b with keepV := false, v := velEstimate (rfld s Reg.TBS_VEL_CFG 3 0) s.t b.v steps }) s
      else if s.tbs.keepV then s
      else tbsMod (fun b => { b with v := 0 }) s
  else s

/-! ### Source failure (R46-R48) -/

/-- Put the ON_FAIL policy in force with the V last estimated (R47). -/
def applyOnFail (vBefore : Nat) (s : State) : State :=
  match s.tbs.failed with
  | some _ => s
  | none => tbsMod (fun b => { b with failed := some ⟨onFail s, vBefore, s.t⟩, rateAcc := 0 }) s

/-- A source failure with its cause (R48): event 0x300 and the ON_FAIL policy. A failure while a policy is in force adds
nothing: the failed input is ignored (R47). -/
def srcFail (cause : Nat) (s : State) : State :=
  if s.tbs.inService && s.tbs.failed.isNone then
    applyOnFail (velNow s) (raise0 0x300 0x30000 [cause] s)
  else s

/-- COAST_END (R48): COAST_MAX has passed under COAST; P stops and the policy becomes HOLD, with event 0x300 cause 2. -/
def coastEnd (s : State) : State :=
  match s.tbs.failed with
  | some f =>
    if f.pol = 1 then raise0 0x300 0x30000 [2] (tbsMod (fun b => { b with failed := some { f with pol := 0 } }) s)
    else s
  | none => s

/-- SRC_RESUME (R47): the failed source has been free of STUCK, OVERRATE and loss of broadcasts for 10 ms; P goes on from
its value, A is cleared, V is estimated from the steps counted from now on, event 0x301. -/
def srcResume (s : State) : State :=
  match s.tbs.failed with
  | some _ =>
    if s.tbs.stuck || s.tbs.overrate || s.grp.masterLost then s
    else raise0 0x301 0x30000 []
      (tbsMod (fun b => { b with failed := none, acc := 0, rateAcc := 0, v := velNow s, steps := [], keepV := true }) s)
  | none => s

/-! ### Standstill and STALL (R58, R59) -/

/-- Set or clear STALL from standstill and RUN_EXPECT (R59). -/
def judgeStall (s : State) : State :=
  let on := rbit s Reg.TBS_MOTION_CFG 31 && s.tbs.standstill && s.tbs.runExpect
  raiseIf (on && !s.tbs.stall) 0x304 0x30001 [] 0 0
    (tbsMod (fun b => { b with stall := if b.runExpect then b.stall || on else false }) s)

/-- Standstill declared (R58): event 0x303, V 0, SYNC_OUT quiet. -/
def declareStandstill (s : State) : State :=
  if s.tbs.inService && !s.tbs.standstill then
    judgeStall (raise0 0x303 0x30001 [0]
      (tbsMod (fun b => { b with standstill := true, syncOut := false }) s))
  else s

/-- RUN_EXPECT is asserted: RX_EN is set and the filtered level of P(RX_PIN) is RX_POL (R46, R59). -/
def runExpectPin (s : State) : Bool :=
  rbit s Reg.TBS_MOTION_CFG 31 && (bit s.pen.level (rfld s Reg.TBS_MOTION_CFG 29 23) == rbit s Reg.TBS_MOTION_CFG 30)

/-- RUN_EXPECT and STALL follow the filtered level of the pin and the configuration in force (R46, R59). -/
def runExpectLevel (s : State) : State :=
  judgeStall (tbsMod (fun b => { b with runExpect := runExpectPin s }) s)

/-- The level of SYNC_OUT (R60): OUT_POL while a pulse is active, else the other level. -/
def syncOutLevel (s : State) : Bool := s.tbs.syncOut == rbit s Reg.TBS_SYNC_CFG 18

/-- SYNC_OUT_PULSE_END (R60). -/
def syncOutEnd (s : State) : State := tbsMod (fun b => { b with syncOut := false }) s

/-! ### Group timing (R61-R66) -/

/-- BEACON_SEND (R61): a master sends a beacon with its T and ID, in standstill too. -/
def beaconSend (s : State) : State :=
  if s.grp.role = 1 ∧ up s 0x30101 then
    grpMod (fun g => { g with lastTx := some s.t })
      (xwSendMask (rfld s Reg.TBS_XW_CFG 7 4) (.beacon (s.t % 2 ^ 40) 0 0 Config.deviceId.toNat s.t) s)
  else s

/-- ANNOUNCE_SEND (R65): a master announces itself every 1 ms from the end of its link training. -/
def announceSend (s : State) : State :=
  if s.grp.role = 1 ∧ s.grp.trained ∧ up s 0x30101 then
    xwSendMask (rfld s Reg.TBS_XW_CFG 7 4)
      (.announce (s.t % 2 ^ 40) 0 0 Config.deviceId.toNat s.t (lsDelay s)) s
  else s

/-- The offset e = T_send + λ − T_rx, from the low 40 bits that travel (R63, R345). -/
def offsetE (tSend lam now : Nat) : Int := diffMod 40 (tSend + lam) now

/-- Discipline by an accepted broadcast or beacon (R63): the new e replaces what was left of the previous one; LOCKED
after 8 arrivals in a row within 20 ns, and until 4 in a row beyond 50 ns. -/
def discipline (e : Int) (s : State) : State :=
  let ok := decide (e.natAbs ≤ 4)
  let bad := decide (10 < e.natAbs)
  let g := s.grp
  let okRun := if ok then min 8 (g.okRun + 1) else 0
  let badRun := if bad then min 4 (g.badRun + 1) else 0
  let locked := if g.locked then !(badRun == 4) else okRun == 8
  let s1 := rset (grpMod (fun g => { g with
    pay := e, cyc := 0, okRun := okRun, badRun := badRun, locked := locked }) s) Reg.TBS_XW_OFFSET (ofSigned 32 e)
  if locked != g.locked then raise0 0x305 0x30101 [b2n (!locked)] s1 else s1

/-- The message with one hop more and the latency of the incoming link added (R62). -/
def relayed (lat : Nat) : XwMsg → XwMsg
  | .bcast a h p c l v q d x y i => .bcast a (h + 1) (p + lat) c l v q d x y i
  | .beacon a h p d t => .beacon a (h + 1) (p + lat) d t
  | .announce a h p d t ls => .announce a (h + 1) (p + lat) d t ls
  | m => m

/-- T_SEND, HOPS and PATH_LAT of a timebase message. -/
def tbHead : XwMsg → Nat × Nat × Nat
  | .bcast a h p _ _ _ _ _ _ _ _ => (a, h, p)
  | .beacon a h p _ _ => (a, h, p)
  | .announce a h p _ _ _ => (a, h, p)
  | _ => (0, 0, 0)

/-- The kind of a timebase message: 0 broadcast, 1 beacon, 2 announcement. -/
def tbKind : XwMsg → Nat
  | .bcast _ _ _ _ _ _ _ _ _ _ _ => 0
  | .beacon _ _ _ _ _ => 1
  | _ => 2

/-- The line indices from `a` + 1 up to `b` that a broadcast skipped, oldest first (R66). -/
def skippedLines (a b : Nat) : List Nat :=
  (List.range ((b + 2 ^ 32 - a) % 2 ^ 32 - 1)).map (fun i => (a + 1 + i) % 2 ^ 32)

/-- A follower takes P and L of a broadcast whose line is later than its own (R61, R66): skipped indices become GAP
lines, and the line is due LS_DELAY after the master's T_cross. Q stays as it was: R49 loads it in two cases, of which this is none
(log entry 247). While a policy is in force the broadcasts feed nothing (R47). -/
def takeBroadcast (l p tCross v : Nat) (stand : Bool) (s : State) : State :=
  if captureMode s = 2 || s.tbs.failed.isSome then s
  else if laterL l s.tbs.l || s.tbs.lastBoundary.isNone then
    let skipped := if s.tbs.lastBoundary.isNone then [] else skippedLines s.tbs.l l
    let s1 := tbsMod (fun b => { b with
      l := l, p := p, v := v, lastBoundary := some s.t, standstill := false
      due := b.due ++ skipped.map (fun i => ⟨i, p, tCross, none, true⟩) ++ [⟨l, p, tCross, some s.t, false⟩] }) s
    raiseIf s.tbs.standstill 0x303 0x30001 [1] 0 0 (if works s1 then dsnuSwitch s1 else s1)
  else tbsMod (fun b => { b with v := if stand then b.v else v }) s

/-- The copies that can still have others on their way: PATH_LAT has 16 bits, so a copy comes at most 65,535 × 5 ns after
another. Log entry 248. -/
def copiesKept (t : Nat) (l : List CopySeen) : List CopySeen := l.filter (fun x => decide (t ≤ x.t + 65535))

/-- A copy of the message with this key came before, and this one has neither the lower hop count nor, at equal hop counts, the
lower path latency (R62). -/
def copyWorse (key : Nat × Nat) (hops lat : Nat) (l : List CopySeen) : Bool :=
  l.any (fun x => x.key == key && !(decide (hops < x.hops) || (hops == x.hops && decide (lat < x.lat))))

/-- BROADCAST_RECEIVED (R62, R63, R66): a broadcast or beacon arrives on link `n`. A follower accepts it on a link of RX_MASK
whose pair is accepted, once T is loaded; of copies with one T_SEND the one with the lower hop count, then the lower path
latency, is used and the others only mark the link, also when a later message has come between. It is relayed, disciplines T,
and a broadcast brings P and L. -/
def broadcastReceived (n : Nat) (m : XwMsg) (s : State) : State :=
  let g := s.grp
  let lat := rfld s (Reg.TBS_XW_LAT + 4 * n) 15 0
  let h := tbHead m
  let key := (h.1, tbKind m)
  if g.role = 2 ∧ up s 0x30101 ∧ rbit s Reg.TBS_XW_CFG n ∧ (xwLane s n).accepted ∧ g.tLoaded ∧ tbKind m ≠ 2 then
    let s1 := grpMod (fun g => { g with rxT := mput g.rxT n s.t }) s
    if copyWorse key h.2.1 (h.2.2 + lat) (copiesKept s.t g.copies) then s1
    else
      let s2 := grpMod (fun g => { g with
        copies := ⟨key, h.2.1, h.2.2 + lat, s.t⟩ :: (copiesKept s.t g.copies).filter (fun x => x.key != key)
        lastKey := some key, hops := h.2.1, pathLat := h.2.2 + lat, lastRx := some s.t, masterLost := false }) s1
      let s3 := xwSendMask ((rfld s Reg.TBS_XW_CFG 7 4) &&& (15 - 2 ^ n)) (relayed lat m) s2
      let s4 := discipline (offsetE h.1 (h.2.2 + lat) s.t) s3
      match m with
      | .bcast _ _ _ tc l v p _ stand _ _ =>
        takeBroadcast l p tc v stand (grpMod (fun g => { g with masterV := v }) s4)
      | _ => s4
  else s

/-! ### The load of T (R64, R65) -/

/-- TICK in 5 ns (R256). -/
def tickLen (s : State) : Nat := 200 * rfld s Reg.VDT_EJ_TICK 8 0
/-- FRAME_LAT in 5 ns (R256). -/
def frameLat (s : State) : Nat := 200 * rfld s Reg.VDT_EJ_FRAME 15 0
/-- Valve ticks whose build time lies after T and before `t`: a load of `t` passes them (R64). Log entry 143. -/
def jumpedTicks (t : Nat) (s : State) : List Nat :=
  let a := (s.t + frameLat s) / tickLen s + 1
  if tickLen s = 0 then [] else (List.range ((t + frameLat s + tickLen s - 1) / tickLen s - a)).map (a + ·)
/-- A tick whose frame is never built is an abandoned frame of bank `b` (R64, R257). -/
def tickAbandoned (b n : Nat) (s : State) : State := raise 0x619 (0x61000 + b) [b] 6 (coBank b n) s
/-- The framers of the enabled banks abandon every tick that the load of `t` passes (R64). -/
def abandonJumped (t : Nat) (s : State) : State :=
  ((List.range 8).filter (fun b => works s && rbit s (Reg.VDT_VB_CFG + 4 * b) 31 && !inReset s (0x61000 + b))).foldl (fun s1 b =>
    (jumpedTicks t s).foldl (fun s1 n => tickAbandoned b n s1) s1) s
/-- A deadline of a pin engine on T that the load of `t` passes is met at once, and its miss is not counted (R64, R364). -/
def jumpDeadline (t0 t : Nat) (g : Engine) : Engine :=
  match g.dl with
  | some (d, _) => { g with jumped := g.jumped || (decide (diffMod 32 t0 d < 0) && decide (0 ≤ diffMod 32 t d)) }
  | none => g

/-- The stamps from which elapsed times count move by `d` with a load of T (R64): the last address on the management bus, the arm
and the history of resets, the accounts of the squall limiter and of the mirror, the planner's waits and grants, and the links'
waits. Log entry 327. -/
def elapsedKept (d : Int) (s : State) : State :=
  let mv := fun (t : Nat) => ((t : Int) + d).toNat
  let mo := fun (t : Option Nat) => t.map mv
  let gr := fun (gs : List Grant) => gs.map (fun g => { g with t := mv g.t })
  { s with
    mb := { s.mb with lastAddr := s.mb.lastAddr + d }
    rst := { s.rst with
      armed := s.rst.armed.map (fun a => (a.1, mv a.2)), hist := s.rst.hist.map (fun h => (h.1, mv h.2))
      runs := s.rst.runs.map (fun r => { r with tq := mv r.tq }) }
    evt := { s.evt with
      src := s.evt.src.map (fun x => (x.1, { x.2 with defT := mv x.2.defT }))
      rcd := { s.evt.rcd with
        creditT := mv s.evt.rcd.creditT, recs := s.evt.rcd.recs.map (fun x => { x with mirT := mo x.mirT }) } }
    nrg := { s.nrg with
      clearT := mo s.nrg.clearT, closeT := mv s.nrg.closeT, divT := mv s.nrg.divT, divLast := mo s.nrg.divLast
      aboveT := mo s.nrg.aboveT, roomT := mo s.nrg.roomT, waiting := gr s.nrg.waiting, running := gr s.nrg.running }
    thm := { s.thm with coolT := mo s.thm.coolT, hist := s.thm.hist.map (fun h => (mv h.1, h.2)) }
    xw := s.xw.map (fun x => (x.1, { x.2 with downT := mv x.2.downT, sweepT := mo x.2.sweepT })) }

/-- The load of T and S from an accepted announcement (R65): T becomes the master's T at launch plus the path latency
(log entry 14), event 0x309 with the old and new T. What the move of T alone passes counts no deadline miss (R64). -/
def loadT (t : Nat) (s : State) : State :=
  let t1 : Nat := t % 2 ^ 64
  let d : Int := (t1 : Int) - s.t
  let s0 := elapsedKept d (abandonJumped t1 s)
  raise0 0x309 0x30101 [s.t % 2 ^ 32, s.t / 2 ^ 32 % 2 ^ 32, t % 2 ^ 32, t / 2 ^ 32 % 2 ^ 32]
    (grpMod (fun g => { g with tLoaded := true, okRun := 0, badRun := 0, pay := 0 }) { s0 with
      t := t1
      pen := { s0.pen with eng := s0.pen.eng.map (fun p => (p.1, jumpDeadline s.t t1 p.2)) }
      thm := { s0.thm with island := s0.thm.island - d, t0 := (s0.thm.t0 + d).toNat }
      mgt := { s0.mgt with startT := s0.mgt.startT + d } })

/-- An announcement arrives on link `n` (R65). A follower refuses a master whose LS_DELAY differs, loads T and S once and
starts to lock; a master that meets another master raises 0x308, and the one with the higher device ID becomes a
follower. -/
def announceTaken (n : Nat) (m : XwMsg) (s : State) : State :=
  match m with
  | .announce ts _ pl dev t ls =>
    let lat := rfld s (Reg.TBS_XW_LAT + 4 * n) 15 0
    if !up s 0x30101 ∨ !rbit s Reg.TBS_XW_CFG n ∨ !(xwLane s n).accepted then s
    else if s.grp.role = 2 then
      if ls ≠ lsDelay s then s
      else
        let s1 := xwSendMask ((rfld s Reg.TBS_XW_CFG 7 4) &&& (15 - 2 ^ n)) (relayed lat m) s
        let s2 := grpMod (fun g => { g with accepted := true, noMaster := false, lastRx := some s.t }) s1
        if s.grp.tLoaded then s2 else loadT (t + pl + lat) s2
    else if s.grp.role = 1 ∧ dev ≠ Config.deviceId.toNat ∧ ts = t % 2 ^ 40 then
      raise0 0x308 0x30101 []
        (grpMod (fun g => { g with
          multiMaster := true, role := if dev < Config.deviceId.toNat then 2 else 1 }) s)
    else s
  | _ => s

/-- NO_MASTER (R65): 500 ms after its training a follower has accepted no master; event 0x307, FAULT, HOLD. -/
def noMasterCmd (s : State) : State :=
  if s.grp.role = 2 ∧ !s.grp.accepted ∧ !s.grp.noMaster then
    raise0 0x307 0x30101 [] (grpMod (fun g => { g with noMaster := true }) s)
  else s

/-- MASTER_LOST (R66): 64 µs without a broadcast or beacon; event 0x306, and ON_FAIL with the master's last V. -/
def masterLostCmd (s : State) : State :=
  if s.grp.role = 2 ∧ s.grp.accepted ∧ !s.grp.masterLost then
    applyOnFail s.grp.masterV (raise0 0x306 0x30101 [] (grpMod (fun g => { g with masterLost := true }) s))
  else s

/-! ### Time (R63) -/

/-- How far T advances in one 5 ns cycle, and what is left to pay (R63): under a positive e two units in every fourth
cycle; under a negative e one cycle in every five holds. -/
def payCycle (pay : Int) (cyc : Nat) : Nat × Int × Nat :=
  if 0 < pay then (if cyc % 4 = 3 then (2, pay - 1, 0) else (1, pay, cyc + 1))
  else if pay < 0 then (if cyc % 5 = 4 then (0, pay + 1, 0) else (1, pay, cyc + 1))
  else (1, 0, 0)

/-- T advances by one 5 ns cycle (R40, R63). -/
def timeCycle (s : State) : State :=
  let c := payCycle s.grp.pay s.grp.cyc
  { s with t := (s.t + c.1) % 2 ^ 64, grp := { s.grp with pay := c.2.1, cyc := c.2.2 } }

/-- P under COAST, and while the position counter is in reset (R47, R523): it advances at the V held. -/
def coastCycle (s : State) : State :=
  match s.tbs.failed with
  | some f => if f.pol = 1 ∧ captureMode s ≠ 2 then rateCycle f.vBefore s else s
  | none => if s.tbs.inService && inReset s 0x30000 && captureMode s != 2 then rateCycle s.tbs.v s else s

/-! ### Entering service (R41, R49) and per-function reset -/

/-- The timebase enters service with its section (R42, R49, R65): A cleared, Q loaded from P, role from ROLE. -/
def tbsService (s : State) : State :=
  let st := lineSteps s
  { s with
    tbs := { s.tbs with
      inService := true, acc := 0, rateAcc := 0, steps := [], v := 0, keepV := false
      q := (s.tbs.p % st + st - linePhase s % st) % st }
    grp := { s.grp with role := rfld s Reg.TBS_SRC_CFG 3 2 } }

/-- Q loaded by R49. -/
def loadQ (s : State) : State :=
  let st := lineSteps s
  tbsMod (fun b => { b with q := (b.p % st + st - linePhase s % st) % st }) s

/-- TBS state inside the reset scope of function `fid` returns to reset (R521, R523). P, L, T and S are outside, and so are the
boundaries whose line start has not come: their lines are GAP and enter the history. While the position counter is in reset V is
the last one, at which P goes on. -/
def tbsResetScope (fid : Nat) (s : State) : State :=
  if fid = 0x30000 then
    tbsMod (fun b => { b with v := velNow s, acc := 0, deficit := 0, revRun := false, encT := none, syncT := none
                              rateAcc := 0, steps := [], failed := none, keepV := false, stuck := false, overrate := false }) s
  else if fid = 0x30001 then tbsMod (fun b => { b with q := 0, syncOut := false, stall := false }) s
  else if fid = 0x30002 then tbsMod (fun b => { b with steps := [] }) s
  else if fid = 0x30101 then
    grpMod (fun g => { Grp.reset with role := g.role, trained := g.trained, accepted := g.accepted, tLoaded := g.tLoaded
                                      masterV := g.masterV, rxT := g.rxT, lastRx := g.lastRx }) s
  else s

/-- A TBS function resumes (R523): the position counter enters service with its new source, A cleared, Q loaded and V 0 (R55),
the line generator loads Q, the deadline supervisor counts the misses it held. -/
def tbsResume (fid : Nat) (s : State) : State :=
  if fid = 0x30000 then loadQ (tbsMod (fun b => { b with acc := 0, rateAcc := 0, steps := [], v := 0 }) s)
  else if fid = 0x30001 then loadQ s
  else if fid = 0x30200 then
    tbsMod (fun b => { b with dlHeld := [] }) (s.tbs.dlHeld.foldl (fun s p => dlCount p.1 p.2 s) s)
  else s

/-! ### Views and clears (R71) -/

/-- MOTION of TBS_STATE (R71). A policy in force is shown first, then standstill, then reverse (log entry 15). -/
def motion (s : State) : Nat :=
  if !s.tbs.inService then 0
  else
    match s.tbs.failed with
    | some f => if f.pol = 1 then 4 else if f.pol = 2 then 5 else 6
    | none =>
      if s.grp.noMaster then 6
      else if s.tbs.standstill then 2
      else if s.tbs.deficit ≠ 0 then 3
      else 1

/-- The history entry of line `l` as 128 bits (R71). -/
def histWord (s : State) (l : Nat) : Nat :=
  match s.tbs.hist.find? (fun h => h.l == l) with
  | some h => packMsb [(h.p, 40), (h.tl, 64), (h.epoch, 8), (0, 14), (1, 1), (b2n h.gap, 1)]
  | none => 0

/-- Links that delivered a broadcast or beacon in the last 64 µs (R71). -/
def rxOk (s : State) : Nat :=
  nsum ((List.range 4).map (fun n =>
    match mget s.grp.rxT n with | some t0 => if s.t ≤ t0 + 12800 then 2 ^ n else 0 | none => 0))

/-- TBS registers that show state (R71). -/
def viewTbs (s : State) (a : Nat) : Option Nat :=
  if a = Reg.TBS_P_LO then some (s.tbs.p % 2 ^ 32)
  else if a = Reg.TBS_P_HI then some (s.tbs.p / 2 ^ 32)
  else if a = Reg.TBS_L then some s.tbs.l
  else if a = Reg.TBS_VEL then some (velNow s)
  else if a = Reg.TBS_T_LO then some (s.t % 2 ^ 32)
  else if a = Reg.TBS_T_HI then some (s.t / 2 ^ 32)
  else if a = Reg.TBS_SECONDS then some (seconds s)
  else if a = Reg.TBS_REV_DEFICIT then some s.tbs.deficit
  else if a = Reg.TBS_STATE then
    some (packMsb [(((s.tbs.hist.head?.map (·.epoch)).getD 0), 8), (0, 1), (s.grp.role, 2),
      (b2n s.tbs.failed.isSome, 1), (b2n s.tbs.stall, 1), (motion s, 3)])
  else if a = Reg.TBS_XW_STATUS then
    some (packMsb [(s.grp.pathLat, 16), (rxOk s, 4), (0, 4), (s.grp.hops, 3), (b2n s.grp.multiMaster, 1),
      (b2n s.grp.masterLost, 1), (b2n s.grp.noMaster, 1), (b2n s.grp.locked, 1), (b2n s.grp.tLoaded, 1)])
  else if Reg.TBS_HIST ≤ a ∧ a < Reg.TBS_HIST + 16 then
    let i := (a - Reg.TBS_HIST) / 4
    some (bits (histWord s (rnat s Reg.TBS_HIST_L)) (32 * i + 31) (32 * i))
  else none

/-- DL_CLEAR (R71): bit n of the value clears TBS_DL_COUNT[n] and TBS_DL_LAST[n]. -/
def dlClear (v : Nat) (s : State) : State :=
  rclear s ((List.range 10).flatMap (fun n =>
    if bit v n then [Reg.TBS_DL_COUNT + 4 * n, Reg.TBS_DL_LAST + 4 * n] else []))

end Sys2Proof.Machine
end

