-- ==== Sys2Proof/Machine/Array.lean ====
section
/-! DEFINITION. Pixel array, exposure, staged settings and epochs, area snapshot (03_pixel_array_exposure.md). -/

namespace Sys2Proof.Machine

/-! ### Fields of a capture set -/

/-- Word of a set by its offset from the staged block base. -/
def CapSet.word (c : CapSet) (off : Nat) : Nat := c.w.getD (off / 4) 0
/-- ARY_STG_SLOT[i]. -/
def CapSet.slot (c : CapSet) (i : Nat) : Nat := c.word (4 * i)
/-- OFFSET of slot i, in 5 ns. -/
def CapSet.slotOff (c : CapSet) (i : Nat) : Nat := bits (c.slot i) 31 16
/-- LENGTH of slot i, in 5 ns; 0 means unused. -/
def CapSet.slotLen (c : CapSet) (i : Nat) : Nat := bits (c.slot i) 15 0
/-- End of slot i after T_L, X_k of the bands in it (R82). -/
def CapSet.slotEnd (c : CapSet) (i : Nat) : Nat := c.slotOff i + c.slotLen i
/-- RD_START, in 5 ns. -/
def CapSet.rdStart (c : CapSet) : Nat := bits (c.word 0x14) 15 0
/-- ARY_STG_BAND[k]. -/
def CapSet.band (c : CapSet) (k : Nat) : Nat := c.word (0x20 + 4 * k)
/-- Row r of band k is active. -/
def CapSet.rowEn (c : CapSet) (k r : Nat) : Bool := bit (c.band k) (16 + r)
/-- Active rows of band k, ascending. -/
def CapSet.rows (c : CapSet) (k : Nat) : List Nat := (List.range 16).filter (c.rowEn k)
/-- Slot of band k. -/
def CapSet.bandSlot (c : CapSet) (k : Nat) : Nat := bits (c.band k) 11 10
/-- BIN of band k: 0 ×1, 1 ×2, 2 ×4. -/
def CapSet.bin (c : CapSet) (k : Nat) : Nat := bits (c.band k) 9 8
/-- Class of row r of band k. -/
def CapSet.cls (c : CapSet) (k r : Nat) : Nat := bits (c.word (0x48 + 4 * k)) (2 * r + 1) (2 * r)
/-- Rows of class x in band k (R76). -/
def CapSet.clsRows (c : CapSet) (k x : Nat) : List Nat := (c.rows k).filter (fun r => c.cls k r == x)
/-- Class x of band k is in use (R77). -/
def CapSet.inUse (c : CapSet) (k x : Nat) : Bool := !(c.clsRows k x).isEmpty
/-- ARY_STG_EXP[k][x]. -/
def CapSet.exp (c : CapSet) (k x : Nat) : Nat := c.word (0xA0 + 12 * k + 4 * x)
/-- Duration of class x of band k, in 5 ns. -/
def CapSet.dur (c : CapSet) (k x : Nat) : Nat := bits (c.exp k x) 15 0
/-- Conversion gain of class x of band k: true HCG. -/
def CapSet.hcg (c : CapSet) (k x : Nat) : Bool := bit (c.exp k x) 31
/-- Column amplifier gain code of class x of band k (R134): gain 2^code. -/
def CapSet.cagOf (c : CapSet) (k x : Nat) : Nat := bits (c.cag.getD k 0) (2 * x + 1) (2 * x)
/-- Global window, in units of 8 columns: first and count. -/
def CapSet.gwin (c : CapSet) : Nat × Nat := (bits (c.word 0x10) 27 16, bits (c.word 0x10) 11 0)
/-- Window of band k: the global window when FOLLOW = 1 (R90). -/
def CapSet.win (c : CapSet) (k : Nat) : Nat × Nat :=
  let v := c.word (0x70 + 4 * k)
  if bit v 31 then c.gwin else (bits v 27 16, bits v 11 0)
/-- Column `col` lies in a window of 8-column units. -/
def inWin (w : Nat × Nat) (col : Nat) : Bool := decide (8 * w.1 ≤ col) && decide (col < 8 * (w.1 + w.2))
/-- Band k is captured: it has an active row (R79). -/
def CapSet.captured (c : CapSet) (k : Nat) : Bool := !(c.rows k).isEmpty
/-- N_rows (R80). -/
def CapSet.nRows (c : CapSet) : Nat := nsum ((List.range 9).map (fun k => (c.rows k).length))

/-- The conversion order of a line (R84): the rows of LEAD to TRL as (band, row); conversion 0 is the offset. -/
def CapSet.order (c : CapSet) : List (Nat × Nat) := (List.range 9).flatMap (fun k => (c.rows k).map (fun r => (k, r)))

/-- Conversion index of the first row of band k. -/
def CapSet.jFirst (c : CapSet) (k : Nat) : Nat := 1 + nsum ((List.range k).map (fun i => (c.rows i).length))
/-- Conversion index j_k of the last row of band k. -/
def CapSet.jLast (c : CapSet) (k : Nat) : Nat := c.jFirst k + (c.rows k).length - 1
/-- Slots in use. -/
def CapSet.usedSlots (c : CapSet) : List Nat := (List.range 4).filter (fun i => c.slotLen i != 0)
/-- Captured bands. -/
def CapSet.bands (c : CapSet) : List Nat := (List.range 9).filter c.captured
/-- X_k of band k, in 5 ns after T_L. -/
def CapSet.xk (c : CapSet) (k : Nat) : Nat := c.slotEnd (c.bandSlot k)
/-- Start of the first used slot. -/
def CapSet.firstSlot (c : CapSet) : Nat := (c.usedSlots.head?.map c.slotOff).getD 0
/-- End of the last used slot. -/
def CapSet.lastSlot (c : CapSet) : Nat := (c.usedSlots.getLast?.map c.slotEnd).getD 0
/-- t_read (R84), in 5 ns. -/
def CapSet.tRead (c : CapSet) : Nat := (c.nRows + 1) * 100
/-- h_k (R86), in 5 ns. -/
def CapSet.hold (c : CapSet) (k : Nat) : Nat := c.rdStart + 100 * (c.jLast k + 1) - c.xk k
/-- The occupancy t_occ (R86), in 5 ns. -/
def CapSet.tOcc (c : CapSet) : Nat :=
  max (c.lastSlot - c.firstSlot) (max c.tRead (nmax (c.bands.map c.hold)))

/-! ### Checks of a set (R97 orders 4 and 5) -/

/-- ASPECT (R74). -/
def aspect (s : State) : Nat := rfld s Reg.ARY_GEOM_CFG 11 0

/-- The rows a class may hold under the aspect (R75, R78): one, or one pair in MOS, above 1,020. -/
def clsCountOk (s : State) (c : CapSet) (k x : Nat) : Bool :=
  decide (aspect s ≤ 1020) || decide ((c.clsRows k x).length ≤ (if k = 4 then 2 else 1))

/-- Classes `x` and `y` of band k are both in use with one duration and the same gains (R77). -/
def CapSet.alike (c : CapSet) (k x y : Nat) : Bool :=
  c.inUse k x && c.inUse k y && c.dur k x == c.dur k y && c.hcg k x == c.hcg k y && c.cagOf k x == c.cagOf k y

/-- Classes and durations of band k (R77): no gap in the classes; no class 3; falling durations; two classes of equal durations
differ in a gain; each within 100 ns and the slot. -/
def classesOk (c : CapSet) (k : Nat) : Bool :=
  (c.rows k).all (fun r => c.cls k r != 3) &&
  (c.inUse k 0 || !(c.inUse k 1)) && (c.inUse k 1 || !(c.inUse k 2)) &&
  ((List.range 2).all (fun x => !(c.inUse k (x + 1)) || decide (c.dur k (x + 1) ≤ c.dur k x))) &&
  !c.alike k 0 1 && !c.alike k 1 2 && !c.alike k 0 2 &&
  ((List.range 3).all (fun x => !(c.inUse k x) ||
    (decide (20 ≤ c.dur k x) && decide (c.dur k x ≤ c.slotLen (c.bandSlot k)))))

/-- MOS rows come in pairs of one class (R78). -/
def mosOk (c : CapSet) : Bool :=
  (List.range 8).all (fun i => c.rowEn 4 (2 * i) == c.rowEn 4 (2 * i + 1) &&
    (!(c.rowEn 4 (2 * i)) || c.cls 4 (2 * i) == c.cls 4 (2 * i + 1)))

/-- Slots (R81): used slots in order, each ending at or before the next begins, none later than 327.675 µs. -/
def slotsOk (c : CapSet) : Bool :=
  (c.usedSlots.zip c.usedSlots.tail).all (fun p => decide (c.slotEnd p.1 ≤ c.slotOff p.2)) &&
  c.usedSlots.all (fun i => decide (c.slotEnd i ≤ 65535))

/-- Windows (R90): inside the array; a band window inside the global one; LEAD and TRL follow. -/
def windowsOk (c : CapSet) : Bool :=
  let g := c.gwin
  decide (1 ≤ g.2) && decide (g.1 + g.2 ≤ 2304) &&
  (List.range 9).all (fun k =>
    let w := c.win k
    bit (c.word (0x70 + 4 * k)) 31 ||
      (k != 0 && k != 8 && decide (1 ≤ w.2) && decide (g.1 ≤ w.1) && decide (w.1 + w.2 ≤ g.1 + g.2)))

/-- A band that an output family or a verdict program uses (R79): VISION planes enabled, MOS planes from band 4, and the
bands of the loaded programs. -/
def bandUsed (s : State) (k : Nat) : Bool :=
  (rbit s Reg.PIP_OUT_CFG 2 && rbit s (Reg.PIP_VIS_PLANE + 4 * k) 0) ||
  (k == 4 && rbit s Reg.PIP_OUT_CFG 8) ||
  (List.range 16).any (fun n => rbit s (Reg.VDT_PROG_INFO + 4 * n) (16 + k))

/-- Order 4 of R97: field ranges and R75, R77-R79, R81, R82, R85, R90, R92. -/
def setFieldsOk (s : State) (c : CapSet) : Bool :=
  (List.range 9).all (fun k => (List.range 3).all (fun x => clsCountOk s c k x)) &&
  c.bands.all (fun k => classesOk c k && c.slotLen (c.bandSlot k) != 0 &&
    decide (c.xk k + 80 ≤ c.rdStart + 100 * c.jFirst k)) &&
  mosOk c && c.captured 0 && c.captured 8 &&
  (List.range 9).all (fun k => c.captured k || !(bandUsed s k)) &&
  (List.range 9).all (fun k => decide (c.bin k ≤ 2)) && c.bin 0 == 0 && c.bin 8 == 0 &&
  slotsOk c && windowsOk c

/-- The row budget (R29, R80). -/
def rowBudgetOk (s : State) (c : CapSet) : Bool :=
  decide (c.nRows * rfld s Reg.ARY_FMAX 15 0 ≤ 1800000) && decide (c.nRows ≤ 144)

/-- The occupancy check (R87): t_occ ≤ (1/F_max)(1 − DL_MARGIN/1,000). -/
def occupancyOk (s : State) (c : CapSet) : Bool :=
  decide (c.tOcc * rfld s Reg.ARY_FMAX 15 0 * 1000 ≤ 200000000 * (1000 - rfld s Reg.TBS_VEL_CFG 23 16))

/-- The staged set (R95, R96): the staged registers of ARY and COL now. -/
def stagedSet (s : State) : CapSet where
  w := (List.range 67).map (fun i => rnat s (0x100080 + 4 * i))
  cag := (List.range 9).map (fun k => rnat s (Reg.COL_STG_CAG + 4 * k))

/-! ### Commits (R96-R99) -/

/-- Apply `f` to the array. -/
def aryMod (f : Ary → Ary) (s : State) : State := { s with ary := f s.ary }

/-- Set EPOCH and RESULT of ARY_APPLY_STATUS. -/
def applyResult (r : Nat) (s : State) : State := rfset s Reg.ARY_APPLY_STATUS 23 20 r

/-- Refuse a commit (R97): RESULT and event 0x101; eight live epochs raise 0x103 as well. -/
def refuseCommit (r : Nat) (s : State) : State :=
  let s1 := raise0 0x101 0x10000 [r] (applyResult r s)
  if r = 6 then raise0 0x103 0x10000 [] s1 else s1

/-- The RESULT of the first check of R97 that fails for L_apply, or none. `chk` adds what other chapters check of a set at
orders 1, 4 and 5. -/
def commitRefusal (chk : CapSet → Option Nat) (lApply : Nat) (s : State) : Option Nat :=
  let d := diffMod 32 lApply s.tbs.l
  let c := stagedSet s
  if s.ary.pend.isSome ∨ chk c = some 5 then some 5
  else if d < 2 ∨ (2 ^ 20 : Int) < d then some 4
  else if 8 ≤ s.ary.epochs.length then some 6
  else if !setFieldsOk s c then some 8
  else if chk c = some 8 then some 8
  else if !(rowBudgetOk s c && occupancyOk s c) then some 7
  else chk c

/-- Commit the staged set for `lApply` (R96, R97): refused with a RESULT, or pending with RESULT 1 and the epoch it will
receive. Ignored before the section is loaded. -/
def commitAt (chk : CapSet → Option Nat) (lApply : Nat) (s : State) : State :=
  if !s.ary.loaded || !domainRuns s 1 || inReset s 0x10000 then s
  else
    match commitRefusal chk lApply s with
    | some r => refuseCommit r s
    | none =>
      let e := (s.ary.epoch + 1) % 256
      let c := stagedSet s
      let s1 := aryMod (fun a => { a with
        pend := some ⟨c, lApply, e, false⟩, epochs := a.epochs ++ [⟨e, c, false, none⟩] }) s
      applyResult 1 (rfset s1 Reg.ARY_APPLY_STATUS 31 24 e)

/-- COMMIT: ARY_APPLY.CMD = 1 (R96). -/
def commit (chk : CapSet → Option Nat) (s : State) : State := commitAt chk (rnat s Reg.ARY_APPLY_L) s

/-- COMMIT_ASAP: ARY_APPLY.CMD = 2, L_apply = L_now + 2 (R96). -/
def commitAsap (chk : CapSet → Option Nat) (s : State) : State := commitAt chk ((s.tbs.l + 2) % 2 ^ 32) s

/-- Withdraw the pending commit with a RESULT and event 0x102; its epoch is no longer live, and ARY_APPLY_STATUS names the last
applied one again. -/
def withdrawCommit (r : Nat) (p : PendingCommit) (s : State) : State :=
  raise0 0x102 0x10000 [] (applyResult r
    (rfset (aryMod (fun a => { a with pend := none, epochs := a.epochs.filter (fun x => x.applied || x.e != p.epoch) }) s)
      Reg.ARY_APPLY_STATUS 31 24 s.ary.epoch))

/-- CANCEL: ARY_APPLY.CMD = 3 (R98): withdrawn before the freeze, refused with RESULT 10 after it, ignored with nothing
pending. -/
def cancel (s : State) : State :=
  match s.ary.pend with
  | none => s
  | some p => if p.frozen then applyResult 10 s else withdrawCommit 3 p s

/-- EPOCH_FREEZE (R98): the boundary of L_apply − 1. -/
def epochFreeze (s : State) : State :=
  match s.ary.pend with
  | some p =>
    if diffMod 32 p.lApply s.tbs.l ≤ 1 then aryMod (fun a => { a with pend := some { p with frozen := true } }) s
    else s
  | none => s

/-- The active registers show a set (R99, R105, R134). -/
def showSet (c : CapSet) (s : State) : State :=
  let s1 := rsets s ((List.range 67).map (fun i => (0x100200 + 4 * i, c.w.getD i 0)))
  let s2 := rsets s1 ((List.range 9).map (fun k => (Reg.COL_CAG + 4 * k, c.cag.getD k 0)))
  rfset (rset s2 Reg.ARY_TOCC c.tOcc) Reg.ARY_STATUS 23 16 c.nRows

/-- The committed set comes into force at the boundary of L_apply (R99): EPOCH advances, RESULT 2, event 0x100 with the
epoch and L_apply. The planned re-check at the same boundary is added in Machine/Lines.lean. -/
def applyEpoch (s : State) : State :=
  match s.ary.pend with
  | some p =>
    if 0 < diffMod 32 p.lApply s.tbs.l then s
    else
      let s1 := aryMod (fun a => { a with
        pend := none, set := p.set, epoch := p.epoch
        epochs := a.epochs.map (fun x => if x.e = p.epoch ∧ !x.applied then { x with applied := true } else x) }) s
      raise0 0x100 0x10000 [p.epoch, p.lApply] (applyResult 2 (showSet p.set s1))
  | none => s

/-- The ARY section is loaded (R95): staged and active alike, epoch 0 in force, mode in effect with event 0x111. -/
def arySectionLoaded (s : State) : State :=
  let c := stagedSet s
  let s1 := aryMod (fun a => { a with
    loaded := true, set := c, epoch := 0, epochs := [⟨0, c, true, none⟩], pend := none }) s
  let m := rfld s Reg.ARY_MODE_CFG 2 0
  raise0 0x111 0x10000 [m] (rfset (showSet c s1) Reg.ARY_STATUS 2 0 m)

/-- The set of a live epoch, or the set in force. -/
def setOf (s : State) (e : Nat) : CapSet :=
  match s.ary.epochs.find? (fun x => x.e == e) with
  | some x => x.set
  | none => s.ary.set

/-! ### Line admission and SETTLE (R88, R100) -/

/-- ARY reports the first slot of the line free at T_L (R88): illumination, conversion sequences and storage nodes of the
latest captured line are clear, and no snapshot runs. -/
def slotFree (tl : Nat) (s : State) : Bool :=
  !s.ary.snapBusy &&
  match s.ary.lastCap with
  | none => true
  | some (_, _, tl0) =>
    let n := s.ary.set
    let p := s.ary.capSet
    let d := tl - tl0
    decide (p.lastSlot ≤ d + n.firstSlot) && decide (p.rdStart + p.tRead ≤ d + n.rdStart) &&
    (List.range 9).all (fun k => !(n.captured k && p.captured k) ||
      decide (p.rdStart + 100 * (p.jLast k + 1) ≤ d + n.xk k))

/-- Bands that owe SETTLE to a captured line under set `n`, whose latest captured line ran under set `p` (R100). -/
def settleBands (n p : CapSet) : Nat :=
  nsum ((List.range 9).map (fun k =>
    if n.captured k && (!(p.captured k) ||
        (List.range 3).any (fun x => n.inUse k x &&
          (!(p.inUse k x) || n.hcg k x != p.hcg k x || n.cagOf k x != p.cagOf k x)))
    then 2 ^ k else 0))

/-! ### Exposure, slots, transfer (R81-R83) -/

/-- The newest captured line that uses slot `i` and whose slot has come to its end (R82). Log entry 289. -/
def lineEnding (s : State) (i : Nat) : Option CapLine :=
  s.ary.flight.find? (fun x => x.set.slotLen i != 0 && decide (x.tl + x.set.slotEnd i ≤ s.t))

/-- The captured line in whose slot `i` T lies, seen `lead` cycles early (R81, R376). A slot of a line may open or close after T_L
of the next captured line (R88), and belongs to its own line still. Log entry 289. -/
def lineInSlot (s : State) (lead i : Nat) : Option CapLine :=
  s.ary.flight.find? (fun x => decide (x.tl + x.set.slotOff i ≤ s.t + lead) &&
    decide (s.t + lead < x.tl + x.set.slotEnd i))

/-- The captured line whose row class `c` of band `k` exposes at T: from X_k - d(c) to X_k (R82). -/
def lineExposing (s : State) (k c : Nat) : Option CapLine :=
  s.ary.flight.find? (fun x => x.set.inUse k c && decide (x.tl + x.set.xk k ≤ s.t + x.set.dur k c) &&
    decide (s.t < x.tl + x.set.xk k))

/-- EXPOSURE_START (R82): a row class of a band begins its exposure, X_k - d(c) after T_L of its captured line. -/
def exposureStart (k c : Nat) (s : State) : State :=
  if (lineExposing s k c).isSome && up s (0x10200 + k) then
    aryMod (fun a => { a with exposing := if a.exposing.contains (4 * k + c) then a.exposing
                                          else (4 * k + c) :: a.exposing }) s
  else s

/-- The duration of class `x` of band `k` where the edge of its slot came `late`: an opening cuts what the window had before it, a
closing prolongs it, from the duration `d` that it had so far. -/
def lateDur (c : CapSet) (k : Nat) (opens : Bool) (late d : Nat) : Nat :=
  if opens then min d (c.slotLen (c.bandSlot k) - late) else d + late

/-- The actual durations of the classes of slot `i` on line `l` after a late edge; those of lines long past are dropped. -/
def lateDurs (c : CapSet) (i l : Nat) (opens : Bool) (late : Nat) (m : Map Nat) : Map Nat :=
  (List.range 36).foldl (fun m kc =>
    let k := kc / 4
    let x := kc % 4
    if x < 3 ∧ c.inUse k x ∧ c.bandSlot k = i
    then mput m (64 * l + kc) (lateDur c k opens late (mgetD m (64 * l + kc) (c.dur k x))) else m)
    (m.filter (fun p => decide ((diffMod 32 l (p.1 / 64)).natAbs ≤ 8)))

/-- SLOT_EDGE (R81, R102): slot `i` opens or closes; an edge more than 5 ns late raises 0x10D, and the actual durations of
the classes it changes are kept for MERGE. `late` is in 5 ns. -/
def slotEdge (i : Nat) (opens : Bool) (late : Nat) (s : State) : State :=
  match (if opens then lineInSlot s 0 i else lineEnding s i) with
  | none => s
  | some x =>
    if !up s 0x10100 then s
    else
      let s1 := aryMod (fun a => { a with
        slotOpen := if opens then (if a.slotOpen.contains i then a.slotOpen else i :: a.slotOpen)
                    else a.slotOpen.filter (· != i)
        slotLine := if opens then mput a.slotLine i x.l else a.slotLine
        actual := if late ≤ 1 then a.actual else lateDurs x.set i x.l opens late a.actual }) s
      raiseIf (decide (1 < late)) 0x10D 0x10100 [] 0 0 s1

/-- The bands that transfer at the end of slot `i` of a captured line and whose row drivers work (R82). -/
def slotBands (x : CapLine) (i : Nat) (s : State) : List Nat :=
  x.set.bands.filter (fun k => x.set.bandSlot k == i && up s (0x10200 + k))

/-- The transfer of the bands of slot `i` of the line whose slot ends (R82, R83): their exposures end and their rows move into
the storage nodes, with the pulse width that line took at its T_L. -/
def transferBands (x : CapLine) (i : Nat) (s : State) : State :=
  let ks := slotBands x i s
  aryMod (fun a => { a with
    txPw := x.txPw
    exposing := a.exposing.filter (fun y => !ks.contains (y / 4))
    nodes := ks.foldl (fun m k => mput m k x.l) a.nodes }) s

/-! ### Area snapshot (R94) -/

/-- SNAP_GO (R94, R102): a request, or a refusal while one is pending or running. Log entry 336. -/
def snapGo (s : State) : State :=
  if s.ary.snapPend || s.ary.snapBusy then
    raise0 0x105 0x10001 [] (rfset s Reg.ARY_SNAP_STATUS 3 2 2)
  else if !up s 0x10001 then s
  else
    rfset (aryMod (fun a => { a with snapPend := true, snapReqT := s.t, snapCfg := rnat s Reg.ARY_SNAP_CFG }) s)
      Reg.ARY_SNAP_STATUS 1 1 1

/-- The planner grants the snapshot (SNAP_GRANT, R94 step 2): PENDING 0, BUSY 1. T_S is fixed from T_L of the line whose boundary
it is, without one from the present T, and from the readout of the latest captured line (step 3). Log entries 301, 337. -/
def snapGrant (s : State) : State :=
  let off := s.ary.set.slotOff (bits s.ary.snapCfg 17 16)
  let tl := match s.tbs.due.getLast? with | some d => d.tCross + lsDelay s | none => s.t
  let ready := match s.ary.lastCap with
    | some (_, _, tl) => tl + s.ary.capSet.rdStart + s.ary.capSet.tRead
    | none => 0
  let s1 := aryMod (fun a => { a with
    snapPend := false, snapBusy := true, snapStage := 0, snapT := max (tl + off) ready, snapSkipped := 0 }) s
  let l := match s.tbs.due with | d :: _ => d.l | [] => s.tbs.l
  let s2 := { s1 with pip := { s1.pip with snapL := l } }
  rfset (rfset s2 Reg.ARY_SNAP_STATUS 1 1 0) Reg.ARY_SNAP_STATUS 0 0 1

/-- SNAP_EXPOSURE_START (R94 step 3): all 144 rows reset and begin exposure. -/
def snapExposure (s : State) : State :=
  if s.ary.snapBusy && s.ary.snapStage == 0 then aryMod (fun a => { a with snapStage := 1 }) s else s

/-- SNAP_TRANSFER (R94 steps 4 and 5): all nine bands transfer, and the 145 conversions follow. -/
def snapTransfer (s : State) : State :=
  if s.ary.snapBusy && s.ary.snapStage == 1 then
    aryMod (fun a => { a with
      snapStage := 2, reads := a.reads ++ [⟨s.tbs.l, a.epoch, s.t, 0, a.tb, 0, 0, true⟩] }) s
  else s

/-- The snapshot readout ended (R94 step 6): BUSY 0, RESULT done, COUNT advances, 0x104, and 0x106 with the lines it made
GAP. The delivery of its units is added in Machine/Formatter.lean. -/
def snapEnd (s : State) : State :=
  let n := s.ary.snapSkipped
  let s1 := aryMod (fun a => { a with
    snapBusy := false, snapStage := 0, reads := a.reads.filter (fun r => !r.snap) }) s
  let s2 := rwrap (rfset (rfset s1 Reg.ARY_SNAP_STATUS 0 0 0) Reg.ARY_SNAP_STATUS 3 2 1) Reg.ARY_SNAP_STATUS 31 16 1
  raiseIf (n != 0) 0x106 0x10001 [n] 0 0 (raise0 0x104 0x10001 [] s2)

/-- SNAP_NO_GRANT (R94, R102): not granted within 1 s, withdrawn with RESULT 3 and 0x105. -/
def snapNoGrant (s : State) : State :=
  if s.ary.snapPend then
    raise0 0x105 0x10001 []
      (rfset (rfset (aryMod (fun a => { a with snapPend := false }) s) Reg.ARY_SNAP_STATUS 1 1 0)
        Reg.ARY_SNAP_STATUS 3 2 3)
  else s

/-! ### Reset scope and views -/

/-- The conversion sequences in progress or waiting end with the readout sequencer (R523): their lines become GAP from there on, in
the order of L with the GAP lines that wait behind them (R141). Log entry 347. -/
def readoutCut (s : State) : State :=
  let cut := s.ary.reads.filter (fun r => !r.snap)
  { s with
    ary := { s.ary with reads := [], gapsDue := cut.foldl (fun gs r => putInLine (r.l, r.epoch) gs) s.ary.gapsDue }
    col := { s.col with tags := s.col.tags.map (fun t => if cut.any (fun r => r.l == t.l) then { t with gap := true } else t) } }

/-- ARY state inside the reset scope of `fid` (R521, R523): capture control cancels a pending commit with RESULT 9; the
snapshot is abandoned with RESULT 3. -/
def aryResetScope (fid : Nat) (s : State) : State :=
  if fid = 0x10000 then
    match s.ary.pend with
    | some p => withdrawCommit 9 p s
    | none => s
  else if fid = 0x10001 then
    if s.ary.snapPend || s.ary.snapBusy then
      let s1 := aryMod (fun a => { a with
        snapPend := false, snapBusy := false, snapStage := 0, reads := a.reads.filter (fun r => !r.snap) }) s
      rfset (rfset { s1 with pip := { s1.pip with snapRows := [] } } Reg.ARY_SNAP_STATUS 1 0 0) Reg.ARY_SNAP_STATUS 3 2 3
    else s
  else if fid = 0x10100 then aryMod (fun a => { a with slotOpen := [], exposing := [], actual := [] }) s
  else if 0x10200 ≤ fid ∧ fid ≤ 0x10208 then
    aryMod (fun a => { a with nodes := mdel a.nodes (fid - 0x10200)
                              exposing := a.exposing.filter (fun x => x / 4 != fid - 0x10200) }) s
  else if fid = 0x10300 then readoutCut s
  else s

/-- ARY registers that show state (R105). -/
def viewAry (s : State) (a : Nat) : Option Nat :=
  if a = Reg.ARY_STATUS then
    some (setBits (rnat s a) 31 24 ((s.tbs.hist.head?.map (·.epoch)).getD 0))
  else if a = Reg.ARY_LIVE then
    some (if !s.ary.loaded then 0
      else packMsb [((s.ary.epochs.head?.map (·.e)).getD 0, 8), ((s.ary.epochs.getLast?.map (·.e)).getD 0, 8), (0, 12),
        (s.ary.epochs.length, 4)])
  else none

end Sys2Proof.Machine
end

