-- ==== Sys2Proof/Machine/NvRead.lean ====
section
/-! DEFINITION. Reading flash and the records of the recorder's mirror in it (16_events_resets.md R507, R508, R516). -/

namespace Sys2Proof.Machine

/-- Bytes of flash; erased flash reads FFH. -/
def flashBytes (s : State) (a n : Nat) : List Byte := mgets 0xFF#8 s.mgt.flash a n

/-- Flash address of granule `g` of mirror sector `i`. -/
def mirrorAddr (i g : Nat) : Nat := 0x1000000 + 4096 * i + 16 * g

/-- Granule `g` of mirror sector `i`. -/
def mirrorGran (s : State) (i g : Nat) : Nat := ofLe (flashBytes s (mirrorAddr i g) 16)

/-- The sector header for its first SEQ and use count. -/
def mirrorHeader (seq use : Nat) : BitVec 128 :=
  let hi := packMsb [(0x524D5042, 32), (seq, 32), (use, 32)]
  BitVec.ofNat 128 (hi * 2 ^ 32 + crc32 (leBytes 12 hi))

/-- SEQ and use count of the header of sector `i`, when it holds. -/
def sectorHead (s : State) (i : Nat) : Option (Nat × Nat) :=
  let w := mirrorGran s i 0
  let seq := bits w 95 64
  let use := bits w 63 32
  if (mirrorHeader seq use).toNat = w then some (seq, use) else none

/-- The valid records of a sector from granule `g`: each one's granules 0, 1 and 2. -/
def sectorRecGrans (s : State) (i : Nat) : Nat → Nat → List (Nat × Nat × Nat)
  | 0, _ => []
  | n + 1, g =>
    if 256 ≤ g then []
    else
      let w := mirrorGran s i g
      if w = 2 ^ 128 - 1 then sectorRecGrans s i n (g + 1)
      else
        let pad := bits w 123 112 == 0
        let rest := sectorRecGrans s i n (g + bits w 111 110 + 1)
        if bits w 127 124 = 0xA ∧ !pad then (w, mirrorGran s i (g + 1), mirrorGran s i (g + 2)) :: rest else rest

/-- Sectors of the mirror that hold anything but erased bytes and whose header holds, with their use counts. Log entry 16. -/
def mirrorSectors (s : State) : List (Nat × Nat) :=
  ((s.mgt.flash.filterMap (fun c =>
      if 0x1000000 ≤ c.1 ∧ c.1 < 0x1400000 then some ((c.1 - 0x1000000) / 4096) else none)).eraseDups).filterMap (fun i =>
    (sectorHead s i).map (fun h => (i, h.2)))

end Sys2Proof.Machine
end

