-- ==== Sys2Proof/Machine/Columns.lean ====
section
/-! DEFINITION. Column converters and self-audit (04_column_converters.md): conversion and trim, the audit and its
reference check, suspicion, gross faults, shadow and takeover, calibration, black clamp. -/

namespace Sys2Proof.Machine

/-! ### Slices -/

/-- Slice `n`. -/
def sliceOf (s : State) (n : Nat) : Slice := mgetD s.col.slices n Slice.reset
/-- Replace slice `n`. -/
def setSlice (s : State) (n : Nat) (x : Slice) : State :=
  { s with col := { s.col with slices := mputD Slice.reset s.col.slices n x } }
/-- Function ID of slice `n` (R20). -/
def sliceFid (n : Nat) : Nat := 0x20000 + n / 16 * 0x100 + n % 16
/-- The converter that serves physical column `p` (R106). -/
def Slice.server (x : Slice) (p : Nat) : Nat := mgetD x.serv p p
/-- State of a converter: 0 in service, 1 available, 2 retired, 3 retired at calibration. -/
def Slice.convState (x : Slice) (i : Nat) : Nat := mgetD x.conv i (if 99 ≤ i then 1 else 0)
/-- Spares still available, SP1 before SP2. -/
def Slice.avail (x : Slice) : List Nat := [99, 100].filter (fun i => x.convState i == 1)
/-- The stage that the map gives (R129). -/
def Slice.mapStage (x : Slice) : Nat :=
  if x.defects ≠ [] then 4 else if x.auMode ≠ 0 then 3 else 2 - x.avail.length
/-- The slice is wholly outside window `w`. -/
def outsideWin (w : Nat × Nat) (n : Nat) : Bool := !((List.range 12).any (fun i => inWin w (96 * n + 8 * i)))
/-- The slice is wholly outside the global window of a set. -/
def idleIn (c : CapSet) (n : Nat) : Bool := outsideWin c.gwin n
/-- Slices with a column inside the global window. -/
def activeSlices (c : CapSet) : List Nat := (List.range 192).filter (fun n => !(idleIn c n))
/-- Physical columns of slice `n` converted for a window: active columns inside it, and K0 and K1. -/
def convCols (w : Nat × Nat) (n : Nat) : List Nat :=
  (List.range 96).filter (fun p => inWin w (96 * n + p)) ++ [96, 97]

/-- Code of converter `i` of slice `n`. -/
def Codes.at (c : Codes) (n i : Nat) : Nat := mgetD c.m (128 * n + i) c.d

/-- The delivered sample (R110): x₀ + round((x − x₀) × TRIM), clamped to 12 bits; TRIM is unsigned 1.15. -/
def trimmed (trim x x0 : Nat) : Nat :=
  (clampI 0 4095 ((x0 : Int) + roundShift (((x : Int) - x0) * trim) 15)).toNat

/-- Offset-subtracted, trimmed value of converter `i` (R116). -/
def yOf (x : Slice) (codes offs : Codes) (n i : Nat) : Int :=
  (trimmed (mgetD x.trim i 0) (codes.at n i) (offs.at n i) : Int) - offs.at n i

/-- Two values disagree (R116). -/
def disagrees (s : State) (ys ya : Int) : Bool :=
  decide ((rfld s Reg.COL_AUDIT_CFG 29 24 * 1000 + rfld s Reg.COL_AUDIT_CFG 23 19 * ya.natAbs : Int)
    < 1000 * (ys - ya).natAbs)

/-! ### Stages, indictments, takeover (R120-R130) -/

/-- The map as COL_SLS_MAP shows it (R139). A spare that shadows, or that takes baselines to become AU, still reads available:
it serves nothing yet and is not retired (log entry 252). -/
def mapWord (x : Slice) : Nat :=
  let colOf := fun i => ((x.serv.find? (fun p => p.2 == i)).map (·.1)).getD 127
  let st := fun i => if colOf i ≠ 127 then 1 else if 2 ≤ x.convState i then 2 else if x.au = i then 3 else 0
  let auSt := if x.au ≠ 98 then (if colOf 98 = 127 then 2 else 1) else x.auMode
  packMsb [(colOf 99, 7), (st 99, 2), (colOf 100, 7), (st 100, 2), (colOf 98, 7), (auSt, 2), (0, 5)]

/-- Arguments of the privileged remap records (R114, R127, log entry 253): the map word, then the defect list as a bit a column. -/
def remapArgs (x : Slice) : List Nat :=
  let d := nsum (x.defects.map (fun p => 2 ^ (p % 128)))
  [mapWord x, bits d 31 0, bits d 63 32, bits d 95 64, bits d 127 96]

/-- Raise an event of slice `n` about column `p` (127 none). -/
def raiseSlice (code n p : Nat) (args : List Nat) (s : State) : State :=
  raise code (sliceFid n) args 1 (coSlice n p) s

/-- SLICE_IDLE (0x225) of every slice that becomes idle (0) or leaves idle (1) between two states. -/
def idleChange (before : State) (s : State) : State :=
  (List.range 192).foldl (fun x n =>
    let a := before.ary.loaded && idleIn before.ary.set n
    let b := s.ary.loaded && idleIn s.ary.set n
    raiseIf (a != b) 0x225 (sliceFid n) [b2n a] 1 (coSlice n 127) x) s

/-- Bring the stage up to the map's (it never falls, R129): 0x226, and 0x220 at stage 2, 0x20D at stage 4. -/
def updStage (n : Nat) (s : State) : State :=
  let x := sliceOf s n
  let st := max x.stage x.mapStage
  if st = x.stage then s
  else
    let s1 := raiseSlice 0x226 n 127 [] (setSlice s n { x with stage := st })
    let s2 := if st = 2 then raiseSlice 0x220 n 127 [] s1 else s1
    if st = 4 then raiseSlice 0x20D n 127 (remapArgs (sliceOf s2 n)) s2 else s2

/-- The record of a column that became defective (R130, R138): 0x20E with the new map and defect list, or 0x222 for a reference
column. -/
def defectEvent (n p : Nat) (s : State) : State :=
  if 96 ≤ p then raiseSlice 0x222 n p [] s else raiseSlice 0x20E n p (remapArgs (sliceOf s n)) s

/-- A column becomes defective (R130): reported to DEF on the lines that start afterwards
(`captureLine` takes the list), and nothing waits for it any more. -/
def makeDefective (n p : Nat) (s : State) : State :=
  let x := sliceOf s n
  if x.defects.contains p then s
  else
    let x1 := { x with defects := x.defects ++ [p], wait := x.wait.filter (fun w => w.1 == 0 || w.2 != p) }
    updStage n (defectEvent n p (setSlice s n x1))

/-- The indictment to take first (R124): AU, then gross faults by column, then suspicion by count and column. -/
def pickWait (x : Slice) : Option (Nat × Nat) :=
  x.wait.foldl (fun best w =>
    match best with
    | none => some w
    | some b =>
      let key := fun (v : Nat × Nat) => if v.1 = 2 then 100000 + (15 - mgetD x.susp v.2 0) * 128 + v.2
                                        else v.1 * 1000 + v.2
      if key w < key b then some w else some b) none

/-- Take the next waiting indictment of slice `n` when none is being handled (R124, R125, R128, R129). -/
def serveWaitF : Nat → Nat → State → State
  | 0, _, s => s
  | fuel + 1, n, s =>
    let x := sliceOf s n
    if x.shadow.isSome || x.repl.isSome || x.due.isSome then s
    else
      match pickWait x with
      | none => s
      | some (kind, p) =>
        let x1 := { x with wait := x.wait.filter (fun w => w != (kind, p)) }
        if kind = 0 then
          if x.auMode ≠ 0 then serveWaitF fuel n (setSlice s n x1)
          else
            match x.avail with
            | sp :: _ => setSlice s n { x1 with repl := some ⟨sp, 0, []⟩, conv := mput x1.conv sp 0 }
            | [] =>
              let s1 := setSlice s n { x1 with auMode := 2, conv := mput x1.conv x.au 2 }
              serveWaitF fuel n (updStage n (raiseSlice 0x20C n 127 (remapArgs (sliceOf s1 n)) s1))
        else if x.auMode ≠ 0 then
          let s1 := setSlice s n x1
          serveWaitF fuel n (if kind = 1 then makeDefective n p s1 else s1)
        else
          match x.avail with
          | sp :: _ =>
            raiseSlice 0x203 n p []
              (setSlice s n { x1 with shadow := some ⟨p, sp, 0, false, 0, 0, 0, false⟩, conv := mput x1.conv sp 0 })
          | [] => setSlice s n { x1 with due := some (p, x.au) }

/-- Take waiting indictments of slice `n`. -/
def serveWait (n : Nat) (s : State) : State := serveWaitF (sliceOf s n).wait.length n s

/-- Indict column `p` of slice `n` (R122, R123): 0x202, and it waits its turn. A gross fault of a column that a shadow is already
trying waits too: it is served when the shadow's indictment is withdrawn, and goes with the converter at a takeover. -/
def indict (kind n p : Nat) (s : State) : State :=
  let x := sliceOf s n
  if x.wait.contains (kind, p) || (kind == 2 && (x.shadow.any (fun h => h.col == p) || x.due.any (fun d => d.1 == p))) then s
  else raiseSlice 0x202 n p [] (setSlice s n { x with wait := x.wait ++ [(kind, p)], lastIndict := p })

/-- AU gains a suspicion (R121, R126); at 3 it is indicted, 0x208. -/
def suspectAu (n : Nat) (s : State) : State :=
  let x := sliceOf s n
  let a := min 3 (x.audSusp + 1)
  let s1 := setSlice s n { x with audSusp := a }
  if a = 3 ∧ x.audSusp ≠ 3 then
    raiseSlice 0x208 n 127 [] (setSlice s1 n { sliceOf s1 n with wait := (0, 0) :: (sliceOf s1 n).wait })
  else s1

/-- The conversion sequence of a captured line is in progress: a takeover waits until it has ended (R127). -/
def lineConverting (s : State) : Bool :=
  match s.ary.reads with
  | r :: _ => !r.snap && r.j != 0
  | [] => false

/-- TAKEOVER (R127, R129): at the line boundary the converter that is due serves the column; the old one is retired, and what it
waited for and its audits of the cycle go with it (R106).
A spare after its shadow raises 0x205; AU in stage 2 raises 0x205 and 0x20C, and auditing ends. -/
def takeover (n : Nat) (s : State) : State :=
  let x := sliceOf s n
  match (if lineConverting s then none else x.due) with
  | none => s
  | some (p, i) =>
    let old := x.server p
    let x1 := { x with
      due := none
      serv := mput x.serv p i
      conv := mput (mput x.conv old 2) i 0
      susp := mdel x.susp p, audc := mdel x.audc p, gross := mdel x.gross p
      prov := x.prov.filter (fun a => a.1 != p), wait := x.wait.filter (fun w => w.1 == 0 || w.2 != p)
      auMode := if i = x.au then 1 else x.auMode }
    let s0 := { s with pip := { s.pip with swapped := (96 * n + p) :: s.pip.swapped } }
    let s1 := raiseSlice 0x205 n p (remapArgs x1) (setSlice s0 n x1)
    let s2 := if i = x.au then raiseSlice 0x20C n p (remapArgs x1) s1 else s1
    serveWait n (updStage n s2)

/-- AUDIT_REPLACED (R128): after two cycles of baselines the spare becomes AU, and the old AU is retired, 0x209. The new AU
starts with AUD_SUSP 0 and no run of passing checks; a cycle whose K0 or K1 line was GAP or skipped counts as one of the two; a
gain without a value keeps the baseline of the old AU (log entry 254). -/
def auditReplaced (n : Nat) (s : State) : State :=
  let x := sliceOf s n
  match x.repl with
  | none => s
  | some r =>
    if r.cycles < 2 then s
    else
      let base := fun (old : List Nat) (k : Nat) => (List.range 4).map (fun g =>
        match mget r.sums (2 * g + k) with
        | some (sum, m) => satU 12 (roundDiv sum m)
        | none => old.getD g 0)
      let x1 := { x with
        repl := none, au := r.spare, audSusp := 0, passRun := 0
        conv := mput (mput x.conv x.au 2) r.spare 0
        bK0 := base x.bK0 0, bK1 := base x.bK1 1 }
      serveWait n (updStage n (raiseSlice 0x209 n 127 (remapArgs x1) (setSlice s n x1)))

/-! ### Conversion (R108-R110), audit and reference check (R115-R119) -/

/-- Take one row conversion into the audit, a shadow and an AU replacement of slice `n`. `g` is the column amplifier gain
code of the row, `w` the window of its band. -/
def auditConv (s : State) (n l g : Nat) (w : Nat × Nat) (codes offs : Codes) (x : Slice) : Slice :=
  let p := l % 98
  let x1 :=
    match x.shadow with
    | none => x
    | some h =>
      if h.live && (96 ≤ h.col || inWin w (96 * n + h.col)) then
        let ya := yOf x codes offs n x.au
        let dx : Int := (codes.at n h.spare : Int) - offs.at n h.spare
        let ysp : Int := (trimmed h.trim0 (codes.at n h.spare) (offs.at n h.spare) : Int) - offs.at n h.spare
        { x with shadow := some { h with
            sumYa := h.sumYa + ya, sumX := h.sumX + dx, bad := h.bad || disagrees s ysp ya } }
      else x
  let x2 :=
    match x1.repl with
    | some r =>
      if 96 ≤ p then
        let y := yOf x1 codes offs n r.spare
        let k := 2 * g + (p - 96)
        let o := mgetD r.sums k (0, 0)
        { x1 with repl := some { r with sums := mput r.sums k (o.1 + y, o.2 + 1) } }
      else x1
    | none => x1
  if x2.auMode ≠ 0 || x2.shadow.isSome || x2.repl.isSome || !(rbit s Reg.COL_AUDIT_CFG 31) then x2
  else if p < 96 && !(inWin w (96 * n + p)) then x2
  else if x2.defects.contains p then x2
  else
    let ya := yOf x2 codes offs n x2.au
    let ys := yOf x2 codes offs n (x2.server p)
    let b : Int := if p = 96 then x2.bK0.getD g 0 else x2.bK1.getD g 0
    { x2 with line := {
        made := true
        bad := x2.line.bad || disagrees s ys ya
        refOut := x2.line.refOut || (96 ≤ p && decide (rfld s Reg.COL_AUDIT_CFG 18 12 < (ya - b).natAbs))
        sum := x2.line.sum + ya
        n := x2.line.n + 1 } }

/-- Commit one provisional audit (R120, R123). A count of 8 or above is held there: an indicted converter's while it waits
(R124), and with AUTO_REMAP = 0 that of a converter that is only reported (R123). -/
def commitAudit (n : Nat) (s : State) (a : Nat × Bool) : State :=
  let x := sliceOf s n
  let p := a.1
  let old := mgetD x.susp p 0
  let susp := if a.2 then min 15 (old + 1) else old
  let c := mgetD x.audc p 0 + 1
  let hit := a.2 && decide (8 ≤ susp) && decide (old < 8)
  let susp1 := if hit || c ≠ 64 then susp else if 8 ≤ old then max 8 (susp - 1) else susp - 1
  let c1 := if c = 64 then 0 else c
  let s1 := setSlice s n { x with
    susp := mputD 0 x.susp p susp1, audc := mputD 0 x.audc p c1, audits := (x.audits + 1) % 65536, starve := 0 }
  let s2 := if a.2 && old < 4 && susp = 4 then raiseSlice 0x201 n p [] s1 else s1
  if hit then
    if rbit s Reg.COL_AUDIT_CFG 30 then indict 2 n p s2 else raiseSlice 0x202 n p [] s2
  else s2

/-- The reference check of slice `n` completes with its result (R118, R119, R121). A check that was not done leaves the run of
consecutive drive faults as it is (log entry 255). Log entry 260. Log entry 348. -/
def refCheck (n : Nat) (s : State) : State :=
  let x := sliceOf s n
  let res :=
    match x.k0, x.k1 with
    | some a, some b =>
      if !a.1 && !b.1 then 0
      else if (a.1 && a.2.1) || (b.1 && b.2.1) then 1 else 2
    | _, _ => 3
  let clr := { x with
    prov := [], k0 := none, k1 := none, refResult := res
    starve := if x.auMode = 0 && rbit s Reg.COL_AUDIT_CFG 31 then x.starve + 1 else x.starve
    repl := x.repl.map (fun r => { r with cycles := min 2 (r.cycles + 1) }) }
  let vals := fun (y : Slice) => { y with
    drvRun := if res = 2 then min 15 (y.drvRun + 1) else if res = 3 then y.drvRun else 0
    passRun := if res = 0 then (if y.passRun = 15 then 0 else y.passRun + 1) else if res = 1 then 0 else y.passRun
    audSusp := if res = 0 ∧ y.passRun = 15 then y.audSusp - 1 else y.audSusp }
  let k := fun (o : Option (Bool × Bool × Nat)) => (o.map (·.2.2)).getD 0
  let s0 := setSlice s n (vals clr)
  let s1 := if res ≤ 2 then
      rfset (rfset s0 (Reg.COL_SLS_REF + 32 * n) 31 20 (k x.k0)) (Reg.COL_SLS_REF + 32 * n) 19 8 (k x.k1)
    else s0
  match res with
  | 0 =>
    let s2 := if x.refSusp then raiseSlice 0x20B n 127 [1] (setSlice s1 n { sliceOf s1 n with refSusp := false }) else s1
    x.prov.foldl (commitAudit n) s2
  | 1 => suspectAu n (raiseSlice 0x207 n 127 [] s1)
  | 2 =>
    let s2 := raiseSlice 0x20A n 127 [] s1
    if 4 ≤ (sliceOf s2 n).drvRun ∧ !x.refSusp then
      raiseSlice 0x20B n 127 [0] (setSlice s2 n { sliceOf s2 n with refSusp := true })
    else s2
  | _ => s1

/-- The cycle of slice `n` ends: reference check, waiting indictments, and AUDIT_STARVED after 64 cycles without a
committed audit. -/
def cycleEnd (n : Nat) (s : State) : State :=
  let s1 := refCheck n s
  let s2 := raiseIf ((sliceOf s1 n).starve == 64) 0x21F (sliceFid n) [] 1 (coSlice n 127) s1
  serveWait n s2

/-- End of a shadow line (R125, R126): a disagreement retires the spare; the next one shadows afresh, or the indictment
is withdrawn; otherwise TRIM is refined, and after 16 lines the takeover is due. -/
def shadowLineEnd (n : Nat) (s : State) : State :=
  let x := sliceOf s n
  match x.shadow with
  | none => s
  | some h =>
    if !h.live then s
    else if h.bad then
      let x1 := { x with shadow := none, conv := mput x.conv h.spare 2 }
      let s1 := updStage n (raiseSlice 0x204 n h.col [] (setSlice s n x1))
      match x1.avail with
      | sp :: _ =>
        raiseSlice 0x203 n h.col [] (setSlice s1 n { sliceOf s1 n with
          shadow := some ⟨h.col, sp, 0, false, 0, 0, 0, false⟩, conv := mput x1.conv sp 0 })
      | [] =>
        let s2 := raiseSlice 0x206 n h.col [] (setSlice s1 n { sliceOf s1 n with
          susp := mput x1.susp h.col 4, wait := (sliceOf s1 n).wait.filter (fun w => w != (2, h.col)) })
        serveWait n (suspectAu n s2)
    else
      let t := roundDiv (h.sumYa * 32768) h.sumX
      let t1 := clampI 31785 33751 t
      let s1 := if 256 ≤ h.sumX then
          raiseIf (t1 != t) 0x221 (sliceFid n) [] 1 (coSlice n h.col)
            (setSlice s n { x with trim := mput x.trim h.spare t1.toNat })
        else s
      let y := sliceOf s1 n
      if h.line + 1 = 16 then setSlice s1 n { y with shadow := none, due := some (h.col, h.spare) }
      else setSlice s1 n { y with shadow := some ⟨h.col, h.spare, h.line + 1, false, 0, 0, 0, false⟩ }

/-- The offset code is out of window (R122). -/
def offsetOut (s : State) (c : Nat) : Bool :=
  c == 0 || c == 4095 || decide (c < rfld s Reg.COL_GROSS_CFG 19 8) || decide (rfld s Reg.COL_GROSS_CFG 31 20 < c)

/-- Conversion 0 in slice `n` (R109, R122, R125): gross counts, a shadow line begins, and the audit of the line is cleared. The
mean offset code is taken over every converted column, K0 and K1 among them, and rounded down to 1/16 LSB (log entry 256). Log
entry 295. Log entry 295. -/
def sliceOffset (s : State) (n : Nat) (w : Nat × Nat) (codes : Codes) (x : Slice) : Slice :=
  let cols := convCols w n
  let out := cols.filter (fun p => offsetOut s (codes.at n (x.server p)))
  let vals := cols.map (fun p => codes.at n (x.server p))
  let m := nsum vals * 16 / vals.length
  let meanOut := decide (m < 16 * rfld s Reg.COL_GROSS_CFG 19 8) || decide (16 * rfld s Reg.COL_GROSS_CFG 31 20 < m)
  { x with
    gross := out.foldl (fun g p => mput g p (let r := mgetD x.gross p 0; if r = 255 then r else min 254 (r + 1))) []
    line := ⟨false, false, false, 0, 0⟩
    drift := if meanOut then min 17 (x.drift + 1) else 0
    mean16 := m
    shadow := x.shadow.map (fun h => { h with
      live := true, trim0 := mgetD x.trim h.spare 0, sumYa := 0, sumX := 0, bad := false }) }

/-- End of the sequence of line `l` in slice `n`: shadow line, audit of the line, reference check at the end of the cycle,
gross faults (R119, R122, R125). -/
def sliceLineEnd (l n : Nat) (s : State) : State :=
  let s0 := shadowLineEnd n s
  let x := sliceOf s0 n
  let p := l % 98
  let s1 :=
    if x.line.made then
      let mean := satU 12 (roundDiv x.line.sum x.line.n)
      let v := some (x.line.refOut, x.line.bad, mean)
      let y := { x with
        prov := x.prov ++ [(p, x.line.bad)]
        disagree := if x.line.bad then satN 16 (x.disagree + 1) else x.disagree
        k0 := if p = 96 then v else x.k0
        k1 := if p = 97 then v else x.k1 }
      if x.line.bad then raiseSlice 0x200 n p [] (setSlice s0 n y) else setSlice s0 n y
    else s0
  let lim := rfld s Reg.COL_GROSS_CFG 3 0
  let s2 := (sliceOf s1 n).gross.foldl (fun s g =>
    if lim ≤ g.2 ∧ g.2 ≠ 255 then
      let y := sliceOf s n
      let s1 := raiseSlice 0x20F n g.1 [] (setSlice s n { y with gross := mput y.gross g.1 255 })
      if (sliceOf s1 n).stage ≤ 2 then indict 1 n g.1 s1 else makeDefective n g.1 s1
    else s) s1
  let s3 := raiseIf ((sliceOf s2 n).drift == 16) 0x210 (sliceFid n) [] 1 (coSlice n 127) s2
  if p = 97 then cycleEnd n s3 else serveWait n s3

/-- The audit cycle ends in the slices `ns` without a K1 line (R118, R119): its reference check is not done. -/
def cycleNotDone (ns : List Nat) (s : State) : State :=
  ns.foldl (fun s n => cycleEnd n (setSlice s n { sliceOf s n with k1 := none })) s

/-- A GAP line ends an audit cycle where its index does (R118): the reference check of the cycle is not done, in idle slices
too. -/
def gapCycle (l : Nat) (s : State) : State :=
  if l % 98 = 96 then (List.range 192).foldl (fun s n => setSlice s n { sliceOf s n with k0 := none }) s
  else if l % 98 = 97 then cycleNotDone (List.range 192) s
  else s

/-! ### Black clamp (R133) -/

/-- D of a line (R133): the largest change of a mean offset code since the previous captured line, in 1/16 LSB.
Log entry 340. -/
def blackD (before after : State) (ns : List Nat) : Nat :=
  nmax (ns.map (fun n =>
    let a := (sliceOf before n).mean16
    let b := (sliceOf after n).mean16
    if a ≤ b then b - a else a - b))

/-- The black clamp judges line `l`, the `n`-th of the sequence that began at line `l1`, after its offset conversion (R133): a line
that meets the condition, and the later lines of its sequence, carry no BLK_CONV; line 16 ends the sequence either way. -/
def blackJudge (l n l1 d : Nat) (s : State) : State :=
  let s0 := { s with col := { s.col with blkD := min 255 d } }
  if n = 0 then s0
  else
    let met := decide (2 ≤ n) && decide (d ≤ rfld s Reg.COL_BLK_CFG 7 0)
    let mine := s.col.blkN != 0 && !s.col.blkArm && s.col.blkL1 == l1
    let newer := if met && mine then (s.col.tags.takeWhile (fun t => t.l != l)).length else 0
    let s1 := { s0 with col := { s0.col with
      blkN := if mine && (met || n == 16) then 0 else s.col.blkN
      tags := (s.col.tags.take newer).map (fun t => { t with blk := false }) ++
        (s.col.tags.drop newer).map (fun t => if t.l = l then { t with blk := t.blk && !met } else t) } }
    raiseIf (mine && !met && n == 16) 0x217 0x20C01 [] 0 0 s1

/-! ### One conversion slot (R84, R108) -/

/-- What a conversion delivers to the sector units: its sequence, the band and row (none for the offset conversion), and
the sample of each converted active column. -/
structure Delivery where
  seq : ReadSeq
  row : Option (Nat × Nat)
  samples : Map Nat
  deriving DecidableEq, Repr

/-- Samples of a conversion for the columns of window `w`: trimmed codes, or offset codes as converted (R109, R110). -/
def deliver (s : State) (w : Nat × Nat) (codes offs : Codes) (isOff : Bool) : Map Nat :=
  ((List.range 192).filter (fun n => !outsideWin w n)).flatMap (fun n =>
    let x := sliceOf s n
    ((List.range 96).filter (fun p => inWin w (96 * n + p) && !(inReset s (sliceFid n)))).map (fun p =>
      let i := x.server p
      (96 * n + p, if isOff then codes.at n i else trimmed (mgetD x.trim i 0) (codes.at n i) (offs.at n i))))

/-- Conversion 0 of the sequence `r`. Log entry 294. -/
def convOffset (r : ReadSeq) (codes : Codes) (s : State) : State :=
  let c := setOf s r.epoch
  let ns := (activeSlices c).filter (fun n => !(inReset s (sliceFid n)))
  let s1 := ns.foldl (fun s n => setSlice s n (sliceOffset s n c.gwin codes (sliceOf s n)))
    { s with col := { s.col with offs := codes } }
  if r.snap then { s with col := { s.col with offs := codes } }
  else blackJudge r.l r.blk r.blkL1 (blackD s s1 ns) s1

/-- Row conversion of band `k`, row `rr`, of the sequence `r`, in every active slice. -/
def convRow (r : ReadSeq) (k rr : Nat) (codes : Codes) (s : State) : State :=
  let c := setOf s r.epoch
  let g := c.cagOf k (c.cls k rr)
  let ns := (activeSlices c).filter (fun n => !(inReset s (sliceFid n)))
  ns.foldl (fun s n => setSlice s n (auditConv s n r.l g (c.win k) codes s.col.offs (sliceOf s n))) s

/-- The last conversion of a captured line has been made. In a slice that made none, idle or in reset, the cycle ends with its
reference check not done (R118). -/
def convLineEnd (r : ReadSeq) (s : State) : State :=
  let ns := (activeSlices (setOf s r.epoch)).filter (fun n => !(inReset s (sliceFid n)))
  let s1 := ns.foldl (fun s n => sliceLineEnd r.l n s) s
  if r.l % 98 = 97 then cycleNotDone ((List.range 192).filter (fun n => !ns.contains n)) s1 else s1

/-- The sequence a conversion slot belongs to, its band and row, and whether it is the last of its sequence. -/
def convPlan (s : State) : Option (ReadSeq × Option (Nat × Nat) × Bool) :=
  match s.ary.reads with
  | [] => none
  | r :: _ =>
    if r.snap then
      some (r, if r.j = 0 then none else some ((r.j - 1) / 16, (r.j - 1) % 16), r.j == 144)
    else
      let c := setOf s r.epoch
      some (r, if r.j = 0 then none else c.order[r.j - 1]?, r.j == c.nRows)

/-- One conversion slot on the column side: the slices convert and audit, and the sequence moves on. The delivery goes to
the sector units in Machine/Pipeline.lean. -/
def colConvert (codes : Codes) (s : State) : Option (Delivery × Bool × State) :=
  match convPlan s with
  | none => none
  | some (r, row, last) =>
    let c := setOf s r.epoch
    let w := match row with
      | none => if r.snap then (0, 2304) else c.gwin
      | some (k, _) => if r.snap then (0, 2304) else c.win k
    let s1 :=
      match row with
      | none => convOffset r codes s
      | some (k, rr) => if r.snap then s else convRow r k rr codes s
    let offs := if row.isNone then codes else s.col.offs
    let d : Delivery := ⟨r, row, deliver s w codes offs row.isNone⟩
    let s2 := aryMod (fun a => { a with
      reads := match a.reads with
        | [] => []
        | q :: rest => if last then rest else { q with j := q.j + 1 } :: rest
      nodes := match row with
        | some (k, rr) => if rr = ((c.rows k).getLast?).getD 99 ∧ !r.snap then mdel a.nodes k else a.nodes
        | none => a.nodes }) s1
    some (d, last, if last && !r.snap then convLineEnd r s2 else s2)

/-! ### Calibration (R112-R114) -/

/-- Measurements of column calibration: for converters listed by 128 slice + converter the sums of 64 codes on K0 and on
K1 and the standard deviation of the K1 codes in 0.1 LSB, the same for every other converter; and for slices listed, and for every
other one, the sums of 64 offset-subtracted codes of AU on K0 and on K1 at ×1, ×2, ×4, ×8, before trim. -/
structure CalMeas where
  m : Map (Nat × Nat × Nat)
  d : Nat × Nat × Nat
  b : Map (List Nat × List Nat)
  bd : List Nat × List Nat
  deriving DecidableEq, Repr

/-- Measurement of converter `i` of slice `n`. -/
def CalMeas.at (c : CalMeas) (n i : Nat) : Nat × Nat × Nat := mgetD c.m (128 * n + i) c.d

/-- 2,800 / (mean K1 − mean K0), unsigned 1.15, rounded to nearest (R112); 0 where the span is not above 0. -/
def calQuot (v : Nat × Nat × Nat) : Nat := if v.2.1 ≤ v.1 then 0 else (roundDiv (2800 * 64 * 32768) ((v.2.1 : Int) - v.1)).toNat

/-- TRIM (R112). A quotient that unsigned 1.15 cannot hold, and one of a span that is not above 0, have no value in the spec: a
free value (log entry 257). -/
def calTrim (v : Nat × Nat × Nat) : Nat :=
  if v.2.1 ≤ v.1 ∨ 65535 < calQuot v then (Config.trimOutOfFormat v.1 v.2.1).toNat else calQuot v

/-- The converter fails the limits of R113. -/
def calBad (v : Nat × Nat × Nat) : Bool :=
  decide (calQuot v < 31785) || decide (33751 < calQuot v) || decide (20 < v.2.2)

/-- Give column `p`, whose converter is retired at calibration, its replacement (R113): the next spare, then AU; a column that
finds neither is defective. A column already defective stays so. Log entry 259. -/
def calPlace (bad : List Nat) (x : Slice) (p : Nat) : Slice :=
  let old := x.server p
  let x1 := { x with conv := mput x.conv old 3, auMode := if old = x.au then 2 else x.auMode }
  if x.defects.contains p then x1
  else
    match x1.avail with
    | sp :: _ => { x1 with serv := mput x1.serv p sp, conv := mput x1.conv sp 0 }
    | [] =>
      if x1.auMode = 0 && !(bad.contains x.au) then { x1 with serv := mput x1.serv p x.au, auMode := 1 }
      else { x1 with defects := x1.defects ++ [p] }

/-- AU retired at calibration (R113): a spare that remains takes its place, or auditing ends. -/
def calAudit (bad : List Nat) (x : Slice) : Slice :=
  if bad.contains x.au && x.auMode = 0 then
    match x.avail with
    | sp :: _ => { x with au := sp, conv := mput (mput x.conv x.au 3) sp 0 }
    | [] => { x with auMode := 2, conv := mput x.conv x.au 3 }
  else x

/-- The trimmed mean of a sum of 64 offset-subtracted codes of a converter (R112 step 5). -/
def baseline (trim sum : Nat) : Nat := satU 12 (roundDiv (sum * trim) (64 * 32768))

/-- Calibrate slice `n` (R112, R113): trims and spans of the converters not retired, the retirements and their replacements, the
baselines of the AU that then audits; 0x211 for each retirement, the events of the new map (R129, R130), then 0x223 and 0x212. -/
def calSlice (c : CalMeas) (retire : Bool) (n : Nat) (s : State) : State :=
  let x := sliceOf s n
  let live := (List.range 101).filter (fun i => x.convState i ≤ 1)
  let x1 := { x with
    trim := live.foldl (fun m i => mput m i (calTrim (c.at n i))) x.trim
    span := live.foldl (fun m i => mput m i (satN 12 (((c.at n i).2.1 - (c.at n i).1 + 32) / 64))) x.span
    susp := [], audc := [], prov := [], gross := [] }
  let bad := if retire then live.filter (fun i => calBad (c.at n i)) else []
  let x2 := { x1 with conv := (bad.filter (fun i => 99 ≤ i && i != x1.au)).foldl (fun m i => mput m i 3) x1.conv }
  let x3 := calAudit bad (((List.range 98).filter (fun p => bad.contains (x2.server p))).foldl (calPlace bad) x2)
  let b := mgetD c.b n c.bd
  let t := mgetD x3.trim x3.au 0
  let x4 := { x3 with
    bK0 := (List.range 4).map (fun g => baseline t (b.1.getD g 0)), bK1 := (List.range 4).map (fun g => baseline t (b.2.getD g 0)) }
  let colOf := fun i => (((List.range 98).find? (fun p => x.server p == i))).getD 127
  let s1 := bad.foldl (fun s i => raiseSlice 0x211 n (colOf i) [] s) (setSlice s n x4)
  let s2 := (x4.defects.filter (fun p => !x.defects.contains p)).foldl (fun s p => defectEvent n p s) s1
  let s3 := if x.auMode = 0 && x4.auMode != 0 then raiseSlice 0x20C n 127 (remapArgs x4) s2 else s2
  raiseSlice 0x212 n 127 [] (raiseSlice 0x223 n 127 [] (updStage n s3))

/-- The codes of the privileged remap records (R114). -/
def remapCodes : List Nat := [0x205, 0x209, 0x20C, 0x20D, 0x20E]

/-- A remap record of the mirror (R114, R508, R516): SEQ, the use count of its sector, slice, map word, defect bits. -/
structure RemapRec where
  seq : Nat
  use : Nat
  slice : Nat
  map : Nat
  defects : Nat
  deriving DecidableEq, Repr

/-- The remap records of the mirror, as they stand in it (R114, R516). -/
def remapRecords (s : State) : List RemapRec :=
  (mirrorSectors s).flatMap (fun i => ((sectorRecGrans s i.1 256 1).filter (fun r =>
      remapCodes.contains (bits r.1 123 112) && bits r.1 111 110 == 3 && bits r.2.1 75 72 == 1)).map (fun r =>
    ⟨bits r.1 103 72, i.2, bits r.2.1 39 32, bits r.2.1 31 0, r.2.2⟩))

/-- The latest of the records of slice `n`: the highest SEQ, and between two copies the later in the mirror (R516). -/
def latestRemap (recs : List RemapRec) (n : Nat) : Option RemapRec :=
  (recs.filter (fun r => r.slice == n)).foldl (fun best r =>
    match best with
    | none => some r
    | some b =>
      let d := diffMod 32 r.seq b.seq
      if 0 < d ∨ (d = 0 ∧ 0 ≤ diffMod 32 r.use b.use) then some r else some b) none

/-- The remap state that a record holds (R114): converter map, retired converters, defect list. A primary that another converter
replaced is retired. Log entry 296. -/
def Slice.ofRecord (map defects : Nat) : Slice :=
  let sp1 := bits map 24 23
  let sp2 := bits map 15 14
  let serv : List (Nat × Nat) := [(bits map 31 25, 99), (bits map 22 16, 100), (bits map 13 7, 98)].filter (fun e => e.1 != 127)
  let state := fun st => if st = 0 then 1 else if st = 2 then 2 else 0
  let conv0 := serv.foldl (fun (m : Map Nat) (e : Nat × Nat) => mput m e.1 2) []
  let au := if sp1 = 3 then 99 else if sp2 = 3 then 100 else 98
  let x := { Slice.reset with
    serv := serv.foldl (fun (m : Map Nat) (e : Nat × Nat) => mput m e.1 e.2) []
    conv := mput (mput (mput conv0 98 (if bits map 6 5 = 2 then 2 else 0)) 99 (state sp1)) 100 (state sp2)
    au := au, auMode := if au = 98 then bits map 6 5 else 0
    defects := (List.range 98).filter (fun p => bit defects p) }
  { x with stage := x.mapStage }

/-- The remap state with which slice `n` starts (R114): that of its latest record in `recs`, or a fresh one. -/
def remapState (recs : List RemapRec) (n : Nat) : Slice :=
  match latestRemap recs n with
  | some r => Slice.ofRecord r.map r.defects
  | none => Slice.reset

/-- Restore the remap state of slice `n` at start (R114): with RESTORE = 1 and a readable mirror from its latest record, 0x214;
otherwise the slice starts fresh. -/
def calRestore (recs : List RemapRec) (n : Nat) (s : State) : State :=
  raiseIf (latestRemap recs n).isSome 0x214 (sliceFid n) [] 1 (coSlice n 127) (setSlice s n (remapState recs n))

/-- Slice `n` is rebuilt from the mirror after an uncorrectable error of its remap memory (R136): map, retired converters,
defect list and stage are those of the mirror, the counts begin at 0; trims, spans and baselines lie outside that memory (R131).
0x21E, then 0x214. -/
def remapRebuild (n : Nat) (s : State) : State :=
  let x := sliceOf s n
  let y := remapState (if rbit s Reg.COL_CFG 8 then remapRecords s else []) n
  let s1 := setSlice (raiseSlice 0x21E n 127 [] s) n { y with
    trim := x.trim, span := x.span, bK0 := x.bK0, bK1 := x.bK1, k0 := x.k0, k1 := x.k1, refResult := x.refResult
    drvRun := x.drvRun, refSusp := x.refSusp, lastIndict := x.lastIndict, audits := x.audits, disagree := x.disagree
    starve := x.starve, drift := x.drift, mean16 := x.mean16 }
  raiseSlice 0x214 n 127 [] s1

/-- COLUMN_CALIBRATION (R112-R114): start-up step 5; `mirrorOk` says whether the mirror can be read. After it a reset of the
function only reloads (R523). -/
def columnCalibration (c : CalMeas) (mirrorOk : Bool) (s : State) : State :=
  if s.mgt.state = .starting ∧ s.mgt.step = 5 ∧ !s.col.calibrated then
    let restore := rbit s Reg.COL_CFG 8
    let recs := if restore && mirrorOk then remapRecords s else []
    let s0 := if restore && !mirrorOk then raise0 0x215 0x20C00 [] s else s
    let s1 := (List.range 192).foldl (fun s n => calSlice c (rbit s Reg.COL_CFG 0) n (calRestore recs n s)) s0
    { s1 with col := { s1.col with calibrated := true } }
  else s

/-! ### Reset scope and views -/

/-- A slice function is reset (R131), or column control, whose BLK_CONV count starts again at line 1 with the first line
captured after it resumes (R523): the remap memory is kept; the provisional increments of the cycle go, and a shadow in progress
is abandoned, 0x224, to restart from line 1. Log entry 339. -/
def colResetScope (fid : Nat) (s : State) : State :=
  if 0x20000 ≤ fid ∧ fid < 0x20C00 then
    let n := (fid - 0x20000) / 0x100 * 16 + fid % 0x100
    let x := sliceOf s n
    let s1 := setSlice s n { x with
      prov := [], k0 := none, k1 := none, line := ⟨false, false, false, 0, 0⟩
      shadow := x.shadow.map (fun h => ⟨h.col, h.spare, 0, false, 0, 0, 0, false⟩) }
    if x.shadow.isSome then raiseSlice 0x224 n 127 [] s1 else s1
  else if fid = 0x20C01 then { s with col := { s.col with blkArm := s.col.blkN != 0 || s.col.blkArm, blkN := 0 } }
  else s

/-- The columns that COL reports to DEF as defective, as 96 slice + column (R130). -/
def defectColumns (s : State) : List Nat :=
  s.col.slices.flatMap (fun e => (e.2.defects.filter (fun p => p < 96)).map (fun p => 96 * e.1 + p))

/-- Converters that serve in place of a primary (R139). -/
def replacing (s : State) : Nat := nsum (s.col.slices.map (fun p => p.2.serv.length))

/-- COL registers that show state (R139). -/
def viewCol (s : State) (a : Nat) : Option Nat :=
  let sel := sliceOf s (rfld s Reg.COL_SEL 7 0)
  if 0x201000 ≤ a ∧ a < 0x202800 then
    let n := (a - 0x201000) / 32
    let x := sliceOf s n
    let off := a % 32
    if off = 0 then
      some (packMsb [(x.stage, 3), (b2n x.shadow.isSome, 1), ((x.shadow.map (·.col)).getD 127, 7),
        ((x.shadow.map (·.line)).getD 0, 4), (x.audSusp, 2), (b2n x.refSusp, 1),
        (b2n (s.ary.loaded && idleIn s.ary.set n), 1), (x.lastIndict, 7), (min 63 x.defects.length, 6)])
    else if off = 4 then some (mapWord x)
    else if off = 8 then
      some (packMsb [(0, 11), (x.defects.getD 0 127, 7), (x.defects.getD 1 127, 7), (x.defects.getLast?.getD 127, 7)])
    else if off = 12 then some (x.audits * 65536 + x.disagree)
    else if off = 16 then
      some (setBits (setBits (rnat s a) 7 6 x.refResult) 3 0 x.drvRun)
    else none
  else if a = Reg.COL_BLK_STATUS then some (packMsb [(0, 16), (s.col.blkD, 8), (s.col.tb, 3), (s.col.blkN, 5)])
  else if a = Reg.COL_SUMMARY then
    some (packMsb [(replacing s, 10), ((s.col.slices.filter (fun p => 3 ≤ p.2.stage)).length, 8),
      ((s.col.slices.filter (fun p => p.2.stage == 4)).length, 8), (0, 6)])
  else if Reg.COL_BASE ≤ a ∧ a < Reg.COL_BASE + 16 then
    let i := (a - Reg.COL_BASE) / 4
    some (sel.bK1.getD i 0 * 65536 + sel.bK0.getD i 0)
  else if Reg.COL_IDLE ≤ a ∧ a < Reg.COL_IDLE + 24 then
    let i := (a - Reg.COL_IDLE) / 4
    some (nsum ((List.range 32).map (fun b => if s.ary.loaded && idleIn s.ary.set (32 * i + b) then 2 ^ b else 0)))
  else if Reg.COL_SEC_STATUS ≤ a ∧ a < Reg.COL_SEC_STATUS + 48 then
    let c := (a - Reg.COL_SEC_STATUS) / 4
    let st := (List.range 16).map (fun i => (sliceOf s (16 * c + i)).stage)
    some (nmax st * 65536 + nsum ((List.range 16).map (fun i => if st.getD i 0 = 0 then 0 else 2 ^ i)))
  else if Reg.COL_SUSP_WIN ≤ a ∧ a < Reg.COL_SUSP_WIN + 52 then
    let i := (a - Reg.COL_SUSP_WIN) / 4
    some (nsum ((List.range 8).map (fun m => if 8 * i + m < 98 then mgetD sel.susp (8 * i + m) 0 * 16 ^ m else 0)))
  else if Reg.COL_AUDCNT_WIN ≤ a ∧ a < Reg.COL_AUDCNT_WIN + 80 then
    let i := (a - Reg.COL_AUDCNT_WIN) / 4
    some (nsum ((List.range 5).map (fun m => if 5 * i + m < 98 then mgetD sel.audc (5 * i + m) 0 * 64 ^ m else 0)))
  else if Reg.COL_TRIM_WIN ≤ a ∧ a < Reg.COL_TRIM_WIN + 404 then
    let i := (a - Reg.COL_TRIM_WIN) / 4
    some (if s.col.calibrated then packMsb [(mgetD sel.trim i 0, 16), (sel.convState i, 2), (0, 2), (mgetD sel.span i 0, 12)] else 0)
  else none

end Sys2Proof.Machine
end

