-- ==== Sys2Proof/Machine/Crypto.lean ====
section
/-! DEFINITION. SHA-512 of FIPS 180-4, and RSASSA-PSS of RFC 8017 with SHA-512, MGF1 with SHA-512, a salt of 64 bytes, a modulus of
4,096 bits and the exponent 65,537 (14_configuration_boot.md R444, R450, R466). Log entry 128. -/

namespace Sys2Proof.Machine

/-! ### SHA-512 (R444) -/

/-- The exclusive or of the 64 bits of `x` rotated right by each of `turns`, and of `x` shifted right by each of `shifts`. -/
def turnMix (turns shifts : List Nat) (x : Nat) : Nat :=
  (turns.map (fun n => x / 2 ^ n + x % 2 ^ n * 2 ^ (64 - n)) ++ shifts.map (x / 2 ^ ·)).foldl Nat.xor 0

/-- The greatest number up to `x + 2 ^ n - 1`, reached bit by bit from `x`, whose power `r` does not pass `m`. -/
def rootFrom (r m : Nat) : Nat → Nat → Nat
  | 0, x => x
  | n + 1, x => rootFrom r m n (if (x + 2 ^ n) ^ r ≤ m then x + 2 ^ n else x)

/-- The first 64 bits of the fraction of the root `r` of `p`: how FIPS 180-4 gives the constants (square roots of the first 8
primes for the initial value, cube roots of the first 80 for the rounds). -/
def rootFraction (r p : Nat) : Nat := rootFrom r (p * 2 ^ (64 * r)) 68 0 % 2 ^ 64

/-- The primes below 410: the first 80. -/
def shaPrimes : List Nat :=
  (List.range 410).filter (fun n => decide (2 ≤ n) && (List.range 21).all (fun d => d < 2 || n ≤ d || n % d != 0))

/-- The hash value of eight words as its two halves, the last words of the two chains a round feeds, newest first. -/
structure ShaChains where
  hi : List Nat
  lo : List Nat

/-- The initial hash value. -/
def shaStart : ShaChains :=
  let ws := (shaPrimes.take 8).map (rootFraction 2)
  ⟨ws.take 4, ws.drop 4⟩

/-- The number that bytes spell, highest first. -/
def ofBe (bs : List Byte) : Nat := bs.foldl (fun acc b => 256 * acc + b.toNat) 0

/-- The message schedule, newest word first, extended by `n` words: each is the sum of four earlier ones, two of them mixed. -/
def shaExtend : Nat → List Nat → List Nat
  | 0, w => w
  | n + 1, w =>
    let back := fun k => w.getD (k - 1) 0
    shaExtend n ((back 16 + turnMix [1, 8] [7] (back 15) + back 7 + turnMix [19, 61] [6] (back 2)) % 2 ^ 64 :: w)

/-- One round, fed with the sum of its constant and its word: the low chain chooses by its newest word between the two before
it, the high chain takes the majority of its three newest. -/
def shaRound (v : ShaChains) (feed : Nat) : ShaChains :=
  let p := fun k => v.hi.getD k 0
  let q := fun k => v.lo.getD k 0
  let low := feed + q 3 + turnMix [14, 18, 41] [] (q 0) + Nat.xor (q 2) (Nat.land (q 0) (Nat.xor (q 1) (q 2)))
  let high := turnMix [28, 34, 39] [] (p 0) + Nat.lor (Nat.land (p 0) (p 1)) (Nat.land (p 2) (Nat.lor (p 0) (p 1)))
  ⟨(low + high) % 2 ^ 64 :: v.hi.take 3, (p 3 + low) % 2 ^ 64 :: v.lo.take 3⟩

/-- The hash value after one block of 128 bytes. -/
def shaBlock (v : ShaChains) (bs : List Byte) : ShaChains :=
  let first := (List.range 16).map (fun i => ofBe ((bs.drop (8 * i)).take 8))
  let feeds := List.zipWith (· + ·) (shaPrimes.map (rootFraction 3)) (shaExtend 64 first.reverse).reverse
  let x := feeds.foldl shaRound v
  let sum := List.zipWith (fun m n => (m + n) % 2 ^ 64)
  ⟨sum v.hi x.hi, sum v.lo x.lo⟩

/-- The hash value after `n` blocks. -/
def shaBlocks : Nat → List Byte → ShaChains → ShaChains
  | 0, _, v => v
  | n + 1, bs, v => shaBlocks n (bs.drop 128) (shaBlock v (bs.take 128))

/-- SHA-512 of a message: 64 bytes (R444). -/
def sha512 (m : List Byte) : List Byte :=
  let k := (m.length + 17 + 127) / 128
  let tail := 0x80#8 :: List.replicate (128 * k - 17 - m.length) 0#8 ++ beBytes 16 (8 * m.length)
  let v := shaBlocks k (m ++ tail) shaStart
  (v.hi ++ v.lo).flatMap (beBytes 8)

/-! ### RSASSA-PSS (R450, R466) -/

/-- MGF1 with SHA-512: a mask of `n` bytes from a seed. -/
def mgf1 (seed : List Byte) (n : Nat) : List Byte :=
  (((List.range n).filter (fun i => i % 64 == 0)).foldr (fun i later => sha512 (seed ++ beBytes 4 (i / 64)) ++ later) []).take n

/-- Bytes of two strings combined by exclusive or. -/
def xorBytes (a b : List Byte) : List Byte := (a.zip b).map (fun p => p.1 ^^^ p.2)

/-- The hash H of EMSA-PSS over the digest of a message and a salt. -/
def pssHash (digest salt : List Byte) : List Byte := sha512 (List.replicate 8 0#8 ++ digest ++ salt)

/-- `x` squared `k` times modulo `n`. -/
def sqMod (n : Nat) : Nat → Nat → Nat
  | 0, x => x % n
  | k + 1, x => sqMod n k (x * x % n)

/-- `x` to the power of 65,537 modulo `n`. -/
def rsaPublic (n x : Nat) : Nat := sqMod n 16 x * x % n

/-- `x` to the power `d`, of `k` bits, modulo `n`. -/
def powMod (n x : Nat) : Nat → Nat → Nat
  | 0, _ => 1 % n
  | k + 1, d =>
    let y := powMod n x k (d / 2)
    if d % 2 = 1 then y * y % n * x % n else y * y % n

/-- EMSA-PSS-VERIFY of 512 encoded bytes (R450): the trailer, the top bit, the padding and the hash. -/
def emsaVerify (m em : List Byte) : Bool :=
  let masked := em.take 447
  let h := (em.drop 447).take 64
  let db0 := xorBytes masked (mgf1 h 447)
  let db := match db0 with
    | b :: rest => (b &&& 0x7F#8) :: rest
    | [] => []
  em.length == 512 && em.getLast? == some 0xBC#8 && decide ((em.headD 0#8).toNat < 128) &&
    (db.take 382).all (fun b => b == 0#8) && db.getD 382 0#8 == 1#8 && pssHash (sha512 m) (db.drop 383) == h

/-- EMSA-PSS-ENCODE into 512 bytes with a salt. -/
def emsaEncode (m salt : List Byte) : List Byte :=
  let h := pssHash (sha512 m) salt
  let db := List.replicate 382 0#8 ++ [1#8] ++ salt
  match xorBytes db (mgf1 h 447) with
  | b :: rest => (b &&& 0x7F#8) :: rest ++ h ++ [0xBC#8]
  | [] => []

/-- RSASSA-PSS-VERIFY under the parameters of R450: the modulus of 512 bytes, the message and the signature. -/
def pssVerify (n m sig : List Byte) : Bool :=
  let modulus := ofBe n
  let s := ofBe sig
  decide (2 ^ 4095 ≤ modulus) && n.length == 512 && sig.length == 512 && decide (s < modulus) &&
    emsaVerify m (beBytes 512 (rsaPublic modulus s))

/-- RSASSA-PSS-SIGN under the same parameters with the modulus, the private exponent and the salt (R466). -/
def pssSign (n : List Byte) (d : Nat) (m salt : List Byte) : List Byte :=
  beBytes 512 (powMod (ofBe n) (ofBe (emsaEncode m salt)) 4096 d)

end Sys2Proof.Machine
end

