-- ==== Sys2Proof/Machine/NvPort.lean ====
section
/-! DEFINITION. Which operation the NV port serves (14_configuration_boot.md R443; 12_energy.md R401, R402). -/

namespace Sys2Proof.Machine

/-- A flash operation at `a` has failed: while the readings of rail 10, the flash supply VNV, lie below their band, VNV is
overloaded and the failure is reported with 0xB09 (R557). Log entry 334. -/
def flashOverload (a : Nat) (s : State) : State :=
  raiseIf (decide (s.thm.railN.getD 10 0 < 0)) 0xB09 0xB0001 [] 9 (coFlash a) s

/-- A read of flash at `a` is over; `bad` says that it failed (R557). Log entry 334. -/
def flashRead (bad : Bool) (a : Nat) (s : State) : State := if bad then flashOverload a s else s

/-- The operations of the NV port in the order in which they are preferred: 0 the image reads of a start, 1 section reloads, 2
the DSNU load, 3 a page program of the recorder's mirror, 4 its sector erase, 5 the device's own operation in hand, 6 the host's
pass-through operation, 7 the verification of an image. Whether operation `id` is asked for now, with its grant. -/
def nvActive (s : State) (id : Nat) : Bool :=
  match id with
  | 0 => s.mgt.state == .starting && s.mgt.step == 3
  | 1 => s.rst.runs.any (fun r => r.phase == .quiesced && s.mgt.toc.any (fun e => e.typ == 1 && e.target == r.fid))
  | 2 => s.pip.dsnuLoad.isSome
  | 3 => s.evt.rcd.mBusy
  | 4 => s.evt.rcd.mErasing.isSome
  | 5 => s.mgt.devOps.head?.any (·.granted)
  | 6 => s.mgt.nvOp.any (·.granted)
  | 7 => s.mgt.verify.isSome
  | _ => false

/-- Rank of an operation (R443). -/
def nvRank (id : Nat) : Nat := [2, 2, 3, 4, 4, 4, 5, 5].getD id 5

/-- Operation `id` is a page program, which is never interrupted (R443). -/
def nvIsProgram (s : State) (id : Nat) : Bool :=
  match id with
  | 3 => true
  | 5 => s.mgt.devOps.head?.any (fun o => o.kind == 4 || o.kind == 6)
  | 6 => s.mgt.nvOp.any (fun o => o.kind == 0)
  | _ => false

/-- The operations begun, the one in hand first, after what has ended has left (R443): a page program stays, anything else gives
way to an operation of a higher rank, and an idle port takes the first operation that is asked for. Log entry 319. -/
def nvNext (s : State) : List Nat :=
  match s.mgt.nvStack.filter (nvActive s) with
  | [] => ((List.range 8).find? (nvActive s)).toList
  | id :: rest =>
    if nvIsProgram s id then id :: rest
    else
      match (List.range 8).find? (fun j => nvActive s j && decide (nvRank j < nvRank id)) with
      | some j => j :: id :: rest
      | none => id :: rest

/-- The NV port goes on with what it is to serve now. -/
def nvSettle (s : State) : State := { s with mgt := { s.mgt with nvStack := nvNext s } }

/-- Operation `id` is in hand. -/
def nvTurn (s : State) (id : Nat) : Bool := (nvNext s).head? == some id

/-- Operation `id` has begun: it is in hand, or suspended for one of a higher rank. -/
def nvBegun (s : State) (id : Nat) : Bool := (nvNext s).contains id

end Sys2Proof.Machine
end

