-- ==== Sys2Proof/Machine/Pipeline.lean ====
section
/-! DEFINITION. The main pipeline from linearisation to band registration (05_main_pipeline.md). -/

namespace Sys2Proof.Machine

/-- Sector unit `n`. -/
def secOf (s : State) (n : Nat) : Sec := mgetD s.pip.sec n Sec.reset
/-- Replace sector unit `n`. -/
def setSec (n : Nat) (x : Sec) (s : State) : State := pipMod (fun p => { p with sec := mput p.sec n x }) s
/-- Function ID of a stage of sector `n` (R20, R177). -/
def pipFid (n stage : Nat) : Nat := 0x40000 + 0x100 * n + stage
/-- A stage of sector `n` is in reset (R523). -/
def secOff (s : State) (n : Nat) : Bool := !images s || (List.range 8).any (fun f => inReset s (pipFid n f))

/-! ### Parameter memory (R180) -/

/-- What parameter memory reads where no record writes (R180). Log entry 353. -/
def pmDefault (a : Nat) : Byte :=
  if 0x4000 ≤ a ∧ a < 0x8000 then 0xFF#8
  else if 0x1F6000 ≤ a ∧ a < 0x250000 then (if a % 2 = 1 then 0x80#8 else 0#8)
  else if 0x250000 ≤ a ∧ a < 0x2AA000 then (if a % 2 = 1 then 0x40#8 else 0#8)
  else 0#8

/-- Byte of parameter memory. -/
def pmByte (s : State) (a : Nat) : Nat := (mgetD s.pip.pmem a (pmDefault a)).toNat
/-- 16-bit entry of parameter memory. -/
def pm16 (s : State) (a : Nat) : Nat := pmByte s a + 256 * pmByte s (a + 1)
/-- 32-bit entry of parameter memory. -/
def pm32 (s : State) (a : Nat) : Nat := pm16 s a + 65536 * pm16 s (a + 2)
/-- 64-bit entry of parameter memory. -/
def pm64 (s : State) (a : Nat) : Nat := pm32 s a + 4294967296 * pm32 s (a + 4)
/-- Write a byte of parameter memory. -/
def pmPut (m : Map Byte) (a : Nat) (v : Byte) : Map Byte := mputD (pmDefault a) m a v
/-- Write a 16-bit entry of parameter memory. -/
def pmSet16 (a v : Nat) (s : State) : State :=
  pipMod (fun p => { p with pmem := pmPut (pmPut p.pmem a (BitVec.ofNat 8 v)) (a + 1) (BitVec.ofNat 8 (v / 256)) }) s
/-- The bits of a byte of parameter memory that exist; the others read 0: bits [127:80] of word 1 of a discriminant (R244),
[62:56] of a valve-map entry (R232), [30:24] and [15:8] of a checkpoint (R246), bits [15:0] of the header and bytes 70-71 of a
linearisation table (R145). -/
def pmMask (a : Nat) : Byte :=
  if a < 5184 then (if a % 72 < 2 ∨ 70 ≤ a % 72 then 0#8 else 0xFF#8)
  else if 0x2AA000 ≤ a ∧ a < 0x2AA200 then (if 26 ≤ a % 32 then 0#8 else 0xFF#8)
  else if 0x2B2200 ≤ a ∧ a < 0x2B2400 then (if a % 8 = 7 then 0x80#8 else 0xFF#8)
  else if 0x2BC000 ≤ a ∧ a < 0x2BC100 then (if a % 4 = 3 then 0x80#8 else if a % 4 = 1 then 0#8 else 0xFF#8)
  else 0xFF#8
/-- Write consecutive bytes of parameter memory. -/
def pmWrite (a : Nat) (bs : List Byte) (s : State) : State :=
  pipMod (fun p => { p with
    pmem := (bs.zip (List.range bs.length)).foldl (fun m b => pmPut m (a + b.2) (b.1 &&& pmMask (a + b.2))) p.pmem }) s
/-- Return a range of parameter memory to its default content (R180). -/
def pmClear (a n : Nat) (s : State) : State :=
  pipMod (fun p => { p with pmem := p.pmem.filter (fun e => !(decide (a ≤ e.1) && decide (e.1 < a + n))) }) s

/-! ### DSNU tables (R144) -/

/-- Base of DSNU slot `i` (R180). -/
def dsnuBase (i : Nat) : Nat := 0x10000 + 0xA2000 * i
/-- The wanted set in load order: the band in force, its lower and its higher neighbour. -/
def dsnuWanted (tb : Nat) : List Nat := [tb] ++ (if tb = 0 then [] else [tb - 1]) ++ (if tb = 4 then [] else [tb + 1])
/-- Begin the next load of the wanted set, if none runs; its slot holds no table meanwhile. -/
def dsnuNext (s : State) : State :=
  match s.pip.dsnuLoad with
  | some _ => s
  | none =>
    match (dsnuWanted s.col.tb).find? (fun b => !(dsnuResident s b)) with
    | some b => nvSettle (pipMod (fun p => { p with dsnuLoad := some b, dsnu := p.dsnu.set (b % 3) none }) s)
    | none => s
/-- The band of the column path changed (R144): loads are reordered, and a table that is not resident raises 0x405. -/
def dsnuBandChange (s : State) : State :=
  let s1 := raiseIf (!(dsnuResident s s.col.tb)) 0x405 0x40C02 [] 0 0 s
  dsnuNext (dsnuSwitch s1)

/-- The transfer pulse width changes with the band (R83). -/
def pulseChange (b : Nat) (s : State) : State :=
  raiseIf (rnat s (Reg.ARY_TX_PW + 4 * s.ary.tb) != rnat s (Reg.ARY_TX_PW + 4 * b)) 0x10A 0x10200 [b] 0 0
    (aryMod (fun a => { a with tb := b }) s)

/-- The band of the column path becomes `b` (R111, R133): bit time and bias, the transfer pulse width and the DSNU table switch
together, 0x216, and the black clamp starts anew at the next captured line. -/
def columnBand (b : Nat) (s : State) : State :=
  pulseChange b (dsnuBandChange (raise0 0x216 0x20C01 [] { s with col := { s.col with tb := b, blkArm := true, blkN := 0 } }))

/-- The bytes of the DSNU section of band `b` in the slot that was booted, when its digest holds (R446, R456). -/
def dsnuSection (s : State) (b : Nat) : Option (List Byte) :=
  match s.mgt.toc.find? (fun e => e.typ == 2 && e.index == b) with
  | some e =>
    let bs := flashBytes s (s.mgt.slot * 0x800000 + e.offset) e.length
    if sha512 bs = e.digest then some bs else none
  | none => none
/-- The bytes of the DSNU section of band `b` as they stand in flash. -/
def dsnuBytes (s : State) (b : Nat) : List Byte :=
  match s.mgt.toc.find? (fun e => e.typ == 2 && e.index == b) with
  | some e => flashBytes s (s.mgt.slot * 0x800000 + e.offset) e.length
  | none => []
/-- The flash address of the DSNU section of band `b`. -/
def dsnuFlash (s : State) (b : Nat) : Nat :=
  s.mgt.slot * 0x800000 + ((s.mgt.toc.find? (fun e => e.typ == 2 && e.index == b)).map (·.offset)).getD 0
/-- A byte of parameter memory as a load in progress leaves it (R180): the part of its slot that the load has reached holds the new
table. How far a load has come at a time is a free value (log entry 261). -/
def loadedByte (s : State) (a : Nat) : Byte :=
  let old := mgetD s.pip.pmem a (pmDefault a)
  match s.pip.dsnuLoad with
  | none => old
  | some b =>
    let o := dsnuBase (b % 3)
    if o ≤ a ∧ a < o + 663552 ∧ Config.dsnuReached s.t (a - o) then (dsnuBytes s b).getD (a - o) old else old
/-- DSNU_LOAD_DONE (R144, R456): the load in progress completes, or fails with 0x414 and leaves its slot partly loaded, and the
next one begins. LIN switches at the next line boundary. -/
def dsnuLoadDone (readOk : Bool) (s : State) : State :=
  match (if nvTurn s 2 then s.pip.dsnuLoad else none) with
  | none => s
  | some b =>
    let o := dsnuBase (b % 3)
    let s0 := nvSettle (pipMod (fun p => { p with dsnuLoad := none }) s)
    match (if readOk then dsnuSection s b else none) with
    | some bs => dsnuNext (pipMod (fun p => { p with dsnu := p.dsnu.set (b % 3) (some b) }) (pmWrite o bs s0))
    | none =>
      let left := if (dsnuBytes s b).isEmpty then [] else (List.range 663552).map (fun i => loadedByte s (o + i))
      dsnuNext (flashRead (!readOk) (dsnuFlash s b) (raise0 0x414 0x40C02 [] (pmWrite o left s0)))

/-! ### LIN (R142-R146) -/

/-- Base of the linearisation table of a class (R142). -/
def linBase (k : Nat) (hcg : Bool) (cag : Nat) : Nat := 72 * (8 * k + 4 * b2n hcg + cag)
/-- SAT_E of the table at `a` (R145). -/
def satE (s : State) (a : Nat) : Nat := pm16 s (a + 2)
/-- Knot i of the table at `a`. -/
def knot (s : State) (a i : Nat) : Int := toSigned 16 (pm16 s (a + 4 + 2 * i))
/-- The linearisation map (R145), clamped (R142). -/
def linMap (s : State) (a : Nat) (u : Int) : Int :=
  let i := (clampI 0 31 (u / 2048)).toNat
  clampI (-32768) 32767
    (knot s a i + roundDiv ((knot s a (i + 1) - knot s a i) * (u - 2048 * (i : Int))) 2048)
/-- A row value and its saturation mark (R142, R146): column `c` of band `k` from code `x` under offset `o`, in 1/256. -/
def rowValue (s : State) (k : Nat) (hcg : Bool) (cag tb c x : Nat) (o : Int) : Int × Bool :=
  let d := toSigned 16 (pm16 s (dsnuBase (tb % 3) + 2 * ((2 * k + b2n hcg) * 18432 + c)))
  let a := linBase k hcg cag
  let y := linMap s a (roundDiv ((x : Int) * 256 - o) 16 - (2 ^ cag : Nat) * d)
  (y, x == 4095 || decide ((satE s a : Int) ≤ y))
/-- A tracked offset after a line (R143): halves away from zero. -/
def trackStep (tau : Nat) (o x0 : Int) : Int :=
  let d := x0 * 256 - o
  let m := roundDiv (d.natAbs : Int) (2 ^ tau : Nat)
  if d < 0 then o - m else o + m
/-- The offset conversion of a line in sector `n` (R143): the offsets the line uses, and the tracked offsets after it. -/
def linOffset (n : Nat) (x : SecIn) (s : State) : State :=
  let u := secOf s n
  let raw := !(rbit s Reg.PIP_CFG 8)
  let tagged := x.settle != 0 || x.blk
  let tau := rfld s Reg.PIP_CFG 15 12
  let r := x.samples.foldl (fun (acc : Map Int × Map Int × Bool) p =>
    let x0 : Int := p.2
    if raw then (mput acc.1 p.1 (x0 * 256), acc.2)
    else if tagged || x.fresh.contains p.1 then (mput acc.1 p.1 (x0 * 256), mdel acc.2.1 p.1, acc.2.2)
    else
      match mget acc.2.1 p.1 with
      | some o => (mput acc.1 p.1 o, mput acc.2.1 p.1 (trackStep tau o x0), acc.2.2)
      | none => (mput acc.1 p.1 (x0 * 256), mput acc.2.1 p.1 (x0 * 256), true)) ([], u.oTrk, false)
  raiseIf r.2.2 0x406 (pipFid n 0) [] 2 (coSector n 15 x.l)
    (setSec n { u with oUse := r.1, oTrk := r.2.1 } s)

/-- The offset conversion of a line does not reach LIN in sector `n`: a column whose offset the tags of the line or a change of its
converter would have kept from O_c is seeded anew from the next line that does (R143). -/
def offsetLost (n : Nat) (x : SecIn) (s : State) : State :=
  let u := secOf s n
  if !(rbit s Reg.PIP_CFG 8) then s
  else setSec n { u with oTrk := if x.settle != 0 || x.blk then [] else x.fresh.foldl mdel u.oTrk } s

/-! ### TDI (R147-R152) -/

/-- a_r (R147). -/
def aOff (s : State) (r : Nat) : Nat := (roundDiv (1000 * r) (aspect s)).toNat
/-- rl_k of a set (R149). -/
def rlOf (s : State) (c : CapSet) (k : Nat) : Nat := nmax ((c.rows k).map (aOff s))
/-- The groups of a set (R150): the rows of a class, or in MOS of a class and parity. -/
def tdiGroups (c : CapSet) : List (List Nat) :=
  (List.range 9).flatMap (fun k => (List.range 3).flatMap (fun x =>
    if k = 4 then [(c.clsRows k x).filter (fun r => r % 2 == 0), (c.clsRows k x).filter (fun r => r % 2 == 1)]
    else [c.clsRows k x]))
/-- The accumulator need of a set (R150). -/
def accNeed (s : State) (c : CapSet) : Nat :=
  nsum ((tdiGroups c).map (fun g =>
    let as := g.map (aOff s)
    nmax as - (as.foldl min (nmax as))))
/-- Tags of line `l`. -/
def tagOf (s : State) (l : Nat) : Option LineTag := s.col.tags.find? (fun t => t.l == l)
/-- Band `k` of capture line `l` was not captured because its row drivers were in reset (R523). -/
def bandLost (s : State) (l k : Nat) : Bool := match tagOf s l with | some t => bit t.lost k | none => false
/-- The set of capture line `l`, or that of epoch `e` where the line precedes the first captured one. -/
def lineSet (s : State) (l e : Nat) : CapSet := ((tagOf s l).map (·.set)).getD (setOf s e)
/-- A band line that no row has reached yet. -/
def freshBL (k b : Nat) : OpenBL where
  k := k
  b := b
  n := [0, 0, 0]
  dsum := [0, 0, 0]
  satE := [0, 0, 0]
  sums := []
  marks := []
  lost := 0
  lostHere := false
  settle := false
  blk := false
/-- Change the open band line `b` of band `k` of a sector unit, unless it has closed (R149). -/
def modOpen (k b : Nat) (f : OpenBL → OpenBL) (u : Sec) : Sec :=
  let done := match u.nextB with
    | some nb => decide (diffMod 32 b (nb.getD k 0) < 0)
    | none => false
  if done then u
  else
    match u.opened.find? (fun o => o.k == k && o.b == b) with
    | some _ => { u with opened := u.opened.map (fun o => if o.k = k ∧ o.b = b then f o else o) }
    | none => { u with opened := u.opened ++ [f (freshBL k b)] }
/-- A row read at line `x.l` joins class c of band line M − a_r (R148, R149). Log entry 298. -/
def tdiRow (n : Nat) (x : SecIn) (k r : Nat) (s : State) : State :=
  let c := setOf s x.epoch
  let b := (x.l + 2 ^ 32 - aOff s r) % 2 ^ 32
  if k = 4 ∧ r % 2 ≠ b % 2 then s
  else
    let u := secOf s n
    if bandLost s x.l k then setSec n (modOpen k b (fun o => { o with lost := o.lost + 1 }) u) s
    else if x.bad || x.inv then
      setSec n (modOpen k b (fun o => { o with lost := o.lost + 1, lostHere := true }) u) s
    else
      let cl := c.cls k r
      let hcg := c.hcg k cl
      let cag := c.cagOf k cl
      setSec n (modOpen k b (fun o => { o with
        n := o.n.set cl (o.n.getD cl 0 + 1)
        dsum := o.dsum.set cl (o.dsum.getD cl 0 + x.dur)
        satE := o.satE.set cl (satE s (linBase k hcg cag))
        sums := x.samples.foldl (fun m p =>
          let y := (rowValue s k hcg cag x.tb p.1 p.2 (mgetD u.oUse p.1 0)).1
          mput m (18432 * cl + p.1) (clampI (-524287) 524287 (mgetD m (18432 * cl + p.1) 0 + y))) o.sums
        marks := x.samples.foldl (fun m p =>
          if (rowValue s k hcg cag x.tb p.1 p.2 (mgetD u.oUse p.1 0)).2 then mput m (18432 * cl + p.1) 1 else m) o.marks
        settle := o.settle || bit x.settle k
        blk := o.blk || x.blk }) u) s
/-- The contributions of a GAP line are lost (R151). -/
def tdiGap (n : Nat) (x : SecIn) (s : State) : State :=
  let c := setOf s x.epoch
  c.order.foldl (fun s q =>
    let b := (x.l + 2 ^ 32 - aOff s q.2) % 2 ^ 32
    if q.1 = 4 ∧ q.2 % 2 ≠ b % 2 then s
    else setSec n (modOpen q.1 b (fun o => { o with lost := o.lost + 1 }) (secOf s n)) s) s

/-! ### MERGE, FF (R153-R155) -/

/-- LIN20 of column `c` of a closed band line (R153, R154). -/
def merge (s : State) (o : OpenBL) (c : Nat) : Nat :=
  let here := (List.range 3).filter (fun x => o.n.getD x 0 != 0 && o.dsum.getD x 0 != 0)
  match here.dropWhile (fun x => mgetD o.marks (18432 * x + c) 0 == 1) with
  | [] => 0xFFFFF
  | i :: rest =>
    let si := mgetD o.sums (18432 * i + c) 0
    let di : Int := o.dsum.getD i 0
    let ni : Int := o.n.getD i 0
    let sat : Int := o.satE.getD i 0
    let kn : Int := rfld s (Reg.PIP_BAND_CFG + 4 * o.k) 27 20
    let sc : Int := (2 ^ rfld s (Reg.PIP_BAND_CFG + 4 * o.k) 31 28 : Nat)
    let wn := 256 * si - ni * kn * sat
    let wd := ni * sat * (256 - kn)
    let f : Int :=
      match rest with
      | j :: _ =>
        if 0 < wn then
          let w := min wn wd
          let sj := mgetD o.sums (18432 * j + c) 0
          let dj : Int := o.dsum.getD j 0
          roundDiv (sc * 200 * ((wd - w) * si * dj + w * sj * di)) (wd * di * dj)
        else roundDiv (sc * 200 * si) di
      | [] => roundDiv (sc * 200 * si) di
    (clampI 0 0xFFFFE ((rfld s Reg.PIP_CFG 23 16 : Int) + f)).toNat
/-- The background gain at offset `a` for a band line that capture line `l` closes in sector `n`: an update counts from the next
capture line that enters the sector (R156). -/
def bgGain (s : State) (n l a : Nat) : Nat :=
  match ((secOf s n).bgOld.filter (fun e => e.2.1 == a && !(laterL l e.1))).getLast? with
  | some e => e.2.2
  | none => pm16 s a

/-- Flat field (R155). Log entry 349. -/
def flatField (s : State) (n l k b c x : Nat) : Nat :=
  if x = 0xFFFFF then x
  else
    let p := if k = 4 ∧ b % 2 = 1 then 9 else k
    let ped : Int := rfld s Reg.PIP_CFG 23 16
    let g : Int := pm16 s (0x1F6000 + 2 * (18432 * p + c)) * bgGain s n l (0x250000 + 2 * (18432 * p + c))
    (clampI 0 0xFFFFE (ped + roundShift (((x : Int) - ped) * g) 29)).toNat

/-! ### DEF (R157-R159) -/

/-- Column `c` is reported defective by COL on capture line `l` (R130). -/
def colDefect (s : State) (l c : Nat) : Bool := match tagOf s l with | some t => t.defs.contains c | none => false
/-- Columns of band `k` in the static map (R157, R180). An entry without a listed byte is unused, since the map's default is all
ones. -/
def staticCols (s : State) (k : Nat) : List Nat :=
  let es := (s.pip.pmem.filter (fun p => decide (0x4000 ≤ p.1) && decide (p.1 < 0x8000))).map (fun p => pm32 s (p.1 / 4 * 4))
  (es.filter (fun e => e != 0xFFFFFFFF && (bits e 31 28 == k || bits e 31 28 == 15))).map (fun e => bits e 14 0)
/-- The nearest neighbour on one side that is not replaced, within 4 steps (R158). -/
def neighbour (vals : Map Nat) (repl : Nat → Bool) (step c : Nat) (up : Bool) : Option Nat :=
  (List.range 4).foldl (fun acc i =>
    match acc with
    | some v => some v
    | none =>
      let d := step * (i + 1)
      if !up && decide (c < d) then none
      else
        let q := if up then c + d else c - d
        match mget vals q with
        | some v => if repl q then none else some v
        | none => none) none
/-- The hot test of R159 on the value `v` of column `c`, against its neighbours one step away. Log entry 297. -/
def hotCandidate (s : State) (vals : Map Nat) (step c v : Nat) : Bool :=
  rbit s Reg.PIP_DEF_CFG 31 &&
  match (if c < step then none else mget vals (c - step)), mget vals (c + step) with
  | none, none => false
  | a, d => decide (max (a.getD 0) (d.getD 0) * (256 + rfld s Reg.PIP_DEF_CFG 23 16)
      + rfld s Reg.PIP_DEF_CFG 15 4 * 16 * 256 < v * 256)
/-- DEF on a band line of sector `n` that capture line `l` closed (R157-R159): replaced samples, the hot columns, and the
events. A hot column is replaced on the lines after the one that made it hot, while it stays a candidate. Log entry 351. -/
def defLine (n l k b : Nat) (vals : Map Nat) (s : State) : Map Nat × State :=
  let u := secOf s n
  let step := if k = 4 then 2 else 1
  let hotOf := fun c => mgetD u.hot (18432 * k + c) (0, false)
  let static := staticCols s k
  let cand := fun c => hotCandidate s vals step c (mgetD vals c 0)
  let repl := fun c => colDefect s l c || static.contains c || ((hotOf c).2 && cand c)
  let nb := fun c => (neighbour vals repl step c false, neighbour vals repl step c true)
  let out := vals.map (fun p =>
    if repl p.1 then
      match nb p.1 with
      | (some a, some d) => (p.1, (a + d + 1) / 2)
      | (some a, none) => (p.1, a)
      | (none, some d) => (p.1, d)
      | (none, none) => p
    else p)
  let s1 := vals.foldl (fun s p =>
    let u := secOf s n
    let h := hotOf p.1
    let run := if cand p.1 then min 15 (h.1 + 1) else 0
    let hot := if run = 0 then false else h.2 || decide (rfld s Reg.PIP_DEF_CFG 3 0 ≤ run)
    let alone := repl p.1 && (nb p.1).1.isNone && (nb p.1).2.isNone && !(u.noNb.contains (18432 * k + p.1))
    let s1 := setSec n { u with
      hot := mputD (0, false) u.hot (18432 * k + p.1) (run, hot)
      noNb := if alone then (18432 * k + p.1) :: u.noNb else u.noNb } s
    let s2 := raiseIf (hot && !h.2) 0x409 (pipFid n 4) [] 2 (coSector n k b) s1
    let s3 := raiseIf alone 0x40B (pipFid n 4) [] 2 (coSector n k b) s2
    if colDefect s l p.1 && !(s.pip.colDef.contains p.1) then
      raise 0x40A (pipFid n 4) [] 2 (coSector n k b) (pipMod (fun q => { q with colDef := p.1 :: q.colDef }) s3)
    else s3) s
  (out, s1)

/-! ### HBIN, COMP (R16, R160, R161) -/

/-- Horizontal binning of a segment (R16, R160): samples by their number in the band line. -/
def hbin (k bin : Nat) (vals : Map Nat) : Map Nat :=
  if bin = 0 then vals
  else
    let n := 2 ^ bin
    let place := fun c =>
      let j := c % 1536
      1536 * (c / 1536) + (if k = 4 then 2 * (j / (2 * n)) + j % 2 else j / n)
    let sums : Map (Nat × Nat × Bool) := vals.foldl (fun m p =>
      mmod m (place p.1) (0, 0, false) (fun q => (q.1 + p.2, q.2.1 + 1, q.2.2 || p.2 == 0xFFFFF))) []
    sums.map (fun p => (p.1, if p.2.2.2 then 0xFFFFF else (2 * p.2.1 + p.2.2.1) / (2 * p.2.2.1)))
/-- COMP: the 16-bit code of a LIN20 value (R161). -/
def encode16 (x : Nat) : Nat :=
  if x = 0xFFFFF then 0xFFFF
  else if x < 16384 then x
  else
    let n := Nat.log2 x
    min (8192 * (n - 13) + x / 2 ^ (n - 13)) 0xFFFE
/-- The LIN20 value of a code that is not saturated (R161). -/
def decode16 (q : Nat) : Nat :=
  if q < 16384 then q
  else
    let n := q / 8192 + 12
    (q - 8192 * (n - 13)) * 2 ^ (n - 13) + 2 ^ (n - 14)

/-! ### Closing a band line (R149, R151, R152) -/

/-- The stages MERGE to COMP on a band line of sector `n` that capture line `l` closed (R153-R161): codes, the live LEAD copy,
and the state. -/
def throughComp (n l : Nat) (c : CapSet) (o : OpenBL) (s : State) : Map Nat × Map Nat × State :=
  let cols := (List.range 1536).filterMap (fun j =>
    let col := 1536 * n + j
    if (List.range 3).any (fun x => (mget o.sums (18432 * x + col)).isSome) then some col else none)
  let lin := cols.map (fun col => (col, merge s o col))
  let s0 := raiseIf (lin.any (fun p => p.2 == 0xFFFFF)) 0x403 (pipFid n 2) [] 2 (coSector n o.k o.b) s
  let ff := lin.map (fun p => (p.1, flatField s n l o.k o.b p.1 p.2))
  let d := defLine n l o.k o.b ff s0
  ((hbin o.k (c.bin o.k) d.1).map (fun p => (p.1, encode16 p.2)), d.1, d.2)

/-- Put a segment into the write queue of sector `n`. -/
def pushSeg (n : Nat) (g : Seg) (s : State) : State :=
  let u := secOf s n
  setSec n { u with wq := u.wq ++ [g] } s

/-- Band line `b` of band `k` closes in sector `n` with the conversion `x` (R149, R151, R152). -/
def closeLine (n : Nat) (x : SecIn) (k b : Nat) (s : State) : State :=
  let u := secOf s n
  let o := (u.opened.find? (fun o => o.k == k && o.b == b)).getD (freshBL k b)
  let c := lineSet s b x.epoch
  let ep := ((tagOf s b).map (·.epoch)).getD x.epoch
  let inv := x.bad || u.discard.contains x.l
  let got := nsum o.n != 0
  let s0 := setSec n { u with
    opened := u.opened.filter (fun o => !(o.k == k && o.b == b))
    nextB := u.nextB.map (fun nb => nb.set k ((b + 1) % 2 ^ 32))
    due := if k = 8 then u.due ++ [b] else u.due } s
  let lead := fun (samples : Map Nat) (kind : Nat) (s : State) =>
    if k = 0 then
      let u := secOf s n
      setSec n { u with lead := u.lead ++ [⟨b, samples, kind⟩] } s
    else s
  if (got && inv) || (!got && o.lostHere) then
    lead [] 1 (pushSeg n ⟨k, b, x.l, ep, [], true, false, false, o.settle, o.blk⟩ s0)
  else if got then
    let short := o.lost != 0
    let s1 := if short then
        raise 0x401 (pipFid n 1) [] 2 (coSector n k b) (rsat s0 (Reg.PIP_SEC_SHORT + 16 * n) 31 16 1)
      else s0
    let r := throughComp n x.l c o s1
    lead r.2.1 0 (pushSeg n ⟨k, b, x.l, ep, r.1, false, false, short, o.settle, o.blk⟩ r.2.2)
  else if c.captured k then
    lead [] 2 (raise 0x402 (pipFid n 1) [] 2 (coSector n k b) (rsat s0 (Reg.PIP_SEC_SHORT + 16 * n) 15 0 1))
  else lead [] 2 s0

/-- Close the band lines of band `k` that line `x.l` closes in sector `n` (R149). -/
def closeBand (n : Nat) (x : SecIn) (k : Nat) (s : State) : State :=
  match (secOf s n).nextB with
  | none => s
  | some nb =>
    let b0 := nb.getD k 0
    let m := (diffMod 32 ((x.l + 2 ^ 32 - rlOf s (setOf s x.epoch) k) % 2 ^ 32) b0 + 1).toNat
    (List.range m).foldl (fun s i => closeLine n x k ((b0 + i) % 2 ^ 32) s) s

/-- A sector unit takes one entry of its input FIFO through LIN to COMP (R141-R161). -/
def secEntry (n : Nat) (x : SecIn) (s : State) : State :=
  let c := setOf s x.epoch
  let u := secOf s n
  let s0 := setSec n { u with
    line := x.l
    bgOld := u.bgOld.filter (fun e => !laterL x.l e.1)
    skip := u.skip.filter (fun l => !laterL x.l l)
    nextB := match u.nextB with
      | some nb => some nb
      | none => some ((List.range 9).map (fun k => (x.l + 2 ^ 32 - rlOf s c k) % 2 ^ 32)) } s
  if x.mark then (List.range 9).foldl (fun s k => closeBand n x k s) (tdiGap n x (offsetLost n x s0))
  else
    let s1 :=
      match x.row with
      | none => if x.bad || x.inv then offsetLost n x s0 else linOffset n x s0
      | some (k, r) =>
        let s1 := tdiRow n x k r s0
        if (c.rows k).getLast? = some r then closeBand n x k s1 else s1
    if x.last then
      let s2 := ((List.range 9).filter (fun k => !(c.captured k))).foldl (fun s k => closeBand n x k s) s1
      let u := secOf s2 n
      setSec n { u with discard := u.discard.filter (fun l => l != x.l) } s2
    else s1

/-- The stages of sector `n` can take another conversion: COMP and the live LEAD output have room (R169), and REG has drawn what
the previous line completed (R141). Log entry 262. -/
def secReady (u : Sec) : Bool := decide (u.wq.length ≤ 1) && decide (u.lead.length ≤ 1) && u.due.isEmpty

/-- An entry as sector `n` takes it: a reset discards the conversions of every line up to the one captured last when it resumed
(R523). -/
def secTake (s : State) (n : Nat) (x : SecIn) : SecIn :=
  let old := match (secOf s n).skip with | some l => !(laterL x.l l) | none => false
  if !x.mark && (old || secOff s n) then { x with bad := true, samples := [] } else x

/-- Sector unit `n` works through its input FIFO as far as it can. -/
def secPumpF : Nat → Nat → State → State
  | 0, _, s => s
  | f + 1, n, s =>
    let u := secOf s n
    match u.fifo with
    | x :: rest =>
      if secReady u then
        secPumpF f n (secEntry n (secTake s n x) (setSec n { u with fifo := rest } s))
      else s
    | [] => s

/-- Sector unit `n` works through its input FIFO while the pipelines run (R430 step 3). -/
def secPump (n : Nat) (s : State) : State := if images s then secPumpF (secOf s n).fifo.length n s else s

/-- Conversions that wait in the input FIFO. -/
def fifoFill (u : Sec) : Nat := (u.fifo.filter (fun x => !x.mark && !x.bad)).length

/-- Sector `n` has been late with capture line `l` (R171): what is left of it is discarded as it comes. -/
def lineGone (u : Sec) (l : Nat) : Bool := match u.gone with | some g => !(laterL l g) | none => false

/-- A conversion or a line marker reaches sector `n` (R169, R170): with 16 conversions waiting it is discarded, and so is
the rest of its line; 0x400 gives its conversion index (R84). One of a line with which the sector has been late is discarded
(R171). -/
def secIn (n : Nat) (x0 : SecIn) (s : State) : State :=
  let u := { secOf s n with entered := some x0.l, gone := none }
  let x := secTake s n x0
  if lineGone (secOf s n) x0.l then (if x0.row.isNone then offsetLost n x0 s else s)
  else if x.mark then secPump n (setSec n { u with fifo := u.fifo ++ [x] } s)
  else if u.discard.contains x.l then secPump n (setSec n { u with fifo := u.fifo ++ [{ x with bad := true, samples := [] }] } s)
  else if 16 ≤ fifoFill u then
    let s1 := setSec n { u with
      discard := u.discard ++ [x.l]
      fifo := u.fifo ++ [{ x with bad := true, samples := [] }]
      wq := u.wq.map (fun g => if g.l = x.l then { g with codes := [], invalid := true } else g) } s
    raise 0x400 (pipFid n 0) [x.j] 2 (coSector n 15 x.l) (rsat s1 (Reg.PIP_SEC_DROP + 16 * n) 31 16 1)
  else
    secPump n (rmax (setSec n { u with fifo := u.fifo ++ [x] } s) (Reg.PIP_SEC_STATUS + 16 * n) 31 24 (fifoFill u + 1))

/-- A slice of sector `n` is in reset. -/
def slicesOff (s : State) (n : Nat) : Bool := (List.range 16).any (fun i => inReset s (sliceFid (16 * n + i)))

/-- The sectors that a reset makes INVALID for a line that is being converted (R22, R523). -/
def offSectors (s : State) : Nat := nsum ((List.range 12).map (fun n => if slicesOff s n || secOff s n then 2 ^ n else 0))

/-- A conversion of line `l` marks the sectors that are in reset INVALID for it (R28, R523). Log entry 263. -/
def markOff (l : Nat) (s : State) : State :=
  let off := offSectors s
  if off = 0 then s
  else { s with col := { s.col with
    tags := s.col.tags.map (fun t => if t.l = l then { t with invalid := t.invalid ||| off } else t) } }

/-- Every sector unit takes what a conversion delivers (R141, R173). Once a slice of a sector has been in reset while the line was
converted, the sector's segment of the line is INVALID to its end (R523). -/
def sectorsIn (d : Delivery) (last : Bool) (s0 : State) : State :=
  let s := markOff d.seq.l s0
  let t := tagOf s d.seq.l
  let c := setOf s d.seq.epoch
  let dur := match d.row with
    | none => 0
    | some (k, r) => mgetD s.ary.actual (64 * d.seq.l + 4 * k + c.cls k r) (c.dur k (c.cls k r))
  (List.range 12).foldl (fun s n =>
    let off := bit ((t.map (·.invalid)).getD 0) n
    secIn n {
      l := d.seq.l, epoch := d.seq.epoch, tb := d.seq.tb, mark := false, bad := false, inv := off, row := d.row, j := d.seq.j
      last := last, settle := (t.map (·.settle)).getD 0, blk := (t.map (·.blk)).getD false
      fresh := s.pip.swapped, dur := dur
      samples := if off then [] else d.samples.filter (fun p => p.1 / 1536 == n) } s) s

/-- What enters a sector unit of line `l` without samples: a line marker, or conversion `j` of row `row` that is discarded. -/
def emptyIn (s : State) (l epoch : Nat) (mark : Bool) (row : Option (Nat × Nat)) (j : Nat) (last : Bool) : SecIn where
  l := l
  epoch := epoch
  tb := s.pip.linTb
  mark := mark
  bad := !mark
  inv := false
  row := row
  j := j
  last := last
  settle := ((tagOf s l).map (·.settle)).getD 0
  blk := ((tagOf s l).map (·.blk)).getD false
  fresh := s.pip.swapped
  dur := 0
  samples := []

/-- A GAP line enters every sector unit as a line marker (R141). Log entry 148. -/
def gapMarker (l epoch : Nat) (s : State) : State :=
  (List.range 12).foldl (fun s n => secIn n (emptyIn s l epoch true none 0 true) s) s

/-- The conversions still to come of a sequence, as a sector that is late with its line takes them (R171). -/
def restIn (s : State) (r : ReadSeq) : List SecIn :=
  let c := setOf s r.epoch
  ((List.range (c.nRows + 1)).drop r.j).map (fun j =>
    emptyIn s r.l r.epoch false (if j = 0 then none else c.order[j - 1]?) j (j == c.nRows))

/-- What is still to come of the lines up to `l`, line by line in the order of L: the rest of their conversions, and the markers of
GAP lines that wait behind them (R141). -/
def restUpTo (s : State) (l : Nat) : List (Nat × List SecIn) :=
  (s.ary.reads.filter (fun r => !r.snap && !(laterL r.l l))).foldl (fun q r => putInLine (r.l, restIn s r) q)
    ((s.ary.gapsDue.filter (fun g => !(laterL g.1 l))).map (fun g => (g.1, [emptyIn s g.1 g.2 true none 0 true])))

/-! ### Band store (R162, R163) -/

/-- Base slot position of band `k`'s ring; 9 gives that of the label history. -/
def ringBase (s : State) (k : Nat) : Nat := nsum ((List.range k).map (fun i => rfld s (Reg.PIP_BS_DEPTH + 4 * i) 9 0))
/-- Depth of band `k`'s ring; 9 gives H. -/
def ringDepth (s : State) (k : Nat) : Nat :=
  if k = 9 then rfld s Reg.PIP_BS_LABEL 7 0 else rfld s (Reg.PIP_BS_DEPTH + 4 * k) 9 0
/-- Slot position of index `b` in ring `k`. -/
def slotPos (s : State) (k b : Nat) : Nat := ringBase s k + b % ringDepth s k
/-- Descriptor of a slot position. -/
def descAt (s : State) (pos : Nat) : Desc := mgetD s.pip.desc pos Desc.reset
/-- Slot `pos` in sector `n` holds index `b` (R162). -/
def slotHolds (s : State) (pos b n : Nat) : Bool :=
  (descAt s pos).index == b % 65536 && bit (descAt s pos).written n
/-- ⌊d_k⌋ and the remainder of d_k over ASPECT (R164). -/
def dRaw (s : State) (k : Nat) : Nat × Nat := (20000 * (8 - k) / aspect s, 20000 * (8 - k) % aspect s)
/-- ⌈d_k⌉. -/
def dCeil (s : State) (k : Nat) : Nat := (dRaw s k).1 + (if (dRaw s k).2 = 0 then 0 else 1)
/-- ⌊d_k⌋ and φ_k as REG uses them (R164). -/
def regPhase (s : State) (k : Nat) : Nat × Nat :=
  let f := (roundDiv (16 * (dRaw s k).2) (aspect s)).toNat
  if f = 16 then ((dRaw s k).1 + 1, 0) else ((dRaw s k).1, f)
/-- round(d_0), the delay of the labels (R167). -/
def dLabel (s : State) : Nat := (roundDiv 160000 (aspect s)).toNat
/-- Slot needs N_k of the captured bands and N_H of a set (R163). -/
def slotNeeds (s : State) (c : CapSet) : List Nat × Nat :=
  let need := fun k => (((dCeil s k + rlOf s c 8 : Nat) : Int) - rlOf s c k + 1).toNat
  ((List.range 9).map (fun k => if c.captured k then need k else 0), need 0)
/-- The accumulators and the band store hold a set (R150, R163). -/
def storeFits (s : State) (c : CapSet) : Bool :=
  let nd := slotNeeds s c
  decide (accNeed s c ≤ 43) && decide (ringBase s 9 + ringDepth s 9 ≤ 910) &&
  (List.range 9).all (fun k => decide (nd.1.getD k 0 ≤ ringDepth s k)) &&
  decide (nd.2 ≤ ringDepth s 9) && decide (ringDepth s 9 ≤ 176)
/-- Write samples of sector `n` into a slot position. -/
def storeSeg (pos n : Nat) (codes : Map Nat) (p : Pip) : Pip :=
  let lo := 18432 * pos + 1536 * n
  let rest := p.store.filter (fun e => !(decide (lo ≤ e.1) && decide (e.1 < lo + 1536)))
  { p with store := codes.foldl (fun m c => mputD 0 m (18432 * pos + c.1) c.2) rest }
/-- Put segment `n` of index `b` into its slot and mark its descriptor (R162); an index that is still to be drawn raises
0x412 (R176). -/
def writeSlot (n : Nat) (g : Seg) (s : State) : State :=
  let pos := slotPos s g.k g.b
  let d := descAt s pos
  let new := !(d.index == g.b % 65536 && d.written != 0)
  let old := (g.b + 2 ^ 32 - (g.b + 65536 - d.index) % 65536) % 2 ^ 32
  let undrawn := match s.pip.drawn with
    | some l => laterL ((old + dCeil s g.k) % 2 ^ 32) l
    | none => true
  let e : Desc := if new then { Desc.reset with index := g.b % 65536, epoch := g.epoch } else d
  let m := 2 ^ n
  let e1 : Desc := { e with
    written := e.written ||| m
    invalid := if g.invalid then e.invalid ||| m else e.invalid
    late := if g.late then e.late ||| m else e.late
    short := if g.short then e.short ||| m else e.short
    settle := e.settle || g.settle
    blk := e.blk || g.blk }
  raiseIf (new && d.written != 0 && undrawn && d.index != g.b % 65536) 0x412 0x40C00 [] 2 (coSector 15 g.k old)
    (pipMod (fun p => storeSeg pos n g.codes { p with desc := mput p.desc pos e1 }) s)

/-- COMP writes the oldest segment of the write queue of sector `n` into the band store (COMP_WRITE, R162); the segment
written. -/
def compStore (n : Nat) (s : State) : Option (Seg × State) :=
  let u := secOf s n
  match u.wq with
  | [] => none
  | g :: rest =>
    if inReset s 0x40C00 then none
    else some (g, secPump n (writeSlot n g (setSec n { u with wq := rest } s)))

/-! ### Sector deadline (R171) -/

/-- Sector `n` has finished capture line `l`: nothing of it waits or is still to come, and every band line it closed is written
(R171). -/
def secFinished (s : State) (n l : Nat) : Bool :=
  let u := secOf s n
  u.fifo.all (fun x => laterL x.l l) && u.wq.all (fun g => laterL g.l l) && (lineGone u l || (restUpTo s l).isEmpty)

/-- Discard what is left of line `l` in sector `n` before COMP (R171), also what has not reached the sector yet: the open band
lines lose its rows, and the band lines it closed and that are not written yet are INVALID. -/
def secDiscard (n l : Nat) (late : Bool) (s : State) : State :=
  let u := secOf s n
  let mine := u.fifo.filter (fun x => !(laterL x.l l)) ++
    ((restUpTo s l).filter (fun g => !(lineGone u g.1))).flatMap (·.2)
  let s1 := setSec n { u with fifo := u.fifo.filter (fun x => laterL x.l l), discard := l :: u.discard } s
  let s2 := mine.foldl (fun s x => secEntry n (if x.mark then x else { x with bad := true, samples := [] }) s) s1
  let v := secOf s2 n
  setSec n { v with
    wq := v.wq.map (fun g => if laterL g.l l then g else { g with codes := [], invalid := true, late := late })
    gone := some l
    discard := v.discard.filter (fun x => x != l) } s2

/-! ### Registration (R164-R168) -/

/-- Capture line `l` counts as GAP (R25): marked so, or before the first captured line. -/
def isGap (s : State) (l : Nat) : Bool := match tagOf s l with | some t => t.gap | none => true

/-- Codes of slot position `pos` by sample number. -/
def slotCodes (s : State) (pos : Nat) : Map Nat :=
  (s.pip.store.filter (fun e => decide (18432 * pos ≤ e.1) && decide (e.1 < 18432 * (pos + 1)))).map
    (fun e => (e.1 - 18432 * pos, e.2))

/-- Those of sector `n`. -/
def segCodes (s : State) (pos n : Nat) : Map Nat := (slotCodes s pos).filter (fun e => e.1 / 1536 == n)

/-- Interpolation between two band lines (R166). -/
def interpolate (phi a b : Nat) : Nat :=
  if a = 0xFFFF ∨ b = 0xFFFF then 0xFFFF
  else encode16 (((16 - phi) * decode16 a + phi * decode16 b + 8) / 16)

/-- The band lines that registered line `l` uses for band `k` (R25 rule 2, R152, R166), the newer first: none where the band is
ABSENT because a capture line of it is GAP or its row drivers were in reset, the empty list where the band was captured in
neither epoch. -/
def bandPlan (s : State) (l k : Nat) : Option (List Nat) :=
  let c0 := lineSet s l s.ary.epoch
  let capt := fun b => match tagOf s b with | some t => t.set.captured k | none => c0.captured k
  let at' := fun d => (l + 2 ^ 32 - d) % 2 ^ 32
  let raw := dRaw s k
  let cap := (if raw.2 = 0 then [at' raw.1] else [at' raw.1, at' (raw.1 + 1)]).filter capt
  let ph := regPhase s k
  let used := (if ph.2 = 0 then [at' ph.1] else [at' ph.1, at' (ph.1 + 1)]).filter capt
  if !used.isEmpty && (cap ++ used).any (fun b => isGap s b || bandLost s b k) then none else some used

/-- Band line `b` of band `k` in sector `n`, from REG's one-line buffer or from the store (R166, R168). -/
def readSeg (s : State) (n k b : Nat) : Option BandBuf :=
  let held := match mget (secOf s n).buf k with | some f => if f.b = b then some f else none | none => none
  match held with
  | some f => some f
  | none =>
    let pos := slotPos s k b
    let d := descAt s pos
    if slotHolds s pos b n then some ⟨b, segCodes s pos n, bit d.invalid n, bit d.late n, bit d.short n, d.settle, d.blk⟩ else none

/-- What REG forms from the band lines it has read in sector `n` (R166): an INVALID segment gives 0x0000 (R22). -/
def formSeg (s : State) (n k : Nat) (fs : List BandBuf) : Map Nat :=
  let phi := (regPhase s k).2
  if fs.any (·.invalid) then []
  else
    match fs with
    | [f] => f.codes
    | [f, g] =>
      if k = 4 then (if phi ≤ 8 then f.codes else g.codes)
      else (List.range 1536).filterMap (fun i =>
        match mget f.codes (1536 * n + i), mget g.codes (1536 * n + i) with
        | none, none => none
        | x, y => some (1536 * n + i, interpolate phi (x.getD 0) (y.getD 0)))
    | _ => []

/-- Set bit `n` of the entries `ks` of a list of masks. -/
def orAt (ms ks : List Nat) (n : Nat) : List Nat :=
  (List.range ms.length).map (fun k => if ks.contains k then ms.getD k 0 ||| 2 ^ n else ms.getD k 0)

/-- A mask of band bits. -/
def maskOf (ks : List Nat) : Nat := nsum (ks.map (fun k => 2 ^ k))

/-- The band line whose samples REG takes for band `k` of registered line `l`, the newer one where it mixes two (R164, R166): the
nearer one in MOS, and the only one captured where the other was not. -/
def layoutLine (s : State) (l k : Nat) : Nat :=
  match bandPlan s l k with
  | some [g] => g
  | some [f, g] => if k = 4 ∧ 8 < (regPhase s 4).2 then g else f
  | _ => (l + 2 ^ 32 - (dRaw s k).1) % 2 ^ 32

/-- The set under which the samples of band `k` of registered line `l` lie in their columns (R25 rule 5, R173): that of band line
L − ⌊d_k⌋, and where REG takes the band line before it alone (R164, R166) that of this one. Log entry 326. -/
def layoutSet (s : State) (l k ep : Nat) : CapSet := lineSet s (layoutLine s l k) ep

/-- The set under which the samples of band `k` of a registered line lie. -/
def RegLine.ownSet (r : RegLine) (k : Nat) : CapSet := r.own.getD k r.set

/-- Registered line `l` before any sector has drawn it (R25, R167). The bands that a GAP capture line makes ABSENT are known
then. -/
def freshLine (l : Nat) (s : State) : RegLine :=
  let t := tagOf s l
  let ep := (t.map (·.epoch)).getD s.ary.epoch
  let gap := isGap s l
  { l := l, p := ((s.tbs.hist.find? (fun h => h.l == l)).map (·.p)).getD 0, epoch := ep, gap := gap, invalid := 0
    absent := if gap then 0 else maskOf ((List.range 9).filter (fun k => (bandPlan s l k).isNone))
    settle := 0, blk := 0, short := List.replicate 9 0
    capEpoch := (List.range 9).map (fun k => ((tagOf s ((l + 2 ^ 32 - (dRaw s k).1) % 2 ^ 32)).map (·.epoch)).getD ep)
    set := lineSet s l s.ary.epoch, codes := [], labels := [], cls := [], accLeft := List.range 12, emitted := false
    shed := rfld s Reg.MGT_SHED_STATUS 11 8, ports := 0, trigT := 0, mosB := layoutLine s l 4
    own := (List.range 9).map (fun k => layoutSet s l k
      (((tagOf s ((l + 2 ^ 32 - (dRaw s k).1) % 2 ^ 32)).map (·.epoch)).getD ep)) }

/-- Store a label line, its band line index, its epoch and its labels by column, in its slot of the label history (R162, R206). -/
def storeLabels (s : State) (w : Nat × Nat × Map Nat) : State :=
  let pos := slotPos s 9 w.1
  pipMod (fun p => { p with
    store := w.2.2.foldl (fun m c => mputD 0 m (18432 * pos + c.1) c.2)
      (p.store.filter (fun e => !(decide (18432 * pos ≤ e.1) && decide (e.1 < 18432 * (pos + 1)))))
    desc := mput p.desc pos { Desc.reset with index := w.1 % 65536, epoch := w.2.1, written := 0xFFF } }) s

/-- The band store control resumes (R523): the label lines that waited are stored. -/
def labelsResume (s : State) : State := s.pip.labWait.foldl storeLabels (pipMod (fun p => { p with labWait := [] }) s)

/-- The labels of registered line `l` in sector `n` (R167): none where the label history cannot be read (R168). A line before
the first captured one reads as background. Log entry 265. -/
def segLabels (s : State) (l n : Nat) : Option (Map Nat) :=
  let b := (l + 2 ^ 32 - dLabel s) % 2 ^ 32
  let pos := slotPos s 9 b
  if (tagOf s b).isNone then some [] else if slotHolds s pos b n then some (segCodes s pos n) else none

/-- REG of sector `n` draws its segment of a registered line (R165-R168). A sector in reset gives an INVALID segment without
samples (R523); with `force` the segment is INVALID (R171). The bands of which a line is missing are noted. -/
def drawSeg (n : Nat) (force : Bool) (q : RegPart) (s : State) : RegPart :=
  let r := q.line
  let lab := segLabels s r.l n
  let r0 := { r with labels := r.labels ++ lab.getD [] }
  let done := n :: q.done
  let noLab := if lab.isNone then [9] else []
  if r.gap then { q with line := r0, done := done, lack := orAt q.lack noLab n }
  else if secOff s n then
    { q with line := { r0 with invalid := r.invalid ||| 2 ^ n }, done := done, lack := orAt q.lack noLab n }
  else
    let ks := (List.range 9).filter (fun k => !bit r.absent k)
    let got := ks.map (fun k => (k, ((bandPlan s r.l k).getD []).map (readSeg s n k)))
    let whole := (got.filter (fun e => e.2.all (·.isSome))).map (fun e => (e.1, e.2.filterMap id))
    let lacks := ((got.filter (fun e => e.2.any (·.isNone))).map (·.1)) ++ noLab
    let having := fun (f : BandBuf → Bool) => (whole.filter (fun e => e.2.any f)).map (·.1)
    let any := fun (f : BandBuf → Bool) => (got.filter (fun e => e.2.any (fun x => x.any f))).map (·.1)
    ⟨{ r0 with
        invalid := if force then r.invalid ||| 2 ^ n else r.invalid
        settle := r.settle ||| maskOf (having (·.settle)), blk := r.blk ||| maskOf (having (·.blk))
        short := orAt r.short (having (·.short)) n
        codes := r.codes ++ whole.flatMap (fun e => (formSeg s n e.1 e.2).map (fun c => (18432 * e.1 + c.1, c.2))) },
      done, orAt q.lack lacks n, orAt q.inv (any (·.invalid)) n, orAt q.late (any (·.late)) n⟩

/-- REG of sector `n` keeps the newer band line of each band that it read for line `l` in its buffer (R166). -/
def keepBufs (n l : Nat) (s : State) : State :=
  if isGap s l || secOff s n then s
  else
    let u := secOf s n
    let newest := fun k => (((bandPlan s l k).getD []).filterMap (readSeg s n k)).head?
    let b := (List.range 9).foldl (fun m k => (newest k).elim m (mput m k)) u.buf
    setSec n { u with buf := b } s

/-- The line that every sector has drawn (R168): a band of which a line is missing in a sector is ABSENT in the whole line, its
samples 0x0000 in every sector; a missing label line makes LEAD ABSENT in the same way. Each such band is one DL_REG miss,
from REG of the lowest sector. ABSENT overrides the INVALID of that band (R24), except where DL_SECTOR made it so (R68). -/
def wholeLine (q : RegPart) (s : State) : RegLine × State :=
  let r := q.line
  let lackOf := fun k => q.lack.getD k 0 ||| (if k = 0 then q.lack.getD 9 0 else 0)
  let lost := (List.range 9).filter (fun k => !r.gap && !bit r.absent k && lackOf k != 0)
  let m := maskOf lost
  let s1 := lost.foldl (fun s k =>
    let low := ((List.range 12).find? (fun n => bit (lackOf k) n)).getD 0
    dlMiss 2 (pipFid low 7) [if lackOf k = 4095 then 15 else low, k, r.l] 2 (coSector (if lackOf k = 4095 then 15 else low) k r.l) s) s
  ({ r with
      invalid := (List.range 9).foldl (fun x k => x ||| (if lost.contains k then q.late else q.inv).getD k 0) r.invalid
      absent := r.absent ||| m, settle := r.settle &&& (511 ^^^ m), blk := r.blk &&& (511 ^^^ m)
      short := (List.range 9).map (fun k => if lost.contains k then 0 else r.short.getD k 0)
      labels := if q.lack.getD 9 0 = 0 then r.labels else []
      codes := r.codes.filter (fun c => !lost.contains (c.1 / 18432)) }, s1)

/-- Room of REG's output buffer in sector `n` (R169): two registered segments that VDT has not taken. -/
def regRoom (s : State) (n : Nat) : Bool := decide ((s.pip.lines.filter (fun r => r.accLeft.contains n)).length < 2)

/-- Sector `n` has drawn line `l`. -/
def segDrawn (n l : Nat) (s : State) : State :=
  setSec n { secOf s n with due := (secOf s n).due.filter (fun x => x != l) } s

/-- Line `l` has been drawn in all twelve sectors. -/
def lineDrawn (l : Nat) (s : State) : State :=
  rset (pipMod (fun p => { p with drawn := some l, flushed := false }) s) Reg.PIP_REG_STATUS l

/-! ### Background tracker (R156) -/

/-- Sample number of column `c` in a band line under binning `bin` (R16, R160). -/
def sampleOf (k bin c : Nat) : Nat :=
  let n := 2 ^ bin
  let j := c % 1536
  if bin = 0 then c else 1536 * (c / 1536) + (if k = 4 then 2 * (j / (2 * n)) + j % 2 else j / n)

/-- The background gain after a sample `v` (R156), in 2.14. Log entry 350. -/
def bgStep (tau target g v : Nat) : Nat :=
  (clampI 8192 32768 ((g : Int) + roundDiv ((g : Int) * ((target : Int) - v)) ((target * 2 ^ tau : Nat) : Int))).toNat

/-- The gain at offset `a` stays in force for the capture lines that have entered sector `n` (R156). -/
def bgKeep (n a : Nat) (s : State) : State :=
  match (secOf s n).entered with
  | some l => setSec n { secOf s n with bgOld := (l, a, pm16 s a) :: (secOf s n).bgOld } s
  | none => s

/-- BG_UPDATE (R156) of band `k` from a registered line: the columns whose label is 0. -/
def bgBand (r : RegLine) (k : Nat) (s : State) : State :=
  let cfg := rnat s (Reg.PIP_BG_CFG + 4 * k)
  let own := r.ownSet k
  if !(bit cfg 31 && own.captured k) then s
  else
    let okBand := !(bit r.absent k || bit r.settle k || bit r.blk k || r.gap)
    let w := own.win k
    let cols := (List.range (8 * w.2)).map (fun i => 8 * w.1 + i)
    let p := if k = 4 ∧ r.mosB % 2 = 1 then 9 else k
    let use := fun c =>
      let q := mgetD r.codes (18432 * k + sampleOf k (own.bin k) c) 0
      if okBand && mgetD r.labels c 0 == 0 && q != 0 && q != 0xFFFF && !(bit r.invalid (c / 1536)) then some q else none
    let s1 := cols.foldl (fun s c =>
      match use c with
      | some q =>
        let a := 0x250000 + 2 * (18432 * p + c)
        let g := bgStep (bits cfg 30 27) (bits cfg 19 0) (pm16 s a) (decode16 q)
        raiseIf ((g == 8192 || g == 32768) && pm16 s a != g) 0x407 0x40C01 [] 2 (coSector (c / 1536) k r.l)
          (pipMod (fun x => { x with starve := mdel x.starve (18432 * k + c) }) (pmSet16 a g (bgKeep (c / 1536) a s)))
      | none =>
        pipMod (fun x => { x with starve := mmod x.starve (18432 * k + c) 0 (fun n => min 65537 (n + 1)) }) s) s
    match cols.find? (fun c => mgetD s1.pip.starve (18432 * k + c) 0 == 65536) with
    | some c => raise 0x408 0x40C01 [c] 2 (coSector (c / 1536) k r.l) s1
    | none => s1

/-- The background tracker takes a registered line. A GAP line counts to the 2^16 lines without an update (R156). -/
def bgUpdate (r : RegLine) (s : State) : State :=
  if !(up s 0x40C01) then s else (List.range 9).foldl (fun s k => bgBand r k s) s

/-- BG returns to 1.0 (R156). -/
def bgReset (s : State) : State :=
  pipMod (fun p => { p with starve := [], sec := p.sec.map (fun e => (e.1, { e.2 with bgOld := [] })) }) (pmClear 0x250000 0x5A000 s)

/-! ### Epochs (R101, R175) -/

/-- A sector unit still holds epoch `e` (R175): a capture line of it has not passed COMP, or has completed registered lines that
REG has not drawn. -/
def secHolds (s : State) (u : Sec) (e : Nat) : Bool :=
  let ofLine := fun l => ((tagOf s l).map (·.epoch)) == some e
  s.ary.reads.any (fun r => !r.snap && r.epoch == e) || s.ary.gapsDue.any (fun g => g.2 == e) ||
    u.fifo.any (fun y => y.epoch == e) || u.wq.any (fun g => ofLine g.l) || (!u.due.isEmpty && ofLine u.line)

/-- Epoch `e` is still used by a conversion sequence or a sector unit. -/
def epochUsed (s : State) (x : LiveEpoch) : Bool := (List.range 12).any (fun n => secHolds s (secOf s n) x.e)

/-- Epochs whose last capture line has passed COMP, whose registered lines are drawn and that no auxiliary context uses
(`aux`) retire (R101, R175). -/
def retireEpochs (aux : Nat → Bool) (s : State) : State :=
  aryMod (fun a => { a with
    epochs := a.epochs.filter (fun x => !x.applied || x.e == a.epoch || epochUsed s x || aux x.e) }) s

/-- The oldest epoch that sector `n` holds (R175). -/
def secEpoch (s : State) (n : Nat) : Nat :=
  match s.ary.epochs.find? (fun x => x.applied && (x.e == s.ary.epoch || secHolds s (secOf s n) x.e)) with
  | some x => x.e
  | none => s.ary.epoch

/-! ### Reset scope (R523) and views -/

/-- A stage or a slice of sector `n` resumes (R523): every line captured until now is lost to the sector to its end. -/
def secResume (n : Nat) (s : State) : State :=
  match s.ary.lastCap with
  | some c => setSec n { secOf s n with skip := some c.1 } s
  | none => s

/-- PIP state inside the reset scope of `fid` (R521, R523). A stage of a sector that is reset discards what the sector
holds of unfinished lines. -/
def pipResetScope (fid : Nat) (s : State) : State :=
  if 0x40000 ≤ fid ∧ fid < 0x40C00 then
    let n := (fid - 0x40000) / 0x100
    let u := secOf s n
    let s1 := setSec n { u with
      fifo := u.fifo.map (fun x => { x with bad := !x.mark, samples := [] })
      wq := u.wq.map (fun g => { g with codes := [], invalid := true })
      opened := u.opened.map (fun o => { freshBL o.k o.b with lost := o.lost + nsum o.n, lostHere := true })
      hot := if fid % 0x100 = 4 then [] else u.hot
      oTrk := if fid % 0x100 = 0 then [] else u.oTrk
      buf := if fid % 0x100 = 7 then [] else u.buf } s
    secPump n s1
  else if fid = 0x40C01 then bgReset s
  else s

/-- Columns hot now in sector `n`, all bands. -/
def hotCount (s : State) (n : Nat) : Nat := ((secOf s n).hot.filter (fun p => p.2.2)).length

/-- Static map entries that satisfy `f`. -/
def staticCount (s : State) (f : Nat → Bool) : Nat :=
  ((List.range 4096).filter (fun i => let e := pm32 s (0x4000 + 4 * i); e != 0xFFFFFFFF && f (bits e 14 0))).length

/-- PIP registers that show state (R179). Log entry 352. -/
def viewPip (s : State) (a : Nat) : Option Nat :=
  if a = Reg.PIP_TDI_STATUS then some ((if s.ary.loaded then accNeed s s.ary.set else 0) * 256 + 43)
  else if a = Reg.PIP_DEF_COUNT then
    some (satN 16 (nsum ((List.range 12).map (hotCount s))) * 65536 + staticCount s (fun _ => true))
  else if a = Reg.PIP_BS_STATUS then
    let needs := s.ary.epochs.map (fun x => nsum (slotNeeds s x.set).1 + (slotNeeds s x.set).2)
    some (packMsb [(0, 2), (if s.ary.loaded then ringBase s 9 + ringDepth s 9 else 0, 10), (nmax needs, 10), (910, 10)])
  else if Reg.PIP_REG_PHASE ≤ a ∧ a < Reg.PIP_REG_PHASE + 36 then
    let p := regPhase s ((a - Reg.PIP_REG_PHASE) / 4)
    some (if s.ary.loaded then p.1 * 16 + p.2 else 0)
  else if Reg.PIP_SEC_STATUS ≤ a ∧ a < Reg.PIP_SEC_STATUS + 192 then
    let n := (a - Reg.PIP_SEC_STATUS) / 16
    let u := secOf s n
    if a % 16 = 0 then
      let lag := if s.pip.first.isNone then 0 else min 255 ((diffMod 32 s.tbs.l u.line).toNat)
      some (packMsb [(rfld s a 31 24, 8), (lag, 8), (secEpoch s n, 8), (0, 8)])
    else if a % 16 = 12 then some (satN 16 (hotCount s n) * 65536 + staticCount s (fun c => c / 1536 == n))
    else none
  else none

/-- PIP_CLEAR (R179): PIP_SEC_DROP and PIP_SEC_SHORT of all sectors. -/
def pipClear (v : Nat) (s : State) : State :=
  if bit v 0 then
    rclear s ((List.range 12).flatMap (fun n => [Reg.PIP_SEC_DROP + 16 * n, Reg.PIP_SEC_SHORT + 16 * n]))
  else s

/-- The 128 bits at PIP_PMEM_ADDR (R180). -/
def pmemWord (s : State) (i : Nat) : Nat :=
  let a := 16 * rfld s Reg.PIP_PMEM_ADDR 17 0 + 4 * i
  let w := ofLe ((List.range 4).map (fun j => loadedByte s (a + j)))
  if 0x4000 ≤ a ∧ a < 0x8000 ∧ w ≠ 0xFFFFFFFF then packMsb [(bits w 31 28, 4), (0, 13), (bits w 14 0, 15)] else w

end Sys2Proof.Machine
end

