-- ==== Sys2Proof/Machine/Formatter.lean ====
section
/-! DEFINITION. Mosaic reconstruction, colour and the line units of the output families
(06_reconstruction_outputs.md). -/

namespace Sys2Proof.Machine

/-! ### Words (R14, R15, R28, R190, R193) -/

/-- The line descriptor of a registered line (R28). -/
def descWord (r : RegLine) : BitVec 128 :=
  BitVec.ofNat 128 (packMsb [(r.p, 40), (r.l, 32), (r.epoch, 8), (r.invalid, 12), (r.absent, 11), (r.settle, 9),
    (r.blk, 9), (b2n r.gap, 1), (0, 6)])

/-- The fields of a format word that are not 0 for a unit (R190). -/
structure Fmt where
  family : Nat
  format : Nat
  plane : Nat
  hfact : Nat
  firstSec : Nat
  sectors : Nat
  firstCol : Nat
  samples : Nat
  epochCap : Nat
  cls : Nat
  cg : Bool
  cag : Nat
  seq : Nat
  trunc : Bool
  planeAbsent : Bool
  noPayload : Bool
  deriving DecidableEq, Repr

/-- A format word with only its family and format. -/
def Fmt.base (family format : Nat) : Fmt :=
  ⟨family, format, 0, 1, 0, 0, 0, 0, 0, 0, false, 0, 0, false, false, false⟩

/-- The 128-bit format word (R190). -/
def fmtWord (f : Fmt) : BitVec 128 :=
  BitVec.ofNat 128 (packMsb [(f.family, 4), (f.format, 4), (f.plane, 8), (f.hfact, 4), (f.firstSec, 4), (f.sectors, 4),
    (f.firstCol, 15), (f.samples, 15), (f.epochCap, 8), (f.cls, 2), (b2n f.cg, 1), (f.cag, 2), (f.seq, 16), (0, 38),
    (b2n f.trunc, 1), (b2n f.planeAbsent, 1), (b2n f.noPayload, 1)])

/-- `n` words of values of `w` bits from value `f i`, value i at bits [w i + w − 1 : w i] of the run of words. -/
def packWords (w cnt words : Nat) (f : Nat → Nat) : List (BitVec 128) :=
  let v := nsum ((List.range cnt).map (fun i => f i % 2 ^ w * 2 ^ (w * i)))
  (List.range words).map (fun j => BitVec.ofNat 128 (v / 2 ^ (128 * j)))

/-- Sectors that a window touches: first and count (R191). -/
def winSectors (w : Nat × Nat) : Nat × Nat :=
  let a := 8 * w.1 / 1536
  (a, (8 * (w.1 + w.2) - 1) / 1536 - a + 1)

/-- 16-bit sector segments of `per` samples (R14, R16). -/
def seg16 (per : Nat) (fs : Nat × Nat) (f : Nat → Nat) : List (BitVec 128) :=
  (List.range fs.2).flatMap (fun i => packWords 16 per (per / 8) (fun j => f (1536 * (fs.1 + i) + j)))

/-- 12-bit packed sector segments of `per` samples (R15). -/
def seg12 (per : Nat) (fs : Nat × Nat) (f : Nat → Nat) : List (BitVec 128) :=
  (List.range fs.2).flatMap (fun i => (List.range (per / 32)).flatMap (fun g =>
    packWords 12 32 3 (fun j => f (1536 * (fs.1 + i) + 32 * g + j))))

/-- Class-map sector segments (R193). -/
def seg4 (fs : Nat × Nat) (f : Nat → Nat) : List (BitVec 128) :=
  (List.range fs.2).flatMap (fun i => packWords 4 1536 48 (fun j => f (1536 * (fs.1 + i) + j)))

/-- The 12-bit form of a 16-bit code (R193). -/
def to12 (q : Nat) : Nat := if q = 0xFFFF then 0xFFF else min (q / 16) 0xFFE

/-! ### MOS reconstruction (R183-R187) -/

/-- PED. -/
def ped (s : State) : Nat := rfld s Reg.PIP_CFG 23 16

/-- The five MOS lines around a registered line after replacement (R185), from L − 2 to L + 2, with the number of
replacements, or none when the planes are absent. `av i` gives the codes of line L + i − 2, if it is there. -/
def mosWindow (av : Nat → Option (Map Nat)) : Option (List (Map Nat) × Nat) :=
  match av 2 with
  | none => none
  | some m =>
    match av 1, av 3, av 0, av 4 with
    | none, none, _, _ => none
    | _, _, none, none => none
    | a, b, c, d =>
      let pick := fun (x y : Option (Map Nat)) => (x.getD (y.getD []))
      let n := b2n a.isNone + b2n b.isNone + b2n c.isNone + b2n d.isNone
      some ([pick c d, pick a b, m, pick b a, pick d c], n)

/-- A value and whether it is saturated (R186). -/
abbrev Val := Int × Bool

/-- Mean of values, halves up (R183). -/
def meanV (l : List Val) : Val := (roundDiv (isum (l.map (·.1))) l.length, l.any (·.2))

/-- A MOS window with its geometry: the five lines, whether the middle line is type A, and the samples from `lo` to `hi`
of each line by index (R184). -/
structure MosWin where
  lines : List (Map Nat)
  typeA : Bool
  lo : Nat
  hi : Nat
  per : Nat
  edge : Nat
  deriving DecidableEq, Repr

/-- Sample of line `l` (0 to 4) at index `c`. -/
def MosWin.v (w : MosWin) (l c : Nat) : Val :=
  let q := mgetD (w.lines.getD l []) (1536 * (c / w.per) + c % w.per) 0
  if q = 0xFFFF then (0xFFFFF, true) else (decode16 q, false)
/-- Index to the left, mirrored at the edge (R184). -/
def MosWin.left (w : MosWin) (c : Nat) : Nat := if c ≤ w.lo then c + 1 else c - 1
/-- Index to the right, mirrored at the edge. -/
def MosWin.right (w : MosWin) (c : Nat) : Nat := if w.hi ≤ c then c - 1 else c + 1
/-- Line `l` of the window is of type A. -/
def MosWin.isA (w : MosWin) (l : Nat) : Bool := w.typeA == (l % 2 == 0)
/-- rel(X, l, c) of R183 for the cell X of type A or not, in even or odd columns. -/
def MosWin.rel (w : MosWin) (xa xodd : Bool) (l c : Nat) : Bool × Bool := (w.isA l != xa, (c % 2 == 1) != xodd)
/-- pick of R183 over a plane `g`. -/
def MosWin.pick (w : MosWin) (g : Nat → Nat → Val) (l c : Nat) : List (Nat × Nat) :=
  let a := (l - 1, w.left c)
  let b := (l + 1, w.right c)
  let d := (l - 1, w.right c)
  let e := (l + 1, w.left c)
  let g1 := ((g a.1 a.2).1 - (g b.1 b.2).1).natAbs
  let g2 := ((g d.1 d.2).1 - (g e.1 e.2).1).natAbs
  if g1 * 256 < g2 * (256 - w.edge) then [a, b]
  else if g2 * 256 < g1 * (256 - w.edge) then [d, e]
  else [a, d, e, b]
/-- points(X, l, c) of R183. -/
def MosWin.points (w : MosWin) (g : Nat → Nat → Val) (xa xodd : Bool) (l c : Nat) : List (Nat × Nat) :=
  match w.rel xa xodd l c with
  | (false, false) => [(l, c)]
  | (false, true) => [(l, w.left c), (l, w.right c)]
  | (true, false) => [(l - 1, c), (l + 1, c)]
  | (true, true) => w.pick g l c
/-- The guide G at line `l` of 1 to 3 (R183 pass 1). -/
def MosWin.guide (w : MosWin) (l c : Nat) : Val :=
  let m := meanV ((w.points w.v true false l c).map (fun p => w.v p.1 p.2))
  (clampI 0 0xFFFFE m.1, m.2)
/-- A plane at the middle line (R183 pass 2). -/
def MosWin.plane (w : MosWin) (xa xodd : Bool) (c : Nat) : Val :=
  let ps := w.points w.guide xa xodd 2 c
  let d := meanV (ps.map (fun p => ((w.v p.1 p.2).1 - (w.guide p.1 p.2).1, (w.v p.1 p.2).2 || (w.guide p.1 p.2).2)))
  let g := w.guide 2 c
  (clampI 0 0xFFFFE (g.1 + d.1), g.2 || d.2)
/-- Infrared leakage removed from a cell (R187), encoded (R161). Log entry 302. Log entry 341. -/
def irClean (pd kx : Nat) (x mn : Val) : Nat :=
  if kx = 0 then (if x.2 then 0xFFFF else encode16 x.1.toNat)
  else if x.2 || mn.2 then 0xFFFF
  else encode16 (clampI 0 0xFFFFE ((pd : Int) + max 0 (x.1 - pd - roundShift ((kx : Int) * (mn.1 - pd)) 14))).toNat

/-- Registered line `l` as the formatter holds it. -/
def heldLine (s : State) (l : Nat) : Option RegLine := s.pip.lines.find? (fun r => r.l == l)
/-- Codes of band `k` of a registered line. -/
def bandCodes (r : RegLine) (k : Nat) : Map Nat :=
  (r.codes.filter (fun e => decide (18432 * k ≤ e.1) && decide (e.1 < 18432 * (k + 1)))).map
    (fun e => (e.1 - 18432 * k, e.2))
/-- The MOS codes of line `l`, if it is not missing (R185). -/
def mosLine (s : State) (l : Nat) : Option (Map Nat) :=
  match heldLine s l with
  | some r => if r.gap || bit r.absent 4 || s.pip.mosLost.contains l then none else some (bandCodes r 4)
  | none => none
/-- The planes MR′, MC′, MN, MB′ of a registered line by sample number (R183-R187) with the replacements made, or none when they
are absent. Log entry 354. -/
def mosPlanes (s : State) (r : RegLine) : Option (List (Map Nat) × Nat) :=
  if inReset s 0x40D00 then none
  else
    match mosWindow (fun i => mosLine s ((r.l + i + 2 ^ 32 - 2) % 2 ^ 32)) with
    | none => none
    | some (ls, n) =>
      let f := 2 ^ (r.ownSet 4).bin 4
      let w4 := (r.ownSet 4).win 4
      let w : MosWin := ⟨ls, r.mosB % 2 == 0, 8 * w4.1 / f, 8 * (w4.1 + w4.2) / f - 1, 1536 / f, rfld s Reg.PIP_MOS_CFG 7 0⟩
      let cs := (List.range (w.hi + 1 - w.lo)).map (fun i => w.lo + i)
      let pd := ped s
      let mk := fun (g : Nat → Nat) => cs.map (fun c => (1536 * (c / w.per) + c % w.per, g c))
      let mn := fun c => w.plane false true c
      some ([mk (fun c => irClean pd (rfld s Reg.PIP_MOS_IR0 31 16) (w.plane true true c) (mn c)),
             mk (fun c => irClean pd (rfld s (Reg.PIP_MOS_IR1) 31 16) (w.guide 2 c) (mn c)),
             mk (fun c => irClean pd 0 (mn c) (mn c)),
             mk (fun c => irClean pd (rfld s Reg.PIP_MOS_IR0 15 0) (w.plane false false c) (mn c))], n)

/-! ### Colour conversion (R188, R189) -/

/-- Coefficient `i` of row `r` of the matrix at `base`: signed 4.12, entry 11 the offset (R200). -/
def mtx (s : State) (base r i : Nat) : Int :=
  toSigned 16 (rfld s (base + 4 * (6 * r + i / 2)) (16 * (i % 2) + 15) (16 * (i % 2)))

/-- a_i of column `c` (R188). `mc` are the codes of MC′, if they are there. -/
def colourIn (s : State) (r : RegLine) (mc : Option (Map Nat)) (c i : Nat) : Int :=
  let inv := bit r.invalid (c / 1536)
  let val := fun (q : Nat) => if q = 0xFFFF then (0xFFFFF : Int) - ped s else (decode16 q : Int) - ped s
  if i = 4 then
    match mc with
    | some m => if inv || bit r.absent 4 || !(inWin ((r.ownSet 4).win 4) c) then 0
                else val (mgetD m (sampleOf 4 ((r.ownSet 4).bin 4) c) 0)
    | none => 0
  else if i < 9 then
    if inv || bit r.absent i || !((r.ownSet i).captured i) || !(inWin ((r.ownSet i).win i) c) then 0
    else val (mgetD r.codes (18432 * i + sampleOf i ((r.ownSet i).bin i) c) 0)
  else if bit r.absent i || inv || !(inWin r.set.gwin c) then 0
  else val (mgetD r.codes (18432 * i + c) 0)

/-- y of the three channels of column `c` before the clamp (R188). -/
def linearOut (s : State) (base : Nat) (r : RegLine) (mc : Option (Map Nat)) (c : Nat) : List Int :=
  let a := (List.range 11).map (colourIn s r mc c)
  (List.range 3).map (fun ch =>
    roundDiv (isum ((List.range 11).map (fun i => mtx s base ch i * a.getD i 0))) 4096 + mtx s base ch 11)

/-- The clamped linear outputs of the global window of a line, and how many were clamped at 65,535. -/
def linearLine (s : State) (base : Nat) (r : RegLine) (mc : Option (Map Nat)) : List (List Nat) × Nat :=
  let w := r.set.gwin
  let raw := (List.range (8 * w.2)).map (fun i => linearOut s base r mc (8 * w.1 + i))
  (raw.map (fun y => y.map (fun v => (clampI 0 65535 v).toNat)),
    nsum (raw.map (fun y => (y.filter (fun v => decide (65535 < v))).length)))

/-- Box mean of `n` consecutive pixels; a rest at the right is dropped (R189, R193). -/
def boxMean (n : Nat) (px : List (List Nat)) : List (List Nat) :=
  (List.range (px.length / n)).map (fun g => (List.range 3).map (fun ch =>
    (roundDiv (nsum ((List.range n).map (fun i => (px.getD (n * g + i) []).getD ch 0))) n).toNat))

/-- Y, Cb, Cr of a pixel of R′, G′, B′ (R189). -/
def ycc (px : List Nat) : List Nat :=
  let r : Int := px.getD 0 0
  let g : Int := px.getD 1 0
  let b : Int := px.getD 2 0
  let yl := 2126 * r + 7152 * g + 722 * b
  let cl := fun (x : Int) => (clampI 4 1019 x).toNat
  [cl (64 + roundDiv (876 * yl) 10230000), cl (512 + roundDiv (896 * (10000 * b - yl)) (18556 * 1023)),
   cl (512 + roundDiv (896 * (10000 * r - yl)) (15748 * 1023))]

/-- 10-bit values packed 64 to 5 words (R193). -/
def pack10 (vs : List Nat) : List (BitVec 128) :=
  (List.range ((vs.length + 63) / 64)).flatMap (fun g => packWords 10 64 5 (fun j => vs.getD (64 * g + j) 0))

/-- The value sequence of CODING 4:2:2 (R193). -/
def seq422 (px : List (List Nat)) : List Nat :=
  (List.range (px.length / 2)).flatMap (fun k =>
    let a := px.getD (2 * k) []
    let b := px.getD (2 * k + 1) []
    [(a.getD 1 0 + b.getD 1 0 + 1) / 2, a.getD 0 0, (a.getD 2 0 + b.getD 2 0 + 1) / 2, b.getD 0 0])

/-- The value sequence of CODING 4:2:0 (R193): a line that is GAP has Y 64 and gives no chroma. -/
def seq420 (a b : Option (List (List Nat))) : List Nat :=
  let n := max ((a.map List.length).getD 0) ((b.map List.length).getD 0)
  let ys := fun (l : Option (List (List Nat))) => match l with
    | some p => p.map (fun q => q.getD 0 0)
    | none => List.replicate n 64
  let ps := a.toList ++ b.toList
  ys a ++ ys b ++ (List.range (n / 2)).flatMap (fun k =>
    let mean := fun ch =>
      (roundDiv (nsum (ps.map (fun p => (p.getD (2 * k) []).getD ch 0 + (p.getD (2 * k + 1) []).getD ch 0)))
        (2 * ps.length : Nat)).toNat
    [mean 1, mean 2])

/-! ### Units of a registered line (R190-R194) -/

/-- Hand a unit to LNK (R190): it waits for the lane buffer, and PIP_OUT_COUNT of its family advances. -/
def pushUnit (f : Nat) (u : LineUnit) (s : State) : State :=
  rwrap (pipMod (fun p => { p with units := p.units ++ [u] }) s) (Reg.PIP_OUT_COUNT + 4 * f) 31 0 1

/-- A unit of a registered line. -/
def unitOf (r : RegLine) (f : Fmt) (payload : List (BitVec 128)) : LineUnit :=
  ⟨f.family, f.plane, r.l, descWord r, fmtWord f, none, payload⟩

/-- A unit without payload for a GAP line (R192). -/
def gapUnit (r : RegLine) (f : Fmt) : LineUnit := unitOf r { f with noPayload := true } []

/-- The unit of the class map. -/
def clsUnit (r : RegLine) (trunc : Bool) (s : State) : State :=
  let fs := winSectors r.set.gwin
  let f : Fmt := { Fmt.base 1 2 with
    firstSec := fs.1, sectors := fs.2, firstCol := 1536 * fs.1, samples := 1536 * fs.2, trunc := trunc }
  if r.gap then pushUnit 15 (gapUnit r f) s
  else pushUnit 15 (unitOf r f (seg4 fs (fun c => mgetD r.cls c 0))) s

/-- The unit of VISION plane `p` (R191, R194). `mos` are the MOS planes, if they are there. -/
def visUnit (r : RegLine) (mos : Option (List (Map Nat))) (trunc : Bool) (p : Nat) (s : State) : State :=
  let k := if p < 9 then p else if p < 13 then 4 else p - 4
  let comp := decide (13 ≤ p)
  let fs := winSectors (if comp then r.set.gwin else (r.ownSet k).win k)
  let h := if comp then 1 else 2 ^ (r.ownSet k).bin k
  let per := 1536 / h
  let twelve := rbit s (Reg.PIP_VIS_PLANE + 4 * p) 1
  let mosP := decide (9 ≤ p) && decide (p < 13)
  let codes := if mosP then (match mos with | some l => l.getD (p - 9) [] | none => []) else bandCodes r k
  let f : Fmt := { Fmt.base 0 (b2n twelve) with
    plane := p, hfact := h, firstSec := fs.1, sectors := fs.2, firstCol := 1536 * fs.1, samples := per * fs.2
    epochCap := r.capEpoch.getD k 0, trunc := trunc, planeAbsent := mosP && mos.isNone }
  if r.gap then pushUnit p (gapUnit r f) s
  else
    pushUnit p (unitOf r f (if twelve then seg12 per fs (fun i => to12 (mgetD codes i 0))
      else seg16 per fs (fun i => mgetD codes i 0))) s

/-- Count clamped samples of a family (R188, R198). -/
def countClip (i n : Nat) (l : Nat) (s : State) : State :=
  if n = 0 then s
  else raise 0x419 (0x40D01 + i) [] 2 (coSector 15 15 l) (rsat s (Reg.PIP_CLIP_COUNT + 4 * i) 31 0 n)

/-- Pixels of CODING: Y, Cb, Cr (R189). -/
def codingPixels (s : State) (y : List (List Nat)) : List (List Nat) :=
  let y1 := if rbit s Reg.PIP_CODE_CFG 2 then boxMean 2 y else y
  y1.map (fun px => ycc (px.map (fun v => (Config.transferCode s.pip.tf (rfld s Reg.PIP_TF_CFG 1 0) (v / 64)).toNat)))

/-- The unit of CODING (R189, R193). Log entry 299. Log entry 355. -/
def codingUnit (r : RegLine) (mc : Option (Map Nat)) (trunc : Bool) (s : State) : State :=
  let half := rbit s Reg.PIP_CODE_CFG 2
  let w := 8 * r.set.gwin.2
  let f : Fmt := { Fmt.base 2 (3 + rfld s Reg.PIP_CODE_CFG 0 0) with
    hfact := if half then 2 else 1, firstCol := 8 * r.set.gwin.1, samples := if half then w / 2 else w, trunc := trunc }
  let ll := if r.gap then ([], 0) else linearLine s Reg.PIP_CODE_MTX r mc
  let px := if r.gap then none else some (codingPixels s ll.1)
  let s1 := countClip 1 ll.2 r.l s
  if rfld s Reg.PIP_CODE_CFG 1 0 = 0 then
    match px with
    | none => pushUnit 16 (gapUnit r f) s1
    | some p => pushUnit 16 (unitOf r f (pack10 (seq422 p))) s1
  else if r.l % 2 = 0 then
    pipMod (fun p => { p with pairC := some (r.l, r.gap, (px.getD []).flatten, descWord r) }) s1
  else
    let s2 := pipMod (fun p => { p with pairC := none }) s1
    let first := match s.pip.pairC with
      | some (l, g, v, d) =>
        if l + 1 = r.l then
          (d, if g then none else some ((List.range (v.length / 3)).map (fun i => (v.drop (3 * i)).take 3)))
        else (descWord r, none)
      | none => (descWord r, none)
    let none2 := first.2.isNone && px.isNone
    pushUnit 16 ⟨2, 0, r.l - 1, first.1, fmtWord { f with noPayload := none2 }, some (descWord r),
      if none2 then [] else pack10 (seq420 first.2 px)⟩ s2

/-- The unit of DISPLAY (R189, R193): on lines with L mod DECIM = PHASE. -/
def displayUnit (r : RegLine) (mc : Option (Map Nat)) (trunc : Bool) (s : State) : State :=
  if r.l % rfld s Reg.PIP_DISP_CFG 21 16 ≠ rfld s Reg.PIP_DISP_CFG 13 8 then s
  else
    let h := rfld s Reg.PIP_DISP_CFG 27 24
    let f : Fmt := { Fmt.base 3 5 with
      hfact := h, firstCol := 8 * r.set.gwin.1, samples := 8 * r.set.gwin.2 / h, trunc := trunc }
    if r.gap then pushUnit 17 (gapUnit r f) s
    else
      let ll := linearLine s Reg.PIP_DISP_MTX r mc
      let px := (boxMean h ll.1).map (fun p =>
        p.map (fun v => (Config.transferDisp s.pip.tf (rfld s Reg.PIP_TF_CFG 9 8) (v / 64)).toNat))
      let words := (List.range ((px.length + 15) / 16)).flatMap (fun g =>
        packWords 24 16 3 (fun j =>
          let p := px.getD (16 * g + j) []
          p.getD 0 0 + 256 * p.getD 1 0 + 65536 * p.getD 2 0))
      pushUnit 17 (unitOf r f words) (countClip 0 ll.2 r.l s)

/-- A family is enabled, not shed by the planner at the draw of the line (R192), and its function works. -/
def famOn (s : State) (r : RegLine) (b fid : Nat) : Bool :=
  rbit s Reg.PIP_OUT_CFG b && !(decide (b ≤ 2) && bit r.shed b) && !inReset s fid && !inReset s 0x40D03

/-- All units of one registered line in their order (R192). A GAP line is missing and its MOS planes are absent (R185). -/
def emitLine (trunc : Bool) (r : RegLine) (s : State) : State :=
  let recon := rbit s Reg.PIP_OUT_CFG 8
  let mos := if recon && !r.gap then mosPlanes s r else none
  let s0 :=
    if recon && !inReset s 0x40D00 then
      match mos with
      | some (_, n) => if n = 0 then s else raise 0x417 0x40D00 [] 2 (coSector 15 4 r.l) (rsat s Reg.PIP_MOS_COUNT 31 16 n)
      | none => raise 0x418 0x40D00 [] 2 (coSector 15 4 r.l) (rsat s Reg.PIP_MOS_COUNT 15 0 1)
    else s
  let ms := mos.map (·.1)
  let mc := match ms with | some l => l[1]? | none => none
  let s1 := if famOn s r 3 0x40D03 then clsUnit r trunc s0 else s0
  let s2 := if famOn s r 2 0x40D03 then
      ((List.range 15).filter (fun p => rbit s (Reg.PIP_VIS_PLANE + 4 * p) 0)).foldl (fun s p => visUnit r ms trunc p s) s1
    else s1
  let s3 := if famOn s r 1 0x40D02 then codingUnit r mc trunc s2 else s2
  let s4 := if famOn s r 0 0x40D01 then displayUnit r mc trunc s3 else s3
  let now := match s.pip.drawn with | some l => l | none => r.l
  pipMod (fun p => { p with
    lines := (p.lines.map (fun x => if x.l = r.l then { x with emitted := true } else x)).filter (fun x =>
      !x.emitted || !x.accLeft.isEmpty || decide ((diffMod 32 now x.l).natAbs ≤ 5))
    mosLost := p.mosLost.filter (fun x => decide ((diffMod 32 now x).natAbs ≤ 5)) }) s4

/-- The oldest registered line that waits for its emission. -/
def nextEmit (s : State) : Option RegLine := s.pip.lines.find? (fun r => !r.emitted)

/-- The class map of a line has arrived, or is not enabled (R181). -/
def clsHere (s : State) (r : RegLine) : Bool := !(rbit s Reg.PIP_OUT_CFG 3) || r.accLeft.isEmpty || r.gap

/-- FORMATTER_EMIT (R181): registered line L leaves once line L + 2 is drawn and its class map is there. -/
def formatterEmit (s : State) : State :=
  match (if images s then nextEmit s else none) with
  | none => s
  | some r =>
    let ready := match s.pip.drawn with
      | some d => decide (2 ≤ diffMod 32 d r.l) && clsHere s r
      | none => false
    if ready then emitLine false r (rmax s Reg.PIP_OUT_LAT 15 0 (s.t - r.trigT)) else s

/-- FORMATTER_FLUSH (R182): at standstill every line held leaves at once, with TRUNC and event 0x416. -/
def formatterFlush (s : State) : State :=
  let ls := s.pip.lines.filter (fun r => !r.emitted)
  if ls.isEmpty then s
  else
    pipMod (fun p => { p with flushed := true })
      (raise0 0x416 0x40D03 [] (ls.foldl (fun s r => emitLine true r s) s))

/-- A registered line reaches the formatter (R181): it is held, and it may be the trigger of line L − 2. -/
def holdLine (r : RegLine) (s : State) : State :=
  pipMod (fun p => { p with
    lines := (p.lines.map (fun x => if (x.l + 2) % 2 ^ 32 = r.l then { x with trigT := s.t } else x)) ++ [r]
    mosLost := if inReset s 0x40D00 then r.l :: p.mosLost else p.mosLost }) s

/-! ### ROW-RAW and snapshot (R195, R196) -/

/-- Rows that ROW-RAW selects of band `k` (R195). -/
def rawSel (s : State) (k r : Nat) : Bool := rbit s (Reg.PIP_RAW_ROWS + 4 * k) r

/-- ROW-RAW is produced from capture line `l`: enabled, not shed by the planner when the line was captured (R192, R197 step 3),
and its function works. -/
def rawOn (s : State) (l : Nat) : Bool :=
  rbit s Reg.PIP_OUT_CFG 4 && !inReset s 0x40D04 && !(match tagOf s l with | some t => bit t.shed 2 | none => false)

/-- A conversion is kept for ROW-RAW or for the snapshot frame. Log entry 356. -/
def keepRaw (d : Delivery) (last : Bool) (s : State) : State :=
  let c := setOf s d.seq.epoch
  if d.seq.snap then
    if inReset s 0x40D04 then s else
    match d.row with
    | none => pipMod (fun p => { p with snapRows := [] }) s
    | some (k, r) => pipMod (fun p => { p with
        snapRows := p.snapRows ++ [⟨d.seq.l, d.seq.epoch, k, r, 0, false, 0, d.samples⟩] }) s
  else if !rawOn s d.seq.l then s
  else
    let row := match d.row with
      | none => if rbit s Reg.PIP_RAW_CFG 31 then [RawRow.mk d.seq.l d.seq.epoch 15 0 0 false 0 d.samples] else []
      | some (k, r) =>
        if rawSel s k r then
          [RawRow.mk d.seq.l d.seq.epoch k r (c.cls k r) (c.hcg k (c.cls k r)) (c.cagOf k (c.cls k r)) d.samples]
        else []
    let s1 := pipMod (fun p => { p with
      raw := p.raw ++ row, rawDone := if last then p.rawDone ++ [(d.seq.l, false)] else p.rawDone }) s
    if last then
      let miss := nsum ((List.range 9).map (fun k =>
        ((List.range 16).filter (fun r => rawSel s k r && !(c.rowEn k r))).length))
      if miss = 0 then s1
      else
        let s2 := rsat s1 Reg.PIP_RAW_STATUS 31 16 miss
        if s.pip.rawMissEpoch = some d.seq.epoch then s2
        else raise 0x41A 0x40D04 [] 2 (coSector 15 15 d.seq.l)
          (pipMod (fun p => { p with rawMissEpoch := some d.seq.epoch }) s2)
    else s1

/-- The descriptor of a capture line (R28, ROW-RAW). -/
def captureDesc (s : State) (l : Nat) : BitVec 128 :=
  let h := s.tbs.hist.find? (fun h => h.l == l)
  let t := tagOf s l
  let gap := match t with | some t => t.gap | none => true
  let set := match t with | some t => t.set | none => CapSet.zero
  let bands := nsum (set.bands.map (fun k => 2 ^ k))
  BitVec.ofNat 128 (packMsb [((h.map (·.p)).getD 0, 40), (l, 32),
    ((t.map (·.epoch)).getD ((h.map (·.epoch)).getD 0), 8), (if gap then 0 else (t.map (·.invalid)).getD 0, 12), (0, 11),
    (if gap then 0 else (t.map (·.settle)).getD 0, 9),
    (if !gap && (t.map (·.blk)).getD false then bands else 0, 9), (b2n gap, 1), (0, 6)])

/-- The unit of a ROW-RAW row. -/
def rawUnit (s : State) (x : RawRow) : LineUnit :=
  let set := setOf s x.epoch
  let fs := winSectors (match tagOf s x.l with | some t => t.set.gwin | none => set.gwin)
  let f : Fmt := { Fmt.base 4 1 with
    plane := 16 * x.k + x.r, firstSec := fs.1, sectors := fs.2, firstCol := 1536 * fs.1, samples := 1536 * fs.2
    epochCap := x.epoch, cls := x.cls, cg := x.hcg, cag := x.cag }
  ⟨4, f.plane, x.l, captureDesc s x.l, fmtWord f, none, seg12 1536 fs (fun c => mgetD x.samples c 0)⟩

/-- A GAP capture line owes ROW-RAW one unit without payload (R195). -/
def rawGap (l : Nat) (s : State) : State :=
  if rawOn s l then
    pipMod (fun p => { p with rawDone := p.rawDone ++ [(l, true)] }) s
  else s

/-- What the readout leaves of a GAP line when its turn in the order of L has come (R118, R141, R195): the audit cycle, the empty
ROW-RAW unit and the line markers of the sector units. -/
def gapReadout (s : State) (g : Nat × Nat) : State := gapMarker g.1 g.2 (rawGap g.1 (gapCycle g.1 s))

/-- The GAP lines whose turn has come pass (R141): no line before them still converts. -/
def gapsPass (s : State) : State :=
  let held := fun (g : Nat × Nat) => s.ary.reads.any (fun r => !r.snap && laterL g.1 r.l)
  (s.ary.gapsDue.filter (fun g => !held g)).foldl gapReadout
    (aryMod (fun a => { a with gapsDue := a.gapsDue.filter held }) s)

/-- RAW_ROW_EMIT (R195): the units of the oldest capture line that is complete. Log entry 300. -/
def rawRowEmit (s : State) : State :=
  match (if images s then s.pip.rawDone else []) with
  | [] => s
  | (l, gap) :: rest =>
    let rows := s.pip.raw.filter (fun x => x.l == l)
    let s1 := pipMod (fun p => { p with rawDone := rest, raw := p.raw.filter (fun x => x.l != l) }) s
    if gap then
      let ep := ((tagOf s l).map (·.epoch)).getD 0
      pushUnit 18 ⟨4, 0, l, captureDesc s l, fmtWord { Fmt.base 4 1 with epochCap := ep, noPayload := true }, none, []⟩ s1
    else rwrap (rows.foldl (fun s1 x => pushUnit 18 (rawUnit s x) s1) s1) Reg.PIP_RAW_STATUS 15 0 1

/-- SNAP_DONE (R94 step 6, R196): the readout ends and the 144 snapshot units are delivered. -/
def snapDone (s : State) : State :=
  if s.ary.snapBusy && s.ary.snapStage == 2 then
    let s1 := snapEnd s
    let seq := rfld s1 Reg.ARY_SNAP_STATUS 31 16
    let hcg := bit s.ary.snapCfg 31
    if inReset s 0x40D04 then pipMod (fun p => { p with snapRows := [] }) s1
    else
      let mk := fun (x : RawRow) =>
        let f : Fmt := { Fmt.base 5 1 with
          plane := 16 * x.k + x.r, sectors := 12, samples := 18432, cg := hcg, seq := seq }
        (⟨5, f.plane, s.pip.snapL, captureDesc s s.pip.snapL, fmtWord f, none,
          seg12 1536 (0, 12) (fun c => mgetD x.samples c 0)⟩ : LineUnit)
      let s2 := s.pip.snapRows.foldl (fun s1 x => pushUnit 19 (mk x) s1) s1
      rwrap (pipMod (fun p => { p with snapRows := [] }) s2) Reg.PIP_SNAP_OUT 31 16 1
  else s

/-- LNK dropped a row of the snapshot frame `seq` (R196, R198): the frame counts once as LOSSY. -/
def snapRowLost (seq : Nat) (s : State) : State :=
  if s.pip.snapLossy.contains seq then s
  else raise0 0x41B 0x40D04 []
    (rsat (pipMod (fun p => { p with snapLossy := (seq :: p.snapLossy).take 16 }) s) Reg.PIP_SNAP_OUT 15 0 1)

/-! ### Reset scope and views -/

/-- Output formatting inside the reset scope of `fid` (R523). -/
def fmtResetScope (fid : Nat) (s : State) : State :=
  if fid = 0x40D00 then pipMod (fun p => { p with mosLost := p.lines.map (·.l) }) s
  else if fid = 0x40D02 then pipMod (fun p => { p with pairC := none }) s
  else if fid = 0x40D03 then
    pipMod (fun p => { p with
      lines := (p.lines.map (fun r => { r with emitted := true })).filter (fun r => !r.accLeft.isEmpty) }) s
  else if fid = 0x40D04 then pipMod (fun p => { p with raw := [], rawDone := [], snapRows := [] }) s
  else s

/-- Formatter registers that show state (R200). Log entry 303. -/
def viewFmt (s : State) (a : Nat) : Option Nat :=
  if a = Reg.PIP_RAW_CFG then
    let rows := nsum ((List.range 9).map (fun k =>
      ((List.range 16).filter (fun r => rawSel s k r && s.ary.set.rowEn k r)).length))
    some (setBits (rnat s a) 7 0 (if rbit s Reg.PIP_OUT_CFG 4 then rows + b2n (rbit s Reg.PIP_RAW_CFG 31) else 0))
  else if a = Reg.PIP_OUT_HOLD then some ((nextEmit s).elim 0 (·.l))
  else if a = Reg.PIP_OUT_STATUS then
    let shed := rfld s Reg.MGT_SHED_STATUS 11 8
    let fid := fun b => if b = 0 then 0x40D01 else if b = 1 then 0x40D02 else if b = 4 then 0x40D04 else 0x40D03
    let prod := nsum ((List.range 5).map (fun b =>
      let off := (decide (b ≤ 2) && bit shed b) || (b == 4 && bit shed 2) || inReset s (fid b) || (b != 4 && inReset s 0x40D03)
      if rbit s Reg.PIP_OUT_CFG b && !off then 2 ^ b else 0))
    some (packMsb [(0, 24), (b2n s.pip.flushed, 1),
      (min 2 (s.pip.lines.filter (fun r => !r.emitted)).length, 2), (if s.mgt.capturing then prod else 0, 5)])
  else none

/-- PIP_OUT_CLEAR (R200). -/
def outClear (v : Nat) (s : State) : State :=
  if bit v 0 then
    rfset (rclear s ([Reg.PIP_MOS_COUNT, Reg.PIP_CLIP_COUNT, Reg.PIP_CLIP_COUNT + 4] ++
      (List.range 20).map (fun f => Reg.PIP_OUT_COUNT + 4 * f))) Reg.PIP_RAW_STATUS 31 16 0
  else s

end Sys2Proof.Machine
end

