-- ==== Sys2Proof/Machine/Features.lean ====
section
/-! DEFINITION. Features, views, verdict programs and the words of records (07_verdict_engine.md R215-R217, R220-R235,
08_gust_verdicts_ejection.md R251, R269, R270). -/

namespace Sys2Proof.Machine

/-- Apply `f` to the verdict engine. -/
def vdtMod (f : Vdt → Vdt) (s : State) : State := { s with vdt := f s.vdt }
/-- The object in a slot, if it is not FREE. -/
def objOf (s : State) (k : Nat) : Option Obj := mget s.vdt.objs k
/-- Put an object into slot `k`. -/
def setObj (k : Nat) (o : Obj) (s : State) : State := vdtMod (fun v => { v with objs := mput v.objs k o }) s
/-- Change the object in slot `k`, if there is one. -/
def modObj (k : Nat) (f : Obj → Obj) (s : State) : State := vdtMod (fun v => { v with objs := madj v.objs k f }) s
/-- Slot `k` becomes FREE, and with it the slots it had absorbed (R208, R210). -/
def freeObj (k : Nat) (s : State) : State :=
  vdtMod (fun v => { v with objs := v.objs.filter (fun p => p.1 != k && !(p.2.st == 6 && p.2.root == k)) }) s
/-- SITE of this module. -/
def site (s : State) : Nat := rfld s Reg.VDT_XW_CFG 23 20
/-- MM_BANDj (R215). -/
def mmBand (s : State) (j : Nat) : Nat := rfld s Reg.VDT_FEAT_CFG (4 * j + 3) (4 * j)

/-! ### Flags (R217) -/

/-- Set FLAGS bit `i`. -/
def setFlag (i : Nat) (o : Obj) : Obj := { o with flags := o.flags ||| 2 ^ i }
/-- Set FLAGS bit `i` when a condition holds. -/
def flagIf (c : Bool) (i : Nat) (o : Obj) : Obj := if c then setFlag i o else o

/-- Stitching is enabled on link `n` (0 or 1) (R236, R240). -/
def stitchOn (s : State) (n : Nat) : Bool :=
  rbit s Reg.VDT_XW_CFG (31 - n) && decide (n ≤ 1) && !(xwLane s n).digestBad && !inReset s 0x60E00
/-- The edge contact range of an object on the side of link `n`: XW0 leads to lower machine columns (R235). -/
def edgeOn (s : State) (o : Obj) (n : Nat) : Option (Nat × Nat) :=
  if (n == 0) != rbit s Reg.VDT_XW_CFG 27 then o.edgeLo else o.edgeHi
/-- The enabled sides on which an object carries EDGE_LO or EDGE_HI (R236). -/
def stitchSides (s : State) (o : Obj) : List Nat :=
  [0, 1].filter (fun n => stitchOn s n && bit o.flags (if (n == 0) != rbit s Reg.VDT_XW_CFG 27 then 7 else 8))

/-- The edge contact range of an object that touches the edge on registered line `l` (R236). -/
def edgeRange (l : Nat) : Option (Nat × Nat) → Option (Nat × Nat)
  | none => some (l, l)
  | some (a, b) => some (if laterL a l then l else a, if laterL l b then l else b)
/-- The live copy sets FLAGS bit `i` (R251). -/
def setLive (i : Nat) (o : Obj) : Obj := { setFlag i o with lflags := o.lflags ||| 2 ^ i }
/-- The live copy sets FLAGS bit `i` when a condition holds. -/
def liveIf (c : Bool) (i : Nat) (o : Obj) : Obj := if c then setLive i o else o

/-! ### Accumulating (R215, R216) -/

/-- An unsigned sum in its width (R215). R215 gives a sum without saturation a width and no value beyond it: there it is a
free value (log entry 266). -/
def fitU (w x : Nat) : Nat := if x < 2 ^ w then x else (Config.sumOutOfWidth w x).toNat % 2 ^ w
/-- A signed sum in its width (R215), free beyond it. -/
def fitS (w : Nat) (x : Int) : Int :=
  if -(2 ^ (w - 1) : Nat) ≤ x ∧ x < (2 ^ (w - 1) : Nat) then x else toSigned w ((Config.sumOutOfWidth w x).toNat % 2 ^ w)

/-- LIN20 value of a code, a saturated one as 0xF_FFFF. -/
def lin20 (q : Nat) : Nat := if q = 0xFFFF then 0xFFFFF else decode16 q
/-- (x − PED) >> 4 (R215). -/
def scaled (s : State) (x : Nat) : Int := ((x : Int) - ped s) / 16
/-- Code of band `k` at column `c` of a registered line (R16). -/
def regCode (r : RegLine) (k c : Nat) : Nat :=
  mgetD r.codes (18432 * k + (if k < 9 then sampleOf k ((r.ownSet k).bin k) c else c)) 0
/-- A sample of band `k` at column `c` of a registered line is present (R216). A companion band is captured when its port was
configured at the join. -/
def present (r : RegLine) (k c : Nat) : Bool :=
  !r.gap && !(bit r.absent k) && !(bit r.invalid (c / 1536)) &&
  (if k < 9 then (r.ownSet k).captured k && inWin ((r.ownSet k).win k) c && !(bit (r.short.getD k 0) (c / 1536))
   else bit r.ports (k - 9) && inWin r.set.gwin c)
/-- Samples of one band enter SUM, SSQ, N and LN; `fresh` says that the line was not counted for the band before. -/
def addBand (k : Nat) (xs : List Int) (fresh : Bool) (f : Feat) : Feat :=
  { f with
    sum := f.sum.set k (fitS 40 (f.sum.getD k 0 + isum xs))
    ssq := f.ssq.set k (fitU 56 (f.ssq.getD k 0 + nsum (xs.map (fun x => x.natAbs * x.natAbs))))
    n := f.n.set k (satN 24 (f.n.getD k 0 + xs.length))
    ln := f.ln.set k (fitU 11 (f.ln.getD k 0 + (if fresh && !xs.isEmpty then 1 else 0))) }
/-- LIN20 samples enter MIN_j and MAX_j. -/
def addMinMax (j : Nat) (xs : List Nat) (f : Feat) : Feat :=
  { f with mn := f.mn.set j (xs.foldl min (f.mn.getD j 0xFFFFF)), mx := f.mx.set j (xs.foldl max (f.mx.getD j 0)) }
/-- Pixels enter AREA, SUM_C, SUM_L, C_MIN and C_MAX; `dl` is L − L_FIRST. -/
def addPixels (cols : List Nat) (dl : Int) (f : Feat) : Feat :=
  match cols with
  | [] => f
  | c0 :: _ =>
    let lo : Int := (cols.foldl min c0 : Nat)
    let hi : Int := nmax cols
    { f with
      cMin := if f.area = 0 then lo else min f.cMin lo
      cMax := if f.area = 0 then hi else max f.cMax hi
      area := satN 24 (f.area + cols.length)
      sumC := fitS 40 (f.sumC + nsum cols)
      sumL := fitS 36 (f.sumL + dl * cols.length) }
/-- Two objects' features together (R208, R215): sums and counts are added, minima and maxima combined; SUM_L of the
second is offset by `dl` lines times its area. -/
def addFeat (a b : Feat) (dl : Int) : Feat where
  area := satN 24 (a.area + b.area)
  sumC := fitS 40 (a.sumC + b.sumC)
  sumL := fitS 36 (a.sumL + b.sumL + dl * b.area)
  p4 := a.p4 + b.p4
  cMin := if a.area = 0 then b.cMin else if b.area = 0 then a.cMin else min a.cMin b.cMin
  cMax := if a.area = 0 then b.cMax else if b.area = 0 then a.cMax else max a.cMax b.cMax
  sum := List.zipWith (fun x y => fitS 40 (x + y)) a.sum b.sum
  ssq := List.zipWith (fun x y => fitU 56 (x + y)) a.ssq b.ssq
  n := List.zipWith (fun x y => satN 24 (x + y)) a.n b.n
  ln := List.zipWith (fun x y => fitU 11 (x + y)) a.ln b.ln
  al := List.zipWith (fun x y => fitU 11 (x + y)) a.al b.al
  mn := List.zipWith min a.mn b.mn
  mx := List.zipWith max a.mx b.mx
  cls := List.zipWith (fun x y => satN 20 (x + y)) a.cls b.cls
/-- Live copies together. -/
def addLive (a b : LiveFeat) : LiveFeat where
  area := satN 24 (a.area + b.area)
  cMin := if a.area = 0 then b.cMin else if b.area = 0 then a.cMin else min a.cMin b.cMin
  cMax := if a.area = 0 then b.cMax else if b.area = 0 then a.cMax else max a.cMax b.cMax
  sum0 := fitS 40 (a.sum0 + b.sum0)
  n0 := satN 24 (a.n0 + b.n0)

/-! ### Pixel classifier (R220-R222) -/

/-- Weight w_ji of discriminant `j` (R244). -/
def clsWeight (s : State) (j i : Nat) : Int := toSigned 16 (pm16 s (0x2AA000 + 32 * j + 2 * i))
/-- Bias b_j, in bits [79:48] of word 1. -/
def clsBias (s : State) (j : Nat) : Int := toSigned 32 (pm32 s (0x2AA000 + 32 * j + 22))
/-- Code of input `i` at column `c`: band, MC′ at input 4 (R188), companion band. -/
def clsCode (r : RegLine) (mc : Option (Map Nat)) (c i : Nat) : Nat :=
  if i = 4 then
    match mc with
    | some m => mgetD m (sampleOf 4 ((r.ownSet 4).bin 4) c) 0
    | none => regCode r 4 c
  else regCode r i c
/-- The class of column `c` of a registered line (R220, R221). -/
def classOf (s : State) (r : RegLine) (mc : Option (Map Nat)) (c : Nat) : Nat :=
  let cfg := rnat s Reg.VDT_CLS_CFG
  let used := (List.range 16).filter (fun j => bit cfg j)
  let lack := used.any (fun j => (List.range 11).any (fun i => clsWeight s j i != 0 && !(present r i c)))
  if lack || inReset s (0x60002 + 0x100 * (c / 1536)) || s.vdt.clsEcc.contains (r.l, c) then bits cfg 19 16
  else
    let si := (List.range 11).map (fun i =>
      let q := clsCode r mc c i
      if q = 0xFFFF then (65535 : Int) else min 65535 (scaled s (decode16 q)))
    let code := nsum (used.map (fun j =>
      let d := isum ((List.range 11).map (fun i => clsWeight s j i * si.getD i 0)) + 16 * clsBias s j
      if 0 ≤ d then 2 ^ j else 0))
    pmByte s (0x2AA200 + code / 2) / (if code % 2 = 1 then 16 else 1) % 16

/-! ### Views (R223, R251) -/

/-- A view of kind C (R223). -/
def viewC (x : Int) : Nat := encode16 (clampI 0 0xFFFFE x).toNat
/-- P4, 24 bits, saturating (R215). -/
def p4Of (f : Feat) : Nat := satN 24 (f.p4 / 1000)
/-- PERIM in column widths (R223). -/
def perim (f : Feat) : Nat := (roundDiv (7854 * p4Of f) 160000).toNat
/-- MEAN_k (R223). -/
def meanK (s : State) (sum : Int) (n : Nat) : Nat := if n = 0 then 0 else viewC (ped s + roundDiv (16 * sum) n)
/-- SD_k (R223). -/
def sdK (sum : Int) (ssq n : Nat) : Nat :=
  if n = 0 then 0
  else viewC ((isqrt ((1024 * ((ssq : Int) * n - sum * sum)).toNat / (n * n)) + 1) / 2 : Nat)
/-- COMPACT (R223), π to 20 decimals, rounded down. -/
def compact (s : State) (f : Feat) : Nat :=
  if perim f = 0 then (Config.viewOfNothing 4).toNat
  else min 0xFFFF (16384 * 314159265358979323846 * f.area * aspect s / (10 ^ 20 * 1000 * perim f * perim f))
/-- ELONG (R223), rounded down. -/
def elong (s : State) (lines width : Nat) : Nat := min 0xFFFF (4096 * lines * aspect s / (1000 * width))
/-- LINES of the live copy. -/
def liveLines (o : Obj) : Nat := (diffMod 32 o.bLast o.bFirst + 1).toNat
/-- LINES of the registered copy. -/
def regLines (o : Obj) : Nat := (diffMod 32 o.lLast o.lFirst + 1).toNat

/-- Views that bands and sums give, from a feature copy. `ok k` says that band k's views are read. -/
def bandView (s : State) (f : Feat) (ok : Nat → Bool) (i : Nat) : Nat :=
  let k := i % 16
  let n := f.n.getD k 0
  if i < 0x50 then
    if !(ok k) then 0
    else if i < 0x20 then meanK s (f.sum.getD k 0) n
    else if i < 0x30 then sdK (f.sum.getD k 0) (f.ssq.getD k 0) n
    else if i < 0x40 then viewC n
    else viewC (f.ln.getD k 0)
  else
    let j := i % 8
    let b := mmBand s j
    if !(ok b) || f.n.getD b 0 == 0 then 0
    else viewC (if i < 0x58 then f.mn.getD j 0 else f.mx.getD j 0)

/-- View `i` of an object; `cp` is 0 in a confirmed evaluation and the checkpoint number in a gust evaluation, which reads
the live and the gust copy, with the bands of `listed` and the ratio `vr` (R251). -/
def viewOf (s : State) (o : Obj) (cp vr listed i : Nat) : Nat :=
  let lw := (o.live.cMax - o.live.cMin + 1).toNat
  let rw := (o.reg.cMax - o.reg.cMin + 1).toNat
  let c := cp == 0
  if i = 0 then viewC (if c then o.reg.area else o.live.area)
  else if i = 1 then viewC (if c then regLines o else liveLines o)
  else if i = 2 then viewC (if c then rw else lw)
  else if i = 3 then (if c then viewC (perim o.reg) else 0)
  else if i = 4 then (if c then compact s o.reg else 0)
  else if i = 5 then (if c then elong s (regLines o) rw else elong s (liveLines o) lw)
  else if i = 6 then (if c then o.vratio else vr)
  else if i = 7 then (if c then o.flags else o.lflags) % 65536
  else if i < 0x60 then bandView s (if c then o.reg else o.gust) (fun k => c || bit listed k) i
  else if i < 0x70 then (if c then viewC (o.reg.cls.getD (i % 16) 0) else 0)
  else if i < 0x80 then
    (if !c then 0
     else if o.reg.area = 0 then (Config.viewOfNothing i).toNat
     else min 65535 (65536 * o.reg.cls.getD (i % 16) 0 / o.reg.area))
  else if i = 0x80 then viewC o.live.area
  else if i = 0x81 then viewC (liveLines o)
  else if i = 0x82 then viewC lw
  else if i = 0x83 then (if o.live.n0 = 0 then (Config.viewOfNothing i).toNat
                         else viewC (ped s + roundDiv (16 * o.live.sum0) o.live.n0))
  else cp

/-- The listed view indices (R223). -/
def viewListed (i : Nat) : Bool :=
  decide (i ≤ 7) || (decide (0x10 ≤ i) && decide (i < 0x50) && decide (i % 16 ≤ 10)) ||
  (decide (0x50 ≤ i) && decide (i < 0x60) && decide (i % 8 ≤ 2)) || (decide (0x60 ≤ i) && decide (i < 0x80)) ||
  (decide (0x80 ≤ i) && decide (i ≤ 0x84))
/-- A view is of kind C (R223). -/
def viewIsC (i : Nat) : Bool :=
  decide (i ≤ 3) || (decide (0x10 ≤ i) && decide (i < 0x70)) || (decide (0x80 ≤ i) && decide (i ≤ 0x83))

/-! ### Verdict programs (R224-R227) -/

/-- Rule word `i` of program `n` (R244). -/
def ruleWord (s : State) (n i : Nat) : Nat := pm32 s (0x2B4000 + 2048 * n + 4 * i)
/-- Length of program `n`: its last word that is not 0. -/
def progLen (s : State) (n : Nat) : Nat :=
  (List.range 512).foldl (fun m i => if ruleWord s n i ≠ 0 then i + 1 else m) 0
/-- COND (R224). -/
def condHolds (cond a b : Nat) : Bool :=
  match cond with
  | 0 => decide (a < b)
  | 1 => decide (b ≤ a)
  | 2 => a == b
  | 3 => a != b
  | 4 => a &&& b == b
  | 5 => a &&& b == 0
  | _ => false
/-- A rule word passes the check of R226 at its place in a program of length `len`. -/
def ruleOk (len i w : Nat) : Bool :=
  let op := bits w 31 28
  let cond := bits w 27 25
  let view := bits w 24 16
  let imm := bits w 15 0
  let target := decide (imm < 512) && decide (i + 2 ≤ imm) && decide (imm < len)
  decide (cond ≤ 5) &&
  match op with
  | 1 | 2 | 3 => viewListed view
  | 4 => viewListed view && viewListed (bits imm 8 0) && bits imm 15 9 == 0 && cond == 0
  | 5 | 6 => true
  | 7 | 8 => target
  | 9 => target && cond == 0
  | 10 | 11 => bits imm 15 12 == 0 && cond == 0
  | _ => false
/-- Program `n` passes the check of R226. -/
def progOk (s : State) (n : Nat) : Bool :=
  (List.range (progLen s n)).all (fun i => ruleOk (progLen s n) i (ruleWord s n i))
/-- The band that a view reads, if any (R226). -/
def viewBand (s : State) (i : Nat) : Option Nat :=
  if 0x10 ≤ i ∧ i < 0x50 then some (i % 16)
  else if 0x50 ≤ i ∧ i < 0x60 then some (mmBand s (i % 8))
  else none
/-- The band mask of program `n` (R226). -/
def progBands (s : State) (n : Nat) : Nat :=
  (List.range (progLen s n)).foldl (fun m i =>
    let w := ruleWord s n i
    let op := bits w 31 28
    let vs := if op ≤ 3 then [bits w 24 16] else if op = 4 then [bits w 24 16, bits w 8 0] else []
    vs.foldl (fun m v => match viewBand s v with | some k => m ||| 2 ^ k | none => m) m) 0
/-- The loader records length and band mask of every program (R226, R245). -/
def loadPrograms (s : State) : State :=
  (List.range 16).foldl (fun s n =>
    let len := progLen s n
    rset (if len = 0 then s else rfset s Reg.VDT_PROG_CFG n n 1)
      (Reg.VDT_PROG_INFO + 4 * n) (if len = 0 then 0 else progBands s n * 65536 + len)) (rfset s Reg.VDT_PROG_CFG 15 0 0)

/-- A core runs program `n` from word `pc` over views (R225): the verdict and reason, or none at the end of the program,
and the clocks taken. -/
def runRules (s : State) (n len : Nat) (view : Nat → Nat) : Nat → Nat → Bool → Nat → Nat → Option (Nat × Nat) × Nat
  | 0, _, _, _, clk => (none, clk)
  | f + 1, pc, fl, rt, clk =>
    if len ≤ pc then (none, clk)
    else
      let w := ruleWord s n pc
      let cond := bits w 27 25
      let a := view (bits w 24 16)
      let imm := bits w 15 0
      let next := fun (fl : Bool) (rt : Nat) => runRules s n len view f (pc + 1) fl rt (clk + 1)
      let jump := runRules s n len view f (bits imm 8 0) fl rt (clk + 2)
      let emit := (some (bits imm 3 0, bits imm 11 4), clk + 1)
      match bits w 31 28 with
      | 1 => next (condHolds cond a imm) rt
      | 2 => next (fl && condHolds cond a imm) rt
      | 3 => next (fl || condHolds cond a imm) rt
      | 4 =>
        let dec := fun (i v : Nat) => if viewIsC i then decode16 v else v
        let xa := dec (bits w 24 16) a
        let xb := dec (bits imm 8 0) (view (bits imm 8 0))
        next fl (if xb = 0 then 0xFFFF else min 0xFFFF (4096 * xa / xb))
      | 5 => next (condHolds cond rt imm) rt
      | 6 => next (fl && condHolds cond rt imm) rt
      | 7 => if fl then jump else next fl rt
      | 8 => if fl then next fl rt else jump
      | 9 => jump
      | 10 => emit
      | 11 => if fl then emit else next fl rt
      | _ => (none, clk)
/-- Program `n` over views, with 8 clocks of dispatch (R226). -/
def runProgram (s : State) (n : Nat) (view : Nat → Nat) : Option (Nat × Nat) × Nat :=
  runRules s n (rfld s (Reg.VDT_PROG_INFO + 4 * n) 9 0) view 513 0 false 0 8
/-- A verdict fires (R231). -/
def fires (s : State) (v : Nat) : Bool := (decide (1 ≤ v) && decide (v ≤ 14)) || (v == 15 && rbit s Reg.VDT_PROG_CFG 31)

/-! ### Valve mapping (R230, R232, R233) -/

/-- Entry `e` of the valve map (R244). -/
def valveEntry (s : State) (e : Nat) : Nat := pm64 s (0x2B2200 + 8 * e)
/-- Enabled entries. -/
def valveEntries (s : State) : List Nat := ((List.range 64).map (valveEntry s)).filter (fun e => bit e 63)
/-- Valve that column `c` of an entry maps to. -/
def valveAt (e c : Nat) : Nat := bits e 51 42 + (c - bits e 14 0) * 16 / bits e 41 30
/-- The valve set of columns `lo` to `hi` with the margin M (R233). Log entry 325. -/
def valveSet (s : State) (lo hi : Int) : List Nat :=
  let m : Int := rfld s Reg.VDT_EJ_MARGIN 5 0
  (valveEntries s).flatMap (fun e =>
    let a := max (max (lo - m) (8 * s.ary.set.gwin.1 : Nat)) (bits e 14 0)
    let b := min (min (hi + m) ((8 * (s.ary.set.gwin.1 + s.ary.set.gwin.2) : Nat) - 1)) (bits e 29 15)
    if b < a then []
    else
      let v0 := valveAt e a.toNat
      let v1 := valveAt e b.toNat
      (List.range (v1 + 1 - v0)).map (fun i => v0 + i))
/-- V_FIRST and V_LAST of a valve set (R233). -/
def valveEnds (vs : List Nat) : Nat × Nat :=
  match vs with
  | [] => (0x3FF, 0)
  | v :: _ => (vs.foldl min v, nmax vs)
/-- The program of an object with centroid column `c` (R230). -/
def programAt (s : State) (c : Int) : Nat :=
  match (valveEntries s).find? (fun e => decide ((bits e 14 0 : Int) ≤ c) && decide (c ≤ bits e 29 15)) with
  | some e => bits e 55 52
  | none => rfld s Reg.VDT_PROG_CFG 19 16

/-! ### Records (R234, R235, R269, R270) -/

/-- Machine column of a local column (R235). -/
def machineCol (s : State) (c : Int) : Int :=
  let m0 : Int := rfld s Reg.VDT_XW_MCOL0 16 0
  if rbit s Reg.VDT_XW_CFG 27 then m0 - c else m0 + c
/-- Local column of a machine column. -/
def localCol (s : State) (m : Int) : Int :=
  let m0 : Int := rfld s Reg.VDT_XW_MCOL0 16 0
  if rbit s Reg.VDT_XW_CFG 27 then m0 - m else m - m0
/-- A 128-bit word of fields, highest first. -/
def word128 (fs : List (Nat × Nat)) : BitVec 128 := BitVec.ofNat 128 (packMsb fs)
/-- The class with the largest count, the lowest among equals. -/
def clsTop (f : Feat) : Nat :=
  ((List.range 16).foldl (fun (b : Nat × Nat) i => if b.2 < f.cls.getD i 0 then (i, f.cls.getD i 0) else b) (0, 0)).1
/-- Centroid column in 1/16 column (R234). -/
def cenC (f : Feat) : Int :=
  if f.area = 0 then (Config.viewOfNothing 0x100).toNat else roundDiv (16 * f.sumC) f.area
/-- Centroid line after L_FIRST in 1/16 line (R234). -/
def cenL (f : Feat) : Int :=
  if f.area = 0 then (Config.viewOfNothing 0x101).toNat else roundDiv (16 * f.sumL) f.area
/-- The header of a record: bits [127:48] (R234). -/
def headFields (s : State) (typ words id lFirst : Nat) : List (Nat × Nat) :=
  [(typ, 4), (words, 4), (id, 32), (site s, 4), (0, 4), (lFirst, 32)]
/-- Words 0 to 2 of a confirmed, fragment or partner record (R234, R235). `v` is the verdict, VSRC and reason. -/
def recWords (s : State) (typ words : Nat) (o : Obj) (v : Nat × Nat × Nat) : List (BitVec 128) :=
  let ends := valveEnds (valveSet s o.own.1 o.own.2)
  let pe := match o.peer with | some p => p | none => (0, 15, 0)
  let top := clsTop o.reg
  [word128 (headFields s typ words o.id o.lFirst ++
     [(v.1, 4), (v.2.1, 3), (o.prog.getD 0, 4), (o.flags, 16), (regLines o - 1, 10),
      (if v.2.1 = 0 then v.2.2 else 0, 8), (0, 3)]),
   word128 [(o.reg.area, 24), (satU 15 o.reg.cMin, 15), (satU 15 o.reg.cMax, 15), (ofSigned 20 (cenC o.reg), 20),
     (satU 15 (cenL o.reg), 15), (o.vratio, 16), (satN 20 (perim o.reg), 20), (0, 3)],
   word128 [(o.tCross, 48), (ends.1, 10), (ends.2, 10), (pe.1, 32), (pe.2.1, 4),
     (if bit o.flags 10 then pe.2.2 else 0, 4), (top, 4),
     (if o.reg.area = 0 then (Config.viewOfNothing 0x70).toNat
      else min 65535 (65536 * o.reg.cls.getD top 0 / o.reg.area), 16)]]
/-- The features of words 4 to 21 with their widths, from bit 0 up (R235, R215). -/
def featFields (o : Obj) : List (Nat × Nat) :=
  let f := o.reg
  let pair := fun (a b : List Nat) => (List.zip a b).flatMap (fun p => [(p.1, 20), (p.2, 20)])
  [(f.area, 24), (o.live.area, 24), (regLines o, 11), (liveLines o, 11), (satU 15 f.cMin, 15), (satU 15 o.live.cMin, 15),
    (satU 15 f.cMax, 15), (satU 15 o.live.cMax, 15), (ofSigned 40 f.sumC, 40), (ofSigned 36 f.sumL, 36), (p4Of f, 24)] ++
  f.sum.map (fun x => (ofSigned 40 x, 40)) ++ f.ssq.map (fun x => (x, 56)) ++ f.n.map (fun x => (x, 24)) ++
  f.ln.map (fun x => (x, 11)) ++ f.al.map (fun x => (x, 11)) ++ pair f.mn f.mx ++ f.cls.map (fun x => (x, 20)) ++
  [(ofSigned 40 o.live.sum0, 40), (o.live.n0, 24)]
/-- Pack fields from bit 0 up into words. -/
def packUp (words : Nat) (fs : List (Nat × Nat)) : List (BitVec 128) :=
  let v := (fs.foldl (fun (a : Nat × Nat) p => (a.1 + p.1 % 2 ^ p.2 * 2 ^ a.2, a.2 + p.2)) (0, 0)).1
  (List.range words).map (fun i => BitVec.ofNat 128 (v / 2 ^ (128 * i)))
/-- A fragment (3) or partner (4) record of an object: 22 words (R235). -/
def xwWords (s : State) (typ : Nat) (o : Obj) (v : Nat × Nat × Nat) : List (BitVec 128) :=
  let a := machineCol s o.reg.cMin
  let b := machineCol s o.reg.cMax
  let c := if rbit s Reg.VDT_XW_CFG 27 then 16 * (rfld s Reg.VDT_XW_MCOL0 16 0 : Int) - cenC o.reg
           else 16 * (rfld s Reg.VDT_XW_MCOL0 16 0 : Int) + cenC o.reg
  recWords s typ 0 o v ++
  [word128 [(ofSigned 17 (min a b), 17), (ofSigned 17 (max a b), 17), (ofSigned 21 c, 21), (0, 73)]] ++
  packUp 18 (featFields o)
/-- Field `[hi:lo]` of word `i` of a record. -/
def recFld (ws : List (BitVec 128)) (i hi lo : Nat) : Nat := bits ((ws.getD i 0#128).toNat) hi lo
/-- A field of words 4 to 21 by its first bit. -/
def featFld (ws : List (BitVec 128)) (lo w : Nat) : Nat :=
  nsum ((List.range 18).map (fun i => (ws.getD (4 + i) 0#128).toNat * 2 ^ (128 * i))) / 2 ^ lo % 2 ^ w
/-- Whether the sender of a fragment record counts its columns upward in machine columns (R235): the fragment touches the
sender's edge towards this module, which lies at lower machine columns for a record from XW1 and at higher ones for XW0. Where
its flags name both edges or none, its centroid in machine columns tells. Log entry 305. -/
def senderForward (ws : List (BitVec 128)) (link : Nat) : Bool :=
  let lo := recFld ws 0 28 28 == 1
  let hi := recFld ws 0 29 29 == 1
  if lo && !hi then link == 1
  else if hi && !lo then link == 0
  else
    let area := featFld ws 0 24
    roundDiv (16 * (((recFld ws 3 127 111 : Int) - featFld ws 70 15) * area + toSigned 40 (featFld ws 130 40))) area ==
      toSigned 21 (recFld ws 3 93 73)

/-- The registered features that a record carries, with column sums in local columns of this module (R235, R236). The
sender's direction is the one that its centroid column agrees with. -/
def recFeat (s : State) (link : Nat) (ws : List (BitVec 128)) : Feat :=
  let area := featFld ws 0 24
  let cMin : Int := featFld ws 70 15
  let cMax : Int := featFld ws 100 15
  let sumC := toSigned 40 (featFld ws 130 40)
  let mcMin : Int := recFld ws 3 127 111
  let mcMax : Int := recFld ws 3 110 94
  let mSum := if senderForward ws link then (mcMin - cMin) * area + sumC else (mcMin + cMax) * area - sumC
  let a := localCol s mcMin
  let b := localCol s mcMax
  let m0 : Int := rfld s Reg.VDT_XW_MCOL0 16 0
  { area := area
    sumC := if rbit s Reg.VDT_XW_CFG 27 then m0 * area - mSum else mSum - m0 * area
    sumL := toSigned 36 (featFld ws 170 36)
    p4 := 1000 * featFld ws 206 24
    cMin := min a b
    cMax := max a b
    sum := (List.range 11).map (fun k => toSigned 40 (featFld ws (230 + 40 * k) 40))
    ssq := (List.range 11).map (fun k => featFld ws (670 + 56 * k) 56)
    n := (List.range 11).map (fun k => featFld ws (1286 + 24 * k) 24)
    ln := (List.range 11).map (fun k => featFld ws (1550 + 11 * k) 11)
    al := (List.range 11).map (fun k => featFld ws (1671 + 11 * k) 11)
    mn := (List.range 3).map (fun j => featFld ws (1792 + 40 * j) 20)
    mx := (List.range 3).map (fun j => featFld ws (1812 + 40 * j) 20)
    cls := (List.range 16).map (fun i => featFld ws (1912 + 20 * i) 20) }
/-- A gust record (R269): predicted opening tick time and valve ends are given; `cols` are live C_MIN and C_MAX, `o.flags` the
live flags at the checkpoint. -/
def gustWords (s : State) (o : Obj) (g : GustRec) (tOpen : Nat) (ends : Nat × Nat) (cols : Int × Int) :
    List (BitVec 128) :=
  [word128 (headFields s 1 2 o.id o.lFirst ++
     [(g.verdict, 4), (g.cp, 3), (g.prog, 4), (o.flags, 16), (liveLines o - 1, 10), (g.reason, 8), (0, 3)]),
   word128 [(tOpen, 48), (ends.1, 10), (ends.2, 10), (ofSigned 17 (machineCol s cols.1), 17),
     (ofSigned 17 (machineCol s cols.2), 17), (g.vr, 16), (0, 10)]]
/-- A cancel record (R270). -/
def cancelWords (s : State) (o : Obj) (g : GustRec) (cause conf : Nat) : List (BitVec 128) :=
  [word128 (headFields s 2 1 o.id o.lFirst ++
     [(g.verdict, 4), (g.cp, 3), (cause, 4), (o.flags, 16), (conf, 4), (0, 17)])]
/-- Hand a record to LNK (R234). -/
def emitRecord (ws : List (BitVec 128)) (s : State) : State := vdtMod (fun v => { v with out := v.out ++ [ws] }) s

end Sys2Proof.Machine
end

