-- ==== Sys2Proof/Machine/Flight.lean ====
section
/-! DEFINITION. Flight and windows, reservations, cancel records and confirmation (08_gust_verdicts_ejection.md R253-R270). -/

namespace Sys2Proof.Machine

/-! ### Flight (R260, R261) -/

/-- σ in 1/256 µm. -/
def sigma (s : State) : Nat := rfld s Reg.VDT_FLY_STEP 15 0
/-- T_L of a line from the line history (R53). -/
def lineT (s : State) (l : Nat) : Option Nat := (s.tbs.hist.find? (fun h => h.l == l)).map (·.tl)
/-- T of line `l` plus f/16 (R53), rounded down to 5 ns. -/
def timeAt (s : State) (l : Nat) (f : Nat) : Option Nat :=
  if f = 0 then lineT s l
  else
    match lineT s l, lineT s ((l + 1) % 2 ^ 32) with
    | some a, some b => some (a + f * (b - a) / 16)
    | _, _ => none
/-- g of R260 in 2⁻⁴⁸ µm/µs². -/
def gravity (s : State) : Int := roundDiv (toSigned 16 (rfld s Reg.VDT_FLY_G 15 0) * 2 ^ 48) 1000000000
/-- v of R260 in 2⁻²⁴ µm/µs for a line period `dt` (5 ns) and a velocity ratio. -/
def speed (s : State) (dt vr : Nat) : Nat :=
  (roundDiv (lineSteps s * sigma s * vr * 2 ^ 24 * 200 : Nat) (256 * 16384 * dt : Nat)).toNat
/-- t(X) of R260 in 5 ns, rounded down; none when the object cannot arrive. -/
def flightTime (x v : Nat) (g : Int) : Option Nat :=
  let d := (v : Int) * v + 2 * g * x
  if d < 0 then none
  else
    let den := v * 2 ^ 48 + isqrt (d.toNat * 2 ^ 96)
    let t := 400 * x * 2 ^ 72 / den
    if den = 0 ∨ 200000000 < t then none else some t
/-- ℓ in µm (R261). -/
def lengthUm (s : State) (lines vr : Nat) : Nat := (roundDiv (lines * vr * lineSteps s * sigma s : Nat) 4194304).toNat
/-- Bank and positions of a valve set. -/
def bankSets (vs : List Nat) : List (Nat × List Nat) :=
  ((List.range 8).map (fun b => (b, (vs.filter (fun v => v / 128 == b)).map (fun v => v % 128)))).filter
    (fun p => !p.2.isEmpty)
/-- A window (R261) of an object that crossed TRL at `tc` with velocity `v`: bank, opening tick, closing tick, positions;
whether it was clipped. None without arrival. -/
def windowOf (s : State) (tc lines vr v : Nat) (b : Nat × List Nat) : Option ((Nat × Int × Int × List Nat) × Bool) :=
  let d := rfld s (Reg.VDT_VB_D + 4 * b.1) 21 0
  let g := gravity s
  match flightTime d v g, flightTime (d + lengthUm s lines vr) v g with
  | some ta, some tb =>
    let lead : Int := 200 * rfld s (Reg.VDT_VB_LEAD + 4 * b.1) 15 0
    let tA : Int := (tc : Int) + ta - 200 * rfld s Reg.VDT_EJ_WIN 27 16 - lead
    let tB : Int := (tc : Int) + tb + 200 * rfld s Reg.VDT_EJ_WIN 11 0 - lead
    let no := tA / tickLen s
    let nc := max ((tB + tickLen s - 1) / tickLen s) (no + rfld s Reg.VDT_EJ_OPEN 7 0)
    let lim := no + rfld s Reg.VDT_EJ_OPEN 27 16
    some ((b.1, no, min nc lim, b.2), decide (lim < nc))
  | _, _ => none
/-- The windows of a valve set, the banks without arrival, and the banks whose window was clipped (R260, R261). -/
def windows (s : State) (tc lines vr v : Nat) (vs : List Nat) :
    List (Nat × Int × Int × List Nat) × List Nat × List Nat :=
  let ws := (bankSets vs).map (fun b => (b.1, windowOf s tc lines vr v b))
  (ws.filterMap (fun w => w.2.map (·.1)), (ws.filter (fun w => w.2.isNone)).map (·.1),
    (ws.filter (fun w => match w.2 with | some x => x.2 | none => false)).map (·.1))
/-- The earliest of a list of integers. -/
def earliest : List Int → Option Int
  | [] => none
  | a :: l => some (l.foldl min a)
/-- The commit time of an opening tick (R261). -/
def commitOf (s : State) (n : Int) : Int := n * tickLen s - frameLat s
/-- The period of line `l`: T of the next line less its own. -/
def periodAt (s : State) (l : Nat) : Nat :=
  match lineT s l, lineT s ((l + 1) % 2 ^ 32) with
  | some a, some b => b - a
  | _, _ => 0

/-! ### Reservations (R258, R259) -/

/-- This module fires the valves: alone, or the owner of its pair (R267). -/
def firesValves (s : State) : Bool :=
  (!(rbit s Reg.VDT_XW_CFG 29) || rbit s Reg.VDT_XW_CFG 28) && captureMode s != 2
/-- Place a reservation; none when the scheduler is full (R258). -/
def placeResv (r : Resv) (s : State) : Option State :=
  if 8192 ≤ s.vdt.resv.length ∨ inReset s 0x60F02 then none
  else
    some (rmax (vdtMod (fun v => { v with resv := v.resv ++ [r] }) s) Reg.VDT_EJ_STATUS 13 0 (s.vdt.resv.length + 1))
/-- Last tick whose frame bank `b` has built, or −1. -/
def builtTick (s : State) (b : Nat) : Int :=
  match (mgetD s.vdt.framers b Framer.reset).last with
  | some n => n
  | none => -1
/-- An OPEN span that begins on a bank at tick `n` consumes the object's ARM spans there (R259). -/
def consumeArm (obj st b : Nat) (n : Int) (s : State) : State :=
  vdtMod (fun v => { v with resv := v.resv.map (fun r =>
    if r.obj = obj ∧ r.site = st ∧ r.bank = b ∧ !r.opn ∧ r.lo ≤ n ∧ n < r.hi then { r with hi := n, src := 1 } else r) }) s
/-- Release reservations of an object that satisfy `f`. -/
def releaseResv (obj st : Nat) (f : Resv → Bool) (s : State) : State :=
  vdtMod (fun v => { v with resv := v.resv.filter (fun r => !(r.obj == obj && r.site == st && f r)) }) s
/-- Place an ARM span of a gust verdict on each bank (R259); one that cannot be placed is counted. -/
def placeArms (obj st src : Nat) (wins : List (Nat × Int × List Nat)) (s : State) : State :=
  let lead : Int := rfld s Reg.VDT_EJ_ARM 9 0
  let ttl : Int := rfld s Reg.VDT_EJ_ARM 27 16
  wins.foldl (fun s w =>
    match placeResv ⟨obj, st, w.1, false, src, w.2.2, w.2.1 - lead, w.2.1 - lead + ttl⟩ s with
    | some s1 => s1
    | none => rsat s (Reg.VDT_GUST_COUNT + 24) 31 0 1) s
/-- Place OPEN of an object on one bank, from tick `no` to `nc` (R261); a full scheduler raises 0x617. -/
def placeOpen (o : Obj) (src : Nat) (w : Nat × Int × Int × List Nat) (s : State) : State :=
  match placeResv ⟨o.id, site s, w.1, true, src, w.2.2.2, w.2.1, w.2.2.1⟩ s with
  | some s1 => consumeArm o.id (site s) w.1 w.2.1 s1
  | none => raiseIf (!inReset s 0x60F02) 0x617 0x60F02 [] 3 (coObj o.id (site s)) s
/-- An ARM reservation of an own object on a bank. -/
def isArm (s : State) (obj b : Nat) (r : Resv) : Bool := r.obj == obj && r.site == site s && r.bank == b && !r.opn
/-- The ARM spans of an own object on a bank keep only the valves `pos` (R267). -/
def narrowArms (obj b : Nat) (pos : List Nat) (s : State) : State :=
  vdtMod (fun v => { v with resv := v.resv.filterMap (fun r =>
    if isArm s obj b r then
      let q := r.pos.filter pos.contains
      if q.isEmpty then none else some { r with pos := q }
    else some r) }) s
/-- Place an ARM span of a confirmed verdict over ticks `lo` to `hi` − 1; one that cannot be placed is counted (R258). -/
def placeArm (o : Obj) (b : Nat) (pos : List Nat) (lo hi : Int) (s : State) : State :=
  match placeResv ⟨o.id, site s, b, false, 1, pos, lo, hi⟩ s with
  | some x => x
  | none => rsat s (Reg.VDT_GUST_COUNT + 24) 31 0 1
/-- Place ARM and OPEN of a confirmed firing verdict on a bank (R261, R267): ARM in the frames n_o − ARM_LEAD to n_o − 1 that no
ARM of the object covers; those already built are left out, with 0x618. Log entry 270. -/
def placeConfirmed (o : Obj) (w : Nat × Int × Int × List Nat) (s : State) : State :=
  let lead := rfld s Reg.VDT_EJ_ARM 9 0
  let lo : Int := w.2.1 - lead
  let built := builtTick s w.1
  let s1 := narrowArms o.id w.1 w.2.2.2 s
  let arms := s1.vdt.resv.filter (isArm s o.id w.1)
  let wanted := (List.range lead).filter (fun (i : Nat) => !(arms.any (fun r => decide (r.lo ≤ lo + i) && decide (lo + i < r.hi))))
  let s2 := raiseIf (wanted.any (fun i => decide (lo + i ≤ built))) 0x618 0x60F02 [] 3 (coObj o.id (site s)) s1
  placeOpen o 1 w ((runsOf (wanted.filter (fun (i : Nat) => decide (built < lo + i)))).foldl (fun s r =>
    placeArm o w.1 w.2.2.2 (lo + r.1) (lo + r.2 + 1) s) s2)

/-! ### Closing a gust record (R255) -/

/-- Emit the cancel record of the open gust record of slot `k`, if there is one (R255, R270), and release its ARM spans
when the object is gone. -/
def cancelGust (k cause conf : Nat) (s : State) : State :=
  match objOf s k with
  | none => s
  | some o =>
    match o.gustRec with
    | none => s
    | some g =>
      if g.closed then s
      else
        rsat (emitRecord (cancelWords s o g cause conf)
          (modObj k (fun o => { o with gustRec := some { g with closed := true } }) s)) (Reg.VDT_GUST_COUNT + 12) 31 0 1

/-! ### Late verdicts (R263-R265) -/

/-- OPEN of a FIRE on gust on one bank of the prediction, from tick `n` to the predicted n_c with ℓ′ made again (R262, R264);
frames already built stay as they are. Log entry 362. -/
def fireOnGust (o : Obj) (g : GustRec) (n : Int) (w : Nat × Int × List Nat) (s : State) : State :=
  match windowOf s g.tCross (liveLines o) g.vr g.v (w.1, w.2.2) with
  | some x =>
    let lo := max n (builtTick s w.1 + 1)
    let s1 := raiseIf x.2 0x616 0x60F02 [] 3 (coObj o.id (site s)) s
    if lo < x.1.2.2.1 ∧ firesValves s then placeOpen o 3 (w.1, lo, x.1.2.2.1, w.2.2) s1 else s1
  | none => raise 0x615 0x60F01 [w.1] 3 (coObj o.id (site s)) s

/-- A function from which the confirmed verdict of an object is awaited is in reset (R68): the verdict queue, the cores, the flight
model, stitching or the links of the neighbours it waits for, and before its registered close the band store control, without
which no registered line is drawn. -/
def verdictInReset (s : State) (o : Obj) : Bool :=
  inReset s 0x60C02 || inReset s 0x60F01 || (List.range 4).all (fun c => inReset s (0x60D00 + c)) ||
    (o.st == 4 && (inReset s 0x60E00 || linksInReset s (stitchSides s o))) || (!o.closed && inReset s 0x40C00)

/-- DL_COMMIT for the object in slot `k` (R264): decided at once. `n` is the tick being built. -/
def commitMiss (k : Nat) (n : Int) (s : State) : State :=
  match objOf s k with
  | none => s
  | some o =>
    let s1 := dlMissUnless (verdictInReset s o) 3 0x60F02 [o.id, site s] 3 (coObj o.id (site s)) s
    let fire := match o.gustRec with
      | some g => if !g.closed && rbit s Reg.VDT_GUST_CFG g.verdict && !(bit o.flags 14) then some g else none
      | none => none
    match fire with
    | some g =>
      let s2 := g.wins.foldl (fun s w => fireOnGust o g n w s) s1
      raise 0x612 0x60F02 [] 3 (coObj o.id (site s))
        (rsat (modObj k (fun o => { o with late := 1 }) s2) (Reg.VDT_GUST_COUNT + 20) 31 0 1)
    | none => raise 0x613 0x60F02 [] 3 (coObj o.id (site s)) (modObj k (fun o => { o with late := 2 }) s1)

/-! ### Confirmation (R265-R267) -/

/-- The smallest commit margin (R266): T_commit less the present T, in µs rounded down. -/
def noteMargin (o : Obj) (s : State) : State :=
  match earliest (o.wins.map (·.2.1)) with
  | none => s
  | some n =>
    let m := clampI (-2147483648) 2147483647 ((commitOf s n - (o.finalT.getD s.t : Nat)) / 200)
    if m < toSigned 32 (rnat s Reg.VDT_COMMIT_MARGIN) then
      rset (rset s Reg.VDT_COMMIT_MARGIN (ofSigned 32 m)) Reg.VDT_COMMIT_LAST o.id
    else s

/-- The ARMs that an object's gust record placed on valves outside the sets `bs` by bank are released (R267); on the others they
stay until they expire or are replaced (R259). -/
def releaseOutside (o : Obj) (bs : List (Nat × List Nat)) (s : State) : State :=
  vdtMod (fun v => { v with resv := v.resv.filterMap (fun r =>
    if r.obj = o.id ∧ r.site = site s ∧ r.src = 0 ∧ !r.opn then
      let q := r.pos.filter (((bs.find? (fun b => b.1 == r.bank)).map (·.2)).getD []).contains
      if q.isEmpty then none else some { r with pos := q }
    else some r) }) s

/-- What the scheduler does with a final verdict (R265, R267). Log entry 163. -/
def schedule (o : Obj) (v : Nat) (s : State) : State :=
  let st := site s
  let partner := if bit o.flags 10 then o.peer else none
  let relPartner := fun (s : State) => match partner with
    | some p => releaseResv p.1 p.2.1 (fun r => r.src == 2) s
    | none => s
  if !(firesValves s) then s
  else if fires s v then
    let s0 := releaseOutside o (bankSets (valveSet s o.own.1 o.own.2)) s
    let s1 :=
      if o.late = 1 then
        vdtMod (fun x => { x with resv := x.resv.map (fun r =>
          if r.obj = o.id ∧ r.site = st ∧ r.opn then
            match o.wins.find? (fun w => w.1 == r.bank) with
            | some w => { r with hi := max w.2.2.1 (builtTick s r.bank + 1) }
            | none => r
          else r) }) s0
      else o.wins.foldl (fun s w => placeConfirmed o w s) s0
    if o.late = 2 then s
    else if s1.vdt.resv.any (fun r => r.obj == o.id && r.site == st && r.opn) then relPartner s1
    else s1
  else if o.late = 2 then relPartner s
  else
    let s1 := relPartner (releaseResv o.id st (fun _ => true) s)
    if o.late = 1 then raise 0x614 0x60F02 [] 3 (coObj o.id st) s1 else s1

/-- The confirmed record of an object and the end of its gust record (R234, R255), and the counters of R245. -/
def emitConfirmed (k : Nat) (o : Obj) (v : Nat × Nat × Nat) (s : State) : State :=
  let open' := match o.gustRec with | some g => !g.closed | none => false
  let s1 :=
    if open' then
      if fires s v.1 then
        modObj k (fun o => { o with gustRec := o.gustRec.map (fun g => { g with closed := true }) })
          (rsat s (Reg.VDT_GUST_COUNT + 8) 31 0 1)
      else cancelGust k 0 v.1 s
    else s
  let s2 := emitRecord (recWords s 0 3 o v) s1
  rsat (rwrap (rwrap s2 Reg.VDT_OBJ_COUNT 31 0 1) (Reg.VDT_VERDICT_COUNT + 4 * v.1) 31 0 1)
    (Reg.VDT_VSRC_COUNT + 4 * v.2.1) 31 0 1

/-- CONFIRMATION (R267): the final verdict of the object in slot `k`. It leaves the table. While the flight model is in reset a
firing object waits for its windows (R523). Log entry 345. -/
def confirm (k : Nat) (v : Nat × Nat × Nat) (s : State) : State :=
  match objOf s k with
  | none => s
  | some o =>
    let none' := (valveSet s o.own.1 o.own.2).isEmpty
    if inReset s 0x60F01 && o.closed && o.wins.isEmpty && !none' && fires s v.1 then
      setObj k { o with st := 3, verdict := some v, finalT := some s.t } s
    else
      let s1 := raiseIf none' 0x608 0x60C02 [] 3 (coObj o.id (site s)) s
      freeObj k (emitConfirmed k o v (schedule o v.1 (noteMargin o s1)))

/-- Compute the confirmed windows of an object that has closed registered (R261, R263). A window whose opening tick is
built already is a DL_COMMIT miss at once. -/
def computeWindows (k : Nat) (s : State) : State :=
  match objOf s k with
  | none => s
  | some o =>
    if inReset s 0x60F01 ∨ !o.closed then s
    else
      let vs := valveSet s o.own.1 o.own.2
      let lc := match o.eTrl with
        | some e => (((o.lFirst : Int) + e / 16) % 2 ^ 32).toNat
        | none => o.lFirst
      let w := windows s o.tCross (regLines o) o.vratio (speed s (periodAt s lc) o.vratio) vs
      let s1 := w.2.1.foldl (fun s b => raise 0x615 0x60F01 [b] 3 (coObj o.id (site s)) s) s
      let s2 := w.2.2.foldl (fun s _ => raise 0x616 0x60F02 [] 3 (coObj o.id (site s)) s) s1
      let s3 := modObj k (fun o => { o with wins := w.1 }) s2
      let built := w.1.any (fun x => decide (x.2.1 ≤ builtTick s x.1))
      match earliest (w.1.map (·.2.1)) with
      | some n => if built && o.late == 0 then commitMiss k n s3 else s3
      | none => s3

/-! ### Partner gust records, expiry (R259, R268) -/

/-- A full T from its low 48 bits, the one nearest to the present T. -/
def fullT (s : State) (t48 : Nat) : Int := (s.t : Int) + diffMod 48 t48 (s.t % 2 ^ 48)

/-- A partner's firing gust record places an ARM span on the valve owner (R268). -/
def partnerGust (st obj : Nat) (ws : List (BitVec 128)) (s : State) : State :=
  if !(rbit s Reg.VDT_XW_CFG 29 && rbit s Reg.VDT_XW_CFG 28) || !(fires s (recFld ws 0 47 44)) || captureMode s == 2 then s
  else
    let a := localCol s (recFld ws 1 59 43)
    let b := localCol s (recFld ws 1 42 26)
    let n := fullT s (recFld ws 1 127 80) / tickLen s
    placeArms obj st 2 ((bankSets (valveSet s (min a b) (max a b))).map (fun p => (p.1, n, p.2))) s

/-- ARM_EXPIRE (R259, R268): the first ARM span of a gust verdict whose end has come without an OPEN or a release. It is
counted, and an own object without a confirmed record has its gust record cancelled. -/
def armExpire (s : State) : State :=
  let now : Int := s.t / tickLen s
  match s.vdt.resv.find? (fun r => !r.opn && (r.src == 0 || r.src == 2) && decide (r.hi ≤ now)) with
  | none => s
  | some r =>
    let s1 := rsat (vdtMod (fun v => { v with resv := v.resv.erase r }) s) (Reg.VDT_GUST_COUNT + 16) 31 0 1
    if r.src = 0 then
      match s1.vdt.objs.find? (fun p => p.2.id == r.obj) with
      | some p => cancelGust p.1 4 0 s1
      | none => s1
    else s1

/-! ### Frames (R256, R257) -/

/-- The state of position `p` of bank `b` at tick `n` (R258): 0 CLOSED, 1 ARMED, 2 OPEN. -/
def valveState (s : State) (b p : Nat) (n : Int) : Nat :=
  let rs := s.vdt.resv.filter (fun r => r.bank == b && decide (r.lo ≤ n) && decide (n < r.hi) && r.pos.contains p)
  if rs.any (·.opn) then 2 else if rs.isEmpty then 0 else 1

/-- Every frame is all-closed: warm-up (R462), FREERUN (R93), the scheduler in reset (R523), or the cut of an orderly stop
(R430). -/
def allClosed (s : State) : Bool :=
  decide (s.mgt.captured < 2048) || captureMode s == 2 || inReset s 0x60F02 || decide (3 ≤ s.thm.stop)

/-- The words of the frame of bank `b` for tick `n` (R257). -/
def frameWords (s : State) (b n : Nat) : List Nat :=
  let vs := rfld s (Reg.VDT_VB_CFG + 4 * b) 15 8
  let closed := allClosed s
  (n * tickLen s % 2 ^ 32) :: (List.range ((vs + 15) / 16)).map (fun w =>
    nsum ((List.range 16).map (fun j =>
      if closed || decide (vs ≤ 16 * w + j) then 0 else valveState s b (16 * w + j) n * 4 ^ j)))

end Sys2Proof.Machine
end

