-- ==== Sys2Proof/Machine/Checkpoint.lean ====
section
/-! DEFINITION. Program selection, the evaluation queue, the prediction of a gust object's flight, and checkpoints
(07_verdict_engine.md R228, R230; 08_gust_verdicts_ejection.md R246-R252, R262). -/

namespace Sys2Proof.Machine

/-- Slot of the root of the object in slot `k` (R208). -/
def rootOf (s : State) (k : Nat) : Nat :=
  match objOf s k with
  | some o => if o.st = 6 then o.root else k
  | none => k

/-- ⌊centroid column⌋ of registered features (R230). -/
def cenCol (f : Feat) : Int := if f.area = 0 then cenC f else f.sumC / f.area

/-- Candidate program of an object (R250): the one fixed, else by the middle of its live columns. -/
def candidate (s : State) (o : Obj) : Nat :=
  match o.prog with
  | some n => n
  | none => programAt s ((o.live.cMin + o.live.cMax) / 2)

/-! ### The evaluation queue (R228) -/

/-- Queue an evaluation; none when the queue is full (R228). -/
def pushEval (e : QEnt) (s : State) : Option State :=
  if 1024 ≤ s.vdt.queue.length then none
  else some (rmax (vdtMod (fun v => { v with queue := v.queue ++ [e] }) s) Reg.VDT_QUEUE 26 16 (s.vdt.queue.length + 1))

/-- Entry `a` goes before entry `b`, which was queued earlier: earlier commit time, or a confirmed evaluation before a
gust evaluation of the same commit time (R228). -/
def evalBefore (a b : QEnt) : Bool :=
  match a.commit, b.commit with
  | some x, some y => decide (x < y) || (x == y && a.cp == 0 && b.cp != 0)
  | some _, none => true
  | none, some _ => false
  | none, none => a.cp == 0 && b.cp != 0

/-- The evaluation that a core takes next (R228). -/
def nextEval (s : State) : Option QEnt :=
  s.vdt.queue.foldl (fun m e => match m with
    | none => some e
    | some b => if evalBefore e b then some e else some b) none

/-! ### Prediction (R262) -/

/-- VR of a prediction. -/
def predictVR (s : State) : Nat :=
  if rbit s Reg.VDT_GUST_CFG 30 then rfld s Reg.VDT_VR_MEAN 15 0 else rfld s Reg.VDT_GUST_VR 15 0

/-- e_TRL′ in 1/16 line, relative to B_first (R262). -/
def predictCross (s : State) (o : Obj) (vr : Nat) : Nat := o.eLead + 16 * 160000 * 16384 / (aspect s * vr)

/-- Period of the latest line, 0 before there are two (R262). -/
def latestPeriod (s : State) : Nat :=
  match s.tbs.hist with
  | a :: b :: _ => a.tl - b.tl
  | _ => 0

/-- T_CROSS′ (R262). -/
def predictT (s : State) (o : Obj) (vr : Nat) : Nat :=
  let e := predictCross s o vr
  match timeAt s ((o.bFirst + e / 16) % 2 ^ 32) (e % 16), s.tbs.hist with
  | some t, _ => t
  | none, h :: _ => ((h.tl : Int) + (16 * diffMod 32 o.bFirst h.l + e) * latestPeriod s / 16).toNat
  | none, [] => s.t

/-- A prediction (R262): T_CROSS′, VR, v′ and the predicted windows. -/
structure Predicted where
  tc : Nat
  vr : Nat
  v : Nat
  wins : List (Nat × Int × Int × List Nat)
  deriving DecidableEq, Repr

/-- The prediction of an object's flight (R262). -/
def predict (s : State) (o : Obj) : Predicted :=
  let vr := predictVR s
  let tc := predictT s o vr
  let v := speed s (latestPeriod s) vr
  ⟨tc, vr, v, (windows s tc (liveLines o) vr v (valveSet s o.live.cMin o.live.cMax)).1⟩

/-! ### Checkpoints (R246-R250) -/

/-- Checkpoint `i` of program `n` (R246). -/
def cpEntry (s : State) (n i : Nat) : Nat := pm32 s (0x2BC000 + 16 * n + 4 * (i - 1))

/-- The union of BANDS over the enabled checkpoints of the loaded programs (R247). -/
def listedBands (s : State) : Nat :=
  ((List.range 16).filter (fun n => rbit s Reg.VDT_PROG_CFG n)).foldl (fun m n =>
    (List.range 4).foldl (fun m i =>
      let e := cpEntry s n (i + 1)
      if bit e 31 then m ||| bits e 7 0 else m) m) 0

/-- The loader records the listed bands (R247, R274). -/
def loadListedBands (s : State) : State := rfset s Reg.VDT_GUST_CFG 23 16 (listedBands s)

/-- g_k of R247. -/
def gapK (s : State) (k : Nat) : Nat := (roundDiv (20000 * k) (aspect s)).toNat

/-- The first index of band `k` that sector `n` has not finished (R249); none before its first line. -/
def firstOpen (s : State) (n k : Nat) : Option Nat :=
  let u := secOf s n
  match u.nextB with
  | none => none
  | some nb =>
    match u.wq.find? (fun g => g.k == k) with
    | some g => some g.b
    | none => some (nb.getD k 0)

/-- n_k of an object (R249). -/
def nOf (s : State) (o : Obj) (k : Nat) : Nat :=
  let ns := (List.range 12).map (fun n =>
    match firstOpen s n k with
    | none => 0
    | some b => (diffMod 32 b ((o.bFirst + gapK s k) % 2 ^ 32)).toNat)
  ns.foldl min (ns.headD 0)

/-- Gust evaluation is enabled (R252). -/
def gustOn (s : State) : Bool := rbit s Reg.VDT_GUST_CFG 31

/-- Gust evaluation is shed by the energy planner (R34, R252). -/
def gustShed (s : State) : Bool := rbit s Reg.MGT_SHED_STATUS 11

/-- Every listed band of a checkpoint has reached it (R249). -/
def cpReached (s : State) (o : Obj) (e : Nat) : Bool :=
  (List.range 8).all (fun k =>
    !(bit e k) || decide (bits e 23 16 ≤ nOf s o k) || (o.st == 2 && decide (liveLines o ≤ nOf s o k)))

/-- Skip the remaining checkpoints of the object in slot `k` and count them (R249). -/
def skipCps (k : Nat) (s : State) : State :=
  match objOf s k with
  | none => s
  | some o =>
    let n := candidate s o
    let left := ((List.range 4).filter (fun i => decide (o.cpNext ≤ i + 1) && bit (cpEntry s n (i + 1)) 31)).length
    let s1 := modObj k (fun o => { o with cpNext := 5 }) s
    if gustOn s && left != 0 then rsat s1 (Reg.VDT_GUST_COUNT + 28) 31 0 left else s1

/-- The views of an object at a checkpoint (R251), those that are not 0. -/
def cpViews (s : State) (o : Obj) (cp vr : Nat) : Map Nat :=
  (List.range 0x85).filterMap (fun i =>
    let v := viewOf s o cp vr (rfld s Reg.VDT_GUST_CFG 23 16) i
    if viewListed i && v != 0 then some (i, v) else none)

/-- CHECKPOINT_FIRE (R249, R250, R252): checkpoint `cp` of the object in slot `k` fires under program `n`. A queue that is full
or in reset loses the evaluation, and with it every later checkpoint of the object: none is considered until this one has given
a verdict that does not fire. Log entry 267. -/
def cpFire (k cp n : Nat) (o : Obj) (s : State) : State :=
  let o1 := { o with prog := some n, cpNext := cp + 1, cpBusy := true }
  let p := predict s o1
  let e : QEnt := ⟨k, o.id, cp, (earliest (p.wins.map (·.2.1))).map (commitOf s), cpViews s o1 cp p.vr⟩
  match (if inReset s 0x60C02 then none else pushEval e s) with
  | some s1 => setObj k o1 s1
  | none => rsat (setObj k o1 s) (Reg.VDT_GUST_COUNT + 24) 31 0 1

/-- Look whether the next checkpoint of the object in slot `k` has been reached (R249). One reached while gust evaluation is
shed does not fire and counts as not run (R252, R271); one reached while checkpoint control is in reset is skipped (R523). Log
entry 165. Log entry 165. -/
def cpPoll (k : Nat) (s : State) : State :=
  match objOf s k with
  | none => s
  | some o =>
    let n := candidate s o
    let e := cpEntry s n o.cpNext
    if gustOn s && (o.st == 1 || o.st == 2) && o.gustRec.isNone && !o.cpBusy && decide (o.cpNext ≤ 4) && bit e 31 &&
        cpReached s o e then
      if inReset s 0x60F00 then
        rsat (setObj k { o with cpNext := o.cpNext + 1, cpBusy := true } s) (Reg.VDT_GUST_COUNT + 28) 31 0 1
      else if gustShed s then
        rsat (setObj k { o with cpNext := o.cpNext + 1, cpBusy := true } s) (Reg.VDT_GUST_COUNT + 24) 31 0 1
      else cpFire k o.cpNext n o s
    else s

/-- Look at the checkpoints of every object. -/
def cpPollAll (s : State) : State :=
  if gustOn s then (s.vdt.objs.map (·.1)).foldl (fun s k => cpPoll k s) s else s

end Sys2Proof.Machine
end

