-- ==== Sys2Proof/Machine/Objects.lean ====
section
/-! DEFINITION. Live segmentation and the object table (07_verdict_engine.md R201-R214, R218). -/

namespace Sys2Proof.Machine

/-! ### Segmentation (R201, R202) -/

/-- REF for LEAD (`i` = 0) or TRL (`i` = 1) (R201, R218). -/
def segRef (s : State) (i : Nat) : Int :=
  if rbit s Reg.VDT_SEG_CFG 24 then (rfld s (Reg.VDT_SEG_REF + 4 * i) 19 0 : Nat)
  else (rfld s (Reg.PIP_BG_CFG + 32 * i) 19 0 : Nat)
/-- The foreground test of R201 with VDT_SEG_TH[i]. -/
def foreground (s : State) (i x : Nat) : Bool :=
  let dark := rfld s (Reg.VDT_SEG_TH + 4 * i) 31 16
  let bright := rfld s (Reg.VDT_SEG_TH + 4 * i) 15 0
  (dark != 0 && decide ((x : Int) < segRef s i - 16 * dark)) ||
  (bright != 0 && decide (segRef s i + 16 * bright < (x : Int)))

/-- LEAD_SEGMENT_RECEIVED (R201): segmentation unit `n` takes the oldest LEAD segment of its sector and finds its runs. A
unit in reset delivers its sector as missing (R523). -/
def leadSegment (n : Nat) (s : State) : State :=
  let u := secOf s n
  match u.lead with
  | [] => s
  | g :: rest =>
    if 12 ≤ n ∨ !(works s) then s
    else
      let off := inReset s (0x60000 + 0x100 * n) || inReset s (0x60001 + 0x100 * n)
      let kind := if off && g.kind = 0 then 1 else g.kind
      let w := (lineSet s g.b s.ary.epoch).gwin
      let runs := if kind = 0 then
          runsOf ((g.samples.filter (fun p => inWin w p.1 && foreground s 0 p.2)).map (·.1))
        else []
      secPump n (vdtMod (fun v => { v with lead := v.lead ++ [⟨n, g.b, runs, g.samples, kind⟩] })
        (setSec n { u with lead := rest } s))

/-- Runs joined across sector boundaries, those of MIN_RUN columns or more (R202). -/
def joinRuns (minRun : Nat) (rs : List (Nat × Nat)) : List (Nat × Nat) :=
  (rs.foldr (fun r acc => match acc with
    | (a, b) :: rest => if a = r.2 + 1 then (r.1, b) :: rest else r :: (a, b) :: rest
    | [] => [r]) []).filter (fun r => decide (minRun ≤ r.2 - r.1 + 1))
/-- The mask of the sectors that columns `lo` to `hi` touch. -/
def touched (lo hi : Nat) : Nat :=
  nsum ((List.range 12).map (fun n => if 1536 * n ≤ hi ∧ lo < 1536 * (n + 1) then 2 ^ n else 0))
/-- The runs of a line with the mark of those beyond the 192nd of a sector (R202), and the runs counted per sector. -/
def markRuns (rs : List (Nat × Nat)) : List (Nat × Nat × Bool) × List Nat :=
  rs.foldl (fun (a : List (Nat × Nat × Bool) × List Nat) r =>
    let m := touched r.1 r.2
    let cnt := (List.range 12).map (fun n => a.2.getD n 0 + b2n (bit m n))
    (a.1 ++ [(r.1, r.2, (List.range 12).any (fun n => bit m n && decide (192 < cnt.getD n 0)))], cnt))
    ([], List.replicate 12 0)

/-! ### Slots (R206-R210) -/

/-- The lowest free slot (R207). -/
def freeSlot (s : State) : Option Nat := (List.range 4096).find? (fun k => (objOf s k).isNone)

/-- Slots that are not FREE (R245): an adopted record has no slot. -/
def slotsOpen (s : State) : Nat := (s.vdt.objs.filter (fun p => decide (p.1 < 4096))).length

/-- Open a new object at line `b` (R207); `head` names the split head whose tail it is. None when no slot is free. -/
def openObj (b : Nat) (head : Option Nat) (s : State) : Option Nat × State :=
  match freeSlot s with
  | none => (none, s)
  | some k =>
    let lf := (b + dLabel s) % 2 ^ 32
    let o : Obj := { Obj.reset with
      id := s.vdt.nextId, st := 1, root := k, bFirst := b, bLast := b, lFirst := lf, lLast := lf
      flags := if head.isSome then 2 else 0, lflags := if head.isSome then 2 else 0, peer := head.map (fun h => (h, site s, 0)) }
    let s1 := vdtMod (fun v => { v with objs := mput v.objs k o, nextId := (v.nextId + 1) % 2 ^ 32 }) s
    (some k, rmax s1 Reg.VDT_OBJ_STATUS 12 0 (slotsOpen s1))

/-- A run that finds no free slot (R207). -/
def overflowRun (b lo : Nat) (s : State) : State :=
  raise 0x600 0x60C00 [] 2 (coSector (lo / 1536) 0 b) (rsat s Reg.VDT_DROP_COUNT 31 16 1)

/-- The object of slot `k` is united into the root in slot `r` (R208, R249, R259). -/
def absorb (r k : Nat) (s : State) : State :=
  match objOf s r, objOf s k with
  | some a, some o =>
    let s1 := skipCps k (cancelGust k 1 0 s)
    let s2 := releaseResv o.id (site s) (fun x => !x.opn && x.src == 0) s1
    let dl := diffMod 32 o.lFirst a.lFirst
    let join := fun (x y : Option (Nat × Nat)) => match x, y with
      | some p, some q => some ((if laterL p.1 q.1 then q.1 else p.1), (if laterL q.2 p.2 then q.2 else p.2))
      | some p, none => some p
      | none, q => q
    let a1 : Obj := { a with
      live := addLive a.live o.live, reg := addFeat a.reg o.reg dl, gust := addFeat a.gust o.gust dl
      flags := a.flags ||| o.flags, lflags := a.lflags ||| o.lflags
      peer := match a.peer with
        | some p => some p
        | none => if bit o.flags 1 then o.peer else none
      secs := a.secs ||| o.secs
      bLast := if laterL o.bLast a.bLast then o.bLast else a.bLast
      lLast := if laterL o.lLast a.lLast then o.lLast else a.lLast
      edgeLo := join a.edgeLo o.edgeLo, edgeHi := join a.edgeHi o.edgeHi
      seen := a.seen ++ o.seen.filter (fun x => !(a.seen.contains x)) }
    let o1 := match objOf s2 k with | some x => x | none => o
    vdtMod (fun v => { v with objs := (v.objs.map (fun p =>
      if p.1 = r then (p.1, a1)
      else if p.1 = k then (p.1, { o1 with st := 6, root := r })
      else if p.2.st = 6 ∧ p.2.root = k then (p.1, { p.2 with root := r }) else p)) }) s2
  | _, _ => s

/-- Live close of the object in slot `k` (R211, R213): TRAILING, or DISCARDED below MIN_AREA. -/
def closeLive (k : Nat) (s : State) : State :=
  match objOf s k with
  | none => s
  | some o =>
    if o.live.area < rfld s Reg.VDT_SEG_CFG 23 0 then
      let s1 := skipCps k (cancelGust k 2 0 s)
      let s2 := releaseResv o.id (site s) (fun x => !x.opn && x.src == 0) s1
      raise 0x603 0x60C00 [] 3 (coObj o.id (site s))
        (rsat (modObj k (fun o => { o with st := 7 }) s2) Reg.VDT_DROP_COUNT 15 0 1)
    else modObj k (fun o => { o with st := 2 }) s

/-- Split at 1,024 lines (R212): the object closes live as a head. -/
def splitHead (k : Nat) (s : State) : State :=
  match objOf s k with
  | none => s
  | some o => closeLive k (raise 0x602 0x60C00 [] 3 (coObj o.id (site s)) (modObj k (setLive 0) s))

/-! ### One LEAD band line (R203, R204, R207, R208, R212, R218) -/

/-- The LIN20 value of column `c` on a line. -/
def leadAt (segs : List LeadIn) (c : Nat) : Nat :=
  match segs.find? (fun g => g.sec == c / 1536) with
  | some g => mgetD g.samples c 0
  | none => 0

/-- A run adds its columns to the live copy of the object in slot `k` (R215). Log entry 361. -/
def liveRun (b : Nat) (segs : List LeadIn) (lo hi k : Nat) (s : State) : State :=
  let xs := (List.range (hi + 1 - lo)).map (fun i => scaled s (leadAt segs (lo + i)))
  let w := (lineSet s b s.ary.epoch).gwin
  let l := (b + dLabel s) % 2 ^ 32
  let low := lo == 8 * w.1
  let high := hi + 1 == 8 * (w.1 + w.2)
  modObj k (fun o =>
    liveIf low 7 (liveIf high 8 { o with
      live := addLive o.live ⟨hi + 1 - lo, lo, hi, isum xs, hi + 1 - lo⟩
      edgeLo := if low then edgeRange l o.edgeLo else o.edgeLo, edgeHi := if high then edgeRange l o.edgeHi else o.edgeHi
      bLast := b, lLast := l, secs := o.secs ||| touched lo hi })) s

/-- What the object table holds while it works through a line: the state, the runs done, and the tails opened for split
heads. -/
structure LineWork where
  s : State
  runs : List PrevRun
  tails : List (Nat × Nat)
  deriving DecidableEq, Repr

/-- What a run is connected to: the roots of open objects and of the tails of split heads, the heads that have no tail, and
whether an untracked run is among the runs connected (R207, R212). -/
structure RunConn where
  roots : List Nat
  heads : List Nat
  untracked : Bool
  work : LineWork
  deriving DecidableEq, Repr

/-- The objects that a run of line `b` is connected to, opening the tail of a split head, unless `shut` says that no object
opens (R207, R212). -/
def connectRun (b : Nat) (shut : Bool) (conn : List PrevRun) (w : LineWork) : RunConn :=
  conn.foldl (fun (a : RunConn) p =>
    match p.slot with
    | none => { a with untracked := true }
    | some k0 =>
      let w := a.work
      let k := rootOf w.s k0
      let add := fun (r : Nat) (w : LineWork) =>
        { a with roots := if a.roots.contains r then a.roots else a.roots ++ [r], work := w }
      match objOf w.s k with
      | none => a
      | some o =>
        if o.st = 1 then add k w
        else
          match w.tails.find? (fun t => t.1 == k) with
          | some t => add (rootOf w.s t.2) w
          | none =>
            match (if shut then (none, w.s) else openObj b (some o.id) w.s) with
            | (some t, s1) => add t { w with s := s1, tails := (k, t) :: w.tails }
            | (none, _) => { a with heads := k :: a.heads }) ⟨[], [], false, w⟩

/-- Every tracked object of these slots touches an untracked run (R207). -/
def markIncomplete (ks : List Nat) (s : State) : State := ks.foldl (fun s k => modObj (rootOf s k) (setLive 15) s) s

/-- One run of line `b` (R203, R207, R208): `shut` says that no object opens. A run beyond the 192nd of a sector is untracked
as a whole; so is one that asks for an object when no slot is free, and one that touches untracked runs only. -/
def takeRun (b : Nat) (shut bridged : Bool) (segs : List LeadIn) (w : LineWork) (r : Nat × Nat × Bool) : LineWork :=
  let lo := r.1
  let hi := r.2.1
  let conn := w.s.vdt.prev.filter (fun p => decide (lo ≤ p.hi + 1) && decide (p.lo ≤ hi + 1))
  let untracked := fun (s : State) (w : LineWork) => { w with s := s, runs := w.runs ++ [⟨lo, hi, none⟩] }
  let track := fun (k : Nat) (w : LineWork) =>
    let inv := touched lo hi &&& w.s.vdt.prevMiss != 0
    { w with s := liveRun b segs lo hi k (modObj k (liveIf inv 4) w.s), runs := w.runs ++ [⟨lo, hi, some k⟩] }
  if r.2.2 then untracked (markIncomplete (conn.filterMap (·.slot)) w.s) w
  else
    let c := connectRun b shut conn w
    let w1 := c.work
    match c.roots with
    | k0 :: ks =>
      let first := fun (a b : Nat) => match objOf w1.s a, objOf w1.s b with
        | some x, some y =>
          if laterL x.bFirst y.bFirst then b else if laterL y.bFirst x.bFirst then a else min a b
        | _, _ => a
      let root := ks.foldl first k0
      let s1 := c.roots.foldl (fun s k => if k = root then s else absorb root k s) w1.s
      let old := match objOf s1 root with | some o => o.bFirst != b | none => false
      track root { w1 with s := modObj root (fun o => liveIf c.untracked 15 (liveIf (bridged && old) 2 o)) s1 }
    | [] =>
      let s1 := markIncomplete c.heads w1.s
      if shut || (c.untracked && c.heads.isEmpty) then untracked s1 w1
      else
        match (if c.heads.isEmpty then openObj b none s1 else (none, s1)) with
        | (some k, s2) => track k { w1 with s := s2 }
        | (none, s2) => untracked (overflowRun b lo s2) w1

/-- c* of an object on its first line and δ there (R218). -/
def refColumn (s : State) (segs : List LeadIn) (k : Nat) : Nat × Nat :=
  (s.vdt.prev.filter (fun p => p.slot == some k)).foldl (fun (m : Nat × Nat) p =>
    (List.range (p.hi + 1 - p.lo)).foldl (fun (m : Nat × Nat) i =>
      let d := ((leadAt segs (p.lo + i) : Int) - segRef s 0).natAbs
      if m.2 < d ∨ m.1 = 18432 then (p.lo + i, d) else m) m) (18432, 0)

/-- The sixteenths of min(1, a/b), rounded up; 16 when b is 0 (R218). -/
def ratio16 (a b : Nat) : Nat := if b = 0 then 16 else min 16 ((16 * a + b - 1) / b)

/-- After the runs of line `b`: reference columns, LEAD crossings, live closes and splits (R211, R212, R218). `miss` is the
mask of the missing sectors. -/
def finishLine (b miss : Nat) (segs : List LeadIn) (s : State) : State :=
  (s.vdt.objs.filter (fun p => p.2.st == 1)).foldl (fun s p =>
    let k := p.1
    let o := p.2
    if o.bLast ≠ b then closeLive k s
    else
      let s1 :=
        if o.bFirst = b then
          let m := refColumn s segs k
          modObj k (fun o => { o with cStar := m.1, d0 := m.2 }) s
        else if (o.bFirst + 1) % 2 ^ 32 = b ∧ !(bit miss (o.cStar / 1536)) then
          let d1 := ((leadAt segs o.cStar : Int) - segRef s 0).natAbs
          modObj k (fun o => { o with eLead := 16 - ratio16 o.d0 d1 }) s
        else s
      if diffMod 32 b o.bFirst ≥ 1023 then splitHead k s1 else s1) s

/-- Write a label line into the label history (R206). With the band store control in reset its traffic stalls: the line waits
(R523). -/
def writeLabels (b : Nat) (runs : List PrevRun) (s : State) : State :=
  let ep := ((tagOf s b).map (·.epoch)).getD s.ary.epoch
  let cells := runs.flatMap (fun r =>
    (List.range (r.hi + 1 - r.lo)).map (fun i => (r.lo + i, match r.slot with | some k => k + 1 | none => 0xFFFF)))
  if inReset s 0x40C00 then pipMod (fun p => { p with labWait := p.labWait ++ [(b, ep, cells)] }) s
  else storeLabels s (b, ep, cells)

/-- A line that no sector has written (R204). -/
def missingLine (b : Nat) (s : State) : State :=
  let n := s.vdt.missing + 1
  let s1 := writeLabels b [] (vdtMod (fun v => { v with missing := n }) s)
  let open' := (s.vdt.objs.filter (fun p => p.2.st == 1)).map (·.1)
  if rfld s Reg.VDT_SEG_CFG 27 26 < n then
    vdtMod (fun v => { v with prev := [], prevMiss := 0 })
      (open'.foldl (fun s k => closeLive k (modObj k (setLive 2) s)) s1)
  else
    open'.foldl (fun s k => match objOf s k with
      | some o => if diffMod 32 b o.bFirst ≥ 1023 then splitHead k s else s
      | none => s) s1

/-- A line that is written in some sector (R203, R204): runs, joins, unions and closes. -/
def tableLine (b : Nat) (segs : List LeadIn) (s : State) : State :=
  let miss := nsum (segs.map (fun g => if g.kind = 0 then 0 else 2 ^ g.sec))
  let s0 := segs.foldl (fun s g =>
    if g.kind = 0 then s else raise 0x610 (0x60000 + 0x100 * g.sec) [] 2 (coSector g.sec 0 b) s) s
  let s1 := s0.vdt.prev.foldl (fun s p => match p.slot with
    | some k => if touched p.lo p.hi &&& miss != 0 then modObj (rootOf s k) (setLive 4) s else s
    | none => s) s0
  let rc := markRuns (joinRuns (rfld s Reg.VDT_SEG_CFG 31 28) (segs.flatMap (·.runs)))
  let s2 := (List.range 12).foldl (fun s n =>
    let c := rc.2.getD n 0
    let s1 := rmax s (Reg.VDT_SEG_STATUS + 4 * n) 31 24 c
    if c ≤ 192 then s1
    else raise 0x601 (0x60000 + 0x100 * n) [] 2 (coSector n 0 b)
      (rsat s1 (Reg.VDT_SEG_STATUS + 4 * n) 15 0 (c - 192))) s1
  let shut := decide (s.mgt.captured < 2048) || inReset s 0x60C00 || decide (2 ≤ s.thm.stop)
  let w := rc.1.foldl (takeRun b shut (decide (0 < s.vdt.missing)) segs) ⟨s2, [], []⟩
  let runs := w.runs.map (fun p => { p with slot := p.slot.map (rootOf w.s) })
  let s3 := vdtMod (fun v => { v with prev := runs, prevB := some b, prevMiss := miss, missing := 0 }) w.s
  writeLabels b runs (finishLine b miss segs s3)

/-- The next LEAD band line of which every sector has delivered its segment: its index and segments in sector order. -/
def leadLine (s : State) : Option (Nat × List LeadIn) :=
  match s.vdt.lead with
  | [] => none
  | g :: _ =>
    let segs := (List.range 12).filterMap (fun n => s.vdt.lead.find? (fun x => x.sec == n && x.b == g.b))
    if segs.length = 12 then some (g.b, segs) else none

end Sys2Proof.Machine
end

