-- ==== Sys2Proof/Machine/Verdict.lean ====
section
/-! DEFINITION. Registered accumulation, velocity ratio, registered close, verdicts, stitching and partner merge
(07_verdict_engine.md R209, R211, R215-R219, R228-R231, R234-R240). -/

namespace Sys2Proof.Machine

/-! ### Labels (R209) -/

/-- The object that a label of registered line `l` belongs to (R209). A label of an object that began later is
background. -/
def resolve (s : State) (l lab : Nat) : Option Nat :=
  if lab = 0 ∨ 0x1000 < lab then none
  else
    let k := rootOf s (lab - 1)
    match objOf s k with
    | some o => if (o.st == 1 || o.st == 2) && !(laterL o.lFirst l) then some k else none
    | none => none

/-- The object of column `c` on a registered line. -/
def ownerAt (s : State) (l : Nat) (labels : Map Nat) (c : Nat) : Option Nat := resolve s l (mgetD labels c 0)

/-! ### Accumulation (R215-R217) -/

/-- Edges of an object's pixels `cols` on line `l` against other pixels, in 1/16,000 column width: columns beside them on
the line, and the line before (R215). -/
def edgesOf (s : State) (l : Nat) (labels prev : Map Nat) (k : Nat) (cols : List Nat) : Nat :=
  nsum (cols.map (fun c =>
    let side := fun (out : Bool) => if out then 16 * aspect s else 0
    side (c == 0 || ownerAt s l labels (c - 1) != some k) + side (ownerAt s l labels (c + 1) != some k) +
    (if ownerAt s l prev c = some k then 0 else 16000)))

/-- Columns of the previous line of a sector that belong to an object and have no pixel of it below (R215). -/
def bottoms (s : State) (l : Nat) (labels prev : Map Nat) (k : Nat) : Nat :=
  (prev.filter (fun p => resolve s l p.2 == some k && ownerAt s l labels p.1 != some k)).length

/-- The object in slot `k` takes its pixels `cols` in sector `n` from registered line `r` (R215-R217). -/
def accumulate (n k : Nat) (cols : List Nat) (r : RegLine) (s : State) : State :=
  match objOf s k with
  | none => s
  | some o =>
    let c := r.set
    let f0 := addPixels cols (diffMod 32 r.l o.lFirst) o.reg
    let f1 := (List.range 11).foldl (fun f b =>
      let xs := (cols.filter (present r b)).map (fun x => scaled s (lin20 (regCode r b x)))
      addBand b xs (!(o.seen.contains (32 * r.l + b))) f) f0
    let f2 := (List.range 3).foldl (fun f j =>
      addMinMax j ((cols.filter (present r (mmBand s j))).map (fun x => lin20 (regCode r (mmBand s j) x))) f) f1
    let f3 := { f2 with
      al := (List.range 11).map (fun b =>
        fitU 11 (f2.al.getD b 0 + (if bit r.absent b && !(o.seen.contains (32 * r.l + 16 + b)) then 1 else 0)))
      p4 := f2.p4 + edgesOf s r.l r.labels s.vdt.prevLab k cols }
    let f4 := if rbit s Reg.VDT_CLS_CFG 31 then
        { f3 with cls := (List.range 16).map (fun i =>
          satN 20 (f3.cls.getD i 0 + (cols.filter (fun x => mgetD r.cls x 0 == i)).length)) }
      else f3
    let marks := ((List.range 11).filter (fun b => cols.any (present r b))).map (fun b => 32 * r.l + b) ++
      ((List.range 11).filter (fun b => bit r.absent b)).map (fun b => 32 * r.l + 16 + b)
    let first := 8 * c.gwin.1
    let last := 8 * (c.gwin.1 + c.gwin.2)
    let lo := cols.contains first
    let hi := cols.any (fun x => x + 1 == last)
    setObj k
      (flagIf r.gap 2 (flagIf ((List.range 9).any (fun b => bit (r.short.getD b 0) n)) 3 (flagIf (bit r.invalid n) 4
        (flagIf ((List.range 9).any (fun b => (r.ownSet b).captured b && cols.any (fun x => !(inWin ((r.ownSet b).win b) x)))) 5
          (flagIf (r.absent != 0) 6 (flagIf lo 7 (flagIf hi 8 { o with
            reg := f4, seen := o.seen ++ marks.filter (fun m => !(o.seen.contains m))
            edgeLo := if lo then edgeRange r.l o.edgeLo else o.edgeLo
            edgeHi := if hi then edgeRange r.l o.edgeHi else o.edgeHi }))))))) s

/-! ### The TRL watch (R218) -/

/-- The watch of the object in slot `k` sees registered line `r` (R218): a line of the watch, from L_FIRST − W to L_FIRST + W,
on which column c* of TRL is not present ends it without a ratio, before and after the first foreground line. Log entry 156. -/
def watchLine (k : Nat) (r : RegLine) (s : State) : State :=
  match objOf s k with
  | none => s
  | some o =>
    let w : Int := rfld s Reg.VDT_VEL_WIN 5 0
    let d := diffMod 32 r.l o.lFirst
    let here := present r 8 o.cStar
    let x := lin20 (regCode r 8 o.cStar)
    let dx := ((x : Int) - segRef s 1).natAbs
    let inside := decide (-w ≤ d) && decide (d ≤ w)
    if o.watchBad then s
    else if inside && (inReset s 0x60C01 || !here) then setObj k { o with watchBad := true } s
    else
      match o.hit with
      | some (l, d0) =>
        if r.l = (l + 1) % 2 ^ 32 ∧ o.eTrl.isNone then
          let m := if !here then 16 else ratio16 d0 dx
          setObj k { o with eTrl := some (16 * diffMod 32 l o.lFirst + 16 - m) } s
        else s
      | none => if inside && foreground s 1 x then setObj k { o with hit := some (r.l, dx) } s else s

/-- VRATIO, T_CROSS and VEL_MISS at registered close (R218, R219). A watch that has not seen the line after its hit takes
the term as 1. -/
def velocityOf (s : State) (o : Obj) : Option (Nat × Nat × Int) :=
  let e := match o.eTrl, o.hit with
    | some e, _ => some e
    | none, some (l, _) => some (16 * diffMod 32 l o.lFirst)
    | none, none => none
  match e with
  | none => none
  | some e =>
    let diff := 16 * diffMod 32 o.lFirst o.bFirst + e - o.eLead
    let v := (roundDiv (16384 * 160000 * 16) (aspect s * diff)).toNat
    if o.watchBad || decide (diff ≤ 0) || decide (v < rfld s Reg.VDT_VEL_CFG 15 0) ||
        decide (rfld s Reg.VDT_VEL_CFG 31 16 < v) || inReset s 0x60C01 then none
    else some (v, (timeAt s (((o.lFirst : Int) + e / 16) % 2 ^ 32).toNat (e % 16).toNat).getD s.t, e)

/-- Fix VRATIO and T_CROSS of the object in slot `k` (R218, R219), and move the running mean (R262). Log entry 346. -/
def fixVelocity (k : Nat) (s : State) : State :=
  match objOf s k with
  | none => s
  | some o =>
    match velocityOf s o with
    | some (v, t, e) =>
      let m := rfld s Reg.VDT_VR_MEAN 15 0
      let m1 := (m : Int) + ((v : Int) - m) / (2 ^ rfld s Reg.VDT_GUST_CFG 27 24 : Nat)
      rfset (setObj k { o with vratio := v, tCross := t, eTrl := some e } s) Reg.VDT_VR_MEAN 15 0 m1.toNat
    | none =>
      raise 0x605 0x60C01 [] 3 (coObj o.id (site s))
        (setObj k (setFlag 12 { o with vratio := 0x4000, tCross := (timeAt s o.lFirst 0).getD s.t, eTrl := none }) s)

/-! ### Partner merge (R238, R239) -/

/-- Links of the pair on which partner merge is enabled (R238, R240): none when both modules of the pair own the valves
(R245). -/
def partnerLinks (s : State) : List Nat :=
  if rbit s Reg.VDT_XW_CFG 29 && !(xwLane s 2).ownBad && !(xwLane s 3).ownBad then [2, 3].filter (fun n => !(xwLane s n).digestBad) else []
/-- This module is the valve owner of a pair that merges. -/
def partnerOwner (s : State) : Bool := !(partnerLinks s).isEmpty && rbit s Reg.VDT_XW_CFG 28

/-- Centroid of own features in 1/16 machine column (R235). -/
def machineCen (s : State) (f : Feat) : Int :=
  let m0 : Int := 16 * rfld s Reg.VDT_XW_MCOL0 16 0
  if rbit s Reg.VDT_XW_CFG 27 then m0 - cenC f else m0 + cenC f

/-- The distance of a partner record from an own object, if they match (R238). -/
def partnerDist (s : State) (o : Obj) (q : XwRec) : Option Nat :=
  let dc := (machineCen s o.reg - toSigned 21 (recFld q.words 3 93 73)).natAbs
  let dl := (16 * diffMod 32 o.lFirst (recFld q.words 0 79 48) + cenL o.reg -
    ((recFld q.words 1 53 39 : Nat) + toSigned 20 (rfld s Reg.VDT_XW_PDL 19 0))).natAbs
  let tc := rfld s Reg.VDT_XW_CFG 11 0
  let tl := rfld s Reg.VDT_XW_CFG 19 16
  if dc ≤ 16 * tc ∧ dl ≤ 16 * tl then some (dc * tl + dl * tc) else none

/-- The best of candidates with a distance, the first among equals. -/
def bestOf {α : Type} (l : List (Nat × α)) : Option α :=
  (l.foldl (fun (m : Option (Nat × α)) x => match m with
    | none => some x
    | some y => if x.1 < y.1 then some x else some y) none).map (·.2)

/-- The combined verdict, VSRC and reason (R238). A 15 that is the partner's alone has VSRC 6. -/
def combine (own : Nat × Nat × Nat) (pv : Nat) : Nat × Nat × Nat :=
  if 1 ≤ own.1 ∧ own.1 ≤ 14 then own
  else if 1 ≤ pv ∧ pv ≤ 14 then (pv, 6, 0)
  else if own.1 = 15 then own
  else if pv = 15 then (15, 6, 0)
  else own

/-- The object in slot `k` is combined with a partner record (R238). Log entry 359. -/
def partnerMatch (k : Nat) (q : XwRec) (s : State) : State :=
  match objOf s k with
  | none => s
  | some o =>
    let pv := recFld q.words 0 47 44
    let v := combine (o.verdict.getD (0, 0, 0)) pv
    let s1 := vdtMod (fun x => { x with parts := x.parts.erase q }) s
    confirm k v (rsat (setObj k (setFlag 10 { o with peer := some (q.obj, q.site, pv), verdict := some v }) s1)
      (Reg.VDT_XW_COUNT + 4) 31 0 1)

/-- An own object enters PARTNER_WAIT: a partner record held may match it (R238). -/
def partnerWait (k : Nat) (s : State) : State :=
  match objOf s k with
  | none => s
  | some o =>
    let s1 := setObj k { o with st := 5, waitT := s.t } s
    match bestOf (s.vdt.parts.filterMap (fun q => (partnerDist s o q).map (fun d => (d, q)))) with
    | some q => partnerMatch k q s1
    | none => s1

/-- A reset ends PARTNER_WAIT (R523): own verdict, XW_LATE, and no miss (R68). -/
def partnerAlone (k : Nat) (s : State) : State :=
  match objOf s k with
  | some o => confirm k (o.verdict.getD (0, 0, 0)) (modObj k (setFlag 11) s)
  | none => s

/-- The end of PARTNER_WAIT without a match: own verdict, XW_LATE, DL_XW (R238, R266). -/
def partnerLate (k : Nat) (s : State) : State :=
  match objOf s k with
  | none => s
  | some o =>
    let s1 := rsat (modObj k (setFlag 11) s) (Reg.VDT_XW_COUNT + 12) 31 0 1
    confirm k (o.verdict.getD (0, 0, 0))
      (dlMissUnless (linksInReset s (partnerLinks s)) 6 0x60E01 [o.id, site s] 3 (coObj o.id (site s)) s1)

/-- The own verdict of the object in slot `k` is emitted (R210, R231, R238). -/
def verdictEmitted (k : Nat) (v : Nat × Nat × Nat) (s : State) : State :=
  match objOf s k with
  | none => s
  | some o =>
    let o1 := { o with verdict := some v }
    let s1 := setObj k o1 s
    let ls := partnerLinks s
    if ls.isEmpty ∨ inReset s 0x60E01 then confirm k v s1
    else
      let s2 := ls.foldl (fun s n => xwSend n (.record 4 (site s) o.id (xwWords s 4 o1 v) (0, 0)) s) s1
      if partnerOwner s then partnerWait k s2 else confirm k v s2

/-- Queue the confirmed evaluation of the object in slot `k` (R228): with the queue full it gets verdict 15, VSRC 2. -/
def queueConfirmed (k : Nat) (s : State) : State :=
  match objOf s k with
  | none => s
  | some o =>
    let s1 := setObj k { o with st := 3 } s
    let e : QEnt := ⟨k, o.id, 0, (earliest (o.wins.map (·.2.1))).map (commitOf s), []⟩
    if inReset s 0x60C02 then s1
    else
      match pushEval e s1 with
      | some s2 => s2
      | none => verdictEmitted k (15, 2, 0) (raise 0x606 0x60C02 [] 3 (coObj o.id (site s)) s1)

/-! ### Stitching (R236, R237) -/

/-- An own fragment and a neighbour fragment match (R236). -/
def fragMatch (s : State) (o : Obj) (q : XwRec) : Bool :=
  match edgeOn s o q.link with
  | some (a, b) =>
    let tl : Int := rfld s Reg.VDT_XW_CFG 19 16
    stitchOn s q.link && decide (diffMod 32 q.contact.1 b ≤ 2 * tl) && decide (diffMod 32 a q.contact.2 ≤ 2 * tl)
  | none => false
/-- The slots of own fragments in STITCH_WAIT. -/
def waiting (s : State) : List (Nat × Obj) := s.vdt.objs.filter (fun p => p.2.st == 4)
/-- The own slots and neighbour fragments that match each other, beginning with own slots `ks` (R236). -/
def component (s : State) : Nat → List Nat → List Nat × List XwRec
  | 0, ks => (ks, [])
  | f + 1, ks =>
    let mine := (waiting s).filter (fun p => ks.contains p.1)
    let qs := s.vdt.frags.filter (fun q => mine.any (fun p => fragMatch s p.2 q))
    let more := ((waiting s).filter (fun p => ks.contains p.1 || qs.any (fragMatch s p.2))).map (·.1)
    if more.length = ks.length then (ks, qs) else component s f more

/-- The live copy that a record carries, in local columns of this module (R215, R235). -/
def recLive (s : State) (link : Nat) (ws : List (BitVec 128)) : LiveFeat :=
  let f := recFeat s link ws
  let cMin : Int := featFld ws 70 15
  let lo : Int := featFld ws 85 15
  let hi : Int := featFld ws 115 15
  let mcMin : Int := recFld ws 3 127 111
  let mcMax : Int := recFld ws 3 110 94
  let fwd := senderForward ws link
  let mc := fun (c : Int) => if fwd then mcMin + (c - cMin) else mcMax - (c - cMin)
  let a := localCol s (mc lo)
  let b := localCol s (mc hi)
  { area := featFld ws 24 24
    cMin := min a b
    cMax := max a b
    sum0 := toSigned 40 (featFld ws 2232 40)
    n0 := if f.area = 0 then 0 else featFld ws 2272 24 }

/-- A fragment as the merge sees it: features with first and last registered line, live copy, flags, program, VRATIO,
T_CROSS, lowest machine column. -/
structure Part where
  f : Feat
  lf : Nat
  ll : Nat
  live : LiveFeat
  flags : Nat
  prog : Option Nat
  vr : Nat
  tc : Nat
  mc : Int
  deriving DecidableEq, Repr

/-- The fragment of an own object. -/
def ownPart (s : State) (o : Obj) : Part :=
  ⟨o.reg, o.lFirst, o.lLast, o.live, o.flags, o.prog, o.vratio, o.tCross,
    min (machineCol s o.reg.cMin) (machineCol s o.reg.cMax)⟩
/-- The fragment of a neighbour's record. -/
def recPart (s : State) (q : XwRec) : Part :=
  let lf := recFld q.words 0 79 48
  ⟨recFeat s q.link q.words, lf, (lf + recFld q.words 0 20 11) % 2 ^ 32, recLive s q.link q.words, recFld q.words 0 36 21,
    some (recFld q.words 0 40 37), recFld q.words 1 38 23, (fullT s (recFld q.words 2 127 80)).toNat, (recFld q.words 3 127 111 : Nat)⟩
/-- The features of two fragments merged by the rules of R215. -/
def mergePart (a b : Part) : Part :=
  let first := if laterL a.lf b.lf then b else a
  let second := if laterL a.lf b.lf then a else b
  { a with
    f := addFeat first.f second.f (diffMod 32 second.lf first.lf)
    lf := first.lf
    ll := if laterL a.ll b.ll then a.ll else b.ll
    live := addLive a.live b.live
    flags := a.flags ||| b.flags }

/-- The fragment of larger AREA, or of lower machine columns when the areas are equal (R236). -/
def largerPart (a b : Part) : Part :=
  if b.f.area < a.f.area ∨ (a.f.area = b.f.area ∧ a.mc ≤ b.mc) then a else b

/-- All fragments of an object merged (R236): program, VRATIO, T_CROSS and VEL_MISS come from the largest of them. -/
def mergeParts (p : Part) (ps : List Part) : Part :=
  let lead := ps.foldl largerPart p
  let m := ps.foldl mergePart p
  { m with flags := setBits m.flags 12 12 (bits lead.flags 12 12), prog := lead.prog, vr := lead.vr, tc := lead.tc }

/-- ⌊e_TRL⌋ of an object whose crossing time came with a record: the line of the history in which T_CROSS lies, in 1/16
line after `lf`; none under VEL_MISS (R218, R260). -/
def crossLine (s : State) (p : Part) : Option Int :=
  if bit p.flags 12 then none
  else (s.tbs.hist.find? (fun h => decide (h.tl ≤ p.tc))).map (fun h => 16 * diffMod 32 h.l p.lf)

/-- Put a merged object's features into an own object (R236); its live lines are its registered lines less round(d_0). -/
def takePart (s : State) (p : Part) (q : XwRec) (o : Obj) : Obj :=
  setFlag 9 { o with
    reg := p.f, lFirst := p.lf, lLast := p.ll, live := p.live, flags := p.flags, prog := p.prog, vratio := p.vr
    tCross := p.tc, bFirst := (p.lf + 2 ^ 32 - dLabel s) % 2 ^ 32, bLast := (p.ll + 2 ^ 32 - dLabel s) % 2 ^ 32
    eTrl := crossLine s p, peer := some (q.obj, q.site, 0) }

/-- Of two own fragments the one that the merged object goes on in (R236). -/
def leadFragment (s : State) (a b : Nat × Obj) : Nat × Obj :=
  if (largerPart (ownPart s a.2) (ownPart s b.2)) = ownPart s a.2 then a else b

/-- The columns of this module that any of the fragments covers: a merged object fires its own valves alone (R233, R236). -/
def ownUnion (a b : Int × Int) : Int × Int := (min a.1 b.1, max a.2 b.2)

/-- Merge the fragments that match the own object in slot `k` (R236) into one object, which leaves STITCH_WAIT; the other own
fragments are absorbed into it (R208). Log entry 306. -/
def stitchMerge (k : Nat) (s : State) : State :=
  let c := component s 64 [k]
  let mine := (waiting s).filter (fun p => c.1.contains p.1)
  match mine, c.2 with
  | x0 :: xs, q0 :: _ =>
    let m := mergeParts (ownPart s x0.2) (xs.map (fun p => ownPart s p.2) ++ c.2.map (recPart s))
    let x := xs.foldl (leadFragment s) x0
    let q := (c.2.find? (fragMatch s x.2)).getD q0
    let own := mine.foldl (fun a p => ownUnion a p.2.own) x.2.own
    let s1 := (mine.filter (fun p => p.1 != x.1)).foldl (fun s p => absorb x.1 p.1 s)
      (vdtMod (fun v => { v with frags := v.frags.filter (fun f => !c.2.contains f) }) s)
    queueConfirmed x.1 (computeWindows x.1 (rsat
      (modObj x.1 (fun o => takePart s m q { o with own := own }) s1) Reg.VDT_XW_COUNT 31 0 1))
  | _, _ => s

/-- The own object in slot `k` leaves STITCH_WAIT once every fragment it waits for has come (R210, R236). -/
def stitchTry (k : Nat) (s : State) : State :=
  let c := component s 64 [k]
  let mine := (waiting s).filter (fun p => c.1.contains p.1)
  if mine.all (fun p => (stitchSides s p.2).all (fun n => c.2.any (fun q => q.link == n && fragMatch s p.2 q))) then
    stitchMerge k s
  else s

/-- A boundary object enters STITCH_WAIT and sends its fragment record (R236). -/
def stitchWait (k : Nat) (s : State) : State :=
  match objOf s k with
  | none => s
  | some o =>
    let s1 := (stitchSides s o).foldl (fun s n =>
      xwSend n (.record 3 (site s) o.id (xwWords s 3 o (0, 0, 0)) ((edgeOn s o n).getD (0, 0))) s)
      (setObj k { o with st := 4, waitT := s.t } s)
    stitchTry k s1

/-- WIN_N has passed for the object in slot `k` (R237): with no match it is evaluated alone, with XW_LATE. Log entry 357. -/
def stitchLate (k : Nat) (s : State) : State :=
  match objOf s k with
  | none => s
  | some o =>
    if (component s 64 [k]).2.isEmpty then
      queueConfirmed k (dlMissUnless (linksInReset s (stitchSides s o)) 6 0x60E00 [o.id, site s] 3 (coObj o.id (site s))
        (rsat (modObj k (setFlag 11) s) (Reg.VDT_XW_COUNT + 12) 31 0 1))
    else stitchMerge k s

/-! ### Registered close (R211) -/

/-- The columns that an object uses for its valves (R233). -/
def ownCols (f : Feat) : Int × Int := if f.area = 0 then (65536, -65536) else (f.cMin, f.cMax)

/-- Pixels of the last line of an object have edges below (R215): those of the sectors that stand at that line. -/
def closingEdges (s : State) (k : Nat) (o : Obj) : Nat :=
  nsum ((List.range 12).map (fun n =>
    if mgetD s.vdt.accDone n 0 = o.lLast + 1 then
      (s.vdt.prevLab.filter (fun p => p.1 / 1536 == n && resolve s o.lLast p.2 == some k)).length
    else 0))

/-- Registered close of the object in slot `k` (R211). -/
def closeRegistered (k : Nat) (s : State) : State :=
  match objOf s k with
  | none => s
  | some o =>
    if o.st = 7 then freeObj k s
    else
      let reg := { o.reg with p4 := o.reg.p4 + 16000 * closingEdges s k o }
      let prog := match o.prog with | some n => n | none => programAt s (cenCol reg)
      let s1 := skipCps k s
      let s2 := modObj k (fun o => { o with
        reg := reg, closed := true, own := ownCols reg, prog := some prog, seen := [] }) s1
      let s3 := computeWindows k (fixVelocity k s2)
      match objOf s3 k with
      | some o3 => if (stitchSides s3 o3).isEmpty then queueConfirmed k s3 else stitchWait k s3
      | none => s3

/-- Sector `n` has processed registered line `l`; `accDone` holds the line after the one processed last, 0 for none. -/
def passed (s : State) (n l : Nat) : Bool :=
  match mgetD s.vdt.accDone n 0 with
  | 0 => false
  | m + 1 => !(laterL l m)

/-- Close registered every object whose last registered line has been processed in every sector it touched (R211). -/
def closeDue (s : State) : State :=
  (s.vdt.objs.filter (fun p => p.2.st == 2 || p.2.st == 7)).foldl (fun s p =>
    if (List.range 12).all (fun n => !(bit p.2.secs n) || passed s n p.2.lLast) then closeRegistered p.1 s else s) s

/-- The oldest registered line that sector `n` has not accumulated. -/
def nextAcc (s : State) (n : Nat) : Option RegLine := s.pip.lines.find? (fun r => r.accLeft.contains n)

/-- Group columns by the object they belong to. -/
def byObject (l : List (Nat × Nat)) : Map (List Nat) := l.foldl (fun m p => mmod m p.1 [] (fun cs => cs ++ [p.2])) []

/-- REGISTERED_SEGMENT_ACCUMULATE (R215): sector `n` accumulates its part of the oldest registered line it has not. -/
def accumulateSegment (n : Nat) (s : State) : State :=
  match nextAcc s n with
  | none => s
  | some r0 =>
    if 12 ≤ n ∨ !(works s) then s
    else
      let off := inReset s (0x60001 + 0x100 * n) || inReset s (0x60000 + 0x100 * n)
      let w := r0.set.gwin
      let cols := ((List.range 1536).map (fun j => 1536 * n + j)).filter (inWin w)
      let cls : Map Nat := if rbit s Reg.VDT_CLS_CFG 31 then
          cols.filterMap (fun c => let x := classOf s r0 none c; if x = 0 then none else some (c, x))
        else []
      let r := { r0 with cls := r0.cls ++ cls, accLeft := r0.accLeft.filter (fun x => x != n) }
      let mine := if off then [] else r.labels.filter (fun p => p.1 / 1536 == n)
      let groups := byObject (mine.filterMap (fun p => (resolve s r.l p.2).map (fun k => (k, p.1))))
      let prev := s.vdt.prevLab.filter (fun p => p.1 / 1536 == n)
      let s1 := (s.vdt.objs.filter (fun p => p.2.st == 1 || p.2.st == 2)).foldl (fun s1 p =>
        let below := bottoms s r.l r.labels prev p.1
        let s2 := if below = 0 then s1
          else modObj p.1 (fun o => { o with reg := { o.reg with p4 := o.reg.p4 + 16000 * below } }) s1
        if p.2.cStar / 1536 = n then watchLine p.1 r s2 else s2) s
      let s2 := groups.foldl (fun s1 g => accumulate n g.1 g.2 r s1) s1
      let s3 := vdtMod (fun v => { v with
        prevLab := v.prevLab.filter (fun p => p.1 / 1536 != n) ++ mine
        accDone := mput v.accDone n (r.l + 1) }) s2
      let done := r.accLeft.isEmpty
      let s4 := pipMod (fun p => { p with lines := p.lines.map (fun x =>
        if x.l = r.l then { r with emitted := x.emitted, trigT := if done && rbit s Reg.PIP_OUT_CFG 3 then s.t else x.trigT }
        else x) }) s3
      let s5 := closeDue s4
      if done then
        vdtMod (fun v => { v with objs := v.objs.map (fun p =>
          (p.1, { p.2 with seen := p.2.seen.filter (fun m => m / 32 != r.l) })) })
          (pipMod (fun p => { p with lines := p.lines.filter (fun x =>
            !x.emitted || !x.accLeft.isEmpty ||
              (match p.drawn with | some d => decide ((diffMod 32 d x.l).natAbs ≤ 5) | none => true)) }) s5)
      else s5

/-- OBJECT_TABLE_LINE (R203): the object table works through the next LEAD band line. Log entry 342. -/
def objectTableLine (s : State) : State :=
  if !(works s) then s
  else
    match leadLine s with
    | none => s
    | some (b, segs) =>
      let s1 := vdtMod (fun v => { v with lead := v.lead.filter (fun g => g.b != b) }) s
      let s2 := if segs.all (fun g => g.kind == 2) then missingLine b s1 else tableLine b segs s1
      closeDue (cpPollAll ((List.range 12).foldl (fun s n => secPump n s) s2))

/-! ### Verdict evaluation (R225, R229) -/

/-- The band that triggers the absent policy, with its policy (R229). -/
def absentPolicy (s : State) (o : Obj) (n : Nat) : Option (Nat × Nat) :=
  let bands := rfld s (Reg.VDT_PROG_INFO + 4 * n) 26 16
  let frac := rfld s Reg.VDT_ABS_CFG 31 24
  (((List.range 11).filter (fun k =>
    bit bands k && decide (regLines o * frac < o.reg.al.getD k 0 * 256))).map (fun k =>
      (k, rfld s Reg.VDT_ABS_CFG (2 * k + 1) (2 * k)))).head?

/-- The time for which a core's clocks count in VDT_CORE_LOAD: 1 ms. -/
def coreSpent (c clk : Nat) (s : State) : State :=
  vdtMod (fun v => { v with
    coreBusy := (v.coreBusy.filter (fun x => decide (s.t < x.2.1 + 200000))) ++ [(c, s.t, clk)] }) s

/-- VERDICT_EVALUATION (R225, R229, R231): core `c` takes the next evaluation when it is a confirmed one. -/
def verdictEvaluation (c : Nat) (s : State) : State :=
  if 4 ≤ c ∨ !(up s (0x60D00 + c)) ∨ inReset s 0x60C02 then s
  else
    match nextEval s with
    | none => s
    | some e =>
      if e.cp ≠ 0 then s
      else
        let s0 := vdtMod (fun v => { v with queue := v.queue.erase e }) s
        match objOf s e.slot with
        | none => s0
        | some o =>
          if o.id ≠ e.id ∨ o.st ≠ 3 then s0
          else
            let n := o.prog.getD 0
            let run := fun (s0 : State) =>
              let r := runProgram s n (viewOf s o 0 0 0)
              let s1 := coreSpent c r.2 s0
              match r.1 with
              | some (v, reason) => verdictEmitted e.slot (v, 0, reason) s1
              | none => verdictEmitted e.slot (15, 3, 0) (raise 0x607 (0x60D00 + c) [n] 3 (coObj o.id (site s)) s1)
            match absentPolicy s o n with
            | some (k, pol) =>
              let s1 := raise 0x604 0x60C02 [k] 3 (coObj o.id (site s)) s0
              if pol = 0 then run s1
              else verdictEmitted e.slot (if pol = 2 then 0 else 15, 1, 0) (coreSpent c 8 s1)
            | none => run s0

/-! ### Crosswind records -/

/-- Take the oldest delivered packet that satisfies `f`. -/
def takeIn (f : Nat → XwMsg → Bool) (s : State) : Option ((Nat × XwMsg) × State) :=
  match s.xwIn.find? (fun x => f x.1 x.2) with
  | some x => some (x, { s with xwIn := s.xwIn.erase x })
  | none => none

/-- A packet is a record of this type. -/
def isRec (t : Nat) : XwMsg → Bool
  | .record t' _ _ _ _ => t == t'
  | _ => false

/-- A received record as it waits. -/
def asRec (s : State) (n : Nat) : XwMsg → XwRec
  | .record _ st ob ws c => ⟨s.t, n, st, ob, ws, c⟩
  | _ => ⟨s.t, n, 0, 0, [], (0, 0)⟩

/-- FRAGMENT_RECORD_RECEIVED (R236): a neighbour's fragment record is matched to own objects in STITCH_WAIT. -/
def fragmentReceived (s : State) : State :=
  match takeIn (fun n m => isRec 3 m && decide (n ≤ 1)) s with
  | none => s
  | some (x, s1) =>
    if !(stitchOn s x.1) then s1
    else
      let q := asRec s x.1 x.2
      let s2 := vdtMod (fun v => { v with frags := v.frags ++ [q] }) s1
      match (waiting s2).find? (fun p => fragMatch s2 p.2 q) with
      | some p => stitchTry p.1 s2
      | none => s2

/-- The object that has waited longest in state `st`. -/
def longest (s : State) (st : Nat) : Option Nat :=
  (s.vdt.objs.filter (fun p => p.2.st == st)).foldl (fun (m : Option Nat) p =>
    match m with
    | none => some p.1
    | some k => match objOf s k with
      | some o => if p.2.waitT < o.waitT then some p.1 else m
      | none => some p.1) none

/-- STITCH_WINDOW_EXPIRE (R237): WIN_N has passed for the object that has waited longest. -/
def stitchExpire (s : State) : State := match longest s 4 with | some k => stitchLate k s | none => s

/-- NEIGHBOUR_FRAGMENT_EXPIRE (R237): WIN_N has passed since the oldest neighbour fragment arrived that matches no own object;
it is discarded. -/
def fragmentExpire (s : State) : State :=
  match s.vdt.frags.find? (fun q => !(waiting s).any (fun p => fragMatch s p.2 q)) with
  | some q => vdtMod (fun v => { v with frags := v.frags.erase q }) s
  | none => s

/-- PARTNER_RECORD_RECEIVED (R238): a partner record arrives and is matched to an own object in PARTNER_WAIT. A module that does
not own the valves makes nothing of it. Log entry 343. -/
def partnerReceived (s : State) : State :=
  match takeIn (fun n m => isRec 4 m && decide (2 ≤ n)) s with
  | none => s
  | some (x, s1) =>
    if !(partnerOwner s) || inReset s 0x60E01 || !((partnerLinks s).contains x.1) then s1
    else
      let q := asRec s x.1 x.2
      let s2 := vdtMod (fun v => { v with parts := v.parts ++ [q] }) s1
      match bestOf ((s.vdt.objs.filter (fun p => p.2.st == 5)).filterMap (fun p =>
          (partnerDist s p.2 q).map (fun d => (d, p.1)))) with
      | some k => partnerMatch k q s2
      | none => s2

/-- PARTNER_WAIT_EXPIRE (R238): WIN_P has passed for the object that has waited longest. -/
def partnerExpire (s : State) : State := match longest s 5 with | some k => partnerLate k s | none => s

/-- PARTNER_ADOPTED (R239): WIN_P has passed since the oldest partner record arrived. One that fires is adopted, in a place of
its own outside the table; one that accepts is discarded. Log entry 358. -/
def partnerAdopt (s : State) : State :=
  match s.vdt.parts with
  | [] => s
  | q :: rest =>
    let s1 := vdtMod (fun v => { v with parts := rest }) s
    let v := recFld q.words 0 47 44
    if !(fires s v) ∨ !(partnerOwner s) then s1
    else
      let p := recPart s q
      let a := localCol s (recFld q.words 3 127 111)
      let b := localCol s (recFld q.words 3 110 94)
      let place := 4096 + ((List.range (s.vdt.objs.length + 1)).find? (fun i => (objOf s (4096 + i)).isNone)).getD 0
      let o : Obj := { Obj.reset with
        id := s.vdt.nextId, st := 5, root := place, reg := p.f, live := p.live, lFirst := p.lf, lLast := p.ll
        bFirst := (p.lf + 2 ^ 32 - dLabel s) % 2 ^ 32, bLast := (p.ll + 2 ^ 32 - dLabel s) % 2 ^ 32
        flags := 2 ^ 10, peer := some (q.obj, q.site, v), vratio := p.vr, tCross := p.tc, prog := p.prog
        own := (min a b, max a b), eTrl := crossLine s p, verdict := some (v, 6, 0), closed := true }
      let s2 := vdtMod (fun x => { x with nextId := (x.nextId + 1) % 2 ^ 32 }) s1
      let s3 := raise 0x609 0x60E01 [] 3 (coObj o.id (site s)) (rsat s2 (Reg.VDT_XW_COUNT + 8) 31 0 1)
      confirm place (v, 6, 0) (computeWindows place (setObj place o s3))

/-! ### Views (R245) -/

/-- VDT registers that show state (R245, R274). Log entry 344. -/
def viewVdt (s : State) (a : Nat) : Option Nat :=
  let sel := rfld s Reg.VDT_OBJ_SEL 11 0
  if a = Reg.VDT_OBJ_STATE then
    match objOf s sel with
    | some o => some (packMsb [(o.st, 3), (rootOf s sel, 13), (o.flags, 16)])
    | none => some (packMsb [(0, 3), (sel, 13), (0, 16)])
  else if a = Reg.VDT_OBJ_STATUS then
    some (packMsb [(0, 3), (slotsOpen s, 13), (rfld s a 15 0, 16)])
  else if a = Reg.VDT_QUEUE then some (rfld s a 31 16 * 65536 + s.vdt.queue.length)
  else if a = Reg.VDT_CORE_LOAD then
    some (packMsb ([3, 2, 1, 0].map (fun c =>
      (min 255 (255 * nsum ((s.vdt.coreBusy.filter (fun x => x.1 == c && decide (s.t < x.2.1 + 200000))).map
        (·.2.2)) / 800000), 8))))
  else if Reg.VDT_SEG_STATUS ≤ a ∧ a < Reg.VDT_SEG_STATUS + 48 then
    let n := (a - Reg.VDT_SEG_STATUS) / 4
    some (packMsb [(rfld s a 31 24, 8), (min 2 (secOf s n).lead.length, 8), (rfld s a 15 0, 16)])
  else if Reg.VDT_OBJ_REC ≤ a ∧ a < Reg.VDT_OBJ_REC + 48 then
    let i := (a - Reg.VDT_OBJ_REC) / 4
    match objOf s sel with
    | some o => some (bits ((recWords s 0 3 o (o.verdict.getD (0, 0, 0))).getD (i / 4) 0#128).toNat (32 * (i % 4) + 31) (32 * (i % 4)))
    | none => some 0
  else if a = Reg.VDT_EJ_STATUS then some (s.vdt.resv.length * 65536 + rfld s a 15 0)
  else none

/-- VDT_CLEAR (R245). -/
def vdtClear (v : Nat) (s : State) : State :=
  if bit v 0 then
    (List.range 12).foldl (fun s n => rfset s (Reg.VDT_SEG_STATUS + 4 * n) 15 0 0)
      (rclear s ([Reg.VDT_OBJ_COUNT, Reg.VDT_DROP_COUNT] ++ (List.range 4).map (fun i => Reg.VDT_XW_COUNT + 4 * i) ++
        (List.range 16).map (fun i => Reg.VDT_VERDICT_COUNT + 4 * i) ++ (List.range 8).map (fun i => Reg.VDT_VSRC_COUNT + 4 * i)))
  else s

/-- Objects that are OPEN or TRAILING during standstill carry STANDSTILL (R214). -/
def standstillFlags (s : State) : State :=
  vdtMod (fun v => { v with objs := v.objs.map (fun p =>
    if p.2.st = 1 ∨ p.2.st = 2 then (p.1, setFlag 14 p.2) else p) }) s

end Sys2Proof.Machine
end

