-- ==== Sys2Proof/Machine/Gust.lean ====
section
/-! DEFINITION. The gust tap, gust evaluations, valve frames and the resets of VDT functions (08_gust_verdicts_ejection.md
R247, R252, R256-R259, R263-R269; 16_events_resets.md R523). -/

namespace Sys2Proof.Machine

/-! ### The gust tap (R247) -/

/-- Key under which an object remembers that line `b` of band `k` counted in LN of its gust copy. -/
def gustKey (b k : Nat) : Nat := 2 ^ 40 + 16 * b + k

/-- The gust copy of the object in slot `o` takes columns `cols` of a segment (R247). -/
def gustColumns (g : Seg) (set : CapSet) (k : Nat) (cols : List Nat) (s : State) : State :=
  modObj k (fun o =>
    let code := fun c => mgetD g.codes (sampleOf g.k (set.bin g.k) c) 0
    let key := gustKey g.b g.k
    let xs := cols.map (fun c => lin20 (code c))
    let f1 := addBand g.k (xs.map (scaled s)) (!(o.seen.contains key)) o.gust
    let f2 := (List.range 3).foldl (fun f j => if mmBand s j = g.k then addMinMax j xs f else f) f1
    { o with
      gust := f2
      seen := (o.seen.filter (fun x => decide (x < 2 ^ 40) || decide ((x - 2 ^ 40) % 16 ≠ g.k) ||
        decide ((diffMod 32 g.b ((x - 2 ^ 40) / 16)).natAbs ≤ 16))) ++ (if o.seen.contains key then [] else [key]) }) s

/-- GUST_TAP (R247): the tap of sector `n` takes a band line as COMP writes it. -/
def gustTap (n : Nat) (g : Seg) (s : State) : State :=
  if !(gustOn s) || gustShed s || !(rbit s Reg.VDT_GUST_CFG (16 + g.k)) || decide (8 ≤ g.k) || g.invalid || g.short ||
      inReset s (0x60003 + 0x100 * n) then s
  else
    let b := (g.b + 2 ^ 32 - gapK s g.k) % 2 ^ 32
    let pos := slotPos s 9 b
    if !((List.range 12).all (slotHolds s pos b)) then s
    else
      let set := lineSet s g.b g.epoch
      let labels := (slotCodes s pos).filter (fun p => p.1 / 1536 == n && inWin (set.win g.k) p.1)
      let groups := byObject (labels.filterMap (fun p =>
        (resolve s ((b + dLabel s) % 2 ^ 32) p.2).map (fun k => (k, p.1))))
      groups.foldl (fun s x => gustColumns g set x.1 x.2 s) s

/-- COMP_WRITE (R162, R247, R249): COMP writes the oldest segment of sector `n`. -/
def compWrite (n : Nat) (s : State) : State :=
  if 12 ≤ n ∨ !(images s) then s
  else
    match compStore n s with
    | none => s
    | some (g, s1) => cpPollAll (gustTap n g s1)

/-! ### Gust evaluation (R252, R262, R269) -/

/-- A gust verdict fires (R252): gust record, ARM, no further checkpoint. `e` is its evaluation. -/
def gustFires (e : QEnt) (v reason : Nat) (s : State) : State :=
  match objOf s e.slot with
  | none => s
  | some o =>
    let p := predict s o
    let g : GustRec := ⟨v, e.cp, o.prog.getD 0, reason, p.tc, p.vr, p.v, p.wins.map (fun w => (w.1, w.2.1, w.2.2.2)), false⟩
    let lines := mgetD e.views 1 0
    let at' : Obj := { o with
      flags := mgetD e.views 7 0, bLast := (o.bFirst + lines + 2 ^ 32 - 1) % 2 ^ 32 }
    let open' := match earliest (p.wins.map (·.2.1)) with
      | some n => ((n * tickLen s).toNat % 2 ^ 48, s)
      | none =>
        let x := takeFree Config.free32 s
        (x.1.toNat, x.2)
    let ws := gustWords s at' g open'.1 (valveEnds (valveSet s o.live.cMin o.live.cMax)) (o.live.cMin, o.live.cMax)
    let s1 := rsat (emitRecord ws (skipCps e.slot (setObj e.slot { o with gustRec := some g } open'.2)))
      (Reg.VDT_GUST_COUNT + 4) 31 0 1
    let s2 := (partnerLinks s).foldl (fun s n => xwSend n (.record 1 (site s) o.id ws (0, 0)) s) s1
    if bit o.flags 14 || !(firesValves s) then s2 else placeArms o.id (site s) 0 g.wins s2

/-- The result of gust evaluation `e`: verdict and reason (R249, R252). One for an object that has closed registered, or is
absorbed or discarded, is discarded and counted; after one that does not fire the next checkpoint is considered. -/
def gustResult (e : QEnt) (v : Nat × Nat) (s : State) : State :=
  let late := rsat s (Reg.VDT_GUST_COUNT + 28) 31 0 1
  match objOf s e.slot with
  | none => late
  | some o =>
    if o.id ≠ e.id ∨ (o.st ≠ 1 ∧ o.st ≠ 2) then late
    else
      let s1 := modObj e.slot (fun o => { o with cpBusy := false }) s
      if fires s v.1 then gustFires e v.1 v.2 s1 else cpPoll e.slot s1

/-- GUST_EVALUATION (R252): core `c` takes the next evaluation when it is a gust evaluation. -/
def gustEvaluation (c : Nat) (s : State) : State :=
  if 4 ≤ c ∨ !(up s (0x60D00 + c)) ∨ inReset s 0x60C02 then s
  else
    match nextEval s with
    | none => s
    | some e =>
      if e.cp = 0 then s
      else
        let s0 := rsat (vdtMod (fun v => { v with queue := v.queue.erase e }) s) Reg.VDT_GUST_COUNT 31 0 1
        let r := runProgram s (((objOf s e.slot).bind (·.prog)).getD 0) (fun i => mgetD e.views i 0)
        gustResult e (r.1.getD (15, 0)) (coreSpent c r.2 s0)

/-! ### Valve frames (R256, R257, R263) -/

/-- The opening tick of an object at a commit check (R263). -/
def openingTick (o : Obj) : Option Int :=
  if o.closed then earliest (o.wins.map (·.2.1))
  else
    match o.gustRec with
    | some g => if g.closed then none else earliest (g.wins.map (·.2.1))
    | none => none

/-- The commit check of tick `n` (R263, R266): objects without a final verdict whose opening tick is `n`. Log entry 362. -/
def commitCheck (n : Nat) (s : State) : State :=
  if inReset s 0x60F02 || decide (n ≤ s.vdt.checked) then s
  else
    (s.vdt.objs.filter (fun p => p.2.st != 6 && p.2.st != 7 && p.2.late == 0 && !(p.2.st == 3 && p.2.verdict.isSome))).foldl (fun s p =>
      match openingTick p.2 with
      | some m =>
        if (n : Int) ≠ m then s
        else if p.2.st = 5 then partnerLate p.1 s
        else commitMiss p.1 n s
      | none => s) (vdtMod (fun v => { v with checked := n }) s)

/-- Reservations of bank `b` whose end has come leave the scheduler at tick `n`: ARM spans of gust verdicts stay until
ARM_EXPIRE, spans of an object with a late decision as long as it is in the table (R259, R265). -/
def pruneResv (b n : Nat) (s : State) : State :=
  vdtMod (fun v => { v with resv := v.resv.filter (fun r =>
    r.bank != b || decide ((n : Int) < r.hi) || (!r.opn && (r.src == 0 || r.src == 2)) ||
    v.objs.any (fun p => p.2.id == r.obj && r.site == site s && p.2.late == 1)) }) s

/-- VALVE_FRAME_BUILD (R256): the frame of bank `b` for the tick whose build time has come, unless it is built. -/
def frameBuild (b : Nat) (s : State) : State :=
  let n := (s.t + frameLat s) / tickLen s
  let fr := mgetD s.vdt.framers b Framer.reset
  let new := match fr.last with | some m => decide (m < n) | none => true
  if 8 ≤ b ∨ !(works s) ∨ !(rbit s (Reg.VDT_VB_CFG + 4 * b) 31) ∨ tickLen s = 0 ∨ !new then s
  else
    let s1 := commitCheck n s
    let s2 :=
      if inReset s (0x61000 + b) then s1
      else vdtMod (fun v => { v with
        framers := mput v.framers b { fr with last := some n, q := fr.q ++ [(n, false, frameWords s1 b n)] } }) s1
    pruneResv b n s2

/-- FRAME_ABANDONED (R257): the oldest frame of bank `b` whose word 0 is not posted is abandoned. -/
def frameAbandon (b : Nat) (s : State) : State :=
  let fr := mgetD s.vdt.framers b Framer.reset
  match fr.q.find? (fun f => !f.2.1) with
  | some f =>
    raise 0x619 (0x61000 + b) [b] 6 (coBank b f.1)
      (vdtMod (fun v => { v with
        framers := mput v.framers b { fr with q := fr.q.erase f } }) s)
  | none => s

/-- PARTNER_GUST_RECORD_RECEIVED (R268). -/
def partnerGustReceived (s : State) : State :=
  match takeIn (fun n m => isRec 1 m && decide (2 ≤ n)) s with
  | none => s
  | some ((n, .record _ st ob ws _), s1) =>
    if (partnerLinks s).contains n && !inReset s 0x60F02 then partnerGust st ob ws s1 else s1
  | some (_, s1) => s1

/-- VDT_GUST_CLEAR (R274). -/
def gustClear (v : Nat) (s : State) : State :=
  if bit v 0 then
    rfset (rclear s ((List.range 8).map (fun i => Reg.VDT_GUST_COUNT + 4 * i))) Reg.VDT_EJ_STATUS 13 0 0
  else s

/-! ### Resets of VDT functions (R523) -/

/-- The object in slot `k` closes as truncated (R217, R255, R259, R523): verdict 15, VSRC 5. `table` says that the object table
itself is reset, so that it does not wait for a partner. Log entry 360. -/
def truncate (table : Bool) (k : Nat) (s : State) : State :=
  match objOf s k with
  | none => s
  | some o0 =>
    let s1 := modObj k (fun o => setFlag 13 { o with own := ownCols o.reg, closed := false, wins := [] }) s
    let s2 := releaseResv o0.id (site s) (fun r => !r.opn) (cancelGust k 3 0 s1)
    if !table then
      verdictEmitted k (15, 5, 0) (vdtMod (fun v => { v with prev := v.prev.filter (fun p => p.slot.map (rootOf s) != some k) }) s2)
    else
      match objOf s2 k with
      | some o => confirm k (15, 5, 0) ((partnerLinks s).foldl (fun s n =>
          xwSend n (.record 4 (site s) o.id (xwWords s 4 o (15, 5, 0)) (0, 0)) s) s2)
      | none => s2

/-- The memory of object slot `k` is unreadable (R523): the object is lost with its runs and without a confirmed record; its gust
record is closed from the open-gust list and its ARM spans end. -/
def slotLost (k : Nat) (s : State) : State :=
  match objOf s k with
  | none => s
  | some o =>
    let s1 := releaseResv o.id (site s) (fun r => !r.opn) (cancelGust k 3 0 (modObj k (setFlag 13) s))
    freeObj k (vdtMod (fun v => { v with prev := v.prev.filter (fun p => p.slot.map (rootOf s) != some k) }) s1)

/-- Slots of the objects that satisfy `f`. -/
def slotsWith (f : Obj → Bool) (s : State) : List Nat := (s.vdt.objs.filter (fun p => f p.2)).map (·.1)

/-- VDT functions at quiesce (R523). -/
def vdtResetScope (fid : Nat) (s : State) : State :=
  let k := fid / 0x100 % 0x100
  let f := fid % 0x100
  if k < 12 then
    if f ≤ 1 then
      (slotsWith (fun o => (o.st == 1 || o.st == 2) && bit o.secs k) s).foldl (fun s i => truncate false i s) s
    else if f = 3 then
      (slotsWith (fun o => (o.st == 1 || o.st == 2) && bit o.secs k) s).foldl (fun s i =>
        modObj i (fun o => { o with gust := Feat.zero }) (skipCps i s)) s
    else s
  else if fid = 0x60C00 then
    let s1 := (slotsWith (fun o => o.st == 1 || o.st == 2 || o.st == 4 || o.st == 3) s).foldl (fun s i => truncate true i s) s
    let s2 := (slotsWith (fun o => o.st == 5) s1).foldl (fun s i => partnerAlone i s) s1
    vdtMod (fun v => { v with
      objs := [], queue := []
      prev := v.prev.map (fun p => { p with slot := none }) }) s2
  else if fid = 0x60C02 then
    let n := (s.vdt.queue.filter (fun e => e.cp != 0)).length
    let s1 := vdtMod (fun v => { v with queue := [] }) s
    if n = 0 then s1 else rsat s1 (Reg.VDT_GUST_COUNT + 24) 31 0 n
  else if fid = 0x60E00 then
    vdtMod (fun v => { v with frags := [] }) ((slotsWith (fun o => o.st == 4) s).foldl (fun s i =>
      queueConfirmed i (modObj i (setFlag 11) s)) s)
  else if fid = 0x60E01 then
    vdtMod (fun v => { v with parts := [] }) ((slotsWith (fun o => o.st == 5) s).foldl (fun s i => partnerAlone i s) s)
  else if 0x61000 ≤ fid ∧ fid < 0x61008 then
    vdtMod (fun v => { v with
      framers := madj v.framers (fid - 0x61000) (fun fr => { fr with q := [] }) }) s
  else s

/-- VDT functions at resume (R523). -/
def vdtResume (fid : Nat) (s : State) : State :=
  if fid = 0x60C02 then
    (slotsWith (fun o => o.st == 3 && o.verdict.isNone) s).foldl (fun s i => queueConfirmed i s) s
  else if fid = 0x60F01 then
    (slotsWith (fun o => o.closed && o.wins.isEmpty) s).foldl (fun s i =>
      let s1 := computeWindows i s
      match objOf s1 i with
      | some o => (match o.verdict with | some v => if o.st = 3 then confirm i v s1 else s1 | none => s1)
      | none => s1) s
  else s

end Sys2Proof.Machine
end

