-- ==== Sys2Proof/Machine/Companion.lean ====
section
/-! DEFINITION. Companion ports, the auxiliary pipeline and companion control (09_companion_inputs.md R275-R314;
15_management_bus.md R494-R497). -/

namespace Sys2Proof.Machine

/-! ### Ports and registers -/

/-- Port `p`. -/
def portOf (s : State) (p : Nat) : AuxPort := s.aux.ports.getD p AuxPort.reset
/-- Replace port `p`. -/
def setPort (p : Nat) (x : AuxPort) (s : State) : State := { s with aux := { s.aux with ports := s.aux.ports.set p x } }
/-- Change port `p`. -/
def modPort (p : Nat) (f : AuxPort → AuxPort) (s : State) : State := setPort p (f (portOf s p)) s
/-- Register of port `p`. -/
def preg (a p : Nat) : Nat := a + 0x100 * p
/-- Field `[hi:lo]` of a register of port `p`. -/
def pfld (s : State) (p a hi lo : Nat) : Nat := rfld s (preg a p) hi lo
/-- MODE of the engine: 0 off, 1 shared, 2 split. -/
def auxMode (s : State) : Nat := rfld s Reg.AUX_CFG 5 4
/-- The engine half that serves port `p`. -/
def halfOf (s : State) (p : Nat) : Nat := if auxMode s = 2 then p else 0
/-- Port `p` is configured. -/
def configured (s : State) (p : Nat) : Bool := auxMode s != 0 && rbit s Reg.AUX_CFG p && decide (p < 2)
/-- The higher-priority port of shared mode. -/
def prioPort (s : State) : Nat := rfld s Reg.AUX_CFG 3 3
/-- LINE_PX. -/
def linePx (s : State) (p : Nat) : Nat := pfld s p Reg.AUX_PORT_GEOM 12 0
/-- Pixel words per line (R277). -/
def lineWords (s : State) (p : Nat) : Nat := if bit (rnat s (preg Reg.AUX_PORT_CFG p)) 26 then linePx s p / 2 else linePx s p
/-- A field of AUX_PORT_CFG. -/
def pcfg (s : State) (p hi lo : Nat) : Nat := pfld s p Reg.AUX_PORT_CFG hi lo
/-- COORD of a companion event: port and frame count. -/
def coAux (s : State) (p : Nat) : Nat := coPort p (portOf s p).frames
/-- Raise an event of function `fid` on port `p`. -/
def raiseAux (code fid p : Nat) (args : List Nat) (s : State) : State := raise code fid args 7 (coAux s p) s

/-! ### CRC and pixels (R277, R279) -/

/-- One word of the CRC-16 of R279. -/
def crc16Word (crc w : Nat) : Nat :=
  (List.range 20).foldl (fun c i =>
    let top := c / 2 ^ 15 % 2
    let c1 := c * 2 % 65536
    if (top + w / 2 ^ (19 - i)) % 2 = 1 then c1 ^^^ 0x1021 else c1) crc
/-- CRC-16 of pixel words (R279). -/
def crc16 (ws : List Nat) : Nat := ws.foldl crc16Word 0xFFFF
/-- Pixels of pixel words (R277). A word of 2²⁰ or more stands for missing pixels, each of which takes the fill value below bit 20
(R280). -/
def pixelsOf (pix2 : Bool) (width : Nat) (ws : List Nat) : List Nat :=
  let px := fun (v w width : Nat) => if w < 2 ^ 20 then v % 2 ^ width else w % 2 ^ 20
  if pix2 then ws.flatMap (fun w => [px w w (min width 10), px (w / 1024) w (min width 10)]) else ws.map (fun w => px w w width)

/-! ### Contexts (R300, R303) -/

/-- The context in a slot. -/
def ctxAt (x : AuxPort) (i : Nat) : AuxCtx := x.ctx.getD i AuxCtx.reset
/-- The slot of the context in a state. -/
def ctxWith (x : AuxPort) (st : Nat) : Option Nat := (List.range 4).find? (fun i => (ctxAt x i).st == st)
/-- The current context. -/
def ctxNow (x : AuxPort) : AuxCtx := match ctxWith x 1 with | some i => ctxAt x i | none => AuxCtx.reset
/-- Retiring contexts whose last line has left stage 4 become free (R300). -/
def ctxRetire (x : AuxPort) : AuxPort :=
  let used := fun i => x.ring.any (fun l => l.ctx == i && l.freeAt.isNone) || (match x.cur with | some l => l.ctx == i | none => false) ||
    x.carry.any (fun r => r.ctx == i && !r.out) || (match x.long with | some l => l.1.ctx == i | none => false)
  { x with ctx := (List.range 4).map (fun i =>
      if (ctxAt x i).st = 3 ∧ !(used i) then AuxCtx.reset else ctxAt x i) }
/-- The retiring contexts of both ports that no line uses any more become free (R300). -/
def contextsRetire (s : State) : State := { s with aux := { s.aux with ports := s.aux.ports.map ctxRetire } }
/-- The active registers of port `p` show the values of context `c`, unless a host change that has been applied still waits to
be written: they show that one (R301). Log entry 277. -/
def showActive (p : Nat) (c : AuxCtx) (s : State) : State :=
  if (portOf s p).wait.any (fun w => w.src == 1) then s
  else rsets s [(preg Reg.AUX_EXPL p, c.expL), (preg Reg.AUX_EXPS p, c.expS), (preg Reg.AUX_GAIN p, c.gain), (preg Reg.AUX_K p, c.k)]
/-- The pending context takes effect (R303): 0x50B records port, context and n_w + DELAY. The active registers show the
values in force. -/
def ctxApply (p : Nat) (s : State) : State :=
  let x := portOf s p
  match ctxWith x 2 with
  | none => s
  | some i =>
    let c := ctxAt x i
    let n := if bit (rnat s (preg Reg.AUX_BUS_CFG p)) 17 then x.lvals else x.frames
    if n < c.eff then s
    else
      let x1 := { x with ctx := (List.range 4).map (fun j =>
        if j = i then { c with st := 1 } else if (ctxAt x j).st = 1 then { ctxAt x j with st := 3 } else ctxAt x j) }
      raiseAux 0x50B (0x50300 + p) p [p, i, c.eff]
        (showActive p c (setPort p x1 s))
/-- An auxiliary context keeps epoch `e` live (R300). -/
def auxHolds (s : State) (e : Nat) : Bool :=
  s.aux.ports.any (fun x => x.ctx.any (fun c => (c.st == 1 || c.st == 3) && c.epoch == e))

/-! ### Time alignment (R289) -/

/-- 16 λ_cap of a stamp, modulo 2^36 (R289): none when the stamp is older than the line history. Before a second line has
started the position within a line is not given; it is a free value. -/
def lamCap (s : State) (ts : Int) : Option Nat × State :=
  match s.tbs.hist with
  | [] => (none, s)
  | h :: rest =>
    if (h.tl : Int) ≤ ts then
      match rest with
      | b :: _ =>
        if h.tl ≤ b.tl then (some (16 * h.l), s)
        else (some ((16 * h.l + min 15 (16 * (ts - h.tl).toNat / (h.tl - b.tl))) % 2 ^ 36), s)
      | [] =>
        let f := takeFree Config.free16 s
        (some (16 * h.l + f.1.toNat % 16), f.2)
    else
      match ((h :: rest).zip rest).find? (fun q => decide ((q.2.tl : Int) ≤ ts)) with
      | some (a, b) => (some ((16 * b.l + 16 * (ts - b.tl).toNat / (a.tl - b.tl)) % 2 ^ 36), s)
      | none => (none, s)
/-- 16 λ of row `r` from 16 λ_cap (R289). -/
def lamOf (s : State) (p r cap : Nat) : Nat :=
  let offs := toSigned 20 (pfld s p Reg.AUX_PORT_OFFS 19 0)
  let step := if pcfg s p 19 19 = 1 then (r : Int) * toSigned 16 (pfld s p Reg.AUX_PORT_RSTEP 15 0) / 16 else 0
  (((cap : Int) + offs + step) % 2 ^ 36).toNat

/-! ### Engine stages (R283-R288) -/

/-- LIN of a raw pixel (R283): none when saturated. -/
def linAux (s : State) (p black x : Nat) : Option Nat :=
  let a := 0x24000 + 0x100 * p
  let m32 := fun (o : Nat) => ofLe (mgets 0#8 s.aux.tmem o 4)
  let knot := fun (i : Nat) => ((m32 (a + 4 + 4 * i) % 2 ^ 20 : Nat) : Int)
  let seg := 2 ^ (pcfg s p 31 27 - 5)
  let u := x - black
  let i := min 31 (u / seg)
  let y := (knot i + roundDiv ((knot (i + 1) - knot i) * ((u : Int) - (i * seg : Nat))) (seg : Nat)).toNat
  if pfld s p Reg.AUX_PORT_SAT 19 0 ≤ x ∨ m32 a % 2 ^ 20 ≤ y then none else some y
/-- LIN20 of a flux num/den (R285). -/
def normAux (s : State) (k num den : Nat) : Nat := (clampI 0 0xFFFFE ((ped s : Int) + roundDiv (num * k : Nat) (den * 65536 : Nat))).toNat
/-- A line through LIN (R283). -/
def linLine (s : State) (p : Nat) (l : AuxLine) : List (Option Nat) :=
  (pixelsOf (pcfg s p 26 26 == 1) (pcfg s p 31 27) l.words).map (linAux s p (ctxAt (portOf s p) l.ctx).black)
/-- A row of a line, with its pixels. -/
def rowOf (l : AuxLine) (px : List Nat) : AuxRow := ⟨l.frame, l.row, l.lam, l.ctx, l.marks, px, false⟩
/-- A line without a partner through MERGE (R284, R285). -/
def aloneRow (s : State) (p : Nat) (l : AuxLine) (ys : List (Option Nat)) : AuxRow :=
  let c := ctxAt (portOf s p) l.ctx
  let short := l.short && pcfg s p 21 20 != 0
  rowOf l (ys.map (fun y => match y with
    | some v => if short then normAux s c.k (v * c.expL) c.expS else normAux s c.k v 1
    | none => 0xFFFFF))
/-- A long line and its short partner through MERGE (R284, R285): each value is processed under the context of the line that
it comes from (R303). -/
def pairRow (s : State) (p : Nat) (a : AuxRow) (ya : List (Option Nat)) (l : AuxLine) (ys : List (Option Nat)) : AuxRow :=
  let long := ctxAt (portOf s p) a.ctx
  let sh := ctxAt (portOf s p) l.ctx
  { a with
    marks := a.marks ||| l.marks
    px := (ya.zip ys).map (fun q => match q with
      | (some v, _) => normAux s long.k v 1
      | (none, some v) => normAux s sh.k (v * sh.expL) sh.expS
      | (none, none) => 0xFFFFF) }
/-- Colour of the cell at row `r` and column `i` (R286). -/
def cfaAt (s : State) (p r i : Nat) : Nat :=
  let m := if pcfg s p 18 17 = 1 then 2 else 4
  let n := 4 * (r % m) + i % m
  pfld s p Reg.AUX_PORT_CFA (2 * n + 1) (2 * n)
/-- A position mirrored into `lo` to `hi` (R286). -/
def mirror (lo hi x : Int) : Int :=
  let y := if x < lo then 2 * lo - x else if hi < x then 2 * hi - x else x
  clampI lo hi y
/-- Plane `c` at row `r`, column `i`, of contiguous rows `rows` that begin at row `lo` (R286): the value and whether it is
saturated; none where the window has no such cell. -/
def planeAt (s : State) (p lo : Nat) (rows : List (List Nat)) (r i c : Nat) : Option (Int × Bool) :=
  let hi := lo + rows.length - 1
  let w := linePx s p
  let at' := fun (dy dx : Int) =>
    let y := (mirror lo hi ((r : Int) + dy)).toNat
    let x := (mirror 0 ((w : Int) - 1) ((i : Int) + dx)).toNat
    (cfaAt s p y x, (rows.getD (y - lo) []).getD x 0)
  let mean := fun (l : List (Nat × Nat)) =>
    let v := (l.filter (fun q => q.1 == c)).map (·.2)
    if v.isEmpty then none else some (roundDiv (nsum v : Nat) (v.length : Nat), v.any (· == 0xFFFFF))
  if (at' 0 0).1 = c then some (((at' 0 0).2 : Int), (at' 0 0).2 == 0xFFFFF)
  else
    let ring := fun (n : Nat) => (List.range (2 * n + 1)).flatMap (fun a => (List.range (2 * n + 1)).filterMap (fun b =>
      if a = n ∧ b = n then none else some (at' ((a : Int) - n) ((b : Int) - n))))
    match mean (ring 1) with
    | some x => some x
    | none => mean (ring 2)
/-- DEMOSAIC and MIX of row `r` (R286, R287). -/
def mixRow (s : State) (p lo : Nat) (rows : List (List Nat)) (r : Nat) : List Nat :=
  let weight := fun (c : Nat) => toSigned 16 (rfld s (preg Reg.AUX_PORT_MIX p + 4 * (c / 2)) (16 * (c % 2) + 15) (16 * (c % 2)))
  (List.range (linePx s p)).map (fun i =>
    let vs := ((List.range 4).filter (fun c => weight c != 0)).map (fun c => (weight c, planeAt s p lo rows r i c))
    if vs.any (fun v => match v.2 with | some x => x.2 | none => false) then 0xFFFFF
    else
      let d := isum (vs.map (fun v => match v.2 with | some x => v.1 * (x.1 - ped s) | none => 0))
      (clampI 0 0xFFFFE ((ped s : Int) + roundDiv d 4096)).toNat)
/-- STORE (R288, R290): a row enters the alignment store. -/
def storeRow (p : Nat) (r : AuxRow) (s : State) : State :=
  let x := portOf s p
  let late := match r.lam, x.lastLam with
    | some a, some b => decide (diffMod 36 a b < 0)
    | some _, none => false
    | none, _ => true
  if late then raiseAux 0x50A (0x50200 + p) p []
    (rsat s (preg Reg.AUX_PORT_STORE p) 15 0 1)
  else
    let lam := r.lam.getD 0
    let depth := 262144 / (2 * linePx s p)
    let full := decide (depth ≤ x.store.length)
    let ok := r.px.filter (· != 0xFFFFF)
    let sum := isum (ok.map (fun (v : Nat) => (v : Int) - ped s))
    let line : AuxStored := ⟨lam, ctxAt x r.ctx, r.marks, r.px.map encode16, r.frame, r.row⟩
    let s1 := setPort p { x with
      store := (if full then x.store.drop 1 else x.store) ++ [line], lastLam := some lam
      acc := if x.acc.1 = r.frame then (r.frame, x.acc.2.1 + sum, x.acc.2.2 + ok.length) else (r.frame, sum, ok.length) } s
    let s2 := rset s1 (preg Reg.AUX_PORT_STAMP p) lam
    if full then raiseAux 0x509 (0x50100 + halfOf s p) p []
      (rsat s2 (preg Reg.AUX_PORT_STORE p) 31 16 1)
    else s2
/-- The rows of one contiguous group that holds row `r`. -/
def groupOf (rows : List AuxRow) (r : Nat) : List AuxRow :=
  let has := fun (n : Nat) => rows.any (fun x => x.row == n)
  let lo := (List.range r).reverse.foldl (fun (a : Nat × Bool) n => if a.2 && has n then (n, true) else (a.1, false)) (r, true)
  rows.filter (fun x => decide (lo.1 ≤ x.row) && (decide (x.row ≤ r) || (List.range (x.row - r)).all (fun d => has (r + d + 1))))
/-- Emit carried rows (R286): those from `keep` rows before the end on stay held. The last four rows stay as context. -/
def emitRows (p keep : Nat) (s : State) : State :=
  let rows := (portOf s p).carry
  let n := rows.length
  if pcfg s p 18 17 = 0 then
    modPort p (fun x => { x with carry := [] }) (rows.foldl (fun s r => storeRow p r s) s)
  else
    let s1 := ((rows.zip (List.range n)).filter (fun q => !q.1.out && decide (q.2 + keep < n))).foldl (fun s q =>
      let g := groupOf rows q.1.row
      let lo := (g.head?.map (·.row)).getD q.1.row
      storeRow p { q.1 with px := mixRow s p lo (g.map (·.px)) q.1.row } s) s
    modPort p (fun x => { x with
      carry := ((rows.zip (List.range n)).map (fun q => if q.2 + keep < n then { q.1 with out := true } else q.1)).drop (n - 4) }) s1
/-- Everything held of the previous stripe leaves (R286). -/
def flushCarry (p : Nat) (s : State) : State :=
  let x := portOf s p
  let s1 := match x.long with
    | some l => setPort p { x with long := none, carry := x.carry ++ [l.1] } s
    | none => s
  modPort p (fun x => { x with carry := [] }) (emitRows p 0 s1)
/-- One line of a stripe through LIN and MERGE (R283-R285). -/
def engineLine (p : Nat) (s : State) (l : AuxLine) : State :=
  let x := portOf s p
  let ys := linLine s p l
  let push := fun (rs : List AuxRow) (long : Option (AuxRow × List (Option Nat))) =>
    setPort p { x with carry := x.carry ++ rs, long := long } s
  if pcfg s p 21 20 = 0 then push [aloneRow s p l ys] none
  else
    match x.long with
    | some (a, ya) =>
      if !l.short then push [a] (some (aloneRow s p l ys, ys))
      else if a.row + 1 = l.row then push [pairRow s p a ya l ys] none
      else push [a, aloneRow s p l ys] none
    | none => if l.short then push [aloneRow s p l ys] none else push [] (some (aloneRow s p l ys, ys))

/-! ### The ring and the engine (R294-R298) -/

/-- Lines received that the engine has not consumed (R294), oldest first: the first 32 hold the slots of the ring, and the
rest waits in the input FIFO. -/
def ringLines (s : State) (x : AuxPort) : List AuxLine :=
  x.ring.filter (fun l => match l.freeAt with | none => true | some t => decide (s.t < t))
/-- Slots of the ring that are taken, that of the line in progress among them (R294). -/
def ringHeld (s : State) (x : AuxPort) : Nat := min 32 ((ringLines s x).length + b2n x.cur.isSome)
/-- 5 ns units that `k` lines of port `p` take (R295, R298): 2.5 ns a pixel in shared mode, 5 ns in split mode. -/
def linesCost (s : State) (p k : Nat) : Nat := if auxMode s = 2 then k * linePx s p else (k * linePx s p + 1) / 2
/-- A stripe of a frame is ready (R294): its lines have ended, of which the last stripe may have fewer than 16, or the frame
has. Log entry 278. -/
def stripeReady (s : State) (p : Nat) (l : AuxLine) : Bool :=
  let x := portOf s p
  let fl := pfld s p Reg.AUX_PORT_GEOM 28 16
  let last := 16 * (l.row / 16 + 1)
  !x.fval || l.frame != x.frames || decide ((if fl = 0 then last else min last fl) ≤ x.rows - b2n x.cur.isSome)
/-- The oldest line of the ring that no stripe has taken. -/
def oldestLine (x : AuxPort) : Option AuxLine := x.ring.find? (fun l => l.freeAt.isNone)
/-- Port `p` has a ready stripe. -/
def hasStripe (s : State) (p : Nat) : Bool :=
  configured s p && match oldestLine (portOf s p) with | some l => stripeReady s p l | none => false
/-- Lines of a stripe. -/
def inStripe (f j : Nat) (l : AuxLine) : Bool := l.frame == f && l.row / 16 == j
/-- Rows of the stripe before stripe `j` of frame `f` are held back for it (R286). -/
def heldFor (x : AuxPort) (f j : Nat) : Bool :=
  x.carry.any (fun r => r.frame == f && r.row / 16 + 1 == j && !r.out) ||
    (match x.long with | some l => l.1.frame == f && l.1.row / 16 + 1 == j | none => false)
/-- STRIPE_DROP (R296): the stripe that the line begins is dropped and its lines are discarded as they arrive; the rows held
back for it leave with mirrored rows (R286). -/
def dropStripe (p f j : Nat) (s : State) : State :=
  let s1 := modPort p (fun x => { x with
    ring := x.ring.filter (fun l => !(inStripe f j l && l.freeAt.isNone)), drops := x.drops ++ [(f, j)] }) s
  let s2 := if heldFor (portOf s1 p) f j then flushCarry p s1 else s1
  raiseAux 0x507 (0x50100 + halfOf s p) p [] (rsat s2 (preg Reg.AUX_PORT_DROP p) 31 16 1)
/-- STRIPE_ABORT (R296): the lower-priority stripe in progress is withdrawn. -/
def abortStripe (s : State) : State :=
  match s.aux.prog with
  | (p, f, j, _, e) :: _ =>
    if p = prioPort s ∨ e ≤ s.t ∨ auxMode s ≠ 1 then s
    else
      let s1 := modPort p (fun x => { x with
        ring := x.ring.filter (fun l => !(inStripe f j l))
        carry := x.carry.filter (fun r => !(r.frame == f && r.row / 16 == j)), long := none
        store := x.store.filter (fun r => !(r.frame == f && r.row / 16 == j)) }) s
      raiseAux 0x508 0x50100 p [] (rsat { s1 with aux := { s1.aux with
        prog := [], busy := s1.aux.busy.map (fun b => (b.1, b.2.1, min b.2.2 (s.t - b.2.1))) } } Reg.AUX_ABORTS 31 0 1)
  | [] => s
/-- The port whose stripe the engine takes (R295, R298). -/
def chooseStripe (s : State) (h : Nat) : Option Nat :=
  if auxMode s = 2 then (if hasStripe s h then some h else none)
  else if h ≠ 0 then none
  else
    let hi := prioPort s
    if decide (16 < ringHeld s (portOf s hi)) && hasStripe s hi then some hi
    else if hasStripe s 0 && hasStripe s 1 then some (1 - s.aux.last)
    else if hasStripe s 0 then some 0
    else if hasStripe s 1 then some 1
    else none
/-- STRIPE_PROCESS (R283-R288, R295): half `h` of the engine, having finished what it had, takes the next ready stripe. -/
def stripeProcess (h : Nat) (s : State) : State :=
  if 2 ≤ h ∨ !(up s (0x50100 + h)) then s
  else
    let s0 := { s with aux := { s.aux with
      prog := s.aux.prog.filter (fun q => halfOf s q.1 != h)
      ports := s.aux.ports.zipIdx.map (fun q =>
        if halfOf s q.2 = h then { q.1 with ring := q.1.ring.filter (fun l => l.freeAt.isNone) } else q.1) } }
    match chooseStripe s0 h with
    | none => s0
    | some p =>
      let x := portOf s0 p
      match oldestLine x with
      | none => s0
      | some l0 =>
        let f := l0.frame
        let j := l0.row / 16
        let lines := x.ring.filter (inStripe f j)
        let switch := auxMode s == 1 && s.aux.last != p
        let begin' := s.t + (if switch then 32 else 0)
        let cost := linesCost s p
        let s1 := if switch then rwrap s0 Reg.AUX_SWITCHES 31 0 1 else s0
        let s2 := { s1 with aux := { s1.aux with
          last := p, prog := s1.aux.prog ++ [(p, f, j, begin', begin' + cost lines.length)]
          busy := s1.aux.busy.filter (fun b => decide (s.t < b.2.1 + b.2.2 + 200000)) ++
            [(h, s.t, begin' - s.t + cost lines.length)] } }
        let next := fun (c : AuxPort) => match c.carry.getLast?, c.long with
          | _, some l => l.1.frame == f && l.1.row + 1 == 16 * j
          | some r, none => r.frame == f && r.row + 1 == 16 * j
          | none, none => true
        let s3 := if next x then s2 else flushCarry p s2
        let s4 := lines.foldl (engineLine p) s3
        let ended := (!x.fval || x.frames != f) && !(x.ring.any (fun l => l.frame == f && j < l.row / 16))
        let s5 := if ended || x.drops.contains (f, j + 1) then flushCarry p s4 else emitRows p 2 s4
        modPort p (fun y => { y with
          ring := (y.ring.foldl (fun (a : List AuxLine × Nat) l =>
            if inStripe f j l then (a.1 ++ [{ l with freeAt := some (begin' + cost (a.2 + 1)) }], a.2 + 1)
            else (a.1 ++ [l], a.2)) ([], 0)).1 }) s5

/-! ### Frames and lines (R276, R280, R289, R296) -/

/-- COMPANION_LINE_START (R289): LVAL rises on port `p`. -/
def companionLineStart (p : Nat) (s : State) : State :=
  let x := portOf s p
  if !(configured s p) || !(up s (0x50000 + p)) then s
  else if !x.fval then raiseAux 0x505 (0x50000 + p) p [] (rsat s (preg Reg.AUX_PORT_RING p) 15 0 1)
  else
    let r := x.rows
    let fl := pfld s p Reg.AUX_PORT_GEOM 28 16
    let fast := match x.tL with | some t => decide (s.t < t + pfld s p Reg.AUX_PORT_TLINE 19 0) | none => false
    let s1 := raiseIf fast 0x512 (0x50100 + halfOf s p) [] 7 (coAux s p)
      (ctxApply p (setPort p { x with
        rows := r + 1, lvals := x.lvals + 1, tL := some s.t, silent := false, cur := none } s))
    if fl != 0 && decide (fl ≤ r) then
      let s2 := rsat s1 (preg Reg.AUX_PORT_DROP p) 15 0 1
      if x.fLong then s2
      else raiseAux 0x502 (0x50000 + p) p []
        (rsat (modPort p (fun x => { x with fLong := true }) s2) (preg Reg.AUX_PORT_FRAMEERR p) 15 0 1)
    else if x.drops.contains (x.frames, r / 16) then s1
    else
      let lag := pfld s p Reg.AUX_PORT_LAG 19 0
      let ts : Int := (if pcfg s p 19 19 = 1 then x.tF else s.t : Nat) - (lag : Nat)
      let lc := lamCap s1 ts
      let s2 := lc.2
      let y := portOf s2 p
      let line : AuxLine := ⟨x.frames, r, lc.1.map (lamOf s p r), (ctxWith y 1).getD 0, 0, false, [], false, none⟩
      let held := ringHeld s y
      let s3 := rmax s2 (preg Reg.AUX_PORT_RING p) 31 24 (min 32 (held + 1))
      if held < 32 then modPort p (fun x => { x with cur := some line }) s3
      else if auxMode s = 1 ∧ p = prioPort s then modPort p (fun x => { x with cur := some line }) (abortStripe s3)
      else dropStripe p x.frames (r / 16) s3

/-- The line in progress on port `p` ends with the qualified words `ws` (R278-R280). -/
def lineDone (p : Nat) (ws : List Nat) (s : State) : State :=
  let x := portOf s p
  match x.cur with
  | none => s
  | some l =>
    let n := lineWords s p
    let trailer := pcfg s p 23 23 == 1
    let short := decide (ws.length < n)
    let long := decide (n + b2n trailer < ws.length)
    let pix := (ws.take n).map (· % 2 ^ 20)
    let tr := if trailer && !short then (ws.drop n).head? else none
    let bad := match tr with
      | some t => decide (crc16 pix ≠ t % 65536)
      | none => false
    let fill := pfld s p Reg.AUX_PORT_FILL 19 0
    let exp := match tr with | some t => bit t 16 | none => false
    let alt := pcfg s p 21 20
    let l1 := { l with
      words := pix ++ List.replicate (n - pix.length) (2 ^ 20 + fill)
      marks := b2n bad + 2 * b2n short + 4 * b2n long, done := true
      short := if alt = 1 then l.row % 2 == 1 else if alt = 2 then exp else false }
    let s1 := setPort p { x with cur := none } s
    let s2 := if short then raiseAux 0x503 (0x50000 + p) p [] (rsat s1 (preg Reg.AUX_PORT_LINEERR p) 31 16 1) else s1
    let s3 := if long then raiseAux 0x504 (0x50000 + p) p [] (rsat s2 (preg Reg.AUX_PORT_LINEERR p) 15 0 1) else s2
    let s4 := if bad then
        let s4 := rsat s3 (preg Reg.AUX_PORT_CHK p) 15 0 1
        let s5 := if x.fChk then s4 else rsat s4 (preg Reg.AUX_PORT_CHK p) 31 16 1
        raiseAux 0x500 (0x50000 + p) p [] (modPort p (fun x => { x with fChk := true }) s5)
      else s3
    if bad && pcfg s p 22 22 == 1 then s4
    else if x.drops.contains (l.frame, l.row / 16) then s4
    else
      let s5 := modPort p (fun x => { x with ring := x.ring ++ [l1] }) s4
      let y := portOf s5 p
      let waiting := (ringLines s5 y).drop 32
      let fifo := nsum (waiting.map (fun l => l.words.length + b2n trailer))
      let s6 := rmax s5 (preg Reg.AUX_PORT_RING p) 23 16 (min 255 (fifo * 255 / 26214))
      if fifo ≤ 26214 then s6 else raiseAux 0x511 (0x50100 + halfOf s p) p [] (dropStripe p l.frame (l.row / 16) s6)

/-- COMPANION_LINE_END (R279): LVAL falls on port `p` after the qualified words `ws`. -/
def companionLineEnd (p : Nat) (ws : List Nat) (s : State) : State :=
  if configured s p && up s (0x50000 + p) then lineDone p ws s else s

/-- COMPANION_FRAME_START (R276): FVAL rises on port `p`. -/
def companionFrameStart (p : Nat) (s : State) : State :=
  if !(configured s p) || !(up s (0x50000 + p)) then s
  else
    let s1 := modPort p (fun x => { x with
      fval := true, frames := x.frames + 1, tF := s.t, rows := 0, fLong := false, fChk := false, cur := none
      drops := x.drops.filter (fun d => x.ring.any (fun l => l.frame == d.1 && l.freeAt.isNone) || x.carry.any (fun r => r.frame == d.1)) }) s
    ctxApply p (rwrap s1 (preg Reg.AUX_PORT_FRAMES p) 31 0 1)

/-! ### Companion control (R299-R306, R309) -/

/-- A register write on the bus (R302, R494): address byte with W, register, data most significant first. -/
def regWrite (addr : Nat) (reg16 : Bool) (reg n data : Nat) : List Byte :=
  BitVec.ofNat 8 (2 * addr) :: (if reg16 then beBytes 2 reg else beBytes 1 reg) ++ beBytes n data
/-- The transactions of a list in table memory at `a`, of up to `n` entries (R302). -/
def busList (s : State) (a : Nat) : Nat → List (List Byte)
  | 0 => []
  | n + 1 =>
    let e := ofLe (mgets 0#8 s.aux.tmem a 8)
    let t := regWrite (bits e 62 56) (bit e 55) (if bit e 55 then bits e 47 32 else bits e 39 32) (bits e 54 53 + 1) (bits e 31 0)
    t :: (if bit e 63 then [] else busList s (a + 8) n)
/-- The exposure and gain writes of R302, steps 2 and 3. -/
def expWrites (s : State) (p expL expS gain : Nat) : List (List Byte) :=
  let c := rnat s (preg Reg.AUX_BUS_CFG p)
  let w := fun (r n d : Nat) => regWrite (bits c 31 25) (bit c 22) r n d
  let er := rnat s (preg Reg.AUX_EXP_REG p)
  let gr := pfld s p Reg.AUX_GAIN_REG 15 0
  [w (bits er 15 0) (bits c 21 20 + 1) expL] ++ (if pcfg s p 21 20 = 0 then [] else [w (bits er 31 16) (bits c 21 20 + 1) expS]) ++
  (if gr = 0xFFFF then [] else [w gr (bits c 19 18 + 1) gain])
/-- The list of a temperature band of port `p` (R314). -/
def tbList (s : State) (p b : Nat) : List (List Byte) := busList s (0x24300 + 0x400 * p + 0x40 * b) 8
/-- The transactions of a change (R302). -/
def changeWrites (s : State) (p : Nat) (c : AuxChange) : List (List Byte) :=
  (if c.src = 2 then tbList s p c.tb else []) ++ expWrites s p c.expL c.expS c.gain
/-- A change has not yet taken effect on port `p`. -/
def changeOpen (x : AuxPort) : Bool :=
  x.host.isSome || !x.wait.isEmpty || x.change.isSome || (ctxWith x 2).isSome
/-- The active registers return to the values of the current context (R304), where there is one. -/
def showCtx (p : Nat) (s : State) : State :=
  if (ctxWith (portOf s p) 1).isSome then showActive p (ctxNow (portOf s p)) s else s
/-- The companion is absent (R309), with event 0x50D: nothing more is written, and its changes are gone. While discovery runs
its failure is reported too, with 0x50F (R299; log entry 178). -/
def companionAbsent (p : Nat) (s : State) : State :=
  let s0 := if (portOf s p).bus = 3 then raiseAux 0x50F (0x50300 + p) p [] s else s
  let s1 := modPort p (fun x => { x with
    absent := true, discOk := false, bus := 0, tx := [], change := none, rep := false, restarts := 0, ident := none
    wait := [], ctx := x.ctx.map (fun c => if c.st = 2 then AuxCtx.reset else c) }) s0
  raiseAux 0x50D (0x50300 + p) p [] (showCtx p s1)
/-- Withdraw the change that is being written or pending (R304, R305): event 0x50C, and the current exposure and gain are
written again. -/
def withdrawChange (p : Nat) (s : State) : State :=
  let c := ctxNow (portOf s p)
  let s1 := modPort p (fun x => { x with
    bus := 2, tx := expWrites s p c.expL c.expS c.gain, change := none, rep := false, restarts := 0
    ctx := x.ctx.map (fun c => if c.st = 2 then AuxCtx.reset else c) }) s
  raiseAux 0x50C (0x50300 + p) p [] (showCtx p s1)
/-- The last transaction of a change has ended (R300, R303): its context is pending. -/
def changeWritten (p : Nat) (c : AuxChange) (s : State) : State :=
  let x := portOf s p
  let cfg := rnat s (preg Reg.AUX_BUS_CFG p)
  let n := if bit cfg 17 then x.lvals else x.frames
  let slot := (ctxWith x 0).getD 3
  setPort p { x with
    bus := 0, change := none
    ctx := x.ctx.set slot ⟨2, c.src, c.k, c.expL, c.expS, c.gain, pfld s p (Reg.AUX_PORT_BLACK + 4 * c.tb) 19 0, c.epoch,
      n + bits cfg 16 13⟩ } s
/-- The front transaction of port `p` has failed (R305, R496): it counts as not acknowledged and is repeated once; then the change
is withdrawn, or the companion is absent, as it is when a transaction of discovery fails twice. Log entry 178. -/
def cbFail (p : Nat) (s : State) : State :=
  let x := portOf s p
  let s1 := rsat s (preg Reg.AUX_BUS_STATUS p) 31 24 1
  if x.bus = 0 then s
  else if !x.rep then modPort p (fun x => { x with rep := true, restarts := 0 }) s1
  else if x.bus = 1 then withdrawChange p s1
  else companionAbsent p s1
/-- The last write of discovery has ended (R299): context 0 is established from the active registers, unless a reset of the
controller left a current context, which stands (R495, R497). -/
def discoveryEnd (p : Nat) (s : State) : State :=
  let x := portOf s p
  let c0 : AuxCtx := ⟨1, 0, rnat s (preg Reg.AUX_K p), rnat s (preg Reg.AUX_EXPL p), rnat s (preg Reg.AUX_EXPS p),
    rnat s (preg Reg.AUX_GAIN p), pfld s p (Reg.AUX_PORT_BLACK + 4 * s.col.tb) 19 0, x.epoch, x.frames⟩
  let y := { x with discOk := true, absent := false, bus := 0, tx := [] }
  raiseAux 0x50E (0x50300 + p) p [] (setPort p (if (ctxWith x 1).isSome then y else { y with ctx := y.ctx.set 0 c0 }) s)
/-- The ID read of discovery has ended (R299 step 2): AUX_BUS_STATUS shows the ID. A companion that does not acknowledge its
address, or holds another ID, is absent (R498, R309). -/
def idRead (p : Nat) (s : State) : State :=
  let x := portOf s p
  match x.ident with
  | none => s
  | some (id, ack) =>
    let s1 := setPort p { x with tx := x.tx.drop 1, ident := none, rep := false, restarts := 0 } s
    if !ack then companionAbsent p s1
    else
      let s2 := rfset s1 (preg Reg.AUX_BUS_STATUS p) 15 0 id
      if id % 65536 = pfld s p Reg.AUX_BUS_ID 15 0 then s2 else companionAbsent p s2
/-- CB_TRANSACTION_DONE (R494, R303, R305): the front transaction of port `p` ends, acknowledged or not. -/
def cbDone (p : Nat) (ack : Bool) (s : State) : State :=
  let x := portOf s p
  if 2 ≤ p ∨ x.bus = 0 ∨ !(up s (0x50300 + p)) then s
  else if x.bus = 3 ∧ x.ident.any (fun i => !i.2) then idRead p s
  else if !ack then cbFail p s
  else if x.bus = 3 ∧ x.ident.isSome then idRead p s
  else
    let s1 := setPort p { x with tx := x.tx.drop 1, rep := false, restarts := 0 } s
    if 1 < x.tx.length then s1
    else if x.bus = 3 then discoveryEnd p s1
    else
      match x.change with
      | some c => if x.bus = 1 then changeWritten p c s1 else s1
      | none => modPort p (fun x => { x with bus := 0 }) s1
/-- CB_CONTENTION_RESTART (R496): three restarts, then the transaction fails. -/
def cbRestart (p : Nat) (s : State) : State :=
  let x := portOf s p
  if 2 ≤ p ∨ x.bus = 0 ∨ !(up s (0x50300 + p)) then s
  else if x.restarts < 3 then setPort p { x with restarts := x.restarts + 1 } s
  else cbFail p s
/-- CB_STRETCH_TIMEOUT (R494): in a transaction the bus is found faulty, and the companion is absent. -/
def cbTimeout (p : Nat) (s : State) : State :=
  if configured s p && up s (0x50300 + p) && (portOf s p).bus != 0 then companionAbsent p s else s
/-- CONTEXT_CHANGE_WRITE (R301, R302): the oldest waiting change of port `p` is written once no context is pending or
retiring and no discovery is due (R495, R497). -/
def changeWrite (p : Nat) (s : State) : State :=
  let x := portOf s p
  match x.wait with
  | [] => s
  | c :: rest =>
    if 2 ≤ p ∨ !(up s (0x50300 + p)) ∨ x.absent ∨ x.bus ≠ 0 ∨ x.cure ≠ 0 ∨ (ctxWith x 2).isSome ∨ (ctxWith x 3).isSome then s
    else
      let c1 := if c.src = 2 then
          { c with expL := (ctxNow x).expL, expS := (ctxNow x).expS, gain := (ctxNow x).gain, k := (ctxNow x).k, epoch := x.epoch }
        else { c with tb := s.col.tb }
      setPort p { x with wait := rest, bus := 1, change := some c1, tx := changeWrites s p c1, rep := false, restarts := 0 } s
/-- CTX_WITHDRAW (R304): the frame of the pending context did not begin within 1 s. -/
def ctxWithdraw (p : Nat) (s : State) : State :=
  if decide (p < 2) && (ctxWith (portOf s p) 2).isSome && up s (0x50300 + p) then withdrawChange p s else s
/-- A temperature-band change of a configured port (R301): one that still waits is replaced, with 0x516. -/
def auxTbChange (b : Nat) (s : State) : State :=
  (List.range 2).foldl (fun s p =>
    if !(configured s p) || (portOf s p).absent then s
    else
      let x := portOf s p
      let c : AuxChange := ⟨2, 0, 0, 0, 0, b, 0⟩
      if x.wait.any (fun w => w.src == 2) then
        raiseAux 0x516 (0x50300 + p) p [] (setPort p { x with wait := x.wait.filter (fun w => w.src != 2) ++ [c] } s)
      else setPort p { x with wait := x.wait ++ [c] } s) s
/-- The staged values of port `p` differ from the active ones (R301). -/
def auxStaged (s : State) (p : Nat) : Bool :=
  configured s p && (List.range 4).any (fun i => rnat s (preg Reg.AUX_STG_EXPL p + 4 * i) != rnat s (preg Reg.AUX_EXPL p + 4 * i))
/-- The staged companion values are in range (R301, R284). -/
def auxStagedOk (s : State) (p : Nat) : Bool :=
  let l := rnat s (preg Reg.AUX_STG_EXPL p)
  let sh := rnat s (preg Reg.AUX_STG_EXPS p)
  rnat s (preg Reg.AUX_STG_K p) != 0 && (pcfg s p 21 20 == 0 || (sh != 0 && decide (sh ≤ l)))
/-- What a commit checks of the companion ports (R301): 5 while a change has not taken effect, 8 for a range. -/
def auxCommitCheck (s : State) : Option Nat :=
  let ps := (List.range 2).filter (auxStaged s)
  if ps.any (fun p => changeOpen (portOf s p)) then some 5
  else if ps.any (fun p => !(auxStagedOk s p)) then some 8 else none
/-- A commit copies the staged companion values of epoch `e` (R96, R301). -/
def auxCommit (e : Nat) (s : State) : State :=
  ((List.range 2).filter (auxStaged s)).foldl (fun s p =>
    let v := fun i => rnat s (preg Reg.AUX_STG_EXPL p + 4 * i)
    modPort p (fun x => { x with host := some ⟨1, v 3, v 0, v 1, v 2, 0, e⟩ }) s) s
/-- A commit that is withdrawn takes its companion values with it (R98). -/
def auxUncommit (s : State) : State :=
  (List.range 2).foldl (fun s p => modPort p (fun x => { x with host := none }) s) s
/-- The boundary of L_apply (R301): the host change waits to be written, and the active registers show it. While the
companion is absent no change is written. -/
def auxApply (s : State) : State :=
  (List.range 2).foldl (fun s p =>
    let x := portOf s p
    match x.host with
    | none => s
    | some c =>
      let s1 := setPort p { x with host := none, epoch := c.epoch, wait := if x.absent then x.wait else x.wait ++ [c] } s
      rsets s1 [(preg Reg.AUX_EXPL p, c.expL), (preg Reg.AUX_EXPS p, c.expS), (preg Reg.AUX_GAIN p, c.gain), (preg Reg.AUX_K p, c.k)]) s

/-- A turn of the exposure loop is allowed (R306): no change of the port is pending, retiring, waiting or being written. -/
def loopFree (s : State) (p : Nat) : Bool :=
  let x := portOf s p
  !(changeOpen x) && (ctxWith x 3).isNone && x.bus == 0 && x.cure == 0 && !x.absent && (ctxWith x 1).isSome && up s (0x50300 + p)
/-- The exposure loop counts a frame that ends (R306): at every PERIOD-th one it has its turn, unless a change is open. The turn
waits until the last line of the frame has been stored. Log entry 276. -/
def loopCount (p : Nat) (s : State) : State :=
  let x := portOf s p
  let cfg := rnat s (preg Reg.AUX_LOOP_CFG p)
  if !(bit cfg 31) then s
  else if x.sinceLoop + 1 < bits cfg 23 16 then setPort p { x with sinceLoop := x.sinceLoop + 1 } s
  else setPort p { x with sinceLoop := 0, loopDue := if loopFree s p then some x.frames else none } s
/-- A line of frame `f` has not yet been stored. -/
def frameOpen (x : AuxPort) (f : Nat) : Bool :=
  x.ring.any (fun l => l.frame == f && l.freeAt.isNone) || x.carry.any (fun r => r.frame == f && !r.out) ||
    (match x.long with | some l => l.1.frame == f | none => false)
/-- A turn of the exposure loop (R306): the short exposure scales with the long one. A frame that stored no unsaturated pixel has
no mean, and a long exposure of 0 has no ratio: both are free values (log entry 307). -/
def exposureLoop (p : Nat) (s : State) : State :=
  let x := portOf s p
  match x.loopDue with
  | none => s
  | some fr =>
  if frameOpen x fr then s
  else if !(loopFree s p) then setPort p { x with loopDue := none } s
  else
    let s0 := setPort p { x with loopDue := none } s
    let c := ctxNow x
    let acc := if x.acc.1 = fr ∧ x.acc.2.2 ≠ 0 then (((x.acc.2.1, x.acc.2.2) : Int × Nat), s0)
      else
        let f := takeFree Config.free32 s0
        ((f.1.toInt, 1), f.2)
    let s1 := acc.2
    let t := c.expL
    let tgt : Int := (pfld s p Reg.AUX_LOOP_TGT 19 0 : Nat) - (ped s : Int)
    let raw : Int := if acc.1.1 ≤ 0 then 2 * t else clampI (t / 2 : Nat) (2 * t : Nat) (roundDiv (t * tgt * acc.1.2) acc.1.1)
    let mx : Int := pfld s p Reg.AUX_LOOP_LIM 31 16
    let mn : Int := pfld s p Reg.AUX_LOOP_LIM 15 0
    let t1 := (clampI mn mx raw).toNat
    let s2 := if raw < mn ∨ mx < raw then raiseAux 0x510 (0x50300 + p) p [] s1 else s1
    if ((t1 : Int) - t).natAbs * 64 < t then s2
    else
      let f := if t = 0 ∨ t1 = 0 then takeFree Config.free32 s2 else (0#32, s2)
      let g := if t = 0 ∨ t1 = 0 then takeFree Config.free32 f.2 else (0#32, f.2)
      let sh := if t = 0 then f.1.toNat % 2 ^ 24 else (roundDiv (c.expS * t1 : Nat) (t : Nat)).toNat % 2 ^ 24
      let k1 := if t1 = 0 then g.1.toNat else min (2 ^ 32 - 1) (roundDiv (c.k * t : Nat) (t1 : Nat)).toNat
      rwrap (modPort p (fun x => { x with wait := x.wait ++ [⟨3, k1, t1, sh, c.gain, s.col.tb, x.epoch⟩] }) g.2)
        (preg Reg.AUX_LOOP_STATUS p) 31 16 1

/-- What follows each command of the companion inputs: contexts that no line uses any more become free (R300), and a turn of
the exposure loop runs once its frame is stored (R306). -/
def auxSettle (s : State) : State := exposureLoop 1 (exposureLoop 0 (contextsRetire s))

/-- COMPANION_FRAME_END (R280): FVAL falls on port `p`; a line still in progress ends with the words `ws`. -/
def companionFrameEnd (p : Nat) (ws : List Nat) (s : State) : State :=
  let x0 := portOf s p
  if !(configured s p) || !(up s (0x50000 + p)) || !x0.fval then s
  else
    let s1 := lineDone p ws s
    let x := portOf s1 p
    let fl := pfld s p Reg.AUX_PORT_GEOM 28 16
    let short := fl != 0 && decide (x.rows < fl)
    let s2 := rset (setPort p { x with fval := false } s1) (preg Reg.AUX_PORT_LAST p)
      (packMsb [(b2n short, 1), (b2n x.fLong, 1), (b2n x.fChk, 1), (0, 16), (x.rows, 13)])
    let s3 := if short then raiseAux 0x501 (0x50000 + p) p [] (rsat s2 (preg Reg.AUX_PORT_FRAMEERR p) 31 16 1) else s2
    let s4 := if x.ring.any (fun l => l.frame == x.frames && l.freeAt.isNone) then s3 else flushCarry p s3
    loopCount p s4

/-- PORT_SILENT (R310). -/
def portSilent (p : Nat) (s : State) : State :=
  if configured s p && up s (0x50000 + p) && !(portOf s p).silent then
    raiseAux 0x506 (0x50000 + p) p [] (modPort p (fun x => { x with silent := true }) s)
  else s

/-- The register read of R299 step 2 (R494): address byte with W, ID register, address byte with R. Log entry 308. -/
def idReadTx (s : State) (p : Nat) : List Byte :=
  let c := rnat s (preg Reg.AUX_BUS_CFG p)
  let a := bits c 31 25
  BitVec.ofNat 8 (2 * a) :: beBytes (if bit c 22 then 2 else 1) (pfld s p Reg.AUX_BUS_ID 31 16) ++ [BitVec.ofNat 8 (2 * a + 1)]
/-- COMPANION_DISCOVERY (R299, R495): the discovery that is due begins. `clocks` pulses of the hang cure, `free` when SDA was
released; `id` is the ID that the companion holds, `ack` whether it acknowledges its address. The transactions of R299 follow: the
ID read, the initial list, the list of the temperature band in force, and the exposure and gain of the active registers, or of the
current context after a reset of the controller. A cure that fails after a reset is not part of discovery. Log entries 275, 178. -/
def discovery (p clocks : Nat) (free : Bool) (id : Nat) (ack : Bool) (s : State) : State :=
  let x0 := portOf s p
  if !(configured s p) || !(up s (0x50300 + p)) || x0.bus != 0 || x0.cure == 0 then s
  else
    let check := pfld s p Reg.AUX_BUS_ID 31 16 != 0xFFFF
    let s1 := setPort p { x0 with cure := 0, bus := if free || x0.cure == 1 then 3 else 0, tx := [], rep := false, restarts := 0 }
      (if clocks = 0 then s else rsat s (preg Reg.AUX_BUS_STATUS p) 23 16 1)
    if !free then companionAbsent p s1
    else
      let x := portOf s1 p
      let exp := match ctxWith x 1 with
        | some i => expWrites s1 p (ctxAt x i).expL (ctxAt x i).expS (ctxAt x i).gain
        | none => expWrites s1 p (rnat s (preg Reg.AUX_EXPL p)) (rnat s (preg Reg.AUX_EXPS p)) (rnat s (preg Reg.AUX_GAIN p))
      setPort p { x with
        ident := if check then some (id, ack) else if ack then none else some (id, false)
        tx := (if check then [idReadTx s1 p] else []) ++ busList s1 (0x24200 + 0x400 * p) 32 ++ tbList s1 p s.col.tb ++ exp } s1

/-! ### Join (R281, R291-R293) -/

/-- LIN20 of a code, with the mark of saturation. -/
def decode20 (q : Nat) : Nat := if q = 0xFFFF then 0xFFFFF else decode16 q
/-- RESAMPLE of a stored line at column `c` (R291). -/
def resample (s : State) (p : Nat) (a : AuxStored) (c : Nat) : Nat :=
  let e := ofLe (mgets 0#8 s.aux.tmem (0x12000 * p + 4 * c) 4) % 2 ^ 19
  let i := e / 64
  let f := e % 64
  let x0 := decode20 (a.codes.getD i 0)
  let x1 := decode20 (a.codes.getD (if i + 1 < a.codes.length then i + 1 else i) 0)
  if x0 = 0xFFFFF ∨ (x1 = 0xFFFFF ∧ f ≠ 0) then 0xFFFFF else ((64 - f) * x0 + f * x1 + 32) / 64
/-- The lines a and b of registered line `l` (R292). -/
def joinLines (x : AuxPort) (l : Nat) : Option AuxStored × Option AuxStored :=
  let at' := 16 * l
  ((x.store.filter (fun a => decide (diffMod 36 a.lam at' ≤ 0))).getLast?,
   x.store.find? (fun a => decide (0 < diffMod 36 a.lam at')))
/-- The outcome of a join (R292): the codes of the band with the epoch of line a, or none when ABSENT; whether it is a DL_AUX
miss; and 16 λ of the line used as a. -/
structure Joined where
  codes : Option (Map Nat × Nat)
  miss : Bool
  used : Option Nat
  deriving DecidableEq, Repr
/-- COMPANION_JOIN (R292): the outcome of band CBp for a registered line. -/
def joinBand (s : State) (p : Nat) (r : RegLine) : Joined :=
  let x := portOf s p
  let ab := joinLines x r.l
  let mark := pfld s p Reg.AUX_PORT_MARK 2 0
  let w := r.set.gwin
  let cols := (List.range (8 * w.2)).map (fun i => 8 * w.1 + i)
  let out := fun (f : Nat → Nat) => cols.filterMap (fun c => let q := encode16 (f c); if q = 0 then none else some (c, q))
  let waits := (x.cur.isSome || x.ring.any (fun l => l.freeAt.isNone) || x.carry.any (fun c => !c.out) || x.long.isSome) &&
    !inReset s (0x50100 + halfOf s p)
  let ok := fun (ls : List AuxStored) => ls.all (fun a => a.marks &&& mark == 0)
  if x.absent || !x.discOk || inReset s (0x50200 + p) || inReset s (0x50000 + p) then ⟨none, false, none⟩
  else
    match ab with
    | (some a, b) =>
      if a.lam = 16 * r.l then ⟨if ok [a] then some (out (resample s p a), a.ctx.epoch) else none, false, some a.lam⟩
      else
        match b with
        | some b =>
          let gap := (diffMod 36 b.lam a.lam).toNat
          if pfld s p Reg.AUX_PORT_ALIGN 15 0 < gap then ⟨none, false, none⟩
          else if !(ok [a, b]) then ⟨none, false, some a.lam⟩
          else
            let phi := (roundDiv (16 * diffMod 36 (16 * r.l) a.lam) (gap : Nat)).toNat
            ⟨some (out (fun c =>
              let u := resample s p a c
              let v := resample s p b c
              if (u = 0xFFFFF ∧ phi ≠ 16) ∨ (v = 0xFFFFF ∧ phi ≠ 0) then 0xFFFFF else ((16 - phi) * u + phi * v + 8) / 16),
              a.ctx.epoch), false, some a.lam⟩
        | none => ⟨none, waits, none⟩
    | (none, some _) => ⟨none, false, none⟩
    | (none, none) => ⟨none, waits, none⟩
/-- The companion bands join a registered line (R292, R293); stored lines before the one used as a retire (R288). -/
def companionJoin (r : RegLine) (s : State) : RegLine × State :=
  let r0 := { r with capEpoch := r.capEpoch ++ [0, 0] }
  (List.range 2).foldl (fun (q : RegLine × State) p =>
    let s := q.2
    let r := { q.1 with ports := if configured s p then q.1.ports ||| 2 ^ p else q.1.ports }
    if !(configured s p) || r.gap then (r, s)
    else
      let j := joinBand s p r
      let s0 := rset s Reg.AUX_JOIN_STATUS r.l
      let s1 := match j.used with
        | some lam => modPort p (fun x => { x with store := x.store.filter (fun a => decide (0 ≤ diffMod 36 a.lam lam)) }) s0
        | none => s0
      match j.codes with
      | some (codes, e) =>
        ({ r with
            codes := r.codes ++ codes.map (fun c => (18432 * (9 + p) + c.1, c.2)), capEpoch := r.capEpoch.set (9 + p) e }, s1)
      | none =>
        ({ r with absent := r.absent ||| 2 ^ (9 + p) },
          if j.miss then dlMiss 7 (0x50200 + p) [9 + p, r.l] 2 (coSector 15 (9 + p) r.l) s1 else s1)) (r0, s)

/-- Epochs that nothing holds any more retire (R101). -/
def epochsRetire (s : State) : State := retireEpochs (auxHolds s) s

/-! ### Resets and views (R497, R523, R313) -/

/-- AUX functions at quiesce (R523). -/
def auxResetScope (fid : Nat) (s : State) : State :=
  let p := fid % 0x100
  if 0x50000 ≤ fid ∧ fid ≤ 0x50001 then
    modPort p (fun x => ctxRetire { x with
      fval := false, cur := none, rows := 0, ring := x.ring.filter (fun l => !(l.frame == x.frames && l.freeAt.isNone && x.fval)) }) s
  else if fid = 0x50100 ∨ fid = 0x50101 then
    (List.range 2).foldl (fun s q =>
      if halfOf s q ≠ p then s
      else
        let x := portOf s q
        let ks := (x.ring.filter (fun l => l.freeAt.isNone)).foldl (fun (a : List (Nat × Nat)) l =>
          if a.contains (l.frame, l.row / 16) then a else a ++ [(l.frame, l.row / 16)]) []
        rsat (setPort q (ctxRetire { x with ring := [], carry := [], long := none }) s) (preg Reg.AUX_PORT_DROP q) 31 16 ks.length) s
  else if 0x50300 ≤ fid ∧ fid ≤ 0x50301 then
    modPort p (fun x =>
      let again := match x.change, ctxWith x 2 with
        | some c, _ => [c]
        | none, some i =>
          let c := ctxAt x i
          [AuxChange.mk c.src c.k c.expL c.expS c.gain s.col.tb c.epoch]
        | none, none => []
      { x with
        change := none, bus := 0, tx := [], rep := false, restarts := 0, wait := again ++ x.wait, ident := none
        cure := if configured s p && x.cure == 0 then 2 else x.cure
        ctx := x.ctx.map (fun c => if c.st = 2 then AuxCtx.reset else c) }) s
  else s

/-- AUX_CLEAR (R313). -/
def auxClear (v : Nat) (s : State) : State :=
  if bit v 0 then
    (List.range 2).foldl (fun s p =>
      let s1 := rclear s ([Reg.AUX_PORT_FRAMES, Reg.AUX_PORT_CHK, Reg.AUX_PORT_LINEERR, Reg.AUX_PORT_FRAMEERR,
        Reg.AUX_PORT_DROP, Reg.AUX_PORT_STORE].map (fun a => preg a p))
      rfset (rfset (rfset s1 (preg Reg.AUX_PORT_RING p) 15 0 0) (preg Reg.AUX_BUS_STATUS p) 31 16 0)
        (preg Reg.AUX_LOOP_STATUS p) 31 16 0) (rclear s [Reg.AUX_SWITCHES, Reg.AUX_ABORTS])
  else s

/-- AUX registers that show state (R313). -/
def viewAux (s : State) (a : Nat) : Option Nat :=
  let now := s.aux.prog.filter (fun q => decide (s.t < q.2.2.2.2))
  let spent := fun (b : Nat × Nat × Nat) => min s.t (b.2.1 + b.2.2) - max b.2.1 (s.t - 200000)
  if a = Reg.AUX_STATUS then
    some (packMsb [(b2n (portOf s 1).absent, 1), (b2n (portOf s 0).absent, 1),
      ((match now with | q :: _ => if s.t < q.2.2.2.1 then 3 else q.1 + 1 | [] => 0), 2)])
  else if a = Reg.AUX_LOAD then
    some (packMsb ([1, 0].map (fun h =>
      (min 255 (255 * nsum ((s.aux.busy.filter (fun b => b.1 == h)).map spent) / 200000), 8))))
  else if 0x500100 ≤ a ∧ a < 0x500300 then
    let p := (a - 0x500100) / 0x100
    let x := portOf s p
    let b := a - 0x100 * p
    if b = Reg.AUX_PORT_ALIGN then
      some (packMsb [(if s.mgt.loaded then 262144 / (2 * linePx s p) else 0, 14), (rfld s a 15 0, 16)])
    else if b = Reg.AUX_PORT_STATUS then
      some (packMsb [(b2n x.fval, 1), (b2n x.silent, 1), (b2n x.absent, 1), (b2n x.discOk, 1), (0, 28)])
    else if b = Reg.AUX_PORT_CTX then
      let n := if bit (rnat s (preg Reg.AUX_BUS_CFG p)) 17 then x.lvals else x.frames
      let pend := ctxWith x 2
      some (packMsb [((ctxWith x 1).getD 0, 2), (pend.getD 0, 2), (b2n pend.isSome, 1),
        (b2n (x.wait.any (fun w => w.src == 2)), 1), (0, 2), ((ctxNow x).epoch, 8),
        ((match pend with | some i => (ctxAt x i).eff - n | none => 0), 16)])
    else if b = Reg.AUX_LOOP_STATUS then some (rfld s a 31 16 * 65536 + min 0xFFFF (ctxNow x).expL)
    else none
  else if 0x500400 ≤ a ∧ a < 0x500480 then
    let p := (a - 0x500400) / 0x40
    let c := ctxAt (portOf s p) ((a - 0x500400) % 0x40 / 0x10)
    some (match a % 0x10 / 4 with
      | 0 => c.k
      | 1 => (if c.expS = 0 then 0 else min 65535 (roundDiv (256 * c.expL : Nat) (c.expS : Nat)).toNat) * 65536
      | 2 => c.black
      | _ => packMsb [(c.st, 2), (c.src, 2), (0, 4), (c.epoch, 8), (c.eff, 16)])
  else none

/-- Bits of byte `a` of the table memory that an entry has: the others read 0 (R291, R302, R314). -/
def tmemMask (a : Nat) : Byte :=
  if a < 0x24000 then (if a % 4 = 2 then 7#8 else if a % 4 = 3 then 0#8 else 0xFF#8)
  else if 0x24200 ≤ a ∧ a % 8 = 6 then 0xE0#8
  else 0xFF#8
/-- The AUX table memory is loaded (R314). -/
def tmemWrite (a : Nat) (bs : List Byte) (s : State) : State :=
  { s with aux := { s.aux with
    tmem := mputs 0#8 s.aux.tmem a ((bs.zip (List.range bs.length)).map (fun b => b.1 &&& tmemMask (a + b.2))) } }
/-- The 128 bits at AUX_TMEM_ADDR (R313). -/
def auxTmemWord (s : State) (i : Nat) : Nat := ofLe (mgets 0#8 s.aux.tmem (16 * rfld s Reg.AUX_TMEM_ADDR 13 0 + 4 * i) 4)

end Sys2Proof.Machine
end

