-- ==== Sys2Proof/Machine/Events.lean ====
section
/-! DEFINITION. The event tree's clears and the event recorder (R506-R515, R519, R566), the mirror queue and its
credit (R517, R518). -/

namespace Sys2Proof.Machine

/-! ### Record granules (R507, R508, R510) -/

/-- Granule 0 of a record. -/
def granule0 (code len upd seq t l : Nat) : BitVec 128 :=
  BitVec.ofNat 128 (packMsb [(0xA, 4), (code, 12), (len - 1, 2), (upd, 6), (seq, 32), (t, 48), (l, 24)])

/-- Granule 1 of a record: function, S, CTAG, COORD and A0. -/
def granule1 (r : Rec) : BitVec 128 :=
  BitVec.ofNat 128 (packMsb [(r.fid, 20), (r.s, 32), (r.ctag, 4), (r.coord, 40), (r.args.getD 0 0, 32)])

/-- Granule 2 or 3 of arguments from A`i`: argument j of the granule in bits [32j + 31:32j]. -/
def granuleArgs (r : Rec) (i : Nat) : BitVec 128 :=
  BitVec.ofNat 128 (packMsb [(r.args.getD (i + 3) 0, 32), (r.args.getD (i + 2) 0, 32), (r.args.getD (i + 1) 0, 32),
    (r.args.getD i 0, 32)])

/-- Granule 3 of a privileged record (R510). -/
def granuleRepeat (rep t s l : Nat) : BitVec 128 :=
  BitVec.ofNat 128 (packMsb [(satN 24 rep, 24), (t, 48), (s, 32), (l, 24)])

/-- Granules a record takes (R508, R510). -/
def recLen (r : Rec) : Nat :=
  if r.priv then 4 else if r.args.length ≤ 1 then 2 else if r.args.length ≤ 5 then 3 else 4

/-- The granules of a record as it is first written; `rep` is REPEAT of a privileged one. LAST fields of a first write
are those of the occurrence (log entry 5). -/
def recGranules (r : Rec) (seq rep : Nat) : List (BitVec 128) :=
  let g0 := granule0 r.code (recLen r) 0 seq r.t r.l
  if r.priv then [g0, granule1 r, granuleArgs r 1, granuleRepeat rep r.t r.s r.l]
  else ([g0, granule1 r, granuleArgs r 1, granuleArgs r 5]).take (recLen r)

/-- The coordinate a record's key uses: without L for CTAG 2, the tick for CTAG 6 and the frame count for CTAG 7
(R510). -/
def coordKey (ctag coord : Nat) : Nat := if ctag = 2 ∨ ctag = 6 ∨ ctag = 7 then coord % 256 else coord

/-- Granules of the ring (R507). -/
def ringSize : Nat := 16384

/-- The granules of a record in the ring. -/
def ringRead (r : Recorder) (x : RingRec) : List (BitVec 128) := mgets 0#128 r.ring x.pos x.len

/-- Bytes of the records that are not privileged and wait to be mirrored (R518). -/
def backlog (r : Recorder) : Nat :=
  nsum (r.queue.map (fun q =>
    match r.recs.find? (fun x => x.seq == q && !x.priv) with
    | some x => 16 * x.len
    | none => 0))

/-! ### Placing and writing a record -/

/-- The first granule at or after `p` where `n` granules lie without a bad one and before the end of the ring, and
whether the writer passed the end (R507, R515). -/
def placeRec (bad : List Nat) (n : Nat) : Nat → Nat → Bool → Nat × Bool
  | 0, p, w => (p, w)
  | fuel + 1, p, w =>
    if ringSize < p + n then placeRec bad n fuel 0 true
    else
      match bad.find? (fun b => p ≤ b && b < p + n) with
      | some b => placeRec bad n fuel (b + 1) w
      | none => (p, w)

/-- A pad granule (R507). Pads take no SEQ and are never delivered (log entry 6). -/
def padGranule : BitVec 128 := BitVec.ofNat 128 (packMsb [(0xA, 4), (0, 124)])

/-- Free one old record for its granules: a privileged record that is not yet mirrored goes to the holding buffer of 64
granules, and is lost when that is full (R513). The flag says that one was lost. -/
def freeRec (x : RingRec) (r : Recorder) : Recorder × Bool :=
  let gone := { r with recs := r.recs.filter (fun y => y.seq != x.seq), table := r.table.filter (· != x.seq)
                       ring := mdel r.ring x.pos }
  if x.priv && !x.mirrored then
    if nsum (r.hold.map (fun h => h.2.length)) + x.len ≤ 64 then
      ({ gone with hold := r.hold ++ [(x.seq, ringRead r x)] }, false)
    else
      ({ gone with mLost := satN 8 (r.mLost + 1), queue := gone.queue.filter (· != x.seq) }, true)
  else ({ gone with queue := gone.queue.filter (· != x.seq) }, false)

/-- Free every record in `xs`, oldest first; with the number of those lost. -/
def freeRecs (xs : List RingRec) (r : Recorder) : Recorder × Nat :=
  xs.foldl (fun a x => let b := freeRec x a.1; (b.1, a.2 + b2n b.2)) (r, 0)

/-- The records up to the newest one that stands in the way: the writer frees the oldest records whole until there is room
(R513). -/
def freedFor (way : RingRec → Bool) : List RingRec → List RingRec
  | [] => []
  | x :: rest => if (x :: rest).any way then x :: freedFor way rest else []

/-- Write a new record into the ring (R511, R513): place, pads at the end of the ring, old records freed, granules
written, SEQ advanced; with the number of records lost. -/
def writeNew (x : Rec) (rep : Nat) (r : Recorder) : Recorder × Nat :=
  let n := recLen x
  let pl := placeRec r.bad n (2 * r.bad.length + 2) r.wpos false
  let p := pl.1
  let padded : List Nat := if pl.2 then (List.range (ringSize - r.wpos)).map (· + r.wpos) else []
  let way := fun (y : RingRec) =>
    (decide (y.pos < p + n) && decide (p < y.pos + y.len)) || (pl.2 && decide (r.wpos < y.pos + y.len))
  let fr := freeRecs (freedFor way r.recs) r
  let r1 := fr.1
  let ring1 := (padded.filter (fun g => !r.bad.contains g)).foldl (fun m g => mputD 0#128 m g padGranule) r1.ring
  let ring2 := mputs 0#128 ring1 p (recGranules x r.seq rep)
  let entry : RingRec := {
    pos := p, len := n, seq := r.seq, code := x.code, fid := x.fid, ctag := x.ctag
    coordKey := coordKey x.ctag x.coord, a0 := x.args.getD 0 0, priv := x.priv, mir := x.mir
    mirrored := false, mirT := none }
  ({ r1 with
      ring := ring2
      recs := r1.recs ++ [entry]
      wpos := (p + n) % ringSize
      seq := (r.seq + 1) % 2 ^ 32
      table := if x.priv then (r.seq :: r1.table).take 64 else r1.table }, fr.2)

/-- The record in the ring that a privileged occurrence updates (R510). -/
def repeatOf (x : Rec) (r : Recorder) : Option RingRec :=
  r.recs.find? (fun y => r.table.contains y.seq && y.code == x.code && y.fid == x.fid && y.ctag == x.ctag &&
    y.coordKey == coordKey x.ctag x.coord && y.a0 == x.args.getD 0 0)

/-- Update a privileged record in place: granule 3, then granule 0 with UPD + 1 (R510). -/
def updateRec (x : Rec) (y : RingRec) (rep : Nat) (r : Recorder) : Recorder :=
  let g3 := (mgetD r.ring (y.pos + 3) 0#128).toNat
  let g0 := (mgetD r.ring y.pos 0#128).toNat
  let ring1 := mputD 0#128 r.ring (y.pos + 3) (granuleRepeat (bits g3 127 104 + 1 + rep) x.t x.s x.l)
  let ring2 := mputD 0#128 ring1 y.pos (BitVec.ofNat 128 (setBits g0 109 104 (bits g0 109 104 + 1)))
  { r with
    ring := ring2
    recs := r.recs.map (fun z => if z.seq = y.seq then { z with mirrored := false } else z)
    table := y.seq :: r.table.filter (· != y.seq) }

/-! ### Mirror queue (R517, R518) -/

/-- Mirror credit now: it grows at MIRROR_RATE × 4 B/s up to 1 MiB (R517). -/
def creditNow (s : State) : Int :=
  let r := s.evt.rcd
  min 0x100000 (r.credit + ((rfld s Reg.MGT_REC_CFG 7 0 * 4 * (s.t - r.creditT) / 200000000 : Nat) : Int))

/-- The mirror credit is brought up to T, as before a change of its rate (R517). -/
def creditSettle (s : State) : State :=
  { s with evt := { s.evt with rcd := { s.evt.rcd with credit := creditNow s, creditT := s.t } } }

/-- The backlog has changed: above BACKLOG_MAX it is a DL_NVM miss; the waiting records that are not privileged leave
the queue and are counted, and non-privileged mirroring is suspended (R518). -/
def checkBacklog (s : State) : State :=
  let r := s.evt.rcd
  if rfld s Reg.MGT_REC_CFG 15 8 * 1024 < backlog r then
    let np := r.queue.filter (fun q => r.recs.any (fun x => x.seq == q && !x.priv))
    let r1 := { r with
      queue := r.queue.filter (fun q => !np.contains q)
      mDropped := r.mDropped + np.length
      suspended := true }
    dlMissUnless (inReset s 0xB0001 || inReset s 0xB0202) 9 0xB0201 [] 0 0 { s with evt := { s.evt with rcd := r1 } }
  else s

/-- A change of the backlog from `old` is compared with BACKLOG_MAX (R518). -/
def backlogJudged (old : Nat) (s : State) : State := if backlog s.evt.rcd = old then s else checkBacklog s

/-- The records of `xs` that the credit `c` lets go to the mirror, in order (R517): a privileged record always, one that is not
privileged while the credit is at least its size. Each spends its size. -/
def withinCredit (priv : Nat → Bool) : Int → List (Nat × List (BitVec 128)) → List (Nat × List (BitVec 128))
  | _, [] => []
  | c, x :: xs =>
    if priv x.1 || decide ((16 * x.2.length : Int) ≤ c) then x :: withinCredit priv (c - 16 * x.2.length) xs
    else withinCredit priv c xs

/-- Records that may go to the mirror now, oldest first (R517): those of the holding buffer, then those of the queue, as far as
the credit lets them. One that is not privileged waits while NP_MIRROR is 0 (R527). Log entry 365. -/
def mirrorWaiting (s : State) : List (Nat × List (BitVec 128)) :=
  let r := s.evt.rcd
  let priv := fun (q : Nat) => !r.recs.any (fun x => x.seq == q && !x.priv)
  withinCredit priv (creditNow s)
    (r.hold ++ (r.queue.filter (fun q => !r.hold.any (fun h => h.1 == q) && (priv q || rbit s Reg.MGT_REC_CFG 31))).filterMap (fun q =>
      (r.recs.find? (fun x => x.seq == q)).map (fun x => (q, ringRead r x))))

/-- Enter a record just written or updated into the mirror queue (R517): a privileged record when first written; a
record with MIRROR = 1 while non-privileged mirroring is allowed and not suspended. One that is not privileged waits there for
credit, and what waits is the backlog (R518). -/
def queueMirror (seq : Nat) (s : State) : State :=
  let r := s.evt.rcd
  match r.recs.find? (fun x => x.seq == seq) with
  | none => s
  | some x =>
    if r.queue.contains seq then s
    else if x.priv then { s with evt := { s.evt with rcd := { r with queue := r.queue ++ [seq] } } }
    else if x.mir && rbit s Reg.MGT_REC_CFG 31 && !r.suspended then
      checkBacklog { s with evt := { s.evt with rcd := { r with queue := r.queue ++ [seq] } } }
    else s

/-- The record waits of R566 that are offered to the intake next: the one raised first. -/
def firstWaiting (e : Evt) : Option (Nat × Rec) :=
  (e.src.filterMap (fun p => p.2.wait.map (fun w => (w.1, p.1, w.2)))).foldl
    (fun best w =>
      match best with
      | none => some (w.2.1, w.2.2)
      | some b => if w.1 < ((srcOf e b.1).wait.map (·.1)).getD 0 then some (w.2.1, w.2.2) else some b) none

/-- Move waiting records into the intake in the order they were raised, one at a time as entries free (R566). -/
def refillIntake : Nat → Evt → Evt
  | 0, e => e
  | n + 1, e =>
    if e.rcd.taking && decide (e.rcd.intake.length < 8) then
      match firstWaiting e with
      | none => e
      | some (code, r) =>
        let x := srcOf e code
        refillIntake n { e with
          src := mput e.src code { x with wait := none }
          rcd := { e.rcd with intake := e.rcd.intake ++ [r] } }
    else e

/-- The summary record of R512: raised once the intake has a free entry after drops, and after the waiting records of
R566. -/
def dropSummary (s : State) : State :=
  let r := s.evt.rcd
  if r.dropN ≠ 0 ∧ r.taking ∧ r.intake.length < 8 ∧ firstWaiting s.evt = none then
    raise0 0xB0E 0xB0201 [r.dropN, r.dropFirst + r.dropLast * 65536, r.dropT % 2 ^ 32]
      { s with evt := { s.evt with rcd := { r with dropN := 0, dropFirst := 0, dropLast := 0, dropT := 0 } } }
  else s

/-- Write the record at the front of the intake: a privileged one whose key matches updates its record, any other is
written new (R510, R511). -/
def writeFront (x : Rec) (rest : List Rec) (s : State) : State :=
  let src := srcOf s.evt x.code
  let rep := if x.priv then src.rep + x.rep else 0
  let src1 := if x.priv then mput s.evt.src x.code { src with rep := 0 } else s.evt.src
  let r0 := { s.evt.rcd with intake := rest }
  match (if x.priv then repeatOf x r0 else none) with
  | some y =>
    { s with evt := { s.evt with src := src1, rcd := updateRec x y rep r0 } }
  | none =>
    let w := writeNew x rep r0
    let s1 := { s with evt := { s.evt with src := src1, rcd := w.1 } }
    queueMirror r0.seq (backlogJudged (backlog s.evt.rcd) ((List.range w.2).foldl (fun s _ => raise0 0xB10 0xB0201 [2] s) s1))

/-- RECORD_WRITE (R511): the recorder serves the oldest intake entry, then takes waiting records and emits the summary of
R512. With no entry nothing happens. The stages of R511 fall within this step (log entry 7). -/
def recordWrite (s : State) : State :=
  match s.evt.rcd.intake with
  | [] => dropSummary { s with evt := refillIntake 8 s.evt }
  | x :: rest =>
    let s1 := writeFront x rest s
    dropSummary { s1 with evt := refillIntake 8 s1.evt }

/-! ### Reading records (R514) -/

/-- The valid record with the smallest SEQ not before the cursor (R514). -/
def latchPick (cursor : Nat) (recs : List RingRec) : Option RingRec :=
  recs.foldl (fun best x =>
    if (x.seq + 2 ^ 32 - cursor) % 2 ^ 32 < 2 ^ 31 then
      match best with
      | none => some x
      | some b =>
        if (x.seq + 2 ^ 32 - cursor) % 2 ^ 32 < (b.seq + 2 ^ 32 - cursor) % 2 ^ 32 then some x else some b
    else best) none

/-- RECORD_LATCH: the latch that a read of MGT_REC_WIN[0] makes (R514). -/
def recordLatch (s : State) : State :=
  let r := s.evt.rcd
  let cur := rnat s Reg.MGT_REC_CURSOR
  match latchPick cur r.recs with
  | none =>
    { s with evt := { s.evt with rcd := { r with window := [0, 0, 0, 0], winNone := true, jump := false } } }
  | some x =>
    let s1 := { s with evt := { s.evt with rcd := { r with
      window := (ringRead r x ++ [0, 0, 0]).take 4, winNone := false, jump := x.seq != cur } } }
    rset s1 Reg.MGT_REC_CURSOR ((x.seq + 1) % 2 ^ 32)

/-- REC_SEEK_OLDEST (R514). -/
def seekOldest (s : State) : State :=
  rset s Reg.MGT_REC_CURSOR ((s.evt.rcd.recs.head?.map (·.seq)).getD s.evt.rcd.seq)

/-- REC_SEEK_NEWEST (R514). -/
def seekNewest (s : State) : State :=
  rset s Reg.MGT_REC_CURSOR ((s.evt.rcd.recs.getLast?.map (·.seq)).getD s.evt.rcd.seq)

/-! ### Clears (R506) -/

/-- Clear pending bits of domain `d`, word `j`, where `v` has a 1 (EVT_PEND_CLEAR). -/
def evtPendClear (d j v : Nat) (s : State) : State :=
  { s with evt := { s.evt with src := s.evt.src.map (fun p =>
      if p.1 / 0x100 = d ∧ evtIndex p.1 / 32 = j ∧ bit v (evtIndex p.1 % 32) then (p.1, { p.2 with pend := false })
      else p) } }

/-- Clear every pending bit of domain `d` (EVT_CLEAR bit 0). -/
def evtClearPending (d : Nat) (s : State) : State :=
  { s with evt := { s.evt with src := s.evt.src.map (fun p =>
      if p.1 / 0x100 = d then (p.1, { p.2 with pend := false }) else p) } }

/-- Clear EVT_DROP and every EVT_STAT of domain `d` (EVT_CLEAR bit 1). -/
def evtClearStats (d : Nat) (s : State) : State :=
  { s with evt := { s.evt with
      src := s.evt.src.map (fun p => if p.1 / 0x100 = d then (p.1, { p.2 with occur := 0, drops := 0 }) else p)
      dropSquall := mdel s.evt.dropSquall d
      dropIntake := mdel s.evt.dropIntake d } }

/-! ### Mirroring again and resuming (R517, R518) -/

/-- The mirror queue with the records `add`, in the sequence order that the ring has: privileged records first, then those that are
not (R430 step 5). -/
def queueInOrder (add : List Nat) (r : Recorder) : List Nat :=
  let all := r.queue ++ add
  let priv := (r.recs.filter (fun x => x.priv && all.contains x.seq)).map (·.seq)
  priv ++ r.queue.filter (fun q => !priv.contains q)

/-- PRIV_REMIRROR (R517): an updated privileged record is queued for the mirror again, at most once per 10 s and at every orderly
stop, where it takes its place in sequence order (R430 step 5). -/
def privRemirror (seq : Nat) (s : State) : State :=
  let r := s.evt.rcd
  if r.recs.any (fun x => x.seq == seq && x.priv && !x.mirrored &&
      (s.thm.stop == 3 || (match x.mirT with | none => false | some t0 => decide (t0 + 2000000000 ≤ s.t)))) && !r.queue.contains seq then
    { s with evt := { s.evt with rcd := { r with
      queue := if s.thm.stop = 3 then queueInOrder [seq] r else r.queue ++ [seq] } } }
  else s

/-- MIRRORING_RESUMES (R518): suspended mirroring resumes once the credit has reached 64 KiB. -/
def mirroringResumes (s : State) : State :=
  if s.evt.rcd.suspended && decide ((0x10000 : Int) ≤ creditNow s) then
    { s with evt := { s.evt with rcd := { s.evt.rcd with suspended := false } } }
  else s

/-! ### Views of the event registers (R506, R527) -/

/-- Pending sources of domain `d`, as indices in rising order. -/
def pendIdx (s : State) (d : Nat) : List Nat :=
  (s.evt.src.filter (fun p => p.1 / 0x100 == d && p.2.pend)).map (fun p => evtIndex p.1)

/-- A source of domain `d` is pending and its EVT_CFG has bit `b` set. -/
def pendWith (s : State) (d b : Nat) : Bool :=
  s.evt.src.any (fun p => p.1 / 0x100 == d && p.2.pend && bit (evtCfg s p.1) b)

/-- Privileged sources now (R505, R527). -/
def privCount (s : State) : Nat :=
  nsum ((List.range 11).map (fun j =>
    ((List.range (evtCount (j + 1))).filter (fun i => bit (evtCfg s (evtCode (j + 1) i)) 29)).length))

/-- The value of an event register of domain `d` (R506). -/
def viewEvt (s : State) (d : Nat) (r : EvtReg) : Nat :=
  match r with
  | .sum =>
    packMsb [(0, 8), ((pendIdx s d).length, 8), ((pendIdx s d).foldl min 0xFF, 8), (b2n (pendWith s d 29), 1),
      (b2n (domAttn s s.evt.src d), 1), (b2n (pendWith s d 30), 1), (0, 5)]
  | .pend j => nsum (((pendIdx s d).filter (fun i => i / 32 == j)).map (fun i => 2 ^ (i % 32)))
  | .drop => mgetD s.evt.dropSquall d 0 * 65536 + mgetD s.evt.dropIntake d 0
  | .last => (mgetD s.evt.last d (0, 0)).1 * 2 ^ 20 + (mgetD s.evt.last d (0, 0)).2
  | .clear => 0
  | .cfg i => evtCfg s (evtCode d i)
  | .stat i => (srcOf s.evt (evtCode d i)).occur * 65536 + (srcOf s.evt (evtCode d i)).drops

/-- The recorder's registers (R527). -/
def viewRec (s : State) (a : Nat) : Option Nat :=
  let r := s.evt.rcd
  if a = Reg.MGT_REC_RSTAT then
    some (packMsb [(b2n r.winNone, 1), (b2n r.jump, 1), (bits ((r.window.getD 0 0).toNat) 109 104, 6), (0, 24)])
  else if a = Reg.MGT_REC_SEQ then some r.seq
  else if a = Reg.MGT_REC_CREDIT then some (ofSigned 32 (creditNow s))
  else if a = Reg.MGT_REC_BACKLOG then some (backlog r)
  else if Reg.MGT_REC_SENT ≤ a ∧ a < Reg.MGT_REC_SENT + 32 then
    match r.sent[(r.sentN + 7 - (a - Reg.MGT_REC_SENT) / 4) % 8]? with
    | some x => some (packMsb [(1, 1), (b2n x.mirrorOk, 1), (x.cause, 2), (0, 14), (x.granule, 14)])
    | none => some 0
  else if Reg.MGT_REC_WIN ≤ a ∧ a < Reg.MGT_REC_WIN + 64 then
    let i := (a - Reg.MGT_REC_WIN) / 4
    some (bits ((r.window.getD (i / 4) 0).toNat) (32 * (i % 4) + 31) (32 * (i % 4)))
  else if a = Reg.MGT_REC_MCOUNT then
    some (packMsb [(r.mPages, 16), (satN 8 r.mLost, 8), (satN 8 (r.mDropped / 256), 8)])
  else if a = Reg.MGT_REC_STATUS then
    some (packMsb [(r.bad.length, 14), (b2n r.sentUnmirrored, 1), (b2n r.suspended, 1), (privCount s, 6), (0, 2),
      (r.corr, 4), (r.intake.length, 4)])
  else none

/-- MGT_REC_CLEAR (R527). -/
def recClear (v : Nat) (s : State) : State :=
  let r := s.evt.rcd
  let r1 := if bit v 1 then { r with sent := [], sentN := 0, sentUnmirrored := false } else r
  { s with evt := { s.evt with rcd := if bit v 0 then { r1 with mPages := 0, mLost := 0, mDropped := 0 } else r1 } }

end Sys2Proof.Machine
end

