-- ==== Sys2Proof/Machine/Lanes.lean ====
section
/-! DEFINITION. Data lanes, lane sets, Fraral packets, the lane buffer, lane faults and sparing
(10_serial_lanes.md R315-R341, R351, R354; 01_architecture.md R32, R33, R39). -/

namespace Sys2Proof.Machine

/-- Lane set `n`. -/
def laneSet (s : State) (n : Nat) : LaneSet := mgetD s.lnk.sets n LaneSet.reset

/-- Change the serial lanes. -/
def lnkMod (f : Lnk → Lnk) (s : State) : State := { s with lnk := f s.lnk }

/-- Replace lane set `n`. -/
def putSet (n : Nat) (x : LaneSet) (s : State) : State := lnkMod (fun k => { k with sets := mput k.sets n x }) s

/-- Change lane set `n`. -/
def setMod (n : Nat) (f : LaneSet → LaneSet) (s : State) : State := putSet n (f (laneSet s n)) s

/-- Function ID of lane set `n`. -/
def setFid (n : Nat) : Nat := 0x70000 + n

/-- Function ID of data lane `i`. -/
def dtFid (i : Nat) : Nat := 0x70100 + i

/-- LNK_SET_CFG of set `n`. -/
def setCfg (n : Nat) : Nat := Reg.LNK_SET_CFG + 0x80 * n

/-- Set `n` is enabled. -/
def setEn (s : State) (n : Nat) : Bool := rbit s (setCfg n) 31

/-- NDATA as configured. -/
def cfgNdata (s : State) (n : Nat) : Nat := rfld s (setCfg n) 25 21

/-- The lane at position `p` of LNK_SET_LANES of set `n`. -/
def cfgLane (s : State) (n p : Nat) : Nat :=
  rfld s (Reg.LNK_SET_LANES + 0x80 * n + 4 * (p / 6)) (5 * (p % 6) + 4) (5 * (p % 6))

/-- Data slots and spares of set `n` as configured (R316). -/
def cfgSlots (s : State) (n : Nat) : List Nat × List Nat :=
  let d := cfgNdata s n
  ((List.range d).map (cfgLane s n), (List.range (rfld s (setCfg n) 27 26)).map (fun i => cfgLane s n (d + i)))

/-! ### Demand and capacity (R32, R33, R197) -/

/-- Line rate of a set in 100 kb/s. -/
def laneRate (s : State) (n : Nat) : Nat := [160000, 125000, 103125, 80000, 62500].getD (rfld s (setCfg n) 30 28) 0

/-- The set to which a family (and a plane, for VISION) is routed (R328). -/
def routeOf (s : State) (family plane : Nat) : Nat :=
  match family with
  | 0 => rfld s Reg.LNK_ROUTE0 (2 * plane + 1) (2 * plane)
  | 1 => rfld s Reg.LNK_ROUTE0 31 30
  | 2 => rfld s Reg.LNK_ROUTE1 1 0
  | 3 => rfld s Reg.LNK_ROUTE1 3 2
  | 4 => rfld s Reg.LNK_ROUTE1 5 4
  | _ => rfld s Reg.LNK_ROUTE1 7 6

/-- Priority class of a family (R197): 1 P1, 2 P2, 3 P3. -/
def famClass (family : Nat) : Nat := if family = 2 then 2 else if family = 3 then 3 else 1

/-- Demand of set `n`, in bits per second times 2 × max(1, DECIM), of the classes that `drop` (R327) does not name and of the
families that `shed` (MGT_SHED_STATUS) does not name (R197). -/
def demandOf (s : State) (n drop shed : Nat) : Nat :=
  let f := rfld s Reg.ARY_FMAX 15 0
  let dec := max 1 (rfld s Reg.PIP_DISP_CFG 21 16)
  let c := s.ary.set
  let w := 8 * c.gwin.2
  let gs := (winSectors c.gwin).2
  let out := fun b => rbit s Reg.PIP_OUT_CFG b
  let vis := if out 2 then nsum ((List.range 15).map (fun p =>
    if rbit s (Reg.PIP_VIS_PLANE + 4 * p) 0 && routeOf s 0 p == n then
      let k := if p < 9 then p else 4
      let secs := if 13 ≤ p then gs else (winSectors (c.win k)).2
      let h := if 13 ≤ p then 1 else 2 ^ c.bin k
      1536 * secs / h * (if rbit s (Reg.PIP_VIS_PLANE + 4 * p) 1 then 12 else 16)
    else 0)) else 0
  let cls := if out 3 && routeOf s 1 0 == n then 1536 * gs * 4 else 0
  let rows := nsum ((List.range 9).map (fun k =>
    ((List.range 16).filter (fun r => rbit s (Reg.PIP_RAW_ROWS + 4 * k) r && c.rowEn k r)).length)) +
    b2n (rbit s Reg.PIP_RAW_CFG 31)
  let raw := if out 4 && routeOf s 4 0 == n then 1536 * gs * 12 * rows else 0
  let half := if rbit s Reg.PIP_CODE_CFG 2 then 1 else 2
  let code := if out 1 && routeOf s 2 0 == n then
      (if rfld s Reg.PIP_CODE_CFG 1 0 = 0 then 20 * w * half * dec else 15 * w * half * dec) else 0
  let disp := if out 0 && routeOf s 3 0 == n then 2 * 24 * (w / max 1 (rfld s Reg.PIP_DISP_CFG 27 24)) else 0
  let recs := if bit (rfld s Reg.LNK_CFG 27 24) n then 800 * Config.maxObjectRate.toNat * 2 * dec else 0
  (if bit drop 2 then 0 else ((if bit shed 2 then 0 else vis + raw) + cls) * f * 2 * dec) +
    (if bit drop 1 || bit shed 1 then 0 else code * f) + (if bit drop 0 || bit shed 0 then 0 else disp * f) + recs

/-- Demand of set `n` as configured, without the classes of `drop`. -/
def demand (s : State) (n drop : Nat) : Nat := demandOf s n drop 0

/-- The divisor that goes with `demand`. -/
def demandDiv (s : State) : Nat := 2 * max 1 (rfld s Reg.PIP_DISP_CFG 21 16)

/-- 1.02 × D ≤ num / 100 × C over `slots` lanes (R32 with 95, R33 with 100). -/
def fits (s : State) (n drop slots num : Nat) : Bool :=
  decide (102 * demand s n drop * 66 ≤ num * (slots * laneRate s n * 100000 * 64) * demandDiv s)

/-- C of `slots` lanes in 0.1 Gb/s. -/
def capacityOf (s : State) (n slots : Nat) : Nat := (roundDiv (slots * laneRate s n * 64 : Nat) (66 * 1000 : Nat)).toNat

/-- 1.02 × D in 0.1 Gb/s. -/
def framedDemand (s : State) (n : Nat) : Nat :=
  (roundDiv (102 * demand s n 0 : Nat) (100 * 100000000 * demandDiv s : Nat)).toNat

/-- MGT_BUDGET_LANE of set `n`. -/
def budgetLane (n : Nat) : Nat := Reg.MGT_BUDGET_LANE + 4 * n

/-- The lane check of R32 for set `n`, with its report (R39); whether it passes. Log entry 273. -/
def laneCheck (n : Nat) (s : State) : Bool × State :=
  if setEn s n then
    let ok := fits s n 0 (cfgNdata s n) 95
    (ok, lnkMod (fun k => { k with checked := if k.checked.contains n then k.checked else n :: k.checked })
      (rfset (rfset s (budgetLane n) 31 20 (framedDemand s n)) (budgetLane n) 0 0 (b2n ok)))
  else (true, s)

/-! ### Words (R317-R327, R335) -/

/-- A FILL word (R317). -/
def fillWord : BitVec 128 := BitVec.ofNat 128 (0xF * 2 ^ 124)

/-- A packet header (R321). -/
def packetHeader (typ cls set len seq spec : Nat) (resent : Bool) : Nat :=
  packMsb [(typ, 4), (cls, 2), (set, 2), (len, 12), (seq, 32), (spec, 58), (0, 1), (b2n resent, 1), (0, 16)]

/-- The words of a packet: header, payload, trailer with the CRC-32 (R320, R325). -/
def packetWords (header : Nat) (payload : List (BitVec 128)) : List (BitVec 128) :=
  let ws := BitVec.ofNat 128 header :: payload
  ws ++ [BitVec.ofNat 128 (crc32 (ws.flatMap (fun w => leBytes 16 w.toNat)))]

/-- The words of a packet of set `n` under sequence `seq`. -/
def lpktWords (n seq : Nat) (p : LPkt) : List (BitVec 128) :=
  packetWords (packetHeader p.typ p.cls n p.payload.length seq p.spec p.resent) p.payload

/-- The UNIT packets of a line unit (R323). -/
def unitPackets (cls : Nat) (u : LineUnit) : List LPkt :=
  let ws := [u.desc, u.fmt] ++ u.desc2.toList ++ u.payload
  let c := (ws.length + 255) / 256
  (List.range c).map (fun i =>
    ⟨0, cls, packMsb [(256 * i, 13), (b2n (i + 1 == c), 1), (u.family, 4), (u.plane, 8), (u.l, 32)],
      (ws.drop (256 * i)).take 256, none, false⟩)

/-- The RECORDS packet of an open one (R324). -/
def recordsPacket (r : OpenRecs) : LPkt := ⟨1, 0, packMsb [(r.n, 8), (0, 50)], r.words, none, false⟩

/-- The two payload words of a LANE_MAP packet (R335). -/
def laneMapWords (eff mapSeq spares lane cause : Nat) (sudden : Bool) (slots : List Nat) : List (BitVec 128) :=
  [BitVec.ofNat 128 (packMsb [(eff, 48), (mapSeq, 4), (slots.length, 5), (spares, 2), (lane, 5), (cause, 3),
      (b2n sudden, 1), (0, 60)]),
   BitVec.ofNat 128 (nsum ((List.range 22).map (fun i => slots.getD i 31 * 2 ^ (5 * i))))]

/-- The payload word of a STATUS packet (R327). -/
def statusWord (s : State) (n : Nat) (calm : Bool) (cause lEff : Nat) : BitVec 128 :=
  let x := laneSet s n
  BitVec.ofNat 128 (packMsb [(b2n calm, 4), (rfld s Reg.MGT_SHED_STATUS 11 8, 4), (x.drop, 4), (lEff, 32),
    (x.slots.length, 5), (x.mapSeq, 4), (capacityOf s n x.slots.length, 12), (rfld s (budgetLane n) 31 20, 12),
    (cause, 6), (0, 45)])

/-- The next registered line (R327 L_EFF, R332). -/
def nextRegLine (s : State) : Nat := (s.pip.drawn.map (fun l => (l + 1) % 2 ^ 32)).getD 0

/-- Queue a STATUS packet on set `n` that is UP (R327, R340: the first is that of bring-up). Causes 1 to 5 and 7 begin a state
whose first line is the next registered line; the heartbeat and the calm status repeat the L_EFF of the state in force. -/
def sendStatus (n cause : Nat) (s : State) : State :=
  let x := laneSet s n
  let le := if cause = 0 ∨ cause = 6 then x.lEff else nextRegLine s
  let w := statusWord s n (cause == 6) cause le
  if x.down ∨ x.stage ≠ 2 then s
  else putSet n { x with status := x.status ++ [w], lEff := le, statusT := s.t } s

/-- Queue a STATUS with this cause on every set (R37: energy shed 1, energy restore 2, calm 6). -/
def sendStatusAll (cause : Nat) (s : State) : State := (List.range 4).foldl (fun s n => sendStatus n cause s) s

/-! ### Blocks on the wire (R315, R317-R319) -/

/-- The self-synchronising scrambler x⁵⁸ + x³⁹ + 1 over 64 bits, bit 0 first: new state and the scrambled bits (R315).
Bit 0 of the state is the last bit sent. -/
def scramble (st w : Nat) : Nat × Nat :=
  (List.range 64).foldl (fun a i =>
    let b := (w / 2 ^ i + a.1 / 2 ^ 38 + a.1 / 2 ^ 57) % 2
    ((a.1 * 2 + b) % 2 ^ 58, a.2 + b * 2 ^ i)) (st, 0)

/-- Blocks under their sync headers leave a scrambler (R315): its new state and what goes on the line. -/
def scrambleAll (st : Nat) (bs : List (Nat × Nat)) : Nat × List (Nat × Nat) :=
  bs.foldl (fun a b => let x := scramble a.1 b.2; (x.1, a.2 ++ [(b.1, x.2)])) (st, [])

/-- A lane sends these positions, each a sync header and two blocks (R315, R317). -/
def wireAll (lane : Nat) (ps : List (Nat × Nat × Nat)) (s : State) : State :=
  let st := mgetD s.lnk.scr lane (Config.scramblerSeed lane).toNat
  let x := scrambleAll st (ps.flatMap (fun p => [(p.1, p.2.1), (p.1, p.2.2)]))
  lnkMod (fun k => { k with scr := mput k.scr lane x.1, wire := mput k.wire lane x.2 }) s

/-- A lane sends the two blocks of a position under one sync header. -/
def wireSend (lane sync b1 b2 : Nat) (s : State) : State := wireAll lane [(sync, b1, b2)] s

/-- A data position (R317): bits [63:0] in the first block. -/
def dataPos (w : BitVec 128) : Nat × Nat × Nat := (1, w.toNat % 2 ^ 64, w.toNat / 2 ^ 64)

/-- PRBS31 from the generator state `st`, 66 bits of a block: new state, the two bits in the place of the sync header, the 64 bits
of the payload (R351). Log entry 310. -/
def prbsBlock (st : Nat) : Nat × Nat × Nat :=
  (List.range 66).foldl (fun a i =>
    let b := (a.1 / 2 ^ 30 + a.1 / 2 ^ 27) % 2
    let o := 1 - b
    ((a.1 * 2 + b) % 2 ^ 31, if i < 2 then a.2.1 + o * 2 ^ i else a.2.1, if i < 2 then a.2.2 else a.2.2 + o * 2 ^ (i - 2))) (st, 0, 0)

/-- A lane under test sends the 132 line bits of a position of PRBS31 (R317, R351). -/
def wirePrbs (lane : Nat) (s : State) : State :=
  let x := prbsBlock (mgetD s.lnk.gen lane (Config.prbsSeed lane).toNat)
  let y := prbsBlock x.1
  lnkMod (fun k => { k with gen := mput k.gen lane y.1, wire := mput k.wire lane [x.2, y.2] }) s

/-- A lane sends a word (R317). -/
def wireWord (lane : Nat) (w : BitVec 128) (s : State) : State := wireAll lane [dataPos w] s

/-- An IDLE position (R318); a spare under the PRBS test sends PRBS31 instead (R351). Log entry 281. -/
def wireIdle (lane : Nat) (s : State) : State := if s.lnk.prbs.contains lane then wirePrbs lane s else wireSend lane 2 0x1E 0x1E s

/-- CRC-8 of R319 over block 1 [63:8] and block 2 [55:8], lowest byte first. -/
def posCheck (b1 b2 : Nat) : Nat := (pec (leBytes 7 (b1 / 256) ++ leBytes 6 (b2 / 256 % 2 ^ 48))).toNat

/-- The two blocks of an ALIGN position (R319). -/
def alignBlocks (n lane slot spares ndata mapSeq swn : Nat) : Nat × Nat :=
  let b1 := packMsb [(0, 3), (lane, 5), (swn, 48), (0x78, 8)]
  let b2 := packMsb [(0, 30), (spares, 2), (ndata, 5), (mapSeq, 4), (n, 2), (slot, 5), (0x87, 8)]
  (b1, posCheck b1 b2 * 2 ^ 56 + b2)

/-! ### The lane buffer (R329-R331) -/

/-- Bytes a list of units still holds. -/
def unitsBytes (l : List LUnit) : Nat := 16 * nsum (l.map (fun u => nsum (u.pkts.map (fun p => p.payload.length))))

/-- The queue of class `c`. -/
def clsQ (x : LaneSet) (c : Nat) : List LUnit := x.q.getD c []

/-- Bytes of P1 to P3 in a set. -/
def lowBytes (x : LaneSet) : Nat := unitsBytes (clsQ x 1) + unitsBytes (clsQ x 2) + unitsBytes (clsQ x 3)

/-- Bytes of P0 in a set, the open RECORDS packet included. -/
def p0Bytes (x : LaneSet) : Nat := unitsBytes (clsQ x 0) + 16 * (x.recs.elim 0 (fun r => r.words.length))

/-- Region of set `n` in bytes (R329): its share of 4 MiB by configured NDATA in steps of 4 KiB. -/
def regionBytes (s : State) (n : Nat) : Nat :=
  let tot := nsum ((List.range 4).map (fun i => if setEn s i then cfgNdata s i else 0))
  if tot = 0 then 0 else 1024 * cfgNdata s n / tot * 4096

/-- The P0 reserve (R329). -/
def p0Reserve : Nat := 131072

/-- Fill of the lane buffer in KiB (LNK_BUF). -/
def fillKib (s : State) : Nat := nsum ((List.range 4).map (fun n => p0Bytes (laneSet s n) + lowBytes (laneSet s n))) / 1024

/-- Note the largest fill (LNK_BUF). -/
def noteFill (s : State) : State := lnkMod (fun k => { k with maxFill := max k.maxFill (fillKib s) }) s

/-- Units that LNK discards: the snapshot rows among them make their frame LOSSY (R196, R198). -/
def rowsLost (snaps : List (Option Nat)) (s : State) : State := (snaps.filterMap id).foldl (fun s q => snapRowLost q s) s

/-- Units of a queue that are discarded with it, by the snapshot frames of their rows. -/
def queueSnaps (q : List (List LUnit)) : List (Option Nat) := q.flatten.map (·.snap)

/-- Count a unit of class `c` discarded or refused on set `n` (LNK_SET_DROP), and the row of a snapshot frame that it was
(R196). Log entry 367. -/
def unitLost (n c : Nat) (snap : Option Nat) (s : State) : State :=
  let s1 := rsat s (Reg.LNK_SET_DROP + 0x80 * n + 4 * c) 31 0 1
  match snap with
  | some q => snapRowLost q s1
  | none => s1

/-- The units of the queues `q` of set `n`, by class, are discarded (R338, R523). Log entry 367. -/
def queuesLost (n : Nat) (q : List (List LUnit)) (s : State) : State :=
  q.zipIdx.foldl (fun s p => p.1.foldl (fun s u => unitLost n p.2 u.snap s) s) s

/-- A reset of the area snapshot discards its units not yet sent (R523): those the formatter has handed over and those queued in a
set of which nothing has gone out. Their frame has lost rows (R196). Log entry 331. -/
def snapUnitsDiscarded (s : State) : State :=
  let sent := fun (u : LUnit) => u.snap.isNone || u.begun
  let gone := (s.pip.units.filter (·.family == 5)).map (fun u => some (bits u.fmt.toNat 56 41))
  s.lnk.sets.foldl (fun s p => queuesLost p.1 (p.2.q.map (fun q => q.filter (fun u => !sent u))) s) <|
    rowsLost gone (lnkMod (fun k => { k with
      sets := k.sets.map (fun p => (p.1, { p.2 with q := p.2.q.map (fun q => q.filter sent) })) })
    (pipMod (fun p => { p with units := p.units.filter (·.family != 5) }) s))

/-- Discard the oldest unit of class `c` that has not begun; none when there is none (R330). -/
def discardOldest (n c : Nat) (s : State) : Option State :=
  let x := laneSet s n
  match (clsQ x c).find? (fun u => !u.begun) with
  | none => none
  | some u =>
    some (raise 0x70B (setFid n) [] 4 (coLane 31 false n)
      (unitLost n c u.snap (putSet n { x with q := x.q.set c ((clsQ x c).erase u) } s)))

/-- Make room for `need` bytes of class `c` by discarding lower classes, lowest first (R330). -/
def makeRoom (n c need : Nat) : Nat → State → State
  | 0, s => s
  | fuel + 1, s =>
    if lowBytes (laneSet s n) + need ≤ regionBytes s n - p0Reserve then s
    else
      match (if c < 3 then discardOldest n 3 s else none) with
      | some s1 => makeRoom n c need fuel s1
      | none =>
        match (if c < 2 then discardOldest n 2 s else none) with
        | some s1 => makeRoom n c need fuel s1
        | none => s

/-- The first registered line of which class `c` is dropped (R332). -/
def dropLine (x : LaneSet) (c : Nat) : Nat := x.dropL.getD (3 - c) 0

/-- UNIT_ADMIT (R328-R330, R332, R340): the oldest unit that the formatter handed over arrives at its set. -/
def unitAdmit (s : State) : State :=
  match s.pip.units with
  | [] => s
  | u :: rest =>
    let s0 := pipMod (fun p => { p with units := rest }) s
    let n := routeOf s u.family u.plane
    let c := famClass u.family
    let x := laneSet s n
    let snap := if u.family = 5 then some (bits u.fmt.toNat 56 41) else none
    if inReset s 0x70301 then (if x.admits then unitLost n c snap s0 else rowsLost [snap] s0)
    else if x.down ∨ inReset s (setFid n) then
      let key := 16 * u.family + (if u.family = 0 then u.plane else 0)
      if x.routeDead.contains key then unitLost n c snap s0
      else raise 0x720 (setFid n) [] 4 (coLane 31 false n) (unitLost n c snap (putSet n { x with routeDead := key :: x.routeDead } s0))
    else if !x.admits then rowsLost [snap] s0
    else if bit x.drop (3 - c) && !laterL (dropLine x c) u.l then unitLost n c snap s0
    else
      let pkts := unitPackets c u
      let unit : LUnit := ⟨s.t, snap, false, pkts⟩
      let need := unitsBytes [unit]
      let s1 := makeRoom n c need 8192 s0
      let x1 := laneSet s1 n
      if lowBytes x1 + need ≤ regionBytes s n - p0Reserve then
        noteFill (putSet n { x1 with q := x1.q.set c (clsQ x1 c ++ [unit]) } s1)
      else raise 0x70B (setFid n) [] 4 (coLane 31 false n) (unitLost n c snap s1)

/-- Close the open RECORDS packet of set `n` into P0 (R324). -/
def closeRecs (n : Nat) (s : State) : State :=
  let x := laneSet s n
  match x.recs with
  | none => s
  | some r => putSet n { x with recs := none, q := x.q.set 0 (clsQ x 0 ++ [⟨r.t, none, false, [recordsPacket r]⟩]) } s

/-- The oldest P0 packets are discarded, at most `fuel` of them, while the reserve is over-full (R330). -/
def trimP0 (n : Nat) : Nat → State → State
  | 0, s => s
  | fuel + 1, s =>
    let x := laneSet s n
    if p0Reserve < p0Bytes x then
      match clsQ x 0 with
      | [] => s
      | _ :: rest =>
        trimP0 n fuel (raise 0x70C (setFid n) [] 4 (coLane 31 false n)
          (rsat (putSet n { x with q := x.q.set 0 rest } s) (Reg.LNK_SET_DROP + 0x80 * n) 31 0 1))
    else s

/-- A record joins the open RECORDS packet of set `n` (R324). -/
def enqueueRecord (n : Nat) (ws : List (BitVec 128)) (s : State) : State :=
  let x := laneSet s n
  if !setEn s n || x.down || (x.stage == 0 && !inReset s (setFid n)) then s
  else
    let big := match x.recs with
      | some r => decide (rfld s Reg.LNK_CFG 15 8 < r.words.length + ws.length)
      | none => false
    let s1 := if big then closeRecs n s else s
    let x1 := laneSet s1 n
    let r := match x1.recs with
      | some r => { r with n := r.n + 1, words := r.words ++ ws }
      | none => ⟨s.t, 1, ws⟩
    noteFill (trimP0 n 32 (putSet n { x1 with recs := some r } s1))

/-- RECORD_ENQUEUE (R324, R328): the oldest record of the verdict engine goes to every set of REC_SETS. -/
def recordEnqueue (s : State) : State :=
  match s.vdt.out with
  | [] => s
  | ws :: rest =>
    (List.range 4).foldl (fun s n => if rbit s Reg.LNK_CFG (24 + n) then enqueueRecord n ws s else s)
      { s with vdt := { s.vdt with out := rest } }

/-- The age of a unit in µs, noted in LNK_SET_AGE (R331). -/
def noteAge (n c : Nat) (t : Nat) (s : State) : State :=
  if c = 0 then s else rmax s (Reg.LNK_SET_AGE + 0x80 * n) (10 * c - 1) (10 * c - 10) ((s.t - t) / 200)

/-- AGE_DROP (R331): the oldest packet of class `c` of set `n` has reached its limit; it and the rest of its unit are
discarded as a DL_LANE miss, counted once for the unit. -/
def ageDrop (n c : Nat) (s : State) : State :=
  let x := laneSet s n
  match (if 1 ≤ c ∧ c ≤ 3 then clsQ x c else []) with
  | [] => s
  | u :: rest =>
    let s1 := unitLost n c u.snap (noteAge n c u.t (putSet n { x with q := x.q.set c rest } s))
    dlMiss 5 (setFid n) [n, c] 4 (coLane 31 false n) (raise 0x70A (setFid n) [] 4 (coLane 31 false n) s1)

/-! ### Rows (R317, R326) -/

/-- SWN has reached `e`, both modulo 2⁴⁸ (R317, R335). -/
def swnReached (x : LaneSet) (e : Nat) : Bool := decide ((x.swn + 2 ^ 48 - e) % 2 ^ 48 < 2 ^ 47)

/-- An ALIGN row is due (R317, R334, R337): 4,095 data rows have passed, a fault waits for its new map, or the row of a
planned move has come. -/
def alignDue (x : LaneSet) : Bool :=
  decide (4095 ≤ x.rows) || !x.faults.isEmpty ||
    (match x.planned with | some p => (match p.eff with | some e => swnReached x e | none => false) | none => false)

/-- The map after a planned move (R337, R338): slots, spares, failed lanes. -/
def plannedMap (x : LaneSet) (m : MapChange) : List Nat × List Nat × List Nat :=
  let sp := x.spares.erase m.into
  if m.cause = 6 then (x.slots ++ [m.into], sp, x.failed)
  else
    let sl := x.slots.map (fun l => if l = m.lane then m.into else l)
    if m.cause = 5 then (sl, sp ++ [m.lane], x.failed) else (sl, sp, x.failed ++ [m.lane])

/-- Event 0x70D records the packets sent again since the last one (R336). -/
def resendReport (n : Nat) (s : State) : State :=
  let x := laneSet s n
  if x.reDone = 0 then s else raise 0x70D (setFid n) [x.reDone] 4 (coLane 31 false n) (putSet n { x with reDone := 0 } s)

/-- Launch a packet: it takes SEQ unless it is a repeat, and its words wait for their slots (R321). A repeat is counted, and the
last of those that wait is reported (R336). -/
def launch (n : Nat) (p : LPkt) (s : State) : State :=
  let x := laneSet s n
  let seq := p.seq.getD x.seq
  let p1 := { p with seq := some seq }
  let s1 := putSet n { x with
    seq := if p.seq.isNone then (x.seq + 1) % 2 ^ 32 else x.seq
    cur := some p1, left := lpktWords n seq p1, hist := (s.t, p1) :: x.hist
    reDone := if p.seq.isNone then x.reDone else x.reDone + 1 } s
  if p.seq.isNone then s1
  else
    let s2 := rsat s1 Reg.LNK_RESENT 31 0 1
    if x.resend.isEmpty then resendReport n s2 else s2

/-- Launch from class `c` of set `n`, repeats first (R326); none when the class is empty. -/
def launchClass (n c : Nat) (s : State) : Option State :=
  let x := laneSet s n
  match x.resend.find? (fun p => p.cls == c) with
  | some p => some (launch n p (putSet n { x with resend := x.resend.erase p } s))
  | none =>
    match clsQ x c with
    | [] => none
    | u :: rest =>
      match u.pkts with
      | [] => none
      | p :: ps =>
        let q := if ps.isEmpty then rest else { u with begun := true, pkts := ps } :: rest
        some (launch n p (noteAge n c u.t (putSet n { x with q := x.q.set c q } s)))

/-- Start the next packet of set `n` in slot `i` by the order of R326, if one waits. -/
def startPacket (n i : Nat) (s : State) : State :=
  let x := laneSet s n
  match x.maps with
  | m :: ms =>
    if m.sudden then
      launch n ⟨2, 0, 0, laneMapWords x.swn x.mapSeq x.spares.length m.lane m.cause true x.slots, none, false⟩
        (putSet n { x with maps := ms } s)
    else
      let k := x.slots.length
      let eff := (x.swn + 2 ^ 48 - i + k * ((i + 3) / k + 65)) % 2 ^ 48
      let p := plannedMap x m
      launch n ⟨2, 0, 0, laneMapWords eff (x.mapSeq + 1) p.2.1.length m.lane m.cause false p.1, none, false⟩
        (putSet n { x with maps := ms, planned := some { m with eff := some eff } } s)
  | [] =>
    match x.status with
    | w :: ws =>
      lnkMod (fun k => { k with ann := w }) (launch n ⟨3, 0, 0, [w], none, false⟩ (putSet n { x with status := ws } s))
    | [] =>
      match launchClass n 0 s with
      | some t => t
      | none =>
        match launchClass n 1 s with
        | some t => t
        | none =>
          match launchClass n 2 s with
          | some t => t
          | none => (launchClass n 3 s).getD s

/-- Slot `i` of set `n` sends its stream word on physical lane `lane` (R317, R320). -/
def slotWord (n i lane : Nat) (s : State) : State :=
  let s1 := if (laneSet s n).left.isEmpty && (laneSet s n).stage == 2 then startPacket n i s else s
  let x := laneSet s1 n
  let adv := { x with swn := (x.swn + 1) % 2 ^ 48 }
  let s2 := rwrap s1 (Reg.LNK_DT_COUNT + 0x20 * lane) 31 0 1
  match x.left with
  | [] => wireWord lane fillWord (putSet n adv s2)
  | w :: ws =>
    let h := match x.hist with | (_, p) :: r => (s.t, p) :: r | [] => []
    wireWord lane w (putSet n { adv with left := ws, cur := if ws.isEmpty then none else x.cur, hist := h } s2)

/-- LANE_ROW_SEND (R317, R326): one data row of set `n`; where an ALIGN row is due, no data row goes. -/
def laneRowSend (n : Nat) (s : State) : State :=
  let x := laneSet s n
  if x.stage = 0 ∨ x.down ∨ x.slots.isEmpty ∨ alignDue x then s
  else
    let s1 := (List.range x.slots.length).foldl (fun s i => slotWord n i (x.slots.getD i 31) s) s
    let s2 := x.spares.foldl (fun s l => wireIdle l s) s1
    setMod n (fun y => { y with
      rows := y.rows + 1, hist := y.hist.filter (fun h => decide (s.t ≤ h.1 + 5100)) }) s2

/-! ### Map changes (R334, R336-R338) -/

/-- Begin a planned move when none is under way and a spare is there (R337). A host move whose spare or whose slot is gone by then
is refused with event 0x705; a returned lane is added only below the configured NDATA (R338). -/
def beginWant (n : Nat) (s : State) : State :=
  let x := laneSet s n
  match x.planned, x.wants with
  | none, m :: ms =>
    let into := if m.cause = 6 then (if x.spares.contains m.into then some m.into else none) else x.spares.head?
    let ok := if m.cause = 6 then decide (x.slots.length < cfgNdata s n) else x.slots.contains m.lane
    match into, ok with
    | some l, true =>
      let m1 := { m with into := l, eff := none }
      putSet n { x with wants := ms, planned := some m1, maps := x.maps ++ [m1] } s
    | _, _ =>
      raiseIf (m.cause == 5) 0x705 (setFid n) [] 4 (coLane m.lane false n) (putSet n { x with wants := ms } s)
  | _, _ => s

/-- Ask for a planned move. -/
def requestMove (n lane cause into : Nat) (s : State) : State :=
  beginWant n (setMod n (fun x => { x with wants := x.wants ++ [⟨lane, cause, false, into, none⟩] }) s)

/-- A failed lane leaves the map (R334): the spare of the lowest position takes its slot (event 0x702), or NDATA falls by 1
and the slots above move down (event 0x703). -/
def applyFault (n : Nat) (m : MapChange) (s : State) : State :=
  let x := laneSet s n
  if x.slots.contains m.lane then
    match x.spares with
    | sp :: rest =>
      raise 0x702 (setFid n) [] 4 (coLane sp false n)
        (putSet n { x with slots := x.slots.map (fun l => if l = m.lane then sp else l), spares := rest } s)
    | [] =>
      raise 0x703 (setFid n) [] 4 (coLane m.lane false n)
        (putSet n { x with slots := x.slots.erase m.lane, lossDue := true } s)
  else s

/-- What a set that goes down discards: its queues, and the RECORDS packet that is open. -/
def downQueues (x : LaneSet) : List (List LUnit) :=
  x.q.set 0 (clsQ x 0 ++ (x.recs.toList.map (fun r => ⟨r.t, none, false, [recordsPacket r]⟩)))

/-- A set without a data lane is down (R338): its queues are discarded, P0 included. -/
def setDown (n : Nat) (s : State) : State :=
  raise 0x706 (setFid n) [] 4 (coLane 31 false n)
    (queuesLost n (downQueues (laneSet s n)) (resendReport n <| setMod n (fun x => { x with
      down := true, q := [[], [], [], []], resend := [], recs := none, cur := none, left := [], hist := []
      maps := [], status := [], planned := none, wants := [], faults := [], routeDead := [] }) s))

/-- What a new map means for its lanes: a lane that has failed is in electrical idle (R333), and one that is now a data slot
ends its PRBS test (R351). -/
def settleLanes (n : Nat) (s : State) : State :=
  let x := laneSet s n
  (x.slots.filter (fun l => s.lnk.prbs.contains l)).foldl (fun s l => rset s (Reg.LNK_DT_TEST + 0x20 * l) 0)
    (lnkMod (fun k => { k with
      wire := x.failed.foldl (fun m l => mdel m l) k.wire, prbs := k.prbs.filter (fun l => !x.slots.contains l) }) s)

/-- The map change that ends this ALIGN row: the sudden faults first, then a planned move whose row this is (R334,
R337). -/
def changeMap (n : Nat) (s : State) : State :=
  let x := laneSet s n
  if !x.faults.isEmpty then
    let back := match x.planned with | some p => [p] | none => []
    let s1 := x.faults.foldl (fun s m => applyFault n m s) s
    let s2 := setMod n (fun y => { y with
      mapSeq := (y.mapSeq + 1) % 16, faults := [], planned := none, wants := back ++ y.wants
      maps := y.maps.filter (fun m => m.sudden) ++ x.faults }) s1
    if (laneSet s2 n).slots.isEmpty then setDown n s2 else beginWant n (sendStatus n 5 s2)
  else
    match x.planned with
    | some p =>
      if (match p.eff with | some e => swnReached x e | none => false) then
        let m := plannedMap x p
        let s1 := putSet n { x with
          slots := m.1, spares := m.2.1, failed := m.2.2, mapSeq := (x.mapSeq + 1) % 16, planned := none
          lossDue := x.lossDue || p.cause == 6 } s
        let s2 := if p.cause = 6 then raise 0x704 (setFid n) [] 4 (coLane p.into false n)
            (setMod n (fun y => { y with routeDead := [] }) s1)
          else raise 0x702 (setFid n) [] 4 (coLane p.into false n) s1
        beginWant n (sendStatus n 5 s2)
      else s
    | none => s

/-- ALIGN_ROW (R317, R319, R334): every lane of the set sends an ALIGN position that carries its place in the map of the
next row. -/
def alignRow (n : Nat) (s : State) : State :=
  let x := laneSet s n
  if x.stage = 0 ∨ x.down ∨ ¬ alignDue x then s
  else
    let s1 := settleLanes n (changeMap n s)
    let y := laneSet s1 n
    let send := fun (lane slot : Nat) (s : State) =>
      let b := alignBlocks n lane slot y.spares.length y.slots.length y.mapSeq y.swn
      wireSend lane 2 b.1 b.2 s
    let s2 := (List.range y.slots.length).foldl (fun s i => send (y.slots.getD i 31) i s) s1
    setMod n (fun z => { z with rows := 0 })
      (y.spares.foldl (fun s l => if s.lnk.prbs.contains l then wirePrbs l s else send l 31 s) s2)

/-! ### Lane faults (R333, R336-R338) -/

/-- The set whose map a lane belongs to. -/
def setOfLane (s : State) (lane : Nat) : Option Nat :=
  (List.range 4).find? (fun n => (laneSet s n).slots.contains lane || (laneSet s n).spares.contains lane)

/-- The packets to be sent again (R336 step 4): those with a word in a row within RESEND_WIN, then the repeats that still
wait, each once. -/
def resendList (s : State) (x : LaneSet) : List LPkt :=
  let win := rfld s Reg.LNK_CFG 7 0
  let recent := if win = 0 then [] else
    ((x.hist.filter (fun h => decide (s.t ≤ h.1 + 20 * win))).map (fun h => { h.2 with resent := true })).reverse
  recent ++ x.resend.filter (fun p => !recent.any (fun q => q.seq == p.seq))

/-- A lane of set `n` fails (R333, R336, R338): it idles at once; a data lane waits for the next ALIGN row and its recent
packets are queued again, a spare only lowers SPARES. -/
def failLane (n lane cause : Nat) (s : State) : State :=
  let x := laneSet s n
  let s1 := raise 0x700 (dtFid lane) [lane, cause] 4 (coLane lane false n)
    (rfset s (Reg.LNK_DT_STATUS + 0x20 * lane) 12 8 (2 ^ cause))
  let s2 := lnkMod (fun k => { k with wire := mdel k.wire lane, returned := k.returned.erase lane }) s1
  if x.slots.contains lane then
    if x.faults.any (fun m => m.lane == lane) then s
    else
      let keep := rfld s Reg.LNK_CFG 7 0 = 0
      putSet n { x with
        failed := x.failed ++ [lane], faults := x.faults ++ [⟨lane, cause, true, 31, none⟩], resend := resendList s x
        cur := if keep then x.cur else none, left := if keep then x.left else []
        hist := if keep then x.hist else [] } s2
  else
    let lostTo := x.planned.filter (fun p => p.into == lane)
    beginWant n (putSet n { x with
      failed := x.failed ++ [lane], spares := x.spares.erase lane
      planned := if lostTo.isSome then none else x.planned, wants := lostTo.toList ++ x.wants
      maps := x.maps.filter (fun m => m.sudden || m.into != lane) } s2)

/-- LANE_FAULT (R333, R336): the monitor of a lane finds a fault (0 SHORT, 1 OPEN, 2 PLL, 3 ECC), with its output swing in
mV and its driver current in 0.1 mA. -/
def laneFault (lane cause swing cur : Nat) (s : State) : State :=
  match setOfLane s lane with
  | none => s
  | some n =>
    if (laneSet s n).stage = 0 then s
    else failLane n lane (cause % 4) (rset s (Reg.LNK_DT_MON + 0x20 * lane) (swing % 65536 * 65536 + cur % 65536))

/-- LANE_WARN (R333, R337): a swing below 80 % for 10 ms asks for a planned move of a data lane. -/
def laneWarn (lane swing cur : Nat) (s : State) : State :=
  match setOfLane s lane with
  | none => s
  | some n =>
    if (laneSet s n).stage = 0 then s
    else
      let s1 := raise 0x701 (dtFid lane) [lane, 4] 4 (coLane lane false n)
        (rfset (rset s (Reg.LNK_DT_MON + 0x20 * lane) (swing % 65536 * 65536 + cur % 65536))
          (Reg.LNK_DT_STATUS + 0x20 * lane) 12 8 16)
      if (laneSet s n).slots.contains lane then requestMove n lane 4 31 s1 else s1

/-- LANE_MOVE (R337): a write of LNK_MOVE_CMD; without an available spare, or for a lane in no data slot, it is refused with
event 0x705. Where the lanes do not work, as in SAFE (R455), it does nothing. -/
def laneMove (v : Nat) (s : State) : State :=
  let lane := v % 32
  let refused := fun n => raise 0x705 (setFid n) [] 4 (coLane lane false n) s
  match (List.range 4).find? (fun n => (laneSet s n).slots.contains lane) with
  | none => if works s then refused 0 else s
  | some n =>
    if !works s then s
    else if (laneSet s n).spares.isEmpty || (laneSet s n).down || (laneSet s n).stage == 0 then refused n
    else requestMove n lane 5 31 s

/-- LANE_RETURN (R338): a failed lane whose function has been reset, and whose monitor reads clean for 10 ms, returns as a
spare; below the configured NDATA it is added as the top slot by a planned move. A set that was down takes it as its
only slot at its next ALIGN row. -/
def laneReturn (lane : Nat) (s : State) : State :=
  match (List.range 4).find? (fun n => (laneSet s n).failed.contains lane) with
  | none => s
  | some n =>
    let x := laneSet s n
    if !s.lnk.returned.contains lane || inReset s (dtFid lane) || x.stage == 0 then s
    else
      let s1 := lnkMod (fun k => { k with returned := k.returned.erase lane }) s
      if x.down then
        sendStatus n 5 (raise 0x704 (setFid n) [] 4 (coLane lane false n) (putSet n { x with
          failed := x.failed.erase lane, slots := [lane], mapSeq := (x.mapSeq + 1) % 16, down := false
          rows := 4095, lossDue := true, routeDead := [] } s1))
      else
        let s2 := putSet n { x with failed := x.failed.erase lane, spares := x.spares ++ [lane] } s1
        if x.slots.length < cfgNdata s n then requestMove n 31 6 lane s2 else s2

/-- SET_PLL_UNLOCK (R351): every lane of the set fails, and the set is down. -/
def setPllUnlock (n : Nat) (s : State) : State :=
  let x := laneSet s n
  if x.stage = 0 ∨ x.down then s
  else
    let s1 := raise 0x722 (setFid n) [] 4 (coLane 31 false n) s
    let s2 := (x.slots ++ x.spares).foldl (fun s l => failLane n l 2 s) s1
    setDown n (setMod n (fun y => { y with slots := [], spares := [], lossDue := true }) s2)

/-! ### Dropping and restoring families (R33, R332) -/

/-- BY_LNK of MGT_SHED_STATUS (R33). -/
def byLnk (s : State) : Nat :=
  let d := fun b => (List.range 4).any (fun n => bit (laneSet s n).drop b)
  b2n (d 0) + 2 * b2n (d 1) + 4 * b2n (d 2)

/-- Classes dropped so that the framed demand fits C: P3, then P2, then P1 (R33, R332). Log entry 272. -/
def dropFor (s : State) (n slots : Nat) (drop : Nat) : Nat :=
  if fits s n drop slots 100 then drop
  else if fits s n (drop ||| 1) slots 100 then drop ||| 1
  else if fits s n (drop ||| 3) slots 100 then drop ||| 3
  else 7

/-- Classes restored, P1 first, each only when the classes then carried fit 0.95 C (R332). -/
def restoreFor (s : State) (n slots : Nat) (drop : Nat) : Nat :=
  [2, 1, 0].foldl (fun a b =>
    if a.2 && bit a.1 b then
      if fits s n (a.1 - 2 ^ b) slots 95 then (a.1 - 2 ^ b, true) else (a.1, false)
    else a) (drop, true) |>.1

/-- LANE_POLICY_UPDATE (R35 step 5, R332): at the line boundary after a loss or return of a data lane. A class that is newly
dropped is refused from the next registered line. -/
def lanePolicyUpdate (n : Nat) (s : State) : State :=
  let x := laneSet s n
  if !x.lossDue || x.down || x.stage == 0 then s
  else
    let d1 := dropFor s n x.slots.length x.drop
    let d := if d1 = x.drop then restoreFor s n x.slots.length x.drop else d1
    let s1 := putSet n { x with
      lossDue := false, drop := d
      dropL := (List.range 3).map (fun b => if bit d b && !bit x.drop b then nextRegLine s else x.dropL.getD b 0) } s
    if d = x.drop then s1
    else if d1 ≠ x.drop then
      sendStatus n 3 ([0, 1, 2].foldl (fun s b =>
        if bit d b && !bit x.drop b then raise 0x708 (setFid n) [] 4 (coLane 31 false n) s else s) s1)
    else
      sendStatus n 4 ([2, 1, 0].foldl (fun s b =>
        if bit x.drop b && !bit d b then raise 0x709 (setFid n) [] 4 (coLane 31 false n) s else s) s1)

/-! ### Bring-up and stopping (R340, R341) -/

/-- R340 step 1: the lanes of set `n` send FILL, IDLE and ALIGN rows under MAP_SEQ 0. P0 that waits is kept (R523); lanes
that have failed stay out (R338). -/
def setBringUp (n : Nat) (s : State) : State :=
  if !setEn s n || inReset s (setFid n) then s
  else
    let x := laneSet s n
    let c := cfgSlots s n
    let bad := x.failed
    let spare := c.2.filter (fun l => !bad.contains l)
    let fill := c.1.foldl (fun (a : List Nat × List Nat) l =>
      if bad.contains l then
        match a.2 with
        | sp :: rest => (a.1 ++ [sp], rest)
        | [] => a
      else (a.1 ++ [l], a.2)) ([], spare)
    let s1 := rowsLost (queueSnaps (x.q.drop 1)) (putSet n { LaneSet.reset with
      stage := 1, slots := fill.1, spares := fill.2, failed := bad, q := [clsQ x 0, [], [], []], recs := x.recs
      seq := x.seq, rows := 4095, lossDue := decide (fill.1.length < c.1.length) } s)
    if fill.1.isEmpty then setDown n s1 else s1

/-- SET_UP (R340 step 2): HOLDOFF has passed, the first STATUS goes out with cause 7 and the set is UP. -/
def setUp (n : Nat) (s : State) : State :=
  let x := laneSet s n
  if x.stage = 1 ∧ ¬ x.down ∧ ¬ inReset s (setFid n) then
    raise 0x707 (setFid n) [] 4 (coLane 31 false n) (sendStatus n 7 (putSet n { x with stage := 2 } s))
  else s

/-- R340 step 3: from the next registered line boundary units are admitted. -/
def setsAdmit (s : State) : State :=
  lnkMod (fun k => { k with sets := k.sets.map (fun p => if p.2.stage = 2 then (p.1, { p.2 with admits := true }) else p) }) s

/-- Every enabled set is UP (R460). -/
def allSetsUp (s : State) : Bool := (List.range 4).all (fun n => !setEn s n || (laneSet s n).stage == 2)

/-- The calm status of every set (R327, R430): open records close, and units are no longer admitted. -/
def calmSets (s : State) : State :=
  lnkMod (fun k => { k with sets := k.sets.map (fun p => (p.1, { p.2 with calm := true, admits := false })) })
    (sendStatusAll 6 ((List.range 4).foldl (fun s n => closeRecs n s) s))

/-- P0 of set `n` is empty: nothing waits and no packet is in progress (R341, R430). -/
def p0Empty (s : State) (n : Nat) : Bool :=
  let x := laneSet s n
  (clsQ x 0).isEmpty && x.recs.isNone && x.left.isEmpty && x.status.isEmpty && x.resend.all (fun p => p.cls != 0) && s.vdt.out.isEmpty

/-- SET_IDLE (R341): after the calm status the set has finished its P0 queue; its lanes go to electrical idle. -/
def setIdle (n : Nat) (s : State) : State :=
  let x := laneSet s n
  if x.calm ∧ x.stage = 2 ∧ (p0Empty s n ∨ x.down) then
    raise 0x71F (setFid n) [] 4 (coLane 31 false n)
      (lnkMod (fun k => { k with wire := (x.slots ++ x.spares).foldl (fun m l => mdel m l) k.wire })
        (putSet n { LaneSet.reset with failed := x.failed, seq := x.seq, swn := x.swn, mapSeq := x.mapSeq } s))
  else s

/-- STATUS_HEARTBEAT (R327): 1 ms has passed with no other cause for a STATUS. -/
def statusHeartbeat (n : Nat) (s : State) : State := if (laneSet s n).stage = 2 then sendStatus n 0 s else s

/-- Role of a physical lane: 0 unused, 1 data, 2 spare, 3 failed; its set and its slot (LNK_DT_STATUS). -/
def laneRole (s : State) (lane : Nat) : Nat × Nat × Nat :=
  match (List.range 4).find? (fun n => (laneSet s n).failed.contains lane) with
  | some n => (3, n, 31)
  | none =>
    match (List.range 4).find? (fun n => (laneSet s n).slots.contains lane) with
    | some n => (1, n, (laneSet s n).slots.findIdx (fun l => l == lane))
    | none =>
      match (List.range 4).find? (fun n => (laneSet s n).spares.contains lane) with
      | some n => (2, n, 31)
      | none => (0, 0, 31)

/-- PRBS_TEST (R351): a write of LNK_DT_TEST. PRBS31 starts on a spare or unused lane with event 0x721; on a data slot or
a failed lane it is refused and the write changes nothing. A spare sends its next position of PRBS31 with each row of its set. -/
def prbsTest (lane v : Nat) (s : State) : State :=
  let a := Reg.LNK_DT_TEST + 0x20 * lane
  if bit v 31 then
    if (laneRole s lane).1 % 2 = 1 then s
    else raise 0x721 (dtFid lane) [] 4 (coLane lane false (laneRole s lane).2.1)
      (wirePrbs lane (lnkMod (fun k => { k with prbs := if k.prbs.contains lane then k.prbs else lane :: k.prbs, gen := mdel k.gen lane })
        (rset s a (2 ^ 31))))
  else lnkMod (fun k => { k with prbs := k.prbs.erase lane, wire := mdel k.wire lane }) (rset s a 0)

/-- An ECC error of the lane buffer in set `n`, class `c` (R351): corrected, or the unit in front of the class, or its P0
packet, is discarded. -/
def bufEcc (n c : Nat) (uncorr : Bool) (s : State) : State :=
  if !uncorr then raise 0x70E 0x70301 [] 4 (coLane 31 false n) s
  else
    let x := laneSet s n
    let c := c % 4
    match clsQ x c with
    | [] => raise 0x70F 0x70301 [c, x.seq] 4 (coLane 31 false n) s
    | u :: rest =>
      raise 0x70F 0x70301 [c, x.seq] 4 (coLane 31 false n)
        (unitLost n c u.snap (putSet n { x with q := x.q.set c rest } s))

/-! ### Reset scope, clears and views -/

/-- Lane-set, data-lane and buffer functions inside the reset scope of `fid` (R523). -/
def lnkResetScope (fid : Nat) (s : State) : State :=
  if 0x70000 ≤ fid ∧ fid ≤ 0x70003 then
    queuesLost (fid % 4) ([] :: (laneSet s (fid % 4)).q.drop 1)
      (resendReport (fid % 4) <| setMod (fid % 4) (fun x => { LaneSet.reset with
        q := [clsQ x 0, [], [], []], recs := x.recs, failed := x.failed, seq := x.seq, reDone := x.reDone }) s)
  else if 0x70100 ≤ fid ∧ fid ≤ 0x70117 then
    let lane := fid % 256
    let s1 := match setOfLane s lane with
      | some n => if (laneSet s n).stage = 0 then s else failLane n lane 2 s
      | none => s
    lnkMod (fun k => { k with returned := if k.returned.contains lane then k.returned else lane :: k.returned
                              prbs := k.prbs.erase lane, wire := mdel k.wire lane, scr := mdel k.scr lane, gen := mdel k.gen lane }) s1
  else if fid = 0x70301 then
    let s1 := lnkMod (fun k => { k with sets := k.sets.map (fun p => (p.1, { p.2 with
      q := [clsQ p.2 0, [], [], []], resend := p.2.resend.filter (fun r => r.cls == 0) })) }) s
    s.lnk.sets.foldl (fun s p => queuesLost p.1 ([] :: p.2.q.drop 1) s)
      ((List.range 4).foldl (fun s n => if (laneSet s n).resend.isEmpty then resendReport n s else s) s1)
  else s

/-- LNK registers that show state (R354). What the monitor of a running lane reads between two reports is a free value. Log entries
280, 311. -/
def viewLanes (s : State) (a : Nat) : Option Nat :=
  let up := fun n => b2n ((laneSet s n).stage == 2 && !(laneSet s n).down)
  if a = Reg.LNK_STATUS then
    some (packMsb [(nsum ((List.range 4).map (fun n => (laneSet s n).slots.length)), 8),
      (nsum ((List.range 4).map (fun n => (laneSet s n).failed.length)), 8),
      (nsum ((List.range 4).map (fun n => up n * 2 ^ n)), 4),
      (nsum ((List.range 4).map (fun n => b2n ((xwLane s n).st == 2) * 2 ^ n)), 4), (0, 8)])
  else if a = Reg.MGT_SHED_STATUS then some (setBits (rnat s a) 7 4 (byLnk s))
  else if a = Reg.LNK_BUF then some (packMsb [(max s.lnk.maxFill (fillKib s), 16), (fillKib s, 16)])
  else if 0x700100 ≤ a ∧ a < 0x700300 then
    let n := (a - 0x700100) / 0x80
    let x := laneSet s n
    let o := (a - 0x700100) % 0x80
    if o = 4 then
      some (
        packMsb [(x.slots.length, 5), (x.spares.length, 2), (x.mapSeq, 4), (b2n (x.stage == 2), 1),
          (b2n (x.down || inReset s (setFid n)), 1), (x.drop, 3), (0, 16)])
    else if 0x18 ≤ o ∧ o < 0x28 then
      let i := (o - 0x18) / 4
      let m := x.slots ++ x.spares
      some (nsum ((List.range 6).map (fun j => m.getD (6 * i + j) 31 * 2 ^ (5 * j))))
    else if o = 0x28 then some (x.swn % 2 ^ 32)
    else if o = 0x2C then some (x.swn / 2 ^ 32)
    else if o = 0x30 then some x.seq
    else none
  else if 0x700400 ≤ a ∧ a < 0x700700 ∧ (a - 0x700400) % 0x20 = 4 then
    let r := laneRole s ((a - 0x700400) / 0x20)
    let slot := if (List.range 4).all (fun n => (laneSet s n).stage == 0) && r.1 == 0 then 0 else r.2.2
    some (packMsb [(r.1, 3), (r.2.1, 2), (slot, 5), (0, 9), (rfld s a 12 8, 5), (0, 8)])
  else if 0x700400 ≤ a ∧ a < 0x700700 ∧ (a - 0x700400) % 0x20 = 8 then
    let lane := (a - 0x700400) / 0x20
    match setOfLane s lane with
    | some n => if (laneSet s n).stage = 0 ∨ (laneRole s lane).1 = 3 then none else some (Config.laneMonitor lane s.t).toNat
    | none => none
  else if Reg.LNK_ANN ≤ a ∧ a < Reg.LNK_ANN + 16 then
    some (s.lnk.ann.toNat / 2 ^ (8 * (a - Reg.LNK_ANN)) % 2 ^ 32)
  else if Reg.MGT_BUDGET_LANE ≤ a ∧ a < Reg.MGT_BUDGET_LANE + 16 then
    let n := (a - Reg.MGT_BUDGET_LANE) / 4
    let x := laneSet s n
    let k := x.slots.length
    if s.lnk.checked.contains n then
      some (packMsb [(rfld s a 31 20, 12), (capacityOf s n k, 12), (k, 5), (0, 1), (b2n (x.drop != 0), 1), (rfld s a 0 0, 1)])
    else some 0
  else none

/-- LNK_CLEAR (R354): 1 clears every LNK counter. -/
def lnkClear (v : Nat) (s : State) : State :=
  if bit v 0 then
    let s1 := rclear s ([Reg.LNK_RESENT] ++ (List.range 4).flatMap (fun n => (List.range 4).map (fun c =>
        Reg.LNK_SET_DROP + 0x80 * n + 4 * c)) ++
      (List.range 24).map (fun i => Reg.LNK_DT_COUNT + 0x20 * i) ++
      (List.range 4).flatMap (fun n => [0x14, 0x1C, 0x20, 0x24, 0x28].map (fun o => Reg.LNK_XW_CFG + 0x40 * n + o)))
    (List.range 4).foldl (fun s n => rfset s (Reg.LNK_XW_STATUS + 0x40 * n) 7 0 0) s1
  else s

end Sys2Proof.Machine
end

