-- ==== Sys2Proof/Machine/Link.lean ====
section
/-! DEFINITION. The crosswind link: packets, credit, deduplication, training, equalisation and pairing
(10_serial_lanes.md R342-R350; 14_configuration_boot.md R461; 07_verdict_engine.md R240). -/

namespace Sys2Proof.Machine

/-- Function ID of link lane `n`. -/
def xwFid (n : Nat) : Nat := 0x70200 + n

/-- Register `o` of link lane `n`. -/
def xwReg (n o : Nat) : Nat := Reg.LNK_XW_CFG + 0x40 * n + o

/-- Change link lane `n`. -/
def xwMod (n : Nat) (f : XwLane → XwLane) (s : State) : State := setXw s n (f (xwLane s n))

/-- Data coordinate of link lane `n`. -/
def coLink (n : Nat) : Nat := coLane n true 0

/-- Link lane `n` is enabled and its function works. -/
def xwOn (s : State) (n : Nat) : Bool := rbit s (xwReg n 0) 31 && up s (xwFid n) && decide (n < 4)

/-! ### Packets (R321, R345, R346) -/

/-- Sixty-four digest bytes as four words, the first byte in bits [7:0]. -/
def digestWords (bs : List Byte) : List (BitVec 128) :=
  (List.range 4).map (fun i => BitVec.ofNat 128 (ofLe ((bs.drop (16 * i)).take 16)))

/-- TYPE of a message (R322). -/
def xwType : XwMsg → Nat
  | .bcast _ _ _ _ _ _ _ _ _ _ _ => 8
  | .beacon _ _ _ _ _ => 9
  | .announce _ _ _ _ _ _ => 10
  | .record _ _ _ _ _ => 11
  | .pair _ _ _ _ _ => 12

/-- Payload words of a message (R345, R346). -/
def xwPayload : XwMsg → List (BitVec 128)
  | .bcast _ _ _ tc l v p ls stand fail dev =>
    [word128 [(tc, 64), (l, 32), (v, 32)],
     word128 [(p, 40), (ls, 12), (b2n stand + 2 * b2n fail, 8), (0, 4), (dev, 64)]]
  | .beacon _ _ _ dev t => [word128 [(dev, 64), (t, 64)]]
  | .announce _ _ _ dev t ls => [word128 [(dev, 64), (t, 64)], word128 [(ls, 12), (0, 116)]]
  | .record _ _ _ ws _ => ws
  | .pair dev site link geom vdt => word128 [(dev, 64), (site, 4), (link, 4), (0, 56)] :: digestWords geom ++ digestWords vdt

/-- Type-specific header bits [75:18] of a message (R345). -/
def xwSpec (m : XwMsg) : Nat :=
  let h := tbHead m
  if vcOf m = 0 then packMsb [(h.1, 40), (h.2.1, 4), (h.2.2, 14)] else 0

/-- The words of a link packet. -/
def xwPacket (seq : Nat) (m : XwMsg) : List (BitVec 128) :=
  let ps := xwPayload m
  packetWords (packetHeader (xwType m) (vcOf m) 0 ps.length seq (xwSpec m) false) ps

/-- The message that a packet's header and payload spell; `contact` travels beside a fragment's words (R236). -/
def xwDecode (h : Nat) (ps : List (BitVec 128)) (contact : Nat × Nat) : Option XwMsg :=
  let w := fun i => (ps.getD i 0).toNat
  let ts := bits h 75 36
  let hops := bits h 35 32
  let lat := bits h 31 18
  match bits h 127 124, ps.length with
  | 8, 2 => some (.bcast ts hops lat (bits (w 0) 127 64) (bits (w 0) 63 32) (bits (w 0) 31 0) (bits (w 1) 127 88)
      (bits (w 1) 87 76) (bit (w 1) 68) (bit (w 1) 69) (bits (w 1) 63 0))
  | 9, 1 => some (.beacon ts hops lat (bits (w 0) 127 64) (bits (w 0) 63 0))
  | 10, 2 => some (.announce ts hops lat (bits (w 0) 127 64) (bits (w 0) 63 0) (bits (w 1) 127 116))
  | 11, n =>
    if 1 ≤ n ∧ n ≤ 22 then some (.record (bits (w 0) 127 124) (bits (w 0) 87 84) (bits (w 0) 119 88) ps contact) else none
  | 12, 9 => some (.pair (bits (w 0) 127 64) (bits (w 0) 63 60) (bits (w 0) 59 56)
      ((List.range 4).flatMap (fun i => leBytes 16 (w (1 + i)))) ((List.range 4).flatMap (fun i => leBytes 16 (w (5 + i)))))
  | _, _ => none

/-! ### Sending (R343, R344, R346) -/

/-- Receive buffer of a virtual channel in words (R343). -/
def vcBuf (c : Nat) : Nat := [64, 1024, 256].getD c 0

/-- The queue of a virtual channel. -/
def vcQ (x : XwLane) (c : Nat) : List XwMsg := if c = 0 then x.q0 else if c = 1 then x.q1 else x.q2

/-- Replace the queue of a virtual channel. -/
def setVcQ (x : XwLane) (c : Nat) (q : List XwMsg) : XwLane :=
  if c = 0 then { x with q0 := q } else if c = 1 then { x with q1 := q } else { x with q2 := q }

/-- Credit of a channel now: buffer plus words freed minus words sent, cumulative modulo 2¹⁶ (R343). -/
def creditOf (x : XwLane) (c : Nat) : Nat :=
  vcBuf c - (x.sent.getD c 0 + 2 ^ 16 - x.freedPeer.getD c 0) % 2 ^ 16

/-- Add to one of three cumulative counts, modulo 2¹⁶. -/
def addVc (l : List Nat) (c n : Nat) : List Nat := l.set c ((l.getD c 0 + n) % 2 ^ 16)

/-- T_SEND, and the full T of a beacon or an announcement, are stamped at the launch by the master; a relayed message keeps
them (R344, R345). -/
def stampT (t : Nat) : XwMsg → XwMsg
  | .bcast ts h p tc l v q ls a b dev => .bcast (if h = 0 then t % 2 ^ 40 else ts) h p tc l v q ls a b dev
  | .beacon ts h p dev t0 => if h = 0 then .beacon (t % 2 ^ 40) h p dev t else .beacon ts h p dev t0
  | .announce ts h p dev t0 ls => if h = 0 then .announce (t % 2 ^ 40) h p dev t ls else .announce ts h p dev t0 ls
  | m => m

/-- Link lane `n` sends positions (R315, R317): on the wire it stands as lane 24 + n. -/
def linkSend (n : Nat) (ps : List (Nat × Nat × Nat)) (s : State) : State := wireAll (24 + n) ps s

/-- The lane of link `n` goes to electrical idle. -/
def linkIdle (n : Nat) (s : State) : State := lnkMod (fun k => { k with wire := mdel k.wire (24 + n) }) s

/-- A control position (R318): the block types and the bits above them. -/
def ctrlPos (t1 t2 c1 c2 : Nat) : Nat × Nat × Nat := (2, c1 * 256 + t1, c2 * 256 + t2)

/-- A PREEMPT position (R344). -/
def preemptPos : Nat × Nat × Nat := ctrlPos 0x33 0x33 0 0

/-- A TRAIN position (R318): the training stage (1 word lock, 2 sweep) and the peaking under test. -/
def trainPos (stage pk : Nat) : Nat × Nat × Nat :=
  let c := (Config.trainContent stage pk).toNat
  ctrlPos 0x4B 0xB4 (c % 2 ^ 56) (c / 2 ^ 56)

/-- An ECHO position, or the ECHO_REPLY to one, with its tag in [55:8] of block 1 (R318). -/
def echoPos (reply : Bool) (tag : Nat) : Nat × Nat × Nat :=
  if reply then ctrlPos 0xAA 0xAA (tag % 2 ^ 48) 0 else ctrlPos 0x55 0x55 (tag % 2 ^ 48) 0

/-- A CREDIT position for the freed words of VC0 to VC2 (R343): the CRC-8 of R319 over block 1 [55:8] and block 2 [63:8], which
reads 0. -/
def creditPos (freed : List Nat) : Nat × Nat × Nat :=
  let c := packMsb [(freed.getD 2 0, 16), (freed.getD 1 0, 16), (freed.getD 0 0, 16)]
  ctrlPos 0x2D 0xD2 ((pec (leBytes 6 c ++ leBytes 7 0)).toNat * 2 ^ 48 + c) 0

/-- Launch the message in front of channel `c` (R343, R344). A VC0 packet goes out whole, behind a PREEMPT position where it
interrupts another; of a VC1 or VC2 packet the header goes out, and its other words wait for their turn. -/
def xwLaunch (n c : Nat) (m : XwMsg) (rest : List XwMsg) (s : State) : State :=
  let x := xwLane s n
  let ws := xwPacket x.seq (stampT s.t m)
  let s1 := setXw s n { setVcQ x c rest with
    seq := (x.seq + 1) % 2 ^ 32, sent := addVc x.sent c ws.length, lastWords := ws
    left := if c = 0 then x.left else ws.drop 1
    stalled := if c = 1 then false else x.stalled }
  let ps := if c = 0 then (if x.left.isEmpty then [] else [preemptPos]) ++ ws.map dataPos else (ws.take 1).map dataPos
  rwrap (linkSend n ps s1) (xwReg n 0x1C) 31 0 1

/-- The first channel from `cs` whose front packet has its credit. On a link whose pair is not accepted only VC2 passes (R461). -/
def pickVc (x : XwLane) (cs : List Nat) : Option (Nat × XwMsg × List XwMsg) :=
  match cs with
  | [] => none
  | c :: t =>
    match vcQ x c with
    | m :: rest => if (c = 2 ∨ x.accepted) ∧ (xwPayload m).length + 2 ≤ creditOf x c then some (c, m, rest) else pickVc x t
    | [] => pickVc x t

/-- LINK_PACKET_SEND (R343, R344): what link `n` sends next. A packet starts once its credit allows, VC0 before VC1 and VC2; the
words of a VC1 or VC2 packet follow one by one, and a VC0 packet may come between any two of them. With nothing to send the lane
sends IDLE (R318). A record that waits for credit counts one stall. -/
def linkPacketSend (n : Nat) (s : State) : State :=
  let x := xwLane s n
  if x.st ≠ 2 then s
  else
    let late := match x.q1 with
      | m :: _ => decide (creditOf x 1 < (xwPayload m).length + 2) && !x.stalled
      | [] => false
    let s1 := if late then
        raise 0x716 0x70300 [] 4 (coLink n) (rsat (setXw s n { x with stalled := true }) (xwReg n 0x24) 15 0 1)
      else s
    match pickVc (xwLane s1 n) (if x.left.isEmpty then [0, 1, 2] else [0]), x.left with
    | some (c, m, rest), _ => xwLaunch n c m rest s1
    | none, w :: ws => linkSend n [dataPos w] (xwMod n (fun y => { y with left := ws }) s1)
    | none, [] => linkSend n [ctrlPos 0x1E 0x1E 0 0] s1

/-! ### Receiving (R342, R343, R346, R347) -/

/-- Key by which the two copies of a packet for the partner are told (R346): a record by SITE, OBJ_ID and TYPE, a timebase
packet by TYPE, master and T_SEND. -/
def dupKey : XwMsg → Nat × Nat × Nat
  | .record t st ob _ _ => (t, st, ob)
  | .bcast ts _ _ _ _ _ _ _ _ _ dev => (24, dev, ts)
  | .beacon ts _ _ dev _ => (25, dev, ts)
  | .announce ts _ _ dev _ _ => (26, dev, ts)
  | .pair dev _ link _ _ => (28, dev, link)

/-- LINK_PACKET_RECEIVED (R342, R343, R346, R347, R461): a packet of words arrives whole on link `n`. It is checked for
credit, CRC, type and length; on a refused pair VC0 and VC1 are discarded; of two copies over XW2 and XW3 the first is kept;
a packet that is discarded returns its credit, and one that is delivered frees its words at once. The credit that the peer
holds is what CREDIT positions have told it. -/
def linkPacketReceived (n : Nat) (ws : List (BitVec 128)) (contact : Nat × Nat) (s : State) : State :=
  let x := xwLane s n
  let h := (ws.headD 0).toNat
  let c := min 2 (bits h 123 122)
  let k := ws.length
  if x.st ≠ 2 ∨ k < 2 then s
  else if vcBuf c < (x.recv.getD c 0 + k + 2 ^ 16 - x.freedTold.getD c 0) % 2 ^ 16 then raise 0x71D (xwFid n) [] 4 (coLink n) s
  else
    let back := setXw s n { x with recv := addVc x.recv c k, freedOwn := addVc x.freedOwn c k }
    let ps := (ws.drop 1).dropLast
    if packetWords h ps ≠ ws then raise 0x714 (xwFid n) [] 4 (coLink n) (rsat back (xwReg n 0x14) 31 16 1)
    else if 22 < bits h 119 108 ∨ bits h 119 108 ≠ ps.length ∨ bits h 127 124 < 8 ∨ 12 < bits h 127 124 then
      raise 0x71C 0x70300 [] 4 (coLink n) back
    else
      match xwDecode h ps contact with
      | none => raise 0x71C 0x70300 [] 4 (coLink n) back
      | some m =>
        let got := rwrap back (xwReg n 0x20) 31 0 1
        if inReset s 0x70300 ∨ (vcOf m ≠ 2 ∧ ¬ x.accepted) then got
        else if 2 ≤ n ∧ vcOf m ≠ 2 ∧ s.lnk.seen.contains (dupKey m) then rsat got (xwReg n 0x24) 31 16 1
        else
          let s1 := { got with xwIn := got.xwIn ++ [(n, m)] }
          if 2 ≤ n ∧ vcOf m ≠ 2 then lnkMod (fun q => { q with seen := (dupKey m :: q.seen).take 4096 }) s1 else s1

/-- CREDIT_SEND (R343): a CREDIT position goes out when the count of freed words has changed. -/
def creditSend (n : Nat) (s : State) : State :=
  let x := xwLane s n
  if x.st = 2 ∧ x.freedTold ≠ x.freedOwn then
    let p := creditPos x.freedOwn
    linkSend n [p] (setXw s n { x with freedTold := x.freedOwn, credit := p.2.1 })
  else s

/-- CREDIT_RECEIVED (R343): blocks `b1` and `b2` of a CREDIT position arrive; with a wrong check it is ignored, which costs
nothing. -/
def creditReceived (n : Nat) (b : Nat × Nat) (s : State) : State :=
  let x := xwLane s n
  let b1 := b.1
  if x.st = 2 ∧ bits b1 7 0 = 0x2D ∧ bits b.2 7 0 = 0xD2 ∧
      (pec (leBytes 6 (b1 / 256 % 2 ^ 48) ++ leBytes 7 (b.2 / 256 % 2 ^ 56))).toNat = bits b1 63 56 then
    setXw s n { x with freedPeer := [bits b1 23 8, bits b1 39 24, bits b1 55 40] }
  else s

/-! ### Pairing (R240, R346, R461) -/

/-- A byte of the GEOM section of the active image (R449). -/
def geomByte (s : State) (i : Nat) : Nat := (s.mgt.geom.getD i 0).toNat

/-- Offset of the entry of site `i` in the GEOM section. -/
def geomSite (i : Nat) : Nat := 0x10 + 16 * i

/-- The site that the GEOM section lists for link `n` (R461). -/
def listedSite (s : State) (n : Nat) : Nat := geomByte s (geomSite (rfld s Reg.VDT_XW_CFG 23 20 % 8) + 10 + min n 2)

/-- DEVICE_ID of a site in the GEOM section. -/
def siteDevice (s : State) (i : Nat) : Nat := ofLe ((s.mgt.geom.drop (geomSite i)).take 8)

/-- The PAIR payload of link `n` (R346). -/
def pairMsg (s : State) (n : Nat) : XwMsg :=
  .pair Config.deviceId.toNat (rfld s Reg.VDT_XW_CFG 23 20) n s.mgt.geomDigest s.mgt.vdtDigest

/-- Why a pair is refused (R461): 0 geometry digest, 1 site, 2 device ID; none when it is accepted. -/
def pairRefusal (s : State) (n dev st : Nat) (geom : List Byte) : Option Nat :=
  if geom ≠ s.mgt.geomDigest then some 0
  else if st ≠ listedSite s n then some 1
  else if st < 8 ∧ siteDevice s st ≠ 0 ∧ siteDevice s st ≠ dev then some 2
  else none

/-- The grant of a re-adaptation ends, or its request is withdrawn (R397). Log entry 282. -/
def sweepEnd (n : Nat) (s : State) : State :=
  { s with nrg := { s.nrg with
    waiting := s.nrg.waiting.filter (fun g => !(g.order == 3 && g.who == n))
    running := s.nrg.running.filter (fun g => !(g.order == 3 && g.who == n))
    granted := s.nrg.granted || s.nrg.running.any (fun g => g.order == 3 && g.who == n) } }

/-- A link lane loses its peer: DOWN, its traffic discarded, its pair no longer accepted (R347). -/
def linkDown (n : Nat) (s : State) : State :=
  sweepEnd n <| linkIdle n <| xwMod n (fun x => { x with
    st := 3, left := [], noPeer := false, lock := false, credInit := false, q0 := [], q1 := [], q2 := [], adapting := false, wantAdapt := false
    accepted := false, bestPk := none, stalled := false, downT := s.t }) s

/-- Exactly one of the partner lanes XW2 and XW3 is DOWN while the other one is UP (R347). -/
def oneDown (s : State) : Bool :=
  ((xwLane s 2).st == 3 && (xwLane s 3).st == 2) || ((xwLane s 3).st == 3 && (xwLane s 2).st == 2)

/-- Event 0x71E where a change of link `n`, from `was` to `s`, leaves one partner lane alone (R347). Log entry 314. -/
def partnerSingle (n : Nat) (was s : State) : State := raiseIf (oneDown s && !oneDown was) 0x71E (xwFid n) [] 4 (coLink n) s

/-- PAIR_RECEIVED (R461, R240, R347): the oldest PAIR that has arrived is checked. A device ID that differs from the one found
at training raises 0x71B and the link retrains; a refused link discards its VC0 and VC1 traffic; a difference of the VDT digest
alone disables stitching or partner merge on the link with event 0x60A. Log entry 269. -/
def pairReceived (s : State) : State :=
  match s.xwIn.find? (fun p => vcOf p.2 == 2) with
  | none => s
  | some (n, m) =>
    let s0 := { s with xwIn := s.xwIn.erase (n, m) }
    match m with
    | .pair dev st _ geom vdt =>
      let x := xwLane s0 n
      let a := Reg.MGT_PAIR_STATUS + 4 * n
      let s0 := rwrap s0 a 15 0 1
      if x.st ≠ 2 then s0
      else if x.peer ≠ 0 ∧ x.peer ≠ dev then
        partnerSingle n s0 (linkDown n (raise 0x71B (xwFid n) [] 4 (coLink n) s0))
      else
        let bad := decide (vdt ≠ s.mgt.vdtDigest)
        let r := pairRefusal s n dev st geom
        let own := decide (2 ≤ n) && rbit s Reg.VDT_XW_CFG 28 && geomByte s (geomSite (st % 8) + 13) == 1
        let s1 := setXw s0 n { x with
          peer := dev, accepted := r.isNone, digestBad := bad, ownBad := own
          q0 := if r.isNone then x.q0 else [], q1 := if r.isNone then x.q1 else [] }
        let sp := rfset (rfset s1 a 19 16 st) a 31 30 (if r.isNone then 1 else 2)
        let sq := match r with | some cause => rfset sp a 23 20 (cause + 1) | none => sp
        let s2 := raiseIf ((bad && !x.digestBad) || (own && !x.ownBad)) 0x60A 0x60E01 [] 4 (coLink n) sq
        (match r with
          | some cause => raise 0xB07 0xB0003 [n, cause + 1] 4 (coLink n) s2
          | none => s2)
    | _ => s0

/-- PAIR_RESEND (R461): PAIR is sent again every 1 s on a link that is up. -/
def pairResend (n : Nat) (s : State) : State := if n < 4 then xwSend n (pairMsg s n) s else s

/-! ### Training and equalisation (R347-R350) -/

/-- Preset peaking of link `n` for a temperature band (R350). -/
def presetPk (s : State) (n b : Nat) : Nat := rfld s (xwReg n 0x0C) (5 * b + 4) (5 * b)

/-- The best of the swept FOMs and its peaking, the lowest among equals (R349 step 3). -/
def bestFom (foms : List Nat) : Nat × Nat :=
  (foms.take 19).zipIdx.foldl (fun b p => if b.1 < p.1 then p else b) ((foms.headD 0), 0)

/-- FOM of an eye opening (R348). -/
def fomOf (h v : Nat) : Nat := min 255 (h * v / 4)

/-- Every enabled link has ended its training. -/
def linksTrained (s : State) : Bool :=
  (List.range 4).all (fun n => !rbit s (xwReg n 0) 31 || ((xwLane s n).st != 0 && (xwLane s n).st != 1))

/-- Link `n` is training (R347, R349): from the start of step 6, 1 ms after it went down, or 100 ms after a training that found no
peer. Log entry 312. -/
def xwTraining (s : State) (n : Nat) : Bool :=
  let x := xwLane s n
  x.st == 1 || (x.st == 3 && decide (x.downT + (if x.noPeer then 20000000 else 200000) ≤ s.t))

/-- R349 on link `n`: word lock within 25 ms or not, the FOM of each peaking from 0 to 18 dB, the sum of 64 round trips in 5 ns
units, and the tags of the peer's ECHO positions, which are answered. What the lane sends: TRAIN at the preset and at each peaking
of the sweep, CREDIT, 64 ECHO. Log entry 313. -/
def train (n : Nat) (lock : Bool) (foms : List Nat) (rtt : Nat × List Nat) (again : Bool) (s : State) : State :=
  let p := presetPk s n s.thm.tb
  let s0 := linkSend n [trainPos 1 p] (rwrap s (xwReg n 4) 7 0 1)
  if !lock then
    raise 0x711 (xwFid n) [] 4 (coLink n)
      (xwMod n (fun x => { x with
        st := 3, lock := false, noPeer := true, mainPk := p, shadowPk := p, downT := s.t, accepted := false }) s0)
  else
    let b := bestFom foms
    let s1 := rset s0 (xwReg n 0x10) (packMsb [(b.1, 8), (b.1, 8), (b.1, 8), (0, 8)])
    if b.1 < rfld s Reg.LNK_FOM_CFG 15 8 then
      raise 0x711 (xwFid n) [] 4 (coLink n)
        (linkIdle n <| xwMod n (fun x => { x with st := 4, lock := true, mainPk := b.2, shadowPk := b.2, accepted := false }) s1)
    else
      let x := xwLane s1 n
      let s2 := setXw s1 n { XwLane.reset with
        st := 2, lock := true, credInit := true, mainPk := b.2, shadowPk := b.2, seq := x.seq, low := x.low }
      let ps := (List.range 19).map (trainPos 2) ++ [creditPos [0, 0, 0]] ++
        (List.range 64).map (fun i => echoPos false (Config.echoTag (64 * s2.free + i)).toNat) ++ rtt.2.map (echoPos true)
      let s2 := linkSend n ps { s2 with free := s2.free + 1 }
      let s3 := rset (rset (rfset s2 (Reg.MGT_PAIR_STATUS + 4 * n) 31 30 0) (xwReg n 0x2C) (roundDiv rtt.1 64).toNat)
        (Reg.TBS_XW_LAT + 4 * n) (roundDiv rtt.1 128).toNat
      let s4 := raiseIf again 0x713 (xwFid n) [] 4 (coLink n) (raise 0x710 (xwFid n) [] 4 (coLink n) s3)
      xwSend n (pairMsg s n) s4

/-- Note the end of link training for the group (R65). -/
def noteTrained (s : State) : State :=
  if linksTrained s then { s with grp := { s.grp with trained := true } } else s

/-- LINK_TRAINING (R349): start-up step 6 on an enabled link that has not been trained. -/
def linkTraining (n : Nat) (lock : Bool) (foms : List Nat) (rtt : Nat × List Nat) (s : State) : State :=
  if xwOn s n ∧ (xwLane s n).st ≤ 1 then partnerSingle n s (noteTrained (train n lock foms rtt false s)) else s

/-- LINK_RETRAIN (R347, R349): a link that is down retrains in the background, 1 ms after it went down or every 100 ms without
a peer; 0x713 when it is up again. -/
def linkRetrain (n : Nat) (lock : Bool) (foms : List Nat) (rtt : Nat × List Nat) (s : State) : State :=
  if xwOn s n ∧ (xwLane s n).st = 3 ∧ xwTraining s n then partnerSingle n s (noteTrained (train n lock foms rtt true s)) else s

/-- Start-up step 6 begins (R349): every enabled link trains. -/
def linksBegin (s : State) : State :=
  (List.range 4).foldl (fun s n =>
    if xwOn s n ∧ (xwLane s n).st = 0 then
      let p := presetPk s n s.thm.tb
      linkSend n [trainPos 1 p] (xwMod n (fun x => { x with st := 1, mainPk := p, shadowPk := p }) s)
    else s) s

/-- LINK_WORD_LOCK_LOSS (R347): of 64 sync headers `errs` are invalid. They are counted (LNK_XW_ERR); more than 4 lose the word
lock. -/
def linkWordLockLoss (n errs : Nat) (s : State) : State :=
  if (xwLane s n).st = 2 ∧ 0 < errs then
    let s1 := raise 0x715 (xwFid n) [] 4 (coLink n) (rsat s (xwReg n 0x14) 15 0 errs)
    if errs ≤ 4 then s1 else partnerSingle n s1 (raise 0x712 (xwFid n) [] 4 (coLink n) (linkDown n s1))
  else s

/-- EYE_MEASURE (R348, R350): openings of the main setting and of the shadow setting. Eight low main measurements in a row
with AUTO_READAPT ask for a grant, at most once per 1 s after a sweep without gain. -/
def eyeMeasure (n hm vm hs vs : Nat) (s : State) : State :=
  let x := xwLane s n
  if x.st ≠ 2 then s
  else
    let f := fomOf (min 32 hm) (min 32 vm)
    let isLow := decide (f < rfld s Reg.LNK_FOM_CFG 23 16)
    let run := if isLow then min 8 (x.lowRun + 1) else 0
    let ask := decide (run = 8) && rbit s (xwReg n 0) 23 && !x.wantAdapt && !x.adapting && x.bestPk.isNone &&
      (match x.sweepT with | some t => decide (t + 200000000 ≤ s.t) | none => true)
    let s1 := rfset (rfset s (xwReg n 0x10) 31 24 f) (xwReg n 0x10) 23 16 (fomOf (min 32 hs) (min 32 vs))
    let s2 := setXw s1 n { x with
      lowRun := run, low := some (match x.low with | some y => min y f | none => f), wantAdapt := x.wantAdapt || ask }
    let s3 := raiseIf (isLow && x.lowRun == 0) 0x717 (xwFid n) [] 4 (coLink n) s2
    raiseIf ask 0x718 (xwFid n) [] 4 (coLink n) s3

/-- READAPT_SWEEP (R350): under its grant the shadow path has swept the peaking; a gain of FOM_HYST locks it at its best
setting, anything less raises 0x71A and stops sweeps for 1 s. The grant ends. -/
def readaptSweep (n : Nat) (foms : List Nat) (s : State) : State :=
  let x := xwLane s n
  if !x.adapting || x.st != 2 then s
  else
    let b := bestFom foms
    let s1 := sweepEnd n (rwrap s (xwReg n 0x28) 15 0 1)
    if rfld s (xwReg n 0x10) 31 24 + rfld s Reg.LNK_FOM_CFG 7 0 ≤ b.1 then
      rfset (setXw s1 n { x with adapting := false, shadowPk := b.2, bestPk := some b.2 }) (xwReg n 0x10) 23 16 b.1
    else
      raise 0x71A (xwFid n) [] 4 (coLink n) (setXw s1 n { x with adapting := false, sweepT := some s.t })

/-- EQ_SWAP (R350): after 1,024 words decoded alike, the paths swap roles at a word boundary. -/
def eqSwap (n : Nat) (s : State) : State :=
  let x := xwLane s n
  match x.bestPk with
  | some b =>
    if x.st = 2 then
      let f := rfld s (xwReg n 0x10) 23 16
      raise 0x719 (xwFid n) [] 4 (coLink n)
        (rwrap (rfset (rfset (setXw s n { x with mainPk := b, shadowPk := x.mainPk, bestPk := none, lowRun := 0 })
          (xwReg n 0x10) 23 16 (rfld s (xwReg n 0x10) 31 24)) (xwReg n 0x10) 31 24 f) (xwReg n 0x28) 31 16 1)
    else s
  | none => s

/-- At a change of temperature band the preset of the new band is tried on the shadow path of each link that is up, and is to
be swapped in if its FOM, `foms` by link, is not lower than that of the main path (R350). -/
def linkBandChange (b : Nat) (foms : List Nat) (s : State) : State :=
  (List.range 4).foldl (fun s n =>
    let x := xwLane s n
    let p := presetPk s n b
    if x.st = 2 then
      let f := foms.getD n 0
      let s1 := rfset s (xwReg n 0x10) 23 16 f
      setXw s1 n { x with shadowPk := p, bestPk := if rfld s (xwReg n 0x10) 31 24 ≤ f then some p else none }
    else s) s

/-! ### Reset scope and views -/

/-- Link lanes and the router inside the reset scope of `fid` (R523). -/
def linkResetScope (fid : Nat) (s : State) : State :=
  if 0x70200 ≤ fid ∧ fid ≤ 0x70203 then
    let n := fid % 256
    let x := xwLane s n
    partnerSingle n s (sweepEnd n (linkIdle n (setXw s n { XwLane.reset with
      st := if x.st = 0 then 0 else 3, downT := s.t, low := x.low })))
  else if fid = 0x70300 then
    lnkMod (fun k => { k with seen := [] })
      { s with xw := s.xw.map (fun p => (p.1, { p.2 with q0 := [], q1 := [], q2 := [] })), xwIn := [] }
  else s

/-- Link registers that show state (R354). -/
def viewLink (s : State) (a : Nat) : Option Nat :=
  if 0x700800 ≤ a ∧ a < 0x700900 then
    let n := (a - 0x700800) / 0x40
    let x := xwLane s n
    match (a - 0x700800) % 0x40 with
    | 0x04 => some (packMsb [(if xwTraining s n then 1 else x.st, 3), (b2n x.lock, 1), (b2n x.credInit, 1), (b2n x.adapting, 1), (0, 18), (rfld s a 7 0, 8)])
    | 0x08 => some (packMsb [(0, 3), (x.mainPk, 5), (0, 3), (x.shadowPk, 5), (0, 16)])
    | 0x10 => some (setBits (rnat s a) 7 0 (x.low.getD 0))
    | 0x18 =>
      some (if x.credInit then packMsb [(0, 1), (creditOf x 0, 7), (creditOf x 1, 12), (0, 3), (creditOf x 2, 9)] else 0)
    | 0x30 => some (x.peer % 2 ^ 32)
    | 0x34 => some (x.peer / 2 ^ 32)
    | _ => none
  else if Reg.MGT_PAIR_STATUS ≤ a ∧ a < Reg.MGT_PAIR_STATUS + 16 then
    let n := (a - Reg.MGT_PAIR_STATUS) / 4
    some (setBits (rnat s a) 31 30 (if !rbit s (xwReg n 0) 31 then (if s.mgt.loaded then 3 else 0)
      else if (xwLane s n).st = 2 then rfld s a 31 30 else 0))
  else none

end Sys2Proof.Machine
end

