-- ==== Sys2Proof/Machine/PinEngine.lean ====
section
/-! DEFINITION. Pin engines: step words, the start check, the steps, the deadline, start, halt and restart
(11_pin_engines.md R355-R371, R380). -/

namespace Sys2Proof.Machine

/-- Change the pin-engine domain. -/
def penMod (f : Pen → Pen) (s : State) : State := { s with pen := f s.pen }

/-- Engine `e`. -/
def eng (s : State) (e : Nat) : Engine := mgetD s.pen.eng e Engine.reset

/-- Replace engine `e`. -/
def setEng (e : Nat) (g : Engine) (s : State) : State := penMod (fun p => { p with eng := mput p.eng e g }) s

/-- Change engine `e`. -/
def engMod (e : Nat) (f : Engine → Engine) (s : State) : State := setEng e (f (eng s e)) s

/-- Function ID of engine `e`. -/
def engFid (e : Nat) : Nat := 0x80000 + e

/-- Data coordinate of engine `e`. -/
def coEng (e : Nat) : Nat := coPin e 2

/-- Field of a register of engine `e`. -/
def efld (s : State) (base e hi lo : Nat) : Nat := rfld s (base + 0x20 * e) hi lo

/-- OUT_BASE. -/
def outBase (s : State) (e : Nat) : Nat := efld s Reg.PEN_ENG_PINS e 31 25
/-- OUT_N. -/
def outN (s : State) (e : Nat) : Nat := efld s Reg.PEN_ENG_PINS e 24 20
/-- IN_BASE. -/
def inBase (s : State) (e : Nat) : Nat := efld s Reg.PEN_ENG_PINS e 15 9
/-- IN_N. -/
def inN (s : State) (e : Nat) : Nat := efld s Reg.PEN_ENG_PINS e 8 4
/-- BASE. -/
def progBase (s : State) (e : Nat) : Nat := efld s Reg.PEN_ENG_PROG e 10 0
/-- LIMIT. -/
def progLimit (s : State) (e : Nat) : Nat := efld s Reg.PEN_ENG_PROG e 26 16
/-- AUTO. -/
def engAuto (s : State) (e : Nat) : Bool := rbit s (Reg.PEN_ENG_CFG + 0x20 * e) 2

/-- Step word at an index of program memory. -/
def stepWord (s : State) (i : Nat) : Nat := (mgetD s.pen.pmem (i % 2048) 0).toNat

/-- OP of a step word (R359). -/
def opOf (w : Nat) : Nat := bits w 31 28
/-- OPD of a step word. -/
def opdOf (w : Nat) : Nat := bits w 27 24
/-- DLY of a step word. -/
def dlyOf (w : Nat) : Nat := bits w 23 16
/-- IMM of a step word. -/
def immOf (w : Nat) : Nat := bits w 15 0

/-- Engine `e` is halted (STATE 0, 3 or 4). -/
def engHalted (s : State) (e : Nat) : Bool := decide ((eng s e).st ≠ 1) && decide ((eng s e).st ≠ 2)

/-- Filtered inputs of engine `e`, input k in bit k (R356, R372). -/
def inputs (s : State) (e : Nat) : Nat := s.pen.level / 2 ^ inBase s e % 2 ^ inN s e

/-- The engine that valve bank `b` posts to, if the bank is enabled (R256). -/
def bankPe (s : State) (b : Nat) : Option Nat :=
  if rbit s (Reg.VDT_VB_CFG + 4 * b) 31 then some (rfld s (Reg.VDT_VB_CFG + 4 * b) 23 20) else none

/-- Engine `e` is the PE of an enabled valve bank (R363, R364). -/
def isFramer (s : State) (e : Nat) : Bool := (List.range 8).any (fun b => bankPe s b == some e)

/-! ### The start check (R363, R367) -/

/-- A step word that the start check accepts under windows of `on` outputs and `inn` inputs and a program of `len` + 1
words (R360, R361, R363, R367). -/
def wordOk (dout clk din on inn len w : Nat) : Bool :=
  let d := opdOf w
  let i := immOf w
  let target := decide (i % 2048 ≤ len)
  match opOf w with
  | 0x0 => if d ≤ 3 then decide (i < 2 ^ on) else d == 4 && i == 0
  | 0x1 => decide (d ≤ 2) && i == 0 && inn != 0
  | 0x2 =>
    decide (d / 4 ≤ 2) && decide (1 ≤ i) && decide (i ≤ 32) && (d / 4 == 1 || decide (dout < on)) &&
      (d % 2 == 0 || decide (clk < on)) && (d / 4 == 0 || decide (din < inn))
  | 0x3 => if d ≤ 3 then decide (i < 32) && decide (i < inn) else d == 4 && decide (i < 2 ^ inn)
  | 0x4 =>
    if d ≤ 1 ∨ d = 4 ∨ d = 8 ∨ d = 9 then i == 0 else if d ≤ 3 then decide (i < 2048) && target else d == 5
  | 0x5 | 0x6 => decide (d ≤ 2) && i == 0
  | 0x7 | 0x8 => if d = 3 then true else decide (d ≤ 2) && i == 0
  | 0x9 =>
    target && (if d = 8 ∨ d = 9 then decide (i / 2048 < inn)
      else if d = 0xA ∨ d = 0xB then decide (i / 2048 < 16) else decide (d ≤ 0xD) && decide (i < 2048))
  | 0xA => if d ≤ 1 then true else if d ≤ 3 then decide (i < 2048) && target else d == 4 && i == 0
  | 0xB => if d ≤ 1 then true else if d ≤ 4 then i == 0 else d == 5 && decide (i < 256)
  | 0xC => decide (d ≤ 2)
  | 0xD => if d ≤ 5 ∨ d = 0xA then true else decide (d ≤ 0xC) && i == 0
  | 0xE => d == 0 && i == 0
  | _ => false

/-- The first word of engine `e` that the start check refuses; LIMIT < BASE refuses BASE itself (R367). -/
def progBad (s : State) (e : Nat) : Option Nat :=
  let b := progBase s e
  let l := progLimit s e
  if l < b then some b
  else
    ((List.range (l - b + 1)).map (· + b)).find? (fun i =>
      !wordOk (efld s Reg.PEN_ENG_PINS e 19 16) (efld s Reg.PEN_ENG_PINS e 3 0) (efld s Reg.PEN_ENG_CFG e 7 4)
        (outN s e) (inN s e) (l - b) (stepWord s i))

/-! ### Halting (R357, R369) -/

/-- The engine whose output window holds pin `p`, with the output index (R356). -/
def ownerOf (s : State) (p : Nat) : Option (Nat × Nat) :=
  ((List.range 16).find? (fun e => decide (outBase s e ≤ p) && decide (p < outBase s e + outN s e))).map
    (fun e => (e, p - outBase s e))

/-- The levels that the pins of the engines `es` are driven to are kept, as these engines or the output stages stop (R357). -/
def keepLevels (es : List Nat) (s : State) : State :=
  if s.pen.hiz || inReset s 0x80101 then s
  else
    let level := fun (m p : Nat) =>
      match ownerOf s p with
      | some (e, i) =>
        if es.contains e && !engHalted s e then
          setBits m p p (b2n (bit (eng s e).out i != rbit s (Reg.PEN_PIN_CFG + 4 * p) 13))
        else m
      | none => m
    penMod (fun q => { q with last := (List.range 80).foldl level q.last }) s

/-- Halt engine `e` in `st` with the cause of event 0x807 (R369, R382). PC, registers, FIFOs, shift state and deadline are
kept; the program counts as unchanged from here. -/
def haltEng (e st cause : Nat) (s : State) : State :=
  if engHalted s e then s
  else
    raise 0x807 (engFid e) [cause] 5 (coEng e) (engMod e (fun g => { g with st := st, dirty := false, begun := false })
      (keepLevels [e] s))

/-- A fault halts engine `e` in STATE 4 (R367, R380): event 0x808, and 0x807 with cause 2. -/
def engFault (e : Nat) (s : State) : State := raise 0x808 (engFid e) [] 5 (coEng e) (haltEng e 4 2 s)

/-! ### Steps (R360-R366) -/

/-- The step ends with its delay; execution goes on at offset `pc`. A PC that passes LIMIT is ENGINE_FAULT (R367). -/
def stepEnd (e pc dly : Nat) (s : State) : State :=
  let s1 := engMod e (fun g => { g with pc := pc, delay := dly, st := 1, begun := false, shift := none, edge := false }) s
  if progLimit s e < progBase s e + pc then engFault e s1 else s1

/-- Fire the deadline (R364): the step is abandoned, the deadline disarms, execution goes on at its target. In the engine of
a valve bank it is a DL_VALVE miss, in any other event 0x80D. -/
def fireDeadline (e target : Nat) (s : State) : State :=
  let s1 := stepEnd e target 0 (engMod e (fun g => { g with dl := none, jumped := false }) s)
  let s2 := rsat s1 (Reg.PEN_ENG_COUNT + 0x20 * e) 7 0 1
  if isFramer s e then
    let b := ((List.range 8).find? (fun b => bankPe s b == some e)).getD 0
    if (eng s e).jumped then s2
    else dlMissUnless (inReset s (0x61000 + b)) 4 (engFid e) [b, s.t / tickLen s % 2 ^ 32] 6 (coBank b (s.t / tickLen s)) s2
  else raise 0x80D (engFid e) [] 5 (coEng e) s2

/-- T[31:0] − v, read as signed, is at least 0. -/
def reached32 (now v : Nat) : Bool := decide (0 ≤ diffMod 32 (now % 2 ^ 32) v)

/-- The deadline of engine `e` has expired; its target. -/
def deadlineHit (s : State) (e : Nat) : Option Nat :=
  match (eng s e).dl with
  | some (v, target) => if reached32 s.t v then some target else none
  | none => none

/-- The word at the PC of engine `e`. -/
def curWord (s : State) (e : Nat) : Nat := stepWord s (progBase s e + (eng s e).pc)

/-- Engine `e` runs and its current step has operation `op`; its clock runs and its function works (R380). -/
def atStep (s : State) (e op : Nat) : Bool :=
  decide (e < 16) && !engHalted s e && up s (engFid e) && !s.pen.clockBad && opOf (curWord s e) == op

/-- Run `f` on the current step of engine `e`, where it has operation `op`. -/
def runStep (e op : Nat) (f : Nat → Engine → State → State) (s : State) : State :=
  if atStep s e op then f (curWord s e) (eng s e) s else s

/-- A blocking step (R364): an expired deadline fires instead of it; else it waits until `ready`, and then does `act`. -/
def blocking (e : Nat) (ready : Bool) (act : State → State) (s : State) : State :=
  match deadlineHit s e with
  | some target => fireDeadline e target s
  | none => if ready then act s else engMod e (fun g => { g with st := 2, begun := true }) s

/-- Go on at the next step. -/
def nextStep (e w : Nat) (s : State) : State := stepEnd e ((eng s e).pc + 1) (dlyOf w) s

/-- DRIVE (R360). -/
def drive (e : Nat) (s : State) : State :=
  runStep e 0x0 (fun w g s =>
    let i := immOf w
    let o := match opdOf w with
      | 0 => i
      | 1 => g.out ||| i
      | 2 => g.out &&& (0xFFFF ^^^ i)
      | 3 => g.out ^^^ i
      | _ => g.x % 65536
    nextStep e w (engMod e (fun g => { g with out := o }) s)) s

/-- SAMPLE (R360). -/
def sample (e : Nat) (s : State) : State :=
  runStep e 0x1 (fun w _ s =>
    let i := inputs s e
    nextStep e w (engMod e (fun g => match opdOf w with
      | 0 => { g with x := i }
      | 1 => { g with y := i }
      | _ => { g with x := (g.x * 2 ^ inN s e) % 2 ^ 32 ||| i }) s)) s

/-- Set or clear output `k` of engine `e`. -/
def setOut (k : Nat) (v : Bool) (o : Nat) : Nat := setBits o k k (b2n v)

/-- The bit that leaves OSR next, and OSR after it (R363). -/
def osrOut (lsb : Bool) (osr : Nat) : Bool × Nat :=
  if lsb then (bit osr 0, osr / 2) else (bit osr 31, osr * 2 % 2 ^ 32)

/-- ISR after a bit entered (R363). -/
def isrIn (lsb b : Bool) (isr : Nat) : Nat :=
  if lsb then isr / 2 + b2n b * 2 ^ 31 else (isr * 2 + b2n b) % 2 ^ 32

/-- One phase of a SHIFT (R363): with CLK, the inactive phase places the out bit and the active phase samples the in bit and
completes the bit; without CLK each bit is one clock. -/
def shiftPhase (e w : Nat) (s : State) : State :=
  let d := opdOf w
  let mode := d / 4
  let lsb := d / 2 % 2 == 1
  let clk := d % 2 == 1
  let pol := rbit s (Reg.PEN_ENG_CFG + 0x20 * e) 3
  let kc := efld s Reg.PEN_ENG_PINS e 3 0
  let kd := efld s Reg.PEN_ENG_PINS e 19 16
  let din := bit (inputs s e) (efld s Reg.PEN_ENG_CFG e 7 4)
  engMod e (fun g =>
    let left := (g.shift.map (·.1)).getD (immOf w % 64)
    let active := (g.shift.map (·.2)).getD false
    let o := osrOut lsb g.osr
    if clk && !active then
      let out1 := setOut kc pol g.out
      { g with out := if mode = 1 then out1 else setOut kd o.1 out1, shift := some (left, true), st := 1 }
    else
      let out1 := if clk then setOut kc (!pol) g.out else if mode = 1 then g.out else setOut kd o.1 g.out
      { g with
        out := out1, osr := if mode = 1 then g.osr else o.2, isr := if mode = 0 then g.isr else isrIn lsb din g.isr
        shift := some (left - 1, false), st := 1 }) s

/-- Up to `n` phases of a SHIFT, ending at its last bit. -/
def shiftPhases (e w : Nat) : Nat → State → State
  | 0, s => s
  | n + 1, s =>
    if (eng s e).shift == some (0, false) then s else shiftPhases e w n (shiftPhase e w s)

/-- SHIFT (R363): `phases` phases of the SHIFT in progress pass, the whole step when they suffice; at its end the clock
returns to its inactive level. -/
def shift (e phases : Nat) (s : State) : State :=
  runStep e 0x2 (fun w _ s =>
    let s1 := shiftPhases e w (min phases 64) s
    if (eng s1 e).shift = some (0, false) then
      let pol := rbit s (Reg.PEN_ENG_CFG + 0x20 * e) 3
      let s2 := if opdOf w % 2 = 1 then engMod e (fun g => { g with out := setOut (efld s Reg.PEN_ENG_PINS e 3 0) pol g.out }) s1 else s1
      nextStep e w s2
    else s1) s

/-- WAITPIN (R360): the wait for an edge begins with the step; edges that come while it waits are noted by the pin stages. -/
def waitPin (e : Nat) (s : State) : State :=
  runStep e 0x3 (fun w g s =>
    let i := inputs s e
    let n := immOf w % 32
    let ready := match opdOf w with
      | 0 => bit i n
      | 1 => !bit i n
      | 4 => (i &&& immOf w) != (g.x &&& immOf w)
      | _ => g.begun && g.edge
    blocking e ready (nextStep e w) (if g.begun then s else engMod e (fun g => { g with edge := false }) s)) s

/-- WAITTIME (R360, R364): TIME forms wait on T; ARM and DISARM set or cancel the deadline and do not block. -/
def waitTime (e : Nat) (s : State) : State :=
  runStep e 0x4 (fun w g s =>
    match opdOf w with
    | 0 => blocking e (reached32 s.t g.x) (nextStep e w) s
    | 1 => blocking e (reached32 s.t g.y) (nextStep e w) s
    | 2 => nextStep e w (engMod e (fun g => { g with dl := some (g.x, immOf w % 2048), jumped := false }) s)
    | 3 => nextStep e w (engMod e (fun g => { g with dl := some (g.y, immOf w % 2048), jumped := false }) s)
    | 4 => nextStep e w (engMod e (fun g => { g with dl := none, jumped := false }) s)
    | 5 =>
      let t0 := if g.begun then g.from0 else s.t
      blocking e (decide (t0 + immOf w ≤ s.t)) (nextStep e w) (engMod e (fun g => { g with from0 := t0 }) s)
    | _ => s) s

/-- WAITPOS (R360): POS_X waits until P reaches X, LINE for the next line start after the step began. -/
def waitPos (e : Nat) (s : State) : State :=
  runStep e 0x4 (fun w g s =>
    match opdOf w with
    | 8 => blocking e (reached32 s.tbs.p g.x) (nextStep e w) s
    | 9 =>
      let s1 := if g.begun then s else engMod e (fun g => { g with lineFrom := s.tbs.tl }) s
      blocking e (g.begun && g.lineFrom != s.tbs.tl) (nextStep e w) s1
    | _ => s) s

/-- Put a word into X, Y or OSR and into LASTIN (R360, R362). -/
def loadIn (d v : Nat) (g : Engine) : Engine :=
  let g1 := { g with lastIn := v }
  match d with
  | 0 => { g1 with x := v }
  | 1 => { g1 with y := v }
  | _ => { g1 with osr := v }

/-- FETCH (R360). -/
def fetch (e : Nat) (s : State) : State :=
  runStep e 0x5 (fun w g s =>
    blocking e (!g.inF.isEmpty) (fun s =>
      nextStep e w (engMod e (fun g => loadIn (opdOf w) (g.inF.headD 0) { g with inF := g.inF.tail }) s)) s) s

/-- FETCHN (R362). -/
def fetchN (e : Nat) (s : State) : State :=
  runStep e 0x6 (fun w g s =>
    match g.inF with
    | v :: rest => nextStep e w (engMod e (fun g => loadIn (opdOf w) v { g with inF := rest }) s)
    | [] =>
      raise 0x80B (engFid e) [] 5 (coEng e) (rsat
        (nextStep e w (engMod e (fun g => loadIn (opdOf w) g.lastIn g) s)) (Reg.PEN_ENG_COUNT + 0x20 * e) 31 24 1)) s

/-- The word that STORE and STOREN put (R360). -/
def storeVal (w : Nat) (g : Engine) : Nat :=
  match opdOf w with
  | 0 => g.x
  | 1 => g.y
  | 2 => g.isr
  | _ => immOf w

/-- STORE (R360). -/
def store (e : Nat) (s : State) : State :=
  runStep e 0x7 (fun w g s =>
    blocking e (decide (g.outF.length < 8)) (fun s =>
      nextStep e w (engMod e (fun g => { g with outF := g.outF ++ [storeVal w g] }) s)) s) s

/-- STOREN (R362). -/
def storeN (e : Nat) (s : State) : State :=
  runStep e 0x8 (fun w g s =>
    if g.outF.length < 8 then nextStep e w (engMod e (fun g => { g with outF := g.outF ++ [storeVal w g] }) s)
    else raise 0x80C (engFid e) [] 5 (coEng e) (rsat (nextStep e w s) (Reg.PEN_ENG_COUNT + 0x20 * e) 23 16 1)) s

/-- The signal bus as an engine sees it: a change of this base cycle is seen at the engine's next clock (R365). -/
def sigSeen (s : State) : Nat := if s.pen.sigCyc.at? = some s.t then s.pen.sigCyc.was else s.pen.sig

/-- The condition of BRANCH (R361). -/
def branchCond (s : State) (e w : Nat) (g : Engine) : Bool :=
  let n := immOf w / 2048
  match opdOf w with
  | 0x0 => true
  | 0x1 => g.inF.isEmpty
  | 0x2 => !g.inF.isEmpty
  | 0x3 => decide (8 ≤ g.outF.length)
  | 0x4 => decide (toSigned 32 (g.x + 2 ^ 32 - g.y) < 0)
  | 0x5 => decide (0 ≤ toSigned 32 (g.x + 2 ^ 32 - g.y))
  | 0x6 => g.x == g.y
  | 0x7 => g.x != g.y
  | 0x8 => bit (inputs s e) n
  | 0x9 => !bit (inputs s e) n
  | 0xA => bit (sigSeen s) n
  | 0xB => !bit (sigSeen s) n
  | 0xC => reached32 s.t g.x
  | _ => g.c0 == 0

/-- BRANCH (R361). -/
def branch (e : Nat) (s : State) : State :=
  runStep e 0x9 (fun w g s =>
    if branchCond s e w g then stepEnd e (immOf w % 2048) (dlyOf w) s else nextStep e w s) s

/-- COUNT (R360). -/
def count (e : Nat) (s : State) : State :=
  runStep e 0xA (fun w g s =>
    let dec := fun (c : Nat) => (c + 65535) % 65536
    let jump := fun (c : Nat) (s : State) => if c = 0 then nextStep e w s else stepEnd e (immOf w % 2048) (dlyOf w) s
    match opdOf w with
    | 0 => nextStep e w (engMod e (fun g => { g with c0 := immOf w }) s)
    | 1 => nextStep e w (engMod e (fun g => { g with c1 := immOf w }) s)
    | 2 => jump (dec g.c0) (engMod e (fun g => { g with c0 := dec g.c0 }) s)
    | 3 => jump (dec g.c1) (engMod e (fun g => { g with c1 := dec g.c1 }) s)
    | _ => nextStep e w (engMod e (fun g => { g with c0 := g.x % 65536 }) s)) s

/-- Post an encoder edge (R366): from ENC_PE under SOURCE ENC it goes to the timebase, from any other engine it is discarded
with event 0x811. -/
def postEdge (e : Nat) (fwd : Bool) (s : State) : State :=
  if rfld s Reg.TBS_SRC_CFG 1 0 = 0 ∧ rfld s Reg.TBS_SRC_CFG 19 16 = e then
    penMod (fun p => { p with posted := p.posted ++ [fwd] }) s
  else raise 0x811 (engFid e) [e] 5 (coEng e) s

/-- The signal bus changes (R365): within one base cycle the host write comes first, then every CLR, then every SET. Log entry
317. -/
def sigChange (host : Option Nat) (clr set : Nat) (s : State) : State :=
  penMod (fun p =>
    let c := if p.sigCyc.at? = some s.t then p.sigCyc else { SigCycle.reset with at? := some s.t, was := p.sig }
    let c1 : SigCycle := { c with
      host := match host with | some v => some v | none => c.host
      clr := c.clr ||| clr, set := c.set ||| set }
    { p with sig := (c1.host.getD c1.was) &&& (0xFFFF ^^^ c1.clr) ||| c1.set, sigCyc := c1 }) s

/-- SIGNAL (R365, R366). -/
def signal (e : Nat) (s : State) : State :=
  runStep e 0xB (fun w g s =>
    let s1 := match opdOf w with
      | 0 => sigChange none 0 (immOf w) s
      | 1 => sigChange none (immOf w) 0 s
      | 2 =>
        match bits g.x 3 2, bits g.x 1 0 with
        | 0, 1 | 1, 3 | 3, 2 | 2, 0 => postEdge e true s
        | 1, 0 | 3, 1 | 2, 3 | 0, 2 => postEdge e false s
        | 0, 0 | 1, 1 | 2, 2 | 3, 3 => s
        | _, _ => raise 0x810 (engFid e) [] 5 (coEng e) s
      | 3 => postEdge e true s
      | 4 => postEdge e false s
      | _ => raise 0x812 (engFid e) [e, immOf w % 256] 5 (coEng e) s
    nextStep e w s1) s

/-- WAITSIG (R365). -/
def waitSig (e : Nat) (s : State) : State :=
  runStep e 0xC (fun w _ s =>
    let m := sigSeen s &&& immOf w
    let ready := match opdOf w with
      | 0 => m == immOf w
      | 1 => m == 0
      | _ => m != 0
    blocking e ready (nextStep e w) s) s

/-- The CONST operation of R361 on the registers. -/
def constOp (w : Nat) (g : Engine) : Engine :=
  let i := immOf w
  let ext := ofSigned 32 (toSigned 16 i)
  match opdOf w with
  | 0x0 => { g with x := i }
  | 0x1 => { g with x := setBits g.x 31 16 i }
  | 0x2 => { g with x := (g.x + ext) % 2 ^ 32 }
  | 0x3 => { g with y := i }
  | 0x4 => { g with y := setBits g.y 31 16 i }
  | 0x5 => { g with y := (g.y + ext) % 2 ^ 32 }
  | 0x6 => { g with x := (g.x + g.y) % 2 ^ 32 }
  | 0x7 => { g with y := g.x }
  | 0x8 => { g with x := g.y }
  | 0x9 => { g with osr := g.x }
  | 0xA => { g with osr := i }
  | 0xB => { g with x := g.isr, isr := 0 }
  | _ => { g with x := g.x ^^^ g.y }

/-- CONST (R361). -/
def const (e : Nat) (s : State) : State := runStep e 0xD (fun w _ s => nextStep e w (engMod e (constOp w) s)) s

/-- HALT (R360, R369): the engine halts in STATE 3 at this step, from which a restart without a program change begins (R371).
Log entry 316. -/
def haltStep (e : Nat) (s : State) : State := runStep e 0xE (fun _ _ s => haltEng e 3 1 s) s

/-- The step at the PC of engine `e` is a blocking one (R364). -/
def blockingStep (s : State) (e : Nat) : Bool :=
  let w := curWord s e
  match opOf w with
  | 0x3 | 0x5 | 0x7 | 0xC => true
  | 0x4 => decide (opdOf w ≤ 1) || opdOf w == 5 || opdOf w == 8 || opdOf w == 9
  | _ => false

/-- DEADLINE_EXPIRE (R364): an armed deadline whose time has come fires at a blocking step. -/
def deadlineExpire (e : Nat) (s : State) : State :=
  match deadlineHit s e with
  | some target =>
    if decide (e < 16) && !engHalted s e && up s (engFid e) && !s.pen.clockBad && blockingStep s e then fireDeadline e target s
    else s
  | none => s

/-- ENCODER_EDGE (R366, R42): the oldest posted edge reaches the timebase. -/
def encoderPosted (s : State) : State :=
  match s.pen.posted with
  | [] => s
  | f :: rest => encoderEdge f (penMod (fun p => { p with posted := rest }) s)

/-! ### Start, halt and restart (R355, R368-R371) -/

/-- Engines of a mask. -/
def maskEngines (v : Nat) : List Nat := (List.range 16).filter (fun e => bit v e)

/-- Halt-idle level of output `k` of engine `e`: 0 low, 1 high; 0 for high impedance and for hold (R371). -/
def idleOut (s : State) (e k : Nat) : Bool := rfld s (Reg.PEN_PIN_CFG + 4 * (outBase s e + k)) 15 14 == 1

/-- The output register at a restart after a program change (R371). -/
def idleOuts (s : State) (e : Nat) : Nat := nsum ((List.range (outN s e)).map (fun k => b2n (idleOut s e k) * 2 ^ k))

/-- Bits of an interrupted SHIFT not yet complete (R371). -/
def bitsLeft (g : Engine) : Nat := (g.shift.map (·.1)).getD 0

/-- Start one engine (R371). A PC that still lies beyond LIMIT is ENGINE_FAULT again (R367). -/
def startEng (s : State) (e : Nat) : State :=
  let g := eng s e
  if g.dirty then
    let n := bitsLeft g
    raise 0x809 (engFid e) [n] 5 (coEng e) (rsat (setEng e { g with
      st := 1, pc := 0, delay := 0, x := 0, y := 0, c0 := 0, c1 := 0, lastIn := 0, dl := none, jumped := false
      osr := if g.shift.isSome then 0 else g.osr, isr := if g.shift.isSome then 0 else g.isr
      shift := none, out := idleOuts s e, changed := true, dirty := false, begun := false, edge := false, acc := 0 } s)
      (Reg.PEN_ENG_COUNT + 0x20 * e) 15 8 n)
  else
    -- a bit whose active phase had begun is complete; otherwise the bit repeats from its first phase
    let s1 := raiseIf g.shift.isSome 0x80A (engFid e) [] 5 (coEng e)
      (setEng e { g with st := 1, changed := false, begun := false, edge := false, acc := 0
                         shift := g.shift.map (fun x => (x.1, false)) } s)
    if progLimit s e < progBase s e + g.pc then engFault e s1 else s1

/-- Start the engines of `es`, all or none (R368), with event 0x821 for engines that start by AUTO and 0x806 otherwise (R380). The
answer says whether they started. -/
def startAll (auto : Bool) (es : List Nat) (s : State) : Bool × State :=
  let mask := nsum (es.map (fun e => 2 ^ e))
  if es.any (fun e => !engHalted s e || inReset s (engFid e)) then (false, raise0 0x804 0x80300 [mask, 0] s)
  else
    match es.find? (fun e => (progBad s e).isSome) with
    | some e =>
      (false, raise0 0x804 0x80300 [mask, 1]
        (raise 0x805 0x80300 [e, (progBad s e).getD 0] 5 (coEng e) s))
    | none => (true, raise0 (if auto then 0x821 else 0x806) 0x80300 (if auto then [] else [mask])
        (penMod (fun p => { p with awaitStart := p.awaitStart && p.clockBad }) (es.foldl startEng s)))

/-- PEN_START (R368): a write with a reserved bit set is ignored by the register; an empty mask starts none. -/
def penStart (v : Nat) (s : State) : State :=
  if works s ∧ !inReset s 0x80300 ∧ v < 65536 ∧ v ≠ 0 then (startAll false (maskEngines v) s).2 else s

/-- PEN_HALT (R369). -/
def penHalt (v : Nat) (s : State) : State :=
  if works s ∧ v < 65536 then (maskEngines v).foldl (fun s e => haltEng e 0 0 s) s else s

/-- Halt every engine (R380, R523, R430). -/
def haltAll (st cause : Nat) (s : State) : State := (List.range 16).foldl (fun s e => haltEng e st cause s) s

/-- A register of the engine blocks that has been written: a write of PEN_ENG_PROG changes the program of its engine (R370). -/
def progWritten (a : Nat) (s : State) : State :=
  if 0x800100 ≤ a ∧ a < 0x800300 ∧ a % 0x20 = 8 then engMod ((a - 0x800100) / 0x20) (fun g => { g with dirty := true }) s else s

/-- Engines whose window contains a word (R370). -/
def covering (s : State) (i : Nat) : List Nat :=
  (List.range 16).filter (fun e => decide (progBase s e ≤ i) && decide (i ≤ progLimit s e))

/-- Mark the programs of engines as changed (R370). -/
def markChanged (es : List Nat) (s : State) : State := es.foldl (fun s e => engMod e (fun g => { g with dirty := true }) s) s

/-- Write a step word and mark its programs changed. -/
def putStep (i v : Nat) (s : State) : State :=
  markChanged (covering s i) (penMod (fun p => { p with pmem := mputD 0#32 p.pmem i (BitVec.ofNat 32 v) }) s)

/-- PMEM_WRITE (R370): refused, with event 0x80E, while an engine that covers the word runs. -/
def pmemWrite (v : Nat) (s : State) : State :=
  let i := rfld s Reg.PEN_PMEM_ADDR 10 0
  if !works s || inReset s 0x80300 then s
  else if (covering s i).any (fun e => !engHalted s e) then raise0 0x80E 0x80300 [] s
  else rfset (putStep i v s) Reg.PEN_PMEM_ADDR 10 0 (i + 1)

/-- A read of PEN_PMEM_DATA: the word, and the address advances by 1 (R370). -/
def pmemRead (s : State) : Nat × State :=
  let i := rfld s Reg.PEN_PMEM_ADDR 10 0
  (stepWord s i, rfset s Reg.PEN_PMEM_ADDR 10 0 (i + 1))

/-! ### FIFOs and the signal bus (R363, R365, R257) -/

/-- FIFO_IN_WRITE (R363): to the selected engine, refused with event 0x80F for a framer's engine or a full FIFO. -/
def fifoInWrite (v : Nat) (s : State) : State :=
  let e := rfld s Reg.PEN_SEL 3 0
  if !up s (engFid e) then s
  else if isFramer s e || decide (8 ≤ (eng s e).inF.length) then raise 0x80F (engFid e) [] 5 (coEng e) s
  else engMod e (fun g => { g with inF := g.inF ++ [v % 2 ^ 32] }) s

/-- FIFO_OUT_READ (R363): the oldest word of the selected engine's output FIFO, which the read removes; 0 when it is empty. -/
def fifoOutRead (s : State) : Nat × State :=
  let e := rfld s Reg.PEN_SEL 3 0
  match (eng s e).outF with
  | [] => (0, s)
  | v :: rest => (v, engMod e (fun g => { g with outF := rest }) s)

/-- SIGNAL_BUS_WRITE (R365, R383): the host writes the bus; bits 31 to 16 are no field of it (R529). -/
def signalBusWrite (v : Nat) (s : State) : State :=
  if works s then sigChange (some (v % 65536)) 0 0 s else s

/-- FRAME_WORD_POST (R257): the next word of the oldest frame of bank `b` goes into the input FIFO of its engine, when an entry
is free. -/
def frameWordPost (b : Nat) (s : State) : State :=
  let fr := mgetD s.vdt.framers b Framer.reset
  match fr.q, bankPe s b with
  | (n, _, w :: ws) :: rest, some e =>
    if inReset s (0x61000 + b) ∨ 8 ≤ (eng s e).inF.length then s
    else
      let q := if ws.isEmpty then rest else (n, true, ws) :: rest
      engMod e (fun g => { g with inF := g.inF ++ [w % 2 ^ 32] })
        { s with vdt := { s.vdt with framers := mput s.vdt.framers b { fr with q := q } } }
  | _, _ => s

/-! ### Clock (R355, R380) -/

/-- The accumulator of engine `e` after one base-clock cycle (R355): it gains 1.00 and drops DIV at a tick. -/
def dividerNext (s : State) (e acc : Nat) : Nat :=
  let div := efld s Reg.PEN_ENG_CFG e 31 8
  if div ≤ acc + 256 then acc + 256 - div else acc + 256

/-- One base-clock cycle of the sixteen dividers, which run whether or not their engines do (R355), and stand while the clock is
unlocked (R380). -/
def dividers (s : State) : State :=
  if s.pen.clockBad then s
  else (List.range 16).foldl (fun s e => engMod e (fun g => { g with acc := dividerNext s e g.acc }) s) s

/-- An uncorrectable ECC error on a step fetch of engine `e` (R380): STATE 4 and an automatic reset. -/
def pmemEcc (e : Nat) (s : State) : State := autoReset (engFid e) 2 (raise 0x81A (engFid e) [] 5 (coEng e) (haltEng e 4 2 s))

/-- An engine inside the reset scope of its function (R523): halted, cleared, the bits abandoned counted. -/
def engResetScope (e : Nat) (s : State) : State :=
  let n := bitsLeft (eng s e)
  let s1 := haltEng e 0 3 s
  rsat (setEng e { Engine.reset with dirty := true } s1) (Reg.PEN_ENG_COUNT + 0x20 * e) 15 8 n

end Sys2Proof.Machine
end

