-- ==== Sys2Proof/Machine/Energy.lean ====
section
/-! DEFINITION. The input meter, the ledger, the energy plan, admission and shedding, the metered guard, grants and the
power-fail sequence (12_energy.md; 01_architecture.md R34, R35, R39). -/

namespace Sys2Proof.Machine

/-- Change the energy domain. -/
def nrgMod (f : Nrg → Nrg) (s : State) : State := { s with nrg := f s.nrg }

/-! ### Coefficients (R390, R391, NRG_COEF_SEL) -/

/-- OTP production values of R390 by coefficient number, in 0.001 of the unit R390 gives; 23 is ΔW_leak of the band. -/
def otpCoef (tb i : Nat) : Nat :=
  if i = 23 then [0, 0, 300, 900, 2000].getD tb 0
  else [35000, 250000, 90000, 16000, 600, 300, 1000, 9500, 0, 40000, 4300, 200, 150, 600, 400, 300, 100, 100, 300, 34000,
    31000, 27000, 24000].getD i 0

/-- The coefficient that the NRG section of the loaded image holds; none before an image is loaded (R391). -/
def sectionCoef (s : State) (tb i : Nat) : Nat := if s.mgt.loaded then (Config.imageCoef s.nrg.sect tb i).toNat else 0

/-- The coefficient in use: the larger of the image's and OTP's (R391). -/
def coef (s : State) (tb i : Nat) : Nat := max (otpCoef tb i) (sectionCoef s tb i)

/-- The coefficient in use is taken from OTP. -/
def fromOtp (s : State) (tb i : Nat) : Bool := decide (sectionCoef s tb i < otpCoef tb i)

/-- Coefficient number of term 10 at a set's rate. -/
def rateCoef (s : State) (n : Nat) : Nat := [9, 19, 20, 21, 22].getD (rfld s (setCfg n) 30 28) 9

/-! ### Planned power (R390, R393), in femtowatts -/

/-- Rows read per line and captured bands of the set in force (R29, R80). -/
def rowsNow (s : State) : Nat := nsum ((List.range 9).map (fun k => (s.ary.set.rows k).length))

/-- Captured bands. -/
def bandsNow (s : State) : Nat := ((List.range 9).filter (fun k => s.ary.set.captured k)).length

/-- Gust evaluation is enabled and not among the shed families (R393). -/
def gustPlanned (s : State) (shed : Nat) : Bool := rbit s Reg.VDT_GUST_CFG 31 && !bit shed 3

/-- Listed gust bands. -/
def listedCount (s : State) : Nat := nsum ((List.range 8).map (fun i => b2n (rbit s Reg.VDT_GUST_CFG (16 + i))))

/-- Companion pixels per second (term 7). -/
def auxRate (s : State) : Nat :=
  nsum ((List.range 2).map (fun p =>
    if configured s p then linePx s p * 200000000 / max 1 (pfld s p Reg.AUX_PORT_TLINE 19 0) else 0))

/-- AUTO engines and enabled strobes (term 8). -/
def pinLoad (s : State) : Nat :=
  nsum ((List.range 16).map (fun e =>
    b2n (rbit s (Reg.PEN_ENG_CFG + 0x20 * e) 2) + b2n (rbit s (Reg.PEN_ST_CFG + 4 * e) 31)))

/-- Term 11: c × 1.02 × D over all sets, of the families carried. -/
def trafficPower (s : State) (tb shed : Nat) (useDrop : Bool) : Nat :=
  coef s tb 10 * 102 * nsum ((List.range 4).map (fun n =>
    if setEn s n then demandOf s n (if useDrop then (laneSet s n).drop else 0) shed else 0)) / (100 * demandDiv s)

/-- Σ over t of S_t + c_t × q_t, term by term (R390), with the families of `shed` left out. -/
def planTerms (s : State) (tb shed : Nat) : List Nat :=
  let c := coef s tb
  let f := rfld s Reg.ARY_FMAX 15 0
  let nr := rowsNow s
  let cols := 8 * s.ary.set.gwin.2
  let rate := Config.maxObjectRate.toNat
  let gust := gustPlanned s shed
  let mW := 1000000000000
  [c 11 * mW + c 0 * ((nr + 1) * f * cols),
   c 12 * mW + c 1 * 1000 * (nr * f),
   c 13 * mW + c 2 * (nr * f * cols),
   c 14 * mW + c 3 * (36864 * (2 * bandsNow s + 2 + (if bit shed 3 then 0 else listedCount s)) * f),
   c 15 * mW + c 4 * 1000000 * rate,
   if gust then c 5 * 1000000 * rate else 0,
   if auxMode s = 0 then 0 else c 16 * mW + c 6 * 1000 * auxRate s,
   c 17 * mW + c 7 * 1000000000 * pinLoad s,
   c 18 * mW,
   1000000000 * (nsum ((List.range 4).map (fun n =>
      if setEn s n then (cfgNdata s n + rfld s (setCfg n) 27 26) * c (rateCoef s n) else 0)) +
    nsum ((List.range 4).map (fun n => if rbit s (Reg.LNK_XW_CFG + 0x40 * n) 31 then c 9 else 0))),
   trafficPower s tb shed false]

/-- W_plan × 100 in femtowatts (R390). -/
def wPlan100 (s : State) (tb shed : Nat) : Nat := 112 * nsum (planTerms s tb shed) + 100 * coef s tb 23 * 1000000000000

/-- A power in femtowatts × `k`, in mW to the nearest. -/
def toMw (k v : Nat) : Nat := (roundDiv v (k * 1000000000000 : Nat)).toNat

/-- W_env in force in mW (R427). -/
def envMw (s : State) : Nat :=
  let e := rfld s Reg.NRG_ENV 15 0
  if s.nrg.cutNow then max (e * 8 / 10) 4000 else e

/-- The prefix of `p` shed steps as MGT_SHED_STATUS writes it. -/
def stepMask (p : Nat) : Nat := 2 ^ p - 1

/-- R34 with `p` steps shed. -/
def planFits (s : State) (tb p : Nat) : Bool :=
  decide (110 * wPlan100 s tb (stepMask p) ≤ 10000 * envMw s * 1000000000000)

/-- Band of the coefficients: TB4 while the fault of R422 is in force in the planner, else the band in force. -/
def planTb (s : State) : Nat := if s.nrg.tb4Now then 4 else s.thm.tb

/-- The planner takes over the reduced envelope of R427 and the TB4 coefficients of R422. -/
def planAdopt (s : State) : State := nrgMod (fun n => { n with cutNow := s.thm.envCut, tb4Now := s.thm.bothBad }) s

/-- Shed from `p` until R34 passes, at most to step 4 (R393). -/
def shedFrom (s : State) (tb : Nat) : Nat → Nat → Nat
  | 0, p => p
  | k + 1, p => if planFits s tb p || decide (4 ≤ p) then p else shedFrom s tb k (p + 1)

/-- Restore from `p` while R34 still passes (R393). -/
def restoreFrom (s : State) (tb : Nat) : Nat → Nat
  | 0 => 0
  | p + 1 => if planFits s tb p then restoreFrom s tb p else p + 1

/-- Steps the plan sheds, from those it sheds now (R393). -/
def planDecide (s : State) (tb p : Nat) : Nat := if planFits s tb p then restoreFrom s tb p else shedFrom s tb 4 p

/-- MGT_BUDGET_NRG (R39). -/
def setBudget (p : Nat) (s : State) : State :=
  let tb := planTb s
  nrgMod (fun n => { n with tb := tb, checked := true })
    (rset s Reg.MGT_BUDGET_NRG (packMsb [(satN 16 (toMw 100 (wPlan100 s tb (stepMask p))), 16), (envMw s, 16)]))

/-- The envelope-breach fault arises (R396). -/
def breachOn (s : State) : State :=
  if s.nrg.breach then nrgMod (fun n => { n with clearT := none }) s
  else raise0 0x904 0x90101 [] (nrgMod (fun n => { n with breach := true, clearT := none }) s)

/-- The planned re-check (R35 step 4, R99, R393, R394): steps are decided now and take effect at the next line boundary; a
result that fails R34 with all four shed raises the envelope-breach fault. -/
def planRecheck (s : State) : State :=
  if !s.nrg.admitted || inReset s 0x90101 then s
  else
    let p := planDecide s (planTb s) s.nrg.planShed
    let bad := !planFits s (planTb s) p
    let s1 := setBudget p (nrgMod (fun n => { n with
      planNext := if p = n.planShed then none else some p, planBad := bad }) s)
    if bad then breachOn s1
    else if s.nrg.planBad then nrgMod (fun n => { n with clearT := some s.t }) s1
    else s1

/-- Log one decision of the planner or the guard (NRG_SHED_LOG). -/
def shedEntry (restore : Bool) (step cause : Nat) (s : State) : State :=
  nrgMod (fun n => { n with
    log := (packMsb [(b2n restore, 1), (step, 3), (cause, 2), (0, 2), (s.tbs.l, 24)] :: n.log).take 8 }) s

/-- Families shed by the planner now: the union of the plan and the guard (R395). -/
def shedNow (s : State) : Nat := max s.nrg.planShed s.nrg.guardShed

/-- Admission at start (R35 step 3, R393, R394): whether the verdict path fits. -/
def admission (s0 : State) : Bool × State :=
  let s := planAdopt s0
  let tb := planTb s
  let p := shedFrom s tb 4 0
  let ok := planFits s tb p
  let s1 := rfset (rfset (setBudget p s) Reg.MGT_SHED_STATUS 3 0 (stepMask p)) Reg.MGT_SHED_STATUS 11 8 (stepMask p)
  let s2 := nrgMod (fun n => { n with
    planShed := p, guardShed := 0, planNext := none, guardNext := none, admitted := ok, planBad := false }) s1
  if ok then
    let s3 := (List.range p).foldl (fun s i => shedEntry false (i + 1) 0 s) s2
    (true, raiseIf (decide (0 < p)) 0x900 0x90101 [] 0 0 s3)
  else (false, raise0 0x901 0x90101 [] s2)

/-- At a line boundary the decided steps take effect (R394, R395): BY_NRG, the log, events 0x902 and 0x903 with cause and step,
and the STATUS packets that announce them (R37, R327). A step is shed by the plan where the plan now sheds it, else by the
guard, and restored by the plan where the plan had shed it, else by the guard (log entry 274). -/
def shedApply (s : State) : State :=
  let n := s.nrg
  if n.planNext.isNone ∧ n.guardNext.isNone then s
  else
    let old := shedNow s
    let s1 := nrgMod (fun n => { n with
      planShed := n.planNext.getD n.planShed, guardShed := n.guardNext.getD n.guardShed
      planNext := none, guardNext := none }) s
    let new := shedNow s1
    let cause := fun (plan i : Nat) => if i ≤ plan then 1 else 2
    let s2 := rfset s1 Reg.MGT_SHED_STATUS 11 8 (stepMask new)
    let s3 := (List.range (new - old)).foldl (fun s i =>
      let c := cause s1.nrg.planShed (old + i + 1)
      raise0 0x902 0x90101 [c, old + i + 1] (shedEntry false (old + i + 1) c s)) s2
    let s4 := (List.range (old - new)).foldl (fun s i =>
      let c := cause n.planShed (old - i)
      raise0 0x903 0x90101 [c, old - i] (shedEntry true (old - i) c s)) s3
    if old < new then sendStatusAll 1 s4 else if new < old then sendStatusAll 2 s4 else s4

/-- At a line boundary a THM fault, or its end, reaches the planner, and R34 is run again for it or after a reset of the planner
or the ledger (R406, R422, R427; R35 step 4). -/
def planBoundary (s : State) : State :=
  if s.nrg.recheck || s.nrg.cutNow != s.thm.envCut || s.nrg.tb4Now != s.thm.bothBad then
    planRecheck (nrgMod (fun n => { n with recheck := false }) (planAdopt s))
  else s

/-- ENVELOPE_WRITE (R409): a write of NRG_ENV whose W_env lies outside 4,000–15,000 mW is ignored; an accepted one
is re-checked. -/
def envelopeWrite (v : Nat) (s : State) : State :=
  let w := v % 65536
  if 4000 ≤ w ∧ w ≤ 15000 then planRecheck (rset s Reg.NRG_ENV w) else s

/-! ### Metering (R384-R386) -/

/-- Mean power of the last `k` samples in mW; 1 mW is 128,000 units of V × I codes (R384). -/
def meanMw (k : Nat) (l : List Nat) : Nat :=
  let x := l.take k
  if x.isEmpty then 0 else (roundDiv (nsum x) (x.length * 128000 : Nat)).toNat

/-- P10, P100, P1000 in mW. -/
def p10 (s : State) : Nat := meanMw 1000 s.nrg.samples
/-- P100. -/
def p100 (s : State) : Nat := meanMw 10000 s.nrg.samples
/-- P1000. -/
def p1000 (s : State) : Nat := meanMw 100000 s.nrg.samples

/-- METER_SAMPLE (R384): a sample pair in steps of 0.25 mV and 31.25 µA. -/
def meterSample (v i : Nat) (s : State) : State :=
  if !domainRuns s 9 || inReset s 0x90000 then s
  else
    let v := v % 65536
    let i := i % 65536
    let ok := !s.thm.monImpl
    let s1 := nrgMod (fun n => { n with
      samples := (v * i :: n.samples).take 100000, meterOk := ok, acc := if ok then n.acc + v * i else n.acc
      accBad := n.accBad || !ok }) s
    let s2 := rset (rset s1 Reg.NRG_INPUT_V v) Reg.NRG_INPUT_I i
    let s3 := rset (rset (rset s2 Reg.NRG_INPUT_P (satN 16 (p10 s1))) (Reg.NRG_INPUT_P + 4) (satN 16 (p100 s1)))
      (Reg.NRG_INPUT_P + 8) (satN 16 (p1000 s1))
    rmax (rfset (rmax s3 Reg.NRG_INPUT_PMAX 15 0 (p10 s1)) Reg.NRG_INPUT_VMIN 15 0
      (min v (rfld s Reg.NRG_INPUT_VMIN 15 0))) Reg.NRG_INPUT_VMAX 15 0 v

/-- INPUT_OUT_OF_RANGE (R386): the metered input has stayed below 10.8 V, or above 13.2 V, for 10 ms. -/
def inputOutOfRange (s : State) : State :=
  let v := rfld s Reg.NRG_INPUT_V 15 0
  if !domainRuns s 9 then s
  else if v < 43200 then raise0 0x909 0x90000 [] s
  else if 52800 < v then raise0 0x90A 0x90000 [] s
  else s

/-! ### The ledger (R387-R389) -/

/-- Modelled energies of an interval of `dt` T cycles by domain 1 to 11, in 10⁻¹⁸ µJ: the static parts over the interval, and
the dynamic parts of the work done in it. A captured line has done one line's conversions inside the windows; lanes in
service and families carried count (R387). -/
def modelled (s : State) (dt : Nat) (line : Bool) : List Nat :=
  let tb := s.nrg.tb
  let c := coef s tb
  let shed := stepMask (shedNow s)
  let gust := gustPlanned s shed
  let set := s.ary.set
  let rowCols := nsum ((List.range 9).map (fun k => (set.rows k).length * (8 * (set.win k).2)))
  let cols := 8 * set.gwin.2
  let stat := fun (i : Nat) => c i * 1000000000000 * dt * 5
  let per := fun (fj : Nat) => if line then fj * 1000000000 else 0
  let rate := Config.maxObjectRate.toNat
  let flow := fun (fw : Nat) => fw * dt * 5
  let lanes := nsum ((List.range 4).map (fun n =>
    if (laneSet s n).stage = 0 ∨ (laneSet s n).down then 0
    else ((laneSet s n).slots.length + (laneSet s n).spares.length) * c (rateCoef s n))) +
    nsum ((List.range 4).map (fun n => if (xwLane s n).st = 0 then 0 else c 9))
  let ary := stat 12 + per (c 1 * 1000 * rowsNow s)
  let col := stat 11 + per (c 0 * (rowCols + cols))
  let pip := stat 13 + per (c 2 * rowCols) + stat 14 +
    per (c 3 * (36864 * (2 * bandsNow s + 2 + (if bit shed 3 then 0 else listedCount s))))
  let aux := if auxMode s = 0 then 0 else stat 16 + flow (c 6 * 1000 * auxRate s)
  let vdt := stat 15 + flow ((c 4 + (if gust then c 5 else 0)) * 1000000 * rate)
  let lnk := flow (1000000000 * lanes) + flow (trafficPower s tb shed true)
  let pen := stat 17 + flow (c 7 * 1000000000 * pinLoad s)
  [ary, col, 0, pip, aux, vdt, lnk, pen, 0, 0, stat 18]

/-- The fields MEAS to LEAK of an entry in µJ (R387), before they saturate; MEAS is 0 when the meter was out of service in the
interval (R385, R406). -/
def ledgerFields (s : State) (dt : Nat) (line : Bool) : List Nat :=
  let m := modelled s dt line
  let uJ := fun (x : Nat) => (roundDiv x (1000000000000000000 : Nat)).toNat
  let meas := if s.nrg.meterOk && !s.nrg.accBad then (roundDiv s.nrg.acc (12800000 : Nat)).toNat else 0
  meas :: m.map uJ ++ [uJ (nsum m * 12 / 100), uJ (coef s s.thm.tb 23 * 1000000000000 * dt * 5)]

/-- MODEL_DIVERGE (R389): metered and modelled energy of the last second differ by more than 10 %, at most once a minute. -/
def modelDiverge (meas model : Nat) (s : State) : State :=
  let n := s.nrg
  let a := n.divMeas + meas
  let b := n.divModel + model
  if s.t < n.divT + 200000000 then nrgMod (fun n => { n with divMeas := a, divModel := b }) s
  else
    let bad := decide (a < 10 * ((a : Int) - b).natAbs) &&
      (match n.divLast with | some t => decide (t + 12000000000 ≤ s.t) | none => true)
    let s1 := nrgMod (fun n => { n with
      divMeas := 0, divModel := 0, divT := s.t, divLast := if bad then some s.t else n.divLast }) s
    raiseIf bad 0x908 0x90100 [] 0 0 s1

/-- LEDGER_ENTRY_CLOSE (R387-R389, R394): at a line boundary, or every 1 ms in standstill, an entry closes for the line that
began before this T; at a boundary the decided sheds and restores take effect. Log entry 285. -/
def ledgerEntryClose (s : State) : State :=
  if !works s then s
  else
    let n := s.nrg
    let dt := s.t - n.closeT
    let stand := s.tbs.standstill
    let gap := ((s.tbs.hist.find? (fun h => decide (h.tl < s.t))).map (·.gap)).getD true
    let fs := (ledgerFields s dt (!stand && !gap)).map (satN 16)
    let flags := packMsb [(b2n (n.granted || !n.running.isEmpty), 1), (stepMask (shedNow s), 4), (b2n (!n.meterOk || n.accBad), 1),
      (b2n (!stand && gap), 1), (b2n stand, 1)]
    let entry := fs ++ [satN 16 (dt / 100), flags]
    let s1 :=
      if inReset s 0x90100 then nrgMod (fun n => { n with acc := 0, accBad := false, closeT := s.t, granted := false }) s
      else
        modelDiverge (fs.getD 0 0) (nsum (fs.drop 1)) (nrgMod (fun n => { n with
          ledger := (entry :: n.ledger).take 1024, acc := 0, accBad := false, total := n.total + fs.getD 0 0, closeT := s.t, granted := false
          sums := (List.range 14).map (fun i => n.sums.getD i 0 + fs.getD i 0) }) s)
    if stand then s1 else planBoundary (shedApply s1)

/-! ### The metered guard (R395, R396) -/

/-- The guard runs: GUARD_EN and a healthy meter. -/
def guardOn (s : State) : Bool := rbit s Reg.NRG_GUARD_CFG 31 && s.nrg.meterOk && !inReset s 0x90101 && s.nrg.admitted && works s

/-- GUARD_CHECK (R395): P100 above W_env sheds the next step of R393 at the next line boundary. -/
def guardCheck (s : State) : State :=
  let p := max (s.nrg.planNext.getD s.nrg.planShed) (s.nrg.guardNext.getD s.nrg.guardShed)
  if guardOn s ∧ envMw s < p100 s ∧ p < 4 then nrgMod (fun n => { n with guardNext := some (p + 1), aboveT := some s.t }) s
  else s

/-- 1.12 × the planned power of step `i` (1-4) in femtowatts × 100 (R395, NRG_PLAN_STEP). -/
def stepPower100 (s : State) (i : Nat) : Nat :=
  112 * (nsum (planTerms s s.nrg.tb (stepMask (i - 1))) - nsum (planTerms s s.nrg.tb (stepMask i)))

/-- GUARD_RESTORE (R395): after RESTORE_WIN with room the guard restores its last shed step. -/
def guardRestore (s : State) : State :=
  let g := s.nrg.guardShed
  if guardOn s ∧ 0 < g ∧ s.nrg.guardNext.isNone ∧
      11 * (p1000 s * 1000000000000 * 100 + stepPower100 s g) ≤ 10 * (envMw s * 1000000000000 * 100) then
    nrgMod (fun n => { n with guardNext := some (g - 1), roomT := some s.t }) s
  else s

/-- ENVELOPE_BREACH (R396): P1000 has stayed above W_env for BREACH_WIN with all four steps shed by the guard, or a planned
re-check fails; or the condition has been absent for BREACH_WIN and the fault clears. -/
def envelopeBreach (s : State) : State :=
  let cond := s.nrg.planBad || (guardOn s && s.nrg.guardShed == 4 && decide (envMw s < p1000 s))
  if !works s then s
  else if cond then breachOn s
  else if s.nrg.breach then raise0 0x905 0x90101 [] (nrgMod (fun n => { n with breach := false, clearT := none }) s)
  else s

/-! ### Grants (R397-R399) -/

/-- P_req in mW (R397). -/
def pReq (order : Nat) : Nat := [0, 150, 150, 60, 900, 350].getD order 0

/-- Work `who` of order `order` wants a grant: for orders 1 and 2 the recorder's mirror (0), the boot-count log (1), the
identity record (2) or the host's pass-through (3); an erase made again after a restart counts as work of the boot-count log; a
link; the snapshot; attestation. -/
def wantsGrant (s : State) (order who : Nat) : Bool :=
  let op := fun (o : Option NvOp) (k : Nat) => match o with | some x => x.kind == k && !x.granted | none => false
  let r := s.evt.rcd
  match order, who with
  | 1, 0 => (!(mirrorWaiting s).isEmpty || r.mProg.isSome) && !r.mBusy
  | 1, 1 => op s.mgt.devOps.head? 4
  | 1, 2 => op s.mgt.devOps.head? 6
  | 1, 3 => op s.mgt.nvOp 0
  | 2, 0 => !r.mErased && r.mErasing.isNone &&
      ((r.mGran == 0 && r.mProg.isNone && !(mirrorWaiting s).isEmpty) || decide (128 ≤ r.mGran))
  | 2, 1 => op s.mgt.devOps.head? 5 || op s.mgt.devOps.head? 9
  | 2, 2 => op s.mgt.devOps.head? 7
  | 2, 3 => op s.mgt.nvOp 1
  | 3, n => (xwLane s n).wantAdapt
  | 4, 0 => s.ary.snapPend
  | 5, 0 => s.mgt.attBusy && !s.mgt.attGranted
  | _, _ => false

/-- A grant for this work waits or runs. -/
def grantKnown (s : State) (order who : Nat) : Bool :=
  (s.nrg.waiting ++ s.nrg.running).any (fun g => g.order == order && g.who == who)

/-- GRANT_REQUEST (R397, R399): a writer of flash, a link, the snapshot or attestation asks the planner. -/
def grantRequest (order who : Nat) (s : State) : State :=
  if wantsGrant s order who && !grantKnown s order who && !inReset s 0x90101 then
    nrgMod (fun n => { n with waiting := n.waiting ++ [⟨order, who, s.t, false⟩] }) s
  else s

/-- The work begins under its grant; orders 1 and 2 ask for the reserve check of R419. -/
def grantWork (g : Grant) (s : State) : State :=
  let reserve := fun (s : State) => { s with thm := { s.thm with asked := s.thm.asked ++ [⟨3, 17, 0⟩] } }
  let nv := fun (s : State) => { s with mgt := { s.mgt with nvOp := s.mgt.nvOp.map (fun o => { o with granted := true }) } }
  let bl := fun (s : State) =>
    { s with mgt := { s.mgt with devOps := match s.mgt.devOps with
                                          | [] => []
                                          | o :: rest => { o with granted := true } :: rest } }
  match g.order, g.who with
  | 3, n => setXw s n { xwLane s n with wantAdapt := false, adapting := true }
  | 4, _ => snapGrant s
  | 5, _ => { s with mgt := { s.mgt with attGranted := true } }
  | _, 1 | _, 2 => nvSettle (reserve (bl s))
  | _, 0 => reserve s
  | _, _ => nvSettle (reserve (nv s))

/-- Give grant `g` (R397): counted, its wait noted, its work begun. -/
def giveGrant (g : Grant) (forced : Bool) (s : State) : State :=
  let w := Reg.NRG_GRANT_WAIT + 4 * (g.order - 1)
  let s1 := nrgMod (fun n => { n with
    waiting := n.waiting.filter (fun x => !(x.order == g.order && x.who == g.who))
    running := n.running ++ [{ g with t := s.t }], granted := true }) s
  let s2 := rwrap (rmax s1 w 31 16 ((s.t - g.t) / 200000)) w 15 0 1
  grantWork g (rsat s2 Reg.NRG_GRANT_COUNT (if forced then 31 else 15) (if forced then 16 else 0) 1)

/-- The end of granted work; a grant ran in the interval of the ledger (R387). -/
def grantEnd (order who : Nat) (s : State) : State :=
  let mine := fun (x : Grant) => x.order == order && x.who == who
  nrgMod (fun n => { n with running := n.running.filter (fun x => !mine x), granted := n.granted || n.running.any mine }) s

/-- Work that is given up: its grant ends, and a request that waits is withdrawn. -/
def grantDrop (order who : Nat) (s : State) : State :=
  grantEnd order who (nrgMod (fun n => { n with waiting := n.waiting.filter (fun x => !(x.order == order && x.who == who)) }) s)

/-- Orders that may be granted now: only 1 and 2 during an orderly stop or in CALM (R398). -/
def orderOpen (s : State) (order : Nat) : Bool := decide (order ≤ 2) || (s.thm.stop < 2 && s.mgt.state != .calm)

/-- The condition of R397 for one more grant. -/
def grantFits (s : State) (order : Nat) : Bool :=
  !s.nrg.meterOk ||
    decide (110 * (p10 s + nsum (s.nrg.running.map (fun g => pReq g.order)) + pReq order) ≤ 100 * envMw s)

/-- GRANT_EVALUATION (R397): the waiting requests are considered in the order of the table, oldest first within an order. -/
def grantEvaluation (s : State) : State :=
  if inReset s 0x90101 then s
  else
    ([1, 2, 3, 4, 5].flatMap (fun o => s.nrg.waiting.filter (fun g => g.order == o))).foldl (fun s g =>
      if orderOpen s g.order && wantsGrant s g.order g.who && grantFits s g.order then giveGrant g false s else s) s

/-- GRANT_FORCED (R397, R398): a request has waited past its limit. Orders 1, 2 and 5 are granted with 0x906; a
re-adaptation goes on waiting, with 0x907 once; the snapshot is withdrawn by SNAP_NO_GRANT. -/
def grantForced (order who : Nat) (s : State) : State :=
  match s.nrg.waiting.find? (fun g => g.order == order && g.who == who) with
  | none => s
  | some g =>
    if order = 3 then
      if g.long then s
      else raise0 0x907 0x90101 [] (nrgMod (fun n => { n with
        waiting := n.waiting.map (fun x => if x = g then { x with long := true } else x) }) s)
    else if order = 4 ∨ !orderOpen s order then s
    else raise0 0x906 0x90101 [order] (giveGrant g true s)

/-- SNAP_NO_GRANT (R94): the snapshot request is withdrawn, its grant request with it. -/
def snapWithdraw (s : State) : State :=
  nrgMod (fun n => { n with waiting := n.waiting.filter (fun g => g.order != 4) }) (snapNoGrant s)

/-- SNAP_DONE (R94, R397): the snapshot has been read out; its units are queued and its grant ends. -/
def snapOver (s : State) : State := if s.ary.snapBusy && s.ary.snapStage == 2 then grantEnd 4 0 (snapDone s) else s

/-! ### Reset scope and views -/

/-- Energy functions inside the reset scope of `fid` (R406, R523): the shed prefix and the totals are kept. -/
def nrgResetScope (fid : Nat) (s : State) : State :=
  if fid = 0x90000 then nrgMod (fun n => { n with samples := [], meterOk := false, acc := 0, accBad := true }) s
  else if fid = 0x90100 then nrgMod (fun n => { n with ledger := [], acc := 0, divMeas := 0, divModel := 0 }) s
  else if fid = 0x90101 then nrgMod (fun n => { n with waiting := [], planNext := none, guardNext := none }) s
  else s

/-- An energy function resumes (R406): after a reset of the planner or the ledger R34 is run again at the next line boundary. -/
def nrgResume (fid : Nat) (s : State) : State :=
  if fid = 0x90100 ∨ fid = 0x90101 then nrgMod (fun n => { n with recheck := true }) s else s

/-- Planned power of domain `d` (R409 NRG_PLAN_DOM): the terms charged to it, regulator loss, leakage. -/
def planDom (s : State) (d : Nat) : Nat :=
  let t := planTerms s s.nrg.tb (stepMask (shedNow s))
  if d = 11 then toMw 100 (12 * nsum t)
  else if d = 12 then coef s s.nrg.tb 23
  else toMw 1 (nsum ((List.range 11).map (fun i => if [2, 1, 4, 4, 6, 6, 5, 8, 11, 7, 7].getD i 0 = d + 1 then t.getD i 0 else 0)))

/-- Energy registers that show state (R409). -/
def viewNrg (s : State) (a : Nat) : Option Nat :=
  let n := s.nrg
  if a = Reg.NRG_STATUS then
    some (packMsb [(0, 20), (n.planShed, 3), (n.guardShed, 3), (n.tb, 3), (b2n n.breach, 1), (b2n n.meterOk, 1), (b2n n.admitted, 1)])
  else if a = Reg.NRG_E_TOTAL_LO then some (n.total / 1000 % 2 ^ 32)
  else if a = Reg.NRG_E_TOTAL_HI then some (n.total / 1000 / 2 ^ 32 % 65536)
  else if Reg.NRG_LEDGER ≤ a ∧ a < Reg.NRG_LEDGER + 32 then
    let e := (n.ledger[rfld s Reg.NRG_LEDGER_SEL 9 0]?).getD []
    let i := (a - Reg.NRG_LEDGER) / 4
    some (e.getD (2 * i) 0 + e.getD (2 * i + 1) 0 * 65536)
  else if Reg.NRG_PLAN_DOM ≤ a ∧ a < Reg.NRG_PLAN_DOM + 52 then
    some (if n.checked then satN 16 (planDom s ((a - Reg.NRG_PLAN_DOM) / 4)) else 0)
  else if a = Reg.NRG_COEF then
    let tb := rfld s Reg.NRG_COEF_SEL 7 5
    let i := rfld s Reg.NRG_COEF_SEL 4 0
    some (if s.mgt.loaded then b2n (fromOtp s tb i) * 2 ^ 31 + coef s tb i % 2 ^ 31 else 0)
  else if a = Reg.NRG_GRANT then
    let m := fun (l : List Grant) =>
      nsum ((List.range 5).map (fun i => if l.any (fun g => g.order == i + 1) then 2 ^ i else 0))
    some (packMsb [(0, 11), (m n.running, 5), (0, 11), (m n.waiting, 5)])
  else if Reg.NRG_PLAN_STEP ≤ a ∧ a < Reg.NRG_PLAN_STEP + 16 then
    some (if n.checked then satN 16 (toMw 100 (stepPower100 s ((a - Reg.NRG_PLAN_STEP) / 4 + 1))) else 0)
  else if Reg.NRG_PLAN_TERM ≤ a ∧ a < Reg.NRG_PLAN_TERM + 44 then
    some (if n.checked then
      satN 16 (toMw 1 ((planTerms s n.tb (stepMask (shedNow s))).getD ((a - Reg.NRG_PLAN_TERM) / 4) 0)) else 0)
  else if Reg.NRG_E_DOM ≤ a ∧ a < Reg.NRG_E_DOM + 56 then some (n.sums.getD ((a - Reg.NRG_E_DOM) / 4) 0 / 1000 % 2 ^ 32)
  else if Reg.NRG_SHED_LOG ≤ a ∧ a < Reg.NRG_SHED_LOG + 32 then some (n.log.getD ((a - Reg.NRG_SHED_LOG) / 4) 0)
  else none

end Sys2Proof.Machine
end

