-- ==== Sys2Proof/Machine/Thermal.lean ====
section
/-! DEFINITION. Housekeeping conversion, urgent requests, converter cross-check, sensors, temperature bands and the rate of rise
(13_thermal_housekeeping.md R410-R429, R437, R440). -/

namespace Sys2Proof.Machine

/-- Change the thermal domain. -/
def thmMod (f : Thm → Thm) (s : State) : State := { s with thm := f s.thm }

/-! ### Converters (R410-R421) -/

/-- Converter `c` (0 HKA, 1 HKB). -/
def convAt (s : State) (c : Nat) : Conv := s.thm.conv.getD c Conv.reset

/-- Change converter `c`. -/
def convMod (c : Nat) (f : Conv → Conv) (s : State) : State :=
  thmMod (fun t => { t with conv := t.conv.set c (f (t.conv.getD c Conv.reset)) }) s

/-- Function ID of converter `c`. -/
def convFid (c : Nat) : Nat := 0xA0000 + c

/-- Converter `c` is in full service: it is not faulty, not returning and not in reset (R421, R523). -/
def convHealthy (s : State) (c : Nat) : Bool :=
  !(convAt s c).faulty && !(convAt s c).returning && !inReset s (convFid c)

/-- Converter `c` serves channels (R421): in full service, or returning while the other one is not in full service. Log entry
286. -/
def convServes (s : State) (c : Nat) : Bool :=
  convHealthy s c || (!(convAt s c).faulty && !inReset s (convFid c) && !convHealthy s (1 - c))

/-- The converter that serves multiplexer `m` (R421). -/
def serverOf (s : State) (m : Nat) : Option Nat :=
  if convServes s m then some m else if convServes s (1 - m) then some (1 - m) else none

/-- P in ms (R413, R421). -/
def hkPeriod (s : State) : Nat := if convHealthy s 0 && convHealthy s 1 then 20 else 40

/-- Key of a result: the converter that made it, its multiplexer and index. -/
def resKey (c chan : Nat) : Nat := 64 * c + chan

/-- The result that the round in progress has delivered for index `i` of multiplexer `m` (R413): that of the serving converter,
or of the converter that delivered it before its channels moved. -/
def hkResult (s : State) (m i : Nat) : Option Int :=
  ((serverOf s m).toList ++ [m, 1 - m]).findSome? (fun c => mget s.thm.res (resKey c (32 * m + i)))

/-- Auxiliary input `n`. -/
def ainAt (s : State) (n : Nat) : Ain := mgetD s.thm.ain n Ain.reset

/-- Change auxiliary input `n`. -/
def ainMod (n : Nat) (f : Ain → Ain) (s : State) : State := thmMod (fun t => { t with ain := mmod t.ain n Ain.reset f }) s

/-- Channel of AINn (R410). -/
def ainChan (n : Nat) : Nat := 32 * (n / 4) + 18 + n % 4

/-- The auxiliary input of a channel, if it is one. -/
def ainOf (chan : Nat) : Option Nat :=
  if 18 ≤ chan % 32 ∧ chan % 32 ≤ 21 then some (4 * (chan / 32) + (chan % 32 - 18)) else none

/-- Settling conversions of a visit (R414): one, or two for an AINn on its first visit after a range change. -/
def settleOf (s : State) (chan : Nat) : Nat :=
  match ainOf chan with
  | some n => if (ainAt s n).twice then 2 else 1
  | none => 1

/-- Converter `c` begins the visit in front of its list, or begins it again (R415). -/
def beginVisit (c : Nat) (s : State) : State :=
  convMod c (fun k => { k with settle := (k.visits.head?.map (settleOf s)).getD 0 }) s

/-- Every channel that a round visits: HKA's indices, then HKB's (R413, R421). -/
def allChans : List Nat := [0, 1].flatMap (fun m => (List.range 22).map (fun i => 32 * m + i))

/-- Channels of the round in progress that have delivered no result and that no converter is to visit. -/
def chansLeft (s : State) : List Nat :=
  allChans.filter (fun ch => [0, 1].all (fun c => (mget s.thm.res (resKey c ch)).isNone && !(convAt s c).visits.contains ch))

/-- Converter `c` takes over the visits that nobody is to make in the round in progress (R421, R523). -/
def takeOver (c : Nat) (s : State) : State :=
  if !s.thm.running || (chansLeft s).isEmpty then s
  else
    let s1 := convMod c (fun k => { k with visits := k.visits ++ chansLeft s }) s
    if (convAt s c).visits.isEmpty && (convAt s c).serving.isNone then beginVisit c s1 else s1

/-- HK_ROUND_START (R413, R421): every period both converters begin a round; AIN settings written since take effect (R416). A
round that still runs is left to complete. -/
def hkRoundStart (s : State) : State :=
  if s.thm.running || !domainRuns s 10 || inReset s 0xA0100 || (serverOf s 0).isNone then s
  else
    let s0 := (List.range 8).foldl (fun s n =>
      let v := rnat s (Reg.THM_AIN_CFG + 4 * n)
      let a := ainAt s n
      if v = a.cfg then s
      else ainMod n (fun a => { a with
        cfg := v, vals := [], since := 0, twice := a.twice || bits v 1 0 != bits a.cfg 1 0 }) s) s
    let own := fun (m : Nat) => (List.range 22).map (fun i => 32 * m + i)
    let vis := fun (c : Nat) =>
      if inReset s (convFid c) ∨ (convAt s c).faulty then []
      else if convServes s c && !convServes s (1 - c) then allChans else own c
    let s1 := thmMod (fun t => { t with running := true, t0 := s.t, late := false, res := [] }) s0
    let s2 := [0, 1].foldl (fun s c =>
      beginVisit c (convMod c (fun k => { k with visits := vis c, aborts := 0, part := inReset s (convFid c) }) s)) s1
    -- the sense checks of R379 are made once per round
    { s2 with pen := { s2.pen with strobes := s2.pen.strobes.map (fun p => (p.1, { p.2 with sensed := false })) } }

/-- A delivered result of an auxiliary input enters its mean (R416). -/
def ainDeliver (chan : Nat) (v : Int) (s : State) : State :=
  match ainOf chan with
  | none => s
  | some n => ainMod n (fun a => { a with
      vals := (v.toNat :: a.vals).take (2 ^ bits a.cfg 5 3), since := satN 14 (a.since + 1), twice := false }) s

/-- The next waiting urgent request begins, or the interrupted visit begins again from its settling conversion (R415). -/
def afterUrgent (c : Nat) (s : State) : State :=
  match (convAt s c).queue with
  | u :: rest => convMod c (fun k => { k with serving := some (u, false), queue := rest }) s
  | [] => beginVisit c (convMod c (fun k => { k with serving := none }) s)

/-- HK_CONVERSION_DONE (R413, R414): a 100 µs conversion of converter `c` completes with value `v`. The settling conversion of a
visit is discarded; the other one is delivered, and the next visit begins, or a request that had to wait. The delivered
conversion of an urgent visit is URGENT_RESULT. -/
def hkConversionDone (c : Nat) (v : Int) (s : State) : State :=
  let c := c % 2
  let k := convAt s c
  if !domainRuns s 10 then s
  else
    match k.serving with
    | some (u, false) => convMod c (fun k => { k with serving := some (u, true) }) s
    | some (_, true) => s
    | none =>
      match k.visits with
      | [] => s
      | chan :: rest =>
        if 0 < k.settle then convMod c (fun k => { k with settle := k.settle - 1 }) s
        else
          let s1 := thmMod (fun t => { t with res := mput t.res (resKey c chan) v }) s
          let s2 := if serverOf s (chan / 32) = some c then ainDeliver chan v s1 else s1
          afterUrgent c (convMod c (fun k => { k with visits := rest, aborts := 0 }) s2)

/-! ### Urgent requests (R417-R419) -/

/-- The first of the requests asked for: by priority, oldest first (R417). -/
def nextAsked (s : State) : Option Urgent :=
  match s.thm.asked.find? (fun u => u.prio == 1) with
  | some u => some u
  | none =>
    match s.thm.asked.find? (fun u => u.prio == 2) with
    | some u => some u
    | none => s.thm.asked.head?

/-- Insert a request behind those of its priority and above. -/
def insertUrgent (u : Urgent) (l : List Urgent) : List Urgent :=
  l.filter (fun x => x.prio ≤ u.prio) ++ [u] ++ l.filter (fun x => u.prio < x.prio)

/-- URGENT_REQUEST (R415, R417, R418): the request reaches the converter that serves its channel. It aborts the conversion in
progress unless that visit has been aborted twice; then it waits (DEFERRED, event 0xA13). -/
def urgentRequest (s : State) : State :=
  match (if domainRuns s 10 then nextAsked s else none) with
  | none => s
  | some u =>
    let s0 := thmMod (fun t => { t with asked := t.asked.erase u }) s
    match serverOf s (u.chan / 32) with
    | none => s0
    | some c =>
      let k := convAt s c
      if k.serving.isSome then
        if k.queue.length < 8 then convMod c (fun k => { k with queue := insertUrgent u k.queue }) s0 else s
      else if k.visits.isEmpty then convMod c (fun k => { k with serving := some (u, false) }) s0
      else if k.aborts < 2 then
        convMod c (fun k => { k with serving := some (u, false), aborts := k.aborts + 1 }) s0
      else if k.queue.length < 8 then
        raise 0xA13 (convFid c) [] 8 (coHk (u.chan % 32) (u.chan / 32 == 1))
          (rsat (convMod c (fun k => { k with queue := insertUrgent u k.queue }) s0) Reg.THM_URGENT 15 0 1)
      else s

/-- URGENT_RESULT (R417, R419, R379, R424, R429): the delivered conversion of the urgent visit of converter `c` goes to its
requester alone: a sensor re-conversion, a strobe sense check, or the reserve check. -/
def urgentResult (c : Nat) (v : Int) (s : State) : State :=
  let c := c % 2
  match (if domainRuns s 10 then (convAt s c).serving else none) with
  | some (u, true) =>
    let s1 := rsat (afterUrgent c s) Reg.THM_URGENT 31 16 1
    if u.prio = 1 then thmMod (fun t => { t with reconv := mput t.reconv u.who v }) s1
    else if u.prio = 2 then
      let hi := rfld s Reg.PEN_ST_SENSE 31 16
      let lo := rfld s Reg.PEN_ST_SENSE 15 0
      raiseIf (decide (hi ≠ 0) && (decide (v < lo) || decide ((hi : Int) < v))) 0x815 0x80200 [u.who, ofSigned 32 v] 5
        (coPin u.who 1) s1
    else raiseIf (decide (v < 10800)) 0xA12 0xA0100 [] 8 (coHk 17 false) s1
  | _ => s

/-! ### Cross-check and failover (R420-R422) -/

/-- Reading of converter `c` on its own channel `i`. -/
def ownRes (s : State) (c i : Nat) : Int := mgetD s.thm.res (resKey c (32 * c + i)) 0

/-- A converter fails its SH0 or GND test (R420). -/
def refBad (s : State) (c : Nat) : Bool :=
  decide (60 < (ownRes s c 0 - 12000).natAbs) || decide (8 < (ownRes s c 2).natAbs)

/-- The monitor's voltage, in units of 0.25 mV (R384, R385). -/
def monVolt (s : State) : Nat := rfld s Reg.NRG_INPUT_V 15 0

/-- SH1 of converter `c` lies within 1.5 % of the monitor. -/
def nearMon (s : State) (c : Nat) : Bool := decide (1000 * (4 * ownRes s c 1 - (monVolt s : Int)).natAbs ≤ 15 * monVolt s)

/-- Converter `c` is judged in this round: it converted its own references, and it has not been in reset since the round began
(R420, R421). -/
def judged (s : State) (c : Nat) : Bool :=
  !(convAt s c).faulty && !(convAt s c).part && !inReset s (convFid c) && [0, 1, 2].all (fun i => (mget s.thm.res (resKey c (32 * c + i))).isSome)

/-- Converters suspect this round, whether the monitor alone disagreed, and whether the round is inconclusive (R420, R421). -/
def suspects (s : State) : List Nat × Bool × Bool :=
  if judged s 0 && judged s 1 then
    let bad := [0, 1].filter (refBad s)
    let a := ownRes s 0 1
    let b := ownRes s 1 1
    let agree := decide (100 * (a - b).natAbs ≤ max a.natAbs b.natAbs)
    if !bad.isEmpty then (bad, false, false)
    else if !agree then
      match nearMon s 0, nearMon s 1 with
      | true, false => ([1], false, false)
      | false, true => ([0], false, false)
      | _, _ => ([], false, true)
    else ([], !nearMon s 0 && !nearMon s 1, false)
  else ([0, 1].filter (fun c => judged s c && (refBad s c || !nearMon s c)), false, false)

/-- The urgent requests that converter `c` serves or holds are asked for again, before those that wait: the other converter
serves them (R417, R421). -/
def askAgain (c : Nat) (s : State) : State :=
  let k := convAt s c
  thmMod (fun t => { t with asked := k.serving.toList.map (·.1) ++ k.queue ++ t.asked }) s

/-- A converter becomes faulty: failover, or the THM fault of both, which reaches the planner at the next line boundary (R421,
R422). -/
def convFault (c : Nat) (s : State) : State :=
  let s1 := convMod c (fun k => { k with faulty := true, returning := false, visits := [], serving := none, queue := [] }) (askAgain c s)
  if (convAt s (1 - c)).faulty then raise0 0xA02 0xA0100 [] (thmMod (fun t => { t with bothBad := true }) s1)
  else raise 0xA01 0xA0100 [] 8 (coHk 31 (c == 1)) s1

/-- Judge one converter (R420, R421); `lim` is the number of consecutive suspect rounds that make it faulty. An inconclusive
round is none that a returning converter passes. -/
def judgeConv (lim : Nat) (bad : List Nat) (unsure : Bool) (s : State) (c : Nat) : State :=
  if !judged s c then s
  else if bad.contains c then
    let n := min 3 ((convAt s c).susp + 1)
    let s1 := raise 0xA00 (convFid c) [c] 8 (coHk 31 (c == 1)) (convMod c (fun k => { k with susp := n, passes := 0 }) s)
    if lim ≤ n then convFault c s1 else s1
  else
    convMod c (fun k => { k with
      susp := 0, passes := if k.returning && !unsure then k.passes + 1 else 0
      returning := k.returning && (unsure || decide (k.passes < 2)) }) s

/-- The input monitor is implausible after 3 rounds (R385, R420). -/
def judgeMonitor (alone : Bool) (s : State) : State :=
  let n := if alone then s.thm.monRounds + 1 else 0
  let s1 := thmMod (fun t => { t with monRounds := min 3 n }) s
  if 3 ≤ n ∧ ¬ s.thm.monImpl then
    raise0 0x90E 0x90000 [] { s1 with thm := { s1.thm with monImpl := true }, nrg := { s1.nrg with meterOk := false } }
  else s1

/-! ### Rails (R411) -/

/-- Nominal value of a rail in mV; none for VHB. -/
def railNominal (r : Nat) : Option Nat :=
  [some 800, some 850, some 1800, some 2800, some 1500, none, some 3300, some 3300, some 900, some 1200, some 3300,
    some 1800].getD r none

/-- The event of a rail out of band: low and high code and function. -/
def railEvent (r : Nat) (high : Bool) : Nat × Nat :=
  if r = 3 then (if high then 0x10C else 0x10B, 0x10000)
  else if r = 4 then (if high then 0x21B else 0x21A, 0x20C01)
  else (if high then 0xA11 else 0xA10, 0xA0100)

/-- Judge rail `r` (R411): out of band on two consecutive rounds, on whichever side, raises the event of its side once per
excursion. Log entry 321. -/
def judgeRail (s : State) (r : Nat) : State :=
  match railNominal r, hkResult s (r / 6) (12 + r % 6) with
  | some nom, some v =>
    let tol := rfld s Reg.THM_CFG 15 8
    let side : Int := if 1000 * (v - nom) > ((nom * tol : Nat) : Int) then 1
      else if 1000 * ((nom : Int) - v) > ((nom * tol : Nat) : Int) then -1 else 0
    let old := s.thm.railN.getD r 0
    let n : Int := side * (min 2 (old.natAbs + 1) : Nat)
    let hit := decide (2 ≤ n.natAbs) && !(s.thm.railX.getD r false)
    let e := railEvent r (decide (0 < side))
    raiseIf hit e.1 e.2 (if r = 3 ∨ r = 4 then [] else [r]) 8 (coHk (12 + r % 6) (r / 6 == 1))
      (thmMod (fun t => { t with
        railN := t.railN.set r n, railX := t.railX.set r (side != 0 && (t.railX.getD r false || hit)) }) s)
  | _, _ => s

/-! ### Sensors (R412, R423-R425) -/

/-- Neighbours of a sensor (R423). -/
def neighbours (i : Nat) : List Nat :=
  [[1, 2, 4], [0, 3, 5], [0, 3, 4], [1, 2, 5], [0, 2, 6], [1, 3, 8], [4, 7, 9], [6, 8, 15], [5, 7, 10], [6, 10, 11],
    [8, 9, 13], [9, 12], [11, 13, 14], [10, 12], [12, 15], [7, 14]].getD i []

/-- Channel of sensor TSi. -/
def sensorChan (i : Nat) : Nat := 32 * (i / 8) + 4 + i % 8

/-- Sensor `i` with reading `v` would be out (R424). -/
def wouldBeOut (s : State) (ts : List Int) (excl : List Nat) (i : Nat) (v : Int) : Bool :=
  let xt := 16 * rfld s Reg.THM_CFG 23 16
  let nb := (neighbours i).filter (fun j => !excl.contains j)
  let r := fun j => ts.getD j 0
  decide (2 ≤ nb.length) && nb.all (fun j => decide (xt < (v - r j).natAbs)) &&
    nb.all (fun a => nb.all (fun b => decide ((r a - r b).natAbs ≤ xt)))

/-- The urgent re-conversion of sensor `i` waits or is being served. -/
def reconvOpen (s : State) (i : Nat) : Bool :=
  let mine := fun (u : Urgent) => u.prio == 1 && u.who == i
  s.thm.asked.any mine ||
    s.thm.conv.any (fun k => k.queue.any mine || (match k.serving with | some (u, _) => mine u | none => false))

/-- Sensor `i` is to be re-converted by an urgent request (R424, R429); one already under way serves. -/
def askReconv (i : Nat) (s : State) : State :=
  if reconvOpen s i then s
  else thmMod (fun t => { t with reconv := mdel t.reconv i, asked := t.asked ++ [⟨1, sensorChan i, i⟩] }) s

/-- A reading at either end of the range is out of range (R412). -/
def outOfRange (v : Int) : Bool := decide (v ≤ -640) || decide (2400 ≤ v)

/-- Judge sensor `i` (R424) under the exclusions `ex` at the end of the round. -/
def judgeSensor (ex : List Nat) (s : State) (i : Nat) : State :=
  let v := s.thm.ts.getD i 0
  let oor := outOfRange v
  let isOut := wouldBeOut s s.thm.ts ex i v
  let mark := fun (t : Thm) => { t with oor := if oor then (if t.oor.contains i then t.oor else i :: t.oor) else t.oor.erase i }
  let exclude := fun (n : Nat) (s : State) =>
    raise 0xA03 0xA0200 [] 8 (coHk (4 + i % 8) (8 ≤ i)) (thmMod (fun t => { mark t with
      excl := i :: t.excl.erase i, outN := t.outN.set i n, goodN := t.goodN.set i 0 }) s)
  if ex.contains i then
    if oor ∨ isOut then thmMod (fun t => { mark t with goodN := t.goodN.set i 0 }) s
    else if s.thm.goodN.getD i 0 + 1 < 10 then
      thmMod (fun t => { mark t with goodN := t.goodN.set i (t.goodN.getD i 0 + 1) }) s
    else
      raise 0xA04 0xA0200 [] 8 (coHk (4 + i % 8) (8 ≤ i)) (thmMod (fun t => { mark t with
        excl := t.excl.erase i, outN := t.outN.set i 0, goodN := t.goodN.set i 0 }) s)
  else if oor then exclude (if isOut then min 3 (s.thm.outN.getD i 0 + 1) else 0) s
  else if !isOut then thmMod (fun t => { mark t with outN := t.outN.set i 0 }) s
  else
    let n := s.thm.outN.getD i 0 + 1
    if n < 2 then thmMod (fun t => { mark t with outN := t.outN.set i n }) s
    else if n = 2 then
      askReconv i (thmMod (fun t => { mark t with outN := t.outN.set i 2 }) s)
    else
      match mget s.thm.reconv i with
      | none => askReconv i (thmMod mark s)
      | some w =>
        if wouldBeOut s s.thm.ts ex i w || outOfRange w then exclude 3 s
        else thmMod (fun t => { mark t with outN := t.outN.set i 0 }) s

/-- T_max and the largest raw reading (R425). -/
def tMaxOf (ts : List Int) (excl : List Nat) : Int × Int :=
  let l := (List.range 16).filter (fun i => !excl.contains i)
  let m := l.foldl (fun (a : Option Int) i =>
    match a with | none => some (ts.getD i 0) | some x => some (max x (ts.getD i 0))) none
  let r := m.getD 0
  (r + (if excl.isEmpty then 0 else 80), r)

/-- The sensor that is read hottest. -/
def hottest (ts : List Int) (excl : List Nat) : Nat :=
  ((List.range 16).filter (fun i => !excl.contains i)).foldl (fun b i => if ts.getD b 0 < ts.getD i 0 || excl.contains b then i else b) 0

/-- The THM fault of R427: set, driven and recorded once; in the sensor cases ENV_CUT, which reaches the planner at the next
line boundary. -/
def thmFault (s : State) : State :=
  let ex := s.thm.excl
  let sens := (List.range 16).any (fun i => ex.contains i && (neighbours i).any (fun j => ex.contains j)) ||
    decide (3 < ex.length)
  let s1 := if sens then thmMod (fun t => { t with envCut := true }) s else s
  if (sens || s.thm.bothBad) && !s.thm.fault then raise0 0xA05 0xA0200 [] (thmMod (fun t => { t with fault := true }) s1)
  else s1

/-! ### Bands, rate of rise, orderly stop (R426, R428, R429) -/

/-- Lower bounds of TB1 to TB4 in 1/16 °C. -/
def bandBounds : List Int := [560, 880, 1200, 1440]

/-- The band that a temperature indicates (R426). -/
def bandOf (t : Int) : Nat := (bandBounds.filter (fun b => decide (b ≤ t))).length

/-- The band after a round, from band `cur`, with 2 °C of hysteresis downward (R426). -/
def nextBand (cur : Nat) (t : Int) : Nat :=
  let b := bandOf t
  if b < cur ∧ bandBounds.getD (cur - 1) 0 - 32 ≤ t then cur else b

/-- R of R428: against the round closest to 1 s earlier, rounds in which exclusions changed being skipped; 0 in the first second of
rounds (log entry 207). -/
def riseRate (s : State) (now : Int) : Int :=
  let want : Int := s.t - 200000000
  let l := s.thm.hist.filter (fun h => !h.2.2)
  let best := l.foldl (fun (b : Option (Nat × Int × Bool)) h =>
    match b with
    | none => some h
    | some x => if ((h.1 : Int) - want).natAbs < ((x.1 : Int) - want).natAbs then some h else some x) none
  match (if s.thm.hist.any (fun h => decide ((h.1 : Int) ≤ want + 100000 * hkPeriod s)) then best else none) with
  | some h => now - h.2.1
  | none => 0

/-- The condition of an orderly stop (R429). -/
def stopCond (tMax rate : Int) : Bool := decide (1728 ≤ tMax) || (decide (80 ≤ rate) && decide (1888 ≤ tMax + 3 * rate))

/-- The rise alarm (R428). -/
def riseAlarm (s : State) : State :=
  let hot := decide (32 < s.thm.rate)
  let up := if hot then min 3 (s.thm.riseN + 1) else 0
  let down := if hot then 0 else min 3 (s.thm.fallN + 1)
  let s1 := thmMod (fun t => { t with riseN := up, fallN := down }) s
  if up = 3 ∧ ¬ s.thm.rise then raise0 0xA07 0xA0200 [] (thmMod (fun t => { t with rise := true }) s1)
  else if down = 3 ∧ s.thm.rise then raise0 0xA08 0xA0200 [] (thmMod (fun t => { t with rise := false }) s1)
  else s1

/-- The orderly stop is triggered (R429): the hottest sensor is to be re-converted first. A re-conversion that was lost with a
converter is asked for again. -/
def stopTrigger (s : State) : State :=
  if s.thm.stop == 1 then askReconv s.thm.hot s
  else if stopCond s.thm.tMax s.thm.rate && s.thm.stop == 0 && !s.thm.bothBad && s.nrg.pf == 0 && s.thm.trip == 0 &&
      !inReset s 0xA0201 && s.mgt.state != .safe && s.mgt.state != .tripLatch then
    let h := hottest s.thm.ts s.thm.excl
    askReconv h (thmMod (fun t => { t with stop := 1, hot := h, reconv := mdel t.reconv h }) s)
  else s

/-- The readings of a completed round enter the registers and the sensor list. -/
def takeReadings (s : State) : State :=
  let ts := (List.range 16).map (fun i => (hkResult s (i / 8) (4 + i % 8)).getD (s.thm.ts.getD i 0))
  let th := [(hkResult s 0 3).getD (s.thm.th.getD 0 0), (hkResult s 1 3).getD (s.thm.th.getD 1 0)]
  let s1 := thmMod (fun t => { t with ts := ts, th := th }) s
  let sh := fun (c i : Nat) (s : State) =>
    match mget s.thm.res (resKey c (32 * c + i)) with
    | some v => rfset s (Reg.THM_SH + 4 * i) (16 * c + 15) (16 * c) (ofSigned 16 v)
    | none => s
  let s3 := sh 1 1 (sh 0 1 (sh 1 0 (sh 0 0 s1)))
  (List.range 12).foldl (fun s r =>
    match hkResult s (r / 6) (12 + r % 6) with
    | some v => rfset s (Reg.THM_RAIL + 4 * (r / 2)) (16 * (r % 2) + 15) (16 * (r % 2)) (ofSigned 16 v)
    | none => s) s3

/-- What the end of a round decides from its readings (R411, R420-R429); `first` is the round of start-up step 4. -/
def roundDecide (first : Bool) (s : State) : State :=
  let sus := suspects s
  let s1 := judgeMonitor sus.2.1 ([0, 1].foldl (judgeConv (if first then 1 else 3) sus.1 sus.2.2) s)
  if s1.thm.bothBad then thmFault s1
  else
    let s2 := (List.range 12).foldl judgeRail s1
    if inReset s 0xA0200 then s2
    else
      let ex := s2.thm.excl
      let s3 := (List.range 16).foldl (judgeSensor ex) s2
      let changed := s3.thm.excl != ex
      let m := tMaxOf s3.thm.ts s3.thm.excl
      let rate := riseRate s3 m.1
      let s4 := thmMod (fun t => { t with
        tMax := m.1, raw := m.2, rate := rate
        hist := ((s.t, m.1, changed) :: t.hist).filter (fun h => decide (s.t ≤ h.1 + 400000000)) }) s3
      let cur := s4.thm.tbNext.getD s4.thm.tb
      let nb := if first then bandOf m.1 else nextBand cur m.1
      let s5 := thmMod (fun t => { t with tbNext := if nb = t.tb then none else some nb }) s4
      stopTrigger (riseAlarm (thmFault s5))

/-- The round in progress has delivered every visit. -/
def roundDelivered (s : State) : Bool :=
  s.thm.running && domainRuns s 10 && [0, 1].all (fun c => (convAt s c).visits.isEmpty) && (chansLeft s).isEmpty

/-- The first round of start-up step 4 has been made: mark 40 of the steps done (R436). -/
def firstRound (s : State) : State :=
  if s.mgt.step = 4 ∧ !s.mgt.stepsDone.contains 40 then { s with mgt := { s.mgt with stepsDone := 40 :: s.mgt.stepsDone } } else s

/-- HK_ROUND_END (R413, R420-R429, R437): a round that has delivered every visit completes and is judged. -/
def hkRoundEnd (s : State) : State :=
  if !roundDelivered s then s
  else
    let dur := s.t - s.thm.t0
    let inTime := decide (dur ≤ 2 * hkPeriod s * 200000)
    let first := s.mgt.step == 4 && !s.mgt.stepsDone.contains 40
    let s1 := thmMod (fun t => { t with
      running := false, rounds := (t.rounds + 1) % 2 ^ 32, lastMs := satN 8 (dur / 200000)
      missed := if inTime then false else t.missed }) s
    thmMod (fun t => { t with
      coolT := if t.tMax < 1440 then (match t.coolT with | some x => some x | none => some s.t) else none })
      (roundDecide first (firstRound (takeReadings s1)))

/-- DL_HK_MISS (R67, R437): the round has not completed within 2P. Log entry 293. -/
def dlHkMiss (s : State) : State :=
  if s.thm.running && !s.thm.late then
    dlMissUnless (inReset s 0xA0000 && inReset s 0xA0001) 8 0xA0100 [] 8 0
      (thmMod (fun t => { t with missed := true, late := true }) s)
  else s

/-! ### Reset scope, clears and views -/

/-- Thermal functions inside the reset scope of `fid` (R523). -/
def thmResetScope (fid : Nat) (s : State) : State :=
  if fid = 0xA0000 ∨ fid = 0xA0001 then
    let c := fid % 2
    let s1 := convMod c (fun _ => { Conv.reset with returning := true, part := true }) (askAgain c s)
    if (convAt s (1 - c)).faulty || inReset s (convFid (1 - c)) then s1 else takeOver (1 - c) s1
  else if fid = 0xA0100 then
    thmMod (fun t => { t with
      running := false, res := [], asked := [], ain := []
      conv := t.conv.map (fun k => { k with visits := [], settle := 0, aborts := 0, serving := none, queue := [] }) }) s
  else if fid = 0xA0200 then
    thmMod (fun t => { t with
      outN := List.replicate 16 0, goodN := List.replicate 16 0, oor := [], reconv := [], hist := []
      rise := false, riseN := 0, fallN := 0 }) s
  else if fid = 0xA0201 then thmMod (fun t => { t with stop := if t.stop = 1 then 0 else t.stop }) s
  else s

/-- A thermal function resumes (R427, R523): a reset of the sensors clears the exclusions and the THM fault from them; a reset
of a converter ends the fault of R422, and the visits that nobody could make are its own. -/
def thmResume (fid : Nat) (s : State) : State :=
  if fid = 0xA0200 then
    thmMod (fun t => { t with excl := [], fault := t.bothBad, envCut := false }) s
  else if fid = 0xA0000 ∨ fid = 0xA0001 then
    let s1 := thmMod (fun t => { t with bothBad := false }) s
    if convServes s1 (fid % 2) then takeOver (fid % 2) s1 else s1
  else if fid = 0x90000 then thmMod (fun t => { t with monImpl := false, monRounds := 0 }) s
  else s

/-- THM_CLEAR (R440). -/
def thmClear (v : Nat) (s : State) : State :=
  if bit v 0 then thmMod (fun t => { t with stops := 0, trips := 0 }) (rclear s [Reg.THM_URGENT]) else s

/-- Status of a converter: 0 healthy, 1 suspect, 2 faulty, 3 returning. -/
def convState (k : Conv) : Nat := if k.faulty then 2 else if k.returning then 3 else if 0 < k.susp then 1 else 0

/-- The restart timer of the always-on island, in 5 ns (R432). -/
def islandNow (s : State) : Nat := (s.thm.island + (s.t : Int)).toNat

/-- Trips of the last hour by the island's clock (R435). -/
def tripsInHour (s : State) : Nat :=
  (s.thm.tripTimes.filter (fun t => decide (islandNow s < t + 3600 * 200000000))).length

/-- Thermal registers that show state (R440). -/
def viewThm (s : State) (a : Nat) : Option Nat :=
  let t := s.thm
  if a = Reg.THM_STATUS then
    some (packMsb [(t.tb, 3), (b2n t.fault, 1), (b2n t.rise, 1), (b2n (t.stop == 2 || t.stop == 3), 1), (b2n (t.stop == 4), 1),
      (b2n t.envCut, 1), (satN 4 t.excl.length, 4), (0, 4), (ofSigned 16 t.tMax, 16)])
  else if a = Reg.THM_RATE then some (packMsb [(ofSigned 16 t.rate, 16), (ofSigned 16 t.raw, 16)])
  else if a = Reg.THM_HK_STATUS then
    let k := convAt s 0
    let l := convAt s 1
    some (packMsb [(convState k, 2), (convState l, 2), (k.susp, 2), (l.susp, 2), (b2n t.monImpl, 1), (0, 7),
      (hkPeriod s, 8), (t.lastMs, 8)])
  else if a = Reg.THM_ROUND then some t.rounds
  else if a = Reg.THM_TH then some (packMsb [(ofSigned 16 (t.th.getD 1 0), 16), (ofSigned 16 (t.th.getD 0 0), 16)])
  else if Reg.THM_TS ≤ a ∧ a < Reg.THM_TS + 64 then
    let i := (a - Reg.THM_TS) / 4
    some (packMsb [(b2n (t.excl.contains i), 1), (b2n (t.oor.contains i), 1), (min 3 (t.outN.getD i 0), 2), (0, 12),
      (ofSigned 16 (t.ts.getD i 0), 16)])
  else if Reg.THM_AIN ≤ a ∧ a < Reg.THM_AIN + 32 then
    let x := ainAt s ((a - Reg.THM_AIN) / 4)
    let full := decide (2 ^ bits x.cfg 5 3 ≤ x.vals.length)
    some (packMsb [(b2n full, 1), (b2n (!full && !x.vals.isEmpty), 1), (x.since, 14),
      (if x.vals.isEmpty then 0 else (roundDiv (nsum x.vals) x.vals.length).toNat, 16)])
  else if a = Reg.THM_TRIP_STATUS then
    some (packMsb [(if t.stop = 4 then 1 else if s.mgt.state = .tripLatch then 2 else 0, 2), (min 3 (tripsInHour s), 2),
      (b2n t.lastH2, 1), (b2n t.lastHold, 1), (t.cmpTest, 2), (satN 8 t.stops, 8), (satN 16 t.trips, 16)])
  else none

end Sys2Proof.Machine
end

