-- ==== Sys2Proof/Machine/Pins.lean ====
section
/-! DEFINITION. Pins: what a pin drives, input stages and monitors, strobe outputs, the engines' base clock, reset scopes
and views of the PEN registers (11_pin_engines.md R356-R358, R372-R383). -/

namespace Sys2Proof.Machine

/-! ### Output stages (R356-R358) -/

/-- What a pin drives. -/
inductive PinOut
  | low | high | hiz
  deriving DecidableEq, Repr

/-- A level at a pin with INV applied, under DRIVE (R356, R358; INV acts on halt-idle levels too, log entry 70). -/
def pinLevel (s : State) (p : Nat) (v : Bool) : PinOut :=
  let lvl := v != rbit s (Reg.PEN_PIN_CFG + 4 * p) 13
  match rfld s (Reg.PEN_PIN_CFG + 4 * p) 17 16 with
  | 1 => if lvl then .high else .low
  | 2 => if lvl then .hiz else .low
  | _ => .hiz

/-- What pin `p` drives now (R357); a pin held at the level last driven that nothing has driven yet stands low. Log entry 329. -/
def pinDriven (s : State) (p : Nat) : PinOut :=
  if s.pen.hiz || !alive s then .hiz
  else
    let g := (ownerOf s p).map (fun x => (eng s x.1, bit (eng s x.1).out x.2))
    let running := g.any (fun x => (x.1.st == 1 || x.1.st == 2) && !inReset s 0x80101)
    if running then pinLevel s p (g.any (·.2))
    else
      match rfld s (Reg.PEN_PIN_CFG + 4 * p) 15 14 with
      | 0 => pinLevel s p false
      | 1 => pinLevel s p true
      | 2 => .hiz
      | _ => pinLevel s p (bit s.pen.last p != rbit s (Reg.PEN_PIN_CFG + 4 * p) 13)

/-- Ports by number: 0-79 pins P0-P79, 80-95 strobes ST0-ST15, 96 SYNC_IN, 97 SYNC_OUT. The field-class ones (R7, R405). -/
def fieldClass (p : Nat) : Bool := decide (48 ≤ p) && decide (p ≤ 97)
/-- A port can carry the current of its own driver: a pin or a strobe unless it is at high impedance (R357). -/
def portDriven (s : State) (p : Nat) : Bool :=
  if p < 80 then pinDriven s p != .hiz else if p < 96 then !s.pen.hiz && alive s else true
/-- COORD of a port: pin, or strobe; the sync ports have none (R508). Log entry 315. -/
def coFieldPort (p : Nat) : Nat := if p < 80 then coPin p 0 else if p < 96 then coPin (p - 80) 1 else 0

/-- PIN_READBACK_MISMATCH (R358): a driven pin reads back wrongly (a push-pull pin differs, an open-drain pin driven low reads
high), or its current limit is engaged; the device goes on driving. -/
def pinReadback (p : Nat) (limit : Bool) (s : State) : State :=
  if p < 98 ∧ up s 0x80101 then
    if limit then raiseIf (fieldClass p && portDriven s p) 0x818 0x80101 [] (if p < 96 then 5 else 0) (coFieldPort p) s
    else if 80 ≤ p then s
    else
      let read := bit s.pen.level p != rbit s (Reg.PEN_PIN_CFG + 4 * p) 13
      let wrong := match pinDriven s p with
        | .low => read
        | .high => !read
        | .hiz => false
      raiseIf wrong 0x817 0x80101 [p] 5 (coPin p 0) s
  else s

/-! ### Monitors (R373-R375) -/

/-- Monitors of pin `p`. -/
def monOf (s : State) (p : Nat) : PinMon := mgetD s.pen.mons p PinMon.reset

/-- Change the monitors of pin `p`. -/
def monMod (p : Nat) (f : PinMon → PinMon) (s : State) : State :=
  penMod (fun x => { x with mons := mputD PinMon.reset x.mons p (f (monOf s p)) }) s

/-- The profile register of pin `p`, if it names one (R373). -/
def monProfile (s : State) (p : Nat) : Option Nat :=
  let m := rfld s (Reg.PEN_PIN_CFG + 4 * p) 11 9
  if 1 ≤ m ∧ m ≤ 4 then some (Reg.PEN_MON + 4 * (m - 1)) else none

/-- RATE_MAX of pin `p`, where its rate monitor is on (R373). -/
def rateMax (s : State) (p : Nat) : Option Nat :=
  if rbit s (Reg.PEN_PIN_CFG + 4 * p) 8 then (monProfile s p).map (fun a => rfld s a 19 10) else none

/-- The stuck monitor of pin `p` is on (R374). -/
def stuckOn (s : State) (p : Nat) : Bool := rbit s (Reg.PEN_PIN_CFG + 4 * p) 7 && (monProfile s p).isSome

/-- Pin `p` is an encoder pin: in the input window of ENC_PE while the source is ENC (R374, R375). -/
def encoderPin (s : State) (p : Nat) : Bool :=
  let e := rfld s Reg.TBS_SRC_CFG 19 16
  source s == 0 && decide (inBase s e ≤ p) && decide (p < inBase s e + inN s e)

/-- Motion is expected on pin `p` (R374). -/
def motionExpected (s : State) (p : Nat) : Bool :=
  if rbit s Reg.TBS_MOTION_CFG 31 && encoderPin s p then s.tbs.runExpect
  else rbit s (Reg.PEN_PIN_CFG + 4 * p) 12

/-- The timebase sees whether an encoder pin is STUCK or OVERRATE (R375). -/
def encoderState (s : State) : State :=
  let ps := s.pen.mons.filter (fun x => encoderPin s x.1)
  tbsMod (fun b => { b with stuck := ps.any (fun x => x.2.stuck), overrate := ps.any (fun x => x.2.overrate) }) s

/-- STUCK ends (R374). -/
def stuckEnd (p : Nat) (s : State) : State :=
  if (monOf s p).stuck then
    encoderState (raise 0x803 0x80100 [] 5 (coPin p 0) (monMod p (fun m => { m with stuck := false }) s))
  else s

/-- Judge the motion expectation of pin `p` anew (R374): a change raises 0x81D, and STUCK ends with the expectation. -/
def refreshMotion (s : State) (p : Nat) : State :=
  let e := motionExpected s p
  if !stuckOn s p || (monOf s p).expect == e then s
  else
    let s1 := raise 0x81D 0x80100 [] 5 (coPin p 0) (monMod p (fun m => { m with expect := e, expectT := s.t }) s)
    if e then s1 else stuckEnd p s1

/-- Judge RUN_EXPECT and the motion expectation of every pin (R46, R59, R374). -/
def refreshMotions (s : State) : State :=
  let s1 := runExpectLevel s
  if inReset s 0x80100 then s1 else (List.range 80).foldl refreshMotion s1

/-- The timebase looks at its encoder pins when its position counter comes into service (R48): a pin that is OVERRATE, or STUCK
where that means failed, fails the source. Log entry 250. -/
def encoderJudge (s : State) : State :=
  let s1 := encoderState s
  if s1.tbs.overrate then srcFail 1 s1
  else if s1.tbs.stuck && rbit s Reg.TBS_SRC_CFG 11 then srcFail 0 s1
  else s1

/-- A filtered edge counts in the rate window (R373): the edge that takes the count above RATE_MAX sets OVERRATE with 0x800, and
on an encoder pin the timebase applies ON_FAIL (R48). -/
def countEdge (p : Nat) (s : State) : State :=
  match rateMax s p with
  | none => s
  | some mx =>
    let m := monOf s p
    let rise := decide (mx < m.count + 1) && !m.overrate
    let s1 := monMod p (fun m => { m with count := m.count + 1, overrate := m.overrate || rise }) s
    if rise then
      let s2 := encoderState (raise 0x800 0x80100 [p] 5 (coPin p 0) s1)
      if encoderPin s p then srcFail 1 s2 else s2
    else s1

/-- Engines that wait for an edge at pin `p` note it (R360 WAITPIN RISE and FALL). -/
def noteEdge (p : Nat) (v : Bool) (s : State) : State :=
  (List.range 16).foldl (fun s e =>
    let w := curWord s e
    if (eng s e).begun && opOf w == 0x3 && (opdOf w == (if v then 2 else 3)) && inBase s e + immOf w % 32 == p then
      engMod e (fun g => { g with edge := true }) s
    else s) s

/-- PIN_LEVEL_CHANGE (R372): the filtered level of pin `p` becomes `v`; engines, the monitors and RUN_EXPECT see it. While the
input stages are in reset, or do not work (R455), the levels hold. Log entry 368. -/
def pinLevelChange (p : Nat) (v : Bool) (s : State) : State :=
  if 80 ≤ p ∨ bit s.pen.level p = v ∨ !up s 0x80100 then s
  else
    let s1 := noteEdge p v (penMod (fun x => { x with level := setBits x.level p p (b2n v) }) s)
    let s2 := countEdge p s1
    let s3 := if stuckOn s p then stuckEnd p (monMod p (fun m => { m with edgeT := s.t }) s2) else s2
    if rbit s Reg.TBS_MOTION_CFG 31 && rfld s Reg.TBS_MOTION_CFG 29 23 == p then refreshMotions s3 else s3

/-- RUN_EXPECT_CHANGE (R46, R59): the filtered RUN_EXPECT pin changes to `v`. -/
def runExpectChange (v : Bool) (s : State) : State := pinLevelChange (rfld s Reg.TBS_MOTION_CFG 29 23) v s

/-- RATE_WINDOW_END (R373): a rate window of pin `p` ends; OVERRATE clears when its count was at most RATE_MAX, and more than
RATE_MAX pulses rejected by the filter in it raise 0x81C. -/
def rateWindowEnd (p rejects : Nat) (s : State) : State :=
  if 80 ≤ p ∨ !up s 0x80100 then s
  else
    match rateMax s p with
    | none => s
    | some mx =>
      let m := monOf s p
      let fall := m.overrate && decide (m.count ≤ mx)
      let s1 := raiseIf fall 0x801 0x80100 [] 5 (coPin p 0)
        (monMod p (fun m => { m with count := 0, overrate := m.overrate && !fall }) s)
      encoderState (raiseIf (decide (mx < rejects)) 0x81C 0x80100 [] 5 (coPin p 0) s1)

/-- PIN_STUCK_SET (R374, R375): the stuck timer of pin `p` reaches STUCK_WIN while motion is expected; on an encoder pin the
timebase goes by ON_STUCK. -/
def pinStuckSet (p : Nat) (s : State) : State :=
  if p < 80 ∧ up s 0x80100 ∧ stuckOn s p ∧ (monOf s p).expect ∧ ¬ (monOf s p).stuck then
    let s1 := encoderState (raise 0x802 0x80100 [p] 5 (coPin p 0) (monMod p (fun m => { m with stuck := true }) s))
    if encoderPin s p && rbit s Reg.TBS_SRC_CFG 11 then srcFail 0 s1 else s1
  else s

/-! ### Strobes (R376-R379) -/

/-- Strobe `n`. -/
def strobe (s : State) (n : Nat) : Strobe := mgetD s.pen.strobes n Strobe.reset

/-- What strobe output `n` drives now (R357): POL is its active level. -/
def strobeDriven (s : State) (n : Nat) : PinOut :=
  if s.pen.hiz || !alive s then .hiz
  else if (strobe s n).on == rbit s (Reg.PEN_ST_CFG + 4 * n) 28 then .high
  else .low

/-- Replace strobe `n`. -/
def setStrobe (n : Nat) (x : Strobe) (s : State) : State := penMod (fun p => { p with strobes := mput p.strobes n x }) s

/-- Strobes may fire: their function works, outputs are not at high impedance and nothing forces them inactive (R357, R378,
R380, R523). -/
def strobesOk (s : State) : Bool :=
  up s 0x80200 && !s.pen.hiz && !s.pen.clockBad && !s.pen.awaitStart && !s.pen.forcedOff && !inReset s 0x10000 && !inReset s 0x10100 &&
    !inReset s 0x10300

/-- Strobe `n` in the 1 ms window of T now: a new window starts with nothing used (R377). -/
def strobeWin (s : State) (n : Nat) : Strobe :=
  let x := strobe s n
  if x.win = s.t / 200000 then x else { x with win := s.t / 200000, used := 0, capped := false }

/-- LEAD of strobe `n` in cycles (R376). -/
def strobeLead (s : State) (n : Nat) : Nat := rfld s (Reg.PEN_ST_CFG + 4 * n) 27 20

/-- Slot `i` of the line that starts next opens within LEAD of strobe `n`: the pulse begins before that line's T_L (R376). Whether
the line will be captured is not known then; the pulse ends at T_L when the line becomes GAP. Log entry 290. -/
def slotAhead (s : State) (n i : Nat) : Bool :=
  match s.tbs.due with
  | [] => false
  | d :: _ => s.ary.set.slotLen i != 0 && !d.skip &&
    decide (d.tCross + lsDelay s + s.ary.set.slotOff i ≤ s.t + strobeLead s n)

/-- The light of slot `i` is called for: by a snapshot that exposes in it, by a captured line whose slot, advanced by LEAD, holds
T, or by the line that starts next where its slot opens within LEAD (R376). -/
def slotLit (s : State) (n i : Nat) : Bool :=
  (s.ary.snapBusy && bits s.ary.snapCfg 17 16 == i && decide (s.ary.snapT ≤ s.t + strobeLead s n) &&
    decide (s.t + strobeLead s n < s.ary.snapT + bits s.ary.snapCfg 15 0)) ||
  (!s.tbs.standstill && s.mgt.capturing && ((lineInSlot s (strobeLead s n) i).isSome || slotAhead s n i))

/-- STROBE_ON (R376, R379): strobe `n` becomes active; the first pulse of a round asks for its sense conversion. -/
def strobeOn (n : Nat) (s : State) : State :=
  let cfg := rnat s (Reg.PEN_ST_CFG + 4 * n)
  let x := strobeWin s n
  if n < 16 ∧ strobesOk s ∧ bit cfg 31 ∧ slotLit s n (bits cfg 30 29) ∧ ¬ x.on ∧ ¬ x.capped then
    let sense := bits cfg 3 0
    let ask := decide (1 ≤ sense) && decide (sense ≤ 8) && rfld s Reg.PEN_ST_SENSE 31 16 != 0 && !x.sensed && s.thm.running
    let s1 := setStrobe n { x with
      on := true, onT := s.t, sensed := x.sensed || ask
      ahead := !s.ary.snapBusy && (lineInSlot s (strobeLead s n) (bits cfg 30 29)).isNone } s
    if ask then thmMod (fun t => { t with asked := t.asked ++ [⟨2, ainChan (sense - 1), n⟩] }) s1 else s1
  else s

/-- A strobe that ends now: inactive, its active time in the present window counted. -/
def strobeEnded (s : State) (n : Nat) : Strobe :=
  let x := strobeWin s n
  { x with on := false, ahead := false, used := x.used + (s.t - max x.onT (200000 * x.win)) }

/-- STROBE_OFF (R376). -/
def strobeOff (n : Nat) (s : State) : State :=
  if (strobe s n).on then setStrobe n (strobeEnded s n) s else s

/-- Pulses that began before the line start of their line meet it: they end where the line is GAP (R376). -/
def strobesAtLine (gap : Bool) (s : State) : State :=
  (List.range 16).foldl (fun s n =>
    if !(strobe s n).ahead then s
    else if gap then strobeOff n s else setStrobe n { strobe s n with ahead := false } s) s

/-- STROBE_EARLY_END (R377): MAX_W or the duty limit of the 1 ms window is reached; counted, with event 0x813 or 0x814. After the
duty limit the strobe stays inactive until the window ends. -/
def strobeEarlyEnd (n : Nat) (duty : Bool) (s : State) : State :=
  if n < 16 ∧ (strobe s n).on then
    let x := strobeEnded s n
    raise (if duty then 0x814 else 0x813) 0x80200 [n, s.tbs.l] 5 (coPin n 1)
      (rsat (setStrobe n { x with capped := x.capped || duty } s) (Reg.PEN_ST_COUNT + 4 * (n / 4)) (8 * (n % 4) + 7) (8 * (n % 4)) 1)
  else s

/-- Every strobe inactive. -/
def strobesOff (s : State) : State := (List.range 16).foldl (fun s n => strobeOff n s) s

/-- The strobe-off step of the orderly stop (R378). -/
def strobesForced (s : State) : State :=
  raise0 0x816 0x80200 [] (penMod (fun p => { p with forcedOff := true }) (strobesOff s))

/-- A pulse exceeds MAX_W or DUTY of an enabled strobe in a used slot of the set (R377). -/
def strobeDutyBad (s : State) (c : CapSet) : Bool :=
  (List.range 16).any (fun n =>
    let cfg := rnat s (Reg.PEN_ST_CFG + 4 * n)
    let len := c.slotLen (bits cfg 30 29)
    bit cfg 31 && len != 0 &&
      (decide (bits cfg 19 12 * 200 < len) || decide (bits cfg 11 4 * 200000000 < len * rfld s Reg.ARY_FMAX 15 0 * 256)))

/-! ### The base clock (R380) -/

/-- CLOCK_FAULT (R380): every engine halts; strobes are inactive until the clock locks again and an engine is started. Log entry
283. -/
def clockFault (s : State) : State :=
  if s.pen.clockBad ∨ !works s then s
  else raise0 0x81B 0x80300 [] (haltAll 4 2 (penMod (fun p => { p with clockBad := true, awaitStart := true }) (strobesOff s)))

/-- CLOCK_RELOCK (R380): the clock locks again; engines stay halted until they are started. -/
def clockRelock (s : State) : State := penMod (fun p => { p with clockBad := false }) s

/-- The PEN section is loaded (R357): outputs leave high impedance. -/
def penSectionLoaded (s : State) : State := refreshMotions (penMod (fun p => { p with hiz := false }) s)

/-- The engines with AUTO start together (R368): event 0x821. -/
def startAuto (s : State) : Bool × State :=
  let es := (List.range 16).filter (fun e => engAuto s e)
  if es.isEmpty then (true, s)
  else startAll true es s

/-! ### Configuration check (R356, R383) -/

/-- The PEN section passes R356, R373, R374, R376: windows, output overlap, DRIVE against windows, monitor profiles, strobes. -/
def penConfigOk (s : State) : Bool :=
  (List.range 16).all (fun e =>
    decide (outN s e ≤ 16) && decide (inN s e ≤ 16) && decide (outBase s e + outN s e ≤ 80) && decide (inBase s e + inN s e ≤ 80)) &&
  (List.range 80).all (fun p =>
    let n := ((List.range 16).filter (fun e => decide (outBase s e ≤ p) && decide (p < outBase s e + outN s e))).length
    decide (n ≤ 1) && ((n == 1) == (rfld s (Reg.PEN_PIN_CFG + 4 * p) 17 16 != 0)) &&
      (match monProfile s p with
        | some a =>
          (!rbit s (Reg.PEN_PIN_CFG + 4 * p) 8 && !rbit s (Reg.PEN_PIN_CFG + 4 * p) 7) ||
            (rfld s a 31 20 != 0 && rfld s a 19 10 != 0 && rfld s a 9 0 != 0)
        | none => true)) &&
  (List.range 16).all (fun n =>
    let cfg := rnat s (Reg.PEN_ST_CFG + 4 * n)
    !bit cfg 31 || (bits cfg 19 12 != 0 && bits cfg 11 4 != 0))

/-! ### Reset scopes, clears and views (R381-R383, R523) -/

/-- PEN state inside the reset scope of `fid` (R523). -/
def penResetScope (fid : Nat) (s : State) : State :=
  if fid / 0x100 = 0x800 then engResetScope (fid % 0x100) s
  else if fid = 0x80100 then encoderState (penMod (fun p => { p with mons := [] }) s)
  else if fid = 0x80101 then keepLevels (List.range 16) s
  else if fid = 0x80200 then penMod (fun p => { p with strobes := [] }) s
  else if fid = 0x80300 then penMod (fun p => { p with sig := 0, sigCyc := SigCycle.reset }) (haltAll 0 3 s)
  else s

/-- A PEN function resumes (R523). -/
def penResume (fid : Nat) (s : State) : State :=
  if fid / 0x100 = 0x800 then
    if engAuto s (fid % 0x100) then (startAll true [fid % 0x100] s).2 else s
  else if fid = 0x80100 then refreshMotions (raise0 0x81F 0x80100 [] s)
  else if fid = 0x80300 then (startAuto s).2
  else s

/-- PEN_CLEAR (R383). -/
def penClear (v : Nat) (s : State) : State :=
  let s1 := if bit v 0 then
      rclear s ((List.range 16).map (fun e => Reg.PEN_ENG_COUNT + 0x20 * e) ++ (List.range 4).map (fun i => Reg.PEN_ST_COUNT + 4 * i))
    else s
  if bit v 1 then penMod (fun p => { p with eng := p.eng.map (fun x => (x.1, { x.2 with changed := false })) }) s1 else s1

/-- Bits of pins 32 i to 32 i + 31 for which `f` holds. -/
def pinBits (i : Nat) (f : Nat → Bool) : Nat :=
  nsum ((List.range 32).map (fun b => if 32 * i + b < 80 ∧ f (32 * i + b) then 2 ^ b else 0))

/-- PEN_ENG_STATUS[e] (R383). -/
def engStatus (s : State) (e : Nat) : Nat :=
  let g := eng s e
  packMsb [(g.st, 3), (b2n g.changed, 1), (b2n (g.shift.isSome && engHalted s e), 1), (b2n g.dl.isSome, 1), (g.inF.length, 4),
    (g.outF.length, 4), (0, 1), (bitsLeft g, 6), (g.pc % 2048, 11)]

/-- PEN registers that show state (R383). -/
def viewPen (s : State) (a : Nat) : Option Nat :=
  let sel := rfld s Reg.PEN_SEL 3 0
  if a = Reg.PEN_RUN then
    some (nsum ((List.range 16).map (fun e => b2n (!engHalted s e) * 2 ^ e + b2n (eng s e).changed * 2 ^ (16 + e))))
  else if a = Reg.PEN_SIG then some s.pen.sig
  else if a = Reg.PEN_X then some (eng s sel).x
  else if a = Reg.PEN_Y then some (eng s sel).y
  else if Reg.PEN_LEVEL ≤ a ∧ a < Reg.PEN_LEVEL + 12 then
    some (pinBits ((a - Reg.PEN_LEVEL) / 4) (fun p => bit s.pen.level p))
  else if Reg.PEN_OVERRATE ≤ a ∧ a < Reg.PEN_OVERRATE + 12 then
    some (pinBits ((a - Reg.PEN_OVERRATE) / 4) (fun p => (monOf s p).overrate))
  else if Reg.PEN_STUCK ≤ a ∧ a < Reg.PEN_STUCK + 12 then
    some (pinBits ((a - Reg.PEN_STUCK) / 4) (fun p => (monOf s p).stuck))
  else if 0x800100 ≤ a ∧ a < 0x800300 ∧ (a - 0x800100) % 0x20 = 0xC then some (engStatus s ((a - 0x800100) / 0x20))
  else none

end Sys2Proof.Machine
end

