-- ==== Sys2Proof/Machine/ConfigCheck.lean ====
section
/-! DEFINITION. The configuration checks of start-up step 3 and of a commit (R35, R97, R457 and the checks that the chapters
name), and which function owns a register (R381 and the function tables of the other chapters; log entry 71). -/

namespace Sys2Proof.Machine

/-! ### Register owners -/

/-- Owners of register ranges: first and last address, function ID. Blocks of instances stand in `ownerFid`. -/
def ownerRanges : List (Nat × Nat × Nat) := [
  (0x100010, 0x100014, 0x10001), (0x100020, 0x100020, 0x10001), (0x10002C, 0x10003C, 0x10200), (0x100000, 0x1FFFFF, 0x10000),
  (0x200000, 0x200000, 0x20C00), (0x200000, 0x2FFFFF, 0x20C01),
  (0x300008, 0x300008, 0x30001), (0x300018, 0x30001C, 0x30001), (0x300100, 0x30011C, 0x30001), (0x300010, 0x300010, 0x30002), (0x300020, 0x300020, 0x30101),
  (0x300060, 0x300060, 0x30101), (0x300080, 0x3000FC, 0x30200), (0x300000, 0x3FFFFF, 0x30000),
  (0x400040, 0x400060, 0x40C01), (0x4000A0, 0x4000A0, 0x40C02), (0x400200, 0x40021C, 0x40C02), (0x400800, 0x400800, 0x40D03),
  (0x400844, 0x40087C, 0x40D03), (0x400808, 0x400808, 0x40D02), (0x4008C8, 0x40090C, 0x40D02), (0x400804, 0x400804, 0x40D01),
  (0x40080C, 0x40080C, 0x40D01), (0x400880, 0x4008C4, 0x40D01), (0x400810, 0x400818, 0x40D00), (0x40081C, 0x400840, 0x40D04),
  (0x400000, 0x4FFFFF, 0x40C00),
  (0x500000, 0x5000FF, 0x50100), (0x500108, 0x500108, 0x50100), (0x500110, 0x500110, 0x50100), (0x500114, 0x500120, 0x50200),
  (0x500124, 0x50012C, 0x50100), (0x500134, 0x500144, 0x50100), (0x500150, 0x50016C, 0x50300), (0x5001C0, 0x5001E0, 0x50300),
  (0x500208, 0x500208, 0x50100), (0x500210, 0x500210, 0x50100), (0x500214, 0x500220, 0x50201), (0x500224, 0x50022C, 0x50100),
  (0x500234, 0x500244, 0x50100), (0x500250, 0x50026C, 0x50301), (0x5002C0, 0x5002E0, 0x50301), (0x500100, 0x5001FF, 0x50000),
  (0x500200, 0x5002FF, 0x50001), (0x500000, 0x5FFFFF, 0x50100),
  (0x600000, 0x600010, 0x60000), (0x600014, 0x600018, 0x60C01), (0x60001C, 0x60001C, 0x60001), (0x600024, 0x600024, 0x60002),
  (0x60002C, 0x60002C, 0x60F02),
  (0x600030, 0x600034, 0x60C00), (0x600100, 0x600108, 0x60C00), (0x6001B0, 0x6001DC, 0x60C00), (0x600080, 0x600088, 0x60E00),
  (0x60008C, 0x60008C, 0x60E01), (0x600200, 0x600208, 0x60F00),
  (0x60020C, 0x600210, 0x60F01), (0x600214, 0x600224, 0x60F02), (0x600000, 0x6FFFFF, 0x60C02),
  (0x700010, 0x700010, 0x70200), (0x700000, 0x7000FF, 0x70301),
  (0x800030, 0x80003C, 0x80100), (0x800400, 0x80053C, 0x80100), (0x800070, 0x800080, 0x80200), (0x800600, 0x80063C, 0x80200),
  (0x800000, 0x8FFFFF, 0x80300),
  (0x900000, 0x900004, 0x90101), (0x900008, 0x900024, 0x90000), (0x90002C, 0x90002C, 0x90001), (0x900030, 0x90005C, 0x90100),
  (0x9000B8, 0x9000BC, 0x90000), (0x900000, 0x9FFFFF, 0x90101),
  (0xA00018, 0xA0001C, 0xA0300), (0xA00000, 0xAFFFFF, 0xA0100),
  (0xB00280, 0xB00288, 0xB0001), (0xB00300, 0xB003FC, 0xB0001), (0xB00400, 0xB0043C, 0xB0002), (0xB00480, 0xB0049C, 0xB0003),
  (0xB00500, 0xB00518, 0xB0100), (0xB00600, 0xB006FF, 0xB0201), (0xB00700, 0xB0072C, 0xB0203)]

/-- The function that owns the register at `a`. -/
def ownerFid (a : Nat) : Nat :=
  if (findEvt a).isSome then 0xB0200
  else if 0x201000 ≤ a ∧ a < 0x202800 then
    let n := (a - 0x201000) / 0x20
    0x20000 + n / 16 * 0x100 + n % 16
  else if 0x600180 ≤ a ∧ a < 0x6001B0 then 0x60000 + (a - 0x600180) / 4 * 0x100
  else if 0x600230 ≤ a ∧ a < 0x600290 then 0x61000 + (a - 0x600230) / 4 % 8
  else if 0x700100 ≤ a ∧ a < 0x700300 then 0x70000 + (a - 0x700100) / 0x80
  else if 0x700400 ≤ a ∧ a < 0x700700 then 0x70100 + (a - 0x700400) / 0x20
  else if 0x700800 ≤ a ∧ a < 0x700900 then 0x70200 + (a - 0x700800) / 0x40
  else if 0x800100 ≤ a ∧ a < 0x800300 then 0x80000 + (a - 0x800100) / 0x20
  else ((ownerRanges.find? (fun r => decide (r.1 ≤ a) && decide (a ≤ r.2.1))).map (·.2.2)).getD 0xB0000

/-- Fields that another function owns than the one that owns the rest of their register (R69): address, last and first bit,
function ID. -/
def fieldOwners : List (Nat × Nat × Nat × Nat) := [(Reg.TBS_SYNC_CFG, 31, 20, 0x30000), (Reg.TBS_VEL_CFG, 23, 16, 0x30001)]

/-- The function that owns the field of the register at `a` whose highest bit is `hi`. Log entry 71. -/
def fieldFid (a hi : Nat) : Nat :=
  ((fieldOwners.find? (fun o => o.1 == a && decide (o.2.2.1 ≤ hi) && decide (hi ≤ o.2.1))).map (·.2.2.2)).getD (ownerFid a)

/-- Function `f` owns the register at `a`, or a field of it (R448). -/
def ownsPart (f a : Nat) : Bool := ownerFid a == f || fieldOwners.any (fun o => o.1 == a && o.2.2.2 == f)

/-! ### Refused values (R531) -/

/-- A field of a register word holds a refused value. -/
def fldRefused (v : Nat) (f : Fld) : Bool :=
  match f.acc with
  | .rw | .rwh | .wo => decide (bits v f.hi f.lo < f.mn) || decide (f.mx < bits v f.hi f.lo)
  | _ => false

/-- Refused values that the description of a field ties to another field, or that a plain range does not give (R71, R93, R105,
R200, R274, R313, R354, R383). WIDTH 0 of a band window is refused with FOLLOW = 0 only, since ARY_STG_WIN resets to FOLLOW = 1
with WIDTH 0 (log entry 251). Log entry 366. -/
def crossRefused (s : State) (a v : Nat) : Bool :=
  if a = Reg.TBS_LINE_CFG then decide (bits v 15 0 ≤ bits v 31 16)
  else if a = Reg.VDT_GUST_CFG then bit v 0
  else if a = Reg.VDT_GUST_VR then
    decide (bits v 15 0 < rfld s Reg.VDT_VEL_CFG 15 0) || decide (rfld s Reg.VDT_VEL_CFG 31 16 < bits v 15 0)
  else if a = Reg.ARY_MODE_CFG then decide (2 < bits v 2 0)
  else if Reg.ARY_STG_ROWCLS ≤ a ∧ a < Reg.ARY_STG_ROWCLS + 36 then
    (List.range 16).any (fun r => rbit s (a - Reg.ARY_STG_ROWCLS + Reg.ARY_STG_BAND) (16 + r) && bits v (2 * r + 1) (2 * r) == 3)
  else if Reg.PEN_MON ≤ a ∧ a < Reg.PEN_MON + 16 then v != 0 && (bits v 31 20 == 0 || bits v 19 10 == 0 || bits v 9 0 == 0)
  else if Reg.ARY_STG_WIN ≤ a ∧ a < Reg.ARY_STG_WIN + 36 then !bit v 31 && bits v 11 0 == 0
  else if Reg.LNK_SET_CFG ≤ a ∧ a < Reg.LNK_SET_CFG + 512 ∧ (a - Reg.LNK_SET_CFG) % 128 = 0 then
    bit v 31 && (bits v 25 21 == 0 || decide (22 < bits v 25 21))
  else if a = Reg.PIP_DISP_CFG then decide (bits v 21 16 ≤ bits v 13 8)
  else if a = Reg.ARY_FREERUN then decide (rfld s Reg.ARY_FMAX 15 0 < bits v 15 0)
  else if a = Reg.VDT_FLY_G then decide (16000 < bits v 15 0) && decide (bits v 15 0 < 57536)
  else if Reg.VDT_VB_D ≤ a ∧ a < Reg.VDT_VB_D + 32 then
    rbit s (a - Reg.VDT_VB_D + Reg.VDT_VB_CFG) 31 && (decide (bits v 21 0 < 1000) || decide (2000000 < bits v 21 0))
  else if Reg.PEN_ST_CFG ≤ a ∧ a < Reg.PEN_ST_CFG + 64 then bit v 31 && (bits v 19 12 == 0 || bits v 11 4 == 0)
  else (List.range 2).any (fun p =>
    (a == preg Reg.AUX_LOOP_LIM p && decide (bits v 31 16 < bits v 15 0)) ||
    (a == preg Reg.AUX_PORT_CFG p && bit v 26 && decide (10 < bits v 31 27)) ||
    (a == preg Reg.AUX_PORT_TLINE p && configured s p && bits v 19 0 == 0))

/-- A word for the register at `a` holds a refused value. -/
def wordRefused (s : State) (a v : Nat) : Bool :=
  match findEvt a with
  | some (_, .cfg _) => bits v 15 8 == 0 || bits v 7 0 == 0
  | some _ => false
  | none =>
    match findReg a with
    | some (d, _) => d.flds.any (fldRefused v) || crossRefused s a v
    | none => false

/-- GROUP and GMASK match a reserved address (R474). -/
def groupBad (v : Nat) : Bool :=
  let g := bits v 29 23
  let m := bits v 22 16
  g != 0 && ((List.range 128).any (fun a =>
    (decide (a ≤ 7) || (decide (0x5C ≤ a) && decide (a ≤ 0x5F)) || decide (0x78 ≤ a)) &&
      ((a ^^^ g) &&& (127 ^^^ m)) == 0))

/-! ### Bands in use (R79, R188, R191, R221) -/

/-- A non-zero coefficient of either matrix on input `i` (R188). -/
def coefUsed (s : State) (i : Nat) : Bool :=
  (List.range 3).any (fun r => mtx s Reg.PIP_DISP_MTX r i != 0 || mtx s Reg.PIP_CODE_MTX r i != 0)

/-- A non-zero weight of a discriminant on input `i` (R221). -/
def weightUsed (s : State) (i : Nat) : Bool :=
  (List.range 16).any (fun j => clsWeight s j i != 0)

/-- Band `k` is used by an output family, the classifier or a verdict program (R79). -/
def bandNeeded (s : State) (k : Nat) : Bool := bandUsed s k || coefUsed s k || weightUsed s k

/-- The bands that a set must capture are captured (R79). -/
def bandsFit (s : State) (c : CapSet) : Bool := (List.range 9).all (fun k => c.captured k || !bandNeeded s k)

/-- The label need of R248. -/
def labelFits (s : State) (c : CapSet) : Bool :=
  !gustOn s || (List.range 9).all (fun k =>
    !(bit (listedBands s) k && c.captured k) || decide (gapK s k + rlOf s c k + 1 ≤ ringDepth s 9 + rlOf s c 0))

/-- What other chapters check of a staged set at a commit (R97, R150, R163, R248, R301, R377). -/
def stagedCheck (s : State) (c : CapSet) : Option Nat :=
  if auxCommitCheck s = some 5 then some 5
  else if auxCommitCheck s = some 8 ∨ strobeDutyBad s c ∨ !bandsFit s c then some 8
  else if !(storeFits s c && labelFits s c) then some 7
  else none

/-! ### Checks by domain -/

/-- TBS (R42, R45, R61, R93). -/
def tbsCheck (s : State) : Bool :=
  let m := rfld s Reg.TBS_SCALE 31 16
  let n := rfld s Reg.TBS_SCALE 15 0
  let role := rfld s Reg.TBS_SRC_CFG 3 2
  let src := rfld s Reg.TBS_SRC_CFG 1 0
  m != 0 && n != 0 && decide (m ≤ 16 * n) && decide (rnat s Reg.TBS_SYN_RATE ≤ 0x32000000) &&
    ((role == 2) == (src == 2)) && (rfld s Reg.ARY_MODE_CFG 2 0 != 1 || src == 1)

/-- The image's capture set (R75-R92, R93, R377). -/
def aryCheck (s : State) (c : CapSet) : Bool :=
  decide (rfld s Reg.ARY_MODE_CFG 2 0 ≤ 2) && setFieldsOk s c && !strobeDutyBad s c

/-- PIP and the formatter (R156, R188, R191). -/
def pipCheck (s : State) (c : CapSet) : Bool :=
  let recon := rbit s Reg.PIP_OUT_CFG 8
  (List.range 9).all (fun k => !rbit s (Reg.PIP_BG_CFG + 4 * k) 31 || decide (ped s < rfld s (Reg.PIP_BG_CFG + 4 * k) 19 0)) &&
  (List.range 9).all (fun k => c.captured k || !coefUsed s k) &&
  (List.range 2).all (fun p => configured s p || !coefUsed s (9 + p)) && (recon || !coefUsed s 4) &&
  (List.range 15).all (fun p => !rbit s (Reg.PIP_VIS_PLANE + 4 * p) 0 ||
    (if p < 9 then c.captured p else if p < 13 then recon && c.captured 4 else configured s (p - 13)))

/-- Enabled entries of the valve map pass R232 and R274. -/
def valveMapOk (s : State) : Bool :=
  let es := valveEntries s
  es.all (fun e => decide (bits e 14 0 ≤ bits e 29 15) && decide (16 ≤ bits e 41 30) &&
    decide (valveAt e (bits e 29 15) ≤ 1023) &&
    (List.range 1024).all (fun v => !(decide (bits e 51 42 ≤ v) && decide (v ≤ valveAt e (bits e 29 15))) ||
      (rbit s (Reg.VDT_VB_CFG + 4 * (v / 128)) 31 && decide (v % 128 < rfld s (Reg.VDT_VB_CFG + 4 * (v / 128)) 15 8)))) &&
  (es.zip es.tail).all (fun p => decide (bits p.1 29 15 < bits p.2 14 0) && decide (bits p.1 51 42 < bits p.2 51 42))

/-- Checkpoint entries pass R246. -/
def checkpointsOk (s : State) : Bool :=
  (List.range 16).all (fun n => (List.range 4).all (fun i =>
    let e := cpEntry s n (i + 1)
    !bit e 31 || (bits e 23 16 != 0 && bits e 7 0 != 0 && (i == 0 || bit (cpEntry s n i) 31))))

/-- VDT (R201, R218, R221, R226, R232, R246, R248, R258, R274): the function whose check fails. -/
def vdtCheck (s : State) (c : CapSet) : Option Nat :=
  let th := rnat s Reg.VDT_SEG_TH
  if (bits th 31 16 == 0 && bits th 15 0 == 0) || (!rbit s Reg.VDT_SEG_CFG 24 && !rbit s Reg.PIP_BG_CFG 31) then some 0x60000
  else if 160000 ≤ rfld s Reg.VDT_VEL_WIN 5 0 * aspect s then some 0x60C01
  else if (List.range 9).any (fun k => weightUsed s k && !c.captured k) || (List.range 2).any (fun p => weightUsed s (9 + p) && !configured s p)
      || (rbit s Reg.PIP_OUT_CFG 3 && !rbit s Reg.VDT_CLS_CFG 31) then some 0x60002
  else if !((List.range 16).all (progOk s)) then some 0x60C02
  else if !(checkpointsOk s && labelFits s c) || crossRefused s Reg.VDT_GUST_VR (rnat s Reg.VDT_GUST_VR) then some 0x60F00
  else if !(valveMapOk s) ||
      (gustOn s && decide (rfld s Reg.VDT_EJ_ARM 27 16 ≤ rfld s Reg.VDT_EJ_ARM 9 0)) then some 0x60F02
  else if (List.range 8).any (fun b => rbit s (Reg.VDT_VB_CFG + 4 * b) 31 && crossRefused s (Reg.VDT_VB_D + 4 * b) (rnat s (Reg.VDT_VB_D + 4 * b)))
    then some 0x60F01
  else
    let bs := (List.range 8).filterMap (bankPe s)
    if bs.length ≠ bs.eraseDups.length then some 0x61000 else none

/-- AUX (R277, R284, R286, R291, R297, R298, R313): the port whose check fails. Log entry 279. -/
def auxPortOk (s : State) (p : Nat) : Bool :=
  let alt := pcfg s p 21 20
  let tl := rnat s (preg Reg.AUX_STG_EXPL p)
  let ts := rnat s (preg Reg.AUX_STG_EXPS p)
  let tp := pfld s p Reg.AUX_PORT_TLINE 19 0
  let cfa := pcfg s p 18 17
  let gw := (stagedSet s).gwin
  tp != 0 && (pcfg s p 26 26 == 0 || linePx s p % 2 == 0) &&
    (!(rbit s (preg Reg.AUX_LOOP_CFG p) 31) || decide (ped s < pfld s p Reg.AUX_LOOP_TGT 19 0)) &&
    (alt == 0 || cfa == 0) && (alt != 2 || rbit s (preg Reg.AUX_PORT_CFG p) 23) &&
    (alt == 0 || (ts != 0 && decide (ts ≤ tl))) &&
    (cfa == 0 || (List.range 4).all (fun col =>
      rfld s (preg Reg.AUX_PORT_MIX p + 4 * (col / 2)) (16 * (col % 2) + 15) (16 * (col % 2)) == 0 ||
        (List.range (if cfa = 1 then 2 else 4)).any (fun r => (List.range (if cfa = 1 then 2 else 4)).any (fun i =>
          cfaAt s p r i == col)))) &&
    (List.range (8 * gw.2)).all (fun i =>
      decide ((ofLe (mgets 0#8 s.aux.tmem (0x12000 * p + 4 * (8 * gw.1 + i)) 4)) % 2 ^ 19 ≤ 64 * (linePx s p - 1))) &&
    (if auxMode s = 2 then decide (linePx s p + 2 ≤ tp)
     else decide (linePx s p + 4 ≤ 2 * tp) && (p != prioPort s || !configured s (1 - p) || decide (linePx s (1 - p) + 4 ≤ 2 * tp)))

/-- Lane sets and routes (R316, R328): the function whose check fails. Log entry 309. -/
def lnkCheck (s : State) : Option Nat :=
  let ns := (List.range 4).filter (setEn s)
  let lanes := ns.flatMap (fun n => (cfgSlots s n).1 ++ (cfgSlots s n).2)
  if lanes.any (fun l => decide (24 ≤ l)) || decide (lanes.length ≠ lanes.eraseDups.length) then some 0x70000
  else if ns.any (fun n => cfgNdata s n == 0 || decide (22 < cfgNdata s n)) || decide (22 < nsum (ns.map (cfgNdata s))) then some 0x70000
  else
    let routes := (List.range 15).map (routeOf s 0) ++ (List.range 5).map (fun f => routeOf s (1 + f) 0)
    if rfld s Reg.LNK_CFG 27 24 = 0 then some 0x70000
    else if !ns.isEmpty && (routes.any (fun n => !setEn s n) ||
        (List.range 4).any (fun n => rbit s Reg.LNK_CFG (24 + n) && !setEn s n)) then some 0x70000
    else none

/-- Registers whose ranges depend on other registers, so that a value left at reset can lie outside them (R531). -/
def crossAddrs : List Nat :=
  [Reg.VDT_GUST_VR, Reg.ARY_FREERUN, preg Reg.AUX_PORT_TLINE 0, preg Reg.AUX_PORT_TLINE 1] ++
    (List.range 8).map (fun b => Reg.VDT_VB_D + 4 * b)

/-- The function whose check fails at step 1 of R35, 0 for a check that spans several (R471), or none. -/
def configCheck (s : State) : Option Nat :=
  let c := stagedSet s
  match ((s.regs.map (·.1)) ++ crossAddrs).find? (fun a => wordRefused s a (rnat s a)) with
  | some a => some (ownerFid a)
  | none =>
    if groupBad (rnat s Reg.MGT_MB_CFG) then some 0xB0100
    else if 32 < privCount s then some 0xB0200
    else if !aryCheck s c then some 0x10000
    else if !(decide (1000 ≤ rfld s Reg.ARY_FMAX 15 0) && rowBudgetOk s c && occupancyOk s c && storeFits s c && bandsFit s c) then some 0
    else if !tbsCheck s then some 0x30000
    else if !pipCheck s c then some 0x40D01
    else
      match vdtCheck s c with
      | some f => some f
      | none =>
        match (List.range 2).find? (fun p => configured s p && !auxPortOk s p) with
        | some p => some (0x50000 + p)
        | none =>
          match lnkCheck s with
          | some f => some f
          | none => if penConfigOk s then none else some 0x80101

/-- Step 2 of R35: the lane check of every enabled set, reported in MGT_BUDGET_LANE; the first set that fails. -/
def laneChecks (s : State) : Option Nat × State :=
  (List.range 4).foldl (fun acc n =>
    let r := laneCheck n acc.2
    (if acc.1.isNone && !r.1 then some (0x70000 + n) else acc.1, r.2)) (none, s)

/-! ### Geometry (R449, R457) -/

/-- Site entry `i` of the GEOM section holds `v` at offset `o`. -/
def siteByte (s : State) (i o : Nat) : Nat := geomByte s (0x10 + 16 * i + o)

/-- A 16-bit field of the GEOM section. -/
def geom16 (s : State) (o : Nat) : Nat := geomByte s o + 256 * geomByte s (o + 1)

/-- The device's own registers agree with the GEOM section (R457). -/
def geomOk (s : State) : Bool :=
  let me := rfld s Reg.VDT_XW_CFG 23 20
  let size := geomByte s 0
  let role := rfld s Reg.TBS_SRC_CFG 3 2
  let dev := ofLe ((List.range 8).map (fun i => BitVec.ofNat 8 (siteByte s me i)))
  let none? := fun (o : Nat) => siteByte s me o == 0xFF
  decide (me < size) && (dev == 0 || dev == Config.deviceId.toNat) &&
    (if size = 1 then role == 0 else if me = geomByte s 1 then role == 1 else role == 2) &&
    b2n (rbit s Reg.VDT_XW_CFG 28) == siteByte s me 13 &&
    geom16 s 2 == lineSteps s && geom16 s 4 == aspect s && geom16 s 6 == lsDelay s &&
    geom16 s 8 == rfld s Reg.VDT_EJ_TICK 8 0 && geom16 s 10 == rfld s Reg.ARY_FMAX 15 0 &&
    (List.range 4).all (fun n => !rbit s (Reg.LNK_XW_CFG + 0x40 * n) 31 || !none? (if n = 0 then 10 else if n = 1 then 11 else 12)) &&
    (!rbit s Reg.VDT_XW_CFG 31 || !none? 10) && (!rbit s Reg.VDT_XW_CFG 30 || !none? 11) &&
    (!rbit s Reg.VDT_XW_CFG 29 || !none? 12)

end Sys2Proof.Machine
end

