-- ==== Sys2Proof/Machine/Mirror.lean ====
section
/-! DEFINITION. Flash contents, the recorder's mirror and its writer, the failure of the log's memory, the scan at start,
the boot-count log and the identity record (14_configuration_boot.md R442, R464, R465; 16_events_resets.md R515-R519, R524). -/

namespace Sys2Proof.Machine

/-! ### Flash (R442) -/

/-- Change the management state. -/
def mgtMod (f : Mgt → Mgt) (s : State) : State := { s with mgt := f s.mgt }

/-- Bytes of flash from `a` become `bs`. -/
def flashPut (a : Nat) (bs : List Byte) (s : State) : State :=
  mgtMod (fun m => { m with flash := mputs 0xFF#8 m.flash a bs }) s

/-- `n` bytes of flash from `a` are erased. -/
def flashErase (a n : Nat) (s : State) : State :=
  mgtMod (fun m => { m with flash := m.flash.filter (fun p => !(decide (a ≤ p.1) && decide (p.1 < a + n))) }) s

/-- `n` bytes of flash from `a` become free values: an operation on them was cut short (R459, R468). -/
def flashUndefined (a : Nat) : Nat → State → State
  | 0, s => s
  | n + 1, s =>
    let r := takeFree Config.freeByte s
    flashUndefined (a + 1) n (flashPut a [r.1] r.2)

/-- Change the recorder. -/
def rcdMod (f : Recorder → Recorder) (s : State) : State := { s with evt := { s.evt with rcd := f s.evt.rcd } }

/-! ### Sectors of the mirror (R516) -/

/-- Bytes of a granule, lowest first. -/
def granBytes (w : BitVec 128) : List Byte := leBytes 16 w.toNat

/-- The newest sector: the one with the highest use count. -/
def newestSector (s : State) : Option (Nat × Nat × Nat) :=
  (List.range 1024).foldl (fun best i =>
    match sectorHead s i with
    | none => best
    | some (seq, use) =>
      match best with
      | none => some (i, seq, use)
      | some (_, _, u) => if 0 < diffMod 32 use u then some (i, seq, use) else best) none

/-- SEQs of the valid records of a sector from granule `g`, and the first granule after the last one used. -/
def sectorRecs (s : State) (i : Nat) : Nat → Nat → List Nat × Nat
  | 0, _ => ([], 0)
  | n + 1, g =>
    if 256 ≤ g then ([], 0)
    else
      let w := mirrorGran s i g
      if w = 2 ^ 128 - 1 then sectorRecs s i n (g + 1)
      else
        let len := bits w 111 110 + 1
        let pad := bits w 123 112 == 0
        let r := sectorRecs s i n (g + len)
        (if bits w 127 124 = 0xA ∧ !pad then bits w 103 72 :: r.1 else r.1, max r.2 (g + len))

/-- The next sector in turn that is not skipped (R524). -/
def nextSector (skip : List Nat) : Nat → Nat → Nat
  | 0, i => i
  | n + 1, i => if skip.contains ((i + 1) % 1024) then nextSector skip n ((i + 1) % 1024) else (i + 1) % 1024

/-- Close the current sector: the next one is begun with the next page. -/
def closeSector (r : Recorder) : Recorder := { r with mSector := nextSector r.mSkip 1024 r.mSector, mGran := 0 }

/-! ### The mirror writer (R516-R518, R524) -/

/-- The records that fit into `room` granules, in order. -/
def fitRecs : Nat → List (Nat × List (BitVec 128)) → List (Nat × List (BitVec 128))
  | _, [] => []
  | room, x :: rest => if x.2.length ≤ room then x :: fitRecs (room - x.2.length) rest else []

/-- A granule with VALID left erased (R516). -/
def unmarked (w : BitVec 128) : BitVec 128 := w ||| BitVec.ofNat 128 (0xF * 2 ^ 124)

/-- Room of the page at granule `g`, after the header of a sector that begins. -/
def pageRoom (g : Nat) : Nat := 16 - g % 16 - (if g = 0 then 1 else 0)

/-- Pad records fill the granules of sector `i` from `g` to its end (R507). Log entry 304. -/
def sectorPads (i g : Nat) (s : State) : State :=
  flashPut (mirrorAddr i g) ((List.range (256 - g)).flatMap (fun _ => granBytes padGranule)) s

/-- MIRROR_PAGE_PROGRAM (R516): under a running grant of order 1 the program of a page's record bodies begins, or the program of
their VALID marks. A sector is begun only when it is erased. -/
def mirrorPageProgram (s : State) : State :=
  let r := s.evt.rcd
  if r.mBusy || inReset s 0xB0202 || !(s.nrg.running.any (fun g => g.order == 1 && g.who == 0)) then s
  else
    match r.mProg with
    | some _ => nvSettle (rcdMod (fun r => { r with mBusy := true }) s)
    | none =>
      let w := mirrorWaiting s
      let fit0 := fitRecs (pageRoom r.mGran) w
      let g := if fit0.isEmpty then r.mGran + (16 - r.mGran % 16) else r.mGran
      let fit := if fit0.isEmpty then fitRecs 16 w else fit0
      if (r.mGran = 0 && !r.mErased) || fit.isEmpty then s
      else if 256 ≤ g then rcdMod closeSector (sectorPads r.mSector r.mGran s)
      else nvSettle (rcdMod (fun r => { r with mProg := some (g, fit, false), mBusy := true }) s)

/-- Granules of a page's records. -/
def progLenOf (recs : List (Nat × List (BitVec 128))) : Nat := nsum (recs.map (fun x => x.2.length))

/-- The bodies of a page are in flash: the header of a sector that begins, then the records with VALID erased; the credit is
spent (R517). -/
def bodiesDone (g : Nat) (recs : List (Nat × List (BitVec 128))) (s : State) : State :=
  let r := s.evt.rcd
  let g1 := if g = 0 then 1 else g
  let head := if g = 0 then granBytes (mirrorHeader ((recs.head?.map (·.1)).getD 0) (r.mUse + 1)) else []
  let body := recs.flatMap (fun x =>
    match x.2 with
    | [] => []
    | w :: ws => granBytes (unmarked w) ++ ws.flatMap granBytes)
  let s1 := flashPut (mirrorAddr r.mSector g1) body (flashPut (mirrorAddr r.mSector 0) head s)
  rcdMod (fun r => { r with
    mProg := some (g1, recs, true), mBusy := false, mErased := if g = 0 then false else r.mErased
    mUse := if g = 0 then r.mUse + 1 else r.mUse
    credit := creditNow s - 16 * (progLenOf recs : Int), creditT := s.t }) s1

/-- The marks of a page are in flash: its records count as mirrored, unless they were updated meanwhile, and leave the queue; a
record 0xB0F sets MIRROR_OK of its sentinel entry (R515). -/
def marksWritten (g : Nat) (recs : List (Nat × List (BitVec 128))) (s : State) : State :=
  let r := s.evt.rcd
  let s1 := (recs.foldl (fun (a : Nat × State) x =>
    match x.2 with
    | [] => a
    | w :: _ => (a.1 + x.2.length, flashPut (mirrorAddr r.mSector a.1) (granBytes w) a.2)) (g, s)).2
  let seqs := recs.map (·.1)
  let fails := (recs.filter (fun x => bits ((x.2.headD 0).toNat) 123 112 == 0xB0F)).map (fun x => bits ((x.2.getD 1 0).toNat) 31 0)
  let gn := g + progLenOf recs
  let g1 := if 15 ≤ gn % 16 then gn + (16 - gn % 16) else gn
  rcdMod (fun r =>
    let r1 := { r with
      mProg := none, mBusy := false, mGran := g1, mPages := r.mPages + 1
      hold := r.hold.filter (fun h => !seqs.contains h.1), queue := r.queue.filter (fun q => !seqs.contains q)
      recs := r.recs.map (fun x =>
        match recs.find? (fun q => q.1 == x.seq) with
        | some q => { x with mirrored := ringRead r x == q.2, mirT := some s.t }
        | none => x)
      sent := r.sent.map (fun e => if fails.contains e.granule then { e with mirrorOk := true } else e) }
    if 256 ≤ g1 then closeSector r1 else r1) (if 256 ≤ g1 then sectorPads r.mSector gn s1 else s1)

/-- The marks of a page are in flash, and the backlog that this leaves is compared with BACKLOG_MAX (R516, R518). -/
def marksDone (g : Nat) (recs : List (Nat × List (BitVec 128))) (s : State) : State :=
  backlogJudged (backlog s.evt.rcd) (marksWritten g recs s)

/-- A page program of the mirror fails (R524): the page is abandoned, its records wait for the next page, and the sector is closed
with pad records; a record 0xB0F that could not be mirrored sets SENT_UNMIRRORED (R515). -/
def pageFailed (g : Nat) (recs : List (Nat × List (BitVec 128))) (s : State) : State :=
  let r := s.evt.rcd
  let from0 := (g / 16 + 1) * 16
  let fail := recs.any (fun x => bits ((x.2.headD 0).toNat) 123 112 == 0xB0F)
  let s1 := rcdMod (fun r => closeSector { r with
    mProg := none, mBusy := false, mErased := if r.mGran = 0 then false else r.mErased
    sentUnmirrored := r.sentUnmirrored || fail }) (sectorPads r.mSector from0 s)
  noteRise s (flashOverload (mirrorAddr r.mSector (g / 16 * 16))
    (raise 0xB10 0xB0202 [if fail then 1 else 0] 9 (coFlash (mirrorAddr r.mSector (g / 16 * 16))) s1))

/-- MIRROR_SECTOR_ERASE (R516): under a running grant of order 2 the next sector is erased once the current one is half full, or
the first one before it is begun. -/
def mirrorSectorErase (s : State) : State :=
  let r := s.evt.rcd
  if r.mErased || r.mErasing.isSome || inReset s 0xB0202 || !(s.nrg.running.any (fun g => g.order == 2 && g.who == 0)) then s
  else
    nvSettle (rcdMod (fun r => { r with
      mErasing := some (if r.mGran = 0 && r.mProg.isNone then r.mSector else nextSector r.mSkip 1024 r.mSector) }) s)

/-- A mirror sector erase ends (R516, R524): the second failure of a sector skips it for the rest of this start. -/
def eraseDone (i : Nat) (ok : Bool) (s : State) : State :=
  let s1 := grantEnd 2 0 s
  if ok then
    rcdMod (fun r => { r with mErasing := none, mErased := true, mSkip := r.mSkip.filter (· != i + 1024) })
      (flashErase (mirrorAddr i 0) 4096 s1)
  else
    flashOverload (mirrorAddr i 0) <|
    if s.evt.rcd.mSkip.contains (i + 1024) then
      raise 0xB10 0xB0202 [3] 9 (coFlash (mirrorAddr i 0)) (rcdMod (fun r =>
        let r1 := { r with mErasing := none, mSkip := i :: r.mSkip }
        if r.mGran = 0 then closeSector r1 else r1) s1)
    else rcdMod (fun r => { r with mErasing := none, mSkip := (i + 1024) :: r.mSkip }) s1

/-! ### The device's own flash work: boot-count log and identity record (R464, R465) -/

/-- An operation on flash erases a sector. -/
def isErase (o : NvOp) : Bool := o.kind == 1 || o.kind == 5 || o.kind == 7 || o.kind == 9

/-- The work that an operation of the device belongs to: 0 an erase made again, 1 the boot count, 2 the identity record. -/
def workOf (o : NvOp) : Nat := if o.kind = 9 then 0 else if o.kind ≤ 5 then 1 else 2

/-- Order and requester under which the device's own operation runs (R397). -/
def devGrant (o : NvOp) : Nat × Nat := (if isErase o then 2 else 1, if workOf o = 2 then 2 else 1)

/-- The device's own flash operation in hand ends (R464): a failure raises 0xB09 and gives up the rest of that work. An erase made
again after a restart is no longer due (R402, R433). -/
def devOpDone (ok : Bool) (s : State) : State :=
  match s.mgt.devOps with
  | o :: rest =>
    if !o.granted then s
    else
      let s1 := grantEnd (devGrant o).1 (devGrant o).2 s
      let s2 := mgtMod (fun m => { m with eraseDue := if o.kind = 9 then m.eraseDue.erase o.addr else m.eraseDue }) s1
      if ok then
        let s3 := mgtMod (fun m => { m with devOps := rest }) s2
        if isErase o then flashErase o.addr 4096 s3 else flashPut o.addr o.data s3
      else raise 0xB09 0xB0001 [] 9 (coFlash o.addr) (mgtMod (fun m => { m with
        devOps := rest.filter (fun x => workOf x != workOf o) }) s2)
  | [] => s

/-- PAGE_PROGRAM_DONE (R443, R516, R464): the mirror's page program (0), its sector erase (1) or the device's own operation in
hand (2) ends, when the NV port has it in hand; its grant ends with it. -/
def pageProgramDone (which : Nat) (ok : Bool) (s : State) : State :=
  let r := s.evt.rcd
  if !nvTurn s (3 + min which 2) then s
  else
    nvSettle (match which with
    | 0 =>
      match r.mProg with
      | some (g, recs, marks) =>
        let s1 := grantEnd 1 0 s
        if !ok then pageFailed g recs s1 else if marks then marksDone g recs s1 else bodiesDone g recs s1
      | none => s
    | 1 =>
      match r.mErasing with
      | some i => eraseDone i ok s
      | none => s
    | _ => devOpDone ok s)

/-- Entry `i` (0-511) of the boot-count log: its count, when the inverse matches. -/
def bootEntry (s : State) (i : Nat) : Option Nat :=
  let w := ofLe (flashBytes s (0x1401000 + 16 * i) 8)
  if bits w 31 0 + bits w 63 32 = 2 ^ 32 - 1 then some (bits w 31 0) else none

/-- The largest count of the log and its entry (R464). -/
def bootTop (s : State) : Option (Nat × Nat) :=
  (List.range 512).foldl (fun best i =>
    match bootEntry s i, best with
    | some c, none => some (c, i)
    | some c, some b => if b.1 < c then some (c, i) else best
    | none, _ => best) none

/-- Entry `i` of the log is erased. -/
def bootErased (s : State) (i : Nat) : Bool := (flashBytes s (0x1401000 + 16 * i) 16).all (fun b => b == 0xFF#8)

/-- The flash work that writes count `c` (R464): the next erased entry of the current sector, or the other sector after its
erase. -/
def bootOps (s : State) (c : Nat) : List NvOp :=
  let data := leBytes 4 c ++ leBytes 4 (2 ^ 32 - 1 - c)
  let cur := (bootTop s).map (·.2)
  let sector := (cur.getD 0) / 256
  let start := (cur.map (fun i => i + 1)).getD 0
  match ((List.range 512).filter (fun i => decide (start ≤ i) && decide (i / 256 = sector))).find? (bootErased s) with
  | some i => [⟨4, 0x1401000 + 16 * i, data, false⟩]
  | none =>
    let a := 0x1401000 + 4096 * (1 - sector)
    [⟨5, a, [], false⟩, ⟨4, a, data, false⟩]

/-- The identity record (R465). -/
def identityRecord : List Byte :=
  let m := [0x42#8, 0x50#8, 0x49#8, 0x44#8] ++ leBytes 2 1 ++ leBytes 2 Config.variant.toNat ++ leBytes 8 Config.deviceId.toNat ++
    (Config.identityN ++ List.replicate 512 0#8).take 512 ++ beBytes 4 65537 ++ List.replicate 12 0#8
  m ++ (sha512 m ++ List.replicate 64 0#8).take 64

/-- The flash work that writes the identity record when it is absent or differs (R465). -/
def identityOps (s : State) : List NvOp :=
  if flashBytes s 0x1400000 608 = identityRecord then []
  else
    ⟨7, 0x1400000, [], false⟩ :: (List.range 3).map (fun i =>
      ⟨6, 0x1400000 + 256 * i, (identityRecord.drop (256 * i)).take 256, false⟩)

/-! ### Failure of the log's memory, and the scan (R515, R519, R566) -/

/-- LOG_MEM_FAIL (R515): granule `g` is uncorrectable. It enters the bad-granule map, its record is lost, the sentinel takes the
failure, and record 0xB0F goes to the mirror by way of the holding buffer, bypassing the ring. -/
def logMemFail (g cause : Nat) (s : State) : State :=
  let r := s.evt.rcd
  if ringSize ≤ g then s
  else
    let lost := r.recs.filter (fun x => x.pos ≤ g && g < x.pos + x.len)
    let rc : Rec := ⟨0xB0F, 0xB0201, s.t, seconds s, s.tbs.l, 0, 0, [g], true, true, 0⟩
    let r1 := { r with
      bad := if r.bad.contains g then r.bad else g :: r.bad
      recs := r.recs.filter (fun x => !(x.pos ≤ g && g < x.pos + x.len))
      table := r.table.filter (fun q => !lost.any (fun x => x.seq == q))
      queue := r.queue.filter (fun q => !lost.any (fun x => x.seq == q))
      sent := (⟨false, cause % 3, g⟩ :: r.sent).take 8, sentN := (r.sentN + 1) % 8
      hold := r.hold ++ [(r.seq, recGranules rc r.seq 0)], seq := (r.seq + 1) % 2 ^ 32 }
    let s1 := { s with evt := { s.evt with rcd := r1 } }
    backlogJudged (backlog r) { s1 with
      evt := if inReset s 0xB0200 then { s1.evt with wait := s1.evt.wait ++ [rc] } else occurred s1 rc }

/-- The later of two SEQs. -/
def laterSeq (a b : Nat) : Nat := if 0 < diffMod 32 a b then a else b

/-- The highest SEQ in the mirror's sector headers and in the records of its newest sector (R519). -/
def mirrorTop (s : State) : Option Nat :=
  match newestSector s with
  | none => none
  | some (i, seq, _) =>
    let heads := (List.range 1024).filterMap (fun j => (sectorHead s j).map (·.1))
    some ((heads ++ (sectorRecs s i 256 1).1).foldl laterSeq seq)

/-- The SEQ that the next record takes after a scan (R519). -/
def scannedSeq (s : State) : Nat :=
  match s.evt.rcd.recs.getLast? with
  | some x => (x.seq + 1) % 2 ^ 32
  | none => match mirrorTop s with
    | some q => if s.evt.rcd.seq = 0 then (q + 1) % 2 ^ 32 else laterSeq ((q + 1) % 2 ^ 32) s.evt.rcd.seq
    | none => s.evt.rcd.seq

/-- The mirror writer goes on in the sector `q`, found as the newest of the mirror, in the page after its last granule; pad records
close a sector whose last page is begun (R507). -/
def mirrorGoesOn (q : Option (Nat × Nat × Nat)) (s : State) : State :=
  match q with
  | none => s
  | some (i, _, use) =>
    let used := max 1 (sectorRecs s i 256 1).2
    let g := (used + 15) / 16 * 16
    if 256 ≤ g then rcdMod (fun r => closeSector { r with mSector := i, mUse := use }) (sectorPads i used s)
    else rcdMod (fun r => { r with mSector := i, mUse := use, mGran := g }) s

/-- RECORDER_SCAN (R519, R566): the ring that was retained, or the mirror after a dead bank, has been scanned. SEQ continues after
the highest found; privileged records not yet mirrored are queued; the repeat table is empty; the mirror writer goes on after the
newest sector's records; the recorder takes records, and the waiting ones enter the intake in order. -/
def recorderScan (s : State) : State :=
  let r := s.evt.rcd
  if r.taking || inReset s 0xB0201 || !alive s then s
  else
    let unm := ((r.recs.filter (fun x => x.priv && !x.mirrored)).map (·.seq)).filter (fun q => !r.queue.contains q)
    let s0 := rcdMod (fun r => { r with seq := scannedSeq s, queue := r.queue ++ unm, taking := true, table := [] }) s
    let s1 := if r.mUse = 0 then mirrorGoesOn (newestSector s) s0 else s0
    dropSummary { s1 with evt := refillIntake 8 s1.evt }

end Sys2Proof.Machine
end

