-- ==== Sys2Proof/Machine/Boot.lean ====
section
/-! DEFINITION. The configuration image, its verification and loading, start-up, image update, pass-through flash access and
attestation (14_configuration_boot.md R441-R471, with R35, R36, R39 and R436). -/

namespace Sys2Proof.Machine

/-! ### Reading an image (R442, R444-R446, R450) -/

/-- Flash address of slot `sl`. -/
def slotBase (sl : Nat) : Nat := 0x800000 * sl

/-- `n` bytes of slot `sl` from offset `o`. -/
def imgBytes (s : State) (sl o n : Nat) : List Byte := flashBytes s (slotBase sl + o) n

/-- The little-endian integer of `n` bytes at offset `o` of slot `sl`. -/
def img (s : State) (sl o n : Nat) : Nat := ofLe (imgBytes s sl o n)

/-- Bytes that all read 0. -/
def zeros (bs : List Byte) : Bool := bs.all (fun b => b == 0#8)

/-- SECTION_COUNT of slot `sl`. -/
def sectionCount (s : State) (sl : Nat) : Nat := img s sl 0x10 2

/-- SIG_OFFSET of slot `sl`. -/
def sigOffset (s : State) (sl : Nat) : Nat := img s sl 0x24 4

/-- Entry `i` of the table of contents (R446). -/
def tocEnt (s : State) (sl i : Nat) : TocEnt :=
  let o := 0x100 + 80 * i
  ⟨img s sl o 2, img s sl (o + 2) 2, img s sl (o + 4) 4, img s sl (o + 8) 4, img s sl (o + 12) 4, imgBytes s sl (o + 16) 64⟩

/-- The table of contents of slot `sl`. -/
def tocOf (s : State) (sl : Nat) : List TocEnt := (List.range (sectionCount s sl)).map (tocEnt s sl)

/-- The message that the signature covers: header and table (R450). -/
def imgMsg (s : State) (sl : Nat) : List Byte := imgBytes s sl 0 (0x100 + 80 * sectionCount s sl)

/-- The configuration digest (R450). -/
def imgDigest (s : State) (sl : Nat) : List Byte := sha512 (imgMsg s sl)

/-- KEY_SLOT of the signature block. -/
def imgKeySlot (s : State) (sl : Nat) : Nat := img s sl (sigOffset s sl + 4) 1

/-- The bytes of a section. -/
def sectionBytes (s : State) (sl : Nat) (e : TocEnt) : List Byte := imgBytes s sl e.offset e.length

/-! ### OTP (R451, R452) -/

/-- RB_COUNT: the fuses burned. -/
def rbTotal (s : State) : Nat := max (min 64 Config.rbCount.toNat) s.mgt.rbBurned

/-- REVOKED. -/
def revokedNow (s : State) : Nat := Config.revoked.toNat ||| s.mgt.revBurned

/-- The digest of key slot `k`, none where the slot is empty. -/
def keySlotDigest (k : Nat) : Option (List Byte) :=
  match Config.keyDigest k with
  | some d => if zeros d then none else some d
  | none => none

/-- A key is accepted (R451). -/
def keyAccepted (s : State) (k : Nat) (nAndE : List Byte) : Bool :=
  decide (k < 4) && !bit (revokedNow s) k &&
    (match keySlotDigest k with | some d => sha512 nAndE == d | none => false)

/-! ### Verification (R445-R447, R453) -/

/-- Header fields within R445. -/
def headerOk (s : State) (sl : Nat) : Bool :=
  let n := sectionCount s sl
  let sig := sigOffset s sl
  let len := img s sl 0x0C 4
  img s sl 4 2 == 1 && decide (len = sig + 1056) && decide (len ≤ 0x800000) && decide (7 ≤ n) && decide (n ≤ 1024) &&
    decide (img s sl 0x12 1 ≤ 1) && decide (img s sl 0x13 1 ≤ 64) && decide (img s sl 0x14 1 ≤ 1) &&
    decide (img s sl 0x15 1 ≤ 15) && img s sl 0x16 2 == 0 && img s sl 0x20 4 == 0x100 && sig % 16 == 0 &&
    zeros (imgBytes s sl 0x70 144) &&
    (match (tocOf s sl).find? (fun e => e.typ == 3) with
     | some e => imgBytes s sl 0x30 64 == e.digest
     | none => true)

/-- One entry of the table stands within R446 and R447. -/
def tocEntOk (e : TocEnt) : Bool :=
  (e.typ == 1 || e.typ == 2 || e.typ == 3) &&
    (if e.typ = 2 then decide (e.index ≤ 4) && e.length == 663552 && e.target == 0x40C02 else e.index == 0) &&
    decide (e.target < 2 ^ 20) && isFunction e.target && e.offset % 16 == 0 && e.length % 16 == 0 && decide (0 < e.length) &&
    (e.typ != 3 || e.target == 0xB0000) && (e.typ != 1 || decide (e.length ≤ 1200000))

/-- The table within R446 and R447. -/
def tocOk (s : State) (sl : Nat) : Bool :=
  let es := tocOf s sl
  let cfgs := (es.filter (fun e => e.typ == 1)).map (·.target)
  es.all tocEntOk && decide (0x100 + 80 * es.length ≤ (es.head?.map (·.offset)).getD 0) &&
    (es.zip es.tail).all (fun p => decide (p.1.offset + p.1.length ≤ p.2.offset)) &&
    es.all (fun e => decide (e.offset + e.length ≤ sigOffset s sl)) &&
    decide ((es.filter (fun e => e.typ == 3)).length = 1) && decide ((es.filter (fun e => e.typ == 2)).length = 5) &&
    (List.range 5).all (fun i => es.any (fun e => e.typ == 2 && e.index == i)) &&
    decide (cfgs.eraseDups.length = cfgs.length)

/-- The signature block is laid out as R450 says and its key is accepted (R451). -/
def keyOk (s : State) (sl : Nat) : Bool :=
  let o := sigOffset s sl
  imgBytes s sl o 4 == [0x42#8, 0x50#8, 0x53#8, 0x47#8] && zeros (imgBytes s sl (o + 5) 11) && zeros (imgBytes s sl (o + 532) 12) &&
    imgBytes s sl (o + 528) 4 == [0x00#8, 0x01#8, 0x00#8, 0x01#8] &&
    keyAccepted s (imgKeySlot s sl) (imgBytes s sl (o + 16) 516)

/-- The signature verifies (R450). -/
def signatureOk (s : State) (sl : Nat) : Bool :=
  let o := sigOffset s sl
  pssVerify (imgBytes s sl (o + 16) 512) (imgMsg s sl) (imgBytes s sl (o + 544) 512)

/-- Steps 1–8 of R453 on slot `sl`: 0 when they pass, else the RESULT of the first failure. -/
def headResult (s : State) (sl : Nat) (readErr : Bool) : Nat :=
  if readErr then 12
  else if imgBytes s sl 0 4 ≠ [0x42#8, 0x50#8, 0x43#8, 0x46#8] then 3
  else if !headerOk s sl then 4
  else if !tocOk s sl then 5
  else if !keyOk s sl then 6
  else if !signatureOk s sl then 7
  else if img s sl 0x13 1 < rbTotal s ∨ bit (img s sl 0x15 1) (imgKeySlot s sl) then 8
  else if img s sl 0x12 1 ≠ Config.variant.toNat ∨
      (img s sl 0x18 8 ≠ 0 ∧ img s sl 0x18 8 ≠ Config.deviceId.toNat) then 9
  else 0

/-- RESULT of MGT_SLOT_STATUS. -/
def slotResult (sl r : Nat) (s : State) : State := rfset s (Reg.MGT_SLOT_STATUS + 4 * sl) 31 28 r

/-- Words of 64 bytes into 16 registers, the lowest byte in [7:0]. -/
def digestRegs (a : Nat) (bs : List Byte) (s : State) : State :=
  (List.range 16).foldl (fun s i => rset s (a + 4 * i) (ofLe ((bs.drop (4 * i)).take 4))) s

/-- A slot that fails: RESULT and event 0xB00 (R453). -/
def slotInvalid (sl r : Nat) (s : State) : State := raise0 0xB00 0xB0000 [sl, r] (slotResult sl r s)

/-- Steps 1–8 run on slot `sl`, with what the slot registers show of the image: its sequence, level and size once the magic is
found, its key slot once the table has passed, its digest once steps 1–6 have run (R453, R471; log entry 80). -/
def verifyHead (sl : Nat) (readErr : Bool) (s : State) : Nat × State :=
  let r := headResult s sl readErr
  let a := Reg.MGT_SLOT_STATUS + 4 * sl
  let s1 := digestRegs (Reg.MGT_SLOT_DIGEST + 0x40 * sl) (List.replicate 64 0#8)
    (rset (rset s (Reg.MGT_SLOT_SEQ + 4 * sl) 0) a (rnat s a / 2 ^ 27 * 2 ^ 27))
  let s2 := if r = 12 ∨ r = 3 then s1
    else rset (rfset (rfset s1 a 23 16 (img s sl 0x13 1)) a 10 0 (sectionCount s sl)) (Reg.MGT_SLOT_SEQ + 4 * sl) (img s sl 8 4)
  let s3 := if r = 0 ∨ (6 ≤ r ∧ r ≤ 9) then rfset s2 a 15 14 (imgKeySlot s sl) else s2
  let s4 := if r = 0 ∨ (7 ≤ r ∧ r ≤ 9) then digestRegs (Reg.MGT_SLOT_DIGEST + 0x40 * sl) (imgDigest s sl) s3 else s3
  (r, if r = 0 then slotResult sl 0 s4 else slotInvalid sl r s4)

/-- Step 9: every section's SHA-512 equals its DIGEST. -/
def digestsOk (s : State) (sl : Nat) : Bool :=
  (tocOf s sl).all (fun e => sha512 (sectionBytes s sl e) == e.digest)

/-! ### Applying records (R448) -/

/-- A field that a register record may write: of access RW, RWH or W1C (R448). -/
def imageFld (f : Fld) : Bool := f.acc == .rw || f.acc == .rwh || f.acc == .w1c

/-- A register that an image may write: one that is not of access RO, WO or RC throughout (R448). -/
def imageReg (a : Nat) : Bool :=
  match findEvt a with
  | some (_, .cfg _) => true
  | some (_, .pend _) => true
  | some _ => false
  | none => match findReg a with
    | some (d, _) => d.flds.any imageFld
    | none => false

/-- The value of a register after a write of `v` to its writable fields that function `f` owns: a W1C bit clears where `v` has a 1,
the bits that do not exist read 0 (R506, R529, R530). -/
def mergeFields (f a v : Nat) (s : State) : Nat :=
  match findEvt a with
  | some _ => packMsb [(bits v 31 27, 5), (0, 11), (bits v 15 0, 16)]
  | none => match findReg a with
    | some (d, _) => (d.flds.filter (fun g => imageFld g && fieldFid a g.hi == f)).foldl
        (fun w f => setBits w f.hi f.lo
          (if f.acc == .w1c then bits w f.hi f.lo - (bits w f.hi f.lo &&& bits v f.hi f.lo) else bits v f.hi f.lo)) (rnat s a)
    | none => rnat s a

/-- A register word of a section of function `f`: PEN_PMEM_DATA stores a step word and advances its address, PEN_SIG sets the
signal bus. -/
def imageWrite (f a v : Nat) (s : State) : State :=
  if a = Reg.PEN_PMEM_DATA then
    let i := rfld s Reg.PEN_PMEM_ADDR 10 0
    rfset (putStep i v s) Reg.PEN_PMEM_ADDR 10 0 (i + 1)
  else
    match findEvt a with
    | some (d, .pend j) => evtPendClear d j v s
    | _ =>
      let s1 := progWritten a (rset s a (mergeFields f a v s))
      if a = Reg.PEN_SIG then penMod (fun p => { p with sig := v % 2 ^ 16, sigCyc := SigCycle.reset }) s1 else s1

/-- The words of a register record from address `a` (R448). -/
def imageWords (target : Nat) : Nat → List Byte → State → Option State
  | a, b0 :: b1 :: b2 :: b3 :: rest, s =>
    if imageReg a && ownsPart target a then
      imageWords target (a + 4) rest (imageWrite target a (ofLe [b0, b1, b2, b3]) s)
    else none
  | _, _, s => some s

/-- The target's function owns the range `[lo, hi)` of memory space `sp` (R180, R244, R314, R448; log entry 71). -/
def memOwned (target sp lo hi : Nat) : Bool :=
  match sp with
  | 1 =>
    let within := fun a b => decide (a ≤ lo) && decide (hi ≤ b)
    match target with
    | 0x40C02 => within 0 0x10000 || within 0x1F6000 0x250000
    | 0x40C01 => within 0x250000 0x2AA000
    | 0x60002 => within 0x2AA000 0x2B2200
    | 0x60F02 => within 0x2B2200 0x2B2400
    | 0x60C02 => within 0x2B4000 0x2BC000
    | 0x60F00 => within 0x2BC000 0x2BC100
    | _ => false
  | 2 =>
    let within := fun a b => decide (a ≤ lo) && decide (hi ≤ b)
    match target with
    | 0x50200 => within 0 0x12000
    | 0x50201 => within 0x12000 0x24000
    | 0x50100 => within 0x24000 0x24200
    | 0x50101 => within 0x24100 0x24200
    | 0x50300 => within 0x24200 0x24600
    | 0x50301 => within 0x24600 0x24A00
    | _ => false
  | 3 => target == 0x80300 && decide (hi ≤ 8192)
  | _ => false

/-- Step words of the program memory from byte offset `a`. -/
def imageSteps : Nat → List Byte → State → State
  | a, b0 :: b1 :: b2 :: b3 :: rest, s => imageSteps (a + 4) rest (putStep (a / 4) (ofLe [b0, b1, b2, b3]) s)
  | _, _, s => s

/-- Bytes of a memory record. -/
def imageMem (sp a : Nat) (bs : List Byte) (s : State) : State :=
  match sp with
  | 1 => pmWrite a bs s
  | 2 => tmemWrite a bs s
  | _ => imageSteps a bs s

/-- The records of a section in order (R448): none when the section is refused. -/
def applyRecords (target : Nat) : Nat → List Byte → State → Option State
  | 0, _, _ => none
  | n + 1, bs, s =>
    let kind := ofLe (bs.take 2)
    let sp := ofLe ((bs.drop 2).take 2)
    let a := ofLe ((bs.drop 4).take 4)
    let len := ofLe ((bs.drop 8).take 4)
    let rest := bs.drop 16
    let after := rest.drop ((len + 15) / 16 * 16)
    if bs.length < 16 ∨ rest.length < len then none
    else
      match kind with
      | 1 =>
        if sp ≠ 0 ∨ len % 4 ≠ 0 ∨ a % 4 ≠ 0 then none
        else
          match imageWords target a (rest.take len) s with
          | some s1 => applyRecords target n after s1
          | none => none
      | 2 =>
        if len % 16 ≠ 0 ∨ !memOwned target sp a (a + len) then none
        else applyRecords target n after (imageMem sp a (rest.take len) s)
      | 3 => if sp = 0 ∧ zeros after then some s else none
      | _ => none

/-- The records of one CONFIG section of slot `sl`. -/
def applySection (sl : Nat) (e : TocEnt) (s : State) : Option State :=
  applyRecords e.target (e.length / 16 + 1) (sectionBytes s sl e) s

/-- Insert an entry by rising TARGET. -/
def insertTarget (e : TocEnt) : List TocEnt → List TocEnt
  | [] => [e]
  | x :: xs => if e.target < x.target then e :: x :: xs else x :: insertTarget e xs

/-- The CONFIG sections in ascending TARGET (R456). -/
def configSections (toc : List TocEnt) : List TocEnt := (toc.filter (fun e => e.typ == 1)).foldr insertTarget []

/-- Configuration registers, program memory and tables return to reset, as before an image is loaded. -/
def clearConfig (s : State) : State :=
  { s with
    regs := s.regs.filter (fun p => !imageReg p.1)
    pip := { s.pip with pmem := [], tf := [], dsnu := [none, none, none], dsnuLoad := none }
    aux := { s.aux with tmem := [] }
    pen := { s.pen with pmem := [], sig := 0, sigCyc := SigCycle.reset } }

/-- The digest of the VDT section: the DIGEST of the CONFIG section that VDT has; of several, the SHA-512 of their digests in
ascending TARGET (log entry 81). -/
def vdtDigestOf (toc : List TocEnt) : List Byte :=
  match (configSections toc).filter (fun e => e.target / 0x10000 == 6) with
  | [] => List.replicate 64 0#8
  | [e] => e.digest
  | es => sha512 (es.flatMap (·.digest))

/-- The bytes of the CONFIG sections of domain `d` in a slot, in the order in which they are loaded. -/
def domainSections (d : Nat) (s : State) (sl : Nat) : List Byte :=
  ((configSections (tocOf s sl)).filter (fun e => e.target / 0x10000 == d)).flatMap (sectionBytes s sl)

/-- What the host wrote into RWH fields of function `f` holds only until its section is loaded (R532), pin engines apart. -/
def rwhDropped (f : Nat) (s : State) : State :=
  if 0x80000 ≤ f ∧ f < 0x80010 then s
  else
    ((s.regs.map (·.1)).filter (fun a => ownsPart f a && (findEvt a).isNone)).foldl (fun s a =>
      match findReg a with
      | some (d, _) => (d.flds.filter (fun g => g.acc == .rwh && fieldFid a g.hi == f)).foldl
          (fun s g => rfset s a g.hi g.lo (bits (resetOf a).toNat g.hi g.lo)) s
      | none => s) s

/-- The image of slot `sl` is loaded (R456): its CONFIG sections in ascending TARGET, the GEOM section, what management keeps of
it; none when a record is refused. -/
def loadImage (sl : Nat) (s : State) : Option State :=
  let toc := tocOf s sl
  match (configSections toc).foldl (fun (a : Option State) e => a.bind (applySection sl e))
      (some ((configSections toc).foldl (fun s e => rwhDropped e.target s) (creditSettle s))) with
  | none => none
  | some s1 =>
    match toc.find? (fun e => e.typ == 3) with
    | none => none
    | some g =>
      if g.length ≠ 144 then none
      else
        some (evtConfigured s (nrgMod (fun n => { n with sect := domainSections 9 s sl })
          (pipMod (fun p => { p with tf := domainSections 4 s sl })
          (digestRegs Reg.MGT_GEOM_DIGEST g.digest (digestRegs Reg.MGT_CFG_DIGEST (imgDigest s sl) (mgtMod (fun m => { m with
            slot := sl, keySlot := imgKeySlot s sl, loaded := true, toc := toc, seqA := img s sl 8 4
            loadedFids := (configSections toc).map (·.target), geom := sectionBytes s sl g, geomDigest := g.digest
            vdtDigest := vdtDigestOf toc, cfgDigest := imgDigest s sl, roll := img s sl 0x13 1, revoke := img s sl 0x15 1
            autoCommit := bit (img s sl 0x14 1) 0 }) s1))))))

/-- A CONFIG_FAULT at step `n` of R35 found by function `f` in slot `sl` (R36, R471). -/
def configFault (n sl f : Nat) (s : State) : State :=
  slotInvalid sl 11 (raise0 0xB03 0xB0000 [n, f] (rset s Reg.MGT_CFG_FAULT (n * 2 ^ 28 + sl * 2 ^ 24 + f)))

/-- MGT_BUDGET_ROW (R39). Log entry 335. -/
def budgetRow (s : State) : State :=
  rset s Reg.MGT_BUDGET_ROW ((stagedSet s).nRows % 256 * 65536 + rfld s Reg.ARY_FMAX 15 0)

/-- Registers at these addresses take their values of `t`. -/
def copyRegs (as : List Nat) (t s : State) : State := as.foldl (fun s a => rset s a (rnat t a)) s

/-- The registers in which R39 reports the checks of a start. -/
def budgetRegs : List Nat := Reg.MGT_BUDGET_ROW :: (List.range 4).map budgetLane

/-- What the lane check `r` of a start gives: step 2 of R35 faults, or the image is loaded, with the capture set `ary` as it was
before the check. -/
def laneVerdict (sl : Nat) (ary : Ary) (r : Option Nat × State) (s : State) : Bool × State :=
  match r.1 with
  | some f => (false, configFault 2 sl f (lnkMod (fun k => { k with checked := r.2.lnk.checked }) (copyRegs budgetRegs r.2 s)))
  | none => (true, { r.2 with ary := ary })

/-- Steps 1 and 2 of R35 on the loaded image `s2` of slot `sl`; on a fault the state is `s` with the reports of R39. The lane check
goes by the set of the image. -/
def imageVerdict (sl : Nat) (s2 s : State) : Bool × State :=
  match configCheck s2 with
  | some f => (false, configFault 1 sl f (copyRegs budgetRegs s2 s))
  | none => laneVerdict sl s2.ary (laneChecks { s2 with ary := { s2.ary with set := stagedSet s2 } }) s

/-- Steps 9 and 10 of R453 on slot `sl`, and steps 1 and 2 of R35. The loader records programs and listed bands
during the check (R226, R247). -/
def tryLoad (sl : Nat) (s : State) : Bool × State :=
  if !digestsOk s sl then (false, slotInvalid sl 10 s)
  else
    match loadImage sl s with
    | none => (false, slotInvalid sl 11 s)
    | some s1 =>
      if !geomOk s1 then (false, slotInvalid sl 11 s)
      else imageVerdict sl (loadListedBands (loadPrograms (budgetRow s1))) s

/-- What the sections set in motion once an image is loaded: the capture set, idle slices, the timebase with its source and
RUN_EXPECT (R46, R48), background gains of 1.0 whatever the image holds there (R156), pins (R105, R41, R357), a test that the
image asks of a lane. -/
def activate (s : State) : State :=
  let s1 := bgReset (tbsService (idleChange s (arySectionLoaded s)))
  let s2 := (List.range 24).foldl (fun s l =>
    if rbit s (Reg.LNK_DT_TEST + 0x20 * l) 31 then prbsTest l (2 ^ 31) s else s) s1
  encoderJudge (if s2.mgt.loadedFids.any (fun f => f / 0x10000 == 8) then penSectionLoaded s2 else refreshMotions s2)

/-! ### Start-up (R460) -/

/-- T in µs since power-good, nRESET or restart. -/
def startUs (s : State) : Nat := (((s.t : Int) - s.mgt.startT) / 200).toNat

/-- MGT_SU_STEP of step `i`. -/
def stepEnded (i : Nat) (s : State) : State :=
  mgtMod (fun m => { m with stepsDone := if m.stepsDone.contains i then m.stepsDone else i :: m.stepsDone })
    (rset s (Reg.MGT_SU_STEP + 4 * (i - 1)) (startUs s))

/-- The device enters SAFE (R455): pins to high impedance, strobes inactive, the timebase out of service, nothing captured; event
0xB02. -/
def enterSafe (s : State) : State :=
  raise0 0xB02 0xB0000 [] (mgtMod (fun m => { m with state := .safe, capturing := false })
    (penMod (fun p => { p with hiz := true }) (tbsMod (fun b => { b with inService := false }) (strobesOff s))))

/-- The boot count of this start (R464): one more than the largest of the log, shown in MGT_BOOT_COUNT, and queued for flash;
with it the identity record where flash does not hold it (R465). -/
def countBoot (s : State) : State :=
  if s.mgt.counted then s
  else
    let c := ((bootTop s).map (·.1)).getD 0 + 1
    mgtMod (fun m => { m with counted := true, bootCount := c, devOps := m.devOps ++ bootOps s c ++ identityOps s })
      (rset s Reg.MGT_BOOT_COUNT c)

/-- Candidates of R454 in order: the slots that pass steps 1–8 and were not tried, the higher SEQUENCE first, A when equal. -/
def candidates (s : State) (ok : List Nat) : List Nat :=
  let l := ok.filter (fun sl => !s.mgt.tried.contains sl)
  if l = [0, 1] ∧ img s 0 8 4 < img s 1 8 4 then [1, 0] else l

/-- Load the first candidate that passes (R454). -/
def loadFirst : List Nat → State → Bool × State
  | [], s => (false, s)
  | sl :: rest, s =>
    let s0 := if s.mgt.tried.isEmpty then s
      else raise0 0xB01 0xB0000 [] (mgtMod (fun m => { m with fallback := true }) s)
    let r := tryLoad sl (mgtMod (fun m => { m with tried := m.tried ++ [sl] }) s0)
    if r.1 then r else loadFirst rest r.2

/-- Step 3 (R453, R454, R464): both slots verified, one loaded; neither left is SAFE. Log entry 288. -/
def chooseSlot (errA errB : Bool) (s : State) : State :=
  let s0 := if s.mgt.tried.isEmpty then s else evtConfigured s (clearConfig (creditSettle s))
  let hs := [(0, errA), (1, errB)].foldl (fun (a : List Nat × State) p =>
    if a.2.mgt.tried.contains p.1 || decide (2 < rfld a.2 (Reg.MGT_SLOT_STATUS + 4 * p.1) 31 28) then a
    else
      let r := verifyHead p.1 p.2 a.2
      (if r.1 = 0 then a.1 ++ [p.1] else a.1, r.2)) ([], s0)
  let r := loadFirst (candidates hs.2 hs.1) hs.2
  let s1 := ((hs.1.filter (fun sl => !r.2.mgt.tried.contains sl)).foldl (fun s sl => slotResult sl 2 s) r.2)
  if r.1 then countBoot (mgtMod (fun m => { m with step := 4 }) (stepEnded 3 (activate s1)))
  else enterSafe (countBoot (stepEnded 3 s1))

/-- The band that step 4 chooses, in force for everything that follows the temperature band (R133, R144, R426). -/
def startBand (s : State) : State :=
  let b := s.thm.tbNext.getD s.thm.tb
  dsnuNext { s with
    thm := { s.thm with tb := b, tbNext := none }
    ary := { s.ary with tb := b }
    col := { s.col with tb := b }
    pip := { s.pip with linTb := b } }

/-- The slot of this start fails at start-up step 4: back to step 3 for the other slot (R454). -/
def step4Failed (n f : Nat) (s : State) : State :=
  nvSettle <| mgtMod (fun m => { m with step := 3, loaded := false, stepsDone := m.stepsDone.filter (· ≠ 40) })
    (penMod (fun p => { p with hiz := true }) (configFault n s.mgt.slot f s))

/-- Step 4 (R35 step 3, R368, R436): comparators tested, band chosen, admission, AUTO engines. `bad` has a bit for each
comparator that failed its test. -/
def step4 (bad : Nat) (s : State) : State :=
  let s1 := (List.range 2).foldl (fun s c => raiseIf (bit bad c) 0xA0F 0xA0300 [] 0 0 s)
    (thmMod (fun t => { t with cmpTest := bad % 4 }) s)
  if bad % 4 = 3 then enterSafe (stepEnded 4 s1)
  else
    let r := admission (startBand s1)
    if !r.1 then step4Failed 3 0 r.2
    else
      let e := startAuto r.2
      if !e.1 then step4Failed 3 0x80300 e.2
      else linksBegin <| mgtMod (fun m => { m with step := 5 }) (slotResult e.2.mgt.slot 1 (stepEnded 4 e.2))

/-- Companion discovery has ended on every configured port (R299). -/
def discovered (s : State) : Bool :=
  (List.range 2).all (fun p => !configured s p || (portOf s p).discOk || (portOf s p).absent)

/-- Times in ms of MGT_SU_TIME. -/
def suMs (s : State) : Nat := satN 16 ((startUs s + 500) / 1000)

/-- Commit (R452): RB_COUNT and REVOKED are burned to those of the active image, event 0xB08 with the fuses burned; nothing where
nothing would burn. -/
def commitImage (s : State) : State :=
  let n := s.mgt.roll - rbTotal s
  let k := nsum ((List.range 4).map (fun i => b2n (bit s.mgt.revoke i && !bit (revokedNow s) i)))
  if !s.mgt.loaded ∨ n + k = 0 then s
  else raise0 0xB08 0xB0000 [n + k] (mgtMod (fun m => { m with
    rbBurned := max (rbTotal s) s.mgt.roll, revBurned := m.revBurned ||| m.revoke }) s)

/-- RUN: READY and warm-up ended (R460). -/
def enterRun (s : State) : State :=
  if s.mgt.state = .ready ∧ 2048 ≤ s.mgt.captured then
    raise0 0xB05 0xB0003 [] (rfset (stepEnded 8 (mgtMod (fun m => { m with state := .run }) s)) Reg.MGT_SU_TIME 15 0 (suMs s))
  else s

/-- READY (R452, R460): every enabled set is UP. -/
def enterReady (s : State) : State :=
  if s.mgt.state = .starting ∧ s.mgt.step = 7 ∧ allSetsUp s then
    let s1 := raise0 0xB04 0xB0003 [] (rfset (stepEnded 7 (mgtMod (fun m => { m with state := .ready, step := 8 }) s))
      Reg.MGT_SU_TIME 31 16 (suMs s))
    enterRun (if s1.mgt.autoCommit then commitImage s1 else s1)
  else s

/-- What the flash must report (R441). -/
def sfdpAccepted (p : Sfdp) : Bool :=
  p.readable && decide (256 ≤ p.density) && p.erase4k && decide (p.page = 256) && (p.read114 || p.read144) && p.suspend && p.addr4

/-- STARTUP_STEP_END (R460): the step in progress ends. `sfdp` is what the flash reports in step 2 (R441); `bad` says in step 3
which slots met a read error and in step 4 which comparators failed their test. -/
def startupStepEnd (n : Nat) (sfdp : Sfdp) (bad : Nat) (s : State) : State :=
  let ok := sfdpAccepted sfdp
  let st := s.mgt.state
  if st ≠ .boot ∧ st ≠ .starting then s
  else if n = 1 ∧ s.mgt.step = 1 then
    let x := takeFree (fun k => ((Config.strapAddr k).toNat, Config.strapPec k)) s
    { (mgtMod (fun m => { m with step := 2 }) (stepEnded 1 x.2)) with
      mb := { s.mb with strap := x.1.1, pecStrap := x.1.2 } }
  else if n = 2 ∧ s.mgt.step = 2 then
    let s1 := mgtMod (fun m => { m with sfdpOk := ok }) (stepEnded 2 s)
    if s.thm.latched then mgtMod (fun m => { m with state := .tripLatch }) s1
    else if ok then nvSettle (mgtMod (fun m => { m with state := .starting, step := 3 }) s1)
    else enterSafe (raise0 0xB09 0xB0001 [] s1)
  else if n = 3 ∧ s.mgt.step = 3 ∧ nvTurn s 0 then nvSettle (chooseSlot (bit bad 0) (bit bad 1) s)
  else if n = 4 ∧ s.mgt.step = 4 ∧ s.mgt.stepsDone.contains 40 then step4 bad s
  else if n = 5 ∧ s.mgt.step = 5 ∧ s.col.calibrated then mgtMod (fun m => { m with step := 6 }) (stepEnded 5 s)
  else if n = 6 ∧ (s.mgt.step = 5 ∨ s.mgt.step = 6) ∧ linksTrained s ∧ discovered s ∧ !s.mgt.stepsDone.contains 6 then stepEnded 6 s
  else if n = 7 then enterReady s
  else if n = 8 then enterRun s
  else s

/-- LANE_BRINGUP_BEGIN (R340, R460): steps 5 and 6 have ended; every enabled set begins its bring-up, and a device with no
enabled set is READY. -/
def laneBringupBegin (s : State) : State :=
  if s.mgt.state = .starting ∧ s.mgt.step = 6 ∧ s.mgt.stepsDone.contains 5 ∧ s.mgt.stepsDone.contains 6 then
    enterReady ((List.range 4).foldl (fun s n => setBringUp n s) (mgtMod (fun m => { m with step := 7 }) s))
  else s

/-- SET_UP (R340, R460): the set is UP, and the last one makes the device READY. -/
def setUpReady (n : Nat) (s : State) : State := enterReady (setUp n s)

/-- CAPTURE_BEGIN (R462): capture begins at the first line boundary after step 5, on a follower also after lock. -/
def captureBegin (s : State) : State :=
  if s.mgt.stepsDone.contains 5 ∧ works s ∧ !s.mgt.capturing ∧ (s.grp.role ≠ 2 ∨ s.grp.locked) ∧ s.thm.stop < 3 then
    mgtMod (fun m => { m with capturing := true }) s
  else s

/-- WARMUP_END (R462): 2,048 captured lines; a READY device enters RUN. -/
def warmupEnd (s : State) : State := enterRun s

/-! ### Updating an image (R458, R459) -/

/-- BOOT_VERIFY (R459): a background verification of the inactive slot begins. -/
def bootVerify (s : State) : State :=
  let sl := 1 - s.mgt.slot % 2
  if s.mgt.verify.isSome ∨ !alive s ∨ inReset s 0xB0000 ∨ s.mgt.state = .boot then s
  else nvSettle (rfset (mgtMod (fun m => { m with verify := some sl }) s) (Reg.MGT_SLOT_STATUS + 4 * sl) 27 27 1)

/-- VERIFY_DONE (R443, R453, R459): steps 1–9 have run, once the NV port had no more urgent work; RESULT 2 when they pass. -/
def verifyDone (readErr : Bool) (s : State) : State :=
  match (if nvTurn s 7 then s.mgt.verify else none) with
  | none => s
  | some sl =>
    let s0 := rfset (nvSettle <| mgtMod (fun m => { m with verify := none }) s) (Reg.MGT_SLOT_STATUS + 4 * sl) 27 27 0
    let r := verifyHead sl readErr s0
    if readErr then flashOverload (slotBase sl) r.2
    else if r.1 ≠ 0 then r.2
    else if digestsOk r.2 sl then slotResult sl 2 r.2
    else slotInvalid sl 10 r.2

/-- BOOT_COMMIT (R452): a write of MGT_BOOT_CMD with CMD 3. -/
def bootCommit (s : State) : State := if alive s ∧ !inReset s 0xB0000 then commitImage s else s

/-- RESULT of MGT_NV_STATUS. -/
def nvResult (r : Nat) (s : State) : State := rfset s Reg.MGT_NV_STATUS 31 29 r

/-- A pass-through operation may begin (R458): start-up has reached READY or SAFE, no VERIFY runs and no operation is in progress;
otherwise it is refused with RESULT 4. -/
def nvFree (s : State) : Bool :=
  s.mgt.state != .boot && s.mgt.state != .starting && s.mgt.state != .tripLatch && s.mgt.verify.isNone && s.mgt.nvOp.isNone

/-- The slot that was not booted, both slots in SAFE, and the host certificate store (R458). -/
def nvWritable (s : State) (a : Nat) : Bool :=
  (decide (0x1410000 ≤ a) && decide (a < 0x1500000)) ||
    (decide (a < 0x1000000) && (s.mgt.state == .safe || a / 0x800000 != s.mgt.slot))

/-- A pass-through operation of a kind is asked for (R458, R468). -/
def nvBegin (kind : Nat) (rangeOk : Bool) (o : NvOp) (s : State) : State :=
  if inReset s 0xB0001 ∨ !alive s then s
  else if !nvFree s then nvResult 4 s
  else if !rangeOk then nvResult 3 s
  else if kind = 8 then nvSettle (nvResult 1 (mgtMod (fun m => { m with nvOp := some { o with granted := true } }) s))
  else grantRequest (if kind = 1 then 2 else 1) 3 (nvResult 1 (mgtMod (fun m => { m with nvOp := some o }) s))

/-- NV_READ (R458): 256 B into the buffer. -/
def nvRead (s : State) : State :=
  let a := rfld s Reg.MGT_NV_ADDR 24 0
  nvBegin 8 (decide (a + 256 ≤ 0x1500000)) ⟨8, a, [], false⟩ s

/-- The bytes of MGT_NV_BUF. -/
def nvBuf (s : State) : List Byte := (List.range 64).flatMap (fun i => leBytes 4 (rnat s (Reg.MGT_NV_BUF + 4 * i)))

/-- NV_PROGRAM (R458): the buffer to a page aligned to 256 B. -/
def nvProgram (s : State) : State :=
  let a := rfld s Reg.MGT_NV_ADDR 24 0
  nvBegin 0 (a % 256 == 0 && nvWritable s a) ⟨0, a, nvBuf s, false⟩ s

/-- NV_ERASE (R458): a sector of 4 KiB. -/
def nvErase (s : State) : State :=
  let a := rfld s Reg.MGT_NV_ADDR 24 0
  nvBegin 1 (nvWritable s a) ⟨1, a / 4096 * 4096, [], false⟩ s

/-- The flash that an operation cut short leaves undefined (R459, R468). -/
def nvCutShort (o : NvOp) (s : State) : State :=
  if o.kind = 8 then s
  else if isErase o then flashUndefined o.addr 4096 s
  else flashUndefined o.addr o.data.length s

/-- NV_OPERATION_DONE (R443, R458, R468): the pass-through operation, in hand on the NV port, completes, or fails and leaves its
page or sector undefined. -/
def nvOperationDone (ok : Bool) (s : State) : State :=
  match s.mgt.nvOp with
  | none => s
  | some o =>
    if !nvTurn s 6 then s
    else
      let s0 := nvSettle (mgtMod (fun m => { m with nvOp := none }) s)
      let s1 := if o.kind = 8 then s0 else grantEnd (if o.kind = 1 then 2 else 1) 3 s0
      if !ok then flashOverload o.addr (nvResult 5 (nvCutShort o s1))
      else
        let s2 := match o.kind with
          | 8 => (List.range 64).foldl (fun s i =>
              rset s (Reg.MGT_NV_BUF + 4 * i) (ofLe (flashBytes s (o.addr + 4 * i) 4))) s1
          | 0 => flashPut o.addr o.data s1
          | _ => flashErase o.addr 4096 s1
        rwrap (nvResult 2 s2) Reg.MGT_NV_STATUS 15 0 1

/-! ### Attestation (R465-R467) -/

/-- MGT_STATE.STATE as a number (R471). -/
def stateNum : DevState → Nat
  | .boot => 0 | .starting => 1 | .ready => 2 | .run => 3 | .safe => 4 | .calm => 5 | .tripLatch => 6

/-- STATUS of MGT_ATT_STATUS. -/
def attStatus (r : Nat) (s : State) : State := rfset s Reg.MGT_ATT_STATUS 1 0 r

/-- The report of R466 at GO. -/
def attReportOf (s : State) : List Byte :=
  [0x42#8, 0x50#8, 0x41#8, 0x54#8, 1#8, 0#8, BitVec.ofNat 8 Config.variant.toNat,
    BitVec.ofNat 8 (s.mgt.slot + 128 * b2n s.mgt.fallback)] ++ leBytes 8 Config.deviceId.toNat ++ leBytes 4 s.mgt.seqA ++
    leBytes 4 s.mgt.bootCount ++ [BitVec.ofNat 8 (rbTotal s), BitVec.ofNat 8 s.mgt.keySlot, BitVec.ofNat 8 (stateNum s.mgt.state),
    BitVec.ofNat 8 (revokedNow s)] ++ leBytes 4 (seconds s) ++ (s.mgt.cfgDigest ++ List.replicate 64 0#8).take 64 ++
    (s.mgt.geomDigest ++ List.replicate 64 0#8).take 64 ++
    (List.range 8).flatMap (fun i => leBytes 4 (rnat s (Reg.MGT_ATT_NONCE + 4 * i)))

/-- ATT_GO (R467): the nonce is latched with the report and a grant of order 5 is requested; a GO while STATUS = 1 is ignored. -/
def attGo (s : State) : State :=
  if s.mgt.attBusy ∨ inReset s 0xB0002 ∨ !alive s then s
  else grantRequest 5 0 (attStatus 1 (mgtMod (fun m => { m with
    attBusy := true, attGranted := false, attReport := attReportOf s }) s))

/-- ATTESTATION_DONE (R466, R467): under its grant the report has been signed with the identity key, under the parameters of
R450. The salt of the signature is a free value. -/
def attestationDone (s : State) : State :=
  if s.mgt.attBusy ∧ s.mgt.attGranted then
    let r := takeFree (fun n => pssSign Config.identityN Config.identityD s.mgt.attReport (beBytes 64 (Config.freeSalt n).toNat)) s
    grantEnd 5 0 (rwrap (attStatus 2 (mgtMod (fun m => { m with
      attBusy := false, attGranted := false, attSig := r.1 }) r.2)) Reg.MGT_ATT_STATUS 31 16 1)
  else s

/-- A signing in progress is abandoned (R467). -/
def attAbort (s : State) : State :=
  if s.mgt.attBusy then grantEnd 5 0 (attStatus 3 (mgtMod (fun m => { m with attBusy := false, attGranted := false }) s)) else s

/-- Word `i` of the unit of MGT_ATT_SEL (R467). -/
def attWord (s : State) (i : Nat) : Nat :=
  let u := rfld s Reg.MGT_ATT_SEL 5 0
  if u < 44 then ofLe (((s.mgt.attReport ++ s.mgt.attSig).drop (16 * u + 4 * i)).take 4) else 0

/-! ### Section reloads (R456) -/

/-- The word `w` of the register at `a` with the configuration fields that function `f` owns, of access RW or RWH, at reset
(R534). -/
def clearedWord (f a w : Nat) : Nat :=
  match findReg a with
  | some (d, _) => (d.flds.filter (fun g => (g.acc == .rw || g.acc == .rwh) && fieldFid a g.hi == f)).foldl
      (fun w g => setBits w g.hi g.lo (bits (resetOf a).toNat g.hi g.lo)) w
  | none => w

/-- Configuration registers that function `f` owns return to reset; counters and status fields stay (R521, R534). Event
registers are kept, and MGT_MB_CFG keeps its value (R487). -/
def clearOwned (f : Nat) (s : State) : State :=
  ((s.regs.map (·.1)).filter (fun a => ownsPart f a && (findEvt a).isNone && a != Reg.MGT_MB_CFG)).foldl
    (fun s a => rset s a (clearedWord f a (rnat s a))) (if f = 0xB0201 then creditSettle s else s)

/-- Parts of the memories that function `f` owns return to their default content before its section is reloaded (R180); DSNU
slots and background gains stay. -/
def clearTables (f : Nat) (s : State) : State :=
  if f = 0x40C02 then pmClear 0x1F6000 0x5A000 (pmClear 0 0x10000 s)
  else if f = 0x40C01 then pmClear 0x250000 0x5A000 s
  else if f = 0x60002 then pmClear 0x2AA000 0x8200 s
  else if f = 0x60F02 then pmClear 0x2B2200 0x200 s
  else if f = 0x60C02 then pmClear 0x2B4000 0x8000 s
  else if f = 0x60F00 then pmClear 0x2BC000 0x100 s
  else if f = 0x80300 then penMod (fun p => { p with pmem := [] }) s
  else s

/-- At most 32 sources are privileged after a reload (R505): of those that it made privileged over the EVT_CFG values that were
kept, the ones beyond the 32nd, in ascending order of address, stay as they were in `old`. Log entry 328. -/
def privCapped (old s : State) : State :=
  let new := evtCfgAddrs.filter (fun a => rbit s a 29 && !rbit old a 29)
  (new.drop (32 + new.length - privCount s)).foldl (fun s a => rfset s a 29 29 0) s

/-- The sections of function `f`, and no others, are reloaded from the slot that was booted, each checked against the digest
held (R1, R456): the registers it owns from reset, its tables from their default content where it has a section (R180). Log
entry 264. -/
def reloadSections (f : Nat) (s : State) : Option State :=
  let own := (configSections s.mgt.toc).filter (fun e => e.target == f)
  if own.any (fun e => sha512 (sectionBytes s s.mgt.slot e) != e.digest) then none
  else
    let s0 := clearOwned f s
    match own.foldl (fun (a : Option State) e => a.bind (applySection s.mgt.slot e))
        (some (if own.isEmpty then s0 else clearTables f s0)) with
    | some s1 => some (privCapped s s1)
    | none => none

/-- The bytes that the memory records of a section write to parameter memory, with their addresses (R448). -/
def sectionMem : Nat → List Byte → List (Nat × Byte)
  | 0, _ => []
  | n + 1, bs =>
    let len := ofLe ((bs.drop 8).take 4)
    let data := (bs.drop 16).take len
    let a := ofLe ((bs.drop 4).take 4)
    let here := if ofLe (bs.take 2) = 2 ∧ ofLe ((bs.drop 2).take 2) = 1 then
        (List.range data.length).zip data |>.map (fun p => (a + p.1, p.2))
      else []
    if bs.length < 16 then [] else here ++ sectionMem n (bs.drop (16 + (len + 15) / 16 * 16))

/-- The parameter-memory function reads bytes `lo` to `hi` − 1 of a VDT table again from the sections of the slot that was
booted, each checked against the digest held (R1, R227, R241); with a section that fails, the table stays. Log entry 268. -/
def reloadTable (lo hi : Nat) (s : State) : State :=
  let own := (configSections s.mgt.toc).filter (fun e => e.target / 0x10000 == 6)
  if own.any (fun e => sha512 (sectionBytes s s.mgt.slot e) != e.digest) then s
  else
    (own.flatMap (fun e => sectionMem (e.length / 16 + 1) (sectionBytes s s.mgt.slot e))).foldl (fun s c =>
      if lo ≤ c.1 ∧ c.1 < hi then pmWrite c.1 [c.2] s else s) (pmClear lo (hi - lo) s)

/-- The held table of contents lost a word (R468): it is read again from the active slot and its signature verified; a failure
raises 0xB06. -/
def tocEcc (readOk : Bool) (s : State) : State :=
  if !s.mgt.loaded then s
  else if readOk && headResult s s.mgt.slot false == 0 then mgtMod (fun m => { m with toc := tocOf s s.mgt.slot }) s
  else raise0 0xB06 0xB0000 [0xB0000] s

end Sys2Proof.Machine
end

