-- ==== Sys2Proof/Machine/Power.lean ====
section
/-! DEFINITION. Power: what survives a device that is held in reset, restarts, power-fail, the hardware trip, the orderly stop and
CALM, nRESET, the reference clock and power-on (12_energy.md R400-R403; 13_thermal_housekeeping.md R429-R435; 14_configuration_boot.md
R459; 18_electrical_mechanical.md R546, R550, R555). -/

namespace Sys2Proof.Machine

/-! ### Flash work in flight (R401, R402, R433, R443) -/

/-- A page program is in flight on the NV port. -/
def programFlying (s : State) : Bool := (nvNext s).head?.any (nvIsProgram s)

/-- The page program in flight completes (R401, R433). -/
def programDone (s : State) : State :=
  if !programFlying s then s
  else
    match (nvNext s).head?, s.evt.rcd.mProg, s.mgt.devOps, s.mgt.nvOp with
    | some 3, some (g, recs, marks), _, _ => if marks then marksDone g recs s else bodiesDone g recs s
    | some 5, _, o :: _, _ => flashPut o.addr o.data s
    | some 6, _, _, some o => flashPut o.addr o.data s
    | _, _, _, _ => s

/-- The page program in flight is cut: its page is undefined (R433, R459). -/
def programCut (s : State) : State :=
  if !programFlying s then s
  else
    match (nvNext s).head?, s.evt.rcd.mProg, s.mgt.devOps, s.mgt.nvOp with
    | some 3, some (g, recs, _), _, _ => flashUndefined (mirrorAddr s.evt.rcd.mSector g) (16 * progLenOf recs) s
    | some 5, _, o :: _, _ => nvCutShort o s
    | some 6, _, _, some o => nvCutShort o s
    | _, _, _, _ => s

/-- The erases of the host and of the device that have begun, suspended ones too. -/
def begunErases (s : State) : List NvOp :=
  ((if nvBegun s 6 then s.mgt.nvOp.toList else []) ++ (if nvBegun s 5 then s.mgt.devOps.head?.toList else [])).filter isErase

/-- The sector erases in flight are abandoned (R402, R433): their sectors are undefined. -/
def eraseCut (s : State) : State :=
  let s1 := (begunErases s).foldl (fun s o => nvCutShort o s) s
  match (if nvBegun s 4 then s.evt.rcd.mErasing else none) with
  | some i => flashUndefined (mirrorAddr i 0) 4096 s1
  | none => s1

/-- The sector erases in flight are abandoned and are due again after the restart (R402, R433); the mirror writer erases its own
sector again before it uses it. Log entry 319. -/
def eraseAbandon (s : State) : State :=
  mgtMod (fun m => { m with
    eraseDue := m.eraseDue ++ ((begunErases s).map (·.addr)).filter (fun a => !m.eraseDue.contains a) }) (eraseCut s)

/-- No flash work is left on the NV port. -/
def nvDrop (s : State) : State :=
  rcdMod (fun r => { r with mBusy := false, mErasing := none }) (mgtMod (fun m => { m with nvStack := [], nvOp := none, devOps := [] }) s)

/-! ### What is retained -/

/-- The device held in reset, with what is retained: the flash, OTP, the recorder ring with its bad granules and mirror marks
(R519; log entry 83), the energy total, NRG_PF_STATUS, what the next start reports and erases again, THM_TRIP_STATUS and the
boot count (R534), the always-on island (R432), and why it is held. -/
def heldInReset (s : State) : State :=
  let r := s.evt.rcd
  { State.reset with
    t := s.t
    regs := s.regs.filter (fun p => p.1 == Reg.NRG_PF_STATUS || p.1 == Reg.MGT_BOOT_COUNT)
    evt := { Evt.reset with rcd := { Recorder.reset with
      ring := r.ring, recs := r.recs, bad := r.bad, wpos := r.wpos, seq := r.seq } }
    mgt := { Mgt.reset with
      step := 0, flash := s.mgt.flash, rbBurned := s.mgt.rbBurned, revBurned := s.mgt.revBurned, downBy := s.mgt.downBy
      bootCount := s.mgt.bootCount, eraseDue := s.mgt.eraseDue, attCut := s.mgt.attCut || s.mgt.attBusy }
    nrg := { Nrg.reset with total := s.nrg.total, pf := s.nrg.pf, pfT := s.nrg.pfT, due := s.nrg.due }
    thm := { Thm.reset with
      island := s.thm.island, trip := s.thm.trip, tripTimes := s.thm.tripTimes, latched := s.thm.latched
      lastH2 := s.thm.lastH2, lastHold := s.thm.lastHold, stops := s.thm.stops, trips := s.thm.trips
      cmpTest := s.thm.cmpTest, tripRec := s.thm.tripRec, leftCalm := s.thm.leftCalm || s.mgt.state == .calm }
    free := s.free
    pending := s.pending }

/-- Every rail but the flash domain is cut (R401, R432): the recorder goes on, and the page program that was in flight in `was`. -/
def cutToFlash (was s : State) : State :=
  let h := heldInReset s
  let c := { h with
    evt := { h.evt with rcd := { s.evt.rcd with taking := false, intake := [], mErasing := none } }
    mgt := { h.mgt with nvOp := s.mgt.nvOp, devOps := s.mgt.devOps, nvStack := (nvNext was).take 1 } }
  if programFlying was then c else nvDrop c

/-- The device starts from step 1 (R460): T counts from 0, the island's clock going on; erases that were abandoned are made
again (R402, R433), and what the restart reports is raised and waits for the recorder (R566): dips and a skipped seal, leaving
CALM, a trip and its latch. A signing that the restart cut short shows STATUS 3 (R467, log entry 287). -/
def startUp (s : State) : State :=
  let h := heldInReset s
  let s1 := { h with
    t := 0
    mgt := { h.mgt with step := 1, devOps := h.mgt.eraseDue.map (fun a => ⟨9, a, [], false⟩), attCut := false }
    nrg := { h.nrg with due := [] }
    thm := { h.thm with island := h.thm.island + (h.t : Int), tripRec := none, leftCalm := false } }
  let s2 := raiseIf h.thm.leftCalm 0xA0B 0xA0201 [] 0 0
    (h.nrg.due.foldl (fun s c => raise0 c 0x90001 [] s) (if h.mgt.attCut then attStatus 3 s1 else s1))
  match h.thm.tripRec with
  | none => s2
  | some (t0, h2, hold, latch) =>
    raiseIf latch 0xA0D 0xA0300 [] 0 0
      (raise0 0xA0C 0xA0300 [t0 % 2 ^ 32, t0 / 2 ^ 32, b2n h2, b2n hold] s2)

/-- The device starts when nothing holds it: power, nRESET, REFCLK, the power-fail sequence and the trip. -/
def startIfFree (s : State) : State :=
  if s.mgt.downBy.isEmpty ∧ s.nrg.pf ≤ 1 ∧ s.thm.trip = 0 then startUp s else s

/-- A restart at once, as nRESET (R459): operations in progress end, a page or sector in hand is undefined. -/
def restartNow (s : State) : State := startIfFree (heldInReset (eraseCut (programCut s)))

/-- BOOT_RESTART (R459): a write of MGT_BOOT_CMD with CMD 1. -/
def bootRestart (s : State) : State := if alive s then restartNow s else s

/-- NRESET (R555): held low for 1 µs it resets the device, which restarts from step 1 on release. -/
def nReset (low : Bool) (s : State) : State :=
  let d := s.mgt.downBy.filter (· ≠ 1)
  if low then
    if alive s then heldInReset (mgtMod (fun m => { m with downBy := 1 :: d }) (eraseCut (programCut s)))
    else mgtMod (fun m => { m with downBy := 1 :: d }) s
  else if s.mgt.downBy.contains 1 then startIfFree (mgtMod (fun m => { m with downBy := d }) s)
  else s

/-- REFCLK_LOST (R550): the device holds itself in reset, its pins at high impedance; the ring is retained. -/
def refclkLost (s : State) : State :=
  let d := s.mgt.downBy.filter (· ≠ 2)
  if alive s then heldInReset (mgtMod (fun m => { m with downBy := 2 :: d }) (eraseCut (programCut s)))
  else mgtMod (fun m => { m with downBy := 2 :: d }) s

/-- REFCLK_RETURN (R550): present and in range for 10 ms, the device restarts from step 1. -/
def refclkReturn (s : State) : State :=
  if s.mgt.downBy.contains 2 then startIfFree (mgtMod (fun m => { m with downBy := m.downBy.filter (· ≠ 2) }) s) else s

/-- POWER_GOOD (R519, R546): power-on from a dead bank. The flash and OTP alone keep their contents; SEQ is found in the mirror,
and a latched trip is cleared (R435). A low nRESET or a lost REFCLK still holds the device, which then starts when that ends
(R550, R555). -/
def powerGood (s : State) : State :=
  let held := s.mgt.downBy.filter (· ≠ 0)
  { State.reset with
    mgt := { Mgt.reset with
      step := if held.isEmpty then 1 else 0, flash := s.mgt.flash, rbBurned := s.mgt.rbBurned, revBurned := s.mgt.revBurned
      downBy := held }
    free := s.free
    pending := s.pending }

/-! ### Power-fail (R400-R403) -/

/-- PF_THRESHOLD_CROSS (R400): the input falls below 10.0 V, or returns within 20 µs as a dip, also while nRESET or REFCLK holds
the device: event 0x90B is then raised by the next start (log entry 318). A fall before power-good begins no power-fail: the
device stays down until the input has come back (R403, R546). Log entry 333. -/
def pfThresholdCross (down : Bool) (s : State) : State :=
  if down ∧ s.nrg.pf = 4 then mgtMod (fun m => { m with downBy := 0 :: m.downBy.filter (· ≠ 0) }) s
  else if down then
    if s.nrg.pf = 0 ∧ s.thm.trip ≠ 2 ∧ !s.mgt.downBy.contains 0 then nrgMod (fun n => { n with pf := 1, pfT := s.t }) s else s
  else if s.nrg.pf = 1 then
    let s1 := rsat (nrgMod (fun n => { n with pf := 0 }) s) Reg.NRG_PF_STATUS 31 16 1
    if alive s then raise0 0x90B 0x90001 [] s1 else nrgMod (fun n => { n with due := n.due ++ [0x90B] }) s1
  else s

/-- The recorder writes what its intake holds. -/
def drainIntake : Nat → State → State
  | 0, s => s
  | n + 1, s => if s.evt.rcd.intake.isEmpty then s else drainIntake n (recordWrite s)

/-- The outputs go to high impedance (R357): event 0x81E (R380). Log entry 284. -/
def outputsReleased (s : State) : State :=
  raise0 0x81E 0x80101 [] (penMod (fun p => { p with hiz := true }) s)

/-- The recorder can write (R401): one that has not scanned yet, or that is in reset, takes the SEQ that its scan would give.
Log entry 318. -/
def recorderForced (s : State) : State :=
  let s1 := if s.evt.rcd.taking then s else rcdMod (fun r => { r with seq := scannedSeq s, taking := true }) s
  { s1 with rst := { s1.rst with
      runs := s1.rst.runs.filter (fun r => r.fid != 0xB0200 && r.fid != 0xB0201)
      held := s1.rst.held.filter (fun f => f != 0xB0200 && f != 0xB0201) } }

/-- POWER_FAIL (R401 steps 2 and 3, R402): the record is written, a sector erase in flight is abandoned, and all but the flash
domain is cut. -/
def powerFail (s : State) : State :=
  if s.nrg.pf ≠ 1 ∨ s.thm.trip = 2 then s
  else
    let s1 := drainIntake 17 (outputsReleased (raise0 0x90C 0x90001 [] (recorderForced (eraseAbandon s))))
    let s2 := rsat (rfset s1 Reg.NRG_PF_STATUS 5 5 (b2n (programFlying s))) Reg.NRG_PF_STATUS 4 0 1
    cutToFlash s (nrgMod (fun n => { n with pf := 2 }) s2)

/-- Where the seal page goes: sector, first granule, and whether it begins the sector with a header. It is the next whole page
of the current mirror sector that is erased, behind a page whose bodies are in flash, else the first page of the next sector
where that is erased (log entry 82). -/
def sealPlace (s : State) : Option (Nat × Nat × Bool) :=
  let r := s.evt.rcd
  let g := match r.mProg with
    | some (p, _, true) => (p / 16 + 1) * 16
    | _ => (r.mGran + 15) / 16 * 16
  if 0 < g ∧ g < 256 then some (r.mSector, g, false)
  else if !r.mErased then none
  else some (if g = 0 then r.mSector else nextSector r.mSkip 1024 r.mSector, 1, true)

/-- The records of the seal page (R401): the POWER_FAIL record and as many privileged records not yet mirrored as fill a page. -/
def sealRecs (s : State) : List (Nat × List (BitVec 128)) :=
  let r := s.evt.rcd
  let pf := (r.recs.reverse.find? (fun x => x.code == 0x90C)).map (fun x => (x.seq, ringRead r x))
  let rest := (r.recs.filter (fun x => x.priv && !x.mirrored && some x.seq != pf.map (·.1))).map (fun x => (x.seq, ringRead r x))
  fitRecs (match sealPlace s with | some (_, _, true) => 15 | _ => 16) (pf.toList ++ r.hold ++ rest)

/-- The end of the sequence (R401 step 6): the device is held in reset; a seal that was skipped is reported by the next start. -/
def pfHold (s : State) : State :=
  heldInReset (nrgMod (fun n => { n with
    pf := 4, due := if rfld s Reg.NRG_PF_STATUS 7 6 = 2 then n.due ++ [0x90D] else n.due }) s)

/-- PF_SEAL (R401 steps 4 and 5, R434): the program in flight has completed; with the hold-up voltage `v` (in 0.1 V) at 7.5 V or
more the seal page program starts, otherwise it is skipped. When a trip came first, it must start with 1.2 ms of NV_HOLD left.
A mirror without an erased page for it skips it too (log entry 82). -/
def pfSeal (v : Nat) (s : State) : State :=
  if s.nrg.pf ≠ 2 then s
  else
    let s1 := rfset (nvDrop (programDone s)) Reg.NRG_PF_STATUS 15 8 (satN 8 v)
    let inTime := s.thm.trip != 1 || decide (islandNow s + 240000 ≤ s.thm.tripTimes.headD 0 + 600000)
    if decide (75 ≤ v) && inTime && (sealPlace s1).isSome then nrgMod (fun n => { n with pf := 3 }) (rfset s1 Reg.NRG_PF_STATUS 7 6 1)
    else pfHold (rfset s1 Reg.NRG_PF_STATUS 7 6 2)

/-- The seal page is in flash (R401): its records count as mirrored. -/
def sealWritten (s : State) : State :=
  let rs := sealRecs s
  match sealPlace s with
  | none => s
  | some (i, g, first) =>
    let head := if first then granBytes (mirrorHeader ((rs.head?.map (·.1)).getD 0) (s.evt.rcd.mUse + 1)) else []
    rcdMod (fun r => { r with
        recs := r.recs.map (fun x => if rs.any (fun q => q.1 == x.seq) then { x with mirrored := true, mirT := some s.t } else x) })
      (flashPut (mirrorAddr i g) (rs.flatMap (fun x => x.2.flatMap granBytes)) (flashPut (mirrorAddr i 0) head s))

/-- PF_SEAL_DONE (R401 step 6): the seal page is in flash, which enters deep power-down; the device is held in reset. -/
def pfSealDone (s : State) : State := if s.nrg.pf ≠ 3 then s else pfHold (sealWritten s)

/-- PF_RESTART (R403): the input has stayed at 10.8 V or more for 100 ms. -/
def pfRestart (s : State) : State :=
  if s.nrg.pf ≠ 4 then s
  else startIfFree (mgtMod (fun m => { m with downBy := m.downBy.filter (· ≠ 0) }) (nrgMod (fun n => { n with pf := 0 }) s))

/-! ### Hardware trip (R432-R435) -/

/-- TRIP (R432-R435): a comparator fires. The trip is latched in the island with its time; every rail is cut but the island and,
with a page program in flight, the flash domain. A trip that finds three trips in the preceding hour latches. During a
power-fail sequence it cuts nothing further; a crossing that is not yet qualified is forgotten with the rails. -/
def trip (h2 : Bool) (s : State) : State :=
  if s.thm.trip ≠ 0 ∨ s.mgt.downBy.contains 0 then s
  else
    let now := islandNow s
    let fly := programFlying s || s.nrg.pf == 3
    let latch := decide (3 ≤ tripsInHour s)
    let s1 := thmMod (fun t => { t with
      trip := if fly then 1 else 2, tripTimes := (now :: t.tripTimes).take 3, lastH2 := h2, lastHold := fly
      trips := satN 16 (t.trips + 1), latched := t.latched || latch
      tripRec := some (now, h2, fly, t.latched || latch) }) s
    if 2 ≤ s.nrg.pf then thmMod (fun t => { t with trip := 2 }) s1
    else if fly then cutToFlash s (eraseAbandon (outputsReleased s1))
    else heldInReset (eraseAbandon (outputsReleased (nrgMod (fun n => { n with pf := 0 }) s1)))

/-- TRIP_FLASH_CUT (R432 step 3, R433, R434): the flash rail is cut at the end of the program in flight, or at NV_HOLD with its
page undefined. -/
def tripFlashCut (done : Bool) (s : State) : State :=
  if s.thm.trip ≠ 1 then s
  else
    let s1 := thmMod (fun t => { t with trip := 2 }) (if done then programDone s else programCut s)
    if s.nrg.pf = 2 then pfHold (rfset s1 Reg.NRG_PF_STATUS 7 6 2)
    else if s.nrg.pf = 3 then pfSealDone s1
    else heldInReset (nrgMod (fun n => { n with pf := if n.pf = 4 then 4 else 0 }) s1)

/-- TRIP_RESTART (R435): both trip sensors have stayed below 90 °C for 10 s; the device restarts from step 1, and a latched one
comes up into TRIP_LATCH. -/
def tripRestart (s : State) : State :=
  if s.thm.trip = 2 ∧ (s.nrg.pf ≤ 1 ∨ s.nrg.pf = 4) then startIfFree (thmMod (fun t => { t with trip := 0 }) s) else s

/-! ### Orderly stop and CALM (R429-R431) -/

/-- ORDERLY_STOP_CONFIRM (R429): the urgent re-conversion of the hottest sensor has been delivered, and the condition is
evaluated again with it: the orderly stop starts, or 0xA14 and nothing else. While the fault of R422 holds or a power-fail sequence
runs it is not triggered. Log entry 322. -/
def orderlyStopConfirm (s : State) : State :=
  match s.thm.stop, mget s.thm.reconv s.thm.hot with
  | 1, some v =>
    if s.thm.bothBad || s.nrg.pf != 0 || s.thm.trip != 0 then thmMod (fun t => { t with stop := 0 }) s
    else
      let ts := s.thm.ts.set s.thm.hot v
      let m := (tMaxOf ts s.thm.excl).1
      if stopCond m (riseRate s m) then
        raise0 0xA09 0xA0201 [] (thmMod (fun t => { t with stop := 2, stopT := s.t, stops := satN 8 (t.stops + 1) }) s)
      else raise0 0xA14 0xA0201 [] (thmMod (fun t => { t with stop := 0 }) s)
  | _, _ => s

/-- Every privileged record not yet mirrored, updated ones included, waits for the mirror in sequence order (R430 step 5, R517). -/
def privQueued (s : State) : State :=
  rcdMod (fun r => { r with queue := queueInOrder ((r.recs.filter (fun x => x.priv && !x.mirrored)).map (·.seq)) r }) s

/-- The array stops (R430 step 3): slots, exposures and readouts in progress end, a snapshot as by its reset. Log entry 322. -/
def arrayStopped (s : State) : State :=
  aryMod (fun a => { a with reads := [], gapsDue := [], flight := [], slotOpen := [], exposing := [] })
    (grantDrop 4 0 (snapUnitsDiscarded (aryResetScope 0x10001 s)))

/-- ORDERLY_STOP_CUT (R430 steps 3 to 5): objects still in the table close as by a reset of the object table, reservations are
released, strobes are forced off, capture stops, and the calm STATUS goes out on every set that is UP. -/
def orderlyStopCut (s : State) : State :=
  if s.thm.stop ≠ 2 then s
  else
    let s1 := strobesForced (vdtMod (fun v => { v with resv := [] }) (vdtResetScope 0x60C00 s))
    privQueued (calmSets (thmMod (fun t => { t with stop := 3 }) (mgtMod (fun m => { m with capturing := false }) (arrayStopped s1))))

/-- Every privileged record is in the mirror. -/
def privMirrored (s : State) : Bool :=
  let r := s.evt.rcd
  r.recs.all (fun x => !x.priv || x.mirrored) && r.intake.all (fun x => !x.priv) && r.hold.isEmpty && r.mProg.isNone

/-- CALM_ENTERED (R430 steps 5 and 6): the privileged records are mirrored and every P0 queue is empty; the pin engines halt, CALM,
event 0xA0A. -/
def calmEntered (s : State) : State :=
  if s.thm.stop = 3 ∧ privMirrored s ∧ (List.range 4).all (fun n => (laneSet s n).down || p0Empty s n) then
    raise0 0xA0A 0xA0201 [] (thmMod (fun t => { t with stop := 4 })
      (mgtMod (fun m => { m with state := .calm }) (haltAll 0 4 s)))
  else s

/-- CALM_AUTO_RESTART (R431): T_max has stayed below 90 °C for 10 s in CALM, with CALM_AUTO. -/
def calmAutoRestart (s : State) : State :=
  if s.mgt.state = .calm ∧ rbit s Reg.THM_CFG 31 ∧ s.thm.coolT.isSome then restartNow s else s

/-- THM_RESTART (R431, R435, R437): with key 0xC3 the device restarts from CALM or TRIP_LATCH, whose latch is cleared; a wrong
key is ignored with event 0xA0E. -/
def thmRestart (key : Nat) (s : State) : State :=
  if key ≠ 0xC3 then raise0 0xA0E 0xA0300 [key] s
  else if s.mgt.state = .calm then restartNow s
  else if s.mgt.state = .tripLatch then restartNow (thmMod (fun t => { t with latched := false }) s)
  else s

end Sys2Proof.Machine
end

