-- ==== Sys2Proof/Machine/Resets.lean ====
section
/-! DEFINITION. Per-function reset, watchdogs and memory errors (16_events_resets.md R520-R527; 14_configuration_boot.md R456; the
conditions on memories that each chapter gives). -/

namespace Sys2Proof.Machine

/-! ### The host's request (R520) -/

/-- RESULT of MGT_RST_STATUS. -/
def rstResult (r : Nat) (s : State) : State := { s with rst := { s.rst with result := r } }

/-- A reset of function `f` is refused for state (R520, RESULT 5). -/
def stateRefuses (s : State) (f : Nat) : Bool :=
  let d := f / 0x10000
  s.mgt.state == .boot || s.mgt.state == .starting ||
    ((s.mgt.state == .safe || s.mgt.state == .tripLatch) && d != 11) ||
    (s.mgt.state == .calm && d != 11 && d != 10 && d != 9) ||
    ((s.thm.stop == 2 || s.thm.stop == 3) && d != 11) ||
    (s.nrg.pf != 0 && f == 0x90001) || f == 0xB0003 || f == 0xB0203

/-- The data coordinate of function `f` where R20 and the function tables give it one (R10, R21): CTAG and COORD of a slice, a
sector, a band, a companion port, a lane or a lane set, an engine or a valve bank. Log entry 292. -/
def fidCoord (s : State) (f : Nat) : Nat × Nat :=
  let u := bits f 15 8
  let i := f % 0x100
  let l := s.tbs.l
  match f / 0x10000 with
  | 1 => if u = 2 then (2, coSector 15 i l) else (0, 0)
  | 2 => if u < 12 then (1, coSlice (16 * u + i % 16) 127) else (0, 0)
  | 4 => if u < 12 then (2, coSector u 15 l) else (0, 0)
  | 5 => if u = 1 then (0, 0) else (7, coAux s (i % 2))
  | 6 => if u < 12 then (2, coSector u 15 l) else if u = 16 then (6, coBank i (s.t / tickLen s)) else (0, 0)
  | 7 =>
    if u = 0 then (4, coLane 31 false i)
    else if u = 1 then (4, coLane i false (laneRole s i).2.1)
    else if u = 2 then (4, coLink i) else (0, 0)
  | 8 => if u = 0 then (5, coEng i) else (0, 0)
  | _ => (0, 0)

/-- Raise an event about function `f` with the coordinate that `f` has (R10, R21). -/
def raiseAbout (code fid f : Nat) (args : List Nat) (s : State) : State :=
  raise code fid args (fidCoord s f).1 (fidCoord s f).2 s

/-- A refusal (R520): RESULT and event 0xB12, with the coordinate of the function that was asked for. -/
def rstRefuse (f r : Nat) (s : State) : State := raiseAbout 0xB12 0xB0203 f [f, r] (rstResult r s)

/-- RESET_ARM (R520): a write of MGT_RST_CMD with key 0xB9; it replaces an earlier arm. -/
def resetArm (f : Nat) (s : State) : State :=
  if alive s then rstResult 1 { s with rst := { s.rst with armed := some (f % 2 ^ 20, s.t), reqFid := f % 2 ^ 20 } } else s

/-- RESET_ARM_EXPIRE (R520): the arm is no longer in force. -/
def resetArmExpire (s : State) : State := { s with rst := { s.rst with armed := none } }

/-- A function whose reset a host request joins: one that is being reset automatically (R520, R521). -/
def beingReset (s : State) (f : Nat) : Bool := s.rst.runs.any (fun r => r.fid == f)

/-- RESET_FIRE (R520): a write of MGT_RST_CMD with key 0x9B within 10 ms of its arm. -/
def resetFire (f : Nat) (s : State) : State :=
  let f := f % 2 ^ 20
  let s0 := { s with rst := { s.rst with armed := none, reqFid := f } }
  if !alive s then s
  else
    match s.rst.armed with
    | none => rstRefuse f 7 s0
    | some (g, t0) =>
      if t0 + 2000000 < s.t then rstRefuse f 7 s0
      else if f ≠ g then rstRefuse f 8 s0
      else if !isFunction f then rstRefuse f 4 s0
      else if stateRefuses s f then rstRefuse f 5 s0
      else if s.rst.runs.any (·.host) then rstRefuse f 6 s0
      else if beingReset s f then
        rstResult 2 { s0 with rst := { s0.rst with runs := s0.rst.runs.map (fun r => if r.fid = f then { r with host := true } else r) } }
      else rsat (startReset f 0 true (rstResult 2 s0)) Reg.MGT_RST_COUNT 31 16 1

/-! ### Reset scopes and resumes (R521, R523) -/

/-- The credit of the mirror writer returns to reset; what waits in its queue is settled at the resume (R523). -/
def mirrorScope (s : State) : State :=
  rcdMod (fun r => { r with suspended := false, credit := 0x100000, creditT := s.t }) s

/-- The page program of the mirror that has not begun is given up, and that page is left when its bodies are written; pad records
close a sector whose last page it is (R507). -/
def mirrorGivesUp (s : State) : State :=
  match s.evt.rcd.mProg with
  | some (g, recs, true) =>
    let g1 := (g / 16 + 1) * 16
    if 256 ≤ g1 then
      rcdMod (fun r => closeSector { r with mProg := none, mBusy := false }) (sectorPads s.evt.rcd.mSector (g + progLenOf recs) s)
    else rcdMod (fun r => { r with mProg := none, mBusy := false, mGran := g1 }) s
  | _ => rcdMod (fun r => { r with mProg := none, mBusy := false }) s

/-- State inside the reset scope of an MGT function (R458, R467, R468, R487, R523). Log entry 320. -/
def mgtResetScope (f : Nat) (s : State) : State :=
  if f = 0xB0000 then
    match s.mgt.verify with
    | some sl => rfset (mgtMod (fun m => { m with verify := none }) s) (Reg.MGT_SLOT_STATUS + 4 * sl) 27 27 0
    | none => s
  else if f = 0xB0001 then
    let s1 := match s.mgt.nvOp with
      | some o =>
        let cut := if nvBegun s 6 then nvCutShort o s else s
        nvResult (if o.granted && o.kind != 8 then 5 else 0)
          (grantDrop (if o.kind = 1 then 2 else 1) 3 (mgtMod (fun m => { m with nvOp := none }) cut))
      | none => s
    nvSettle (match s1.mgt.devOps with
    | o :: _ => if o.granted then devOpDone false (if nvBegun s 5 then nvCutShort o s1 else s1) else s1
    | [] => s1)
  else if f = 0xB0002 then attAbort s
  else if f = 0xB0100 then { s with mb := { Mb.reset with strap := s.mb.strap, pecStrap := s.mb.pecStrap, lastAddr := s.mb.lastAddr } }
  else if f = 0xB0201 then
    let e := s.evt.rcd.intake.foldl (fun e r => dropAtIntake r.code r.t e) s.evt
    { s with evt := { e with rcd := { e.rcd with
      intake := [], taking := false, table := [], window := [], winNone := false, jump := false } } }
  else if f = 0xB0202 then
    if nvBegun s 3 then mirrorScope s
    else
      nvSettle (grantDrop 1 0 (mirrorGivesUp (mirrorScope s)))
  else s

/-- State inside the reset scope of function `f` returns to its reset values, what it holds being handled by R523. -/
def resetScope (f : Nat) (s : State) : State :=
  match f / 0x10000 with
  | 1 => if f = 0x10001 then grantDrop 4 0 (snapUnitsDiscarded (aryResetScope f s))
    else if f = 0x10300 then cpPollAll (gapsPass (aryResetScope f s)) else aryResetScope f s
  | 2 => colResetScope f s
  | 3 => tbsResetScope f s
  | 4 => if f / 0x100 = 0x40D then fmtResetScope f s else cpPollAll (pipResetScope f s)
  | 5 => auxResetScope f s
  | 6 => vdtResetScope f s
  | 7 => linkResetScope f (lnkResetScope f s)
  | 8 => penResetScope f s
  | 9 => nrgResetScope f s
  | 10 => thmResetScope f s
  | 11 => mgtResetScope f s
  | _ => s

/-- The mirror writer's queue is rebuilt from the mirror marks (R523): every privileged record that is not marked, and of the
others those that waited. Log entry 330. -/
def mirrorResume (s : State) : State :=
  rcdMod (fun r => { r with queue := (r.recs.filter (fun x => !x.mirrored && (x.priv || r.queue.contains x.seq))).map (·.seq) }) s

/-- Function `f` resumes (R523, and the chapters' rules on a section that is loaded again). -/
def resumeScope (f : Nat) (s : State) : State :=
  match f / 0x10000 with
  | 1 =>
    let m := rfld s Reg.ARY_MODE_CFG 2 0
    if f = 0x10000 then raise0 0x111 0x10000 [m] (rfset s Reg.ARY_STATUS 2 0 m)
    else if 0x10200 ≤ f ∧ s.ary.rowDrvBad.contains (f - 0x10200) then
      raiseAbout 0x108 f f [] (aryMod (fun a => { a with rowDrvBad := a.rowDrvBad.filter (· != f - 0x10200) }) s)
    else s
  | 4 =>
    if f < 0x40C00 then secResume ((f - 0x40000) / 0x100) s
    else if f = 0x40C00 then labelsResume s else if f = 0x40C01 then bgReset s else s
  | 2 => if f = 0x20C01 ∧ s.col.tb ≠ s.thm.tb ∧ s.col.calibrated then auxTbChange s.thm.tb (columnBand s.thm.tb s) else s
  | 3 =>
    let s1 := refreshMotions (tbsResume f s)
    if f = 0x30000 then encoderJudge s1 else s1
  | 6 => vdtResume f (if f = 0x60C02 then loadPrograms s else if f = 0x60F00 then loadListedBands s else s)
  | 7 => if 0x70000 ≤ f ∧ f ≤ 0x70003 ∧ 7 ≤ s.mgt.step then setBringUp (f % 4) s else s
  | 8 => penResume f (if f = 0x80101 then refreshMotions s else s)
  | 9 => thmResume f (nrgResume f s)
  | 10 => thmResume f s
  | 11 => if f = 0xB0200 then evtResume s else if f = 0xB0202 then mirrorResume s else s
  | _ => s

/-- The first reset that waits begins once fewer than four run (R521). -/
def startQueued (s : State) : State :=
  if (s.rst.runs.filter (fun r => r.phase != .queued)).length < 4 then
    match s.rst.runs.findIdx? (fun r => r.phase == .queued) with
    | some i => { s with rst := { s.rst with runs := s.rst.runs.modify i (fun r => { r with phase := .fired }) } }
    | none => s
  else s

/-- The run of function `f`. -/
def runOf (s : State) (f : Nat) : Option RstRun := s.rst.runs.find? (fun r => r.fid == f)

/-- Event 0xB11 of a reset (R521): cause, L at quiesce, L now, µs since quiesce; its function ID is that of the function that
was reset and its coordinate that function's (R21, log entry 237). -/
def funcReset (r : RstRun) (cause : Nat) (s : State) : State :=
  raiseAbout 0xB11 r.fid r.fid [cause, r.lq, s.tbs.l, (s.t - r.tq) / 200] s

/-- The run of function `f` ends. -/
def endRun (f : Nat) (s : State) : State :=
  startQueued { s with rst := { s.rst with runs := s.rst.runs.filter (fun r => r.fid != f) } }

/-- A hold begins (R456, R521, R522): 0xB11 with cause 3; the function is listed in MGT_RST_HELD. -/
def holdFunction (r : RstRun) (s : State) : State :=
  endRun r.fid (funcReset r 3 { (rset s Reg.MGT_RST_LAST (3 * 2 ^ 30 + r.fid)) with
    rst := { s.rst with held := if s.rst.held.contains r.fid then s.rst.held else s.rst.held ++ [r.fid] } })

/-- RESET_QUIESCE (R521 steps 2 and 3, R522): the function takes no more input and its reset scope returns to reset; a fourth
automatic reset within 60 s is held here. -/
def resetQuiesce (f : Nat) (s : State) : State :=
  match runOf s f with
  | none => s
  | some r =>
    if r.phase ≠ .fired then s
    else
      let r1 : RstRun := { r with phase := .quiesced, lq := s.tbs.l, tq := s.t }
      let s1 := clearOwned f (resetScope f s)
      let s2 := nvSettle { s1 with rst := { s1.rst with runs := s1.rst.runs.map (fun x => if x.fid = f then r1 else x) } }
      if r.cause = 3 then nvSettle (holdFunction r1 s2) else s2

/-- SECTION_RELOAD_DONE (R443, R456): the sections of the function have been reloaded over the NV port, after `errs` read
failures; a second failure, or sections that fail their digests, hold the function with event 0xB06. MGT_MB_CFG keeps its value
(R487). -/
def sectionReloadDone (f errs : Nat) (s : State) : State :=
  match runOf s f with
  | none => s
  | some r =>
    if r.phase ≠ .quiesced ∨ (s.mgt.toc.any (fun e => e.typ == 1 && e.target == f) ∧ !nvTurn s 1) then s
    else
      nvSettle <| match (if errs < 2 then reloadSections f s else none) with
      | some s1 =>
        let s2 := if f = 0xB0100 then rset s1 Reg.MGT_MB_CFG (rnat s Reg.MGT_MB_CFG) else s1
        evtConfigured s { s2 with rst := { s2.rst with runs := s2.rst.runs.map (fun x => if x.fid = f then { x with phase := .reloaded } else x) } }
      | none =>
        let at0 := (((configSections s.mgt.toc).find? (fun e => e.target == f)).map (·.offset)).getD 0
        let s1 := flashRead (decide (2 ≤ errs)) (slotBase s.mgt.slot + at0) (raiseAbout 0xB06 0xB0000 f [f] s)
        holdFunction r (if r.host then rstResult 9 s1 else s1)

/-- RESET_RESUME (R521 step 5): the function resumes, RESULT 3 for a host request, event 0xB11. -/
def resetResume (f : Nat) (s : State) : State :=
  match runOf s f with
  | none => s
  | some r =>
    if r.phase ≠ .reloaded then s
    else
      let s1 := { s with rst := { s.rst with
        held := s.rst.held.filter (· ≠ f), runs := s.rst.runs.filter (fun x => x.fid != f) } }
      let s2 := resumeScope f s1
      startQueued (funcReset r r.cause (if r.host then rstResult 3 s2 else s2))

/-! ### Watchdogs (R522) -/

/-- The WATCHDOG code of a function's domain; TBS has none. -/
def watchdogCode (f : Nat) : Option Nat :=
  let u := f / 0x100 % 0x100
  match f / 0x10000 with
  | 1 => some 0x110
  | 2 => some (if u < 12 then 0x21C else 0x227)
  | 4 => some (if u = 13 then 0x41D else 0x415)
  | 5 => some 0x517
  | 6 => some (if 15 ≤ u ∨ f % 0x100 = 3 ∧ u < 12 then 0x61B else 0x611)
  | 7 => some 0x723
  | 8 => some 0x820
  | 9 => some 0x90F
  | 10 => some 0xA15
  | 11 => some 0xB13
  | _ => none

/-- Functions tied to lines, whose watchdog has no limit in standstill (R522). Log entry 332. -/
def lineTied (f : Nat) : Bool :=
  let u := f / 0x100 % 0x100
  match f / 0x10000 with
  | 1 => f != 0x10001
  | 2 => f != 0x20C00
  | 3 => f == 0x30001
  | 4 => f != 0x40C02
  | 5 => u == 2
  | 6 => decide (u < 12) || f == 0x60C00 || f == 0x60F00
  | _ => false

/-- WATCHDOG_EXPIRE (R522, R525): a function that works shows no progress; its domain's event, and with AUTO_RECOVER a reset with
cause 1. The watchdog of the reset controller restarts the device. -/
def watchdogExpire (f : Nat) (s : State) : State :=
  if !isFunction f ∨ !domainRuns s (f / 0x10000) ∨ inReset s f ∨ (s.tbs.standstill = true ∧ lineTied f = true) then s
  else
    let s1 := match watchdogCode f with
      | some c => raiseAbout c f f [] s
      | none => s
    if f = 0xB0203 then restartNow s1
    else if f = 0xB0003 ∨ !rbit s Reg.MGT_RST_CFG 31 then s1
    else autoReset f 1 s1

/-! ### Memory errors -/

/-- A segment of the band store loses its contents (R168): sector `n` of index `b` of band `k`, 9 for the labels. -/
def segmentLost (k n b : Nat) (s : State) : State :=
  let pos := slotPos s k b
  let d := descAt s pos
  if slotHolds s pos b n then
    pipMod (fun p => { p with desc := mput p.desc pos { d with written := d.written - 2 ^ n } }) s
  else s

/-- LEAD line `b` lies within the lines of the live object `o`, which has runs on each of them (R203, R204, R206). -/
def onLine (b : Nat) (o : Obj) : Bool :=
  decide (1 ≤ o.st) && decide (o.st ≤ 5) && decide (0 ≤ diffMod 32 b o.bFirst) && decide (diffMod 32 b o.bLast ≤ 0)

/-- The label history of band line `b` cannot be read (R168, R241): the registered line reads labels 0 with LEAD ABSENT, and
objects on the adjacent lines carry INCOMPLETE. -/
def labelLost (n b : Nat) (s : State) : State :=
  let near := slotsWith (fun o => onLine ((b + 1) % 2 ^ 32) o || onLine ((b + 2 ^ 32 - 1) % 2 ^ 32) o) s
  segmentLost 9 n b (near.foldl (fun s k => modObj k (setFlag 15) s)
    (raise 0x60B (0x60001 + 0x100 * n) [] 2 (coSector n 0 b) s))

/-- Core `c` cannot read a program word during the evaluation that is next (R227): verdict 15 with VSRC 4, unless the absent
policy decides without the program (R229); a gust evaluation takes verdict 15. The programs are read again from flash. Log entry
363. -/
def programLost (c : Nat) (s : State) : State :=
  match nextEval s with
  | none => raise0 0x60E (0x60D00 + c % 4) [] s
  | some e =>
    let s0 := vdtMod (fun v => { v with queue := v.queue.erase e })
      (reloadTable 0x2B4000 0x2BC000 (raise 0x60E (0x60D00 + c % 4) [] 3 (coObj e.id (site s)) s))
    if e.cp ≠ 0 then gustResult e (15, 0) (rsat s0 Reg.VDT_GUST_COUNT 31 0 1)
    else
      match objOf s e.slot with
      | none => s0
      | some o =>
        if o.id ≠ e.id ∨ o.st ≠ 3 then s0
        else
          match absentPolicy s o (o.prog.getD 0) with
          | some (b, pol) =>
            let s1 := raise 0x604 0x60C02 [b] 3 (coObj o.id (site s)) s0
            if pol = 0 then verdictEmitted e.slot (15, 4, 0) s1
            else verdictEmitted e.slot (if pol = 2 then 0 else 15, 1, 0) s1
          | none => verdictEmitted e.slot (15, 4, 0) s0

/-- A line of an auxiliary ring or store is discarded (R310): line `i` of the ring, or of the store when `store`. -/
def auxLineLost (p i : Nat) (store : Bool) (s : State) : State :=
  auxSettle (modPort p (fun x => if store then { x with store := x.store.eraseIdx i } else { x with ring := x.ring.eraseIdx i })
    (raiseAux 0x514 (0x50000 + p) p [] s))

/-- MEMORY_ECC_ERROR (R172 and the conditions of the chapters): an error in a memory, corrected or not. `mem` names the memory:
0 slot and parameter tables of ARY, 1 remap memory of slice `i`, 2 band store (sector `i` mod 12, band `i` div 12, index `l`), 3
accumulators and FIFOs, 4 resident parameters of stage `i` mod 8 in sector `i` div 8, 5 formatter buffers, 6 label history, 7
object memory (slot `i`), 8 program memory of VDT, 9 class table (column `i`, line `l`), 10 reservation `i`, which is lost and
not ejected (R271, R523), 11 auxiliary ring or store (port `i` mod 2), 12 table memory of AUX function `i`, 13 lane buffer (set
`i` div 4, class `i` mod 4), 14 program memory of engine `i`, 15 ledger and planner, 16 held table of contents, 17 recorder
ring. -/
def memoryEccError (mem i l : Nat) (uncorr : Bool) (s : State) : State :=
  if !alive s then s
  else
    match mem with
    | 0 => raise0 (if uncorr then 0x10F else 0x10E) (if uncorr then 0x10000 else 0x10100) [] s
    | 1 => if 192 ≤ i then s else if uncorr then autoReset (sliceFid i) 2 (remapRebuild i s) else raiseSlice 0x21D i 127 [] s
    | 2 =>
      let co := coSector (i % 12) (i / 12) l
      if uncorr then segmentLost (i / 12) (i % 12) l (raise 0x40D 0x40C00 [] 2 co s) else raise 0x40C 0x40C00 [] 2 co s
    | 3 =>
      let f := pipFid (i / 8 % 12) (i % 8)
      let co := coSector (i / 8 % 12) 15 l
      if uncorr then autoReset f 2 (raise 0x40F f [] 2 co s) else raise 0x40E f [] 2 co s
    | 4 =>
      let f := pipFid (i / 8 % 12) (i % 8)
      let co := coSector (i / 8 % 12) 15 l
      if uncorr then autoReset f 2 (raise 0x411 f [] 2 co s) else raise 0x410 f [] 2 co s
    | 5 => if uncorr then autoReset (0x40D00 + i % 5) 2 (raise0 0x41C (0x40D00 + i % 5) [] s) else s
    | 6 => if uncorr then labelLost (i % 12) l s else s
    | 7 => if uncorr then autoReset 0x60C00 2 (slotLost (i % 4096) (raise0 0x60D 0x60C00 [] s)) else raise0 0x60C 0x60C00 [] s
    | 8 => if uncorr then programLost i s else s
    | 9 =>
      if uncorr then
        vdtMod (fun v => { v with clsEcc := (l, i) :: v.clsEcc.filter (fun e => decide ((diffMod 32 l e.1).natAbs ≤ 4096)) })
          (reloadTable 0x2AA000 0x2B2200 (raise 0x60F (0x60002 + 0x100 * (i / 1536 % 12)) [] 2 (coSector (i / 1536 % 12) 15 l) s))
      else s
    | 10 =>
      if uncorr then autoReset 0x60F02 2 (raise0 0x61A 0x60F02 [] (vdtMod (fun v => { v with resv := v.resv.eraseIdx i }) s)) else s
    | 11 => if uncorr then auxLineLost (i % 2) l (i / 2 % 2 == 1) s else raiseAux 0x513 (0x50000 + i % 2) (i % 2) [] s
    | 12 =>
      let f := 0x50000 + i % 0x10000
      if !isFunction f then s
      else if uncorr then autoReset f 2 (raiseAbout 0x515 f f [] s) else raiseAbout 0x513 f f [] s
    | 13 => bufEcc (i / 4 % 4) (i % 4) uncorr s
    | 14 => if uncorr then pmemEcc (i % 16) s else raise 0x819 (engFid (i % 16)) [] 5 (coEng (i % 16)) s
    | 15 =>
      let f := 0x90100 + i % 2
      if uncorr then autoReset f 2 (raise0 0x90F f [] s) else s
    | 16 => if uncorr then tocEcc (i == 0) s else s
    | 17 => if uncorr then logMemFail l i s else rcdMod (fun r => { r with corr := min 15 (r.corr + 1) }) s
    | _ => s

end Sys2Proof.Machine
end

