-- ==== Sys2Proof/Machine/Lines.lean ====
section
/-! DEFINITION. What happens at line starts and line boundaries across chapters: admission of a line, the epoch and the
temperature band that take effect, registration, and the commands of the timebase that take a delivered packet. -/

namespace Sys2Proof.Machine

/-! ### Line start (R50-R53, R58-R60, R66, R88, R100, R133, R523) -/

/-- The causes of R52 in their order: the first condition that line `d`, starting at `tl`, does not meet. A line that a follower
started itself under a policy has no broadcast and fails cause 3; a deficit that ENC has left fails cause 4 in every mode (log
entry 245). -/
def lineCause (s : State) (d : DueLine) (tl : Nat) : Option Nat :=
  if (match s.tbs.tl with | some t0 => decide (tl < t0 + 4000) | none => false) then some 0
  else if !withinPred s s.ary.set.tOcc (1000 - rfld s Reg.TBS_VEL_CFG 23 16) 1000 then some 1
  else if !slotFree tl s then some 2
  else if s.grp.role == 2 && captureMode s != 2 && (match d.arr with | some a => decide (tl < a + 20) | none => true) then some 3
  else if s.tbs.deficit ≠ 0 then some 4
  else none

/-- Resets under which every line is GAP without a miss (R68, R523). -/
def lineBlocked (s : State) : Bool :=
  [0x10000, 0x10100, 0x10300, 0x30001].any (inReset s) || (s.grp.role == 2 && inReset s 0x30101)

/-- The line start leaves its entry in the history (R53), the previous T_L, and SYNC_OUT (R60); STALL clears (R59). An index that a
broadcast skipped has no start of its own (R66). -/
def lineEntry (d : DueLine) (tl : Nat) (gap : Bool) (s : State) : State :=
  let skip := d.skip
  let pulse := !skip && rbit s Reg.TBS_SYNC_CFG 17 && !(gap && rbit s Reg.TBS_SYNC_CFG 19) && !inReset s 0x30001
  tbsMod (fun b => { b with
    due := b.due.drop 1
    hist := (⟨d.l, d.p, tl, s.ary.epoch, gap⟩ :: b.hist).take 4096
    tlPrev := if skip then b.tlPrev else b.tl
    tl := if skip then b.tl else some tl
    syncOut := b.syncOut || pulse, stall := if skip then b.stall else false }) s

/-- A line that is not captured (R24, R25, R52, R94, R118, R141, R195): its tag and the lines that a snapshot made GAP; what the
readout leaves of it waits for its turn. Log entry 291. -/
def gapLine (l : Nat) (cause : Option Nat) (s : State) : State :=
  let s1 := match cause with
    | some c =>
      dlMissUnless (c == 3 && linksInReset s ((List.range 4).filter (fun n => rbit s (xwReg n 0) 31 && rbit s Reg.TBS_XW_CFG n)))
        0 0x30001 [c, l] 2 (coSector 15 15 l) s
    | none => s
  let s2 := if s.ary.snapBusy && cause == some 2 then aryMod (fun a => { a with snapSkipped := a.snapSkipped + 1 }) s1 else s1
  let s3 := { s2 with col := { s2.col with
    tags := (⟨l, s.ary.epoch, true, 0, false, s.ary.set, 0, defectColumns s, 0, rfld s Reg.MGT_SHED_STATUS 11 8⟩ :: s2.col.tags).take 4096 } }
  cpPollAll (gapsPass (aryMod (fun a => { a with gapsDue := a.gapsDue ++ [(l, a.epoch)] }) (strobesAtLine true s3)))

/-- A line is captured (R52, R84, R100, R133): its conversion sequence waits, its tags are set, the warm-up count advances. The
first captured line after start owes no SETTLE. Log entry 338. -/
def captureLine (l tl : Nat) (s : State) : State :=
  let set := s.ary.set
  let settle := if s.ary.lastCap.isNone then 0 else settleBands set s.ary.capSet
  let arm := s.col.blkArm && !inReset s 0x20C01
  let blk := if arm then 1 else if s.col.blkN = 0 ∨ 16 ≤ s.col.blkN then 0 else s.col.blkN + 1
  let l1 := if arm then l else s.col.blkL1
  let lost := nsum ((List.range 9).map (fun k => if inReset s (0x10200 + k) then 2 ^ k else 0))
  let s1 := aryMod (fun a => { a with
    lastCap := some (l, a.epoch, tl), capSet := set
    reads := a.reads ++ [⟨l, a.epoch, tl, 0, s.pip.linTb, blk, l1, false⟩]
    flight := (⟨l, a.epoch, tl, set, rnat s (Reg.ARY_TX_PW + 4 * a.tb)⟩ :: a.flight).take 32
    epochs := a.epochs.map (fun x => if x.e = a.epoch ∧ x.applied then { x with lastLine := some l } else x) }) s
  let s2 := { s1 with
    col := { s1.col with
      blkArm := s.col.blkArm && !arm
      blkN := if blk = 0 then s1.col.blkN else blk
      blkL1 := l1
      tags := (⟨l, s.ary.epoch, false, settle, blk != 0, set, lost, defectColumns s, 0, rfld s Reg.MGT_SHED_STATUS 11 8⟩ :: s1.col.tags).take 4096 }
    mgt := { s1.mgt with captured := s1.mgt.captured + 1 } }
  pipMod (fun p => { p with first := some (p.first.getD l) }) (strobesAtLine false s2)

/-- LINE_START (R50-R53): at T_L of the oldest boundary whose start has not come, the line is judged and captured or marked GAP.
Before capture begins (R462) no line is captured and none is a miss. -/
def lineStart (s : State) : State :=
  match s.tbs.due with
  | [] => s
  | d :: _ =>
    let tl := d.tCross + lsDelay s
    if !works s then tbsMod (fun b => { b with due := b.due.drop 1 }) s
    else if !s.mgt.capturing then lineEntry d tl true s
    else if lineBlocked s then gapLine d.l none (lineEntry d tl true s)
    else
      match lineCause s d tl with
      | some c => gapLine d.l (some c) (lineEntry d tl true s)
      | none => captureLine d.l tl (lineEntry d tl false s)

/-- STANDSTILL_DECLARED (R58, R59, R182): 100 ms without a boundary. -/
def standstillDeclared (s : State) : State :=
  let s1 := declareStandstill s
  if s.tbs.inService && !s.tbs.standstill then standstillFlags (if images s then formatterFlush s1 else s1) else s

/-! ### Epoch (R98, R99, R130, R134, R301) -/

/-- EPOCH_APPLIED (R99): the set comes into force with the companion values, column amplifier gains (0x218) and idle slices
(0x225) that belong to it, and the planner re-checks R34. -/
def epochApplied (s : State) : State :=
  let s1 := applyEpoch s
  if s.ary.pend.isSome && s1.ary.pend.isNone then
    let s2 := auxApply s1
    let s3 := raiseIf (s.ary.set.cag != s1.ary.set.cag) 0x218 0x20C01 [] 0 0 s2
    planRecheck (idleChange s s3)
  else s1

/-- A commit that was accepted takes the staged companion values with it (R301). -/
def withAux (before after : State) : State :=
  match after.ary.pend with
  | some p => if before.ary.pend.isNone then auxCommit p.epoch after else after
  | none => after

/-- COMMIT (R96). -/
def commitStaged (s : State) : State := withAux s (commit (stagedCheck s) s)

/-- COMMIT_ASAP (R96). -/
def commitStagedAsap (s : State) : State := withAux s (commitAsap (stagedCheck s) s)

/-- CANCEL (R98): a commit that is withdrawn takes its companion values with it. -/
def cancelStaged (s : State) : State :=
  let s1 := cancel s
  if s.ary.pend.isSome && s1.ary.pend.isNone then auxUncommit s1 else s1

/-! ### Temperature band (R83, R111, R133, R144, R301, R350, R426) -/

/-- TB_APPLY (R426): the band that a round decided takes effect, except during column calibration. `foms` are the figures of
merit that the presets of the new band give on the shadow paths, by link (R350). Column control in reset holds its settings, and
what switches with them, until it resumes (R111, R523); in CALM only housekeeping and the planner follow the band (R430). Log entry
258. -/
def tbApply (foms : List Nat) (s : State) : State :=
  match s.thm.tbNext with
  | none => s
  | some b =>
    if !domainRuns s 10 || !s.mgt.stepsDone.contains 5 then s
    else if !works s then
      planRecheck (raise0 0xA06 0xA0200 [] (thmMod (fun t => { t with tb := b, tbNext := none }) s))
    else
      let s1 := raise0 0xA06 0xA0200 [] (thmMod (fun t => { t with tb := b, tbNext := none }) s)
      let s2 := if inReset s 0x20C01 then s1 else auxTbChange b (columnBand b s1)
      planRecheck (linkBandChange b foms s2)

/-! ### Band transfer (R82, R102) -/

/-- A pulse readback of band `k` differs from its schedule (R102): 0x107 for the row drivers, 0x109 for the transfer pulse, and the
AUTO_RECOVER reset of the band's row drivers. -/
def rowDrvFault (code k l : Nat) (s : State) : State :=
  autoRecover (0x10200 + k) 2 (raise code (0x10200 + k) [] 2 (coSector 15 k l)
    (aryMod (fun a => { a with rowDrvBad := if a.rowDrvBad.contains k then a.rowDrvBad else k :: a.rowDrvBad }) s))

/-- BAND_TRANSFER (R82, R83, R102): the bands of slot `i` transfer; `rowBad` and `pulseBad` have a bit for each band whose
row-driver or transfer pulse readback is wrong. -/
def bandTransfer (i rowBad pulseBad : Nat) (s : State) : State :=
  match lineEnding s i with
  | none => s
  | some x =>
    if !images s then s
    else
      (slotBands x i s).foldl (fun s k =>
        if bit rowBad k then rowDrvFault 0x107 k x.l s else if bit pulseBad k then rowDrvFault 0x109 k x.l s else s)
        (transferBands x i s)

/-! ### Conversion and registration (R84, R108, R141, R165) -/

/-- CONVERSION (R108): one conversion slot of the sequence in progress, delivered to the sector units, to ROW-RAW and to the
snapshot frame; the GAP lines that waited for the end of the sequence follow it (R141). A column whose converter changed is
marked to the first offset conversion after the change (R143). -/
def conversion (codes : Codes) (s : State) : State :=
  if !images s || inReset s 0x10300 then s
  else
    match colConvert codes s with
    | none => s
    | some (d, last, s1) =>
      if d.seq.snap then keepRaw d last s1
      else
        let s2 := cpPollAll (gapsPass (sectorsIn d last (keepRaw d last s1)))
        if d.row.isNone then pipMod (fun p => { p with swapped := [] }) s2 else s2

/-- Sector `n` draws its segment of registered line `l` (R165-R168): the first sector to begin the line opens it and decides the
join of its companion bands (R292); when the last one has drawn it, the tracker and the output formatter take it (R156, R181),
and lane sets that wait for a drawn line take units (R340). -/
def drawLine (n : Nat) (force : Bool) (l : Nat) (s : State) : State :=
  let o : RegPart × State :=
    match s.pip.parts.find? (fun q => q.line.l == l) with
    | some q => (q, s)
    | none => let j := companionJoin (freshLine l s) s; (⟨j.1, [], List.replicate 10 0, List.replicate 9 0, List.replicate 9 0⟩, j.2)
  let q := drawSeg n force o.1 o.2
  let s1 := segDrawn n l (keepBufs n l o.2)
  let rest := s1.pip.parts.filter (fun x => x.line.l != l)
  if (List.range 12).all (fun i => q.done.contains i) then
    let w := wholeLine q (pipMod (fun p => { p with parts := rest }) s1)
    setsAdmit (lineDrawn l (holdLine w.1 (bgUpdate w.1 w.2)))
  else pipMod (fun p => { p with parts := rest ++ [q] }) s1

/-- REG of sector `n` draws, in ascending order, the registered lines that the sector has completed, while its output buffer has
room (R165, R169); more than one raises 0x413. Then the sector unit goes on (R141), and epochs retire (R101). -/
def drawDue (n : Nat) (force : Bool) (s : State) : State :=
  let ls := (secOf s n).due
  let s1 := raiseIf (decide (1 < ls.length) && (force || regRoom s n)) 0x413 (pipFid n 7) [] 2 (coSector n 15 (ls.headD 0)) s
  cpPollAll (epochsRetire (secPump n (ls.foldl (fun s l => if force || regRoom s n then drawLine n force l s else s) s1)))

/-- REG of sector `n` draws what the sector has completed (R141, R165, R166), once COMP has written the segments that wait; with
the band store control in reset its traffic stalls (R523). -/
def sectorDraw (n : Nat) (s : State) : State :=
  if 12 ≤ n ∨ !images s ∨ inReset s 0x40C00 ∨ (secOf s n).due.isEmpty then s
  else drawDue n false ((secOf s n).wq.foldl (fun s _ => compWrite n s) s)

/-- REGISTRATION_DRAW (R165): each sector draws what it has completed; one that is late keeps no other sector waiting (R171). -/
def registrationDraw (s : State) : State := (List.range 12).foldl (fun s n => sectorDraw n s) s

/-- Write every segment that waits in sector `n` (R162, R171); the gust tap takes each as it is written and the checkpoints follow
it (R247, R249). -/
def secWriteAll (n : Nat) (s : State) : State :=
  (secOf s n).wq.foldl (fun s g =>
    cpPollAll (gustTap n g (writeSlot n g (setSec n { secOf s n with wq := (secOf s n).wq.drop 1 } s)))) s

/-- Sector `n` is late with capture line `l` (R171): the miss is counted, what is left of the line is discarded, and the band
lines it closed are written INVALID. -/
def sectorLate (n l : Nat) (s : State) : State :=
  secWriteAll n (secDiscard n l true (rsat (dlMiss 1 (pipFid n 7) [n, l] 2 (coSector n 15 l) s) (Reg.PIP_SEC_DROP + 16 * n) 15 0 1))

/-- DL_SECTOR_CHECK (R171): at the boundary of L + 4, sector `n` judges line L = L_now − 4. A line that is not finished is a
miss: its rest is discarded, the band lines it closed are written INVALID, and REG draws at once what it completes, INVALID in
the sector. While the band store control is in reset the line is discarded too, but nothing is written and no miss is counted
(R68, R523). -/
def sectorCheck (n : Nat) (s : State) : State :=
  let l := (s.tbs.l + 2 ^ 32 - 4) % 2 ^ 32
  if 12 ≤ n ∨ !images s ∨ secFinished s n l ∨ secOff s n then s
  else if inReset s 0x40C00 then cpPollAll (secDiscard n l false s)
  else drawDue n true (sectorLate n l s)

/-! ### Timebase packets (R62, R65) -/

/-- A delivered packet is an announcement. -/
def isAnnounce : XwMsg → Bool
  | .announce _ _ _ _ _ _ => true
  | _ => false

/-- A delivered packet is a broadcast or a beacon. -/
def isBroadcast : XwMsg → Bool
  | .bcast _ _ _ _ _ _ _ _ _ _ _ => true
  | .beacon _ _ _ _ _ => true
  | _ => false

/-- BROADCAST_RECEIVED (R62): the oldest broadcast or beacon delivered by a link. -/
def takeBroadcastIn (s : State) : State :=
  match takeIn (fun _ m => isBroadcast m) s with
  | none => s
  | some (x, s1) => broadcastReceived x.1 x.2 s1

/-- ANNOUNCE_RECEIVED (R65): the oldest announcement delivered by a link. -/
def takeAnnounceIn (s : State) : State :=
  match takeIn (fun _ m => isAnnounce m) s with
  | none => s
  | some (x, s1) => announceTaken x.1 x.2 s1

/-! ### Idle time -/

/-- What one 5 ns cycle without a command does (R40, R47, R63, R355): T advances, P under COAST, and the dividers of the pin
engines run. -/
def idleCycle (s : State) : State := dividers (coastCycle (timeCycle s))

end Sys2Proof.Machine
end

