-- ==== Sys2Proof/Machine/Flags.lean ====
section
/-! DEFINITION. The summary flags and lines of the device: FAULT, nATTN, the attention byte, and the summary and status
registers of MGT that are formed from state (R39, R451, R461, R471, R488, R500, R503, R504, R527, R538). -/

namespace Sys2Proof.Machine

/-- FAULT is driven (R504): a follower without a master (R65), a missed housekeeping round (R437), a THM fault (R427), SAFE
(R455), a function held in reset (R456, R522), a trip comparator that failed its test (R436), or a pending source with FAULT_EN.
-/
def faultDriven (s : State) : Bool :=
  alive s &&
  (s.grp.noMaster || s.thm.missed || s.thm.fault || s.mgt.state == .safe || !s.rst.held.isEmpty || s.thm.cmpTest != 0 ||
    s.evt.src.any (fun p => p.2.pend && bit (evtCfg s p.1) 30))

/-- The level of the FAULT pin (R555): it reads as asserted also while the device is held in reset and before start-up step 2. -/
def faultPin (s : State) : Bool := !alive s || (s.mgt.state == .boot && s.mgt.step == 1) || faultDriven s

/-- nATTN is driven low (R503). -/
def nattnLow (s : State) : Bool := alive s && devAttn s s.evt.src

/-- A privileged source is pending (R503). -/
def privPending (s : State) : Bool := s.evt.src.any (fun p => p.2.pend && bit (evtCfg s p.1) 29)

/-- Domains whose attention summary is set (R503). -/
def attnDomains (s : State) : List Nat := ((List.range 11).map (· + 1)).filter (fun d => domAttn s s.evt.src d)

/-- The attention byte (R488). -/
def attnByte (s : State) : Nat :=
  packMsb [((attnDomains s).headD 0, 4), (b2n (decide (1 < (attnDomains s).length)), 1), (b2n (faultDriven s), 1),
    (b2n (privPending s), 1), (1, 1)]

/-- PEC is in force on the management bus (R482). -/
def pecOn (s : State) : Bool := s.mb.pecStrap || rbit s Reg.MGT_MB_CFG 31

/-- Bits d of a summary over the domains 1 to 11 (R538). -/
def domBits (f : Nat → Bool) : Nat := nsum ((List.range 11).map (fun i => if f (i + 1) then 2 ^ (i + 1) else 0))

/-- STEP of MGT_STATE (R471). -/
def shownStep (s : State) : Nat :=
  match s.mgt.state with
  | .boot | .starting | .ready => s.mgt.step
  | _ => 0

/-- MGT registers that show state (R39, R451, R471, R500, R527, R538). -/
def viewMgt (s : State) (a : Nat) : Option Nat :=
  if a = Reg.MGT_ID_PART then some (0x92440100 + Config.variant.toNat)
  else if a = Reg.MGT_ID_STEP then some (Config.stepping.toNat * 65536 + 1)
  else if a = Reg.MGT_ID_DEV_LO then some (Config.deviceId.toNat % 2 ^ 32)
  else if a = Reg.MGT_ID_DEV_HI then some (Config.deviceId.toNat / 2 ^ 32)
  else if a = Reg.MGT_SUM then
    some (packMsb [(stateNum s.mgt.state, 4), (0, 12), (b2n (faultDriven s), 1), (b2n (devAttn s s.evt.src), 1),
      (b2n (privPending s), 1), (0, 13)] + domBits (fun d => domAttn s s.evt.src d))
  else if a = Reg.MGT_SUM_PRIV then some (domBits (fun d => pendWith s d 29))
  else if a = Reg.MGT_SUM_FAULT then
    some (packMsb [(b2n (faultDriven s), 1), (b2n (s.mgt.state == .safe), 1), (b2n (!s.rst.held.isEmpty), 1),
      (b2n s.thm.fault, 1), (b2n (s.thm.cmpTest != 0), 1), (0, 27)] + domBits (fun d => pendWith s d 30))
  else if a = Reg.MGT_BUDGET_ROW then
    some (if rnat s a = 0 then 0 else s.ary.set.nRows * 65536 + rfld s a 15 0)
  else if a = Reg.MGT_STATE then
    some (packMsb [(stateNum s.mgt.state, 4), (shownStep s, 4), (s.mgt.slot, 1), (b2n s.mgt.fallback, 1), (s.mgt.keySlot, 2), (0, 20)])
  else if a = Reg.MGT_OTP_STATUS then
    some (packMsb [(0, 9), (rbTotal s, 7), (0, 4), (revokedNow s, 4), (0, 4),
      (nsum ((List.range 4).map (fun k => b2n (keySlotDigest k).isSome * 2 ^ k)), 4)])
  else if Reg.MGT_ATT_DATA ≤ a ∧ a < Reg.MGT_ATT_DATA + 16 then some (attWord s ((a - Reg.MGT_ATT_DATA) / 4))
  else if a = Reg.MGT_MB_STATUS then
    some (packMsb [(s.mb.strap, 2), (b2n s.mb.pecStrap, 1), (b2n (pecOn s), 1), (b2n s.mb.lull, 1), (b2n s.evt.ibrDue, 1),
      (s.mb.ibr, 2), (0, 16), (attnByte s, 8)])
  else if a = Reg.MGT_RST_STATUS then
    some (packMsb [(s.rst.result, 4), (0, 5), ((s.rst.runs.filter (fun r => r.phase != .queued)).length, 3), (s.rst.reqFid, 20)])
  else if Reg.MGT_RST_HELD ≤ a ∧ a < Reg.MGT_RST_HELD + 16 then
    some (match s.rst.held[(a - Reg.MGT_RST_HELD) / 4]? with | some f => 2 ^ 31 + f | none => 0)
  else viewRec s a

end Sys2Proof.Machine
end

