-- ==== Sys2Proof/Machine/Registers.lean ====
section
/-! DEFINITION. Access to registers by the host (17_address_map.md R528-R536, with R17, R480, R481, R505, R506): reads with their
latches and clears, and writes by access type with the actions of the command registers. -/

namespace Sys2Proof.Machine

/-! ### Views -/

/-- The value of the register at `a` (R528-R530, R536). Unassigned addresses and WO registers read 0. -/
def viewReg (s : State) (a : Nat) : Nat :=
  match findEvt a with
  | some (d, r) => viewEvt s d r % 2 ^ 32
  | none =>
    let v := match a / 0x100000 with
      | 0 => viewMgt s a
      | 1 => viewAry s a
      | 2 => viewCol s a
      | 3 => viewTbs s a
      | 4 =>
        if Reg.PIP_PMEM_DATA ≤ a ∧ a < Reg.PIP_PMEM_DATA + 16 then some (pmemWord s ((a - Reg.PIP_PMEM_DATA) / 4))
        else (viewPip s a).or (viewFmt s a)
      | 5 =>
        if Reg.AUX_TMEM_DATA ≤ a ∧ a < Reg.AUX_TMEM_DATA + 16 then some (auxTmemWord s ((a - Reg.AUX_TMEM_DATA) / 4))
        else viewAux s a
      | 6 => viewVdt s a
      | 7 => (viewLanes s a).or (viewLink s a)
      | 8 =>
        if a = Reg.PEN_FIFO_OUT then some (fifoOutRead s).1
        else if a = Reg.PEN_PMEM_DATA then some (pmemRead s).1
        else viewPen s a
      | 9 => viewNrg s a
      | 10 => viewThm s a
      | 11 => ((viewLanes s a).or (viewLink s a)).or (viewMgt s a)
      | _ => none
    (if assigned a then v.getD (rnat s a) else 0) % 2 ^ 32

/-! ### Latched groups (R17, R533) -/

/-- Consecutive registers from `a`. -/
def regRun (a n : Nat) : List Nat := (List.range n).map (fun i => a + 4 * i)

/-- The latched groups, the lead first (R17, R71, R409, R533). -/
def latchGroups : List (List Nat) :=
  [[Reg.TBS_P_LO, Reg.TBS_P_HI, Reg.TBS_L, Reg.TBS_VEL, Reg.TBS_T_LO, Reg.TBS_T_HI, Reg.TBS_SECONDS],
   regRun Reg.TBS_HIST 4, regRun Reg.PIP_PMEM_DATA 4, regRun Reg.AUX_TMEM_DATA 4, regRun Reg.LNK_ANN 4, regRun Reg.MGT_ATT_DATA 4,
   regRun Reg.VDT_OBJ_REC 4, regRun (Reg.VDT_OBJ_REC + 16) 4, regRun (Reg.VDT_OBJ_REC + 32) 4,
   regRun Reg.NRG_LEDGER 8, regRun Reg.NRG_E_TOTAL_LO 2, regRun Reg.MGT_ID_DEV_LO 2] ++
  (List.range 4).map (fun n => regRun (Reg.LNK_SET_SWN_LO + 0x80 * n) 2) ++
  (List.range 4).map (fun n => regRun (Reg.LNK_XW_PEER_LO + 0x40 * n) 2)

/-- The group that `a` leads. -/
def groupOfLead (a : Nat) : Option (List Nat) := latchGroups.find? (fun g => g.head? == some a)

/-- `a` is a latched register: a member of a group that another register leads. -/
def isLatched (a : Nat) : Bool := latchGroups.any (fun g => g.tail.contains a)

/-- What a latched register returns before its lead has been read: its reset value, which is OTP for MGT_ID_DEV_HI. -/
def latchReset (s : State) (a : Nat) : Nat := if a = Reg.MGT_ID_DEV_HI then viewReg s a else (resetOf a).toNat

/-- A read of the register at `a` takes its value into the transmit latch (R17, R481, R514): a lead latches its group, and
MGT_REC_WIN[0] latches the next record. -/
def readLatch (a : Nat) (s : State) : Nat × State :=
  if a = Reg.MGT_REC_WIN then
    let s1 := recordLatch s
    (viewReg s1 a, s1)
  else if isLatched a then (((mget s.latched a).map BitVec.toNat).getD (latchReset s a), s)
  else
    match groupOfLead a with
    | some g => (viewReg s a, { s with latched := g.tail.foldl (fun m b => mput m b (BitVec.ofNat 32 (viewReg s b))) s.latched })
    | none => (viewReg s a, s)

/-- The RC fields of the register at `a`. -/
def rcFields (a : Nat) : List Fld :=
  match findReg a with
  | some (d, _) => d.flds.filter (fun f => f.acc == .rc)
  | none => []

/-- The read of the register at `a` has been sent to its last byte (R481, R530): its RC fields return to their reset values, a FIFO
word is removed, and the address of the program memory advances. -/
def readDone (a : Nat) (s : State) : State :=
  if a = Reg.PEN_FIFO_OUT then (fifoOutRead s).2
  else if a = Reg.PEN_PMEM_DATA then (pmemRead s).2
  else if a = Reg.LNK_BUF then lnkMod (fun k => { k with maxFill := 0 }) s
  else if a = Reg.MGT_REC_STATUS then rcdMod (fun r => { r with corr := 0 }) s
  else
    let s1 := (rcFields a).foldl (fun s f => rfset s a f.hi f.lo (bits (resetOf a).toNat f.hi f.lo)) s
    if Reg.LNK_XW_FOM ≤ a ∧ a < Reg.LNK_XW_FOM + 0x100 ∧ (a - Reg.LNK_XW_FOM) % 0x40 = 0 then
      xwMod ((a - Reg.LNK_XW_FOM) / 0x40) (fun x => { x with low := none }) s1
    else s1

/-- A whole read. -/
def readReg (a : Nat) (s : State) : Nat × State :=
  let r := readLatch a s
  (r.1, readDone a r.2)

/-! ### Halted functions (R532, R383) -/

/-- A window of engine `e` contains pin `p` (R383). -/
def inWindow (s : State) (e p : Nat) : Bool :=
  (decide (outBase s e ≤ p) && decide (p < outBase s e + outN s e)) || (decide (inBase s e ≤ p) && decide (p < inBase s e + inN s e))

/-- Every engine with pin `p` in a window is halted. -/
def pinHalted (s : State) (p : Nat) : Bool := (List.range 16).all (fun e => !(inWindow s e p) || engHalted s e)

/-- The function that owns the RWH register at `a` is halted (R532). -/
def ownerHalted (a hi : Nat) (s : State) : Bool :=
  if 0x800100 ≤ a ∧ a < 0x800300 then engHalted s ((a - 0x800100) / 0x20)
  else if Reg.PEN_PIN_CFG ≤ a ∧ a < Reg.PEN_PIN_CFG + 320 then pinHalted s ((a - Reg.PEN_PIN_CFG) / 4)
  else if Reg.PEN_MON ≤ a ∧ a < Reg.PEN_MON + 16 then
    (List.range 80).all (fun p => monProfile s p != some a || pinHalted s p)
  else !s.mgt.loadedFids.contains (fieldFid a hi) || s.mgt.state == .safe || s.rst.held.contains (fieldFid a hi)

/-! ### Writes (R480, R505, R529-R531) -/

/-- A write from the bus that is ignored: event 0xB0D and its count (R480, R500, R529-R531). -/
def ignoredWrite (s : State) : State := raise0 0xB0D 0xB0100 [] (rsat s (Reg.MGT_MB_COUNT + 12) 15 0 1)

/-- Clear the counters of an xxx_CLEAR register (R533 and the register tables). -/
def clearCounters (a v : Nat) (s : State) : State :=
  if a = Reg.PIP_CLEAR then pipClear v s
  else if a = Reg.PIP_OUT_CLEAR then outClear v s
  else if a = Reg.AUX_CLEAR then auxClear v s
  else if a = Reg.VDT_CLEAR then vdtClear v s
  else if a = Reg.VDT_GUST_CLEAR then gustClear v s
  else if a = Reg.LNK_CLEAR then lnkClear v s
  else if a = Reg.PEN_CLEAR then penClear v s
  else if a = Reg.THM_CLEAR then thmClear v s
  else if a = Reg.MGT_REC_CLEAR then recClear v s
  else if a = Reg.MGT_MB_CLEAR then
    (if bit v 0 then rclear s (regRun Reg.MGT_MB_COUNT 4) else s)
  else s

/-- The action of a command register (R530: WO). A wrong key of MGT_NV_CMD sets RESULT 3 (R458); the others ignore it. -/
def commandWrite (a v : Nat) (s : State) : State :=
  if a = Reg.ARY_SNAP_CMD then (if bit v 0 then snapGo s else s)
  else if a = Reg.ARY_APPLY then
    match bits v 1 0 with
    | 1 => commitStaged s
    | 2 => commitStagedAsap s
    | 3 => cancelStaged s
    | _ => s
  else if a = Reg.TBS_DL_CLEAR then dlClear v s
  else if a = Reg.LNK_MOVE_CMD then laneMove (bits v 4 0) s
  else if a = Reg.PEN_START then penStart (bits v 15 0) s
  else if a = Reg.PEN_HALT then penHalt (bits v 15 0) s
  else if a = Reg.PEN_FIFO_IN then fifoInWrite v s
  else if a = Reg.THM_RESTART then thmRestart (bits v 7 0) s
  else if a = Reg.MGT_BOOT_CMD then
    if bits v 31 24 ≠ 0x5A then s
    else match bits v 1 0 with
      | 1 => bootRestart s
      | 2 => bootVerify s
      | 3 => bootCommit s
      | _ => s
  else if a = Reg.MGT_NV_CMD then
    if bits v 31 24 ≠ 0xA5 then nvResult 3 s
    else match bits v 1 0 with
      | 1 => nvRead s
      | 2 => nvProgram s
      | 3 => nvErase s
      | _ => s
  else if a = Reg.MGT_ATT_CMD then (if bit v 0 then attGo s else s)
  else if a = Reg.MGT_REC_SEEK then
    match bits v 1 0 with
    | 1 => seekOldest s
    | 2 => seekNewest s
    | _ => s
  else if a = Reg.MGT_RST_CMD then
    if bits v 31 24 = 0xB9 then resetArm (bits v 19 0) s
    else if bits v 31 24 = 0x9B then resetFire (bits v 19 0) s
    else s
  else clearCounters a v s

/-- A write of an event register (R505, R506): pending bits, clears, and EVT_CFG, where the PRIV bit that would make a 33rd
privileged source stays 0. A rise of the attention summary asks for an in-band request (R489). -/
def eventWrite (d : Nat) (r : EvtReg) (a v : Nat) (s : State) : State :=
  match r with
  | .pend j => evtPendClear d j v s
  | .clear =>
    let s1 := if bit v 0 then evtClearPending d s else s
    if bit v 1 then evtClearStats d s1 else s1
  | .cfg _ =>
    if wordRefused s a v then ignoredWrite s
    else
      let full := bit v 29 && !rbit s a 29 && decide (32 ≤ privCount s)
      let w := packMsb [(bits v 31 30, 2), (b2n (bit v 29 && !full), 1), (bits v 28 27, 2), (0, 11), (bits v 15 0, 16)]
      evtConfigured s (rset s a w)
  | _ => ignoredWrite s

/-- A field keeps its value under a write (R530). -/
def fldKept (a : Nat) (s : State) (f : Fld) : Bool :=
  match f.acc with
  | .rw | .w1c | .wo => false
  | .rwh => !ownerHalted a f.hi s
  | .rc => true

/-- Registers whose fields carry different access types, by base address, with their read-only fields (R530). A field that reads 0
and must be written 0 is none of them (R529). -/
def mixedRegs : List (Nat × List (Nat × Nat)) := [
  (Reg.TBS_SYNC_CFG, []), (Reg.TBS_XW_STATUS, [(31, 16), (15, 12), (7, 5), (3, 0)]),
  (Reg.PIP_SEC_STATUS, [(23, 16), (15, 8)]), (Reg.PIP_RAW_CFG, [(7, 0)]),
  (Reg.AUX_PORT_ALIGN, [(29, 16)]), (Reg.AUX_PORT_RING, [(15, 0)]),
  (Reg.VDT_PROG_CFG, [(15, 0)]), (Reg.VDT_OBJ_STATUS, [(28, 16)]), (Reg.VDT_QUEUE, [(10, 0)]),
  (Reg.VDT_SEG_STATUS, [(23, 16), (15, 0)]), (Reg.VDT_GUST_CFG, [(23, 16)]), (Reg.VDT_EJ_STATUS, [(29, 16)]),
  (Reg.LNK_BUF, [(15, 0)]), (Reg.LNK_XW_FOM, [(31, 24), (23, 16), (15, 8)]), (Reg.NRG_GRANT_WAIT, [(15, 0)]),
  (Reg.MGT_REC_STATUS, [(31, 18), (17, 17), (16, 16), (15, 10), (3, 0)])]

/-- The read-only fields of the register at `a` when its fields carry different access types (R530). -/
def mixedFields (a : Nat) : Option (List (Nat × Nat)) :=
  match findReg a with
  | some (d, _) => mget mixedRegs d.base
  | none => none

/-- What follows a register that has taken a new value: pins whose motion monitor depends on it (R374), an engine whose program
it names (R370), a write of the envelope
(R409), the signal bus (R365). -/
def afterWrite (a v : Nat) (s : State) : State :=
  if a = Reg.NRG_ENV then envelopeWrite v s
  else if a = Reg.PEN_SIG then signalBusWrite v s
  else if a = Reg.TBS_XW_STATUS then grpMod (fun g => { g with multiMaster := g.multiMaster && !bit v 4 }) s
  else if a = Reg.TBS_MOTION_CFG ∨ a = Reg.TBS_SRC_CFG ∨ (0x800100 ≤ a ∧ a < 0x800300) ∨
      (Reg.PEN_PIN_CFG ≤ a ∧ a < Reg.PEN_PIN_CFG + 320) then (if works s then refreshMotions (progWritten a s) else progWritten a s)
  else s

/-- A write of a register with stored fields (R530, R531): each field by its type; a refused value, or a register all of whose
fields keep their values, is ignored as a whole. Where fields carry different types, 0xB0D comes only when a field that keeps its
value was written with another. -/
def fieldsWrite (fs : List Fld) (a v : Nat) (s : State) : State :=
  let taken := fs.filter (fun f => !fldKept a s f)
  let kept := fs.filter (fldKept a s)
  let old := viewReg s a
  let ro := ((mixedFields a).getD []).map (fun p => (Fld.mk p.1 p.2 .rc 0 0))
  let differs := (kept ++ ro).any (fun f => bits v f.hi f.lo != bits old f.hi f.lo)
  if taken.isEmpty && (mixedFields a).isNone then ignoredWrite s
  else if taken.any (fldRefused v) || (!taken.isEmpty && crossRefused s a v) || (a == Reg.MGT_MB_CFG && groupBad v) ||
      (decide (Reg.PEN_MON ≤ a) && decide (a < Reg.PEN_MON + 16) && (bits v 31 20 == 0 || bits v 19 10 == 0 || bits v 9 0 == 0)) then ignoredWrite s
  else
    let s1 := taken.foldl (fun s f => if f.acc = .rw ∨ f.acc = .rwh then rfset s a f.hi f.lo (bits v f.hi f.lo) else s)
      (if a = Reg.MGT_REC_CFG then creditSettle s else s)
    let s2 := if a = Reg.NRG_ENV ∨ a = Reg.PEN_SIG then s else s1
    let s3 := if taken.isEmpty then s else afterWrite a v s2
    if (mixedFields a).isSome && differs then (if taken.isEmpty then ignoredWrite s3 else raise0 0xB0D 0xB0100 [] s3) else s3

/-- A host write of the register at `a` (R480, R529-R531). -/
def writeReg (a v : Nat) (s : State) : State :=
  match findEvt a with
  | some (d, r) => eventWrite d r a v s
  | none =>
    match findReg a with
    | none => ignoredWrite s
    | some (d, _) =>
      if a = Reg.PEN_PMEM_DATA then pmemWrite v s
      else if Reg.LNK_DT_TEST ≤ a ∧ a < Reg.LNK_DT_TEST + 0x300 ∧ (a - Reg.LNK_DT_TEST) % 0x20 = 0 then
        let lane := (a - Reg.LNK_DT_TEST) / 0x20
        if (laneRole s lane).1 % 2 = 1 then ignoredWrite s
        else if ownerHalted a 31 s then rset s a (v / 2 ^ 31 % 2 * 2 ^ 31)
        else prbsTest lane v s
      else if !d.flds.isEmpty && d.flds.all (fun f => f.acc == .wo) then
        (if d.flds.any (fldRefused v) then ignoredWrite s else commandWrite a v s)
      else fieldsWrite d.flds a v s

/-! ### A function reset and the latches (R17, R521) -/

/-- A latched register of function `f` that its reset has returned to its reset value gives that value until its lead is read again
(R17). -/
def dropLatches (f : Nat) (s : State) : State :=
  { s with latched := s.latched.filter (fun e => !(ownerFid e.1 == f && viewReg s e.1 == latchReset s e.1)) }

/-- RESET_QUIESCE with the latches of the function (R17, R521). -/
def quiesceReset (f : Nat) (s : State) : State :=
  if (runOf s f).any (fun r => r.phase == .fired) then dropLatches f (resetQuiesce f s) else s

end Sys2Proof.Machine
end

