-- ==== Sys2Proof/Machine/CmdArray.lean ====
section
/-! DEFINITION. Meanings of the commands of the array, exposure and commits (03_pixel_array_exposure.md). -/

namespace Sys2Proof.Machine

/-- EPOCH_FREEZE (R98). -/
def execEpochFreeze (s : State) : Host.Outcome State Fault Refusal := .next (epochFreeze s)

/-- EPOCH_APPLIED (R99). -/
def execEpochApplied (s : State) : Host.Outcome State Fault Refusal := .next (epochsRetire (epochApplied s))

/-- COMMIT (R96). -/
def execCommit (s : State) : Host.Outcome State Fault Refusal := .next (commitStaged s)

/-- COMMIT_ASAP (R96). -/
def execCommitAsap (s : State) : Host.Outcome State Fault Refusal := .next (commitStagedAsap s)

/-- CANCEL (R98). -/
def execCancel (s : State) : Host.Outcome State Fault Refusal := .next (cancelStaged s)

/-- SNAP_GO (R94). -/
def execSnapGo (s : State) : Host.Outcome State Fault Refusal := .next (snapGo s)

/-- SNAP_EXPOSURE_START (R94). -/
def execSnapExposureStart (s : State) : Host.Outcome State Fault Refusal := .next (snapExposure s)

/-- SNAP_TRANSFER (R94). -/
def execSnapTransfer (s : State) : Host.Outcome State Fault Refusal := .next (snapTransfer s)

/-- SNAP_DONE (R94). -/
def execSnapDone (s : State) : Host.Outcome State Fault Refusal := .next (snapOver s)

/-- SNAP_NO_GRANT (R94). -/
def execSnapNoGrant (s : State) : Host.Outcome State Fault Refusal := .next (snapWithdraw s)

/-- EXPOSURE_START (R82). -/
def execExposureStart (k : Nat) (c : Nat) (s : State) : Host.Outcome State Fault Refusal := .next (exposureStart k c s)

/-- SLOT_EDGE (R81). -/
def execSlotEdge (slot : Nat) (opens : Bool) (late : Nat) (s : State) : Host.Outcome State Fault Refusal := .next (slotEdge slot opens late s)

/-- BAND_TRANSFER (R82). -/
def execBandTransfer (slot : Nat) (rowBad : Nat) (pulseBad : Nat) (s : State) : Host.Outcome State Fault Refusal := .next (bandTransfer slot rowBad pulseBad s)

end Sys2Proof.Machine
end

