-- ==== Sys2Proof/Machine/MgmtBus.lean ====
section
/-! DEFINITION. The management bus (15_management_bus.md R472-R493): transactions as the target sees them whole, the register
pointer, the check byte, in-band requests and Lull. A transaction gives the 7-bit address, the bytes that the controller sent after the
command code, and how many bytes it clocked out of the target. An address of 128 more says that SCL stays low after these bytes, with
no STOP (R486, log entry 324). -/

namespace Sys2Proof.Machine

/-- Apply `f` to the target. -/
def mbMod (f : Mb → Mb) (s : State) : State := { s with mb := f s.mb }

/-- The target's own address (R473). -/
def ownAddr (s : State) : Nat := 0x5C + s.mb.strap

/-- Address `a` is the group address (R474). -/
def groupHit (s : State) (a : Nat) : Bool :=
  let g := rfld s Reg.MGT_MB_CFG 29 23
  g != 0 && ((a ^^^ g) &&& (127 ^^^ rfld s Reg.MGT_MB_CFG 22 16)) == 0

/-- MB answers (R472, R487): from the end of start-up step 2, and in SAFE, CALM and TRIP_LATCH, unless its function is in reset. -/
def mbAnswers (s : State) : Bool :=
  alive s && !inReset s 0xB0100 &&
  (decide (3 ≤ s.mgt.step) || s.mgt.state == .safe || s.mgt.state == .calm || s.mgt.state == .tripLatch)

/-- Add 1 to the half `[hi:lo]` of MGT_MB_COUNT[i], saturating (R500). -/
def mbCount (i hi lo : Nat) (s : State) : State := rsat s (Reg.MGT_MB_COUNT + 4 * i) hi lo 1

/-- What the target shows on the bus: whether it acknowledged every byte, and the bytes it drove. -/
def mbShow (ack : Bool) (resp : List Byte) (s : State) : State := mbMod (fun b => { b with ack := ack, resp := resp }) s

/-- The planner asks for Lull (R491). -/
def lullAsked (s : State) : Bool := s.nrg.planShed != 0 || s.nrg.guardShed != 0 || s.mgt.state == .calm

/-- Lull ends, counted (R492). -/
def lullEnd (s : State) : State := mbCount 3 31 16 (mbMod (fun b => { b with lull := false }) s)

/-- A transaction addresses `addr`, `rd` saying that it reads (R473-R475, R492, R498). `f` is what it does; it is told whether
the address is the group address. In Lull the address byte is answered with NACK and wakes the target. A START ends what hung
before it. -/
def mbAddressed (addr : Nat) (f : Bool → State → State) (s : State) : State :=
  let a := addr % 128
  let own := a == ownAddr s
  if !mbAnswers s || !(own || groupHit s a) then s
  else
    let s1 := mbMod (fun b => { b with lastAddr := s.t, hung := false }) s
    if s.mb.lull then mbShow false [] (lullEnd s1)
    else f (!own) (mbMod (fun b => { b with hung := decide (128 ≤ addr) }) s1)

/-- A transaction completed (R500), unless it hangs. -/
def mbDone (ack : Bool) (resp : List Byte) (s : State) : State :=
  mbShow ack resp (if s.mb.hung then s else rwrap s Reg.MGT_MB_COUNT 31 16 1)

/-- A command code or COUNT is refused (R478). -/
def mbRefuse (s : State) : State := mbShow false [] (raise0 0xB0D 0xB0100 [] (mbCount 1 31 16 s))

/-- The check byte fails (R483); of a transaction that hangs it may still come. -/
def pecFail (s : State) : State :=
  if s.mb.hung then mbShow true [] s else mbShow false [] (raise0 0xB0A 0xB0100 [] (mbCount 0 15 0 s))

/-- The address byte on the bus. -/
def addrByte (addr : Nat) (rd : Bool) : Byte := BitVec.ofNat 8 (2 * addr + b2n rd)

/-- The pointer after a register (R479). -/
def nextPtr (p : Nat) : Nat := p / 4096 * 4096 + (p + 4) % 4096

/-- Bytes the target drives when `n` are clocked: `data`, then 0xFF (R478, R484). -/
def driven (n : Nat) (data : List Byte) : List Byte := (data ++ List.replicate (n - data.length) 0xFF#8).take n

/-! ### Fixed reads (R476, R477) -/

/-- A fixed read of code `cmd` with its data, `n` bytes clocked. A read by the group address is refused at its address byte
(R475). -/
def fixedRead (addr cmd n : Nat) (data : State → List Byte) (s : State) : State :=
  mbAddressed addr (fun grp s =>
    if grp then mbShow false [] s
    else
      let d := data s
      let all := if pecOn s then d ++ [pec ([addrByte addr false, BitVec.ofNat 8 cmd, addrByte addr true] ++ d)] else d
      mbDone true (driven n all) s) s

/-- GET_STATE (R477). -/
def getState (addr n : Nat) (s : State) : State := fixedRead addr 1 n (fun s => leBytes 4 (viewReg s Reg.MGT_STATE)) s

/-- GET_ATTN (R477, R488). -/
def getAttn (addr n : Nat) (s : State) : State := fixedRead addr 2 n (fun s => leBytes 1 (attnByte s)) s

/-- GET_ID (R451, R477). -/
def getId (addr n : Nat) (s : State) : State := fixedRead addr 3 n (fun _ => leBytes 8 Config.deviceId.toNat) s

/-- GET_PTR (R477). -/
def getPtr (addr n : Nat) (s : State) : State := fixedRead addr 4 n (fun s => leBytes 3 s.mb.ptr) s

/-- GET_BUS (R477). -/
def getBus (addr n : Nat) (s : State) : State := fixedRead addr 5 n (fun s => leBytes 4 (viewReg s Reg.MGT_MB_STATUS)) s

/-! ### Writes (R479, R480, R483) -/

/-- Data bytes as whole registers from the pointer: (address, value), and the pointer after them. Fewer than four bytes are
left. -/
def wordsFrom : Nat → Nat → List Byte → List (Nat × Nat) × Nat
  | 0, p, _ => ([], p)
  | f + 1, p, b0 :: b1 :: b2 :: b3 :: rest =>
    let r := wordsFrom f (nextPtr p) rest
    ((p, ofLe [b0, b1, b2, b3]) :: r.1, r.2)
  | _, p, _ => ([], p)

/-- A write of this register takes effect at the STOP of its transaction (R480, R487). -/
def atStop (a : Nat) : Bool := a == Reg.MGT_MB_CFG || a == Reg.MGT_RST_CMD

/-- The register writes of a transaction, with the pointer moved (R479, R480); those that wait for a STOP are discarded where it
hangs (R486). -/
def busWrites (p : Nat) (data : List Byte) (s : State) : State :=
  let r := wordsFrom data.length p data
  let s1 := mbMod (fun b => { b with ptr := r.2 }) s
  let s2 := (r.1.filter (fun w => !atStop w.1)).foldl (fun s w => writeReg w.1 w.2 s) s1
  if s.mb.hung then s2 else (r.1.filter (fun w => atStop w.1)).foldl (fun s w => writeReg w.1 w.2 s) s2

/-- A write transaction: `head` are the bytes before its data in order, with the address byte, `p` the pointer it starts at,
`data` the bytes after them, the check byte last when PEC is enabled (R483). -/
def busWrite (head : List Byte) (p : Nat) (data : List Byte) (s : State) : State :=
  if !pecOn s then mbDone true [] (busWrites p data s)
  else if 66 ≤ data.length then mbShow false [] s
  else
    match data.getLast? with
    | none => pecFail s
    | some c =>
      if c = pec (head ++ data.dropLast) && !s.mb.hung then mbDone true [] (busWrites p data.dropLast s) else pecFail s

/-- COUNT of a block form is in its range (R477). -/
def countOk (c : Nat) : Bool := decide (4 ≤ c) && decide (c ≤ 252) && c % 4 == 0

/-- BLOCK_WRITE (R476, R477, R480, R483): COUNT, then `data` as the controller sent it. -/
def blockWrite (addr count : Nat) (data : List Byte) (s : State) : State :=
  mbAddressed addr (fun _ s =>
    if !countOk count then mbRefuse s
    else
      let head := [addrByte addr false, 0x40#8, BitVec.ofNat 8 count]
      if pecOn s then
        (if 64 < count ∧ 65 ≤ data.length then mbShow false [] s
         else if data.length ≤ count then pecFail s
         else busWrite head s.mb.ptr (data.take (count + 1)) s)
      else busWrite head s.mb.ptr (data.take count) s) s

/-! ### Reads of registers (R479, R481, R484) -/

/-- The bytes of registers from the pointer when `n` are clocked: a register is taken whole into the transmit latch; it is done,
and the pointer moves, when its last byte has been sent. -/
def busRead : Nat → Nat → State → List Byte × State
  | 0, _, s => ([], s)
  | f + 1, n, s =>
    if n = 0 then ([], s)
    else
      let r := readLatch s.mb.ptr s
      let bs := leBytes 4 r.1
      if n < 4 then (bs.take n, r.2)
      else
        let s1 := mbMod (fun b => { b with ptr := nextPtr b.ptr }) (readDone s.mb.ptr r.2)
        let t := busRead f (n - 4) s1
        (bs ++ t.1, t.2)

/-- Registers read from the pointer, `n` bytes clocked: as many as are clocked, or with PEC enabled one register and its check
byte. `head` are the bytes of the transaction before them. -/
def pointerRead (head : List Byte) (n : Nat) (s : State) : State :=
  if pecOn s then
    let r := busRead 1 (min n 4) s
    mbDone true (driven n (if n < 4 then r.1 else r.1 ++ [pec (head ++ r.1)])) r.2
  else
    let r := busRead n n s
    mbDone true r.1 r.2

/-- BLOCK_READ (R476, R477, R481, R484): COUNT is echoed, then COUNT data bytes and the check byte. -/
def blockRead (addr count n : Nat) (s : State) : State :=
  mbAddressed addr (fun grp s =>
    if !countOk count then mbRefuse s
    else if grp then mbShow false [] s
    else
      let c : Byte := BitVec.ofNat 8 count
      let r := busRead 64 (min (n - 1) count) s
      let d := c :: r.1
      let all := if pecOn s && decide (count < n) then
          d ++ [pec ([addrByte addr false, 0x41#8, c, addrByte addr true] ++ d)] else d
      mbDone true (driven n all) r.2) s

/-- SET_PTR (R476, R479): the pointer, then `data` written, or `n` bytes read after a repeated START when `n` is not 0. -/
def setPtr (addr ptr : Nat) (data : List Byte) (n : Nat) (s : State) : State :=
  mbAddressed addr (fun grp s =>
    let p := ptr % 2 ^ 24 / 4 * 4
    let head := [addrByte addr false, 0x80#8] ++ leBytes 3 ptr
    let load := mbMod (fun b => { b with ptr := p })
    if n = 0 then busWrite head p data s
    else if grp then mbShow false [] (if pecOn s then s else load s)
    else pointerRead (head ++ [addrByte addr true]) n (load s)) s

/-- CONTINUE (R476, R479): `data` written from the pointer, or `n` bytes read. -/
def continueAt (addr : Nat) (data : List Byte) (n : Nat) (s : State) : State :=
  mbAddressed addr (fun grp s =>
    let head := [addrByte addr false, 0x81#8]
    if n = 0 then busWrite head s.mb.ptr data s
    else if grp then mbShow false [] s
    else pointerRead (head ++ [addrByte addr true]) n s) s

/-- The code is one that R477 refuses, or its COUNT is out of range. -/
def codeRefused (code count : Nat) : Bool :=
  if code = 0x40 ∨ code = 0x41 then !countOk count
  else !((decide (1 ≤ code) && decide (code ≤ 5)) || code == 0x80 || code == 0x81)

/-- CMD_REFUSED (R478). -/
def cmdRefused (addr code count : Nat) (s : State) : State :=
  mbAddressed addr (fun _ s => if codeRefused code count then mbRefuse s else s) s

/-- MB_TIMEOUT (R486): the transaction that hangs is abandoned; what it has applied stays, and its other writes are discarded. -/
def mbTimeout (s : State) : State :=
  if mbAnswers s && s.mb.hung && !s.mb.lull then
    mbShow false [] (raise0 0xB0B 0xB0100 [] (mbCount 1 15 0 (mbMod (fun b => { b with hung := false }) s)))
  else s

/-! ### Host accesses with a row of their own (R17, R530, R533) -/

/-- LEAD_REGISTER_READ (R17): the value and the latch of the group that `a` leads. -/
def leadRead (a : Nat) (s : State) : State :=
  if (groupOfLead a).isSome ∨ a = Reg.MGT_REC_WIN then
    let r := readReg a s
    mbShow true (leBytes 4 r.1) r.2
  else s

/-- FIFO_OUT_READ (R363): a read of PEN_FIFO_OUT. -/
def fifoOutShown (s : State) : State :=
  let r := readReg Reg.PEN_FIFO_OUT s
  mbShow true (leBytes 4 r.1) r.2

/-- RC_REGISTER_READ (R530): the value, and its RC fields return to their reset values. -/
def rcRead (a : Nat) (s : State) : State :=
  if (rcFields a).isEmpty then s
  else
    let r := readReg a s
    mbShow true (leBytes 4 r.1) r.2

/-! ### In-band request (R489, R490) -/

/-- An in-band request may be made: one is due, requests are enabled, management is not in Lull, and no
transaction is open. -/
def ibrReady (s : State) : Bool := mbAnswers s && s.evt.ibrDue && rbit s Reg.MGT_MB_CFG 30 && !s.mb.lull && !s.mb.hung

/-- The request ends with outcome `r` in IBR (R500). -/
def ibrEnd (r : Nat) (s : State) : State :=
  { s with evt := { s.evt with ibrDue := false }, mb := { s.mb with ibr := r, ibrTries := 0, ibrActive := false } }

/-- IBR_START (R489): the sequence runs and completes: own address with R, attention byte, check byte. -/
def ibrStart (s : State) : State :=
  if ibrReady s then
    let a := addrByte (ownAddr s) true
    let b : Byte := BitVec.ofNat 8 (attnByte s)
    mbCount 2 31 16 (mbMod (fun m => { m with ibrSent := [a, b, pec [a, b]] }) (ibrEnd 1 s))
  else s

/-- The request goes unanswered (R490). -/
def ibrFail (s : State) : State := raise0 0xB0C 0xB0100 [] (mbCount 2 15 0 (ibrEnd 2 s))

/-- IBR_UNANSWERED (R490): no SCL within 100 µs, or no acknowledge. -/
def ibrUnanswered (s : State) : State := if ibrReady s then ibrFail s else s

/-- IBR_RETRY (R490): arbitration is lost; the device tries again, and after the third loss gives up. -/
def ibrRetry (s : State) : State :=
  if ibrReady s then
    if 2 ≤ s.mb.ibrTries then ibrFail s
    else mbMod (fun m => { m with ibr := 3, ibrTries := m.ibrTries + 1, ibrActive := true }) s
  else s

/-! ### Lull (R491, R492) -/

/-- LULL_ENTER (R491): LULL_IDLE ms without being addressed, while the planner asks for Lull. -/
def lullEnter (s : State) : State :=
  let idle := rfld s Reg.MGT_MB_CFG 15 0
  if mbAnswers s && idle != 0 && lullAsked s && !s.mb.lull && decide (s.mb.lastAddr + (idle * 200000 : Nat) ≤ s.t) then
    mbMod (fun m => { m with lull := true }) { s with evt := { s.evt with rise := false } }
  else s

/-- LULL_WAKE (R492): attention rose, or the planner withdrew; an address match wakes in `mbAddressed`, or here when
`addressed`. -/
def lullWake (addressed : Bool) (s : State) : State :=
  if s.mb.lull && mbAnswers s && (addressed || s.evt.rise || !lullAsked s) then
    (if addressed then mbShow false [] (lullEnd (mbMod (fun m => { m with lastAddr := s.t }) s)) else lullEnd s)
  else s

end Sys2Proof.Machine
end

