-- ==== Sys2Proof/Machine/CmdBoot.lean ====
section
/-! DEFINITION. Meanings of the commands of start-up, the slots, the flash and attestation (14_configuration_boot.md). -/

namespace Sys2Proof.Machine

/-- STARTUP_STEP_END (R460). -/
def execStartupStepEnd (n : Nat) (sfdp : Sfdp) (bad : Nat) (s : State) : Host.Outcome State Fault Refusal := .next (startupStepEnd n sfdp bad s)

/-- LANE_BRINGUP_BEGIN (R460). -/
def execLaneBringupBegin (s : State) : Host.Outcome State Fault Refusal := .next (laneBringupBegin s)

/-- CAPTURE_BEGIN (R462). -/
def execCaptureBegin (s : State) : Host.Outcome State Fault Refusal := .next (captureBegin s)

/-- WARMUP_END (R462). -/
def execWarmupEnd (s : State) : Host.Outcome State Fault Refusal := .next (warmupEnd s)

/-- BOOT_RESTART (R459). -/
def execBootRestart (s : State) : Host.Outcome State Fault Refusal := .next (bootRestart s)

/-- BOOT_VERIFY (R459). -/
def execBootVerify (s : State) : Host.Outcome State Fault Refusal := .next (bootVerify s)

/-- VERIFY_DONE (R459). -/
def execVerifyDone (readErr : Bool) (s : State) : Host.Outcome State Fault Refusal := .next (verifyDone readErr s)

/-- BOOT_COMMIT (R452). -/
def execBootCommit (s : State) : Host.Outcome State Fault Refusal := .next (bootCommit s)

/-- NV_READ (R458). -/
def execNvRead (s : State) : Host.Outcome State Fault Refusal := .next (nvRead s)

/-- NV_PROGRAM (R458). -/
def execNvProgram (s : State) : Host.Outcome State Fault Refusal := .next (nvProgram s)

/-- NV_ERASE (R458). -/
def execNvErase (s : State) : Host.Outcome State Fault Refusal := .next (nvErase s)

/-- NV_OPERATION_DONE (R458). -/
def execNvOperationDone (ok : Bool) (s : State) : Host.Outcome State Fault Refusal := .next (nvOperationDone ok s)

/-- ATT_GO (R467). -/
def execAttGo (s : State) : Host.Outcome State Fault Refusal := .next (attGo s)

/-- ATTESTATION_DONE (R467). -/
def execAttestationDone (s : State) : Host.Outcome State Fault Refusal := .next (attestationDone s)

/-- PAGE_PROGRAM_DONE (R516). -/
def execPageProgramDone (which : Nat) (ok : Bool) (s : State) : Host.Outcome State Fault Refusal := .next (pageProgramDone which ok s)

end Sys2Proof.Machine
end

