-- ==== Sys2Proof/Machine/CmdColumns.lean ====
section
/-! DEFINITION. Meanings of the commands of the column converters (04_column_converters.md). -/

namespace Sys2Proof.Machine

/-- CONVERSION (R108). -/
def execConversion (listed : List (Nat × Nat)) (d : Nat) (s : State) : Host.Outcome State Fault Refusal := .next (epochsRetire (conversion ⟨listed, d⟩ s))

/-- TAKEOVER (R127). -/
def execTakeover (n : Nat) (s : State) : Host.Outcome State Fault Refusal := .next (takeover n s)

/-- AUDIT_REPLACED (R128). -/
def execAuditReplaced (n : Nat) (s : State) : Host.Outcome State Fault Refusal := .next (auditReplaced n s)

/-- COLUMN_CALIBRATION (R112). -/
def execColumnCalibration (m : List (Nat × Nat × Nat × Nat)) (d : Nat × Nat × Nat) (b : List (Nat × List Nat × List Nat)) (bd : List Nat × List Nat) (mirrorOk : Bool) (s : State) : Host.Outcome State Fault Refusal := .next (columnCalibration ⟨m, d, b, bd⟩ mirrorOk s)

/-- TB_APPLY (R426, which the table cites as R126). -/
def execTbApply (foms : List Nat) (s : State) : Host.Outcome State Fault Refusal := .next (tbApply foms s)

end Sys2Proof.Machine
end

