-- ==== Sys2Proof/Machine/CmdCompanion.lean ====
section
/-! DEFINITION. Meanings of the commands of the companion inputs and of their bus (09_companion_inputs.md, 15_management_bus.md). After
each of them contexts and epochs that nothing holds any more retire, and a turn of the exposure loop may run (R101, R300,
R306). -/

namespace Sys2Proof.Machine

/-- COMPANION_FRAME_START (R276). -/
def execCompanionFrameStart (p : Nat) (s : State) : Host.Outcome State Fault Refusal := .next (epochsRetire (auxSettle (companionFrameStart p s)))

/-- COMPANION_FRAME_END (R280). -/
def execCompanionFrameEnd (p : Nat) (ws : List Nat) (s : State) : Host.Outcome State Fault Refusal := .next (epochsRetire (auxSettle (companionFrameEnd p ws s)))

/-- COMPANION_LINE_START (R289). -/
def execCompanionLineStart (p : Nat) (s : State) : Host.Outcome State Fault Refusal := .next (epochsRetire (auxSettle (companionLineStart p s)))

/-- COMPANION_LINE_END (R279). -/
def execCompanionLineEnd (p : Nat) (ws : List Nat) (s : State) : Host.Outcome State Fault Refusal := .next (epochsRetire (auxSettle (companionLineEnd p ws s)))

/-- STRIPE_PROCESS (R295). -/
def execStripeProcess (h : Nat) (s : State) : Host.Outcome State Fault Refusal := .next (epochsRetire (auxSettle (stripeProcess h s)))

/-- PORT_SILENT (R310). -/
def execPortSilent (p : Nat) (s : State) : Host.Outcome State Fault Refusal := .next (epochsRetire (auxSettle (portSilent p s)))

/-- COMPANION_DISCOVERY (R299). -/
def execCompanionDiscovery (p : Nat) (clocks : Nat) (free : Bool) (id : Nat) (ack : Bool) (s : State) : Host.Outcome State Fault Refusal := .next (epochsRetire (auxSettle (discovery p clocks free id ack s)))

/-- CONTEXT_CHANGE_WRITE (R302). -/
def execContextChangeWrite (p : Nat) (s : State) : Host.Outcome State Fault Refusal := .next (epochsRetire (auxSettle (changeWrite p s)))

/-- CB_TRANSACTION_DONE (R494). -/
def execCbTransactionDone (p : Nat) (ack : Bool) (s : State) : Host.Outcome State Fault Refusal := .next (epochsRetire (auxSettle (cbDone p ack s)))

/-- CB_CONTENTION_RESTART (R496). -/
def execCbContentionRestart (p : Nat) (s : State) : Host.Outcome State Fault Refusal := .next (epochsRetire (auxSettle (cbRestart p s)))

/-- CB_STRETCH_TIMEOUT (R494). -/
def execCbStretchTimeout (p : Nat) (s : State) : Host.Outcome State Fault Refusal := .next (epochsRetire (auxSettle (cbTimeout p s)))

/-- CTX_WITHDRAW (R304). -/
def execCtxWithdraw (p : Nat) (s : State) : Host.Outcome State Fault Refusal := .next (epochsRetire (auxSettle (ctxWithdraw p s)))

end Sys2Proof.Machine
end

