-- ==== Sys2Proof/Machine/CmdEnergy.lean ====
section
/-! DEFINITION. Meanings of the commands of energy and power failure (12_energy.md, 18_electrical_mechanical.md). -/

namespace Sys2Proof.Machine

/-- METER_SAMPLE (R384). -/
def execMeterSample (volts : Nat) (amps : Nat) (s : State) : Host.Outcome State Fault Refusal := .next (meterSample volts amps s)

/-- INPUT_OUT_OF_RANGE (R386). -/
def execInputOutOfRange (s : State) : Host.Outcome State Fault Refusal := .next (inputOutOfRange s)

/-- LEDGER_ENTRY_CLOSE (R387). -/
def execLedgerEntryClose (s : State) : Host.Outcome State Fault Refusal := .next (ledgerEntryClose s)

/-- ENVELOPE_WRITE (R409). -/
def execEnvelopeWrite (v : Nat) (s : State) : Host.Outcome State Fault Refusal := .next (writeReg Reg.NRG_ENV v s)

/-- GUARD_CHECK (R395). -/
def execGuardCheck (s : State) : Host.Outcome State Fault Refusal := .next (guardCheck s)

/-- GUARD_RESTORE (R395). -/
def execGuardRestore (s : State) : Host.Outcome State Fault Refusal := .next (guardRestore s)

/-- ENVELOPE_BREACH (R396). -/
def execEnvelopeBreach (s : State) : Host.Outcome State Fault Refusal := .next (envelopeBreach s)

/-- GRANT_REQUEST (R397). -/
def execGrantRequest (order : Nat) (who : Nat) (s : State) : Host.Outcome State Fault Refusal := .next (grantRequest order who s)

/-- GRANT_EVALUATION (R397). -/
def execGrantEvaluation (s : State) : Host.Outcome State Fault Refusal := .next (grantEvaluation s)

/-- GRANT_FORCED (R398). -/
def execGrantForced (order : Nat) (who : Nat) (s : State) : Host.Outcome State Fault Refusal := .next (grantForced order who s)

/-- PF_THRESHOLD_CROSS (R400). -/
def execPfThresholdCross (down : Bool) (s : State) : Host.Outcome State Fault Refusal := .next (pfThresholdCross down s)

/-- POWER_FAIL (R401). -/
def execPowerFail (s : State) : Host.Outcome State Fault Refusal := .next (powerFail s)

/-- PF_SEAL (R401). -/
def execPfSeal (v : Nat) (s : State) : Host.Outcome State Fault Refusal := .next (pfSeal v s)

/-- PF_SEAL_DONE (R401). -/
def execPfSealDone (s : State) : Host.Outcome State Fault Refusal := .next (pfSealDone s)

/-- PF_RESTART (R403). -/
def execPfRestart (s : State) : Host.Outcome State Fault Refusal := .next (pfRestart s)

/-- POWER_GOOD (R546). -/
def execPowerGood (s : State) : Host.Outcome State Fault Refusal := .next (powerGood s)

/-- NRESET (R555). -/
def execNreset (low : Bool) (s : State) : Host.Outcome State Fault Refusal := .next (nReset low s)

/-- REFCLK_LOST (R550). -/
def execRefclkLost (s : State) : Host.Outcome State Fault Refusal := .next (refclkLost s)

/-- REFCLK_RETURN (R550). -/
def execRefclkReturn (s : State) : Host.Outcome State Fault Refusal := .next (refclkReturn s)

end Sys2Proof.Machine
end

