-- ==== Sys2Proof/Machine/CmdEvents.lean ====
section
/-! DEFINITION. Meanings of the commands of events, the recorder, resets and register access (16_events_resets.md, 17_address_map.md). -/

namespace Sys2Proof.Machine

/-- EVENT_OCCURRENCE (R502). -/
def execEventOccurrence (code : Nat) (fid : Nat) (args : List Nat) (ctag : Nat) (coord : Nat) (s : State) : Host.Outcome State Fault Refusal := .next (raise code fid args ctag coord s)

/-- RECORD_WRITE (R511). -/
def execRecordWrite (s : State) : Host.Outcome State Fault Refusal := .next (recordWrite s)

/-- RECORD_LATCH (R514). -/
def execRecordLatch (s : State) : Host.Outcome State Fault Refusal := .next (leadRead Reg.MGT_REC_WIN s)

/-- REC_SEEK_OLDEST (R514). -/
def execRecSeekOldest (s : State) : Host.Outcome State Fault Refusal := .next (seekOldest s)

/-- REC_SEEK_NEWEST (R514). -/
def execRecSeekNewest (s : State) : Host.Outcome State Fault Refusal := .next (seekNewest s)

/-- LOG_MEM_FAIL (R515). -/
def execLogMemFail (g : Nat) (cause : Nat) (s : State) : Host.Outcome State Fault Refusal := .next (logMemFail g cause s)

/-- MIRROR_PAGE_PROGRAM (R516). -/
def execMirrorPageProgram (s : State) : Host.Outcome State Fault Refusal := .next (mirrorPageProgram s)

/-- MIRROR_SECTOR_ERASE (R516). -/
def execMirrorSectorErase (s : State) : Host.Outcome State Fault Refusal := .next (mirrorSectorErase s)

/-- PRIV_REMIRROR (R517). -/
def execPrivRemirror (seq : Nat) (s : State) : Host.Outcome State Fault Refusal := .next (privRemirror seq s)

/-- RECORDER_SCAN (R519). -/
def execRecorderScan (s : State) : Host.Outcome State Fault Refusal := .next (recorderScan s)

/-- EVT_PEND_CLEAR (R506). -/
def execEvtPendClear (d : Nat) (j : Nat) (v : Nat) (s : State) : Host.Outcome State Fault Refusal := .next (evtPendClear d j v s)

/-- EVT_CLEAR_PENDING (R506). -/
def execEvtClearPending (d : Nat) (s : State) : Host.Outcome State Fault Refusal := .next (evtClearPending d s)

/-- EVT_CLEAR_STATS (R506). -/
def execEvtClearStats (d : Nat) (s : State) : Host.Outcome State Fault Refusal := .next (evtClearStats d s)

/-- RESET_ARM (R520). -/
def execResetArm (f : Nat) (s : State) : Host.Outcome State Fault Refusal := .next (resetArm f s)

/-- RESET_FIRE (R520). -/
def execResetFire (f : Nat) (s : State) : Host.Outcome State Fault Refusal := .next (resetFire f s)

/-- RESET_ARM_EXPIRE (R520). -/
def execResetArmExpire (s : State) : Host.Outcome State Fault Refusal := .next (resetArmExpire s)

/-- RESET_QUIESCE (R521). -/
def execResetQuiesce (f : Nat) (s : State) : Host.Outcome State Fault Refusal := .next (quiesceReset f s)

/-- SECTION_RELOAD_DONE (R456). -/
def execSectionReloadDone (f : Nat) (errs : Nat) (s : State) : Host.Outcome State Fault Refusal := .next (sectionReloadDone f errs s)

/-- RESET_RESUME (R521). -/
def execResetResume (f : Nat) (s : State) : Host.Outcome State Fault Refusal := .next (resetResume f s)

/-- WATCHDOG_EXPIRE (R522). -/
def execWatchdogExpire (f : Nat) (s : State) : Host.Outcome State Fault Refusal := .next (watchdogExpire f s)

/-- MEMORY_ECC_ERROR (R172). -/
def execMemoryEccError (mem : Nat) (unit : Nat) (place : Nat) (uncorr : Bool) (s : State) : Host.Outcome State Fault Refusal := .next (memoryEccError mem unit place uncorr s)

/-- LEAD_REGISTER_READ (R17). -/
def execLeadRegisterRead (a : Nat) (s : State) : Host.Outcome State Fault Refusal := .next (leadRead a s)

/-- RC_REGISTER_READ (R530). -/
def execRcRegisterRead (a : Nat) (s : State) : Host.Outcome State Fault Refusal := .next (rcRead a s)

/-- COUNTER_CLEAR (R533). -/
def execCounterClear (a : Nat) (v : Nat) (s : State) : Host.Outcome State Fault Refusal := .next (clearCounters a v s)

/-- REGISTER_WRITE (R530). -/
def execRegisterWrite (a : Nat) (v : Nat) (s : State) : Host.Outcome State Fault Refusal := .next (writeReg a v s)

/-- MIRRORING_RESUMES (R518). -/
def execMirroringResumes (s : State) : Host.Outcome State Fault Refusal := .next (mirroringResumes s)

end Sys2Proof.Machine
end

