-- ==== Sys2Proof/Machine/CmdLink.lean ====
section
/-! DEFINITION. Meanings of the commands of the lanes and links (10_serial_lanes.md). -/

namespace Sys2Proof.Machine

/-- LANE_ROW_SEND (R317). -/
def execLaneRowSend (n : Nat) (s : State) : Host.Outcome State Fault Refusal := .next (laneRowSend n s)

/-- ALIGN_ROW (R319). -/
def execAlignRow (n : Nat) (s : State) : Host.Outcome State Fault Refusal := .next (alignRow n s)

/-- UNIT_ADMIT (R330). -/
def execUnitAdmit (s : State) : Host.Outcome State Fault Refusal := .next (unitAdmit s)

/-- RECORD_ENQUEUE (R324). -/
def execRecordEnqueue (s : State) : Host.Outcome State Fault Refusal := .next (recordEnqueue s)

/-- RECORDS_PACKET_CLOSE (R324). -/
def execRecordsPacketClose (n : Nat) (s : State) : Host.Outcome State Fault Refusal := .next (closeRecs n s)

/-- AGE_DROP (R331). -/
def execAgeDrop (n : Nat) (c : Nat) (s : State) : Host.Outcome State Fault Refusal := .next (ageDrop n c s)

/-- STATUS_HEARTBEAT (R327). -/
def execStatusHeartbeat (n : Nat) (s : State) : Host.Outcome State Fault Refusal := .next (statusHeartbeat n s)

/-- LANE_FAULT (R336). -/
def execLaneFault (lane : Nat) (cause : Nat) (swing : Nat) (cur : Nat) (s : State) : Host.Outcome State Fault Refusal := .next (laneFault lane cause swing cur s)

/-- LANE_WARN (R333). -/
def execLaneWarn (lane : Nat) (swing : Nat) (cur : Nat) (s : State) : Host.Outcome State Fault Refusal := .next (laneWarn lane swing cur s)

/-- LANE_MOVE (R337). -/
def execLaneMove (v : Nat) (s : State) : Host.Outcome State Fault Refusal := .next (laneMove (bits v 4 0) s)

/-- LANE_RETURN (R338). -/
def execLaneReturn (lane : Nat) (s : State) : Host.Outcome State Fault Refusal := .next (laneReturn lane s)

/-- LANE_POLICY_UPDATE (R332). -/
def execLanePolicyUpdate (n : Nat) (s : State) : Host.Outcome State Fault Refusal := .next (lanePolicyUpdate n s)

/-- SET_UP (R340). -/
def execSetUp (n : Nat) (s : State) : Host.Outcome State Fault Refusal := .next (setUpReady n s)

/-- SET_IDLE (R341). -/
def execSetIdle (n : Nat) (s : State) : Host.Outcome State Fault Refusal := .next (setIdle n s)

/-- LINK_PACKET_SEND (R343). -/
def execLinkPacketSend (n : Nat) (s : State) : Host.Outcome State Fault Refusal := .next (linkPacketSend n s)

/-- LINK_PACKET_RECEIVED (R342). -/
def execLinkPacketReceived (n : Nat) (ws : List (BitVec 128)) (contact : Nat × Nat) (s : State) : Host.Outcome State Fault Refusal := .next (linkPacketReceived n ws contact s)

/-- CREDIT_SEND (R343). -/
def execCreditSend (n : Nat) (s : State) : Host.Outcome State Fault Refusal := .next (creditSend n s)

/-- CREDIT_RECEIVED (R343). -/
def execCreditReceived (n : Nat) (b : Nat × Nat) (s : State) : Host.Outcome State Fault Refusal := .next (creditReceived n b s)

/-- LINK_WORD_LOCK_LOSS (R347). -/
def execLinkWordLockLoss (n : Nat) (errs : Nat) (s : State) : Host.Outcome State Fault Refusal := .next (linkWordLockLoss n errs s)

/-- LINK_RETRAIN (R347). -/
def execLinkRetrain (n : Nat) (lock : Bool) (foms : List Nat) (rtt : Nat × List Nat) (s : State) : Host.Outcome State Fault Refusal := .next (linkRetrain n lock foms rtt s)

/-- LINK_TRAINING (R349). -/
def execLinkTraining (n : Nat) (lock : Bool) (foms : List Nat) (rtt : Nat × List Nat) (s : State) : Host.Outcome State Fault Refusal := .next (linkTraining n lock foms rtt s)

/-- EYE_MEASURE (R348). -/
def execEyeMeasure (n : Nat) (hm : Nat) (vm : Nat) (hs : Nat) (vs : Nat) (s : State) : Host.Outcome State Fault Refusal := .next (eyeMeasure n hm vm hs vs s)

/-- READAPT_SWEEP (R350). -/
def execReadaptSweep (n : Nat) (foms : List Nat) (s : State) : Host.Outcome State Fault Refusal := .next (readaptSweep n foms s)

/-- EQ_SWAP (R350). -/
def execEqSwap (n : Nat) (s : State) : Host.Outcome State Fault Refusal := .next (eqSwap n s)

/-- PAIR_RECEIVED (R461). -/
def execPairReceived (s : State) : Host.Outcome State Fault Refusal := .next (pairReceived s)

/-- PAIR_RESEND (R461). -/
def execPairResend (n : Nat) (s : State) : Host.Outcome State Fault Refusal := .next (pairResend n s)

/-- SET_PLL_UNLOCK (R351). -/
def execSetPllUnlock (n : Nat) (s : State) : Host.Outcome State Fault Refusal := .next (setPllUnlock n s)

/-- PRBS_TEST (R351). -/
def execPrbsTest (lane : Nat) (v : Nat) (s : State) : Host.Outcome State Fault Refusal := .next (writeReg (Reg.LNK_DT_TEST + 0x20 * lane) v s)

end Sys2Proof.Machine
end

