-- ==== Sys2Proof/Machine/CmdManagement.lean ====
section
/-! DEFINITION. Meanings of the commands of the management bus (15_management_bus.md). -/

namespace Sys2Proof.Machine

/-- GET_STATE (R477). -/
def execGetState (addr : Nat) (n : Nat) (s : State) : Host.Outcome State Fault Refusal := .next (getState addr n s)

/-- GET_ATTN (R477). -/
def execGetAttn (addr : Nat) (n : Nat) (s : State) : Host.Outcome State Fault Refusal := .next (getAttn addr n s)

/-- GET_ID (R477). -/
def execGetId (addr : Nat) (n : Nat) (s : State) : Host.Outcome State Fault Refusal := .next (getId addr n s)

/-- GET_PTR (R477). -/
def execGetPtr (addr : Nat) (n : Nat) (s : State) : Host.Outcome State Fault Refusal := .next (getPtr addr n s)

/-- GET_BUS (R477). -/
def execGetBus (addr : Nat) (n : Nat) (s : State) : Host.Outcome State Fault Refusal := .next (getBus addr n s)

/-- BLOCK_WRITE (R480). -/
def execBlockWrite (addr : Nat) (cnt : Nat) (data : List Byte) (s : State) : Host.Outcome State Fault Refusal := .next (blockWrite addr cnt data s)

/-- BLOCK_READ (R481). -/
def execBlockRead (addr : Nat) (cnt : Nat) (n : Nat) (s : State) : Host.Outcome State Fault Refusal := .next (blockRead addr cnt n s)

/-- SET_PTR (R479). -/
def execSetPtr (addr : Nat) (ptr : Nat) (data : List Byte) (n : Nat) (s : State) : Host.Outcome State Fault Refusal := .next (setPtr addr ptr data n s)

/-- CONTINUE (R479). -/
def execContinue (addr : Nat) (data : List Byte) (n : Nat) (s : State) : Host.Outcome State Fault Refusal := .next (continueAt addr data n s)

/-- CMD_REFUSED (R478). -/
def execCmdRefused (addr : Nat) (code : Nat) (cnt : Nat) (s : State) : Host.Outcome State Fault Refusal := .next (cmdRefused addr code cnt s)

/-- MB_TIMEOUT (R486). -/
def execMbTimeout (s : State) : Host.Outcome State Fault Refusal := .next (mbTimeout s)

/-- IBR_START (R489). -/
def execIbrStart (s : State) : Host.Outcome State Fault Refusal := .next (ibrStart s)

/-- IBR_UNANSWERED (R490). -/
def execIbrUnanswered (s : State) : Host.Outcome State Fault Refusal := .next (ibrUnanswered s)

/-- IBR_RETRY (R490). -/
def execIbrRetry (s : State) : Host.Outcome State Fault Refusal := .next (ibrRetry s)

/-- LULL_ENTER (R491). -/
def execLullEnter (s : State) : Host.Outcome State Fault Refusal := .next (lullEnter s)

/-- LULL_WAKE (R492). -/
def execLullWake (addressed : Bool) (s : State) : Host.Outcome State Fault Refusal := .next (lullWake addressed s)

end Sys2Proof.Machine
end

