-- ==== Sys2Proof/Machine/CmdPins.lean ====
section
/-! DEFINITION. Meanings of the commands of the pin engines (11_pin_engines.md). -/

namespace Sys2Proof.Machine

/-- DRIVE (R360). -/
def execDrive (e : Nat) (s : State) : Host.Outcome State Fault Refusal := .next (drive e s)

/-- SAMPLE (R360). -/
def execSample (e : Nat) (s : State) : Host.Outcome State Fault Refusal := .next (sample e s)

/-- SHIFT (R363). -/
def execShift (e : Nat) (phases : Nat) (s : State) : Host.Outcome State Fault Refusal := .next (shift e phases s)

/-- WAITPIN (R360). -/
def execWaitpin (e : Nat) (s : State) : Host.Outcome State Fault Refusal := .next (waitPin e s)

/-- WAITTIME (R364). -/
def execWaittime (e : Nat) (s : State) : Host.Outcome State Fault Refusal := .next (waitTime e s)

/-- WAITPOS (R360). -/
def execWaitpos (e : Nat) (s : State) : Host.Outcome State Fault Refusal := .next (waitPos e s)

/-- FETCH (R360). -/
def execFetch (e : Nat) (s : State) : Host.Outcome State Fault Refusal := .next (fetch e s)

/-- FETCHN (R362). -/
def execFetchn (e : Nat) (s : State) : Host.Outcome State Fault Refusal := .next (fetchN e s)

/-- STORE (R360). -/
def execStore (e : Nat) (s : State) : Host.Outcome State Fault Refusal := .next (store e s)

/-- STOREN (R362). -/
def execStoren (e : Nat) (s : State) : Host.Outcome State Fault Refusal := .next (storeN e s)

/-- BRANCH (R361). -/
def execBranch (e : Nat) (s : State) : Host.Outcome State Fault Refusal := .next (branch e s)

/-- COUNT (R360). -/
def execCount (e : Nat) (s : State) : Host.Outcome State Fault Refusal := .next (count e s)

/-- SIGNAL (R366). -/
def execSignal (e : Nat) (s : State) : Host.Outcome State Fault Refusal := .next (signal e s)

/-- WAITSIG (R365). -/
def execWaitsig (e : Nat) (s : State) : Host.Outcome State Fault Refusal := .next (waitSig e s)

/-- CONST (R361). -/
def execConst (e : Nat) (s : State) : Host.Outcome State Fault Refusal := .next (const e s)

/-- HALT (R369). -/
def execHalt (e : Nat) (s : State) : Host.Outcome State Fault Refusal := .next (haltStep e s)

/-- DEADLINE_EXPIRE (R364). -/
def execDeadlineExpire (e : Nat) (s : State) : Host.Outcome State Fault Refusal := .next (deadlineExpire e s)

/-- PEN_START (R368). -/
def execPenStart (v : Nat) (s : State) : Host.Outcome State Fault Refusal := .next (penStart (bits v 15 0) s)

/-- PEN_HALT (R369). -/
def execPenHalt (v : Nat) (s : State) : Host.Outcome State Fault Refusal := .next (penHalt (bits v 15 0) s)

/-- PMEM_WRITE (R370). -/
def execPmemWrite (v : Nat) (s : State) : Host.Outcome State Fault Refusal := .next (pmemWrite v s)

/-- FIFO_IN_WRITE (R363). -/
def execFifoInWrite (v : Nat) (s : State) : Host.Outcome State Fault Refusal := .next (fifoInWrite v s)

/-- FIFO_OUT_READ (R363). -/
def execFifoOutRead (s : State) : Host.Outcome State Fault Refusal := .next (fifoOutShown s)

/-- SIGNAL_BUS_WRITE (R365). -/
def execSignalBusWrite (v : Nat) (s : State) : Host.Outcome State Fault Refusal := .next (signalBusWrite v s)

/-- PIN_LEVEL_CHANGE (R372). -/
def execPinLevelChange (p : Nat) (v : Bool) (s : State) : Host.Outcome State Fault Refusal := .next (pinLevelChange p v s)

/-- RATE_WINDOW_END (R373). -/
def execRateWindowEnd (p : Nat) (rejects : Nat) (s : State) : Host.Outcome State Fault Refusal := .next (rateWindowEnd p rejects s)

/-- PIN_STUCK_SET (R374). -/
def execPinStuckSet (p : Nat) (s : State) : Host.Outcome State Fault Refusal := .next (pinStuckSet p s)

/-- PIN_READBACK_MISMATCH (R358). -/
def execPinReadbackMismatch (p : Nat) (limit : Bool) (s : State) : Host.Outcome State Fault Refusal := .next (pinReadback p limit s)

/-- STROBE_ON (R376). -/
def execStrobeOn (n : Nat) (s : State) : Host.Outcome State Fault Refusal := .next (strobeOn n s)

/-- STROBE_OFF (R376). -/
def execStrobeOff (n : Nat) (s : State) : Host.Outcome State Fault Refusal := .next (strobeOff n s)

/-- STROBE_EARLY_END (R377). -/
def execStrobeEarlyEnd (n : Nat) (duty : Bool) (s : State) : Host.Outcome State Fault Refusal := .next (strobeEarlyEnd n duty s)

/-- CLOCK_FAULT (R380). -/
def execClockFault (s : State) : Host.Outcome State Fault Refusal := .next (clockFault s)

/-- CLOCK_RELOCK (R380). -/
def execClockRelock (s : State) : Host.Outcome State Fault Refusal := .next (clockRelock s)

end Sys2Proof.Machine
end

