-- ==== Sys2Proof/Machine/CmdPipeline.lean ====
section
/-! DEFINITION. Meanings of the commands of the pipeline and its outputs (05_main_pipeline.md, 06_reconstruction_outputs.md). -/

namespace Sys2Proof.Machine

/-- COMP_WRITE (R162). An epoch that nothing holds any more retires (R101). -/
def execCompWrite (n : Nat) (s : State) : Host.Outcome State Fault Refusal := .next (epochsRetire (compWrite n s))

/-- REGISTRATION_DRAW (R165). -/
def execRegistrationDraw (s : State) : Host.Outcome State Fault Refusal := .next (registrationDraw s)

/-- DL_SECTOR_CHECK (R171). -/
def execDlSectorCheck (n : Nat) (s : State) : Host.Outcome State Fault Refusal := .next (sectorCheck n s)

/-- DSNU_LOAD_DONE (R144). -/
def execDsnuLoadDone (ok : Bool) (s : State) : Host.Outcome State Fault Refusal := .next (dsnuLoadDone ok s)

/-- FORMATTER_EMIT (R181). -/
def execFormatterEmit (s : State) : Host.Outcome State Fault Refusal := .next (formatterEmit s)

/-- RAW_ROW_EMIT (R195). -/
def execRawRowEmit (s : State) : Host.Outcome State Fault Refusal := .next (rawRowEmit s)

end Sys2Proof.Machine
end

