-- ==== Sys2Proof/Machine/CmdThermal.lean ====
section
/-! DEFINITION. Meanings of the commands of housekeeping, the orderly stop and the trip (13_thermal_housekeeping.md). -/

namespace Sys2Proof.Machine

/-- HK_ROUND_START (R413). -/
def execHkRoundStart (s : State) : Host.Outcome State Fault Refusal := .next (hkRoundStart s)

/-- HK_CONVERSION_DONE (R414). -/
def execHkConversionDone (c : Nat) (v : Int) (s : State) : Host.Outcome State Fault Refusal := .next (hkConversionDone c v s)

/-- HK_ROUND_END (R420). -/
def execHkRoundEnd (s : State) : Host.Outcome State Fault Refusal := .next (hkRoundEnd s)

/-- DL_HK_MISS (R437). -/
def execDlHkMiss (s : State) : Host.Outcome State Fault Refusal := .next (dlHkMiss s)

/-- URGENT_REQUEST (R417). -/
def execUrgentRequest (s : State) : Host.Outcome State Fault Refusal := .next (urgentRequest s)

/-- URGENT_RESULT (R417). -/
def execUrgentResult (c : Nat) (v : Int) (s : State) : Host.Outcome State Fault Refusal := .next (urgentResult c v s)

/-- ORDERLY_STOP_CONFIRM (R429). -/
def execOrderlyStopConfirm (s : State) : Host.Outcome State Fault Refusal := .next (orderlyStopConfirm s)

/-- ORDERLY_STOP_CUT (R430). -/
def execOrderlyStopCut (s : State) : Host.Outcome State Fault Refusal := .next (orderlyStopCut s)

/-- CALM_ENTERED (R430). -/
def execCalmEntered (s : State) : Host.Outcome State Fault Refusal := .next (calmEntered s)

/-- CALM_AUTO_RESTART (R431). -/
def execCalmAutoRestart (s : State) : Host.Outcome State Fault Refusal := .next (calmAutoRestart s)

/-- THM_RESTART (R431). -/
def execThmRestart (key : Nat) (s : State) : Host.Outcome State Fault Refusal := .next (thmRestart key s)

/-- TRIP (R432). -/
def execTrip (h2 : Bool) (s : State) : Host.Outcome State Fault Refusal := .next (trip h2 s)

/-- TRIP_FLASH_CUT (R432). -/
def execTripFlashCut (done : Bool) (s : State) : Host.Outcome State Fault Refusal := .next (tripFlashCut done s)

/-- TRIP_RESTART (R435). -/
def execTripRestart (s : State) : Host.Outcome State Fault Refusal := .next (tripRestart s)

end Sys2Proof.Machine
end

