-- ==== Sys2Proof/Machine/CmdTimebase.lean ====
section
/-! DEFINITION. Meanings of the commands of the position timebase (02_position_timebase.md). -/

namespace Sys2Proof.Machine

/-- ENCODER_EDGE (R42). -/
def execEncoderEdge (s : State) : Host.Outcome State Fault Refusal := .next (encoderPosted s)

/-- SYNC_IN_EDGE (R44). -/
def execSyncInEdge (edge : Bool × Nat) (s : State) : Host.Outcome State Fault Refusal := .next (syncInEdge edge.1 edge.2 s)

/-- SYN_RATE_STEP (R45). -/
def execSynRateStep (s : State) : Host.Outcome State Fault Refusal := .next (synRateStep s)

/-- FREERUN_BOUNDARY (R54). -/
def execFreerunBoundary (s : State) : Host.Outcome State Fault Refusal := .next (freerunBoundary s)

/-- LINE_START (R52). -/
def execLineStart (s : State) : Host.Outcome State Fault Refusal := .next (epochsRetire (lineStart s))

/-- SYNC_OUT_PULSE_END (R60). -/
def execSyncOutPulseEnd (s : State) : Host.Outcome State Fault Refusal := .next (syncOutEnd s)

/-- VELOCITY_ESTIMATE (R55). -/
def execVelocityEstimate (s : State) : Host.Outcome State Fault Refusal := .next (velocityEstimate s)

/-- STANDSTILL_DECLARED (R58). -/
def execStandstillDeclared (s : State) : Host.Outcome State Fault Refusal := .next (standstillDeclared s)

/-- RUN_EXPECT_CHANGE (R46). -/
def execRunExpectChange (level : Bool) (s : State) : Host.Outcome State Fault Refusal := .next (runExpectChange level s)

/-- COAST_END (R48). -/
def execCoastEnd (s : State) : Host.Outcome State Fault Refusal := .next (coastEnd s)

/-- SRC_RESUME (R47). -/
def execSrcResume (s : State) : Host.Outcome State Fault Refusal := .next (srcResume s)

/-- BEACON_SEND (R61). -/
def execBeaconSend (s : State) : Host.Outcome State Fault Refusal := .next (beaconSend s)

/-- BROADCAST_RECEIVED (R62). -/
def execBroadcastReceived (s : State) : Host.Outcome State Fault Refusal := .next (takeBroadcastIn s)

/-- ANNOUNCE_SEND (R65). -/
def execAnnounceSend (s : State) : Host.Outcome State Fault Refusal := .next (announceSend s)

/-- ANNOUNCE_RECEIVED (R65). -/
def execAnnounceReceived (s : State) : Host.Outcome State Fault Refusal := .next (takeAnnounceIn s)

/-- NO_MASTER (R65). -/
def execNoMaster (s : State) : Host.Outcome State Fault Refusal := .next (noMasterCmd s)

/-- MASTER_LOST (R66). -/
def execMasterLost (s : State) : Host.Outcome State Fault Refusal := .next (masterLostCmd s)

/-- DL_CLEAR (R71). -/
def execDlClear (v : Nat) (s : State) : Host.Outcome State Fault Refusal := .next (dlClear v s)

end Sys2Proof.Machine
end

