-- ==== Sys2Proof/Machine/CmdVerdict.lean ====
section
/-! DEFINITION. Meanings of the commands of the verdict engine and of ejection (07_verdict_engine.md, 08_gust_verdicts_ejection.md). -/

namespace Sys2Proof.Machine

/-- LEAD_SEGMENT_RECEIVED (R201). -/
def execLeadSegmentReceived (n : Nat) (s : State) : Host.Outcome State Fault Refusal := .next (cpPollAll (leadSegment n s))

/-- OBJECT_TABLE_LINE (R203). -/
def execObjectTableLine (s : State) : Host.Outcome State Fault Refusal := .next (objectTableLine s)

/-- REGISTERED_SEGMENT_ACCUMULATE (R215). -/
def execRegisteredSegmentAccumulate (n : Nat) (s : State) : Host.Outcome State Fault Refusal := .next (accumulateSegment n s)

/-- VERDICT_EVALUATION (R225). -/
def execVerdictEvaluation (c : Nat) (s : State) : Host.Outcome State Fault Refusal := .next (verdictEvaluation c s)

/-- FRAGMENT_RECORD_RECEIVED (R236). -/
def execFragmentRecordReceived (s : State) : Host.Outcome State Fault Refusal := .next (fragmentReceived s)

/-- STITCH_WINDOW_EXPIRE (R237). -/
def execStitchWindowExpire (s : State) : Host.Outcome State Fault Refusal := .next (stitchExpire s)

/-- NEIGHBOUR_FRAGMENT_EXPIRE (R237). -/
def execNeighbourFragmentExpire (s : State) : Host.Outcome State Fault Refusal := .next (fragmentExpire s)

/-- PARTNER_RECORD_RECEIVED (R238). -/
def execPartnerRecordReceived (s : State) : Host.Outcome State Fault Refusal := .next (partnerReceived s)

/-- PARTNER_WAIT_EXPIRE (R238). -/
def execPartnerWaitExpire (s : State) : Host.Outcome State Fault Refusal := .next (partnerExpire s)

/-- PARTNER_ADOPTED (R239). -/
def execPartnerAdopted (s : State) : Host.Outcome State Fault Refusal := .next (partnerAdopt s)

/-- GUST_EVALUATION (R252). -/
def execGustEvaluation (c : Nat) (s : State) : Host.Outcome State Fault Refusal := .next (gustEvaluation c s)

/-- VALVE_FRAME_BUILD (R256). -/
def execValveFrameBuild (b : Nat) (s : State) : Host.Outcome State Fault Refusal := .next (frameBuild b s)

/-- FRAME_WORD_POST (R257). -/
def execFrameWordPost (b : Nat) (s : State) : Host.Outcome State Fault Refusal := .next (frameWordPost b s)

/-- FRAME_ABANDONED (R257). -/
def execFrameAbandoned (b : Nat) (s : State) : Host.Outcome State Fault Refusal := .next (frameAbandon b s)

/-- ARM_EXPIRE (R259). -/
def execArmExpire (s : State) : Host.Outcome State Fault Refusal := .next (armExpire s)

/-- PARTNER_GUST_RECORD_RECEIVED (R268). -/
def execPartnerGustRecordReceived (s : State) : Host.Outcome State Fault Refusal := .next (partnerGustReceived s)

end Sys2Proof.Machine
end

