-- ==== Sys2Proof/Machine/Dispatch.lean ====
section
/-! DEFINITION. One arm per command. -/

namespace Sys2Proof.Machine

/-- The effect of a command on everything but the queue. -/
def exec (i : Instr) (s : State) : Host.Outcome State Fault Refusal :=
  match i with
  | .encoderEdge => Sys2Proof.Machine.execEncoderEdge s
  | .syncInEdge edge => Sys2Proof.Machine.execSyncInEdge edge s
  | .synRateStep => Sys2Proof.Machine.execSynRateStep s
  | .freerunBoundary => Sys2Proof.Machine.execFreerunBoundary s
  | .lineStart => Sys2Proof.Machine.execLineStart s
  | .syncOutPulseEnd => Sys2Proof.Machine.execSyncOutPulseEnd s
  | .velocityEstimate => Sys2Proof.Machine.execVelocityEstimate s
  | .standstillDeclared => Sys2Proof.Machine.execStandstillDeclared s
  | .runExpectChange level => Sys2Proof.Machine.execRunExpectChange level s
  | .coastEnd => Sys2Proof.Machine.execCoastEnd s
  | .srcResume => Sys2Proof.Machine.execSrcResume s
  | .beaconSend => Sys2Proof.Machine.execBeaconSend s
  | .broadcastReceived => Sys2Proof.Machine.execBroadcastReceived s
  | .announceSend => Sys2Proof.Machine.execAnnounceSend s
  | .announceReceived => Sys2Proof.Machine.execAnnounceReceived s
  | .noMaster => Sys2Proof.Machine.execNoMaster s
  | .masterLost => Sys2Proof.Machine.execMasterLost s
  | .epochFreeze => Sys2Proof.Machine.execEpochFreeze s
  | .epochApplied => Sys2Proof.Machine.execEpochApplied s
  | .commit => Sys2Proof.Machine.execCommit s
  | .commitAsap => Sys2Proof.Machine.execCommitAsap s
  | .cancel => Sys2Proof.Machine.execCancel s
  | .snapGo => Sys2Proof.Machine.execSnapGo s
  | .snapExposureStart => Sys2Proof.Machine.execSnapExposureStart s
  | .snapTransfer => Sys2Proof.Machine.execSnapTransfer s
  | .snapDone => Sys2Proof.Machine.execSnapDone s
  | .snapNoGrant => Sys2Proof.Machine.execSnapNoGrant s
  | .exposureStart k c => Sys2Proof.Machine.execExposureStart k c s
  | .slotEdge slot opens late => Sys2Proof.Machine.execSlotEdge slot opens late s
  | .bandTransfer slot rowBad pulseBad => Sys2Proof.Machine.execBandTransfer slot rowBad pulseBad s
  | .conversion listed d => Sys2Proof.Machine.execConversion listed d s
  | .takeover n => Sys2Proof.Machine.execTakeover n s
  | .auditReplaced n => Sys2Proof.Machine.execAuditReplaced n s
  | .columnCalibration m d b bd mirrorOk => Sys2Proof.Machine.execColumnCalibration m d b bd mirrorOk s
  | .tbApply foms => Sys2Proof.Machine.execTbApply foms s
  | .compWrite n => Sys2Proof.Machine.execCompWrite n s
  | .registrationDraw => Sys2Proof.Machine.execRegistrationDraw s
  | .dlSectorCheck n => Sys2Proof.Machine.execDlSectorCheck n s
  | .dsnuLoadDone ok => Sys2Proof.Machine.execDsnuLoadDone ok s
  | .formatterEmit => Sys2Proof.Machine.execFormatterEmit s
  | .rawRowEmit => Sys2Proof.Machine.execRawRowEmit s
  | .leadSegmentReceived n => Sys2Proof.Machine.execLeadSegmentReceived n s
  | .objectTableLine => Sys2Proof.Machine.execObjectTableLine s
  | .registeredSegmentAccumulate n => Sys2Proof.Machine.execRegisteredSegmentAccumulate n s
  | .verdictEvaluation c => Sys2Proof.Machine.execVerdictEvaluation c s
  | .fragmentRecordReceived => Sys2Proof.Machine.execFragmentRecordReceived s
  | .stitchWindowExpire => Sys2Proof.Machine.execStitchWindowExpire s
  | .neighbourFragmentExpire => Sys2Proof.Machine.execNeighbourFragmentExpire s
  | .partnerRecordReceived => Sys2Proof.Machine.execPartnerRecordReceived s
  | .partnerWaitExpire => Sys2Proof.Machine.execPartnerWaitExpire s
  | .partnerAdopted => Sys2Proof.Machine.execPartnerAdopted s
  | .gustEvaluation c => Sys2Proof.Machine.execGustEvaluation c s
  | .valveFrameBuild b => Sys2Proof.Machine.execValveFrameBuild b s
  | .frameWordPost b => Sys2Proof.Machine.execFrameWordPost b s
  | .frameAbandoned b => Sys2Proof.Machine.execFrameAbandoned b s
  | .armExpire => Sys2Proof.Machine.execArmExpire s
  | .partnerGustRecordReceived => Sys2Proof.Machine.execPartnerGustRecordReceived s
  | .companionFrameStart p => Sys2Proof.Machine.execCompanionFrameStart p s
  | .companionFrameEnd p ws => Sys2Proof.Machine.execCompanionFrameEnd p ws s
  | .companionLineStart p => Sys2Proof.Machine.execCompanionLineStart p s
  | .companionLineEnd p ws => Sys2Proof.Machine.execCompanionLineEnd p ws s
  | .stripeProcess h => Sys2Proof.Machine.execStripeProcess h s
  | .portSilent p => Sys2Proof.Machine.execPortSilent p s
  | .companionDiscovery p clocks free id ack => Sys2Proof.Machine.execCompanionDiscovery p clocks free id ack s
  | .contextChangeWrite p => Sys2Proof.Machine.execContextChangeWrite p s
  | .cbTransactionDone p ack => Sys2Proof.Machine.execCbTransactionDone p ack s
  | .cbContentionRestart p => Sys2Proof.Machine.execCbContentionRestart p s
  | .cbStretchTimeout p => Sys2Proof.Machine.execCbStretchTimeout p s
  | .ctxWithdraw p => Sys2Proof.Machine.execCtxWithdraw p s
  | .laneRowSend n => Sys2Proof.Machine.execLaneRowSend n s
  | .alignRow n => Sys2Proof.Machine.execAlignRow n s
  | .unitAdmit => Sys2Proof.Machine.execUnitAdmit s
  | .recordEnqueue => Sys2Proof.Machine.execRecordEnqueue s
  | .recordsPacketClose n => Sys2Proof.Machine.execRecordsPacketClose n s
  | .ageDrop n c => Sys2Proof.Machine.execAgeDrop n c s
  | .statusHeartbeat n => Sys2Proof.Machine.execStatusHeartbeat n s
  | .laneFault lane cause swing cur => Sys2Proof.Machine.execLaneFault lane cause swing cur s
  | .laneWarn lane swing cur => Sys2Proof.Machine.execLaneWarn lane swing cur s
  | .laneMove v => Sys2Proof.Machine.execLaneMove v s
  | .laneReturn lane => Sys2Proof.Machine.execLaneReturn lane s
  | .lanePolicyUpdate n => Sys2Proof.Machine.execLanePolicyUpdate n s
  | .setUp n => Sys2Proof.Machine.execSetUp n s
  | .setIdle n => Sys2Proof.Machine.execSetIdle n s
  | .linkPacketSend n => Sys2Proof.Machine.execLinkPacketSend n s
  | .linkPacketReceived n ws contact => Sys2Proof.Machine.execLinkPacketReceived n ws contact s
  | .creditSend n => Sys2Proof.Machine.execCreditSend n s
  | .creditReceived n b => Sys2Proof.Machine.execCreditReceived n b s
  | .linkWordLockLoss n errs => Sys2Proof.Machine.execLinkWordLockLoss n errs s
  | .linkRetrain n lock foms rtt => Sys2Proof.Machine.execLinkRetrain n lock foms rtt s
  | .linkTraining n lock foms rtt => Sys2Proof.Machine.execLinkTraining n lock foms rtt s
  | .eyeMeasure n hm vm hs vs => Sys2Proof.Machine.execEyeMeasure n hm vm hs vs s
  | .readaptSweep n foms => Sys2Proof.Machine.execReadaptSweep n foms s
  | .eqSwap n => Sys2Proof.Machine.execEqSwap n s
  | .pairReceived => Sys2Proof.Machine.execPairReceived s
  | .pairResend n => Sys2Proof.Machine.execPairResend n s
  | .setPllUnlock n => Sys2Proof.Machine.execSetPllUnlock n s
  | .drive e => Sys2Proof.Machine.execDrive e s
  | .sample e => Sys2Proof.Machine.execSample e s
  | .shift e phases => Sys2Proof.Machine.execShift e phases s
  | .waitpin e => Sys2Proof.Machine.execWaitpin e s
  | .waittime e => Sys2Proof.Machine.execWaittime e s
  | .waitpos e => Sys2Proof.Machine.execWaitpos e s
  | .fetch e => Sys2Proof.Machine.execFetch e s
  | .fetchn e => Sys2Proof.Machine.execFetchn e s
  | .store e => Sys2Proof.Machine.execStore e s
  | .storen e => Sys2Proof.Machine.execStoren e s
  | .branch e => Sys2Proof.Machine.execBranch e s
  | .count e => Sys2Proof.Machine.execCount e s
  | .signal e => Sys2Proof.Machine.execSignal e s
  | .waitsig e => Sys2Proof.Machine.execWaitsig e s
  | .const e => Sys2Proof.Machine.execConst e s
  | .halt e => Sys2Proof.Machine.execHalt e s
  | .deadlineExpire e => Sys2Proof.Machine.execDeadlineExpire e s
  | .penStart v => Sys2Proof.Machine.execPenStart v s
  | .penHalt v => Sys2Proof.Machine.execPenHalt v s
  | .pmemWrite v => Sys2Proof.Machine.execPmemWrite v s
  | .fifoInWrite v => Sys2Proof.Machine.execFifoInWrite v s
  | .fifoOutRead => Sys2Proof.Machine.execFifoOutRead s
  | .signalBusWrite v => Sys2Proof.Machine.execSignalBusWrite v s
  | .pinLevelChange p v => Sys2Proof.Machine.execPinLevelChange p v s
  | .rateWindowEnd p rejects => Sys2Proof.Machine.execRateWindowEnd p rejects s
  | .pinStuckSet p => Sys2Proof.Machine.execPinStuckSet p s
  | .pinReadbackMismatch p limit => Sys2Proof.Machine.execPinReadbackMismatch p limit s
  | .strobeOn n => Sys2Proof.Machine.execStrobeOn n s
  | .strobeOff n => Sys2Proof.Machine.execStrobeOff n s
  | .strobeEarlyEnd n duty => Sys2Proof.Machine.execStrobeEarlyEnd n duty s
  | .clockFault => Sys2Proof.Machine.execClockFault s
  | .meterSample volts amps => Sys2Proof.Machine.execMeterSample volts amps s
  | .inputOutOfRange => Sys2Proof.Machine.execInputOutOfRange s
  | .ledgerEntryClose => Sys2Proof.Machine.execLedgerEntryClose s
  | .envelopeWrite v => Sys2Proof.Machine.execEnvelopeWrite v s
  | .guardCheck => Sys2Proof.Machine.execGuardCheck s
  | .guardRestore => Sys2Proof.Machine.execGuardRestore s
  | .envelopeBreach => Sys2Proof.Machine.execEnvelopeBreach s
  | .grantRequest order who => Sys2Proof.Machine.execGrantRequest order who s
  | .grantEvaluation => Sys2Proof.Machine.execGrantEvaluation s
  | .grantForced order who => Sys2Proof.Machine.execGrantForced order who s
  | .pfThresholdCross down => Sys2Proof.Machine.execPfThresholdCross down s
  | .powerFail => Sys2Proof.Machine.execPowerFail s
  | .pfSeal v => Sys2Proof.Machine.execPfSeal v s
  | .pfSealDone => Sys2Proof.Machine.execPfSealDone s
  | .pfRestart => Sys2Proof.Machine.execPfRestart s
  | .hkRoundStart => Sys2Proof.Machine.execHkRoundStart s
  | .hkConversionDone c v => Sys2Proof.Machine.execHkConversionDone c v s
  | .hkRoundEnd => Sys2Proof.Machine.execHkRoundEnd s
  | .dlHkMiss => Sys2Proof.Machine.execDlHkMiss s
  | .urgentRequest => Sys2Proof.Machine.execUrgentRequest s
  | .urgentResult c v => Sys2Proof.Machine.execUrgentResult c v s
  | .orderlyStopConfirm => Sys2Proof.Machine.execOrderlyStopConfirm s
  | .orderlyStopCut => Sys2Proof.Machine.execOrderlyStopCut s
  | .calmEntered => Sys2Proof.Machine.execCalmEntered s
  | .calmAutoRestart => Sys2Proof.Machine.execCalmAutoRestart s
  | .thmRestart key => Sys2Proof.Machine.execThmRestart key s
  | .trip h2 => Sys2Proof.Machine.execTrip h2 s
  | .tripFlashCut done => Sys2Proof.Machine.execTripFlashCut done s
  | .tripRestart => Sys2Proof.Machine.execTripRestart s
  | .powerGood => Sys2Proof.Machine.execPowerGood s
  | .nreset low => Sys2Proof.Machine.execNreset low s
  | .refclkLost => Sys2Proof.Machine.execRefclkLost s
  | .refclkReturn => Sys2Proof.Machine.execRefclkReturn s
  | .startupStepEnd n sfdp bad => Sys2Proof.Machine.execStartupStepEnd n sfdp bad s
  | .laneBringupBegin => Sys2Proof.Machine.execLaneBringupBegin s
  | .captureBegin => Sys2Proof.Machine.execCaptureBegin s
  | .warmupEnd => Sys2Proof.Machine.execWarmupEnd s
  | .bootRestart => Sys2Proof.Machine.execBootRestart s
  | .bootVerify => Sys2Proof.Machine.execBootVerify s
  | .verifyDone readErr => Sys2Proof.Machine.execVerifyDone readErr s
  | .bootCommit => Sys2Proof.Machine.execBootCommit s
  | .nvRead => Sys2Proof.Machine.execNvRead s
  | .nvProgram => Sys2Proof.Machine.execNvProgram s
  | .nvErase => Sys2Proof.Machine.execNvErase s
  | .nvOperationDone ok => Sys2Proof.Machine.execNvOperationDone ok s
  | .attGo => Sys2Proof.Machine.execAttGo s
  | .attestationDone => Sys2Proof.Machine.execAttestationDone s
  | .getState addr n => Sys2Proof.Machine.execGetState addr n s
  | .getAttn addr n => Sys2Proof.Machine.execGetAttn addr n s
  | .getId addr n => Sys2Proof.Machine.execGetId addr n s
  | .getPtr addr n => Sys2Proof.Machine.execGetPtr addr n s
  | .getBus addr n => Sys2Proof.Machine.execGetBus addr n s
  | .blockWrite addr cnt data => Sys2Proof.Machine.execBlockWrite addr cnt data s
  | .blockRead addr cnt n => Sys2Proof.Machine.execBlockRead addr cnt n s
  | .setPtr addr ptr data n => Sys2Proof.Machine.execSetPtr addr ptr data n s
  | .continue addr data n => Sys2Proof.Machine.execContinue addr data n s
  | .cmdRefused addr code cnt => Sys2Proof.Machine.execCmdRefused addr code cnt s
  | .mbTimeout => Sys2Proof.Machine.execMbTimeout s
  | .ibrStart => Sys2Proof.Machine.execIbrStart s
  | .ibrUnanswered => Sys2Proof.Machine.execIbrUnanswered s
  | .ibrRetry => Sys2Proof.Machine.execIbrRetry s
  | .lullEnter => Sys2Proof.Machine.execLullEnter s
  | .lullWake addressed => Sys2Proof.Machine.execLullWake addressed s
  | .eventOccurrence code fid args ctag coord => Sys2Proof.Machine.execEventOccurrence code fid args ctag coord s
  | .recordWrite => Sys2Proof.Machine.execRecordWrite s
  | .recordLatch => Sys2Proof.Machine.execRecordLatch s
  | .recSeekOldest => Sys2Proof.Machine.execRecSeekOldest s
  | .recSeekNewest => Sys2Proof.Machine.execRecSeekNewest s
  | .logMemFail g cause => Sys2Proof.Machine.execLogMemFail g cause s
  | .mirrorPageProgram => Sys2Proof.Machine.execMirrorPageProgram s
  | .mirrorSectorErase => Sys2Proof.Machine.execMirrorSectorErase s
  | .privRemirror seq => Sys2Proof.Machine.execPrivRemirror seq s
  | .recorderScan => Sys2Proof.Machine.execRecorderScan s
  | .evtPendClear d j v => Sys2Proof.Machine.execEvtPendClear d j v s
  | .evtClearPending d => Sys2Proof.Machine.execEvtClearPending d s
  | .evtClearStats d => Sys2Proof.Machine.execEvtClearStats d s
  | .resetArm f => Sys2Proof.Machine.execResetArm f s
  | .resetFire f => Sys2Proof.Machine.execResetFire f s
  | .resetArmExpire => Sys2Proof.Machine.execResetArmExpire s
  | .resetQuiesce f => Sys2Proof.Machine.execResetQuiesce f s
  | .sectionReloadDone f errs => Sys2Proof.Machine.execSectionReloadDone f errs s
  | .resetResume f => Sys2Proof.Machine.execResetResume f s
  | .watchdogExpire f => Sys2Proof.Machine.execWatchdogExpire f s
  | .memoryEccError mem unit place uncorr => Sys2Proof.Machine.execMemoryEccError mem unit place uncorr s
  | .leadRegisterRead a => Sys2Proof.Machine.execLeadRegisterRead a s
  | .rcRegisterRead a => Sys2Proof.Machine.execRcRegisterRead a s
  | .counterClear a v => Sys2Proof.Machine.execCounterClear a v s
  | .dlClear v => Sys2Proof.Machine.execDlClear v s
  | .prbsTest lane v => Sys2Proof.Machine.execPrbsTest lane v s
  | .registerWrite a v => Sys2Proof.Machine.execRegisterWrite a v s
  | .pageProgramDone which ok => Sys2Proof.Machine.execPageProgramDone which ok s
  | .mirroringResumes => Sys2Proof.Machine.execMirroringResumes s
  | .clockRelock => Sys2Proof.Machine.execClockRelock s

end Sys2Proof.Machine
end

