-- ==== Sys2Proof/WellFormed.lean ====
section
/-! DEFINITION. Which commands are well formed: every operand within the range that its rule gives it. -/

namespace Sys2Proof

/-- The command's operands are within their ranges. -/
def Instr.wellFormed (i : Instr) : Bool :=
  match i with
  | .encoderEdge => true
  | .syncInEdge edge => decide (edge.2 < 2^32)
  | .synRateStep => true
  | .freerunBoundary => true
  | .lineStart => true
  | .syncOutPulseEnd => true
  | .velocityEstimate => true
  | .standstillDeclared => true
  | .runExpectChange _ => true
  | .coastEnd => true
  | .srcResume => true
  | .beaconSend => true
  | .broadcastReceived => true
  | .announceSend => true
  | .announceReceived => true
  | .noMaster => true
  | .masterLost => true
  | .epochFreeze => true
  | .epochApplied => true
  | .commit => true
  | .commitAsap => true
  | .cancel => true
  | .snapGo => true
  | .snapExposureStart => true
  | .snapTransfer => true
  | .snapDone => true
  | .snapNoGrant => true
  | .exposureStart k c => decide (k < 9) && decide (c < 4)
  | .slotEdge slot _ late => decide (slot < 4) && decide (late < 2^16)
  | .bandTransfer slot rowBad pulseBad => decide (slot < 4) && decide (rowBad < 512) && decide (pulseBad < 512)
  | .conversion listed d => mrising listed && listed.all (fun x => decide (x.1 < 24576)) && listed.all (fun x => decide (x.2 < 4096)) && decide (d < 4096)
  | .takeover n => decide (n < 192)
  | .auditReplaced n => decide (n < 192)
  | .columnCalibration m _ b bd _ => mrising m && m.all (fun x => decide (x.1 < 24576)) && mrising b && b.all (fun x => decide (x.1 < 192)) &&
    (bd :: b.map (·.2)).all (fun v => (v.1 ++ v.2).all (fun x => decide (x < 262144)))
  | .tbApply foms => foms.all (fun x => decide (x < 256))
  | .compWrite n => decide (n < 12)
  | .registrationDraw => true
  | .dlSectorCheck n => decide (n < 12)
  | .dsnuLoadDone _ => true
  | .formatterEmit => true
  | .rawRowEmit => true
  | .leadSegmentReceived n => decide (n < 12)
  | .objectTableLine => true
  | .registeredSegmentAccumulate n => decide (n < 12)
  | .verdictEvaluation c => decide (c < 4)
  | .fragmentRecordReceived => true
  | .stitchWindowExpire => true
  | .neighbourFragmentExpire => true
  | .partnerRecordReceived => true
  | .partnerWaitExpire => true
  | .partnerAdopted => true
  | .gustEvaluation c => decide (c < 4)
  | .valveFrameBuild b => decide (b < 8)
  | .frameWordPost b => decide (b < 8)
  | .frameAbandoned b => decide (b < 8)
  | .armExpire => true
  | .partnerGustRecordReceived => true
  | .companionFrameStart p => decide (p < 2)
  | .companionFrameEnd p ws => decide (p < 2) && ws.all (fun x => decide (x < 2^20))
  | .companionLineStart p => decide (p < 2)
  | .companionLineEnd p ws => decide (p < 2) && ws.all (fun x => decide (x < 2^20))
  | .stripeProcess h => decide (h < 2)
  | .portSilent p => decide (p < 2)
  | .companionDiscovery p clocks _ id _ => decide (p < 2) && decide (clocks < 10) && decide (id < 2^16)
  | .contextChangeWrite p => decide (p < 2)
  | .cbTransactionDone p _ => decide (p < 2)
  | .cbContentionRestart p => decide (p < 2)
  | .cbStretchTimeout p => decide (p < 2)
  | .ctxWithdraw p => decide (p < 2)
  | .laneRowSend n => decide (n < 4)
  | .alignRow n => decide (n < 4)
  | .unitAdmit => true
  | .recordEnqueue => true
  | .recordsPacketClose n => decide (n < 4)
  | .ageDrop n c => decide (n < 4) && decide (c < 4)
  | .statusHeartbeat n => decide (n < 4)
  | .laneFault lane cause swing cur => decide (lane < 24) && decide (cause < 4) && decide (swing < 2^16) && decide (cur < 2^16)
  | .laneWarn lane swing cur => decide (lane < 24) && decide (swing < 2^16) && decide (cur < 2^16)
  | .laneMove v => decide (v < 2^32)
  | .laneReturn lane => decide (lane < 24)
  | .lanePolicyUpdate n => decide (n < 4)
  | .setUp n => decide (n < 4)
  | .setIdle n => decide (n < 4)
  | .linkPacketSend n => decide (n < 4)
  | .linkPacketReceived n _ contact => decide (n < 4) && decide (contact.1 < 2^16) && decide (contact.2 < 2^16)
  | .creditSend n => decide (n < 4)
  | .creditReceived n b => decide (n < 4) && decide (b.1 < 2^64) && decide (b.2 < 2^64)
  | .linkWordLockLoss n errs => decide (n < 4) && decide (errs < 65)
  | .linkRetrain n _ foms rtt => decide (n < 4) && foms.all (fun x => decide (x < 256)) && decide (rtt.1 < 2^32) && rtt.2.all (fun x => decide (x < 2^48))
  | .linkTraining n _ foms rtt => decide (n < 4) && foms.all (fun x => decide (x < 256)) && decide (rtt.1 < 2^32) && rtt.2.all (fun x => decide (x < 2^48))
  | .eyeMeasure n hm vm hs vs => decide (n < 4) && decide (hm < 33) && decide (vm < 33) && decide (hs < 33) && decide (vs < 33)
  | .readaptSweep n foms => decide (n < 4) && foms.all (fun x => decide (x < 256))
  | .eqSwap n => decide (n < 4)
  | .pairReceived => true
  | .pairResend n => decide (n < 4)
  | .setPllUnlock n => decide (n < 4)
  | .drive e => decide (e < 16)
  | .sample e => decide (e < 16)
  | .shift e phases => decide (e < 16) && decide (phases < 65)
  | .waitpin e => decide (e < 16)
  | .waittime e => decide (e < 16)
  | .waitpos e => decide (e < 16)
  | .fetch e => decide (e < 16)
  | .fetchn e => decide (e < 16)
  | .store e => decide (e < 16)
  | .storen e => decide (e < 16)
  | .branch e => decide (e < 16)
  | .count e => decide (e < 16)
  | .signal e => decide (e < 16)
  | .waitsig e => decide (e < 16)
  | .const e => decide (e < 16)
  | .halt e => decide (e < 16)
  | .deadlineExpire e => decide (e < 16)
  | .penStart v => decide (v < 2^32)
  | .penHalt v => decide (v < 2^32)
  | .pmemWrite v => decide (v < 2^32)
  | .fifoInWrite v => decide (v < 2^32)
  | .fifoOutRead => true
  | .signalBusWrite v => decide (v < 2^16)
  | .pinLevelChange p _ => decide (p < 80)
  | .rateWindowEnd p rejects => decide (p < 80) && decide (rejects < 2^32)
  | .pinStuckSet p => decide (p < 80)
  | .pinReadbackMismatch p _ => decide (p < 98)
  | .strobeOn n => decide (n < 16)
  | .strobeOff n => decide (n < 16)
  | .strobeEarlyEnd n _ => decide (n < 16)
  | .clockFault => true
  | .meterSample volts amps => decide (volts < 2^16) && decide (amps < 2^16)
  | .inputOutOfRange => true
  | .ledgerEntryClose => true
  | .envelopeWrite v => decide (v < 2^32)
  | .guardCheck => true
  | .guardRestore => true
  | .envelopeBreach => true
  | .grantRequest order who => decide (order < 6) && decide (who < 4)
  | .grantEvaluation => true
  | .grantForced order who => decide (order < 6) && decide (who < 4)
  | .pfThresholdCross _ => true
  | .powerFail => true
  | .pfSeal v => decide (v < 256)
  | .pfSealDone => true
  | .pfRestart => true
  | .hkRoundStart => true
  | .hkConversionDone c v => decide (c < 2) && decide (-32768 ≤ v) && decide (v < 32768)
  | .hkRoundEnd => true
  | .dlHkMiss => true
  | .urgentRequest => true
  | .urgentResult c v => decide (c < 2) && decide (-32768 ≤ v) && decide (v < 32768)
  | .orderlyStopConfirm => true
  | .orderlyStopCut => true
  | .calmEntered => true
  | .calmAutoRestart => true
  | .thmRestart key => decide (key < 256)
  | .trip _ => true
  | .tripFlashCut _ => true
  | .tripRestart => true
  | .powerGood => true
  | .nreset _ => true
  | .refclkLost => true
  | .refclkReturn => true
  | .startupStepEnd n _ bad => decide (n < 9) && decide (bad < 2^16)
  | .laneBringupBegin => true
  | .captureBegin => true
  | .warmupEnd => true
  | .bootRestart => true
  | .bootVerify => true
  | .verifyDone _ => true
  | .bootCommit => true
  | .nvRead => true
  | .nvProgram => true
  | .nvErase => true
  | .nvOperationDone _ => true
  | .attGo => true
  | .attestationDone => true
  | .getState addr n => decide (addr < 256) && decide (n < 256)
  | .getAttn addr n => decide (addr < 256) && decide (n < 256)
  | .getId addr n => decide (addr < 256) && decide (n < 256)
  | .getPtr addr n => decide (addr < 256) && decide (n < 256)
  | .getBus addr n => decide (addr < 256) && decide (n < 256)
  | .blockWrite addr cnt _ => decide (addr < 256) && decide (cnt < 256)
  | .blockRead addr cnt n => decide (addr < 256) && decide (cnt < 256) && decide (n < 512)
  | .setPtr addr ptr _ n => decide (addr < 256) && decide (ptr < 2^24) && decide (n < 2^16)
  | .continue addr _ n => decide (addr < 256) && decide (n < 2^16)
  | .cmdRefused addr code cnt => decide (addr < 256) && decide (code < 256) && decide (cnt < 256)
  | .mbTimeout => true
  | .ibrStart => true
  | .ibrUnanswered => true
  | .ibrRetry => true
  | .lullEnter => true
  | .lullWake _ => true
  | .eventOccurrence code fid args ctag coord => decide (code < 2^12) && decide (fid < 2^20) && args.all (fun x => decide (x < 2^32)) && decide (ctag < 16) && decide (coord < 2^40)
  | .recordWrite => true
  | .recordLatch => true
  | .recSeekOldest => true
  | .recSeekNewest => true
  | .logMemFail g cause => decide (g < 16384) && decide (cause < 2^32)
  | .mirrorPageProgram => true
  | .mirrorSectorErase => true
  | .privRemirror seq => decide (seq < 2^32)
  | .recorderScan => true
  | .evtPendClear d j v => decide (d < 12) && decide (j < 2) && decide (v < 2^32)
  | .evtClearPending d => decide (d < 12)
  | .evtClearStats d => decide (d < 12)
  | .resetArm f => decide (f < 2^20)
  | .resetFire f => decide (f < 2^20)
  | .resetArmExpire => true
  | .resetQuiesce f => decide (f < 2^20)
  | .sectionReloadDone f errs => decide (f < 2^20) && decide (errs < 3)
  | .resetResume f => decide (f < 2^20)
  | .watchdogExpire f => decide (f < 2^20)
  | .memoryEccError mem unit place _ => decide (mem < 18) && decide (unit < 2^32) && decide (place < 2^32)
  | .leadRegisterRead a => decide (a < 2^24)
  | .rcRegisterRead a => decide (a < 2^24)
  | .counterClear a v => decide (a < 2^24) && decide (v < 2^32)
  | .dlClear v => decide (v < 2^32)
  | .prbsTest lane v => decide (lane < 24) && decide (v < 2^32)
  | .registerWrite a v => decide (a < 2^24) && decide (v < 2^32)
  | .pageProgramDone which _ => decide (which < 3)
  | .mirroringResumes => true
  | .clockRelock => true

end Sys2Proof
end

