-- ==== Sys2Proof/Safety.lean ====
section
/-! DEFINITION. What counts as a safe step, and the form that every state of a run has, in the terms that the statements
use. -/

namespace Sys2Proof.Machine

/-- The step from `s` goes on: no fault, no refusal. -/
def goesOn (s : State) : Prop := ∃ t, step s = .next t

/-- Command `c` answers a next state from `s`, and that state has `P`. -/
def completes (c : Instr) (s : State) (P : State → Prop) : Prop := ∃ t, exec c s = .next t ∧ P t

/-- The pending bit of event `code` is set (R502). -/
def eventPending (s : State) (code : Nat) : Bool := (srcOf s.evt code).pend

/-- The event tree takes occurrences at once: its function is not in reset (R523). -/
def eventsTaken (s : State) : Bool := !inReset s 0xB0200

/-- Engine `g` after a step that ends with delay `dly` and goes on at offset `pc` (R358-R360). -/
def stepOver (g : Engine) (pc dly : Nat) : Engine :=
  { g with pc := pc % 2048, delay := dly, st := 1, begun := false, shift := none, edge := false }

/-- Engine `g` after step word `w` that goes on at the next one. -/
def stepPast (g : Engine) (w : Nat) : Engine := stepOver g (g.pc + 1) (dlyOf w)

/-- Engine `e` is `g` and runs at step word `w`, which has operation `op` and does not lie at LIMIT. -/
def runsAt (s : State) (e op w : Nat) (g : Engine) : Prop :=
  atStep s e op = true ∧ w = curWord s e ∧ g = eng s e ∧ progBase s e + g.pc + 1 ≤ progLimit s e

/-- Engine `e` is `g` and stands at step word `w`, which has operation `op`. -/
def standsAt (s : State) (e op w : Nat) (g : Engine) : Prop := atStep s e op = true ∧ w = curWord s e ∧ g = eng s e

/-- The `m`-th bit, from 1, that SHIFT `w` takes from OSR (R363). -/
def shiftedBit (w m : Nat) (g : Engine) : Nat :=
  if opdOf w / 2 % 2 = 1 then g.osr / 2 ^ (m - 1) % 2 else g.osr / 2 ^ (32 - m) % 2

/-- Output register `o` of engine `e` with the `m`-th bit of SHIFT `w` on DOUT, where the mode puts bits out (R363). -/
def doutSet (s : State) (e w m : Nat) (g : Engine) (o : Nat) : Nat :=
  if opdOf w / 4 = 1 then o
  else setBits o (efld s Reg.PEN_ENG_PINS e 19 16) (efld s Reg.PEN_ENG_PINS e 19 16) (shiftedBit w m g)

/-- Output register `o` of engine `e` with the clock output at its active level, or at its inactive one, which CLKPOL gives
(R363). -/
def clkSet (s : State) (e : Nat) (active : Bool) (o : Nat) : Nat :=
  setBits o (efld s Reg.PEN_ENG_PINS e 3 0) (efld s Reg.PEN_ENG_PINS e 3 0)
    (b2n (active != rbit s (Reg.PEN_ENG_CFG + 0x20 * e) 3))

/-- Engine `g` after `m` whole bits of SHIFT `w`, each of which samples `b` (R363): the bits leave OSR and enter ISR, as the mode
says. -/
def bitsShifted (w m b : Nat) (g : Engine) : Engine :=
  if m = 0 then g
  else { g with
    osr := if opdOf w / 4 = 1 then g.osr else if opdOf w / 2 % 2 = 1 then g.osr / 2 ^ m else g.osr * 2 ^ m % 2 ^ 32
    isr := if opdOf w / 4 = 0 then g.isr else if opdOf w / 2 % 2 = 1 then g.isr / 2 ^ m + b * (2 ^ 32 - 2 ^ (32 - m))
      else (g.isr * 2 ^ m + b * (2 ^ m - 1)) % 2 ^ 32 }

/-- In `t`, `k` steps have been counted in one cycle of `s` (R42, R49, R51): Q goes on modulo LINE_STEPS, and each time it comes to
0, L advances by one and the new line is due with its P and T. -/
def stepsMade (s t : State) (k : Nat) : Prop :=
  t.tbs.q = (s.tbs.q + k) % lineSteps s ∧
    t.tbs.l % 2 ^ 32 = (s.tbs.l + (s.tbs.q + k) / lineSteps s) % 2 ^ 32 ∧
    t.tbs.due = s.tbs.due ++ (List.range ((s.tbs.q + k) / lineSteps s)).map (fun i =>
      ⟨(s.tbs.l + i + 1) % 2 ^ 32, (s.tbs.p + ((i + 1) * lineSteps s - s.tbs.q)) % 2 ^ 40, s.t, none, false⟩)

/-- In `t`, engine `e` is `g`; every other engine and the rest of the pin engines' domain are as in `s`. -/
def onlyEngine (s t : State) (e : Nat) (g : Engine) : Prop :=
  eng t e = g ∧ (∀ k, k ≠ e → eng t k = eng s k) ∧ { t.pen with eng := s.pen.eng } = s.pen

/-- Register field `[hi:lo]` at `a` has counted `n` more, saturating at its width. -/
def countedMore (s t : State) (a hi lo n : Nat) : Prop := rfld t a hi lo = satN (hi - lo + 1) (rfld s a hi lo + n)

/-- The device is held in reset: before step 1, every register but NRG_PF_STATUS and MGT_BOOT_COUNT at its reset value (R401, R432,
R534, R555). -/
def heldDown (t : State) : Prop :=
  t.mgt.step = 0 ∧ t.mgt.state = .boot ∧ t.pen.hiz = true ∧
    ∀ a, a ≠ Reg.NRG_PF_STATUS → a ≠ Reg.MGT_BOOT_COUNT → rget t a = resetOf a

/-- The device starts anew from step 1 with T at 0, every register but NRG_PF_STATUS, MGT_BOOT_COUNT and MGT_ATT_STATUS (R467)
at its reset value (R459, R460, R534). -/
def startsAnew (t : State) : Prop :=
  t.t = 0 ∧ t.mgt.step = 1 ∧ t.mgt.state = .boot ∧ t.pen.hiz = true ∧
    ∀ a, a ≠ Reg.NRG_PF_STATUS → a ≠ Reg.MGT_BOOT_COUNT → a ≠ Reg.MGT_ATT_STATUS → rget t a = resetOf a

/-- Nothing but the reset itself holds the device: no line, no power-fail sequence, no trip. -/
def nothingHolds (s : State) : Prop := s.mgt.downBy = [] ∧ s.nrg.pf ≤ 1 ∧ s.thm.trip = 0

/-- No flash operation is in hand. -/
def flashIdle (s : State) : Prop :=
  s.mgt.nvOp = none ∧ s.mgt.devOps = [] ∧ s.evt.rcd.mProg = none ∧ s.evt.rcd.mErasing = none

/-- Start-up step `n` has ended at the time that `s` shows (R460). -/
def stepTimed (s t : State) (n : Nat) : Prop :=
  n ∈ t.mgt.stepsDone ∧ rnat t (Reg.MGT_SU_STEP + 4 * (n - 1)) = startUs s % 2 ^ 32

/-- The bytes of a fixed read of code `cmd` with data `d`: the check byte follows when PEC is in force (R482, R484). -/
def fixedAnswer (s : State) (addr cmd : Nat) (d : List Byte) : List Byte :=
  if pecOn s then d ++ [pec ([addrByte addr false, BitVec.ofNat 8 cmd, addrByte addr true] ++ d)] else d

/-- The state with the transaction in hand that addresses the target now, and the pointer at `p`. -/
def addressedAt (s : State) (p : Nat) : State := { s with mb := { s.mb with lastAddr := s.t, ptr := p, hung := false } }

/-- The target answers at `addr`, its own address, and is not in Lull. -/
def answersOwn (s : State) (addr : Nat) : Prop := mbAnswers s = true ∧ addr = ownAddr s ∧ s.mb.lull = false

/-- The fields of a register lie in its 32 bits and do not overlap. -/
def fieldsApart (l : List Fld) : Prop :=
  (∀ f, f ∈ l → f.lo ≤ f.hi ∧ f.hi < 32) ∧ l.Pairwise (fun f g => f.hi < g.lo ∨ g.hi < f.lo)

/-- The register at `a` has read-write fields only, each takes its part of the word `v` whatever the other registers hold, and the
write has no effect beyond the register. -/
def takesWord (a v : Nat) : Prop :=
  findEvt a = none ∧ mixedFields a = none ∧ (∀ s, crossRefused s a v = false) ∧ a ≠ Reg.MGT_MB_CFG ∧ a ≠ Reg.PEN_PMEM_DATA ∧
    a ≠ Reg.NRG_ENV ∧ a ≠ Reg.PEN_SIG ∧ (a < Reg.LNK_DT_TEST ∨ Reg.LNK_DT_TEST + 0x300 ≤ a) ∧
    ∃ d n, findReg a = some (d, n) ∧ d.flds ≠ [] ∧ (∀ f, f ∈ d.flds → f.acc = .rw ∧ fldRefused v f = false) ∧ fieldsApart d.flds

/-- Every field of the register at `a` holds its part of the word `v`. -/
def holdsWord (s : State) (a v : Nat) : Prop :=
  ∃ d n, findReg a = some (d, n) ∧ ∀ f, f ∈ d.flds → rfld s a f.hi f.lo = bits v f.hi f.lo

/-- On a companion port no turn of the exposure loop waits and no context is left to retire (R300, R306). -/
def portSettled (x : AuxPort) : Bool := x.loopDue.isNone && decide (ctxRetire x = x)

/-- Every command that waits is well formed. -/
def queueWellFormed (s : State) : Bool := s.pending.all Instr.wellFormed

/-- The canonical form of a map whose unlisted key `k` holds `d k`: rising keys, and no entry equal to what an unlisted key
reads as. -/
def mapForm {α : Type} [DecidableEq α] (d : Nat → α) (m : Map α) : Bool :=
  mrising m && m.all (fun p => decide (p.2 ≠ d p.1))

/-- The parts of a state that its form is about. -/
structure FormView where
  regs : Map Word
  flash : Map Byte
  pmem : Map Byte
  tmem : Map Byte
  prog : Map Word
  intake : Nat

/-- The form: the register file (R534), the flash (R433), the parameter memory (R180), the companion table memory and the program
memory (R370) are in canonical form, and the intake of the recorder holds at most its 8 entries (R512). -/
def FormView.ok (v : FormView) : Prop :=
  mapForm resetOf v.regs = true ∧ mapForm (fun _ => 0xFF#8) v.flash = true ∧ mapForm pmDefault v.pmem = true ∧
    mapForm (fun _ => 0#8) v.tmem = true ∧ mapForm (fun _ => 0#32) v.prog = true ∧ v.intake ≤ 8

/-- What the form reads of a state. -/
def State.formView (s : State) : FormView :=
  ⟨s.regs, s.mgt.flash, s.pip.pmem, s.aux.tmem, s.pen.pmem, s.evt.rcd.intake.length⟩

/-- A state of good form. -/
def State.formed (s : State) : Prop := s.formView.ok

/-- A part of the state, named as its field. `pending`, the queue, is no part of the device. -/
inductive StatePart
  | regs | latched | t | tbs | grp | evt | rst | mgt | mb | xw | ary | col | pip | vdt | xwIn | aux | lnk | pen | nrg | thm | free
  deriving DecidableEq, Repr

/-- Every part of the device. -/
def StatePart.device : List StatePart :=
  [.regs, .latched, .t, .tbs, .grp, .evt, .rst, .mgt, .mb, .xw, .ary, .col, .pip, .vdt, .xwIn, .aux, .lnk, .pen, .nrg, .thm, .free]

/-- Part `p` is the same in `u` as in `s`. -/
def samePart (s u : State) (p : StatePart) : Prop :=
  match p with
  | .regs => u.regs = s.regs
  | .latched => u.latched = s.latched
  | .t => u.t = s.t
  | .tbs => u.tbs = s.tbs
  | .grp => u.grp = s.grp
  | .evt => u.evt = s.evt
  | .rst => u.rst = s.rst
  | .mgt => u.mgt = s.mgt
  | .mb => u.mb = s.mb
  | .xw => u.xw = s.xw
  | .ary => u.ary = s.ary
  | .col => u.col = s.col
  | .pip => u.pip = s.pip
  | .vdt => u.vdt = s.vdt
  | .xwIn => u.xwIn = s.xwIn
  | .aux => u.aux = s.aux
  | .lnk => u.lnk = s.lnk
  | .pen => u.pen = s.pen
  | .nrg => u.nrg = s.nrg
  | .thm => u.thm = s.thm
  | .free => u.free = s.free

/-- The parts that a command may change: those its rules name, with the event tree where it raises an event or counts a miss and
the registers where it writes a status, a count or a maximum. A command that restarts or resets the device, or writes any
register, may change every part. -/
def touches (c : Instr) : List StatePart :=
  match c with
  | .encoderEdge => [.tbs, .grp, .evt, .xw, .pip, .pen]
  | .syncInEdge .. | .synRateStep | .freerunBoundary => [.tbs, .grp, .evt, .xw, .pip]
  | .lineStart => [.regs, .tbs, .evt, .mgt, .ary, .col, .pip, .vdt, .pen]
  | .syncOutPulseEnd | .velocityEstimate => [.tbs]
  | .standstillDeclared => [.regs, .tbs, .evt, .pip, .vdt]
  | .runExpectChange .. | .pinLevelChange .. | .rateWindowEnd .. | .pinStuckSet .. => [.tbs, .evt, .pen]
  | .coastEnd | .srcResume => [.tbs, .evt]
  | .beaconSend => [.grp, .xw]
  | .broadcastReceived => [.regs, .tbs, .grp, .evt, .xw, .pip, .xwIn]
  | .announceSend | .creditReceived .. | .pairResend .. => [.xw]
  | .announceReceived => [.t, .grp, .evt, .rst, .mgt, .mb, .xw, .xwIn, .pen, .nrg, .thm]
  | .noMaster => [.grp, .evt]
  | .masterLost => [.tbs, .grp, .evt]
  | .epochFreeze | .snapExposureStart | .snapTransfer | .exposureStart .. => [.ary]
  | .epochApplied => [.regs, .evt, .ary, .aux, .nrg]
  | .commit | .commitAsap | .cancel => [.regs, .evt, .ary, .aux]
  | .snapGo => [.regs, .evt, .ary]
  | .snapDone => [.regs, .evt, .ary, .pip, .nrg]
  | .snapNoGrant => [.regs, .evt, .ary, .nrg]
  | .slotEdge .. => [.evt, .ary]
  | .bandTransfer .. => [.regs, .evt, .rst, .ary]
  | .conversion .. => [.regs, .evt, .ary, .col, .pip, .vdt]
  | .takeover .. => [.evt, .col, .pip]
  | .auditReplaced .. | .columnCalibration .. => [.evt, .col]
  | .tbApply .. => [.regs, .evt, .mgt, .xw, .ary, .col, .pip, .aux, .nrg, .thm]
  | .compWrite .. => [.regs, .evt, .ary, .pip, .vdt]
  | .registrationDraw | .dlSectorCheck .. => [.regs, .tbs, .evt, .ary, .pip, .vdt, .aux, .lnk]
  | .dsnuLoadDone .. => [.evt, .mgt, .pip]
  | .formatterEmit => [.regs, .evt, .pip]
  | .rawRowEmit => [.regs, .pip]
  | .leadSegmentReceived .. => [.regs, .evt, .pip, .vdt]
  | .objectTableLine | .registeredSegmentAccumulate .. => [.regs, .tbs, .evt, .xw, .pip, .vdt]
  | .verdictEvaluation .. => [.regs, .evt, .xw, .vdt]
  | .fragmentRecordReceived => [.regs, .tbs, .evt, .xw, .vdt, .xwIn]
  | .stitchWindowExpire => [.regs, .tbs, .evt, .xw, .vdt]
  | .neighbourFragmentExpire => [.vdt]
  | .partnerRecordReceived => [.regs, .evt, .vdt, .xwIn]
  | .partnerWaitExpire | .partnerAdopted | .valveFrameBuild .. => [.regs, .tbs, .evt, .vdt]
  | .gustEvaluation .. => [.regs, .xw, .vdt, .free]
  | .frameWordPost .. => [.vdt, .pen]
  | .frameAbandoned .. => [.evt, .vdt]
  | .armExpire => [.regs, .vdt]
  | .partnerGustRecordReceived => [.regs, .vdt, .xwIn]
  | .companionFrameStart .. | .companionFrameEnd .. | .companionLineStart .. | .companionLineEnd .. | .stripeProcess ..
    | .portSilent .. | .companionDiscovery .. | .contextChangeWrite .. | .cbTransactionDone .. | .cbContentionRestart ..
    | .cbStretchTimeout .. | .ctxWithdraw .. => [.regs, .evt, .ary, .aux, .free]
  | .laneRowSend .. | .laneFault .. | .laneWarn .. => [.regs, .evt, .lnk]
  | .alignRow .. | .unitAdmit | .setPllUnlock .. => [.regs, .evt, .pip, .lnk]
  | .recordEnqueue => [.regs, .evt, .vdt, .lnk]
  | .recordsPacketClose .. | .statusHeartbeat .. => [.lnk]
  | .ageDrop .. => [.regs, .tbs, .evt, .pip, .lnk]
  | .laneMove .. | .laneReturn .. | .lanePolicyUpdate .. | .setIdle .. => [.evt, .lnk]
  | .setUp .. => [.regs, .evt, .mgt, .lnk]
  | .linkPacketSend .. => [.regs, .evt, .xw, .lnk]
  | .linkPacketReceived .. => [.regs, .evt, .xw, .xwIn, .lnk]
  | .creditSend .. => [.xw, .lnk]
  | .linkWordLockLoss .. => [.regs, .evt, .xw, .lnk, .nrg]
  | .linkRetrain .. | .linkTraining .. => [.regs, .grp, .evt, .xw, .lnk, .free]
  | .eyeMeasure .. | .eqSwap .. => [.regs, .evt, .xw]
  | .readaptSweep .. => [.regs, .evt, .xw, .nrg]
  | .pairReceived => [.regs, .evt, .xw, .xwIn, .lnk, .nrg]
  | .drive .. | .sample .. | .shift .. | .branch .. | .count .. | .signal .. | .const .. | .halt .. | .penHalt ..
    | .fifoInWrite .. | .clockFault => [.evt, .pen]
  | .waitpin .. | .waittime .. | .waitpos .. | .fetch .. | .store .. | .waitsig .. | .deadlineExpire .. =>
      [.regs, .tbs, .evt, .pen]
  | .fetchn .. | .storen .. | .penStart .. | .pmemWrite .. | .strobeEarlyEnd .. => [.regs, .evt, .pen]
  | .fifoOutRead | .blockRead .. | .recordLatch | .leadRegisterRead .. | .rcRegisterRead .. =>
      [.regs, .latched, .evt, .mb, .xw, .lnk, .pen]
  | .signalBusWrite .. | .strobeOff .. | .clockRelock => [.pen]
  | .pinReadbackMismatch .. | .inputOutOfRange | .eventOccurrence .. | .privRemirror .. | .evtPendClear ..
    | .evtClearPending .. | .evtClearStats .. | .mirroringResumes => [.evt]
  | .strobeOn .. | .hkRoundStart => [.pen, .thm]
  | .meterSample .. => [.regs, .nrg]
  | .ledgerEntryClose => [.regs, .evt, .lnk, .nrg]
  | .envelopeWrite .. | .powerFail | .calmAutoRestart | .thmRestart .. | .trip .. | .tripFlashCut .. | .nreset ..
    | .refclkLost | .bootRestart | .blockWrite .. | .setPtr .. | .continue .. | .watchdogExpire .. | .prbsTest ..
    | .registerWrite .. => StatePart.device
  | .guardCheck | .guardRestore | .grantRequest .. => [.nrg]
  | .envelopeBreach => [.evt, .nrg]
  | .grantEvaluation => [.regs, .mgt, .xw, .ary, .pip, .nrg, .thm]
  | .grantForced .. => [.regs, .evt, .mgt, .xw, .ary, .pip, .nrg, .thm]
  | .pfThresholdCross .. => [.regs, .evt, .mgt, .nrg]
  | .pfSeal .. | .pfSealDone | .pfRestart | .tripRestart | .powerGood | .refclkReturn => StatePart.device.erase .free
  | .hkConversionDone .. => [.thm]
  | .hkRoundEnd => [.regs, .evt, .mgt, .nrg, .thm]
  | .dlHkMiss => [.regs, .tbs, .evt, .thm]
  | .urgentRequest | .urgentResult .. => [.regs, .evt, .thm]
  | .orderlyStopConfirm => [.evt, .thm]
  | .orderlyStopCut => [.regs, .evt, .mgt, .xw, .ary, .col, .pip, .vdt, .lnk, .pen, .nrg, .thm]
  | .calmEntered => [.evt, .mgt, .pen, .thm]
  | .startupStepEnd .. => [.regs, .tbs, .grp, .evt, .mgt, .mb, .xw, .ary, .col, .pip, .aux, .lnk, .pen, .nrg, .thm, .free]
  | .laneBringupBegin => [.regs, .evt, .mgt, .pip, .lnk]
  | .captureBegin => [.mgt]
  | .warmupEnd | .verifyDone .. => [.regs, .evt, .mgt]
  | .bootVerify => [.regs, .mgt]
  | .bootCommit | .mirrorPageProgram | .mirrorSectorErase | .recorderScan => [.evt, .mgt]
  | .nvRead | .nvProgram | .nvErase | .attGo => [.regs, .mgt, .nrg]
  | .nvOperationDone .. => [.regs, .evt, .mgt, .nrg, .free]
  | .attestationDone => [.regs, .mgt, .nrg, .free]
  | .getState .. | .getAttn .. | .getId .. | .getPtr .. | .getBus .. | .lullWake .. => [.regs, .mb]
  | .cmdRefused .. | .mbTimeout | .ibrStart | .ibrUnanswered | .ibrRetry => [.regs, .evt, .mb]
  | .lullEnter => [.evt, .mb]
  | .recordWrite | .logMemFail .. => [.regs, .tbs, .evt]
  | .recSeekOldest | .recSeekNewest | .dlClear .. => [.regs]
  | .resetArm .. | .resetArmExpire => [.rst]
  | .resetFire .. => [.regs, .evt, .rst]
  | .resetQuiesce .. =>
      [.regs, .latched, .tbs, .grp, .evt, .rst, .mgt, .mb, .xw, .ary, .col, .pip, .vdt, .xwIn, .aux, .lnk, .pen, .nrg, .thm, .free]
  | .sectionReloadDone .. => [.regs, .evt, .rst, .mgt, .pip, .aux, .pen]
  | .resetResume .. => [.regs, .tbs, .evt, .rst, .mgt, .xw, .ary, .col, .pip, .vdt, .aux, .lnk, .pen, .nrg, .thm]
  | .memoryEccError .. => [.regs, .tbs, .evt, .rst, .mgt, .xw, .col, .pip, .vdt, .aux, .lnk, .pen, .free]
  | .counterClear .. => [.regs, .evt, .pen, .thm]
  | .pageProgramDone .. => [.regs, .tbs, .evt, .mgt, .nrg]

end Sys2Proof.Machine
end

