-- ==== Sys2Proof/Certificates/Slice0/Obligations.lean ====
section
/-! DEFINITION. The statements for the provers. In each, a command is said to complete from a state when exec answers a next state;
what then holds of that state is what the named rules give. A position, a line or a time of fewer bits than its Nat is compared
modulo its range. -/

open Sys2Proof Sys2Proof.Machine

/-! ### The machine as a whole -/

/-- A step with command c at the front of the queue is exec of c on the state with the rest of the queue. -/
def Obligations.StepRunsFrontCommand : Prop :=
  ∀ (s : State) (c : Instr) (rest : List Instr), step { s with pending := c :: rest } = exec c { s with pending := rest }

/-- The frame of every command. Each command answers a next state, in which the queue and every part of the device outside the
parts that the command may change (Sys2Proof.Machine.touches) are as they were. -/
def Obligations.CommandsKeepQueueAndOtherParts : Prop :=
  ∀ (c : Instr) (s : State), completes c s (fun t => t.pending = s.pending ∧ ∀ p, p ∉ touches c → samePart s t p)

/-- R40, R63 and the model's choice of log entry 18. With an empty queue a step is one 5 ns cycle: T advances by one; by two in
every fourth cycle while a positive e is paid off; by none in one of every five while a negative e is. -/
def Obligations.IdleStepIsOneCycle : Prop :=
  ∀ s : State, s.pending = [] → ∃ t, step s = .next t ∧ t.pending = [] ∧ t.regs = s.regs ∧
    (s.grp.pay = 0 → t.t = (s.t + 1) % 2 ^ 64) ∧
    (0 < s.grp.pay → s.grp.cyc % 4 ≠ 3 → t.t = (s.t + 1) % 2 ^ 64 ∧ t.grp.pay = s.grp.pay ∧ t.grp.cyc = s.grp.cyc + 1) ∧
    (0 < s.grp.pay → s.grp.cyc % 4 = 3 → t.t = (s.t + 2) % 2 ^ 64 ∧ t.grp.pay = s.grp.pay - 1 ∧ t.grp.cyc = 0) ∧
    (s.grp.pay < 0 → s.grp.cyc % 5 ≠ 4 → t.t = (s.t + 1) % 2 ^ 64 ∧ t.grp.pay = s.grp.pay ∧ t.grp.cyc = s.grp.cyc + 1) ∧
    (s.grp.pay < 0 → s.grp.cyc % 5 = 4 → t.t = s.t % 2 ^ 64 ∧ t.grp.pay = s.grp.pay + 1 ∧ t.grp.cyc = 0)

/-- R534, R543. After reset every register reads its reset value, the device stands before start-up step 1 in BOOT with nothing
loaded, every pin is high-impedance, P, L and T are 0, and no command waits (P, L and the queue are the model's own, log entry
103). -/
def Obligations.ResetIsBeforeStepOne : Prop :=
  (∀ a, rget State.reset a = resetOf a) ∧ State.reset.mgt.state = .boot ∧ State.reset.mgt.step = 1 ∧
      State.reset.mgt.loaded = false ∧
    State.reset.pen.hiz = true ∧ State.reset.tbs.p = 0 ∧ State.reset.tbs.l = 0 ∧ State.reset.t = 0 ∧ State.reset.pending = []

/-- The state after reset is of good form. -/
def Obligations.ResetIsFormed : Prop := State.reset.formed

/-- Every step keeps the form: the maps of registers, flash, parameter memory, companion tables and step memory stay canonical, and
the recorder's intake stays within its 8 entries (R512). -/
def Obligations.StepsKeepForm : Prop := ∀ s t : State, s.formed → step s = .next t → t.formed

/-! ### Position timebase (02_position_timebase.md) -/

/-- R42, R43, R44, R45, R53. An accepted forward encoder edge pays the deficit off, or with no deficit adds M to A and gives one
step for every N in A; an accepted reverse edge adds one to the deficit, saturating at 0xF_FFFF, and P stays. An accepted
SYNC_IN edge gives one step, or LINE_STEPS at once under EXTTRIG. A cycle of SYN gives the whole steps of the accumulated rate.
R49, R51. Each step counts in Q, and where Q comes to 0, L advances by one and the new line is due with its P and its T.
R44. An encoder edge within 40 ns of the previous accepted edge is not counted, and a SYNC_IN edge within 40 ns of the previous
counted one or shorter than the filter time is ignored and raises event 0x300; the timebase stays as it is. R71. An edge that
IN_EDGE does not select does nothing. What the model chose or inferred in it: log entry 249. -/
def Obligations.SourceInputMovesPosition : Prop :=
  (∀ (s : State) (rest : List Bool), s.pen.posted = true :: rest → counting s = true → source s = 0 →
      (∀ t0, s.tbs.encT = some t0 → t0 + 8 ≤ s.t) → s.tbs.deficit ≠ 0 →
      completes .encoderEdge s (fun t => t.tbs.deficit = s.tbs.deficit - 1 ∧ t.tbs.p = s.tbs.p ∧ t.tbs.acc = s.tbs.acc ∧
        t.tbs.encT = some s.t ∧ t.pen.posted = rest)) ∧
  (∀ (s : State) (rest : List Bool), s.pen.posted = true :: rest → counting s = true → source s = 0 →
      (∀ t0, s.tbs.encT = some t0 → t0 + 8 ≤ s.t) → s.tbs.deficit = 0 →
      completes .encoderEdge s (fun t =>
        t.tbs.p % 2 ^ 40 = (s.tbs.p + (s.tbs.acc + rfld s Reg.TBS_SCALE 31 16) / rfld s Reg.TBS_SCALE 15 0) % 2 ^ 40 ∧
        t.tbs.acc = (s.tbs.acc + rfld s Reg.TBS_SCALE 31 16) % rfld s Reg.TBS_SCALE 15 0 ∧
        t.tbs.deficit = 0 ∧ t.tbs.encT = some s.t ∧ t.pen.posted = rest)) ∧
  (∀ (s : State) (rest : List Bool), s.pen.posted = false :: rest → counting s = true → source s = 0 →
      (∀ t0, s.tbs.encT = some t0 → t0 + 8 ≤ s.t) →
      completes .encoderEdge s (fun t => t.tbs.deficit = min (s.tbs.deficit + 1) 0xFFFFF ∧ t.tbs.p = s.tbs.p ∧
        t.tbs.l = s.tbs.l ∧ t.tbs.acc = s.tbs.acc ∧ t.tbs.encT = some s.t ∧ t.pen.posted = rest)) ∧
  (∀ (s : State) (rising : Bool) (width : Nat), counting s = true → source s = 1 → edgeSelected rising s = true →
      (∀ t0, s.tbs.syncT = some t0 → t0 + 8 ≤ s.t) → rfld s Reg.TBS_SYNC_CFG 29 20 ≤ width → captureMode s ≠ 1 →
      completes (.syncInEdge (rising, width)) s (fun t => t.tbs.p = (s.tbs.p + 1) % 2 ^ 40 ∧ t.tbs.syncT = some s.t)) ∧
  (∀ (s : State) (rising : Bool) (width : Nat), counting s = true → source s = 1 → edgeSelected rising s = true →
      (∀ t0, s.tbs.syncT = some t0 → t0 + 8 ≤ s.t) → rfld s Reg.TBS_SYNC_CFG 29 20 ≤ width → captureMode s = 1 →
      completes (.syncInEdge (rising, width)) s (fun t => t.tbs.p = (s.tbs.p + lineSteps s) % 2 ^ 40 ∧
        t.tbs.l = (s.tbs.l + 1) % 2 ^ 32 ∧ t.tbs.syncT = some s.t)) ∧
  (∀ (s : State) (rest : List Bool), s.pen.posted = true :: rest → counting s = true → source s = 0 →
      (∀ t0, s.tbs.encT = some t0 → t0 + 8 ≤ s.t) → s.tbs.deficit = 0 → s.tbs.q < lineSteps s →
      completes .encoderEdge s (fun t => stepsMade s t ((s.tbs.acc + rfld s Reg.TBS_SCALE 31 16) / rfld s Reg.TBS_SCALE 15 0))) ∧
  (∀ (s : State) (rising : Bool) (width : Nat), counting s = true → source s = 1 → edgeSelected rising s = true →
      (∀ t0, s.tbs.syncT = some t0 → t0 + 8 ≤ s.t) → rfld s Reg.TBS_SYNC_CFG 29 20 ≤ width → s.tbs.q < lineSteps s →
      completes (.syncInEdge (rising, width)) s (fun t => (captureMode s ≠ 1 → stepsMade s t 1) ∧
        (captureMode s = 1 → t.tbs.q = s.tbs.q ∧ t.tbs.due = s.tbs.due ++
          [⟨(s.tbs.l + 1) % 2 ^ 32, (s.tbs.p + lineSteps s) % 2 ^ 40, s.t, none, false⟩]))) ∧
  (∀ s : State, counting s = true → source s = 3 → s.tbs.q < lineSteps s →
      completes .synRateStep s (fun t => stepsMade s t ((s.tbs.rateAcc + rnat s Reg.TBS_SYN_RATE) / (200 * 2 ^ 22)))) ∧
  (∀ s : State, counting s = true → source s = 3 →
      completes .synRateStep s (fun t =>
        t.tbs.p % 2 ^ 40 = (s.tbs.p + (s.tbs.rateAcc + rnat s Reg.TBS_SYN_RATE) / (200 * 2 ^ 22)) % 2 ^ 40 ∧
        t.tbs.rateAcc = (s.tbs.rateAcc + rnat s Reg.TBS_SYN_RATE) % (200 * 2 ^ 22))) ∧
  (∀ (s : State) (d : Bool) (rest : List Bool) (t0 : Nat), s.pen.posted = d :: rest → s.tbs.encT = some t0 → s.t < t0 + 8 →
      completes .encoderEdge s (fun t => t.tbs = s.tbs ∧ t.grp = s.grp ∧ t.evt = s.evt ∧ t.xw = s.xw)) ∧
  (∀ (s : State) (rising : Bool) (width t0 : Nat), counting s = true → source s = 1 → edgeSelected rising s = true →
      eventsTaken s = true → (s.tbs.syncT = some t0 ∧ s.t < t0 + 8 ∨ width < rfld s Reg.TBS_SYNC_CFG 29 20) →
      completes (.syncInEdge (rising, width)) s (fun t => t.tbs = s.tbs ∧ eventPending t 0x300 = true)) ∧
  (∀ (s : State) (rising : Bool) (width : Nat), edgeSelected rising s = false →
      completes (.syncInEdge (rising, width)) s (fun t => t = s))

/-- R49, R50, R52, R53, R54. A boundary of the free-run rate advances P by LINE_STEPS and L by one and makes the new line due,
also while a reverse deficit stands (log entry 245). At T_L of the oldest line that is due, a line with no failing condition of
R52 is captured under the epoch in force, and one with a failing condition is GAP; either leaves its P, T_L, epoch and GAP mark
at the head of the history of at most 4,096 entries. R46, R55, R58, R59, R60. The SYNC_OUT pulse ends; the estimate of V is 0 in
standstill or with a deficit, and otherwise, with a stamp older than the window that is still kept, the quotient of the steps
and the time between them, which the time since the latest step bounds, and 0 where no step is kept; standstill sets V to 0 and
silences SYNC_OUT; RUN_EXPECT follows its level and its release clears STALL. That a line is captured under
the epoch and the set in force at its T_L is the model's choice, log entry 338. What else the model chose or inferred in it: log
entries 100, 132, 245. -/
def Obligations.BoundariesLineStartsAndMotion : Prop :=
  (∀ s : State, s.tbs.inService = true → captureMode s = 2 → works s = true →
      completes .freerunBoundary s (fun t => t.tbs.p = (s.tbs.p + lineSteps s) % 2 ^ 40 ∧ t.tbs.l = (s.tbs.l + 1) % 2 ^ 32 ∧
        t.tbs.due = s.tbs.due ++ [⟨(s.tbs.l + 1) % 2 ^ 32, (s.tbs.p + lineSteps s) % 2 ^ 40, s.t, none, false⟩] ∧
        t.tbs.lastBoundary = some s.t ∧ t.tbs.standstill = false)) ∧
  (∀ (s : State) (d : DueLine) (rest : List DueLine), s.tbs.due = d :: rest → works s = true → s.mgt.capturing = true →
      lineBlocked s = false → lineCause s d (d.tCross + lsDelay s) = none →
      completes .lineStart s (fun t => t.ary.lastCap = some (d.l, s.ary.epoch, d.tCross + lsDelay s) ∧
        t.ary.capSet = s.ary.set ∧ t.tbs.due = rest ∧ (d.skip = false → t.tbs.tl = some (d.tCross + lsDelay s)) ∧
        t.tbs.hist = (⟨d.l, d.p, d.tCross + lsDelay s, s.ary.epoch, false⟩ :: s.tbs.hist).take 4096 ∧
        t.mgt.captured = s.mgt.captured + 1)) ∧
  (∀ (s : State) (d : DueLine) (rest : List DueLine) (c : Nat), s.tbs.due = d :: rest → works s = true → s.mgt.capturing = true →
      lineBlocked s = false → lineCause s d (d.tCross + lsDelay s) = some c →
      completes .lineStart s (fun t => t.ary.lastCap = s.ary.lastCap ∧ t.ary.capSet = s.ary.capSet ∧ t.tbs.due = rest ∧
        t.tbs.hist = (⟨d.l, d.p, d.tCross + lsDelay s, s.ary.epoch, true⟩ :: s.tbs.hist).take 4096 ∧
        t.mgt.captured = s.mgt.captured)) ∧
  (∀ s : State, completes .syncOutPulseEnd s (fun t => t.tbs = { s.tbs with syncOut := false })) ∧
  (∀ s : State, counting s = true → source s ≤ 1 → up s 0x30002 = true → s.tbs.standstill = true ∨ s.tbs.deficit ≠ 0 →
      completes .velocityEstimate s (fun t => t.tbs = { s.tbs with v := 0 })) ∧
  (∀ (s : State) (a b : StepStamp) (rest : List StepStamp), counting s = true → source s ≤ 1 → up s 0x30002 = true →
      s.tbs.standstill = false → s.tbs.deficit = 0 → s.tbs.steps = a :: rest → a.t ≤ s.t →
      rest.find? (fun x => decide (x.t + 2 ^ rfld s Reg.TBS_VEL_CFG 3 0 * 200 ≤ a.t)) = some b → s.t ≤ b.t + 13107200 →
      completes .velocityEstimate s (fun t =>
        (a.t = s.t → t.tbs = { s.tbs with
          keepV := false, v := min (2 ^ 32 - 1) ((a.p1 + 2 ^ 40 - b.p1) % 2 ^ 40 * 200 * 2 ^ 22 / (a.t - b.t)) }) ∧
        (a.t < s.t → t.tbs = { s.tbs with
          keepV := false, v := min (2 ^ 32 - 1) (min ((a.p1 + 2 ^ 40 - b.p1) % 2 ^ 40 * 200 * 2 ^ 22 / (a.t - b.t))
            (200 * 2 ^ 22 / (s.t - a.t))) }))) ∧
  (∀ s : State, counting s = true → source s ≤ 1 → up s 0x30002 = true → s.tbs.steps = [] → s.tbs.keepV = false →
      completes .velocityEstimate s (fun t => t.tbs = { s.tbs with v := 0 })) ∧
  (∀ s : State, s.tbs.inService = true → s.tbs.standstill = false → eventsTaken s = true →
      completes .standstillDeclared s (fun t => t.tbs.standstill = true ∧ t.tbs.syncOut = false ∧ velNow t = 0)) ∧
  (∀ (s : State) (level : Bool), rbit s Reg.TBS_MOTION_CFG 31 = true → rfld s Reg.TBS_MOTION_CFG 29 23 < 80 →
      bit s.pen.level (rfld s Reg.TBS_MOTION_CFG 29 23) = !level → up s 0x80100 = true →
      completes (.runExpectChange level) s (fun t => t.tbs.runExpect = (level == rbit s Reg.TBS_MOTION_CFG 30) ∧
        (t.tbs.runExpect = false → t.tbs.stall = false) ∧ t.tbs.p = s.tbs.p))

/-- R47, R48. After COAST_MAX the policy becomes HOLD and V reads 0; on the return of the source P goes on from its value, A is
cleared, and event 0x301 is raised. What the model chose or inferred in it: log entry 100. -/
def Obligations.SourcePolicyEndsAndSourceReturns : Prop :=
  (∀ (s : State) (f : SrcFailed), s.tbs.failed = some f → f.pol = 1 → captureMode s ≠ 2 → eventsTaken s = true →
      completes .coastEnd s (fun t => t.tbs = { s.tbs with failed := some ⟨0, f.vBefore, f.since⟩ } ∧ velNow t = 0 ∧
        eventPending t 0x300 = true)) ∧
  (∀ (s : State) (f : SrcFailed), s.tbs.failed = some f → s.tbs.stuck = false → s.tbs.overrate = false →
      s.grp.masterLost = false →
      eventsTaken s = true →
      completes .srcResume s (fun t => t.tbs.failed = none ∧ t.tbs.acc = 0 ∧ t.tbs.p = s.tbs.p ∧ t.tbs.v = velNow s ∧
        t.tbs.steps = [] ∧ eventPending t 0x301 = true))

/-- R61, R65. A master queues its beacon, and from the end of its training its announcement, on every link of TX_MASK that is up
and whose pair is accepted; the message carries T, the device ID, a hop count of 0 and a path latency of 0. R62, R63, R65, R66.
A follower that accepts a broadcast of a later line takes its P and L, counts its hops and adds the latency of the incoming link
to the path latency; one that has not loaded T takes T from an announcement with its own LS_DELAY (log entry 14 names the
instant); with no acceptable master it raises 0x307; without broadcasts it raises 0x306 and applies ON_FAIL with the master's V. A broadcast
or beacon that it accepts goes on with one hop more and the latency added, on every link of TX_MASK but the one it came by, and
its offset e is what T is to be corrected by; 8 arrivals in turn within 20 ns lock the follower, and 4 in turn beyond 50 ns
unlock it with event 0x305.
What the model chose or inferred in it: log entries 14, 100, 246, 248. -/
def Obligations.MasterAndFollowersShareTime : Prop :=
  (∀ s : State, s.grp.role = 1 → up s 0x30101 = true →
      completes .beaconSend s (fun t => t.grp = { s.grp with lastTx := some s.t } ∧
        ∀ n, n < 4 → rbit s Reg.TBS_XW_CFG (4 + n) = true → (xwLane s n).st = 2 → (xwLane s n).accepted = true →
          (xwLane t n).q0 = (xwLane s n).q0 ++ [.beacon (s.t % 2 ^ 40) 0 0 Config.deviceId.toNat s.t])) ∧
  (∀ s : State, s.grp.role = 1 → s.grp.trained = true → up s 0x30101 = true →
      completes .announceSend s (fun t =>
        ∀ n, n < 4 → rbit s Reg.TBS_XW_CFG (4 + n) = true → (xwLane s n).st = 2 → (xwLane s n).accepted = true →
          (xwLane t n).q0 = (xwLane s n).q0 ++ [.announce (s.t % 2 ^ 40) 0 0 Config.deviceId.toNat s.t (lsDelay s)])) ∧
  (∀ (s : State) (n ts h pl tc l v p ls dev : Nat) (fl : Bool),
      s.xwIn.find? (fun x => isBroadcast x.2) = some (n, .bcast ts h pl tc l v p ls false fl dev) → s.grp.role = 2 →
      up s 0x30101 = true → rbit s Reg.TBS_XW_CFG n = true → (xwLane s n).accepted = true → s.grp.tLoaded = true →
      (∀ x, x ∈ s.grp.copies → x.key ≠ (ts, 0)) → captureMode s ≠ 2 → s.tbs.failed = none → laterL l s.tbs.l = true →
      completes .broadcastReceived s (fun t => t.tbs.l = l ∧ t.tbs.p = p ∧ t.tbs.v = v ∧ t.grp.hops = h ∧
        t.grp.pathLat = pl + rfld s (Reg.TBS_XW_LAT + 4 * n) 15 0 ∧ t.grp.lastRx = some s.t ∧ t.grp.masterLost = false ∧
        t.xwIn = s.xwIn.erase (n, .bcast ts h pl tc l v p ls false fl dev))) ∧
  (∀ (s : State) (n ts h pl kind tc l v p ls dev tm : Nat) (st fl : Bool) (m r : XwMsg) (e : Int),
      s.xwIn.find? (fun x => isBroadcast x.2) = some (n, m) →
      ((m = .bcast ts h pl tc l v p ls st fl dev ∧ kind = 0 ∧
          r = .bcast ts (h + 1) (pl + rfld s (Reg.TBS_XW_LAT + 4 * n) 15 0) tc l v p ls st fl dev) ∨
        (m = .beacon ts h pl dev tm ∧ kind = 1 ∧
          r = .beacon ts (h + 1) (pl + rfld s (Reg.TBS_XW_LAT + 4 * n) 15 0) dev tm)) →
      n < 4 → s.grp.role = 2 → up s 0x30101 = true → rbit s Reg.TBS_XW_CFG n = true → (xwLane s n).accepted = true →
      s.grp.tLoaded = true → (∀ x, x ∈ s.grp.copies → x.key ≠ (ts, kind)) → eventsTaken s = true →
      e = diffMod 40 (ts + (pl + rfld s (Reg.TBS_XW_LAT + 4 * n) 15 0)) s.t →
      completes .broadcastReceived s (fun t =>
        (∀ k, k < 4 → k ≠ n → rbit s Reg.TBS_XW_CFG (4 + k) = true → (xwLane s k).st = 2 → (xwLane s k).accepted = true →
          (xwLane t k).q0 = (xwLane s k).q0 ++ [r]) ∧
        (xwLane t n).q0 = (xwLane s n).q0 ∧ t.grp.pay = e ∧
        t.grp.okRun = (if e.natAbs ≤ 4 then min 8 (s.grp.okRun + 1) else 0) ∧
        t.grp.badRun = (if 10 < e.natAbs then min 4 (s.grp.badRun + 1) else 0) ∧
        (s.grp.locked = false → (t.grp.locked = true ↔ t.grp.okRun = 8)) ∧
        (s.grp.locked = true → (t.grp.locked = false ↔ t.grp.badRun = 4) ∧
          (t.grp.locked = false → eventPending t 0x305 = true)))) ∧
  (∀ (s : State) (n ts h pl dev tm ls : Nat),
      s.xwIn.find? (fun x => isAnnounce x.2) = some (n, .announce ts h pl dev tm ls) → s.grp.role = 2 →
      up s 0x30101 = true → rbit s Reg.TBS_XW_CFG n = true → (xwLane s n).accepted = true → s.grp.tLoaded = false →
      ls = lsDelay s → eventsTaken s = true →
      completes .announceReceived s (fun t => t.t = (tm + pl + rfld s (Reg.TBS_XW_LAT + 4 * n) 15 0) % 2 ^ 64 ∧
        t.grp.tLoaded = true ∧ t.grp.accepted = true ∧ t.grp.noMaster = false ∧ eventPending t 0x309 = true)) ∧
  (∀ s : State, s.grp.role = 2 → s.grp.accepted = false → s.grp.noMaster = false → eventsTaken s = true →
      completes .noMaster s (fun t => t.grp = { s.grp with noMaster := true } ∧ eventPending t 0x307 = true)) ∧
  (∀ s : State, s.grp.role = 2 → s.grp.accepted = true → s.grp.masterLost = false → s.tbs.failed = none → eventsTaken s = true →
      completes .masterLost s (fun t => t.grp = { s.grp with masterLost := true } ∧
        t.tbs.failed = some ⟨onFail s, s.grp.masterV, s.t⟩ ∧ t.tbs.p = s.tbs.p ∧ eventPending t 0x306 = true))

/-! ### Array, exposure and commits (03_pixel_array_exposure.md) -/

/-- R96, R97, R98. A commit of the staged set that passes every check is pending for its line with RESULT 1 and the epoch it will
receive; one that fails a check leaves the array as it is, with the RESULT of the check and event 0x101. R99. At the boundary of
L_apply the pending set comes into force with its epoch, RESULT 2 and event 0x100, and the active registers show it. What the model
chose or inferred in it: log entry 144. -/
def Obligations.CommitsAreCheckedAndApplied : Prop :=
  (∀ s : State, s.ary.loaded = true → domainRuns s 1 = true → inReset s 0x10000 = false →
      commitRefusal (stagedCheck s) (rnat s Reg.ARY_APPLY_L) s = none →
      completes .commit s (fun t => t.ary = { s.ary with
          pend := some ⟨stagedSet s, rnat s Reg.ARY_APPLY_L, (s.ary.epoch + 1) % 256, false⟩,
          epochs := s.ary.epochs ++ [⟨(s.ary.epoch + 1) % 256, stagedSet s, false, none⟩] } ∧
        rfld t Reg.ARY_APPLY_STATUS 23 20 = 1 ∧ rfld t Reg.ARY_APPLY_STATUS 31 24 = (s.ary.epoch + 1) % 256)) ∧
  (∀ s : State, s.ary.loaded = true → domainRuns s 1 = true → inReset s 0x10000 = false →
      commitRefusal (stagedCheck s) ((s.tbs.l + 2) % 2 ^ 32) s = none →
      completes .commitAsap s (fun t => t.ary = { s.ary with
          pend := some ⟨stagedSet s, (s.tbs.l + 2) % 2 ^ 32, (s.ary.epoch + 1) % 256, false⟩,
          epochs := s.ary.epochs ++ [⟨(s.ary.epoch + 1) % 256, stagedSet s, false, none⟩] } ∧
        rfld t Reg.ARY_APPLY_STATUS 23 20 = 1 ∧ rfld t Reg.ARY_APPLY_STATUS 31 24 = (s.ary.epoch + 1) % 256)) ∧
  (∀ (s : State) (r : Nat), s.ary.loaded = true → domainRuns s 1 = true → inReset s 0x10000 = false → eventsTaken s = true →
      commitRefusal (stagedCheck s) (rnat s Reg.ARY_APPLY_L) s = some r →
      completes .commit s (fun t => t.ary = s.ary ∧ t.aux = s.aux ∧ rfld t Reg.ARY_APPLY_STATUS 23 20 = r % 16 ∧
        eventPending t 0x101 = true)) ∧
  (∀ (s : State) (r : Nat), s.ary.loaded = true → domainRuns s 1 = true → inReset s 0x10000 = false → eventsTaken s = true →
      commitRefusal (stagedCheck s) ((s.tbs.l + 2) % 2 ^ 32) s = some r →
      completes .commitAsap s (fun t => t.ary = s.ary ∧ t.aux = s.aux ∧ rfld t Reg.ARY_APPLY_STATUS 23 20 = r % 16 ∧
        eventPending t 0x101 = true)) ∧
  (∀ s : State, domainRuns s 1 = false → completes .commit s (fun t => t.ary = s.ary ∧ t.regs = s.regs ∧ t.evt = s.evt)) ∧
  (∀ (s : State) (p : PendingCommit), s.ary.pend = some p → diffMod 32 p.lApply s.tbs.l ≤ 0 → eventsTaken s = true →
      completes .epochApplied s (fun t => t.ary.set = p.set ∧ t.ary.epoch = p.epoch ∧ t.ary.pend = none ∧
        t.ary.lastCap = s.ary.lastCap ∧ t.ary.capSet = s.ary.capSet ∧ rfld t Reg.ARY_APPLY_STATUS 23 20 = 2 ∧
        (∀ i, i < 67 → rnat t (0x100200 + 4 * i) = p.set.w.getD i 0 % 2 ^ 32) ∧ eventPending t 0x100 = true))

/-- R98. A pending commit may be cancelled, with RESULT 3 and event 0x102, until the boundary of L_apply − 1; at that boundary
the set is frozen; a CANCEL after it is refused with RESULT 10 and the commit stands; a reset of function 0x1_00_00 cancels a
pending commit with RESULT 9. -/
def Obligations.PendingCommitIsCancelledUntilFrozen : Prop :=
  (∀ (s : State) (p : PendingCommit), s.ary.pend = some p → p.frozen = false → eventsTaken s = true →
      completes .cancel s (fun t => t.ary = { s.ary with
          pend := none, epochs := s.ary.epochs.filter (fun x => x.applied || x.e != p.epoch) } ∧
        rfld t Reg.ARY_APPLY_STATUS 23 20 = 3 ∧ eventPending t 0x102 = true)) ∧
  (∀ (s : State) (p : PendingCommit), s.ary.pend = some p → diffMod 32 p.lApply s.tbs.l ≤ 1 →
      completes .epochFreeze s (fun t => t = { s with ary := { s.ary with pend := some { p with frozen := true } } })) ∧
  (∀ (s : State) (p : PendingCommit), s.ary.pend = some p → p.frozen = true →
      completes .cancel s (fun t => t.ary = s.ary ∧ t.aux = s.aux ∧ t.evt = s.evt ∧
        rfld t Reg.ARY_APPLY_STATUS 23 20 = 10)) ∧
  (∀ (s : State) (p : PendingCommit) (r : RstRun), s.ary.pend = some p → runOf s 0x10000 = some r → r.phase = .fired →
      completes (.resetQuiesce 0x10000) s (fun t => t.ary = { s.ary with
          pend := none, epochs := s.ary.epochs.filter (fun x => x.applied || x.e != p.epoch) } ∧
        rfld t Reg.ARY_APPLY_STATUS 23 20 = 9))

/-- R94. A snapshot request sets PENDING, and is refused with RESULT 2 and event 0x105 while one is pending or running; the rows
begin exposure once, transfer once, and at the end of the readout BUSY is 0, RESULT 1 and COUNT one more, with event 0x104; a
request not granted is withdrawn with RESULT 3 and event 0x105. R81, R82, R83, R102. A class in use of a captured line begins
its exposure; a slot in use opens and closes, and an edge more than 5 ns late raises event 0x10D; at the end of a slot its
captured bands whose row drivers work end their exposures and hold the line in their storage nodes. A band whose row pulse reads
back wrong raises event 0x107, and one whose transfer pulse does raises 0x109; either starts the reset of its row drivers where
AUTO_RECOVER is 1. That GO takes the snapshot's configuration is the model's choice, log entry 336. What else the model chose or
inferred in it: log entries 100, 101, 289. -/
def Obligations.SnapshotsAndExposuresRun : Prop :=
  (∀ s : State, s.ary.snapPend = false → s.ary.snapBusy = false → up s 0x10001 = true →
      completes .snapGo s (fun t => t.ary = { s.ary with
          snapPend := true, snapReqT := s.t, snapCfg := rnat s Reg.ARY_SNAP_CFG } ∧ rfld t Reg.ARY_SNAP_STATUS 1 1 = 1)) ∧
  (∀ s : State, (s.ary.snapPend || s.ary.snapBusy) = true → eventsTaken s = true →
      completes .snapGo s (fun t => t.ary = s.ary ∧ rfld t Reg.ARY_SNAP_STATUS 3 2 = 2 ∧ eventPending t 0x105 = true)) ∧
  (∀ s : State, s.ary.snapBusy = true → s.ary.snapStage = 0 →
      completes .snapExposureStart s (fun t => t = { s with ary := { s.ary with snapStage := 1 } })) ∧
  (∀ s : State, s.ary.snapBusy = true → s.ary.snapStage = 1 →
      completes .snapTransfer s (fun t => t = { s with ary := { s.ary with
        snapStage := 2, reads := s.ary.reads ++ [⟨s.tbs.l, s.ary.epoch, s.t, 0, s.ary.tb, 0, 0, true⟩] } })) ∧
  (∀ s : State, s.ary.snapBusy = true → s.ary.snapStage = 2 → eventsTaken s = true →
      completes .snapDone s (fun t => t.ary = { s.ary with
          snapBusy := false, snapStage := 0, reads := s.ary.reads.filter (fun r => !r.snap) } ∧
        t.pip.snapRows = [] ∧ rfld t Reg.ARY_SNAP_STATUS 0 0 = 0 ∧ rfld t Reg.ARY_SNAP_STATUS 3 2 = 1 ∧
        rfld t Reg.ARY_SNAP_STATUS 31 16 = (rfld s Reg.ARY_SNAP_STATUS 31 16 + 1) % 2 ^ 16 ∧ eventPending t 0x104 = true)) ∧
  (∀ s : State, s.ary.snapPend = true → eventsTaken s = true →
      completes .snapNoGrant s (fun t => t.ary = { s.ary with snapPend := false } ∧ rfld t Reg.ARY_SNAP_STATUS 1 1 = 0 ∧
        rfld t Reg.ARY_SNAP_STATUS 3 2 = 3 ∧ t.nrg.waiting = s.nrg.waiting.filter (fun g => g.order != 4) ∧
        eventPending t 0x105 = true)) ∧
  (∀ (s : State) (k c : Nat), (lineExposing s k c).isSome = true → up s (0x10200 + k) = true →
      completes (.exposureStart k c) s (fun t => 4 * k + c ∈ t.ary.exposing ∧
        (∀ x, x ≠ 4 * k + c → (x ∈ t.ary.exposing ↔ x ∈ s.ary.exposing)) ∧ t.ary.capSet = s.ary.capSet)) ∧
  (∀ (s : State) (i late : Nat) (x : CapLine), lineInSlot s 0 i = some x → up s 0x10100 = true → eventsTaken s = true →
      completes (.slotEdge i true late) s (fun t => i ∈ t.ary.slotOpen ∧
        (∀ j, j ≠ i → (j ∈ t.ary.slotOpen ↔ j ∈ s.ary.slotOpen)) ∧ mget t.ary.slotLine i = some x.l ∧ (1 < late →
            eventPending t 0x10D = true))) ∧
  (∀ (s : State) (i late : Nat) (x : CapLine), lineEnding s i = some x → up s 0x10100 = true → eventsTaken s = true →
      completes (.slotEdge i false late) s (fun t => i ∉ t.ary.slotOpen ∧
        (∀ j, j ≠ i → (j ∈ t.ary.slotOpen ↔ j ∈ s.ary.slotOpen)) ∧ (1 < late → eventPending t 0x10D = true))) ∧
  (∀ (s : State) (i : Nat) (x : CapLine), lineEnding s i = some x → images s = true →
      completes (.bandTransfer i 0 0) s (fun t => t.regs = s.regs ∧ t.ary.capSet = s.ary.capSet ∧ t.ary.txPw = x.txPw ∧
        ∀ k, k < 9 → x.set.captured k = true → x.set.bandSlot k = i → up s (0x10200 + k) = true →
          mget t.ary.nodes k = some x.l ∧ ∀ y, y ∈ t.ary.exposing → y / 4 ≠ k)) ∧
  (∀ (s : State) (i rowBad pulseBad k : Nat) (x : CapLine), lineEnding s i = some x → images s = true → eventsTaken s = true →
      k < 9 → x.set.captured k = true → x.set.bandSlot k = i → up s (0x10200 + k) = true →
      bit rowBad k = true ∨ bit pulseBad k = true →
      completes (.bandTransfer i rowBad pulseBad) s (fun t => mget t.ary.nodes k = some x.l ∧ k ∈ t.ary.rowDrvBad ∧
        (bit rowBad k = true → eventPending t 0x107 = true) ∧
        (bit rowBad k = false → eventPending t 0x109 = true) ∧
        (rbit s Reg.MGT_RST_CFG 31 = true → beingReset t (0x10200 + k) = true)))

/-! ### Column converters (04_column_converters.md) -/

/-- R84, R108, R110. A conversion slot serves the sequence in front: it moves to its next conversion, and leaves after its last
(N_rows of a captured line, 144 of the snapshot); the offset conversion keeps its codes. R127, R128. A converter that is due
takes its column at a line boundary, with event 0x205; a spare that has taken two cycles of baselines becomes AU with no
suspicion, the old AU is retired, and event 0x209 is raised. Other columns and slices stay. R112. Column calibration in start-up
step 5, without a restore, gives each live converter of each of the 192 slices the trim 2,800 / (mean K1 − mean K0) of its own
measurement, to the nearest of 1.15 (log entry 12), where that lies in the format (log entry 257 leaves it free elsewhere). R83,
R111, R426. A temperature band decided by a round takes effect outside column calibration: in thermal management with event
0xA06, and, unless column control is in reset, in the array and in the column path, where the black clamp is armed again. What
the model chose or inferred in it: log entries 12, 100, 101, 146, 254, 257, 258. -/
def Obligations.ConvertersConvertCalibrateAndAreReplaced : Prop :=
  (∀ (s : State) (m : List (Nat × Nat)) (d : Nat) (r : ReadSeq) (rest : List ReadSeq), images s = true →
      inReset s 0x10300 = false → s.ary.reads = r :: rest → r.snap = false →
      completes (.conversion m d) s (fun t =>
        t.ary.reads = (if r.j = (setOf s r.epoch).nRows then rest else { r with j := r.j + 1 } :: rest) ∧
        (r.j = 0 → t.col.offs = ⟨m, d⟩) ∧ t.ary.lastCap = s.ary.lastCap ∧ t.ary.set = s.ary.set)) ∧
  (∀ (s : State) (m : List (Nat × Nat)) (d : Nat) (r : ReadSeq) (rest : List ReadSeq), images s = true →
      inReset s 0x10300 = false → s.ary.reads = r :: rest → r.snap = true →
      completes (.conversion m d) s (fun t =>
        t.ary.reads = (if r.j = 144 then rest else { r with j := r.j + 1 } :: rest) ∧
        (r.j = 0 → t.pip.snapRows = []) ∧ t.ary.lastCap = s.ary.lastCap ∧ t.ary.set = s.ary.set)) ∧
  (∀ trim x x0 : Nat, (trimmed trim x x0 : Int) = max 0 (min 4095 (x0 + (((x : Int) - x0) * trim + 2 ^ 14) / 2 ^ 15))) ∧
  (∀ (s : State) (n p i : Nat), lineConverting s = false → (sliceOf s n).due = some (p, i) → eventsTaken s = true →
      completes (.takeover n) s (fun t => (sliceOf t n).server p = i ∧
        (∀ q, q ≠ p → (sliceOf t n).server q = (sliceOf s n).server q) ∧ (∀ m, m ≠ n → sliceOf t m = sliceOf s m) ∧
        t.pip.swapped = (96 * n + p) :: s.pip.swapped ∧ eventPending t 0x205 = true)) ∧
  (∀ (s : State) (n : Nat) (r : AuRepl), (sliceOf s n).repl = some r → 2 ≤ r.cycles → eventsTaken s = true →
      completes (.auditReplaced n) s (fun t => (sliceOf t n).au = r.spare ∧ (sliceOf t n).audSusp = 0 ∧
        ((sliceOf s n).au ≠ r.spare → (sliceOf t n).convState (sliceOf s n).au = 2) ∧
        (sliceOf t n).serv = (sliceOf s n).serv ∧ (∀ m, m ≠ n → sliceOf t m = sliceOf s m) ∧ eventPending t 0x209 = true)) ∧
  (∀ (s : State) (m : List (Nat × Nat × Nat × Nat)) (d : Nat × Nat × Nat) (b : List (Nat × List Nat × List Nat))
    (bd : List Nat × List Nat) (ok : Bool),
    s.mgt.state = .starting → s.mgt.step = 5 → s.col.calibrated = false → rbit s Reg.COL_CFG 8 = false →
    completes (.columnCalibration m d b bd ok) s (fun t => t.col.calibrated = true ∧
      ∀ n i, n < 192 → i < 101 → (sliceOf s n).convState i ≤ 1 → (mgetD m (128 * n + i) d).1 < (mgetD m (128 * n + i) d).2.1 →
        calQuot (mgetD m (128 * n + i) d) ≤ 0xFFFF → mgetD (sliceOf t n).trim i 0 = calQuot (mgetD m (128 * n + i) d))) ∧
  (∀ (s : State) (foms : List Nat) (b : Nat), s.thm.tbNext = some b → works s = true → s.mgt.stepsDone.contains 5 = true →
      inReset s 0x20C01 = false → eventsTaken s = true →
      completes (.tbApply foms) s (fun t => t.thm = { s.thm with tb := b, tbNext := none } ∧ t.ary = { s.ary with tb := b } ∧
        t.col = { s.col with tb := b, blkArm := true, blkN := 0 } ∧ eventPending t 0xA06 = true ∧ eventPending t 0x216 = true)) ∧
  (∀ (s : State) (foms : List Nat) (b : Nat), s.thm.tbNext = some b → works s = true → s.mgt.stepsDone.contains 5 = true →
      inReset s 0x20C01 = true → eventsTaken s = true →
      completes (.tbApply foms) s (fun t => t.thm = { s.thm with tb := b, tbNext := none } ∧ t.ary = s.ary ∧
        t.col = s.col ∧ eventPending t 0xA06 = true))

/-! ### Pipeline and outputs (05_main_pipeline.md, 06_reconstruction_outputs.md) -/

/-- R162, R165. COMP writes the oldest segment of a sector into its slot: the descriptor holds INDEX and the sector's WRITTEN
bit, and its INVALID or SHORT bit where the segment is so; other positions stay, and the segment has left the queue. REG of each
sector draws what the sector has completed while there is room for two lines: where one sector alone has a line, its part is
there, beside the parts of other sectors or in the whole line, more than one line raises event 0x413, and other sectors stay as
they are; the last sector of a line makes it whole, as do all twelve that have it, and it is the line drawn last. Without room a
line waits. What the model chose or inferred in it: log entries 149, 154. -/
def Obligations.SegmentsAreStoredAndLinesDrawn : Prop :=
  (∀ (s : State) (n : Nat) (g : Seg) (rest : List Seg), n < 12 → images s = true → (secOf s n).wq = g :: rest →
      inReset s 0x40C00 = false →
      completes (.compWrite n) s (fun t => (descAt t (slotPos s g.k g.b)).index = g.b % 65536 ∧
        bit (descAt t (slotPos s g.k g.b)).written n = true ∧
        (g.invalid = true → bit (descAt t (slotPos s g.k g.b)).invalid n = true) ∧
        (g.short = true → bit (descAt t (slotPos s g.k g.b)).short n = true) ∧
        (∀ pos, pos ≠ slotPos s g.k g.b → descAt t pos = descAt s pos) ∧
        ((secOf s n).fifo = [] → (secOf t n).wq = rest))) ∧
  (∀ (s : State) (n l : Nat) (rest : List Nat), n < 12 → images s = true → inReset s 0x40C00 = false → (secOf s n).wq = [] →
      (secOf s n).due = l :: rest → regRoom s n = true → (∀ m, m < 12 → m ≠ n → (secOf s m).due = []) → eventsTaken s = true →
      completes .registrationDraw s (fun t =>
        ((∃ q, q ∈ t.pip.parts ∧ q.line.l = l ∧ n ∈ q.done) ∨ (∃ r, r ∈ t.pip.lines ∧ r.l = l)) ∧
        (∀ m, m ≠ n → secOf t m = secOf s m) ∧ (rest ≠ [] → eventPending t 0x413 = true))) ∧
  (∀ (s : State) (n l : Nat) (q : RegPart), n < 12 → images s = true → inReset s 0x40C00 = false → (secOf s n).wq = [] →
      (secOf s n).due = [l] → regRoom s n = true → (∀ m, m < 12 → m ≠ n → (secOf s m).due = []) →
      s.pip.parts.find? (fun q => q.line.l == l) = some q → (∀ i, i < 12 → i ≠ n → i ∈ q.done) →
      completes .registrationDraw s (fun t => t.pip.drawn = some l ∧ t.pip.flushed = false ∧ (∃ r, r ∈ t.pip.lines ∧ r.l = l) ∧
        rnat t Reg.PIP_REG_STATUS = l % 2 ^ 32 ∧ (∀ m, m ≠ n → secOf t m = secOf s m))) ∧
  (∀ (s : State) (l : Nat), images s = true → inReset s 0x40C00 = false → (∀ q, q ∈ s.pip.parts → q.line.l ≠ l) →
      (∀ n, n < 12 → (secOf s n).wq = [] ∧ (secOf s n).fifo = [] ∧ (secOf s n).due = [l] ∧ regRoom s n = true) →
      completes .registrationDraw s (fun t => t.pip.drawn = some l ∧ t.pip.flushed = false ∧ (∃ r, r ∈ t.pip.lines ∧ r.l = l) ∧
        rnat t Reg.PIP_REG_STATUS = l % 2 ^ 32 ∧ ∀ n, n < 12 → (secOf t n).due = [])) ∧
  (∀ s : State, (∀ n, n < 12 → (secOf s n).due = [] ∨ (secOf s n).wq = [] ∧ regRoom s n = false) →
      completes .registrationDraw s (fun t => t.pip = s.pip ∧ t.regs = s.regs ∧ t.evt = s.evt))

/-- R67, R171. At the boundary of L + 4 a working sector that has not finished line L is a DL_SECTOR miss (event 0x311): after
it the sector has nothing left of L before the band store, and other sectors are unaffected; a segment of L that waited is
written INVALID. A sector that has finished L is left as it is. R144. A DSNU table read whole and found good is stored in slot b
mod 3 of parameter memory, no other byte of parameter memory changes, and a wanted table is then resident; a table that cannot
be read leaves the rest of the memory as it is, its slot with the bytes that came (log entry 152), and raises event 0x414. R181.
The formatter emits a registered line once line L + 2 is drawn and its class map is there: a class-map unit and a unit of each
chosen VISION plane where those families run; it holds the line until then. R195. A capture line that is complete gives one
ROW-RAW unit for each row that was kept, in their order, and a GAP line one unit without payload. What the model chose or
inferred in it: log entries 100, 152, 261, 300, 319. -/
def Obligations.LateSectorsDsnuAndLineUnits : Prop :=
  (∀ (s : State) (n : Nat), n < 12 → secFinished s n ((s.tbs.l + 2 ^ 32 - 4) % 2 ^ 32) = false → secOff s n = false →
      inReset s 0x40C00 = false → eventsTaken s = true →
      completes (.dlSectorCheck n) s (fun t => secFinished t n ((s.tbs.l + 2 ^ 32 - 4) % 2 ^ 32) = true ∧
        (∀ x, x ∈ (secOf t n).fifo → x ∈ (secOf s n).fifo) ∧ (∀ m, m ≠ n → secOf t m = secOf s m) ∧
        eventPending t 0x311 = true)) ∧
  (∀ (s : State) (n : Nat) (g : Seg), n < 12 → (secOf s n).fifo = [] → (secOf s n).wq = [g] → (secOf s n).due = [] →
      (lineGone (secOf s n) ((s.tbs.l + 2 ^ 32 - 4) % 2 ^ 32) || (restUpTo s ((s.tbs.l + 2 ^ 32 - 4) % 2 ^ 32)).isEmpty) = true →
      laterL g.l ((s.tbs.l + 2 ^ 32 - 4) % 2 ^ 32) = false → secOff s n = false → inReset s 0x40C00 = false →
      eventsTaken s = true →
      completes (.dlSectorCheck n) s (fun t => (secOf t n).wq = [] ∧ (descAt t (slotPos s g.k g.b)).index = g.b % 65536 ∧
        bit (descAt t (slotPos s g.k g.b)).written n = true ∧ bit (descAt t (slotPos s g.k g.b)).invalid n = true ∧
        (∀ pos, pos ≠ slotPos s g.k g.b → descAt t pos = descAt s pos) ∧ eventPending t 0x311 = true)) ∧
  (∀ (s : State) (n : Nat), secFinished s n ((s.tbs.l + 2 ^ 32 - 4) % 2 ^ 32) = true →
      completes (.dlSectorCheck n) s (fun t => t = s)) ∧
  (∀ (s : State) (b : Nat) (bs : List Byte), s.pip.dsnuLoad = some b → nvTurn s 2 = true → dsnuSection s b = some bs →
      bs.length ≤ 663552 →
      completes (.dsnuLoadDone true) s (fun t =>
        (∀ i v, bs[i]? = some v → mgetD t.pip.pmem (dsnuBase (b % 3) + i) (pmDefault (dsnuBase (b % 3) + i)) = v) ∧
        (∀ a, a < dsnuBase (b % 3) ∨ dsnuBase (b % 3) + bs.length ≤ a →
          mgetD t.pip.pmem a (pmDefault a) = mgetD s.pip.pmem a (pmDefault a)) ∧
        (s.pip.dsnu.length = 3 → b ∈ dsnuWanted s.col.tb → dsnuResident t b = true))) ∧
  (∀ (s : State) (b : Nat), s.pip.dsnuLoad = some b → nvTurn s 2 = true → eventsTaken s = true →
      completes (.dsnuLoadDone false) s (fun t => eventPending t 0x414 = true ∧
        ∀ a, a < dsnuBase (b % 3) ∨ dsnuBase (b % 3) + 663552 ≤ a →
          mgetD t.pip.pmem a (pmDefault a) = mgetD s.pip.pmem a (pmDefault a))) ∧
  (∀ (s : State) (r : RegLine) (d : Nat), images s = true → nextEmit s = some r → s.pip.drawn = some d → 2 ≤ diffMod 32 d r.l →
      clsHere s r = true →
      completes .formatterEmit s (fun t => (∀ x, x ∈ t.pip.lines → x.l = r.l → x.emitted = true) ∧ t.pip.drawn = s.pip.drawn ∧
        ∃ us, t.pip.units = s.pip.units ++ us ∧
          (famOn s r 3 0x40D03 = true → ∃ u, u ∈ us ∧ u.family = 1 ∧ u.l = r.l) ∧
          (∀ p, p < 15 → famOn s r 2 0x40D03 = true → rbit s (Reg.PIP_VIS_PLANE + 4 * p) 0 = true →
            ∃ u, u ∈ us ∧ u.family = 0 ∧ u.plane = p ∧ u.l = r.l))) ∧
  (∀ (s : State) (r : RegLine), nextEmit s = some r →
      (s.pip.drawn = none ∨ (∃ d, s.pip.drawn = some d ∧ diffMod 32 d r.l < 2) ∨ clsHere s r = false) →
      completes .formatterEmit s (fun t => t = s)) ∧
  (∀ (s : State) (l : Nat) (rest : List (Nat × Bool)), images s = true → s.pip.rawDone = (l, false) :: rest →
      completes .rawRowEmit s (fun t => t.pip = { s.pip with
        rawDone := rest, raw := s.pip.raw.filter (fun x => x.l != l),
        units := s.pip.units ++ (s.pip.raw.filter (fun x => x.l == l)).map (rawUnit s) })) ∧
  (∀ (s : State) (l : Nat) (rest : List (Nat × Bool)), images s = true → s.pip.rawDone = (l, true) :: rest →
      completes .rawRowEmit s (fun t => ∃ u : LineUnit, u.family = 4 ∧ u.l = l ∧ u.payload = [] ∧ t.pip = { s.pip with
        rawDone := rest, raw := s.pip.raw.filter (fun x => x.l != l), units := s.pip.units ++ [u] }))

/-! ### Verdict engine and ejection (07_verdict_engine.md, 08_gust_verdicts_ejection.md) -/

/-- R201, R203, R204. A segmentation unit joins the foreground columns of its segment inside the global window into runs; one in
reset delivers its sector as missing without runs. The object table takes a LEAD band line once every sector has delivered its
segment, and then writes the line's labels into the label history. R204. A LEAD band line that no sector has written counts as
missing and leaves the line before it the previous processed one; a line written in some sector becomes the previous processed
line and ends the count. Its segments leave the queue. R215. A sector accumulates its part of the oldest registered line that it
has not, and that line then waits for it no longer: an object of the sector gains its columns in AREA and SUM_C, others stay; a
sum beyond its 40 bits is a free value (log entry 266); with no such line nothing changes. That a line that is INVALID in every
sector counts as processed is the model's choice, log entry 342. What else the model chose or inferred in it: log entries 164,
266. -/
def Obligations.LeadLinesAndSectorsMakeObjects : Prop :=
  (∀ (s : State) (n : Nat) (g : LeadSeg) (rest : List LeadSeg), n < 12 → works s = true → (secOf s n).lead = g :: rest →
      inReset s (0x60000 + 0x100 * n) = false → inReset s (0x60001 + 0x100 * n) = false →
      completes (.leadSegmentReceived n) s (fun t => t.vdt.lead = s.vdt.lead ++ [⟨n, g.b,
        if g.kind = 0 then runsOf ((g.samples.filter (fun p =>
          inWin (lineSet s g.b s.ary.epoch).gwin p.1 && foreground s 0 p.2)).map (·.1)) else [], g.samples, g.kind⟩])) ∧
  (∀ (s : State) (n : Nat) (g : LeadSeg) (rest : List LeadSeg), n < 12 → works s = true → (secOf s n).lead = g :: rest →
      (inReset s (0x60000 + 0x100 * n) = true ∨ inReset s (0x60001 + 0x100 * n) = true) →
      completes (.leadSegmentReceived n) s (fun t => t.vdt.lead = s.vdt.lead ++ [⟨n, g.b, [], g.samples,
        if g.kind = 0 then 1 else g.kind⟩])) ∧
  (∀ (s : State) (b : Nat) (segs : List LeadIn), works s = true → leadLine s = some (b, segs) → inReset s 0x40C00 = false →
      completes .objectTableLine s (fun t => (descAt t (slotPos s 9 b)).index = b % 65536 ∧
        (descAt t (slotPos s 9 b)).written = 0xFFF ∧ (∀ pos, pos ≠ slotPos s 9 b → descAt t pos = descAt s pos))) ∧
  (∀ s : State, leadLine s = none → completes .objectTableLine s (fun t => t = s)) ∧
  (∀ (s : State) (b : Nat) (segs : List LeadIn), works s = true → leadLine s = some (b, segs) →
      segs.all (fun g => g.kind == 2) = true →
      completes .objectTableLine s (fun t => t.vdt.missing = s.vdt.missing + 1 ∧ t.vdt.prevB = s.vdt.prevB ∧
        t.vdt.lead = s.vdt.lead.filter (fun g => g.b != b))) ∧
  (∀ (s : State) (b : Nat) (segs : List LeadIn), works s = true → leadLine s = some (b, segs) →
      segs.all (fun g => g.kind == 2) = false →
      completes .objectTableLine s (fun t => t.vdt.missing = 0 ∧ t.vdt.prevB = some b ∧
        t.vdt.lead = s.vdt.lead.filter (fun g => g.b != b))) ∧
  (∀ (s : State) (n : Nat) (r : RegLine), n < 12 → works s = true → nextAcc s n = some r →
      completes (.registeredSegmentAccumulate n) s (fun t => (∀ x, x ∈ t.pip.lines → x.l = r.l → n ∉ x.accLeft) ∧
        t.pip.desc = s.pip.desc ∧ t.pip.store = s.pip.store)) ∧
  (∀ (s : State) (n k : Nat) (r : RegLine) (o : Obj) (cols : List Nat), n < 12 → works s = true → nextAcc s n = some r →
      inReset s (0x60000 + 0x100 * n) = false → inReset s (0x60001 + 0x100 * n) = false → objOf s k = some o →
      (∀ p, p ∈ s.vdt.objs → p.2.st ≠ 2 ∧ p.2.st ≠ 7) →
      byObject ((r.labels.filter (fun p => p.1 / 1536 == n)).filterMap (fun p => (resolve s r.l p.2).map (fun i => (i, p.1)))) =
        [(k, cols)] →
      completes (.registeredSegmentAccumulate n) s (fun t =>
        (objOf t k).map (fun u => (u.st, u.reg.area, u.reg.sumC)) =
          some (o.st, satN 24 (o.reg.area + cols.length), fitS 40 (o.reg.sumC + nsum cols)) ∧
        ∀ j, j ≠ k → (objOf t j).map (·.reg.area) = (objOf s j).map (·.reg.area))) ∧
  (∀ (s : State) (n : Nat), nextAcc s n = none → completes (.registeredSegmentAccumulate n) s (fun t => t = s))

/-- R225, R229, R231, R267, without partner merge. A core that takes a confirmed evaluation of an object runs its program, whose
EMIT gives the verdict; a program that emits none gives verdict 15 and event 0x607; a band that triggers the absent policy
decides by its POL (1: verdict 15, 2: verdict 0) with event 0x604. The object then leaves the table and its verdict is counted.
R261, R267. Where the scheduler has room, a firing verdict places the OPEN span of each window of the object and the ARM frames
before it that are not yet built, with event 0x618 where some are left out; an accepting one releases every reservation of the
object.
What the model chose or inferred in it: log entry 162. -/
def Obligations.ConfirmedEvaluationGivesVerdict : Prop :=
  (∀ (s : State) (c : Nat) (e : QEnt) (o : Obj) (v reason : Nat), c < 4 → up s (0x60D00 + c) = true → inReset s 0x60C02 = false →
      inReset s 0x60F01 = false → partnerLinks s = [] → nextEval s = some e → e.cp = 0 → objOf s e.slot = some o → o.id = e.id →
      o.st = 3 → absentPolicy s o (o.prog.getD 0) = none →
      (runProgram s (o.prog.getD 0) (viewOf s o 0 0 0)).1 = some (v, reason) → v < 16 →
      completes (.verdictEvaluation c) s (fun t => objOf t e.slot = none ∧
        rnat t (Reg.VDT_VERDICT_COUNT + 4 * v) = (rnat s (Reg.VDT_VERDICT_COUNT + 4 * v) + 1) % 2 ^ 32)) ∧
  (∀ (s : State) (c : Nat) (e : QEnt) (o : Obj), c < 4 → up s (0x60D00 + c) = true → inReset s 0x60C02 = false →
      inReset s 0x60F01 = false → partnerLinks s = [] → nextEval s = some e → e.cp = 0 → objOf s e.slot = some o → o.id = e.id →
      o.st = 3 → absentPolicy s o (o.prog.getD 0) = none → (runProgram s (o.prog.getD 0) (viewOf s o 0 0 0)).1 = none →
      eventsTaken s = true →
      completes (.verdictEvaluation c) s (fun t => objOf t e.slot = none ∧ eventPending t 0x607 = true ∧
        rnat t (Reg.VDT_VERDICT_COUNT + 60) = (rnat s (Reg.VDT_VERDICT_COUNT + 60) + 1) % 2 ^ 32)) ∧
  (∀ (s : State) (c : Nat) (e : QEnt) (o : Obj) (k pol : Nat), c < 4 → up s (0x60D00 + c) = true → inReset s 0x60C02 = false →
      inReset s 0x60F01 = false → partnerLinks s = [] → nextEval s = some e → e.cp = 0 → objOf s e.slot = some o → o.id = e.id →
      o.st = 3 → absentPolicy s o (o.prog.getD 0) = some (k, pol) → pol = 1 ∨ pol = 2 → eventsTaken s = true →
      completes (.verdictEvaluation c) s (fun t => objOf t e.slot = none ∧ eventPending t 0x604 = true ∧
        rnat t (Reg.VDT_VERDICT_COUNT + (if pol = 2 then 0 else 60)) =
          (rnat s (Reg.VDT_VERDICT_COUNT + (if pol = 2 then 0 else 60)) + 1) % 2 ^ 32)) ∧
  (∀ (s : State) (c : Nat) (e : QEnt) (o : Obj) (v reason : Nat), c < 4 → up s (0x60D00 + c) = true → inReset s 0x60C02 = false →
      inReset s 0x60F01 = false → partnerLinks s = [] → nextEval s = some e → e.cp = 0 → objOf s e.slot = some o → o.id = e.id →
      o.st = 3 → absentPolicy s o (o.prog.getD 0) = none →
      (runProgram s (o.prog.getD 0) (viewOf s o 0 0 0)).1 = some (v, reason) → fires s v = true → firesValves s = true →
      inReset s 0x60F02 = false → o.late = 0 → (o.wins.map (·.1)).Nodup → eventsTaken s = true →
      (∀ r, r ∈ s.vdt.resv → r.obj ≠ o.id ∨ r.site ≠ site s) → s.vdt.resv.length + 2 * o.wins.length ≤ 8192 →
      completes (.verdictEvaluation c) s (fun t => (∀ r, r ∈ s.vdt.resv → r ∈ t.vdt.resv) ∧
        ∀ w, w ∈ o.wins →
          ⟨o.id, site s, w.1, true, 1, w.2.2.2, w.2.1, w.2.2.1⟩ ∈ t.vdt.resv ∧
          (max (w.2.1 - rfld s Reg.VDT_EJ_ARM 9 0) (builtTick s w.1 + 1) < w.2.1 →
            ⟨o.id, site s, w.1, false, 1, w.2.2.2, max (w.2.1 - rfld s Reg.VDT_EJ_ARM 9 0) (builtTick s w.1 + 1), w.2.1⟩ ∈
              t.vdt.resv) ∧
          (0 < rfld s Reg.VDT_EJ_ARM 9 0 → w.2.1 - rfld s Reg.VDT_EJ_ARM 9 0 ≤ builtTick s w.1 → eventPending t 0x618 = true))) ∧
  (∀ (s : State) (c : Nat) (e : QEnt) (o : Obj) (v reason : Nat), c < 4 → up s (0x60D00 + c) = true → inReset s 0x60C02 = false →
      inReset s 0x60F01 = false → partnerLinks s = [] → nextEval s = some e → e.cp = 0 → objOf s e.slot = some o → o.id = e.id →
      o.st = 3 → absentPolicy s o (o.prog.getD 0) = none →
      (runProgram s (o.prog.getD 0) (viewOf s o 0 0 0)).1 = some (v, reason) → fires s v = false → firesValves s = true →
      o.late ≠ 2 → bit o.flags 10 = false →
      completes (.verdictEvaluation c) s (fun t =>
        t.vdt.resv = s.vdt.resv.filter (fun r => !(r.obj == o.id && r.site == site s))))

/-- R236, R237. A neighbour's fragment on a stitching link that no waiting object matches is kept; one that matches the waiting
object is merged with it, which is then queued for evaluation, and is counted; on a link that does not stitch it is dropped. A
boundary object without a match at the end of WIN_N is queued for evaluation with XW_LATE, as a DL_XW miss (event 0x316) unless
a link it waits for is in reset (R68); a neighbour fragment without a match is discarded. R238, R239. On the valve owner a
partner record that no waiting object matches is kept; one that matches the waiting object gives it the combined verdict, which
is counted; an object without a match at the end of WIN_P is confirmed with its own verdict, as a DL_XW miss (event 0x316) under
the same exception. A partner record without a match is adopted where its verdict fires, with event 0x609, and is discarded
where it accepts. What the model chose or inferred in it: log entries 100, 158. -/
def Obligations.FragmentsAndPartnerRecordsAreMatched : Prop :=
  (∀ (s : State) (x : Nat × XwMsg), s.xwIn.find? (fun x => isRec 3 x.2 && decide (x.1 ≤ 1)) = some x → stitchOn s x.1 = true →
      (waiting s).find? (fun p => fragMatch s p.2 (asRec s x.1 x.2)) = none →
      completes .fragmentRecordReceived s (fun t => t = { s with
        xwIn := s.xwIn.erase x, vdt := { s.vdt with frags := s.vdt.frags ++ [asRec s x.1 x.2] } })) ∧
  (∀ (s : State) (x : Nat × XwMsg) (k : Nat) (o : Obj), s.xwIn.find? (fun x => isRec 3 x.2 && decide (x.1 ≤ 1)) = some x →
      stitchOn s x.1 = true → s.vdt.objs = [(k, o)] → o.st = 4 → s.vdt.frags = [] → fragMatch s o (asRec s x.1 x.2) = true →
      stitchSides s o = [x.1] → inReset s 0x60C02 = false → s.vdt.queue.length < 1024 →
      completes .fragmentRecordReceived s (fun t => (objOf t k).map (fun u => (u.st, u.reg.area)) =
          some (3, satN 24 (o.reg.area + (recPart s (asRec s x.1 x.2)).f.area)) ∧
        t.vdt.queue.length = s.vdt.queue.length + 1 ∧ countedMore s t Reg.VDT_XW_COUNT 31 0 1)) ∧
  (∀ (s : State) (x : Nat × XwMsg), s.xwIn.find? (fun x => isRec 3 x.2 && decide (x.1 ≤ 1)) = some x → stitchOn s x.1 = false →
      completes .fragmentRecordReceived s (fun t => t = { s with xwIn := s.xwIn.erase x })) ∧
  (∀ (s : State) (k : Nat) (o : Obj), longest s 4 = some k → objOf s k = some o → (component s 64 [k]).2 = [] →
      inReset s 0x60C02 = false → inReset s 0x60E00 = false → s.vdt.queue.length < 1024 → eventsTaken s = true →
      completes .stitchWindowExpire s (fun t => (objOf t k).map (·.st) = some 3 ∧
        (objOf t k).map (·.flags) = some (o.flags ||| 2 ^ 11) ∧ t.vdt.queue.length = s.vdt.queue.length + 1 ∧
        (linksInReset s (stitchSides s o) = false → eventPending t 0x316 = true))) ∧
  (∀ s : State, completes .neighbourFragmentExpire s (fun t => t = { s with vdt := { s.vdt with frags := s.vdt.frags.drop 1 } })) ∧
  (∀ (s : State) (x : Nat × XwMsg), s.xwIn.find? (fun x => isRec 4 x.2 && decide (2 ≤ x.1)) = some x → partnerOwner s = true →
      inReset s 0x60E01 = false → (partnerLinks s).contains x.1 = true →
      (s.vdt.objs.filter (fun p => p.2.st == 5)).filterMap (fun p => partnerDist s p.2 (asRec s x.1 x.2)) = [] →
      completes .partnerRecordReceived s (fun t => t = { s with
        xwIn := s.xwIn.erase x, vdt := { s.vdt with parts := s.vdt.parts ++ [asRec s x.1 x.2] } })) ∧
  (∀ (s : State) (x : Nat × XwMsg) (k v : Nat) (o : Obj), s.xwIn.find? (fun x => isRec 4 x.2 && decide (2 ≤ x.1)) = some x →
      partnerOwner s = true → inReset s 0x60E01 = false → inReset s 0x60F01 = false → (partnerLinks s).contains x.1 = true →
      s.vdt.objs = [(k, o)] → o.st = 5 → (partnerDist s o (asRec s x.1 x.2)).isSome = true →
      v = (combine (o.verdict.getD (0, 0, 0)) (recFld (asRec s x.1 x.2).words 0 47 44)).1 → v < 16 →
      completes .partnerRecordReceived s (fun t => objOf t k = none ∧ countedMore s t (Reg.VDT_XW_COUNT + 4) 31 0 1 ∧
        rnat t (Reg.VDT_VERDICT_COUNT + 4 * v) = (rnat s (Reg.VDT_VERDICT_COUNT + 4 * v) + 1) % 2 ^ 32)) ∧
  (∀ (s : State) (k : Nat), longest s 5 = some k → inReset s 0x60F01 = false → inReset s 0x60E01 = false → eventsTaken s = true →
      (objOf s k).isSome = true →
      completes .partnerWaitExpire s (fun t => objOf t k = none ∧
        (linksInReset s (partnerLinks s) = false → eventPending t 0x316 = true))) ∧
  (∀ (s : State) (q : XwRec) (rest : List XwRec), s.vdt.parts = q :: rest → fires s (recFld q.words 0 47 44) = false →
      completes .partnerAdopted s (fun t => t = { s with vdt := { s.vdt with parts := rest } })) ∧
  (∀ (s : State) (q : XwRec) (rest : List XwRec), s.vdt.parts = q :: rest → fires s (recFld q.words 0 47 44) = true →
      partnerOwner s = true → inReset s 0x60F01 = false → eventsTaken s = true →
      completes .partnerAdopted s (fun t => t.vdt.parts = rest ∧ objOf t 4096 = none ∧
        t.vdt.nextId = (s.vdt.nextId + 1) % 2 ^ 32 ∧
        eventPending t 0x609 = true))

/-- R252. A gust evaluation whose verdict fires issues one gust record of that verdict and checkpoint and ends the object's
checkpoints; one for an object that is gone only leaves the queue. R256, R257. At T_tick(n) − FRAME_LAT the frame of an enabled
bank is built for tick n and queued; its words go one by one into the input FIFO of the bank's pin engine while an entry is
free; a frame whose first word is not posted is abandoned with event 0x619. R259, R268. An ARM span of a gust verdict that
reaches its end leaves the scheduler and is counted in VDT_GUST_COUNT[4]. A firing gust record of the partner places, on the
valve owner, an ARM span of ARM_TTL ticks over each bank of its valves from the tick of its T_OPEN less ARM_LEAD, while the
scheduler has room. What the model chose or inferred in it: log entries 100, 162. -/
def Obligations.GustVerdictsFramesAndArmSpans : Prop :=
  (∀ (s : State) (c : Nat) (e : QEnt) (o : Obj), c < 4 → up s (0x60D00 + c) = true → inReset s 0x60C02 = false →
      nextEval s = some e → e.cp ≠ 0 → objOf s e.slot = some o → o.id = e.id → (o.st = 1 ∨ o.st = 2) →
      fires s (((runProgram s (o.prog.getD 0) (fun i => mgetD e.views i 0)).1.getD (15, 0)).1) = true →
      completes (.gustEvaluation c) s (fun t => (objOf t e.slot).bind (fun u => u.gustRec.map (fun g => (g.verdict, g.cp, g.closed))) =
          some (((runProgram s (o.prog.getD 0) (fun i => mgetD e.views i 0)).1.getD (15, 0)).1, e.cp, false) ∧
        (objOf t e.slot).map (·.cpNext) = some 5 ∧ (∃ ws, t.vdt.out = s.vdt.out ++ [ws]) ∧
        t.vdt.queue = s.vdt.queue.erase e)) ∧
  (∀ (s : State) (c : Nat) (e : QEnt), c < 4 → up s (0x60D00 + c) = true → inReset s 0x60C02 = false →
      nextEval s = some e → e.cp ≠ 0 → objOf s e.slot = none →
      completes (.gustEvaluation c) s (fun t => t.vdt.queue = s.vdt.queue.erase e ∧ t.vdt.objs = s.vdt.objs ∧
        t.vdt.out = s.vdt.out ∧ t.vdt.resv = s.vdt.resv ∧ countedMore s t Reg.VDT_GUST_COUNT 31 0 1)) ∧
  (∀ (s : State) (b : Nat), b < 8 → works s = true → rbit s (Reg.VDT_VB_CFG + 4 * b) 31 = true → tickLen s ≠ 0 →
      (∀ m, (mgetD s.vdt.framers b Framer.reset).last = some m → m < (s.t + frameLat s) / tickLen s) →
      inReset s (0x61000 + b) = false →
      completes (.valveFrameBuild b) s (fun t => mgetD t.vdt.framers b Framer.reset =
        ⟨some ((s.t + frameLat s) / tickLen s), (mgetD s.vdt.framers b Framer.reset).q ++
          [((s.t + frameLat s) / tickLen s, false,
            frameWords (commitCheck ((s.t + frameLat s) / tickLen s) s) b ((s.t + frameLat s) / tickLen s))]⟩)) ∧
  (∀ (s : State) (b e n w : Nat) (f : Bool) (ws : List Nat) (rest : List (Nat × Bool × List Nat)),
      (mgetD s.vdt.framers b Framer.reset).q = (n, f, w :: ws) :: rest → bankPe s b = some e → inReset s (0x61000 + b) = false →
      (eng s e).inF.length < 8 →
      completes (.frameWordPost b) s (fun t => (eng t e).inF = (eng s e).inF ++ [w % 2 ^ 32] ∧
        (mgetD t.vdt.framers b Framer.reset).q = (if ws = [] then rest else (n, true, ws) :: rest) ∧
        (∀ x, x ≠ e → eng t x = eng s x))) ∧
  (∀ (s : State) (b : Nat) (f : Nat × Bool × List Nat),
      (mgetD s.vdt.framers b Framer.reset).q.find? (fun f => !f.2.1) = some f → eventsTaken s = true →
      completes (.frameAbandoned b) s (fun t =>
        (mgetD t.vdt.framers b Framer.reset).q = (mgetD s.vdt.framers b Framer.reset).q.erase f ∧ eventPending t 0x619 = true)) ∧
  (∀ (s : State) (r : Resv), s.vdt.resv.find? (fun r =>
        !r.opn && (r.src == 0 || r.src == 2) && decide (r.hi ≤ ((s.t / tickLen s : Nat) : Int))) = some r →
      completes .armExpire s (fun t =>
        rnat t (Reg.VDT_GUST_COUNT + 16) = min (rnat s (Reg.VDT_GUST_COUNT + 16) + 1) (2 ^ 32 - 1) ∧
        t.vdt.resv = s.vdt.resv.erase r)) ∧
  (∀ (s : State) (n ty st ob : Nat) (ws : List (BitVec 128)) (cn : Nat × Nat) (a b : Int) (vs : List (Nat × List Nat)),
      s.xwIn.find? (fun x => isRec 1 x.2 && decide (2 ≤ x.1)) = some (n, .record ty st ob ws cn) →
      (partnerLinks s).contains n = true → inReset s 0x60F02 = false → rbit s Reg.VDT_XW_CFG 29 = true →
      rbit s Reg.VDT_XW_CFG 28 = true → captureMode s ≠ 2 → fires s (recFld ws 0 47 44) = true →
      a = localCol s (recFld ws 1 59 43) → b = localCol s (recFld ws 1 42 26) →
      vs = bankSets (valveSet s (min a b) (max a b)) → s.vdt.resv.length + vs.length ≤ 8192 →
      completes .partnerGustRecordReceived s (fun t => t.xwIn = s.xwIn.erase (n, .record ty st ob ws cn) ∧
        t.vdt.resv = s.vdt.resv ++ vs.map (fun p => ⟨ob, st, p.1, false, 2, p.2,
          fullT s (recFld ws 1 127 80) / tickLen s - rfld s Reg.VDT_EJ_ARM 9 0,
          fullT s (recFld ws 1 127 80) / tickLen s - rfld s Reg.VDT_EJ_ARM 9 0 + rfld s Reg.VDT_EJ_ARM 27 16⟩)))

/-! ### Companion inputs (09_companion_inputs.md, 15_management_bus.md) -/

/-- The two companion ports and the two housekeeping converters stay two: what the statements about ports and converters take as a
premise. -/
def Obligations.StepsKeepTwoPortsAndConverters : Prop :=
  State.reset.aux.ports.length = 2 ∧ State.reset.thm.conv.length = 2 ∧
    (∀ s t : State, s.aux.ports.length = 2 → step s = .next t → t.aux.ports.length = 2) ∧
    (∀ s t : State, s.thm.conv.length = 2 → step s = .next t → t.thm.conv.length = 2)

/-- R276, R280, R303. FVAL rising on a configured port counts a frame and opens it, and a pending context whose frame has come
takes effect with event 0x50B; FVAL falling closes the frame, with event 0x501 where it has fewer lines than expected. R278,
R279, R289, R294. LVAL rising in a frame begins the next line while the ring has a free slot; a line outside a frame is ignored
with event 0x505. A line that ends with all its words and no trailer enters the ring whole; one that is short is marked FILLED
with event 0x503. What the model chose or inferred in it: log entries 101, 172. -/
def Obligations.CompanionFramesAndLines : Prop :=
  (∀ (s : State) (p : Nat), s.aux.ports.length = 2 → configured s p = true → up s (0x50000 + p) = true → eventsTaken s = true →
      completes (.companionFrameStart p) s (fun t => (portOf t p).fval = true ∧ (portOf t p).frames = (portOf s p).frames + 1 ∧
        (portOf t p).rows = 0 ∧ (portOf t p).cur = none ∧ (portOf t p).tF = s.t ∧
        rnat t (preg Reg.AUX_PORT_FRAMES p) = (rnat s (preg Reg.AUX_PORT_FRAMES p) + 1) % 2 ^ 32 ∧
        (∀ i, ctxWith (portOf s p) 2 = some i →
          (ctxAt (portOf s p) i).eff ≤ (if rbit s (preg Reg.AUX_BUS_CFG p) 17 then (portOf s p).lvals else (portOf s p).frames + 1) →
          (ctxAt (portOf t p) i).st = 1 ∧ eventPending t 0x50B = true) ∧
        (∀ q, q ≠ p → portSettled (portOf s q) = true → portOf t q = portOf s q))) ∧
  (∀ (s : State) (p : Nat) (ws : List Nat), s.aux.ports.length = 2 → configured s p = true → up s (0x50000 + p) = true →
      (portOf s p).fval = true → eventsTaken s = true →
      completes (.companionFrameEnd p ws) s (fun t => (portOf t p).fval = false ∧ (portOf t p).cur = none ∧
        ((portOf s p).rows < pfld s p Reg.AUX_PORT_GEOM 28 16 → eventPending t 0x501 = true) ∧
        (∀ q, q ≠ p → portSettled (portOf s q) = true → portOf t q = portOf s q))) ∧
  (∀ (s : State) (p : Nat), s.aux.ports.length = 2 → configured s p = true → up s (0x50000 + p) = true →
      (portOf s p).fval = true →
      (pfld s p Reg.AUX_PORT_GEOM 28 16 = 0 ∨ (portOf s p).rows < pfld s p Reg.AUX_PORT_GEOM 28 16) →
      ((portOf s p).frames, (portOf s p).rows / 16) ∉ (portOf s p).drops → (ringLines s (portOf s p)).length < 32 →
      completes (.companionLineStart p) s (fun t => (portOf t p).rows = (portOf s p).rows + 1 ∧
        (portOf t p).lvals = (portOf s p).lvals + 1 ∧ (portOf t p).silent = false ∧ (portOf t p).ring = (portOf s p).ring ∧
        (∃ l, (portOf t p).cur = some l ∧ l.frame = (portOf s p).frames ∧ l.row = (portOf s p).rows ∧ l.words = [] ∧
        l.done = false) ∧
        (∀ q, q ≠ p → portSettled (portOf s q) = true → portOf t q = portOf s q))) ∧
  (∀ (s : State) (p : Nat), s.aux.ports.length = 2 → configured s p = true → up s (0x50000 + p) = true →
      (portOf s p).fval = false → eventsTaken s = true → (∀ q, q < 2 → portSettled (portOf s q) = true) →
      completes (.companionLineStart p) s (fun t => t.aux = s.aux ∧ eventPending t 0x505 = true)) ∧
  (∀ (s : State) (p : Nat) (ws : List Nat) (l : AuxLine), s.aux.ports.length = 2 → configured s p = true →
      up s (0x50000 + p) = true → (∀ q, q < 2 → portSettled (portOf s q) = true) → (portOf s p).cur = some l →
      pcfg s p 23 23 = 0 → ws.length = lineWords s p →
      (l.frame, l.row / 16) ∉ (portOf s p).drops → (ringLines s (portOf s p)).length < 32 →
      completes (.companionLineEnd p ws) s (fun t => (portOf t p).cur = none ∧
        (portOf t p).ring = (portOf s p).ring ++ [{ l with
          words := ws.map (· % 2 ^ 20), marks := 0, done := true, short := pcfg s p 21 20 == 1 && l.row % 2 == 1 }] ∧
        t.evt = s.evt ∧ (∀ q, q ≠ p → portSettled (portOf s q) = true → portOf t q = portOf s q))) ∧
  (∀ (s : State) (p : Nat) (ws : List Nat) (l : AuxLine), s.aux.ports.length = 2 → configured s p = true →
      up s (0x50000 + p) = true → (portOf s p).cur = some l → ws.length < lineWords s p → eventsTaken s = true →
      (l.frame, l.row / 16) ∉ (portOf s p).drops → (ringLines s (portOf s p)).length < 32 →
      completes (.companionLineEnd p ws) s (fun t => (portOf t p).cur = none ∧ eventPending t 0x503 = true ∧
        (∃ l1, (portOf t p).ring = (portOf s p).ring ++ [l1] ∧ l1.frame = l.frame ∧ l1.row = l.row ∧ l1.marks = 2 ∧
          l1.words.length = lineWords s p ∧ l1.words.take ws.length = ws.map (· % 2 ^ 20))))

/-- R294, R295. In split mode half p of the engine, and in shared mode half 0 where only port p has a ready stripe, takes the
oldest ready stripe of port p: it is in progress, the engine serves port p last, and each of its lines has a time at which it
leaves the ring. R299, R309, R310, R494, R495. A configured port without a line for 100 ms is SILENT with event 0x506; a
discovery or cure that is due and finds the bus free reads the ID where it is to be checked and then writes the initial list,
the list of the temperature band, and the exposure and gain; one that finds the bus held declares the companion absent with
event 0x50D, and in the first discovery with 0x50F too; an ID that is read right is shown and the writes go on; no acknowledge
or another ID declares the companion absent with events 0x50F and 0x50D. What the model chose or inferred in it: log entries
100, 101, 178, 275, 308. -/
def Obligations.CompanionStripesAndDiscovery : Prop :=
  (∀ (s : State) (h p : Nat) (l0 : AuxLine), s.aux.ports.length = 2 → h < 2 → up s (0x50100 + h) = true →
    (auxMode s = 2 ∧ h = p ∨ auxMode s = 1 ∧ h = 0 ∧ hasStripe s (1 - p) = false) → hasStripe s p = true →
    oldestLine (portOf s p) = some l0 →
    completes (.stripeProcess h) s (fun t => t.aux.last = p ∧
      (∃ b e, (p, l0.frame, l0.row / 16, b, e) ∈ t.aux.prog) ∧
      ∀ l, l ∈ (portOf t p).ring → inStripe l0.frame (l0.row / 16) l = true → l.freeAt.isSome = true)) ∧
  (∀ (s : State) (p : Nat), s.aux.ports.length = 2 → configured s p = true → up s (0x50000 + p) = true →
      (portOf s p).silent = false → portSettled (portOf s p) = true → eventsTaken s = true →
      completes (.portSilent p) s (fun t => portOf t p = { portOf s p with silent := true } ∧
        (∀ q, q ≠ p → portSettled (portOf s q) = true → portOf t q = portOf s q) ∧ eventPending t 0x506 = true)) ∧
  (∀ (s : State) (p clocks id : Nat) (ack : Bool), s.aux.ports.length = 2 → configured s p = true → up s (0x50300 + p) = true →
      (portOf s p).bus = 0 → (portOf s p).cure ≠ 0 → ctxWith (portOf s p) 1 = none →
      completes (.companionDiscovery p clocks true id ack) s (fun t => (portOf t p).bus = 3 ∧ (portOf t p).cure = 0 ∧
        (portOf t p).ident = (if pfld s p Reg.AUX_BUS_ID 31 16 = 0xFFFF then none else some (id, ack)) ∧
        (portOf t p).tx = (if pfld s p Reg.AUX_BUS_ID 31 16 = 0xFFFF then [] else [idReadTx s p]) ++
          busList s (0x24200 + 0x400 * p) 32 ++ tbList s p s.col.tb ++
          expWrites s p (rnat s (preg Reg.AUX_EXPL p)) (rnat s (preg Reg.AUX_EXPS p)) (rnat s (preg Reg.AUX_GAIN p)) ∧
        (∀ q, q ≠ p → portSettled (portOf s q) = true → portOf t q = portOf s q))) ∧
  (∀ (s : State) (p clocks id : Nat) (ack : Bool), s.aux.ports.length = 2 → configured s p = true →
      up s (0x50300 + p) = true → (portOf s p).bus = 0 → (portOf s p).cure ≠ 0 → eventsTaken s = true →
      completes (.companionDiscovery p clocks false id ack) s (fun t => (portOf t p).discOk = false ∧ (portOf t p).absent = true ∧
        (portOf t p).wait = [] ∧ (portOf t p).tx = [] ∧ (portOf t p).cure = 0 ∧
        (∀ q, q ≠ p → portSettled (portOf s q) = true → portOf t q = portOf s q) ∧
        ((portOf s p).cure = 1 → eventPending t 0x50F = true) ∧ eventPending t 0x50D = true)) ∧
  (∀ (s : State) (p id : Nat), s.aux.ports.length = 2 → p < 2 → up s (0x50300 + p) = true → (portOf s p).bus = 3 →
      (portOf s p).ident = some (id, true) → id % 65536 = pfld s p Reg.AUX_BUS_ID 15 0 → portSettled (portOf s p) = true →
      completes (.cbTransactionDone p true) s (fun t => portOf t p = { portOf s p with
          tx := (portOf s p).tx.drop 1, ident := none, rep := false, restarts := 0 } ∧
        pfld t p Reg.AUX_BUS_STATUS 15 0 = id % 65536)) ∧
  (∀ (s : State) (p id : Nat) (ack : Bool), s.aux.ports.length = 2 → p < 2 → up s (0x50300 + p) = true → (portOf s p).bus = 3 →
      (portOf s p).ident = some (id, ack) → (ack = false ∨ id % 65536 ≠ pfld s p Reg.AUX_BUS_ID 15 0) → eventsTaken s = true →
      completes (.cbTransactionDone p true) s (fun t => (portOf t p).discOk = false ∧ (portOf t p).absent = true ∧
        (portOf t p).wait = [] ∧ (portOf t p).tx = [] ∧ (∀ q, q ≠ p → portSettled (portOf s q) = true → portOf t q = portOf s q) ∧
        eventPending t 0x50F = true ∧ eventPending t 0x50D = true))

/-- R301, R302, R304. The oldest waiting change is written once no context is pending or retiring: its transactions go to the
bus. A pending context whose frame does not begin is withdrawn with event 0x50C and the current values are written again. R305,
R494, R496. An acknowledged transaction gives way to the next; the last one of a change ends it and makes its context pending,
and the last one of discovery ends that with event 0x50E (R299); a transaction that fails is counted and repeated once, in
discovery too (log entry 178), after which a change is withdrawn with event 0x50C and a discovery ends with the companion
absent, 0x50F and 0x50D; contention restarts a transaction three times; a stretched bus makes the companion absent with event
0x50D. What the model chose or inferred in it: log entries 100, 177, 178, 275. -/
def Obligations.CompanionContextsAndBus : Prop :=
  (∀ (s : State) (p : Nat) (c : AuxChange) (rest : List AuxChange), s.aux.ports.length = 2 → p < 2 → up s (0x50300 + p) = true →
      (portOf s p).wait = c :: rest → (portOf s p).absent = false → (portOf s p).bus = 0 → (portOf s p).cure = 0 →
      ctxWith (portOf s p) 2 = none →
      ctxWith (portOf s p) 3 = none →
      completes (.contextChangeWrite p) s (fun t => (portOf t p).wait = rest ∧ (portOf t p).bus = 1 ∧
        (c.src ≠ 2 → (portOf t p).change = some { c with tb := s.col.tb }) ∧
        (∃ c1, (portOf t p).change = some c1 ∧ c1.src = c.src ∧ (portOf t p).tx = changeWrites s p c1) ∧
        (∀ q, q ≠ p → portSettled (portOf s q) = true → portOf t q = portOf s q))) ∧
  (∀ (s : State) (p : Nat), s.aux.ports.length = 2 → p < 2 → up s (0x50300 + p) = true → (ctxWith (portOf s p) 2).isSome = true →
      eventsTaken s = true →
      completes (.ctxWithdraw p) s (fun t => (portOf t p).bus = 2 ∧ (portOf t p).change = none ∧ ctxWith (portOf t p) 2 = none ∧
        (∀ q, q ≠ p → portSettled (portOf s q) = true → portOf t q = portOf s q) ∧ eventPending t 0x50C = true)) ∧
  (∀ (s : State) (p : Nat), s.aux.ports.length = 2 → p < 2 → up s (0x50300 + p) = true → (portOf s p).bus ≠ 0 →
      1 < (portOf s p).tx.length → portSettled (portOf s p) = true → (portOf s p).ident = none →
      completes (.cbTransactionDone p true) s (fun t => portOf t p = { portOf s p with
        tx := (portOf s p).tx.drop 1, rep := false, restarts := 0 } ∧ (∀ q, q ≠ p → portSettled (portOf s q) = true →
        portOf t q = portOf s q))) ∧
  (∀ (s : State) (p : Nat) (c : AuxChange), s.aux.ports.length = 2 → p < 2 → up s (0x50300 + p) = true → (portOf s p).bus = 1 →
      (portOf s p).tx.length ≤ 1 → (portOf s p).change = some c →
      completes (.cbTransactionDone p true) s (fun t => (portOf t p).bus = 0 ∧ (portOf t p).change = none ∧ (portOf t p).tx = [] ∧
        (∀ i, ctxWith (portOf s p) 0 = some i → i < (portOf s p).ctx.length →
          (ctxAt (portOf t p) i).st = 2 ∧ (ctxAt (portOf t p) i).expL = c.expL ∧ (ctxAt (portOf t p) i).gain = c.gain) ∧
        (∀ q, q ≠ p → portSettled (portOf s q) = true → portOf t q = portOf s q))) ∧
  (∀ (s : State) (p : Nat), s.aux.ports.length = 2 → p < 2 → up s (0x50300 + p) = true → (portOf s p).bus = 3 →
      (portOf s p).ident = none → (portOf s p).tx.length ≤ 1 → eventsTaken s = true →
      completes (.cbTransactionDone p true) s (fun t => (portOf t p).discOk = true ∧ (portOf t p).absent = false ∧
        (portOf t p).bus = 0 ∧ (portOf t p).tx = [] ∧ (∀ q, q ≠ p → portSettled (portOf s q) = true → portOf t q = portOf s q) ∧
        eventPending t 0x50E = true)) ∧
  (∀ (s : State) (p : Nat), s.aux.ports.length = 2 → p < 2 → up s (0x50300 + p) = true →
      (portOf s p).bus ≠ 0 → (portOf s p).rep = false → portSettled (portOf s p) = true →
      completes (.cbTransactionDone p false) s (fun t => portOf t p = { portOf s p with rep := true, restarts := 0 } ∧
        countedMore s t (preg Reg.AUX_BUS_STATUS p) 31 24 1)) ∧
  (∀ (s : State) (p : Nat), s.aux.ports.length = 2 → p < 2 → up s (0x50300 + p) = true → (portOf s p).bus = 3 →
      (portOf s p).rep = true → eventsTaken s = true →
      completes (.cbTransactionDone p false) s (fun t => (portOf t p).absent = true ∧ (portOf t p).bus = 0 ∧
        (portOf t p).tx = [] ∧
        eventPending t 0x50F = true ∧ eventPending t 0x50D = true)) ∧
  (∀ (s : State) (p : Nat), s.aux.ports.length = 2 → p < 2 → up s (0x50300 + p) = true → (portOf s p).bus = 1 →
      (portOf s p).rep = true → eventsTaken s = true →
      completes (.cbTransactionDone p false) s (fun t => (portOf t p).bus = 2 ∧ (portOf t p).change = none ∧
        eventPending t 0x50C = true)) ∧
  (∀ (s : State) (p : Nat), s.aux.ports.length = 2 → p < 2 → up s (0x50300 + p) = true → (portOf s p).bus ≠ 0 →
      (portOf s p).restarts < 3 → (∀ q, q < 2 → portSettled (portOf s q) = true) →
      completes (.cbContentionRestart p) s (fun t => portOf t p = { portOf s p with restarts := (portOf s p).restarts + 1 } ∧
        t.regs = s.regs)) ∧
  (∀ (s : State) (p : Nat), s.aux.ports.length = 2 → p < 2 → up s (0x50300 + p) = true →
      (portOf s p).bus ≠ 0 → 3 ≤ (portOf s p).restarts → (portOf s p).rep = false →
      portSettled (portOf s p) = true →
      completes (.cbContentionRestart p) s (fun t => portOf t p = { portOf s p with rep := true, restarts := 0 })) ∧
  (∀ (s : State) (p : Nat), s.aux.ports.length = 2 → configured s p = true → up s (0x50300 + p) = true →
      (portOf s p).bus ≠ 0 → eventsTaken s = true →
      completes (.cbStretchTimeout p) s (fun t => (portOf t p).absent = true ∧ (portOf t p).bus = 0 ∧ (portOf t p).tx = [] ∧
        eventPending t 0x50D = true))

/-! ### Serial lanes (10_serial_lanes.md) -/

/-- R317, R319, R334. A data row of a set carries a stream word in each slot: SWN advances by the number of slots. An ALIGN row
with no change due keeps the map; one after a fault gives the slot to the first spare (event 0x702), or without a spare lets
NDATA fall by one (event 0x703), under the next MAP_SEQ. What the model chose or inferred in it: log entries 183, 184, 188. -/
def Obligations.RowsCarryWordsAndMapChanges : Prop :=
  (∀ (s : State) (n : Nat), (laneSet s n).stage ≠ 0 → (laneSet s n).down = false → (laneSet s n).slots ≠ [] →
      alignDue (laneSet s n) = false →
      completes (.laneRowSend n) s (fun t => (laneSet t n).rows = (laneSet s n).rows + 1 ∧
        (laneSet t n).swn = ((laneSet s n).swn + (laneSet s n).slots.length) % 2 ^ 48 ∧
        (laneSet t n).slots = (laneSet s n).slots ∧ (laneSet t n).spares = (laneSet s n).spares ∧
        (∀ m, m ≠ n → laneSet t m = laneSet s m))) ∧
  (∀ (s : State) (n : Nat), (laneSet s n).stage ≠ 0 → (laneSet s n).down = false → alignDue (laneSet s n) = true →
      (laneSet s n).faults = [] → (laneSet s n).planned = none →
      completes (.alignRow n) s (fun t => laneSet t n = { laneSet s n with rows := 0 } ∧ (∀ m, m ≠ n →
        laneSet t m = laneSet s m))) ∧
  (∀ (s : State) (n sp : Nat) (rest : List Nat) (m : MapChange), (laneSet s n).stage ≠ 0 → (laneSet s n).down = false →
      (laneSet s n).faults = [m] → m.lane ∈ (laneSet s n).slots → (laneSet s n).spares = sp :: rest → eventsTaken s = true →
      completes (.alignRow n) s (fun t => (laneSet t n).slots = (laneSet s n).slots.map (fun l => if l = m.lane then sp else l) ∧
        (laneSet t n).spares = rest ∧ (laneSet t n).mapSeq = ((laneSet s n).mapSeq + 1) % 16 ∧ (laneSet t n).faults = [] ∧
        (laneSet t n).rows = 0 ∧ eventPending t 0x702 = true)) ∧
  (∀ (s : State) (n : Nat) (m : MapChange), (laneSet s n).stage ≠ 0 → (laneSet s n).down = false →
      (laneSet s n).faults = [m] → m.lane ∈ (laneSet s n).slots → (laneSet s n).spares = [] →
      (laneSet s n).slots.erase m.lane ≠ [] → eventsTaken s = true →
      completes (.alignRow n) s (fun t => (laneSet t n).slots = (laneSet s n).slots.erase m.lane ∧
        (laneSet t n).lossDue = true ∧ (laneSet t n).mapSeq = ((laneSet s n).mapSeq + 1) % 16 ∧ (laneSet t n).rows = 0 ∧
        eventPending t 0x703 = true))

/-- R328, R330, R331. A line unit that fits its region joins the queue of its class on its set; one of a dropped class is
refused and counted. A unit that has reached its age limit leaves its class, with event 0x70A and a DL_LANE miss (event 0x315).
What the model chose or inferred in it: log entries 100, 190. -/
def Obligations.UnitsAreAdmittedAndAgedOut : Prop :=
  (∀ (s : State) (u : LineUnit) (rest : List LineUnit) (n c : Nat), s.pip.units = u :: rest → n = routeOf s u.family u.plane →
      c = famClass u.family → inReset s 0x70301 = false → (laneSet s n).down = false → inReset s (setFid n) = false →
      (laneSet s n).admits = true → (bit (laneSet s n).drop (3 - c) = false ∨ laterL (dropLine (laneSet s n) c) u.l = true) →
      lowBytes (laneSet s n) + 16 * nsum ((unitPackets c u).map (fun p => p.payload.length)) ≤ regionBytes s n - p0Reserve →
      completes .unitAdmit s (fun t => t.pip = { s.pip with units := rest } ∧
        laneSet t n = { laneSet s n with q := (laneSet s n).q.set c (clsQ (laneSet s n) c ++
          [⟨s.t, if u.family = 5 then some (bits u.fmt.toNat 56 41) else none, false, unitPackets c u⟩]) } ∧
        (∀ m, m ≠ n → laneSet t m = laneSet s m))) ∧
  (∀ (s : State) (u : LineUnit) (rest : List LineUnit) (n c : Nat), s.pip.units = u :: rest → n = routeOf s u.family u.plane →
      c = famClass u.family → inReset s 0x70301 = false → (laneSet s n).down = false → inReset s (setFid n) = false →
      (laneSet s n).admits = true → bit (laneSet s n).drop (3 - c) = true → laterL (dropLine (laneSet s n) c) u.l = false →
      completes .unitAdmit s (fun t => t.pip.units = rest ∧ t.lnk = s.lnk ∧
        rnat t (Reg.LNK_SET_DROP + 0x80 * n + 4 * c) = min (rnat s (Reg.LNK_SET_DROP + 0x80 * n + 4 * c) + 1) (2 ^ 32 - 1))) ∧
  (∀ (s : State) (n c : Nat) (u : LUnit) (rest : List LUnit), 1 ≤ c → c ≤ 3 → clsQ (laneSet s n) c = u :: rest →
      eventsTaken s = true → inReset s (setFid n) = false →
      completes (.ageDrop n c) s (fun t => laneSet t n = { laneSet s n with q := (laneSet s n).q.set c rest } ∧
        (∀ m, m ≠ n → laneSet t m = laneSet s m) ∧ eventPending t 0x70A = true ∧ eventPending t 0x315 = true))

/-- R324, R327. A record goes to every set of REC_SETS that is enabled and runs: it opens a RECORDS packet, or joins the open
one while REC_MAX allows. REC_CLOSE closes the open packet into P0. The heartbeat queues a STATUS with CAUSE 0 and the L_EFF in
force. What the model chose or inferred in it: log entry 100. -/
def Obligations.RecordsAndStatusAreQueued : Prop :=
  (∀ (s : State) (ws : List (BitVec 128)) (rest : List (List (BitVec 128))), s.vdt.out = ws :: rest →
      completes .recordEnqueue s (fun t => t.vdt = { s.vdt with out := rest } ∧ ∀ n, n < 4 → rbit s Reg.LNK_CFG (24 + n) = true →
        setEn s n = true → (laneSet s n).down = false → (laneSet s n).stage ≠ 0 →
        ((laneSet s n).recs = none → (laneSet t n).recs = some ⟨s.t, 1, ws⟩) ∧
        (∀ r, (laneSet s n).recs = some r → r.words.length + ws.length ≤ rfld s Reg.LNK_CFG 15 8 →
          (laneSet t n).recs = some { r with n := r.n + 1, words := r.words ++ ws }))) ∧
  (∀ (s : State) (n : Nat) (r : OpenRecs), (laneSet s n).recs = some r →
      completes (.recordsPacketClose n) s (fun t => laneSet t n = { laneSet s n with
        recs := none, q := (laneSet s n).q.set 0 (clsQ (laneSet s n) 0 ++ [⟨r.t, none, false, [recordsPacket r]⟩]) } ∧
        (∀ m, m ≠ n → laneSet t m = laneSet s m))) ∧
  (∀ (s : State) (n : Nat), (laneSet s n).stage = 2 → (laneSet s n).down = false →
      completes (.statusHeartbeat n) s (fun t => laneSet t n = { laneSet s n with
        status := (laneSet s n).status ++ [statusWord s n false 0 (laneSet s n).lEff], statusT := s.t } ∧
        (∀ m, m ≠ n → laneSet t m = laneSet s m)))

/-- R333, R334, R336, R351. A lane that fails is failed at once with event 0x700: a data lane waits for the next ALIGN row, and
a spare leaves the spares. A set whose serialiser PLL unlocks loses every lane and is down, with events 0x722 and 0x706. R333,
R337, R338. WARN on a data lane (event 0x701) and a host move each plan a move into the first spare, with causes 4 and 5; a host
move of a lane in no data slot is refused with event 0x705. A failed lane whose function has been reset returns as a spare, and
to a set that was down as its only slot with event 0x704. What the model chose or inferred in it: log entries 101, 185, 187,
189. -/
def Obligations.FailedLanesAndPlannedMoves : Prop :=
  (∀ (s : State) (n lane cause swing cur : Nat), setOfLane s lane = some n → (laneSet s n).stage ≠ 0 →
      lane ∈ (laneSet s n).slots → (laneSet s n).faults.any (fun m => m.lane == lane) = false → eventsTaken s = true →
      completes (.laneFault lane cause swing cur) s (fun t => (laneSet t n).failed = (laneSet s n).failed ++ [lane] ∧
        (laneSet t n).faults = (laneSet s n).faults ++ [⟨lane, cause % 4, true, 31, none⟩] ∧
        (laneSet t n).slots = (laneSet s n).slots ∧ rfld t (Reg.LNK_DT_STATUS + 0x20 * lane) 12 8 = 2 ^ (cause % 4) ∧
        (∀ m, m ≠ n → laneSet t m = laneSet s m) ∧ eventPending t 0x700 = true)) ∧
  (∀ (s : State) (n lane cause swing cur : Nat), setOfLane s lane = some n → (laneSet s n).stage ≠ 0 →
      lane ∉ (laneSet s n).slots → eventsTaken s = true →
      completes (.laneFault lane cause swing cur) s (fun t => (laneSet t n).failed = (laneSet s n).failed ++ [lane] ∧
        (laneSet t n).spares = (laneSet s n).spares.erase lane ∧ (laneSet t n).slots = (laneSet s n).slots ∧
        (∀ m, m ≠ n → laneSet t m = laneSet s m) ∧ eventPending t 0x700 = true)) ∧
  (∀ (s : State) (n : Nat), (laneSet s n).stage ≠ 0 → (laneSet s n).down = false → eventsTaken s = true →
      completes (.setPllUnlock n) s (fun t => (laneSet t n).down = true ∧ (laneSet t n).slots = [] ∧ (laneSet t n).spares = [] ∧
        (laneSet t n).q = [[], [], [], []] ∧ (∀ m, m ≠ n → laneSet t m = laneSet s m) ∧
        eventPending t 0x722 = true ∧ eventPending t 0x706 = true)) ∧
  (∀ (s : State) (n lane swing cur sp : Nat) (rest : List Nat), setOfLane s lane = some n → (laneSet s n).stage ≠ 0 →
      lane ∈ (laneSet s n).slots → (laneSet s n).planned = none → (laneSet s n).wants = [] → (laneSet s n).spares = sp :: rest →
      eventsTaken s = true →
      completes (.laneWarn lane swing cur) s (fun t => (laneSet t n).planned = some ⟨lane, 4, false, sp, none⟩ ∧
        (laneSet t n).slots = (laneSet s n).slots ∧ (laneSet t n).maps = (laneSet s n).maps ++ [⟨lane, 4, false, sp, none⟩] ∧
        eventPending t 0x701 = true)) ∧
  (∀ (s : State) (n v sp : Nat) (rest : List Nat),
      (List.range 4).find? (fun n => (laneSet s n).slots.contains (v % 32)) = some n → (laneSet s n).stage ≠ 0 →
      (laneSet s n).down = false → (laneSet s n).planned = none → (laneSet s n).wants = [] → (laneSet s n).spares = sp :: rest →
      works s = true →
      completes (.laneMove v) s (fun t => (laneSet t n).planned = some ⟨v % 32, 5, false, sp, none⟩ ∧
        (laneSet t n).slots = (laneSet s n).slots ∧ (laneSet t n).maps = (laneSet s n).maps ++ [⟨v % 32, 5, false, sp, none⟩])) ∧
  (∀ (s : State) (v : Nat), (∀ n, n < 4 → v % 32 ∉ (laneSet s n).slots) → eventsTaken s = true →
      works s = true →
      completes (.laneMove v) s (fun t => t.lnk = s.lnk ∧ eventPending t 0x705 = true)) ∧
  (∀ (s : State) (n lane : Nat), (List.range 4).find? (fun n => (laneSet s n).failed.contains lane) = some n →
      lane ∈ s.lnk.returned → inReset s (dtFid lane) = false → (laneSet s n).stage ≠ 0 → (laneSet s n).down = false →
      cfgNdata s n ≤ (laneSet s n).slots.length →
      completes (.laneReturn lane) s (fun t => laneSet t n = { laneSet s n with
        failed := (laneSet s n).failed.erase lane, spares := (laneSet s n).spares ++ [lane] } ∧
        t.lnk.returned = s.lnk.returned.erase lane)) ∧
  (∀ (s : State) (n lane : Nat), (List.range 4).find? (fun n => (laneSet s n).failed.contains lane) = some n →
      lane ∈ s.lnk.returned → inReset s (dtFid lane) = false → (laneSet s n).stage ≠ 0 → (laneSet s n).down = true →
      eventsTaken s = true →
      completes (.laneReturn lane) s (fun t => (laneSet t n).down = false ∧ (laneSet t n).slots = [lane] ∧
        (laneSet t n).failed = (laneSet s n).failed.erase lane ∧ (laneSet t n).mapSeq = ((laneSet s n).mapSeq + 1) % 16 ∧
        eventPending t 0x704 = true))

/-- R332, R340, R341, R351. After a loss or a return of a data lane the classes carried are judged once: dropped until the
framed demand fits, and otherwise restored. A set in bring-up comes up with event 0x707 and a STATUS; after the calm status a
set whose P0 is empty goes idle with event 0x71F. A PRBS test starts and ends on a spare or unused lane, only sets its register
while the lane function is halted, and on a data slot or a failed lane is refused. What the model chose or inferred in it: log
entries 100, 182, 198. -/
def Obligations.SetsComeUpShedAndIdle : Prop :=
  (∀ (s : State) (n : Nat), (laneSet s n).lossDue = true → (laneSet s n).down = false → (laneSet s n).stage ≠ 0 →
      completes (.lanePolicyUpdate n) s (fun t => (laneSet t n).lossDue = false ∧
        (laneSet t n).drop = (if dropFor s n (laneSet s n).slots.length (laneSet s n).drop = (laneSet s n).drop
          then restoreFor s n (laneSet s n).slots.length (laneSet s n).drop
          else dropFor s n (laneSet s n).slots.length (laneSet s n).drop) ∧ (∀ m, m ≠ n → laneSet t m = laneSet s m))) ∧
  (∀ (s : State) (n : Nat), (laneSet s n).stage = 1 → (laneSet s n).down = false → inReset s (setFid n) = false →
      eventsTaken s = true →
      completes (.setUp n) s (fun t => (laneSet t n).stage = 2 ∧ (laneSet t n).status.length = (laneSet s n).status.length + 1 ∧
        (∀ m, m ≠ n → laneSet t m = laneSet s m) ∧ eventPending t 0x707 = true)) ∧
  (∀ (s : State) (n : Nat), (laneSet s n).calm = true → (laneSet s n).stage = 2 →
      (p0Empty s n = true ∨ (laneSet s n).down = true) →
      eventsTaken s = true →
      completes (.setIdle n) s (fun t => (laneSet t n).stage = 0 ∧ (laneSet t n).slots = [] ∧
        (laneSet t n).failed = (laneSet s n).failed ∧ (∀ m, m ≠ n → laneSet t m = laneSet s m) ∧ eventPending t 0x71F = true)) ∧
  (∀ (s : State) (lane v : Nat), lane < 24 → (laneRole s lane).1 % 2 = 0 →
      ownerHalted (Reg.LNK_DT_TEST + 0x20 * lane) 31 s = false → bit v 31 = true → eventsTaken s = true →
      completes (.prbsTest lane v) s (fun t => lane ∈ t.lnk.prbs ∧ t.lnk.sets = s.lnk.sets ∧ eventPending t 0x721 = true)) ∧
  (∀ (s : State) (lane v : Nat), lane < 24 → (laneRole s lane).1 % 2 = 0 →
      ownerHalted (Reg.LNK_DT_TEST + 0x20 * lane) 31 s = false → bit v 31 = false →
      completes (.prbsTest lane v) s (fun t =>
        t.lnk = { s.lnk with prbs := s.lnk.prbs.erase lane, wire := mdel s.lnk.wire lane } ∧ t.evt = s.evt)) ∧
  (∀ (s : State) (lane v : Nat), lane < 24 → (laneRole s lane).1 % 2 = 0 →
      ownerHalted (Reg.LNK_DT_TEST + 0x20 * lane) 31 s = true →
      completes (.prbsTest lane v) s (fun t => rbit t (Reg.LNK_DT_TEST + 0x20 * lane) 31 = bit v 31 ∧
        t.lnk = s.lnk ∧ t.evt = s.evt)) ∧
  (∀ (s : State) (lane v : Nat), lane < 24 → (laneRole s lane).1 % 2 = 1 →
      completes (.prbsTest lane v) s (fun t => t.lnk = s.lnk))

/-! ### Crosswind links (10_serial_lanes.md, 14_configuration_boot.md) -/

/-- R343, R344. With no packet in hand the first of VC0, VC1 and VC2 whose front packet has its credit launches it under the
link's SEQ, stamped by the master; a packet of VC1 or VC2 goes word by word, and one of VC0 goes whole between its words; a
record that must wait for credit is counted once as a stall, with event 0x716. A CREDIT position tells the words freed, and one
with a right check tells what the peer has freed; one with a wrong check costs nothing. What the model chose or inferred in it:
log entry 192. -/
def Obligations.CreditGatesLinkPackets : Prop :=
  (∀ (s : State) (n c : Nat) (m : XwMsg) (rest : List XwMsg), (xwLane s n).st = 2 →
      (xwLane s n).left = [] → pickVc (xwLane s n) [0, 1, 2] = some (c, m, rest) →
      completes (.linkPacketSend n) s (fun t => vcQ (xwLane t n) c = rest ∧
        (∀ d, d < 3 → d ≠ c → vcQ (xwLane t n) d = vcQ (xwLane s n) d) ∧
        (xwLane t n).seq = ((xwLane s n).seq + 1) % 2 ^ 32 ∧ (xwLane t n).lastWords = xwPacket (xwLane s n).seq (stampT s.t m) ∧
        (xwLane t n).left = (if c = 0 then [] else (xwPacket (xwLane s n).seq (stampT s.t m)).drop 1) ∧
        (∀ k, k ≠ n → xwLane t k = xwLane s k))) ∧
  (∀ (s : State) (n : Nat) (w : BitVec 128) (ws : List (BitVec 128)) (m : XwMsg) (rest : List XwMsg), (xwLane s n).st = 2 →
      (xwLane s n).left = w :: ws → pickVc (xwLane s n) [0] = some (0, m, rest) →
      completes (.linkPacketSend n) s (fun t => (xwLane t n).q0 = rest ∧ (xwLane t n).left = w :: ws ∧
        (xwLane t n).lastWords = xwPacket (xwLane s n).seq (stampT s.t m) ∧ (∀ k, k ≠ n → xwLane t k = xwLane s k))) ∧
  (∀ (s : State) (n : Nat) (w : BitVec 128) (ws : List (BitVec 128)), (xwLane s n).st = 2 → (xwLane s n).left = w :: ws →
      pickVc (xwLane s n) [0] = none →
      completes (.linkPacketSend n) s (fun t => (xwLane t n).left = ws ∧ (xwLane t n).seq = (xwLane s n).seq ∧
        (∀ d, d < 3 → vcQ (xwLane t n) d = vcQ (xwLane s n) d) ∧ (∀ k, k ≠ n → xwLane t k = xwLane s k))) ∧
  (∀ (s : State) (n : Nat) (m : XwMsg) (rest : List XwMsg), (xwLane s n).st = 2 → pickVc (xwLane s n) [0, 1, 2] = none →
      (xwLane s n).left = [] → (xwLane s n).q1 = m :: rest → (xwLane s n).stalled = false → eventsTaken s = true →
      completes (.linkPacketSend n) s (fun t => xwLane t n = { xwLane s n with stalled := true } ∧
        (∀ k, k ≠ n → xwLane t k = xwLane s k) ∧ eventPending t 0x716 = true)) ∧
  (∀ (s : State) (n : Nat), (xwLane s n).st = 2 →
      completes (.creditSend n) s (fun t => (xwLane t n).freedTold = (xwLane s n).freedOwn ∧
        (xwLane t n).freedOwn = (xwLane s n).freedOwn ∧ (∀ k, k ≠ n → xwLane t k = xwLane s k))) ∧
  (∀ (s : State) (n b1 b2 : Nat), (xwLane s n).st = 2 → bits b1 7 0 = 0x2D → bits b2 7 0 = 0xD2 →
      (pec (leBytes 6 (b1 / 256 % 2 ^ 48) ++ leBytes 7 (b2 / 256 % 2 ^ 56))).toNat = bits b1 63 56 →
      completes (.creditReceived n (b1, b2)) s (fun t => xwLane t n = { xwLane s n with
        freedPeer := [bits b1 23 8, bits b1 39 24, bits b1 55 40] } ∧ (∀ k, k ≠ n → xwLane t k = xwLane s k))) ∧
  (∀ (s : State) (n b1 b2 : Nat), (pec (leBytes 6 (b1 / 256 % 2 ^ 48) ++ leBytes 7 (b2 / 256 % 2 ^ 56))).toNat ≠ bits b1 63 56 →
      completes (.creditReceived n (b1, b2)) s (fun t => t = s))

/-- R342, R343, R346, R347, R461. A packet within its credit whose CRC, type and length are right is delivered once; one beyond
the credit is discarded with event 0x71D, one with a bad CRC is discarded with event 0x714 and returns its credit, and the
second copy for the partner is discarded. What the model chose or inferred in it: log entry 193. -/
def Obligations.LinkPacketsAreCheckedAndDelivered : Prop :=
  (∀ (s : State) (n c h : Nat) (ws ps : List (BitVec 128)) (cn : Nat × Nat) (m : XwMsg), (xwLane s n).st = 2 →
      h = (ws.headD 0).toNat → c = min 2 (bits h 123 122) → ps = (ws.drop 1).dropLast → ws = packetWords h ps →
      ((xwLane s n).recv.getD c 0 + ws.length + 2 ^ 16 - (xwLane s n).freedTold.getD c 0) % 2 ^ 16 ≤ vcBuf c →
      bits h 119 108 = ps.length → ps.length ≤ 22 → 8 ≤ bits h 127 124 → bits h 127 124 ≤ 12 → xwDecode h ps cn = some m →
      inReset s 0x70300 = false → (vcOf m = 2 ∨ (xwLane s n).accepted = true) →
      (n < 2 ∨ vcOf m = 2 ∨ dupKey m ∉ s.lnk.seen) →
      completes (.linkPacketReceived n ws cn) s (fun t => t.xwIn = s.xwIn ++ [(n, m)] ∧
        xwLane t n = { xwLane s n with
          recv := addVc (xwLane s n).recv c ws.length, freedOwn := addVc (xwLane s n).freedOwn c ws.length } ∧
        (∀ k, k ≠ n → xwLane t k = xwLane s k) ∧ (2 ≤ n → vcOf m ≠ 2 → dupKey m ∈ t.lnk.seen))) ∧
  (∀ (s : State) (n : Nat) (ws : List (BitVec 128)) (cn : Nat × Nat), (xwLane s n).st = 2 → 2 ≤ ws.length →
      vcBuf (min 2 (bits (ws.headD 0).toNat 123 122)) < ((xwLane s n).recv.getD (min 2 (bits (ws.headD 0).toNat 123 122)) 0 +
        ws.length + 2 ^ 16 - (xwLane s n).freedTold.getD (min 2 (bits (ws.headD 0).toNat 123 122)) 0) % 2 ^ 16 →
      eventsTaken s = true →
      completes (.linkPacketReceived n ws cn) s (fun t => t.xwIn = s.xwIn ∧ t.xw = s.xw ∧ eventPending t 0x71D = true)) ∧
  (∀ (s : State) (n c h : Nat) (ws : List (BitVec 128)) (cn : Nat × Nat), (xwLane s n).st = 2 → 2 ≤ ws.length →
      h = (ws.headD 0).toNat → c = min 2 (bits h 123 122) →
      ((xwLane s n).recv.getD c 0 + ws.length + 2 ^ 16 - (xwLane s n).freedTold.getD c 0) % 2 ^ 16 ≤ vcBuf c →
      packetWords h ((ws.drop 1).dropLast) ≠ ws → eventsTaken s = true →
      completes (.linkPacketReceived n ws cn) s (fun t => t.xwIn = s.xwIn ∧ xwLane t n = { xwLane s n with
          recv := addVc (xwLane s n).recv c ws.length, freedOwn := addVc (xwLane s n).freedOwn c ws.length } ∧
        eventPending t 0x714 = true)) ∧
  (∀ (s : State) (n h : Nat) (ws ps : List (BitVec 128)) (cn : Nat × Nat) (m : XwMsg), h = (ws.headD 0).toNat →
      ps = (ws.drop 1).dropLast → xwDecode h ps cn = some m → 2 ≤ n → vcOf m ≠ 2 → dupKey m ∈ s.lnk.seen →
      completes (.linkPacketReceived n ws cn) s (fun t => t.xwIn = s.xwIn))

/-- R347, R349. Invalid sync headers are counted with event 0x715; a link with more than 4 of them goes DOWN with event 0x712
and its traffic is discarded. Training without word lock leaves the link DOWN and with too low a best FOM takes it OFF, each
with event 0x711; otherwise it comes up with the peaking of the best FOM (event 0x710, and 0x713 after a loss), TBS_XW_LAT is
the mean round trip / 2, and PAIR is queued. That the mean is rounded to the nearest 5 ns, a half
up, is inferred, log entry 12. What else the model chose or inferred in it: log entries 101, 181, 312, 313, 314. -/
def Obligations.LinksTrainLoseLockAndRetrain : Prop :=
  (∀ (s : State) (n errs : Nat), (xwLane s n).st = 2 → 4 < errs → eventsTaken s = true →
      completes (.linkWordLockLoss n errs) s (fun t => (xwLane t n).st = 3 ∧ (xwLane t n).lock = false ∧
        (xwLane t n).q0 = [] ∧ (xwLane t n).q1 = [] ∧ (xwLane t n).q2 = [] ∧ (∀ k, k ≠ n → xwLane t k = xwLane s k) ∧
        eventPending t 0x712 = true ∧ (2 ≤ n → (xwLane s (5 - n)).st = 2 → eventPending t 0x71E = true))) ∧
  (∀ (s : State) (n errs : Nat), (xwLane s n).st = 2 → 0 < errs → errs ≤ 4 → eventsTaken s = true →
      completes (.linkWordLockLoss n errs) s (fun t => t.xw = s.xw ∧ eventPending t 0x715 = true ∧
        countedMore s t (xwReg n 0x14) 15 0 errs)) ∧
  (∀ (s : State) (n : Nat), completes (.linkWordLockLoss n 0) s (fun t => t = s)) ∧
  (∀ (s : State) (n rtt : Nat) (foms tags : List Nat), xwOn s n = true → (xwLane s n).st ≤ 1 → eventsTaken s = true →
      completes (.linkTraining n false foms (rtt, tags)) s (fun t => (xwLane t n).st = 3 ∧ (xwLane t n).lock = false ∧
        (∀ k, k ≠ n → xwLane t k = xwLane s k) ∧ eventPending t 0x711 = true)) ∧
  (∀ (s : State) (n rtt : Nat) (foms tags : List Nat), xwOn s n = true → (xwLane s n).st ≤ 1 → eventsTaken s = true →
      (bestFom foms).1 < rfld s Reg.LNK_FOM_CFG 15 8 →
      completes (.linkTraining n true foms (rtt, tags)) s (fun t => (xwLane t n).st = 4 ∧
        (∀ k, k ≠ n → xwLane t k = xwLane s k) ∧ eventPending t 0x711 = true)) ∧
  (∀ (s : State) (n rtt : Nat) (foms tags : List Nat), xwOn s n = true → (xwLane s n).st ≤ 1 → eventsTaken s = true →
      rfld s Reg.LNK_FOM_CFG 15 8 ≤ (bestFom foms).1 →
      completes (.linkTraining n true foms (rtt, tags)) s (fun t => (xwLane t n).st = 2 ∧ (xwLane t n).mainPk = (bestFom foms).2 ∧
        (xwLane t n).q2 = [pairMsg s n] ∧ rnat t (Reg.TBS_XW_LAT + 4 * n) = (roundDiv rtt 128).toNat % 2 ^ 32 ∧
        (∀ k, k ≠ n → xwLane t k = xwLane s k) ∧ eventPending t 0x710 = true)) ∧
  (∀ (s : State) (n rtt : Nat) (foms tags : List Nat), xwOn s n = true → (xwLane s n).st = 3 → xwTraining s n = true →
      eventsTaken s = true →
      rfld s Reg.LNK_FOM_CFG 15 8 ≤ (bestFom foms).1 →
      completes (.linkRetrain n true foms (rtt, tags)) s (fun t => (xwLane t n).st = 2 ∧ (xwLane t n).mainPk = (bestFom foms).2 ∧
        (xwLane t n).q2 = [pairMsg s n] ∧ rnat t (Reg.TBS_XW_LAT + 4 * n) = (roundDiv rtt 128).toNat % 2 ^ 32 ∧
        (∀ k, k ≠ n → xwLane t k = xwLane s k) ∧ eventPending t 0x710 = true ∧ eventPending t 0x713 = true))

/-- R348, R350. An eye measurement sets both FOM fields to min(255, ⌊H × V / 4⌋) and counts low ones in a row. A sweep that
gains FOM_HYST locks the shadow at its best peaking, and one that does not raises event 0x71A; the swap exchanges the two paths
with event 0x719. What the model chose or inferred in it: log entries 101, 197. -/
def Obligations.EyesAreMeasuredAndPathsSwapped : Prop :=
  (∀ (s : State) (n hm vm hs vs : Nat), n < 4 → (xwLane s n).st = 2 → hm ≤ 32 → vm ≤ 32 → hs ≤ 32 → vs ≤ 32 →
      completes (.eyeMeasure n hm vm hs vs) s (fun t => rfld t (xwReg n 0x10) 31 24 = min 255 (hm * vm / 4) ∧
        rfld t (xwReg n 0x10) 23 16 = min 255 (hs * vs / 4) ∧
        (xwLane t n).lowRun = (if min 255 (hm * vm / 4) < rfld s Reg.LNK_FOM_CFG 23 16 then min 8 ((xwLane s n).lowRun + 1) else 0) ∧
        (xwLane t n).mainPk = (xwLane s n).mainPk ∧ (∀ k, k ≠ n → xwLane t k = xwLane s k))) ∧
  (∀ (s : State) (n : Nat) (foms : List Nat), n < 4 → (xwLane s n).adapting = true → (xwLane s n).st = 2 →
      rfld s (xwReg n 0x10) 31 24 + rfld s Reg.LNK_FOM_CFG 7 0 ≤ (bestFom foms).1 →
      completes (.readaptSweep n foms) s (fun t => xwLane t n = { xwLane s n with
          adapting := false, shadowPk := (bestFom foms).2, bestPk := some (bestFom foms).2 } ∧
        t.nrg.running = s.nrg.running.filter (fun g => !(g.order == 3 && g.who == n)))) ∧
  (∀ (s : State) (n : Nat) (foms : List Nat), n < 4 → (xwLane s n).adapting = true → (xwLane s n).st = 2 →
      (bestFom foms).1 < rfld s (xwReg n 0x10) 31 24 + rfld s Reg.LNK_FOM_CFG 7 0 → eventsTaken s = true →
      completes (.readaptSweep n foms) s (fun t => xwLane t n = { xwLane s n with adapting := false, sweepT := some s.t } ∧
        t.nrg.running = s.nrg.running.filter (fun g => !(g.order == 3 && g.who == n)) ∧ eventPending t 0x71A = true)) ∧
  (∀ (s : State) (n b : Nat), n < 4 → (xwLane s n).bestPk = some b → (xwLane s n).st = 2 → eventsTaken s = true →
      completes (.eqSwap n) s (fun t => xwLane t n = { xwLane s n with
          mainPk := b, shadowPk := (xwLane s n).mainPk, bestPk := none, lowRun := 0 } ∧
        rfld t (xwReg n 0x10) 31 24 = rfld s (xwReg n 0x10) 23 16 ∧ rfld t (xwReg n 0x10) 23 16 = rfld s (xwReg n 0x10) 31 24 ∧
        eventPending t 0x719 = true))

/-- R240, R347, R461. A PAIR from the peer of the link is accepted when digest, site and device ID agree and otherwise refused
with event 0xB07; a VDT digest that differs is noted with event 0x60A, and so is (R245) that both modules own the valves;
another device ID takes the link down with event 0x71B. PAIR is sent again on a link that is up. What the model chose or
inferred in it: log entries 194, 196, 269. -/
def Obligations.PairsAreCheckedAndResent : Prop :=
  (∀ (s : State) (n dev st lk : Nat) (geom vdt : List Byte),
      s.xwIn.find? (fun p => vcOf p.2 == 2) = some (n, .pair dev st lk geom vdt) → n < 4 → (xwLane s n).st = 2 →
      ((xwLane s n).peer = 0 ∨ (xwLane s n).peer = dev) → eventsTaken s = true →
      completes .pairReceived s (fun t => t.xwIn = s.xwIn.erase (n, .pair dev st lk geom vdt) ∧
        xwLane t n = { xwLane s n with
          peer := dev, accepted := (pairRefusal s n dev st geom).isNone, digestBad := decide (vdt ≠ s.mgt.vdtDigest),
          ownBad := decide (2 ≤ n) && rbit s Reg.VDT_XW_CFG 28 && geomByte s (geomSite (st % 8) + 13) == 1,
          q0 := if (pairRefusal s n dev st geom).isNone then (xwLane s n).q0 else [],
          q1 := if (pairRefusal s n dev st geom).isNone then (xwLane s n).q1 else [] } ∧
        (∀ k, k ≠ n → xwLane t k = xwLane s k) ∧
        (vdt ≠ s.mgt.vdtDigest → (xwLane s n).digestBad = false → inReset s 0x60E01 = false → eventPending t 0x60A = true) ∧
        (pairRefusal s n dev st geom = none → rfld t (Reg.MGT_PAIR_STATUS + 4 * n) 31 30 = 1) ∧
        (∀ cause, pairRefusal s n dev st geom = some cause → rfld t (Reg.MGT_PAIR_STATUS + 4 * n) 31 30 = 2 ∧
          rfld t (Reg.MGT_PAIR_STATUS + 4 * n) 23 20 = cause + 1 ∧ eventPending t 0xB07 = true))) ∧
  (∀ (s : State) (n dev st lk : Nat) (geom vdt : List Byte),
      s.xwIn.find? (fun p => vcOf p.2 == 2) = some (n, .pair dev st lk geom vdt) → (xwLane s n).st = 2 →
      (xwLane s n).peer ≠ 0 → (xwLane s n).peer ≠ dev → eventsTaken s = true →
      completes .pairReceived s (fun t => t.xwIn = s.xwIn.erase (n, .pair dev st lk geom vdt) ∧ (xwLane t n).st = 3 ∧
        (xwLane t n).accepted = false ∧ (∀ k, k ≠ n → xwLane t k = xwLane s k) ∧ eventPending t 0x71B = true)) ∧
  (∀ (s : State) (n : Nat), n < 4 → (xwLane s n).st = 2 →
      completes (.pairResend n) s (fun t => xwLane t n = { xwLane s n with q2 := (xwLane s n).q2 ++ [pairMsg s n] } ∧
        (∀ k, k ≠ n → xwLane t k = xwLane s k)))

/-! ### Pin engines, pins and strobes (11_pin_engines.md) -/

/-- R357, R360. DRIVE, SAMPLE and COUNT do what their OPD says and the engine goes on at the next step, or at the target
of a taken jump; a PC that passes LIMIT halts the engine with event 0x808, and HALT halts it at its own step with event 0x807,
its pins keeping the levels that they are driven to (log entry 316). -/
def Obligations.PinStepsComputeAndGoOn : Prop :=
  (∀ (s : State) (e w o : Nat) (g : Engine), runsAt s e 0x0 w g →
      ((opdOf w = 0 ∧ o = immOf w) ∨ (opdOf w = 1 ∧ o = g.out ||| immOf w) ∨ (opdOf w = 2 ∧ o = g.out &&& (0xFFFF ^^^ immOf w)) ∨
        (opdOf w = 3 ∧ o = g.out ^^^ immOf w) ∨ (opdOf w = 4 ∧ o = g.x % 65536)) →
      completes (.drive e) s (fun t => onlyEngine s t e (stepPast { g with out := o } w) ∧ t.evt = s.evt)) ∧
  (∀ (s : State) (e w : Nat) (g : Engine), runsAt s e 0x1 w g →
      completes (.sample e) s (fun t => t.evt = s.evt ∧
        (opdOf w = 0 → onlyEngine s t e (stepPast { g with x := inputs s e } w)) ∧
        (opdOf w = 1 → onlyEngine s t e (stepPast { g with y := inputs s e } w)) ∧
        (opdOf w = 2 → onlyEngine s t e (stepPast { g with x := (g.x * 2 ^ inN s e) % 2 ^ 32 ||| inputs s e } w)))) ∧
  (∀ (s : State) (e w : Nat) (g : Engine), runsAt s e 0xA w g → progBase s e + immOf w % 2048 ≤ progLimit s e →
      completes (.count e) s (fun t => t.evt = s.evt ∧
        (opdOf w = 0 → onlyEngine s t e (stepPast { g with c0 := immOf w } w)) ∧
        (opdOf w = 1 → onlyEngine s t e (stepPast { g with c1 := immOf w } w)) ∧
        (opdOf w = 2 → onlyEngine s t e (stepOver { g with c0 := (g.c0 + 65535) % 65536 }
          (if (g.c0 + 65535) % 65536 = 0 then g.pc + 1 else immOf w % 2048) (dlyOf w))) ∧
        (opdOf w = 3 → onlyEngine s t e (stepOver { g with c1 := (g.c1 + 65535) % 65536 }
          (if (g.c1 + 65535) % 65536 = 0 then g.pc + 1 else immOf w % 2048) (dlyOf w))) ∧
        (opdOf w = 4 → onlyEngine s t e (stepPast { g with c0 := g.x % 65536 } w)))) ∧
  (∀ (s : State) (e w : Nat) (g : Engine), standsAt s e 0xA w g → progBase s e + immOf w % 2048 ≤ progLimit s e →
      completes (.count e) s (fun t =>
        (opdOf w = 2 → (g.c0 + 65535) % 65536 ≠ 0 → t.evt = s.evt ∧
          onlyEngine s t e (stepOver { g with c0 := (g.c0 + 65535) % 65536 } (immOf w % 2048) (dlyOf w))) ∧
        (opdOf w = 3 → (g.c1 + 65535) % 65536 ≠ 0 → t.evt = s.evt ∧
          onlyEngine s t e (stepOver { g with c1 := (g.c1 + 65535) % 65536 } (immOf w % 2048) (dlyOf w))))) ∧
  (∀ (s : State) (e w : Nat), atStep s e 0xD = true → w = curWord s e → progLimit s e < progBase s e + (eng s e).pc + 1 →
      eventsTaken s = true →
      completes (.const e) s (fun t => (eng t e).st = 4 ∧ (∀ k, k ≠ e → eng t k = eng s k) ∧
        eventPending t 0x807 = true ∧ eventPending t 0x808 = true)) ∧
  (∀ (s : State) (e : Nat) (g : Engine), atStep s e 0xE = true → g = eng s e → eventsTaken s = true →
      completes (.halt e) s (fun t => eventPending t 0x807 = true ∧
        eng t e = { g with st := 3, dirty := false, begun := false } ∧ (∀ k, k ≠ e → eng t k = eng s k) ∧
        { t.pen with eng := s.pen.eng } = (keepLevels [e] s).pen))

/-- R361. BRANCH goes on at its target when the condition of its OPD holds, and at the next step when it does not; CONST does the
operation of its OPD; the other values of OPD are refused by the start check. A signal bit is that of the bus as the engine sees it,
which shows a change at the engine's next clock (R365). A taken BRANCH goes to its target from LIMIT too; a step that goes on past
LIMIT leaves its result, and the engine halts (R367). -/
def Obligations.BranchAndConstFollowTheirTable : Prop :=
  (∀ (s : State) (e w n : Nat) (g : Engine) (c : Prop), standsAt s e 0x9 w g → progBase s e + immOf w % 2048 ≤ progLimit s e →
      n = immOf w / 2048 →
      ((opdOf w = 0x0 ∧ (c ↔ True)) ∨ (opdOf w = 0x1 ∧ (c ↔ g.inF = [])) ∨ (opdOf w = 0x2 ∧ (c ↔ g.inF ≠ [])) ∨
        (opdOf w = 0x3 ∧ (c ↔ 8 ≤ g.outF.length)) ∨ (opdOf w = 0x4 ∧ (c ↔ toSigned 32 (g.x + 2 ^ 32 - g.y) < 0)) ∨
        (opdOf w = 0x5 ∧ (c ↔ 0 ≤ toSigned 32 (g.x + 2 ^ 32 - g.y))) ∨ (opdOf w = 0x6 ∧ (c ↔ g.x = g.y)) ∨
        (opdOf w = 0x7 ∧ (c ↔ g.x ≠ g.y)) ∨ (opdOf w = 0x8 ∧ (c ↔ bit (inputs s e) n = true)) ∨
        (opdOf w = 0x9 ∧ (c ↔ bit (inputs s e) n = false)) ∨ (opdOf w = 0xA ∧ (c ↔ bit (sigSeen s) n = true)) ∨
        (opdOf w = 0xB ∧ (c ↔ bit (sigSeen s) n = false)) ∨ (opdOf w = 0xC ∧ (c ↔ 0 ≤ diffMod 32 (s.t % 2 ^ 32) g.x)) ∨
        (opdOf w = 0xD ∧ (c ↔ g.c0 = 0))) →
      completes (.branch e) s (fun t => (c → t.evt = s.evt ∧ onlyEngine s t e (stepOver g (immOf w % 2048) (dlyOf w))) ∧
        (¬ c → progBase s e + g.pc + 1 ≤ progLimit s e → t.evt = s.evt ∧ onlyEngine s t e (stepPast g w)) ∧
        (¬ c → progLimit s e < progBase s e + g.pc + 1 → (eng t e).st = 4))) ∧
  (∀ (s : State) (e w i x y o r : Nat) (g : Engine), standsAt s e 0xD w g → i = immOf w →
      ((opdOf w = 0x0 ∧ x = i ∧ y = g.y ∧ o = g.osr ∧ r = g.isr) ∨
        (opdOf w = 0x1 ∧ x = setBits g.x 31 16 i ∧ y = g.y ∧ o = g.osr ∧ r = g.isr) ∨
        (opdOf w = 0x2 ∧ x = (g.x + ofSigned 32 (toSigned 16 i)) % 2 ^ 32 ∧ y = g.y ∧ o = g.osr ∧ r = g.isr) ∨
        (opdOf w = 0x3 ∧ x = g.x ∧ y = i ∧ o = g.osr ∧ r = g.isr) ∨
        (opdOf w = 0x4 ∧ x = g.x ∧ y = setBits g.y 31 16 i ∧ o = g.osr ∧ r = g.isr) ∨
        (opdOf w = 0x5 ∧ x = g.x ∧ y = (g.y + ofSigned 32 (toSigned 16 i)) % 2 ^ 32 ∧ o = g.osr ∧ r = g.isr) ∨
        (opdOf w = 0x6 ∧ x = (g.x + g.y) % 2 ^ 32 ∧ y = g.y ∧ o = g.osr ∧ r = g.isr) ∨
        (opdOf w = 0x7 ∧ x = g.x ∧ y = g.x ∧ o = g.osr ∧ r = g.isr) ∨
        (opdOf w = 0x8 ∧ x = g.y ∧ y = g.y ∧ o = g.osr ∧ r = g.isr) ∨
        (opdOf w = 0x9 ∧ x = g.x ∧ y = g.y ∧ o = g.x ∧ r = g.isr) ∨
        (opdOf w = 0xA ∧ x = g.x ∧ y = g.y ∧ o = i ∧ r = g.isr) ∨
        (opdOf w = 0xB ∧ x = g.isr ∧ y = g.y ∧ o = g.osr ∧ r = 0) ∨
        (opdOf w = 0xC ∧ x = g.x ^^^ g.y ∧ y = g.y ∧ o = g.osr ∧ r = g.isr)) →
      completes (.const e) s (fun t => (eng t e).x = x ∧ (eng t e).y = y ∧ (eng t e).osr = o ∧ (eng t e).isr = r ∧
        (progBase s e + g.pc + 1 ≤ progLimit s e → t.evt = s.evt ∧
          onlyEngine s t e (stepPast { g with x := x, y := y, osr := o, isr := r } w)) ∧
        (progLimit s e < progBase s e + g.pc + 1 → (eng t e).st = 4))) ∧
  (∀ dout clk din on inn len w : Nat, (opOf w = 0x9 ∧ 0xE ≤ opdOf w) ∨ (opOf w = 0xD ∧ 0xD ≤ opdOf w) →
      wordOk dout clk din on inn len w = false)

/-- R363. A SHIFT of n bits that begins and is given all its phases shifts n bits out of OSR and n copies of the sampled input
into ISR, from the end that its order names, as its mode says, and the engine goes on; the output register keeps the last bit on
DOUT, and the clock is back at its inactive level. Without CLK a bit takes one phase, with CLK two, of which the first has the
clock inactive and the second active; fewer phases leave the rest of the bits in progress. What the model chose or inferred in it: log entry 213. -/
def Obligations.ShiftMovesItsBits : Prop :=
  (∀ (s : State) (e w n phases b : Nat) (g : Engine), runsAt s e 0x2 w g → g.shift = none → n = immOf w % 64 → 1 ≤ n → n ≤ 32 →
      opdOf w / 4 ≤ 2 → n * (1 + opdOf w % 2) ≤ phases → b = b2n (bit (inputs s e) (efld s Reg.PEN_ENG_CFG e 7 4)) →
      completes (.shift e phases) s (fun t => t.evt = s.evt ∧
        onlyEngine s t e (stepPast { bitsShifted w n b g with
          out := if opdOf w % 2 = 1 then clkSet s e false (doutSet s e w n g g.out) else doutSet s e w n g g.out } w))) ∧
  (∀ (s : State) (e w : Nat) (g : Engine), runsAt s e 0x2 w g → g.shift = none → immOf w % 64 = 1 → opdOf w % 2 = 0 →
      completes (.shift e 1) s (fun t => (eng t e).out = if opdOf w / 4 = 1 then g.out
        else setBits g.out (efld s Reg.PEN_ENG_PINS e 19 16) (efld s Reg.PEN_ENG_PINS e 19 16)
          (if opdOf w / 2 % 2 = 1 then g.osr % 2 else g.osr / 2 ^ 31 % 2))) ∧
  (∀ (s : State) (e w n k b : Nat) (g : Engine), standsAt s e 0x2 w g → g.shift = none → n = immOf w % 64 → opdOf w % 2 = 0 →
      opdOf w / 4 ≤ 2 → 0 < k → k < n → n ≤ 32 → b = b2n (bit (inputs s e) (efld s Reg.PEN_ENG_CFG e 7 4)) →
      completes (.shift e k) s (fun t => t.evt = s.evt ∧
        onlyEngine s t e { bitsShifted w k b g with out := doutSet s e w k g g.out, shift := some (n - k, false), st := 1 })) ∧
  (∀ (s : State) (e w n k b : Nat) (g : Engine), standsAt s e 0x2 w g → g.shift = none → n = immOf w % 64 → opdOf w % 2 = 1 →
      opdOf w / 4 ≤ 2 → 0 < k → k < 2 * n → n ≤ 32 → b = b2n (bit (inputs s e) (efld s Reg.PEN_ENG_CFG e 7 4)) →
      completes (.shift e k) s (fun t => t.evt = s.evt ∧
        onlyEngine s t e { bitsShifted w (k / 2) b g with
          out := if k % 2 = 1 then doutSet s e w (k / 2 + 1) g (clkSet s e false g.out)
            else clkSet s e true (doutSet s e w (k / 2) g g.out),
          shift := some (n - k / 2, k % 2 == 1), st := 1 }))

/-- R360, R364, R365. WAITPIN, WAITTIME, WAITPOS and WAITSIG let the engine go on when what they wait for holds, and else the
engine waits in STATE 2; ARM and DISARM set and cancel the deadline. A deadline whose time has come abandons a blocking step,
disarms, goes on at its target and is counted, with event 0x80D or, in the engine of a valve bank, as a DL_VALVE miss. What the
model chose or inferred in it: log entry 18. -/
def Obligations.PinStepsWaitOrMissTheirDeadline : Prop :=
  (∀ (s : State) (e w i n : Nat) (g : Engine), runsAt s e 0x3 w g → deadlineHit s e = none → i = inputs s e → n = immOf w % 32 →
      opdOf w ≤ 4 →
      completes (.waitpin e) s (fun t => t.evt = s.evt ∧
        (((opdOf w = 0 ∧ bit i n = true) ∨ (opdOf w = 1 ∧ bit i n = false) ∨
            ((opdOf w = 2 ∨ opdOf w = 3) ∧ g.begun = true ∧ g.edge = true) ∨ (opdOf w = 4 ∧ i &&& immOf w ≠ g.x &&& immOf w)) →
          onlyEngine s t e (stepPast g w)) ∧
        (((opdOf w = 0 ∧ bit i n = false) ∨ (opdOf w = 1 ∧ bit i n = true) ∨
            ((opdOf w = 2 ∨ opdOf w = 3) ∧ (g.begun = false ∨ g.edge = false)) ∨
            (opdOf w = 4 ∧ i &&& immOf w = g.x &&& immOf w)) →
          onlyEngine s t e { g with st := 2, begun := true, edge := g.begun && g.edge }))) ∧
  (∀ (s : State) (e w v : Nat) (g : Engine), runsAt s e 0x4 w g → deadlineHit s e = none →
      ((opdOf w = 0 ∧ v = g.x) ∨ (opdOf w = 1 ∧ v = g.y)) →
      completes (.waittime e) s (fun t => t.evt = s.evt ∧
        onlyEngine s t e (if reached32 s.t v then stepPast g w else { g with st := 2, begun := true }))) ∧
  (∀ (s : State) (e w t0 : Nat) (g : Engine), runsAt s e 0x4 w g → deadlineHit s e = none → opdOf w = 5 →
      t0 = (if g.begun then g.from0 else s.t) →
      completes (.waittime e) s (fun t => t.evt = s.evt ∧
        onlyEngine s t e (if t0 + immOf w ≤ s.t then stepPast { g with from0 := t0 } w
          else { g with from0 := t0, st := 2, begun := true }))) ∧
  (∀ (s : State) (e w : Nat) (g : Engine), runsAt s e 0x4 w g →
      completes (.waittime e) s (fun t =>
        (opdOf w = 2 → onlyEngine s t e (stepPast { g with dl := some (g.x, immOf w % 2048) } w)) ∧
        (opdOf w = 3 → onlyEngine s t e (stepPast { g with dl := some (g.y, immOf w % 2048) } w)) ∧
        (opdOf w = 4 → onlyEngine s t e (stepPast { g with dl := none } w)))) ∧
  (∀ (s : State) (e w : Nat) (g : Engine), runsAt s e 0x4 w g → deadlineHit s e = none → opdOf w = 8 →
      completes (.waitpos e) s (fun t => t.evt = s.evt ∧
        onlyEngine s t e (if reached32 s.tbs.p g.x then stepPast g w else { g with st := 2, begun := true }))) ∧
  (∀ (s : State) (e w : Nat) (g : Engine), runsAt s e 0x4 w g → deadlineHit s e = none → opdOf w = 9 →
      completes (.waitpos e) s (fun t => t.evt = s.evt ∧
        (g.begun = false → onlyEngine s t e { g with lineFrom := s.tbs.tl, st := 2, begun := true }) ∧
        (g.begun = true → onlyEngine s t e
          (if g.lineFrom = s.tbs.tl then { g with st := 2 } else stepPast g w)))) ∧
  (∀ (s : State) (e w m : Nat) (g : Engine), runsAt s e 0xC w g → deadlineHit s e = none → m = sigSeen s &&& immOf w →
      opdOf w ≤ 2 →
      completes (.waitsig e) s (fun t => t.evt = s.evt ∧
        (((opdOf w = 0 ∧ m = immOf w) ∨ (opdOf w = 1 ∧ m = 0) ∨ (opdOf w = 2 ∧ m ≠ 0)) → onlyEngine s t e (stepPast g w)) ∧
        (((opdOf w = 0 ∧ m ≠ immOf w) ∨ (opdOf w = 1 ∧ m ≠ 0) ∨ (opdOf w = 2 ∧ m = 0)) →
          onlyEngine s t e { g with st := 2, begun := true }))) ∧
  (∀ (s : State) (e target : Nat), deadlineHit s e = some target → e < 16 → engHalted s e = false → up s (engFid e) = true →
      s.pen.clockBad = false → blockingStep s e = true → progBase s e + target ≤ progLimit s e → eventsTaken s = true →
      completes (.deadlineExpire e) s (fun t => onlyEngine s t e (stepOver { eng s e with dl := none } target 0) ∧
        countedMore s t (Reg.PEN_ENG_COUNT + 0x20 * e) 7 0 1 ∧
        eventPending t (if isFramer s e then 0x314 else 0x80D) = true))

/-- R257, R360, R362, R363. FETCH and FETCHN take the oldest word of the input FIFO; from an empty one FETCH waits and FETCHN
takes the last word again and counts UNDERRUN with event 0x80B. STORE and STOREN put a word into the output FIFO of 8 entries;
on a full one STORE waits and STOREN counts DISCARD with event 0x80C. The host writes the input FIFO of the engine that PEN_SEL
selects, refused with event 0x80F for a full FIFO or a valve bank's engine, and reads its output FIFO. -/
def Obligations.PinFifosMoveWords : Prop :=
  (∀ (s : State) (e w v : Nat) (rest : List Nat) (g : Engine), runsAt s e 0x5 w g → deadlineHit s e = none → g.inF = v :: rest →
      completes (.fetch e) s (fun t => t.evt = s.evt ∧
        onlyEngine s t e (stepPast (loadIn (opdOf w) v { g with inF := rest }) w))) ∧
  (∀ (s : State) (e w : Nat) (g : Engine), runsAt s e 0x5 w g → deadlineHit s e = none → g.inF = [] →
      completes (.fetch e) s (fun t => t.evt = s.evt ∧ onlyEngine s t e { g with st := 2, begun := true })) ∧
  (∀ (s : State) (e w v : Nat) (rest : List Nat) (g : Engine), runsAt s e 0x6 w g → g.inF = v :: rest →
      completes (.fetchn e) s (fun t => t.evt = s.evt ∧
        onlyEngine s t e (stepPast (loadIn (opdOf w) v { g with inF := rest }) w))) ∧
  (∀ (s : State) (e w : Nat) (g : Engine), runsAt s e 0x6 w g → g.inF = [] → eventsTaken s = true →
      completes (.fetchn e) s (fun t => onlyEngine s t e (stepPast (loadIn (opdOf w) g.lastIn g) w) ∧
        countedMore s t (Reg.PEN_ENG_COUNT + 0x20 * e) 31 24 1 ∧ eventPending t 0x80B = true)) ∧
  (∀ (s : State) (e w : Nat) (g : Engine), runsAt s e 0x7 w g → deadlineHit s e = none →
      completes (.store e) s (fun t => t.evt = s.evt ∧ onlyEngine s t e
        (if g.outF.length < 8 then stepPast { g with outF := g.outF ++ [storeVal w g] } w else { g with st := 2, begun := true }))) ∧
  (∀ (s : State) (e w : Nat) (g : Engine), runsAt s e 0x8 w g → g.outF.length < 8 →
      completes (.storen e) s (fun t => t.evt = s.evt ∧
        onlyEngine s t e (stepPast { g with outF := g.outF ++ [storeVal w g] } w))) ∧
  (∀ (s : State) (e w : Nat) (g : Engine), runsAt s e 0x8 w g → 8 ≤ g.outF.length → eventsTaken s = true →
      completes (.storen e) s (fun t => onlyEngine s t e (stepPast g w) ∧
        countedMore s t (Reg.PEN_ENG_COUNT + 0x20 * e) 23 16 1 ∧ eventPending t 0x80C = true)) ∧
  (∀ (s : State) (e v : Nat), e = rfld s Reg.PEN_SEL 3 0 → up s (engFid e) = true → isFramer s e = false →
      (eng s e).inF.length < 8 →
      completes (.fifoInWrite v) s (fun t => t.evt = s.evt ∧
        onlyEngine s t e { eng s e with inF := (eng s e).inF ++ [v % 2 ^ 32] })) ∧
  (∀ (s : State) (e v : Nat), e = rfld s Reg.PEN_SEL 3 0 → up s (engFid e) = true → eventsTaken s = true →
      (isFramer s e = true ∨ 8 ≤ (eng s e).inF.length) →
      completes (.fifoInWrite v) s (fun t => t.pen = s.pen ∧ eventPending t 0x80F = true)) ∧
  (∀ (s : State) (e v : Nat) (rest : List Nat), e = rfld s Reg.PEN_SEL 3 0 → (eng s e).outF = v :: rest →
      completes .fifoOutRead s (fun t => onlyEngine s t e { eng s e with outF := rest }))

/-- R365, R366, R368-R370. SIGNAL sets or clears the signal bus, posts edges from ENC_PE and raises its events; the host writes
the bus whole; of what falls in one T the host's word comes first, then every CLR, then every SET. PEN_START starts all the
engines of its mask or none, PEN_HALT halts them, and a step word is written, its address advanced and the programs that hold it
marked as changed, unless an engine whose window covers it runs. What the model chose or inferred in it: log entries 212, 214,
316, 317. -/
def Obligations.EnginesStartHaltAndSignal : Prop :=
  (∀ (s : State) (e w : Nat) (g : Engine), runsAt s e 0xB w g → opdOf w ≤ 1 → s.pen.sigCyc.at? ≠ some s.t →
      completes (.signal e) s (fun t => t.evt = s.evt ∧ eng t e = stepPast g w ∧ (∀ k, k ≠ e → eng t k = eng s k) ∧
        t.pen.sig = (if opdOf w = 0 then s.pen.sig % 65536 ||| immOf w else s.pen.sig &&& (0xFFFF ^^^ immOf w)) ∧
        t.pen.posted = s.pen.posted)) ∧
  (∀ (s : State) (e w : Nat) (g : Engine) (c : SigCycle), runsAt s e 0xB w g → opdOf w ≤ 1 → c = s.pen.sigCyc → c.at? = some s.t →
      completes (.signal e) s (fun t => t.evt = s.evt ∧ eng t e = stepPast g w ∧ (∀ k, k ≠ e → eng t k = eng s k) ∧
        t.pen.sig = ((c.host.getD c.was) &&& (0xFFFF ^^^ (c.clr ||| (if opdOf w = 1 then immOf w else 0)))) |||
          (c.set ||| (if opdOf w = 0 then immOf w else 0)))) ∧
  (∀ (s : State) (e w : Nat) (g : Engine), runsAt s e 0xB w g → (opdOf w = 3 ∨ opdOf w = 4) → rfld s Reg.TBS_SRC_CFG 1 0 = 0 →
      rfld s Reg.TBS_SRC_CFG 19 16 = e →
      completes (.signal e) s (fun t => t.evt = s.evt ∧ eng t e = stepPast g w ∧
        t.pen.posted = s.pen.posted ++ [decide (opdOf w = 3)] ∧ t.pen.sig = s.pen.sig)) ∧
  (∀ (s : State) (e w : Nat) (g : Engine), runsAt s e 0xB w g → (opdOf w = 3 ∨ opdOf w = 4) →
      (rfld s Reg.TBS_SRC_CFG 1 0 ≠ 0 ∨ rfld s Reg.TBS_SRC_CFG 19 16 ≠ e) → eventsTaken s = true →
      completes (.signal e) s (fun t => onlyEngine s t e (stepPast g w) ∧ eventPending t 0x811 = true)) ∧
  (∀ (s : State) (e w : Nat) (g : Engine), runsAt s e 0xB w g → opdOf w = 5 → eventsTaken s = true →
      completes (.signal e) s (fun t => onlyEngine s t e (stepPast g w) ∧ eventPending t 0x812 = true)) ∧
  (∀ (s : State) (e w : Nat) (g : Engine), runsAt s e 0xB w g → opdOf w = 2 → bits g.x 3 2 ^^^ bits g.x 1 0 = 3 →
      eventsTaken s = true →
      completes (.signal e) s (fun t => onlyEngine s t e (stepPast g w) ∧ eventPending t 0x810 = true)) ∧
  (∀ (s : State) (v : Nat), works s = true → s.pen.sigCyc.at? ≠ some s.t →
      completes (.signalBusWrite v) s (fun t => t.pen.sig = v % 65536 ∧
        { t.pen with sig := s.pen.sig, sigCyc := s.pen.sigCyc } = s.pen)) ∧
  (∀ (s : State) (v : Nat), works s = true → s.pen.sigCyc.at? = some s.t →
      completes (.signalBusWrite v) s (fun t =>
        t.pen.sig = ((v % 65536) &&& (0xFFFF ^^^ s.pen.sigCyc.clr)) ||| s.pen.sigCyc.set)) ∧
  (∀ (s : State) (v : Nat), works s = true → inReset s 0x80300 = false → 0 < v → v < 65536 → eventsTaken s = true →
      (∀ e, e ∈ maskEngines v → engHalted s e = true ∧ inReset s (engFid e) = false ∧ progBad s e = none ∧
        ((eng s e).dirty = true ∨ progBase s e + (eng s e).pc ≤ progLimit s e)) →
      completes (.penStart v) s (fun t => eventPending t 0x806 = true ∧ (∀ e, e ∉ maskEngines v → eng t e = eng s e) ∧
        (∀ e, e ∈ maskEngines v → (eng t e).st = 1 ∧ (eng t e).acc = 0 ∧
          (eng t e).pc = if (eng s e).dirty then 0 else (eng s e).pc))) ∧
  (∀ (s : State) (v e : Nat), works s = true → inReset s 0x80300 = false → v < 65536 → e ∈ maskEngines v →
      engHalted s e = false → eventsTaken s = true →
      completes (.penStart v) s (fun t => t.pen = s.pen ∧ eventPending t 0x804 = true)) ∧
  (∀ (s : State) (v e : Nat), works s = true → inReset s 0x80300 = false → v < 65536 → e ∈ maskEngines v →
      (∀ k, k ∈ maskEngines v → engHalted s k = true ∧ inReset s (engFid k) = false) → (progBad s e).isSome = true →
      eventsTaken s = true →
      completes (.penStart v) s (fun t => t.pen = s.pen ∧ eventPending t 0x804 = true ∧ eventPending t 0x805 = true)) ∧
  (∀ (s : State) (v : Nat), works s = true → v < 65536 → eventsTaken s = true →
      completes (.penHalt v) s (fun t => (∀ e, e ∉ maskEngines v → eng t e = eng s e) ∧
        (∀ e, e ∈ maskEngines v → engHalted s e = true → eng t e = eng s e) ∧
        (∀ e, e ∈ maskEngines v → engHalted s e = false →
          eng t e = { eng s e with st := 0, dirty := false, begun := false } ∧ eventPending t 0x807 = true))) ∧
  (∀ (s : State) (v i : Nat), works s = true → inReset s 0x80300 = false → i = rfld s Reg.PEN_PMEM_ADDR 10 0 →
      (∀ e, e ∈ covering s i → engHalted s e = true) →
      completes (.pmemWrite v) s (fun t => stepWord t i = v % 2 ^ 32 ∧ (∀ j, j < 2048 → j ≠ i → stepWord t j = stepWord s j) ∧
        rfld t Reg.PEN_PMEM_ADDR 10 0 = (i + 1) % 2048 ∧ (∀ a, a ≠ Reg.PEN_PMEM_ADDR → rget t a = rget s a) ∧
        (∀ e, eng t e = if e ∈ covering s i then { eng s e with dirty := true } else eng s e))) ∧
  (∀ (s : State) (v e : Nat), works s = true → inReset s 0x80300 = false → e ∈ covering s (rfld s Reg.PEN_PMEM_ADDR 10 0) →
      engHalted s e = false → eventsTaken s = true →
      completes (.pmemWrite v) s (fun t => t.pen = s.pen ∧ t.regs = s.regs ∧ eventPending t 0x80E = true))

/-- R358, R372-R374. A changed filtered level is seen by the engines that wait for its edge and by the monitors: the edge that
takes the count above RATE_MAX sets OVERRATE with event 0x800. At the end of a rate window the count starts again and OVERRATE
clears (0x801) when the count was within RATE_MAX; rejected pulses above it raise 0x81C. A pin is declared stuck with event
0x802, and a driven pin that reads back wrongly or whose current limit is engaged raises 0x817 or 0x818. R376, R377, R379, R380.
An enabled strobe whose slot is lit becomes active and stays so until its pulse or a limit ends it; an early end is counted,
with event 0x813 for MAX_W and 0x814 for the duty, which holds the strobe inactive for the rest of its window. A clock fault
halts every engine and makes every strobe inactive with event 0x81B; the engines stay halted when the clock locks again. What
the model chose or inferred in it: log entries 100, 215, 217, 283. -/
def Obligations.PinLevelsStrobesAndClock : Prop :=
  (∀ (s : State) (p : Nat) (v : Bool), p < 80 → bit s.pen.level p ≠ v → up s 0x80100 = true →
      completes (.pinLevelChange p v) s (fun t => bit t.pen.level p = v ∧
        (∀ q, q ≠ p → bit t.pen.level q = bit s.pen.level q) ∧
        (∀ e, e < 16 → eng t e = if (eng s e).begun ∧ opOf (curWord s e) = 3 ∧ opdOf (curWord s e) = (if v then 2 else 3) ∧
          inBase s e + immOf (curWord s e) % 32 = p then { eng s e with edge := true } else eng s e))) ∧
  (∀ (s : State) (p mx : Nat) (v : Bool), p < 80 → bit s.pen.level p ≠ v → up s 0x80100 = true →
      rateMax s p = some mx → mx ≤ (monOf s p).count → (monOf s p).overrate = false → eventsTaken s = true →
      completes (.pinLevelChange p v) s (fun t => (monOf t p).overrate = true ∧ (monOf t p).count = (monOf s p).count + 1 ∧
        eventPending t 0x800 = true)) ∧
  (∀ (s : State) (p mx r : Nat), p < 80 → up s 0x80100 = true → rateMax s p = some mx → eventsTaken s = true →
      completes (.rateWindowEnd p r) s (fun t => (monOf t p).count = 0 ∧
        (monOf t p).overrate = ((monOf s p).overrate && decide (mx < (monOf s p).count)) ∧
        (∀ q, q ≠ p → monOf t q = monOf s q) ∧ (mx < r → eventPending t 0x81C = true) ∧
        ((monOf s p).overrate = true → (monOf s p).count ≤ mx → eventPending t 0x801 = true))) ∧
  (∀ (s : State) (p : Nat), p < 80 → up s 0x80100 = true → stuckOn s p = true → (monOf s p).expect = true →
      (monOf s p).stuck = false → eventsTaken s = true →
      completes (.pinStuckSet p) s (fun t => monOf t p = { monOf s p with stuck := true } ∧
        (∀ q, q ≠ p → monOf t q = monOf s q) ∧ eventPending t 0x802 = true)) ∧
  (∀ (s : State) (p : Nat) (lim : Bool), p < 80 → up s 0x80101 = true → eventsTaken s = true →
      completes (.pinReadbackMismatch p lim) s (fun t => t.pen = s.pen ∧
        (lim = true → 48 ≤ p → pinDriven s p ≠ .hiz → eventPending t 0x818 = true) ∧
        (lim = false → pinDriven s p = .low → bit s.pen.level p ≠ rbit s (Reg.PEN_PIN_CFG + 4 * p) 13 →
          eventPending t 0x817 = true) ∧
        (lim = false → pinDriven s p = .high → bit s.pen.level p = rbit s (Reg.PEN_PIN_CFG + 4 * p) 13 →
          eventPending t 0x817 = true))) ∧
  (∀ (s : State) (n cfg : Nat), n < 16 → cfg = rnat s (Reg.PEN_ST_CFG + 4 * n) → strobesOk s = true → bit cfg 31 = true →
      slotLit s n (bits cfg 30 29) = true → (strobe s n).on = false → (strobeWin s n).capped = false →
      completes (.strobeOn n) s (fun t => (strobe t n).on = true ∧ (strobe t n).onT = s.t ∧
        (strobe t n).used = (strobeWin s n).used ∧ (∀ k, k ≠ n → strobe t k = strobe s k) ∧
        { t.pen with strobes := s.pen.strobes } = s.pen)) ∧
  (∀ (s : State) (n : Nat), (strobe s n).on = true →
      completes (.strobeOff n) s (fun t => (strobe t n).on = false ∧
        (strobe t n).used = (strobeWin s n).used + (s.t - max (strobe s n).onT (200000 * (s.t / 200000))) ∧
        (∀ k, k ≠ n → strobe t k = strobe s k) ∧ { t.pen with strobes := s.pen.strobes } = s.pen)) ∧
  (∀ (s : State) (n : Nat) (duty : Bool), n < 16 → (strobe s n).on = true → eventsTaken s = true →
      completes (.strobeEarlyEnd n duty) s (fun t => (strobe t n).on = false ∧
        (strobe t n).capped = ((strobeWin s n).capped || duty) ∧ (∀ k, k ≠ n → strobe t k = strobe s k) ∧
        countedMore s t (Reg.PEN_ST_COUNT + 4 * (n / 4)) (8 * (n % 4) + 7) (8 * (n % 4)) 1 ∧
        eventPending t (if duty then 0x814 else 0x813) = true)) ∧
  (∀ s : State, s.pen.clockBad = false → works s = true → eventsTaken s = true →
      completes .clockFault s (fun t => t.pen.clockBad = true ∧ (∀ e, e < 16 → engHalted t e = true) ∧
        (∀ n, n < 16 → (strobe t n).on = false) ∧ eventPending t 0x81B = true)) ∧
  (∀ s : State, completes .clockRelock s (fun t => t = { s with pen := { s.pen with clockBad := false } }))

/-! ### Energy and power failure (12_energy.md, 18_electrical_mechanical.md) -/

/-- R384, R386-R389, R394. A sample pair enters the windows, the input registers and the energy; an input out of range is
reported by 0x909 or 0x90A. A ledger entry closes with the energies of its interval, the accumulators start again, and outside
standstill the decided steps take effect, with 0x902 for a shed and 0x903 for a restored step. R406, R422, R427. What a reset of
planner or ledger or a reduced envelope or a failed housekeeping asks of the plan holds from that boundary. What the model chose
or inferred in it: log entries 100, 101, 201, 203, 204, 285. -/
def Obligations.InputIsMeteredAndLedgered : Prop :=
  (∀ (s : State) (v i : Nat), v < 65536 → i < 65536 → domainRuns s 9 = true → inReset s 0x90000 = false →
      completes (.meterSample v i) s (fun t => t.nrg.samples = (v * i :: s.nrg.samples).take 100000 ∧
        t.nrg.meterOk = !s.thm.monImpl ∧ t.nrg.acc = (if s.thm.monImpl then s.nrg.acc else s.nrg.acc + v * i) ∧
        rnat t Reg.NRG_INPUT_V = v ∧ rnat t Reg.NRG_INPUT_I = i ∧
        rnat t Reg.NRG_INPUT_P = satN 16 (meanMw 1000 t.nrg.samples) ∧
        rnat t (Reg.NRG_INPUT_P + 4) = satN 16 (meanMw 10000 t.nrg.samples) ∧
        rnat t (Reg.NRG_INPUT_P + 8) = satN 16 (meanMw 100000 t.nrg.samples) ∧
        rfld t Reg.NRG_INPUT_VMIN 15 0 = min v (rfld s Reg.NRG_INPUT_VMIN 15 0) ∧
        rfld t Reg.NRG_INPUT_VMAX 15 0 = max (rfld s Reg.NRG_INPUT_VMAX 15 0) v)) ∧
  (∀ s : State, domainRuns s 9 = true → eventsTaken s = true →
      completes .inputOutOfRange s (fun t =>
        (rfld s Reg.NRG_INPUT_V 15 0 < 43200 → eventPending t 0x909 = true) ∧
        (52800 < rfld s Reg.NRG_INPUT_V 15 0 → eventPending t 0x90A = true) ∧
        (43200 ≤ rfld s Reg.NRG_INPUT_V 15 0 → rfld s Reg.NRG_INPUT_V 15 0 ≤ 52800 → t = s))) ∧
  (∀ (s : State) (dt : Nat) (gap stand : Bool), works s = true → inReset s 0x90100 = false → dt = s.t - s.nrg.closeT →
      stand = s.tbs.standstill →
      gap = ((s.tbs.hist.find? (fun h => decide (h.tl < s.t))).map (·.gap)).getD true →
      completes .ledgerEntryClose s (fun t =>
        (∃ flags, t.nrg.ledger = (((ledgerFields s dt (!stand && !gap)).map (satN 16) ++ [satN 16 (dt / 100), flags]) ::
          s.nrg.ledger).take 1024) ∧
        t.nrg.acc = 0 ∧ t.nrg.closeT = s.t ∧
        t.nrg.total = s.nrg.total + satN 16 ((ledgerFields s dt (!stand && !gap)).getD 0 0))) ∧
  (∀ (s : State) (p g : Nat), works s = true → s.tbs.standstill = false → s.nrg.recheck = false → s.nrg.cutNow = s.thm.envCut →
      s.nrg.tb4Now = s.thm.bothBad → p = s.nrg.planNext.getD s.nrg.planShed →
      g = s.nrg.guardNext.getD s.nrg.guardShed → eventsTaken s = true →
      completes .ledgerEntryClose s (fun t => t.nrg.planShed = p ∧ t.nrg.guardShed = g ∧ t.nrg.planNext = none ∧
        t.nrg.guardNext = none ∧
        ((s.nrg.planNext.isSome = true ∨ s.nrg.guardNext.isSome = true) →
          rfld t Reg.MGT_SHED_STATUS 11 8 = stepMask (max p g) % 16) ∧
        (shedNow s < max p g → eventPending t 0x902 = true) ∧ (max p g < shedNow s → eventPending t 0x903 = true))) ∧
  (∀ s : State, works s = true → s.tbs.standstill = false → s.nrg.recheck = true ∨ s.nrg.cutNow ≠ s.thm.envCut ∨
        s.nrg.tb4Now ≠ s.thm.bothBad →
      completes .ledgerEntryClose s (fun t => t.nrg.recheck = false ∧ t.nrg.cutNow = s.thm.envCut ∧
        t.nrg.tb4Now = s.thm.bothBad)) ∧
  (∀ s : State, works s = true → s.tbs.standstill = true →
      completes .ledgerEntryClose s (fun t => t.nrg.planShed = s.nrg.planShed ∧ t.nrg.guardShed = s.nrg.guardShed ∧
        t.nrg.planNext = s.nrg.planNext ∧ t.nrg.guardNext = s.nrg.guardNext))

/-- R393, R395, R396, R409. An envelope of 4,000 to 15,000 mW is taken and an admitted plan is checked against it again; another
is ignored with event 0xB0D. The guard decides the next step when P100 exceeds the envelope and restores its last one when there
is room; the breach fault arises with 0x904 when the plan fails or P1000 stays above the envelope with all four steps shed by
the guard, and clears with 0x905. What the model chose or inferred in it: log entries 100, 203, 204. -/
def Obligations.EnvelopeIsKept : Prop :=
  (∀ (s : State) (v : Nat), 4000 ≤ v → v ≤ 15000 → s.nrg.admitted = true → inReset s 0x90101 = false →
      completes (.envelopeWrite v) s (fun t => rnat t Reg.NRG_ENV = v ∧
        t.nrg.planNext = (if planDecide (rset s Reg.NRG_ENV v) (planTb s) s.nrg.planShed = s.nrg.planShed then none
          else some (planDecide (rset s Reg.NRG_ENV v) (planTb s) s.nrg.planShed)))) ∧
  (∀ (s : State) (v : Nat), (v < 4000 ∨ 15000 < v) → v < 65536 → eventsTaken s = true →
      completes (.envelopeWrite v) s (fun t => rnat t Reg.NRG_ENV = rnat s Reg.NRG_ENV ∧ t.nrg = s.nrg ∧
        eventPending t 0xB0D = true)) ∧
  (∀ (s : State) (p : Nat), p = max (s.nrg.planNext.getD s.nrg.planShed) (s.nrg.guardNext.getD s.nrg.guardShed) →
      guardOn s = true → envMw s < p100 s → p < 4 →
      completes .guardCheck s (fun t => t.nrg = { s.nrg with guardNext := some (p + 1), aboveT := some s.t })) ∧
  (∀ s : State, p100 s ≤ envMw s → completes .guardCheck s (fun t => t = s)) ∧
  (∀ (s : State) (g : Nat), g + 1 = s.nrg.guardShed → guardOn s = true → s.nrg.guardNext = none →
      11 * (p1000 s * 1000000000000 * 100 + stepPower100 s (g + 1)) ≤ 10 * (envMw s * 1000000000000 * 100) →
      completes .guardRestore s (fun t => t.nrg = { s.nrg with guardNext := some g, roomT := some s.t })) ∧
  (∀ s : State, works s = true → s.nrg.breach = false → eventsTaken s = true →
      (s.nrg.planBad = true ∨ (guardOn s = true ∧ s.nrg.guardShed = 4 ∧ envMw s < p1000 s)) →
      completes .envelopeBreach s (fun t => t.nrg = { s.nrg with breach := true, clearT := none } ∧
        eventPending t 0x904 = true)) ∧
  (∀ s : State, works s = true → s.nrg.breach = true → s.nrg.planBad = false → s.nrg.guardShed ≠ 4 → eventsTaken s = true →
      completes .envelopeBreach s (fun t => t.nrg = { s.nrg with breach := false, clearT := none } ∧
        eventPending t 0x905 = true))

/-- R397-R399. Work that wants a grant asks for one and waits; the evaluation gives it when the powers of the running grants and
its own fit the envelope, and it is counted. A request past its limit is given by force with 0x906, or, of a re-adaptation, goes
on waiting with 0x907. What the model chose or inferred in it: log entry 100. -/
def Obligations.GrantsAreAskedGivenAndForced : Prop :=
  (∀ (s : State) (o w : Nat), wantsGrant s o w = true → grantKnown s o w = false → inReset s 0x90101 = false →
      completes (.grantRequest o w) s (fun t => t.nrg = { s.nrg with waiting := s.nrg.waiting ++ [⟨o, w, s.t, false⟩] })) ∧
  (∀ (s : State) (g : Grant), inReset s 0x90101 = false → s.nrg.waiting = [g] → 1 ≤ g.order → g.order ≤ 5 →
      orderOpen s g.order = true → wantsGrant s g.order g.who = true → grantFits s g.order = true →
      completes .grantEvaluation s (fun t => t.nrg.waiting = [] ∧ t.nrg.running = s.nrg.running ++ [{ g with t := s.t }] ∧
        countedMore s t Reg.NRG_GRANT_COUNT 15 0 1 ∧
        (g.order = 3 → (xwLane t g.who).adapting = true ∧ (xwLane t g.who).wantAdapt = false) ∧
        (g.order = 4 → t.ary.snapBusy = true ∧ t.ary.snapPend = false) ∧ (g.order = 5 → t.mgt.attGranted = true))) ∧
  (∀ s : State, (∀ g, g ∈ s.nrg.waiting → grantFits s g.order = false) →
      completes .grantEvaluation s (fun t => t = s)) ∧
  (∀ (s : State) (g : Grant), s.nrg.waiting.find? (fun x => x.order == g.order && x.who == g.who) = some g →
      (g.order = 1 ∨ g.order = 2 ∨ (g.order = 5 ∧ orderOpen s 5 = true)) → eventsTaken s = true →
      completes (.grantForced g.order g.who) s (fun t => t.nrg.running = s.nrg.running ++ [{ g with t := s.t }] ∧
        t.nrg.waiting = s.nrg.waiting.filter (fun x => !(x.order == g.order && x.who == g.who)) ∧
        countedMore s t Reg.NRG_GRANT_COUNT 31 16 1 ∧ eventPending t 0x906 = true)) ∧
  (∀ (s : State) (g : Grant), s.nrg.waiting.find? (fun x => x.order == g.order && x.who == g.who) = some g →
      g.order = 3 → g.long = false → eventsTaken s = true →
      completes (.grantForced g.order g.who) s (fun t => t.nrg.running = s.nrg.running ∧
        t.nrg.waiting = s.nrg.waiting.map (fun x => if x = g then { x with long := true } else x) ∧ eventPending t 0x907 = true))

/-- R400-R403, R433. A crossing of the threshold is a dip, with 0x90B, when the input returns; a qualified power failure is
recorded and counted and cuts all but the flash domain; the seal page is written when the hold-up voltage suffices and the
mirror has a page for it, and is skipped otherwise; then the device is held in reset until the input has returned, which a fall
meanwhile puts off (log entry 333), and the start reports what fell due meanwhile: a skipped seal with 0x90D, a dip with 0x90B.
What the model chose or inferred in it: log entries 82, 100, 101, 104, 235, 318, 333. -/
def Obligations.PowerFailSealsAndRestarts : Prop :=
  (∀ s : State, s.nrg.pf = 0 → s.thm.trip ≠ 2 → 0 ∉ s.mgt.downBy →
      completes (.pfThresholdCross true) s (fun t => t.nrg = { s.nrg with pf := 1, pfT := s.t } ∧ t.regs = s.regs)) ∧
  (∀ s : State, s.nrg.pf = 1 → alive s = true → eventsTaken s = true →
      completes (.pfThresholdCross false) s (fun t => t.nrg = { s.nrg with pf := 0 } ∧
        countedMore s t Reg.NRG_PF_STATUS 31 16 1 ∧ eventPending t 0x90B = true)) ∧
  (∀ s : State, s.nrg.pf = 1 → alive s = false →
      completes (.pfThresholdCross false) s (fun t => t.nrg = { s.nrg with pf := 0, due := s.nrg.due ++ [0x90B] } ∧
        countedMore s t Reg.NRG_PF_STATUS 31 16 1)) ∧
  (∀ s : State, s.nrg.pf = 1 → s.thm.trip ≠ 2 →
      completes .powerFail s (fun t => heldDown t ∧ t.nrg.pf = 2 ∧ countedMore s t Reg.NRG_PF_STATUS 4 0 1 ∧
        rfld t Reg.NRG_PF_STATUS 5 5 = b2n (programFlying s) ∧ t.evt.rcd.taking = false ∧ t.evt.rcd.intake = [] ∧
        (flashIdle s → t.mgt.flash = s.mgt.flash))) ∧
  (∀ (s : State) (v : Nat), s.nrg.pf = 2 → 75 ≤ v → s.thm.trip ≠ 1 → (sealPlace (programDone s)).isSome = true →
      completes (.pfSeal v) s (fun t => t.nrg.pf = 3 ∧ rfld t Reg.NRG_PF_STATUS 7 6 = 1 ∧
        rfld t Reg.NRG_PF_STATUS 15 8 = satN 8 v)) ∧
  (∀ (s : State) (v : Nat), s.nrg.pf = 2 → (v < 75 ∨ sealPlace (programDone s) = none) →
      completes (.pfSeal v) s (fun t => heldDown t ∧ t.nrg.pf = 4 ∧ rfld t Reg.NRG_PF_STATUS 7 6 = 2 ∧
        rfld t Reg.NRG_PF_STATUS 15 8 = satN 8 v ∧ t.nrg.due = s.nrg.due ++ [0x90D])) ∧
  (∀ s : State, s.nrg.pf = 3 →
      completes .pfSealDone s (fun t => heldDown t ∧ t.nrg.pf = 4 ∧ rget t Reg.NRG_PF_STATUS = rget s Reg.NRG_PF_STATUS ∧
        (sealPlace s = none → t.mgt.flash = s.mgt.flash) ∧
        (∀ i g, sealPlace s = some (i, g, false) → t.mgt.flash =
          (flashPut (mirrorAddr i g) ((sealRecs s).flatMap (fun x => x.2.flatMap granBytes)) s).mgt.flash) ∧
        (∀ i g, sealPlace s = some (i, g, true) → t.mgt.flash =
          (flashPut (mirrorAddr i g) ((sealRecs s).flatMap (fun x => x.2.flatMap granBytes)) (flashPut (mirrorAddr i 0)
            (granBytes (mirrorHeader (((sealRecs s).head?.map (·.1)).getD 0) (s.evt.rcd.mUse + 1))) s)).mgt.flash))) ∧
  (∀ s : State, s.nrg.pf = 4 →
      completes (.pfThresholdCross true) s (fun t => 0 ∈ t.mgt.downBy ∧ t.nrg = s.nrg ∧ t.regs = s.regs)) ∧
  (∀ s : State, s.nrg.pf = 4 → (∀ x, x ∈ s.mgt.downBy → x = 0) → s.thm.trip = 0 →
      completes .pfRestart s (fun t => startsAnew t ∧ t.nrg.pf = 0 ∧ rget t Reg.NRG_PF_STATUS = rget s Reg.NRG_PF_STATUS ∧
        t.mgt.flash = s.mgt.flash ∧ (∀ c, c ∈ s.nrg.due → eventPending t c = true)))

/-- R519, R546, R550, R555. nRESET low and a lost REFCLK hold the device in reset, flash and recorder ring retained; when the
one that holds it ends, the device starts anew. Power-on from a dead bank keeps the flash and OTP alone, and starts the device
unless nRESET or REFCLK holds it still. What the model chose or inferred in it: log entries 3, 83, 103, 104, 235. -/
def Obligations.ResetLinesAndPowerOn : Prop :=
  (∀ s : State, alive s = true →
      completes (.nreset true) s (fun t => heldDown t ∧ 1 ∈ t.mgt.downBy ∧ t.t = s.t ∧ t.evt.rcd.ring = s.evt.rcd.ring ∧
        t.evt.rcd.seq = s.evt.rcd.seq ∧ rget t Reg.NRG_PF_STATUS = rget s Reg.NRG_PF_STATUS ∧
        (flashIdle s → t.mgt.flash = s.mgt.flash))) ∧
  (∀ s : State, s.mgt.downBy = [1] → s.nrg.pf ≤ 1 → s.thm.trip = 0 →
      completes (.nreset false) s (fun t => startsAnew t ∧ t.mgt.downBy = [] ∧ t.mgt.flash = s.mgt.flash ∧
        t.evt.rcd.ring = s.evt.rcd.ring)) ∧
  (∀ s : State, alive s = true →
      completes .refclkLost s (fun t => heldDown t ∧ 2 ∈ t.mgt.downBy ∧ t.t = s.t ∧ t.evt.rcd.ring = s.evt.rcd.ring ∧
        t.evt.rcd.seq = s.evt.rcd.seq ∧ (flashIdle s → t.mgt.flash = s.mgt.flash))) ∧
  (∀ s : State, s.mgt.downBy = [2] → s.nrg.pf ≤ 1 → s.thm.trip = 0 →
      completes .refclkReturn s (fun t => startsAnew t ∧ t.mgt.downBy = [] ∧ t.mgt.flash = s.mgt.flash ∧
        t.evt.rcd.ring = s.evt.rcd.ring)) ∧
  (∀ (s : State) (x : Nat), x ∈ s.mgt.downBy → x ≠ 0 →
      completes .powerGood s (fun t => heldDown t ∧ x ∈ t.mgt.downBy ∧ t.mgt.flash = s.mgt.flash ∧ t.evt.rcd.ring = [])) ∧
  (∀ s : State, (∀ x, x ∈ s.mgt.downBy → x = 0) →
      completes .powerGood s (fun t => t.mgt.step = 1 ∧ t.t = 0 ∧ (∀ a, rget t a = resetOf a) ∧
        t.mgt.flash = s.mgt.flash ∧ t.mgt.rbBurned = s.mgt.rbBurned ∧ t.mgt.revBurned = s.mgt.revBurned ∧
        t.evt.rcd.ring = [] ∧ t.thm.trip = 0 ∧ t.thm.latched = false))

/-! ### Housekeeping, thermal management and the trip (13_thermal_housekeeping.md) -/

/-- R413-R415, R417-R419, R437. A round visits every channel, each with its settling conversion and then a delivered one; a
round that is not complete in time is a DL_HK miss. An urgent request takes the converter of its channel at once, or waits
behind a visit that was aborted twice, with 0xA13, and its delivered conversion goes to its requester alone. What the model
chose or inferred in it: log entries 100, 101. -/
def Obligations.RoundsAndUrgentVisits : Prop :=
  (∀ s : State, s.thm.running = false → domainRuns s 10 = true → inReset s 0xA0100 = false → convServes s 0 = true →
      convServes s 1 = true →
      s.thm.conv.length = 2 →
      completes .hkRoundStart s (fun t => t.thm.running = true ∧ t.thm.t0 = s.t ∧ t.thm.res = [] ∧
        (∀ c, c < 2 → (convAt t c).visits = (List.range 22).map (fun i => 32 * c + i) ∧ (convAt t c).aborts = 0 ∧
          (convAt t c).settle = 1) ∧ (∀ n, (strobe t n).sensed = false))) ∧
  (∀ (s : State) (c chan : Nat) (v : Int) (rest : List Nat), c < 2 → s.thm.conv.length = 2 → domainRuns s 10 = true →
      (convAt s c).serving = none →
      (convAt s c).visits = chan :: rest → 0 < (convAt s c).settle →
      completes (.hkConversionDone c v) s (fun t => convAt t c = { convAt s c with settle := (convAt s c).settle - 1 } ∧
        convAt t (1 - c) = convAt s (1 - c) ∧ t.thm.res = s.thm.res)) ∧
  (∀ (s : State) (c chan : Nat) (v : Int) (rest : List Nat), c < 2 → s.thm.conv.length = 2 → domainRuns s 10 = true →
      (convAt s c).serving = none →
      (convAt s c).visits = chan :: rest → (convAt s c).settle = 0 → (convAt s c).queue = [] →
      completes (.hkConversionDone c v) s (fun t => mget t.thm.res (resKey c chan) = some v ∧
        (∀ k, k ≠ resKey c chan → mget t.thm.res k = mget s.thm.res k) ∧ (convAt t c).visits = rest ∧
        (convAt t c).aborts = 0 ∧ (convAt t c).serving = none ∧ convAt t (1 - c) = convAt s (1 - c))) ∧
  (∀ (s : State) (c : Nat) (v : Int) (u : Urgent), c < 2 → s.thm.conv.length = 2 → domainRuns s 10 = true →
      (convAt s c).serving = some (u, false) →
      completes (.hkConversionDone c v) s (fun t => convAt t c = { convAt s c with serving := some (u, true) } ∧
        convAt t (1 - c) = convAt s (1 - c))) ∧
  (∀ s : State, s.thm.running = true → s.thm.late = false → (inReset s 0xA0000 && inReset s 0xA0001) = false →
      inReset s 0xA0100 = false → inReset s 0x30200 = false → eventsTaken s = true →
      completes .dlHkMiss s (fun t => t.thm = { s.thm with missed := true, late := true } ∧ eventPending t 0x318 = true ∧
        countedMore s t (Reg.TBS_DL_COUNT + 32) 31 0 1)) ∧
  (∀ (s : State) (u : Urgent) (c : Nat), domainRuns s 10 = true → nextAsked s = some u → serverOf s (u.chan / 32) = some c →
      c < 2 →
      s.thm.conv.length = 2 → (convAt s c).serving = none → ((convAt s c).visits = [] ∨ (convAt s c).aborts < 2) →
      completes .urgentRequest s (fun t => t.thm.asked = s.thm.asked.erase u ∧
        (convAt t c).serving = some (u, false) ∧ (convAt t c).visits = (convAt s c).visits ∧
        ((convAt s c).visits ≠ [] → (convAt t c).aborts = (convAt s c).aborts + 1))) ∧
  (∀ (s : State) (u : Urgent) (c : Nat), domainRuns s 10 = true → nextAsked s = some u → serverOf s (u.chan / 32) = some c →
      c < 2 →
      s.thm.conv.length = 2 → (convAt s c).serving = none → (convAt s c).visits ≠ [] → 2 ≤ (convAt s c).aborts →
      (convAt s c).queue.length < 8 → eventsTaken s = true →
      completes .urgentRequest s (fun t => t.thm.asked = s.thm.asked.erase u ∧
        convAt t c = { convAt s c with queue := insertUrgent u (convAt s c).queue } ∧ eventPending t 0xA13 = true ∧
        countedMore s t Reg.THM_URGENT 15 0 1)) ∧
  (∀ (s : State) (c : Nat) (v : Int) (u : Urgent), c < 2 → s.thm.conv.length = 2 → domainRuns s 10 = true →
      (convAt s c).serving = some (u, true) →
      eventsTaken s = true →
      completes (.urgentResult c v) s (fun t => countedMore s t Reg.THM_URGENT 31 16 1 ∧
        ((convAt s c).queue = [] → (convAt t c).serving = none) ∧
        (u.prio = 1 → mget t.thm.reconv u.who = some v) ∧
        (u.prio = 2 → rfld s Reg.PEN_ST_SENSE 31 16 ≠ 0 →
          (v < rfld s Reg.PEN_ST_SENSE 15 0 ∨ (rfld s Reg.PEN_ST_SENSE 31 16 : Int) < v) → eventPending t 0x815 = true) ∧
        (u.prio = 3 → v < 10800 → eventPending t 0xA12 = true)))

/-- R412, R413, R425, R426. A delivered round completes: it is counted, the sensors take its readings, T_max is the largest
reading that is not excluded, with 5 °C more under an exclusion, and the band that T_max indicates is decided. What the model
chose or inferred in it: log entry 206. -/
def Obligations.RoundEndJudgesTemperature : Prop :=
  (∀ s : State, roundDelivered s = true →
      completes .hkRoundEnd s (fun t => t.thm.running = false ∧ t.thm.rounds = (s.thm.rounds + 1) % 2 ^ 32 ∧
        t.thm.lastMs = satN 8 ((s.t - s.thm.t0) / 200000) ∧
        (s.t - s.thm.t0 ≤ 2 * hkPeriod s * 200000 → t.thm.missed = false) ∧
        t.thm.ts = (List.range 16).map (fun i => (hkResult s (i / 8) (4 + i % 8)).getD (s.thm.ts.getD i 0)))) ∧
  (∀ s : State, roundDelivered s = true → inReset s 0xA0200 = false → s.mgt.step ≠ 4 →
      completes .hkRoundEnd s (fun t => t.thm.bothBad = false →
        t.thm.tMax = (tMaxOf t.thm.ts t.thm.excl).1 ∧ t.thm.raw = (tMaxOf t.thm.ts t.thm.excl).2 ∧ t.thm.tb = s.thm.tb ∧
        t.thm.tbNext = (if nextBand (s.thm.tbNext.getD s.thm.tb) t.thm.tMax = s.thm.tb then none
          else some (nextBand (s.thm.tbNext.getD s.thm.tb) t.thm.tMax)))) ∧
  (∀ s : State, roundDelivered s = false → completes .hkRoundEnd s (fun t => t = s))

/-- R429-R431, R437. The confirmed condition starts the orderly stop with 0xA09, and one that is not confirmed is 0xA14 and
nothing else; during a failure of both housekeeping converters, a power failure or a trip it is dropped; capture, conversion and
the pipelines stop, reservations are released and strobes are forced off; then the engines halt and the device is in CALM with
0xA0A. It restarts from CALM by itself when it is told to, or by the key of THM_RESTART; a wrong key is 0xA0E. What the model
chose or inferred in it: log entries 100, 104, 114, 235, 322. -/
def Obligations.OrderlyStopReachesCalm : Prop :=
  (∀ (s : State) (v m : Int), s.thm.stop = 1 → s.thm.bothBad = false → s.nrg.pf = 0 → s.thm.trip = 0 →
      mget s.thm.reconv s.thm.hot = some v → m = (tMaxOf (s.thm.ts.set s.thm.hot v) s.thm.excl).1 → eventsTaken s = true →
      completes .orderlyStopConfirm s (fun t =>
        (stopCond m (riseRate s m) = true → eventPending t 0xA09 = true ∧
          t.thm = { s.thm with stop := 2, stopT := s.t, stops := satN 8 (s.thm.stops + 1) }) ∧
        (stopCond m (riseRate s m) = false → eventPending t 0xA14 = true ∧ t.thm = { s.thm with stop := 0 }))) ∧
  (∀ (s : State) (v : Int), s.thm.stop = 1 → (s.thm.bothBad = true ∨ s.nrg.pf ≠ 0 ∨ s.thm.trip ≠ 0) →
      mget s.thm.reconv s.thm.hot = some v →
      completes .orderlyStopConfirm s (fun t => t.thm = { s.thm with stop := 0 } ∧ t.evt = s.evt)) ∧
  (∀ s : State, s.thm.stop = 2 → eventsTaken s = true →
      completes .orderlyStopCut s (fun t => t.thm = { s.thm with stop := 3 } ∧ t.mgt.capturing = false ∧ t.vdt.resv = [] ∧
        t.ary.reads = [] ∧ t.ary.flight = [] ∧ images t = false ∧ t.pen.forcedOff = true ∧ (∀ n, n < 16 →
        (strobe t n).on = false) ∧ eventPending t 0x816 = true)) ∧
  (∀ s : State, s.thm.stop = 3 → privMirrored s = true → (∀ n, n < 4 → (laneSet s n).down = true ∨ p0Empty s n = true) →
      eventsTaken s = true →
      completes .calmEntered s (fun t => t.thm = { s.thm with stop := 4 } ∧ t.mgt = { s.mgt with state := .calm } ∧
        (∀ e, e < 16 → engHalted t e = true) ∧ eventPending t 0xA0A = true)) ∧
  (∀ s : State, s.mgt.state = .calm → rbit s Reg.THM_CFG 31 = true → s.thm.coolT.isSome = true → nothingHolds s →
      completes .calmAutoRestart s (fun t => startsAnew t ∧ eventPending t 0xA0B = true)) ∧
  (∀ (s : State) (k : Nat), k ≠ 0xC3 → eventsTaken s = true →
      completes (.thmRestart k) s (fun t => t.thm = s.thm ∧ t.mgt = s.mgt ∧ t.regs = s.regs ∧ eventPending t 0xA0E = true)) ∧
  (∀ s : State, s.mgt.state = .calm → nothingHolds s →
      completes (.thmRestart 0xC3) s (fun t => startsAnew t ∧ eventPending t 0xA0B = true)) ∧
  (∀ s : State, s.mgt.state = .tripLatch → nothingHolds s →
      completes (.thmRestart 0xC3) s (fun t => startsAnew t ∧ t.thm.latched = false))

/-- R432-R435. A trip is latched in the island with its time and cuts every rail but the island and, with a page program in
flight, the flash domain, until that is cut too; a trip that finds three in the preceding hour latches. After it the device
starts anew with the ring that was kept (R432, R519) and reports the trip with 0xA0C. What the model chose or inferred in it:
log entries 100, 101, 104, 112, 235. -/
def Obligations.TripCutsAndRestarts : Prop :=
  (∀ (s : State) (h : Bool), s.thm.trip = 0 → 0 ∉ s.mgt.downBy → s.nrg.pf ≤ 1 →
      completes (.trip h) s (fun t => heldDown t ∧ t.thm.trip = (if programFlying s then 1 else 2) ∧
        t.thm.tripTimes = (islandNow s :: s.thm.tripTimes).take 3 ∧ t.thm.lastH2 = h ∧ t.thm.lastHold = programFlying s ∧
        t.thm.trips = satN 16 (s.thm.trips + 1) ∧ t.thm.latched = (s.thm.latched || decide (3 ≤ tripsInHour s)) ∧
        t.evt.rcd.ring = s.evt.rcd.ring ∧ (flashIdle s → t.mgt.flash = s.mgt.flash))) ∧
  (∀ (s : State) (done : Bool), s.thm.trip = 1 → s.nrg.pf ≤ 1 →
      completes (.tripFlashCut done) s (fun t => heldDown t ∧ t.thm.trip = 2 ∧ t.nrg.pf = 0 ∧
        t.thm.tripTimes = s.thm.tripTimes ∧ (flashIdle s → t.mgt.flash = s.mgt.flash))) ∧
  (∀ s : State, s.thm.trip = 2 → s.nrg.pf ≤ 1 → s.mgt.downBy = [] →
      completes .tripRestart s (fun t => startsAnew t ∧ t.thm.trip = 0 ∧ t.thm.latched = s.thm.latched ∧
        t.mgt.flash = s.mgt.flash ∧ (s.thm.tripRec.isSome = true → eventPending t 0xA0C = true)))

/-! ### Configuration, start-up, flash and attestation (14_configuration_boot.md) -/

/-- R435, R436, R441, R454, R455, R460, R462. Each start-up step ends when what it waits for is done, its time is shown, and the
next begins: straps are read after step 1; step 2 starts, or is SAFE without a known flash, or TRIP_LATCH; step 3 loads a slot
or is SAFE; step 4 chooses the band and is admitted, or SAFE without a good comparator, or goes back to step 3; the sets that
are UP make the device READY, and 2,048 captured lines make it RUN, the times to both shown in ms (R471, log entry 234). A
RESTART by MGT_BOOT_CMD starts the device anew (R459), in CALM too (log entry 123). What the model chose or inferred in it: log
entries 100, 101, 104, 105, 106, 107, 108, 118, 123, 124, 127, 234, 319. -/
def Obligations.StartupRunsItsSteps : Prop :=
  (∀ (s : State) (q : Sfdp) (bad : Nat), s.mgt.state = .boot → s.mgt.step = 1 →
      completes (.startupStepEnd 1 q bad) s (fun t => t.mgt.step = 2 ∧ stepTimed s t 1 ∧
        ∃ n, t.mb.strap = (Config.strapAddr n).toNat ∧ t.mb.pecStrap = Config.strapPec n)) ∧
  (∀ (s : State) (q : Sfdp) (bad : Nat), s.mgt.state = .boot → s.mgt.step = 2 → eventsTaken s = true →
      completes (.startupStepEnd 2 q bad) s (fun t => stepTimed s t 2 ∧
        (s.thm.latched = true → t.mgt.state = .tripLatch) ∧
        (s.thm.latched = false → sfdpAccepted q = true → t.mgt.state = .starting ∧ t.mgt.step = 3) ∧
        (s.thm.latched = false → sfdpAccepted q = false → t.mgt.state = .safe ∧ t.pen.hiz = true ∧ eventPending t 0xB09 = true ∧
          eventPending t 0xB02 = true))) ∧
  (∀ (s : State) (q : Sfdp) (bad : Nat), s.mgt.state = .starting → s.mgt.step = 3 → nvTurn s 0 = true →
      completes (.startupStepEnd 3 q bad) s (fun t => (t.mgt.state = .safe ∧ t.pen.hiz = true) ∨
        (t.mgt.step = 4 ∧ t.mgt.loaded = true ∧ 3 ∈ t.mgt.stepsDone))) ∧
  (∀ (s : State) (q : Sfdp), s.mgt.state = .starting → s.mgt.step = 3 → nvTurn s 0 = true → s.mgt.tried = [] →
      eventsTaken s = true →
      (∀ sl, sl < 2 → rfld s (Reg.MGT_SLOT_STATUS + 4 * sl) 31 28 ≤ 2) → (∀ sl, sl < 2 →
          imgBytes s sl 0 4 ≠ [0x42#8, 0x50#8, 0x43#8, 0x46#8]) →
      completes (.startupStepEnd 3 q 0) s (fun t => t.mgt.state = .safe ∧ eventPending t 0xB00 = true ∧
        eventPending t 0xB02 = true ∧ ∀ sl, sl < 2 → rfld t (Reg.MGT_SLOT_STATUS + 4 * sl) 31 28 = 3)) ∧
  (∀ (s : State) (q : Sfdp), s.mgt.state = .starting → s.mgt.step = 4 → 40 ∈ s.mgt.stepsDone → eventsTaken s = true →
      completes (.startupStepEnd 4 q 3) s (fun t => t.mgt.state = .safe ∧ eventPending t 0xA0F = true ∧
        eventPending t 0xB02 = true)) ∧
  (∀ (s u : State) (q : Sfdp), s.mgt.state = .starting → s.mgt.step = 4 → 40 ∈ s.mgt.stepsDone → eventsTaken s = true →
      u = startBand { s with thm := { s.thm with cmpTest := 0 } } →
      completes (.startupStepEnd 4 q 0) s (fun t => t.thm.tb = s.thm.tbNext.getD s.thm.tb ∧ t.ary.tb = t.thm.tb ∧
        ((admission u).1 = false → t.mgt.step = 3 ∧ t.mgt.loaded = false ∧ eventPending t 0x901 = true ∧
          eventPending t 0xB03 = true) ∧
        ((admission u).1 = true → (∀ e, e < 16 → engAuto s e = false) → t.mgt.step = 5 ∧ 4 ∈ t.mgt.stepsDone ∧
          rfld t (Reg.MGT_SLOT_STATUS + 4 * s.mgt.slot) 31 28 = 1))) ∧
  (∀ (s : State) (q : Sfdp) (bad : Nat), s.mgt.state = .starting → s.mgt.step = 5 → s.col.calibrated = true →
      completes (.startupStepEnd 5 q bad) s (fun t => t.mgt.step = 6 ∧ stepTimed s t 5)) ∧
  (∀ (s : State) (q : Sfdp) (bad : Nat), s.mgt.state = .starting → (s.mgt.step = 5 ∨ s.mgt.step = 6) → linksTrained s = true →
      discovered s = true → 6 ∉ s.mgt.stepsDone →
      completes (.startupStepEnd 6 q bad) s (fun t => t.mgt.step = s.mgt.step ∧ stepTimed s t 6)) ∧
  (∀ (s : State) (n : Nat), s.mgt.state = .starting → s.mgt.step = 6 → 5 ∈ s.mgt.stepsDone → 6 ∈ s.mgt.stepsDone → n < 4 →
      setEn s n = true → inReset s (setFid n) = false → (laneSet s n).failed = [] → (cfgSlots s n).1 ≠ [] →
      completes .laneBringupBegin s (fun t => t.mgt.step = 7 ∧ t.mgt.state = .starting ∧ (laneSet t n).stage = 1 ∧
        (laneSet t n).slots = (cfgSlots s n).1)) ∧
  (∀ (s : State) (q : Sfdp) (bad : Nat), s.mgt.state = .starting → s.mgt.step = 7 → allSetsUp s = true →
      s.mgt.autoCommit = false → s.mgt.captured < 2048 → eventsTaken s = true →
      completes (.startupStepEnd 7 q bad) s (fun t => t.mgt.state = .ready ∧ t.mgt.step = 8 ∧ stepTimed s t 7 ∧
        rfld t Reg.MGT_SU_TIME 31 16 = suMs s ∧ eventPending t 0xB04 = true)) ∧
  (∀ s : State, s.mgt.stepsDone.contains 5 = true → works s = true → s.mgt.capturing = false → s.grp.role ≠ 2 → s.thm.stop < 3 →
      completes .captureBegin s (fun t => t.mgt = { s.mgt with capturing := true })) ∧
  (∀ s : State, s.mgt.state = .ready → 2048 ≤ s.mgt.captured → eventsTaken s = true →
      completes .warmupEnd s (fun t => t.mgt.state = .run ∧ stepTimed s t 8 ∧ rfld t Reg.MGT_SU_TIME 15 0 = suMs s ∧
        eventPending t 0xB05 = true)) ∧
  (∀ s : State, alive s = true → nothingHolds s → completes .bootRestart s (fun t => startsAnew t ∧
        (flashIdle s → t.mgt.flash = s.mgt.flash)))

/-- R452, R453, R459. A verification of the slot that was not booted begins and ends with its RESULT: of the first check that
fails, with 0xB00, or 2; a commit burns RB_COUNT and REVOKED to those of the active image, with 0xB08. What the model chose or
inferred in it: log entries 121, 319. -/
def Obligations.ImagesAreVerifiedAndCommitted : Prop :=
  (∀ s : State, s.mgt.verify = none → alive s = true → inReset s 0xB0000 = false → s.mgt.state ≠ .boot →
      completes .bootVerify s (fun t => t.mgt = { s.mgt with verify := some (1 - s.mgt.slot % 2), nvStack := nvNext t } ∧
        rfld t (Reg.MGT_SLOT_STATUS + 4 * (1 - s.mgt.slot % 2)) 27 27 = 1)) ∧
  (∀ (s : State) (sl : Nat) (readErr : Bool), s.mgt.verify = some sl → nvTurn s 7 = true → eventsTaken s = true →
      completes (.verifyDone readErr) s (fun t => t.mgt = { s.mgt with verify := none, nvStack := nvNext t } ∧
        rfld t (Reg.MGT_SLOT_STATUS + 4 * sl) 27 27 = 0 ∧
        (headResult s sl readErr ≠ 0 → rfld t (Reg.MGT_SLOT_STATUS + 4 * sl) 31 28 = headResult s sl readErr ∧
          eventPending t 0xB00 = true) ∧
        (headResult s sl readErr = 0 → digestsOk s sl = false → rfld t (Reg.MGT_SLOT_STATUS + 4 * sl) 31 28 = 10 ∧
          eventPending t 0xB00 = true) ∧
        (headResult s sl readErr = 0 → digestsOk s sl = true → rfld t (Reg.MGT_SLOT_STATUS + 4 * sl) 31 28 = 2))) ∧
  (∀ s : State, alive s = true → inReset s 0xB0000 = false → s.mgt.loaded = true → rbTotal s < s.mgt.roll → eventsTaken s = true →
      completes .bootCommit s (fun t => rbTotal t = s.mgt.roll ∧ revokedNow t = revokedNow s ||| s.mgt.revoke ∧
        t.mgt.flash = s.mgt.flash ∧ eventPending t 0xB08 = true)) ∧
  (∀ s : State, s.mgt.loaded = false → completes .bootCommit s (fun t => t = s))

/-- R458, R459, R465-R467. A pass-through operation begins with RESULT 1 when none is in hand and its range is allowed, is
refused with RESULT 3 or 4 otherwise, and ends with RESULT 2 and its effect on the flash or the buffer, or with RESULT 5. An
attestation latches its report, and under its grant signs it; the salt of the signature is a free value
(Sys2Proof.Config.freeSalt), which the statement leaves open; a restart that comes first, in CALM too (log entry 123), ends it
with STATUS 3. What the model chose or inferred in it: log entries 122, 123, 128, 218, 287, 319. -/
def Obligations.FlashOperationsAndAttestation : Prop :=
  (∀ (s : State) (a : Nat), a = rfld s Reg.MGT_NV_ADDR 24 0 → inReset s 0xB0001 = false → alive s = true → nvFree s = true →
      a + 256 ≤ 0x1500000 →
      completes .nvRead s (fun t => t.mgt = { s.mgt with nvOp := some ⟨8, a, [], true⟩, nvStack := nvNext t } ∧
        rfld t Reg.MGT_NV_STATUS 31 29 = 1)) ∧
  (∀ (s : State) (a : Nat), a = rfld s Reg.MGT_NV_ADDR 24 0 → inReset s 0xB0001 = false → alive s = true → nvFree s = true →
      a % 256 = 0 → nvWritable s a = true →
      completes .nvProgram s (fun t => t.mgt = { s.mgt with nvOp := some ⟨0, a, nvBuf s, false⟩ } ∧
        rfld t Reg.MGT_NV_STATUS 31 29 = 1)) ∧
  (∀ (s : State) (a : Nat), a = rfld s Reg.MGT_NV_ADDR 24 0 → inReset s 0xB0001 = false → alive s = true → nvFree s = true →
      nvWritable s a = true →
      completes .nvErase s (fun t => t.mgt = { s.mgt with nvOp := some ⟨1, a / 4096 * 4096, [], false⟩ } ∧
        rfld t Reg.MGT_NV_STATUS 31 29 = 1)) ∧
  (∀ s : State, inReset s 0xB0001 = false → alive s = true → nvFree s = true →
      nvWritable s (rfld s Reg.MGT_NV_ADDR 24 0) = false →
      completes .nvErase s (fun t => t.mgt = s.mgt ∧ rfld t Reg.MGT_NV_STATUS 31 29 = 3)) ∧
  (∀ s : State, inReset s 0xB0001 = false → alive s = true → nvFree s = false →
      completes .nvProgram s (fun t => t.mgt = s.mgt ∧ rfld t Reg.MGT_NV_STATUS 31 29 = 4)) ∧
  (∀ (s : State) (o : NvOp), s.mgt.nvOp = some o → nvTurn s 6 = true →
      completes (.nvOperationDone true) s (fun t => t.mgt.nvOp = none ∧ rfld t Reg.MGT_NV_STATUS 31 29 = 2 ∧
        rfld t Reg.MGT_NV_STATUS 15 0 = (rfld s Reg.MGT_NV_STATUS 15 0 + 1) % 65536 ∧
        (o.kind = 0 → t.mgt.flash = (flashPut o.addr o.data s).mgt.flash) ∧
        (o.kind = 1 → t.mgt.flash = (flashErase o.addr 4096 s).mgt.flash) ∧
        (o.kind = 8 → t.mgt.flash = s.mgt.flash ∧
          ∀ i, i < 64 → rnat t (Reg.MGT_NV_BUF + 4 * i) = ofLe (flashBytes s (o.addr + 4 * i) 4)))) ∧
  (∀ (s : State) (o : NvOp), s.mgt.nvOp = some o → nvTurn s 6 = true →
      completes (.nvOperationDone false) s (fun t => t.mgt.nvOp = none ∧ rfld t Reg.MGT_NV_STATUS 31 29 = 5)) ∧
  (∀ s : State, s.mgt.attBusy = false → inReset s 0xB0002 = false → alive s = true →
      completes .attGo s (fun t => t.mgt = { s.mgt with attBusy := true, attGranted := false, attReport := attReportOf s } ∧
        rfld t Reg.MGT_ATT_STATUS 1 0 = 1)) ∧
  (∀ s : State, s.mgt.attBusy = true → s.mgt.attGranted = true →
      completes .attestationDone s (fun t => rfld t Reg.MGT_ATT_STATUS 1 0 = 2 ∧ (∃ salt, t.mgt = { s.mgt with
          attBusy := false, attGranted := false,
          attSig := pssSign Config.identityN Config.identityD s.mgt.attReport (beBytes 64 salt) }) ∧
        rfld t Reg.MGT_ATT_STATUS 31 16 = (rfld s Reg.MGT_ATT_STATUS 31 16 + 1) % 65536)) ∧
  (∀ s : State, alive s = true → nothingHolds s → s.mgt.attBusy = true →
      completes .bootRestart s (fun t => t.mgt.attBusy = false ∧ rfld t Reg.MGT_ATT_STATUS 1 0 = 3))

/-! ### Management bus (15_management_bus.md) -/

/-- R475-R479, R482, R484, R488-R492. Each fixed read drives its data and, with PEC, the check byte; it is not answered at the
group address. An access in Lull wakes the target and is not acknowledged. A refused code is not acknowledged and counted with
0xB0D, a timeout with 0xB0B. An in-band request sends the address and the attention byte; one that is not answered, or lost
three times, ends with 0xB0C. What the model chose or inferred in it: log entries 228, 230, 324. -/
def Obligations.BusAnswersAndRequests : Prop :=
  (∀ (s : State) (addr n : Nat), answersOwn s addr →
      completes (.getState addr n) s (fun t => t.mb.ack = true ∧
        t.mb.resp = driven n (fixedAnswer s addr 1 (leBytes 4 (viewReg (addressedAt s s.mb.ptr) Reg.MGT_STATE))) ∧
        rfld t Reg.MGT_MB_COUNT 31 16 = (rfld s Reg.MGT_MB_COUNT 31 16 + 1) % 65536)) ∧
  (∀ (s : State) (addr n : Nat), answersOwn s addr →
      completes (.getAttn addr n) s (fun t => t.mb.ack = true ∧
        t.mb.resp = driven n (fixedAnswer s addr 2 (leBytes 1 (attnByte s))))) ∧
  (∀ (s : State) (addr n : Nat), answersOwn s addr →
      completes (.getId addr n) s (fun t => t.mb.ack = true ∧
        t.mb.resp = driven n (fixedAnswer s addr 3 (leBytes 8 Config.deviceId.toNat)))) ∧
  (∀ (s : State) (addr n : Nat), answersOwn s addr →
      completes (.getPtr addr n) s (fun t => t.mb.ack = true ∧
        t.mb.resp = driven n (fixedAnswer s addr 4 (leBytes 3 s.mb.ptr)))) ∧
  (∀ (s : State) (addr n : Nat), answersOwn s addr →
      completes (.getBus addr n) s (fun t => t.mb.ack = true ∧
        t.mb.resp = driven n (fixedAnswer s addr 5 (leBytes 4 (viewReg (addressedAt s s.mb.ptr) Reg.MGT_MB_STATUS))))) ∧
  (∀ (s : State) (addr n : Nat), mbAnswers s = true → addr ≠ ownAddr s → groupHit s addr = true → s.mb.lull = false →
      completes (.getId addr n) s (fun t => t.mb.ack = false ∧ t.mb.resp = [] ∧ t.regs = s.regs)) ∧
  (∀ (s : State) (n : Nat), mbAnswers s = true → s.mb.lull = true →
      completes (.getId (ownAddr s) n) s (fun t => t.mb.ack = false ∧ t.mb.resp = [] ∧ t.mb.lull = false ∧
        countedMore s t (Reg.MGT_MB_COUNT + 12) 31 16 1)) ∧
  (∀ (s : State) (addr code cnt : Nat), answersOwn s addr → codeRefused code cnt = true → eventsTaken s = true →
      completes (.cmdRefused addr code cnt) s (fun t => t.mb.ack = false ∧ t.mb.resp = [] ∧ t.mb.ptr = s.mb.ptr ∧
        countedMore s t (Reg.MGT_MB_COUNT + 4) 31 16 1 ∧ eventPending t 0xB0D = true)) ∧
  (∀ s : State, mbAnswers s = true → s.mb.hung = true → s.mb.lull = false → eventsTaken s = true →
      completes .mbTimeout s (fun t => t.mb = { s.mb with ack := false, resp := [], hung := false } ∧
        countedMore s t (Reg.MGT_MB_COUNT + 4) 15 0 1 ∧ eventPending t 0xB0B = true)) ∧
  (∀ (s : State) (a b : Byte), ibrReady s = true → a = addrByte (ownAddr s) true → b = BitVec.ofNat 8 (attnByte s) →
      completes .ibrStart s (fun t => t.evt.ibrDue = false ∧ t.mb.ibr = 1 ∧ t.mb.ibrSent = [a, b, pec [a, b]] ∧
        countedMore s t (Reg.MGT_MB_COUNT + 8) 31 16 1)) ∧
  (∀ s : State, ibrReady s = true → eventsTaken s = true →
      completes .ibrUnanswered s (fun t => t.mb.ibr = 2 ∧ t.mb.ibrTries = 0 ∧ countedMore s t (Reg.MGT_MB_COUNT + 8) 15 0 1 ∧
        eventPending t 0xB0C = true)) ∧
  (∀ s : State, ibrReady s = true → eventsTaken s = true →
      completes .ibrRetry s (fun t =>
        (s.mb.ibrTries < 2 → t.mb.ibr = 3 ∧ t.mb.ibrTries = s.mb.ibrTries + 1 ∧ t.evt.ibrDue = true) ∧
        (2 ≤ s.mb.ibrTries → t.mb.ibr = 2 ∧ eventPending t 0xB0C = true))) ∧
  (∀ (s : State) (idle : Nat), mbAnswers s = true → idle = rfld s Reg.MGT_MB_CFG 15 0 → idle ≠ 0 → lullAsked s = true →
      s.mb.lull = false → s.mb.lastAddr + idle * 200000 ≤ s.t →
      completes .lullEnter s (fun t => t.mb = { s.mb with lull := true })) ∧
  (∀ s : State, s.mb.lull = true → mbAnswers s = true → s.evt.rise = true →
      completes (.lullWake false) s (fun t => t.mb = { s.mb with lull := false } ∧
        countedMore s t (Reg.MGT_MB_COUNT + 12) 31 16 1))

/-- R476, R477, R479-R484. The write of one register by a block, at the pointer or at a pointer that is set, writes that
register and moves the pointer past it; a block of one register or of two in turn, or of one with the right check byte under
PEC, gives each register of read-write fields its word, leaves every other, is acknowledged and counted as completed; a read by
a block or from the pointer drives the register's bytes, lowest first. With PEC a block whose check byte is wrong writes nothing
and is counted with 0xB0A; an out-of-range COUNT is refused with 0xB0D. What the model chose or inferred in it: log entries 229,
230. -/
def Obligations.BusReadsAndWritesRegisters : Prop :=
  (∀ (s u : State) (addr p v : Nat), answersOwn s addr → pecOn s = false → p = s.mb.ptr → v < 2 ^ 32 →
      u = writeReg p v (addressedAt s (nextPtr p)) →
      completes (.blockWrite addr 4 (leBytes 4 v)) s (fun t => t.mb = { u.mb with ack := true, resp := [] } ∧
        (∀ a, a ≠ Reg.MGT_MB_COUNT → rget t a = rget u a) ∧ (∀ q, q ≠ .regs → q ≠ .mb → samePart u t q))) ∧
  (∀ (s u : State) (addr p v : Nat), answersOwn s addr → pecOn s = false → p = s.mb.ptr → v < 2 ^ 32 →
      u = writeReg p v (addressedAt s (nextPtr p)) →
      completes (.continue addr (leBytes 4 v) 0) s (fun t => t.mb = { u.mb with ack := true, resp := [] } ∧
        (∀ a, a ≠ Reg.MGT_MB_COUNT → rget t a = rget u a) ∧ (∀ q, q ≠ .regs → q ≠ .mb → samePart u t q))) ∧
  (∀ (s u : State) (addr p v : Nat), answersOwn s addr → pecOn s = false → p % 4 = 0 → p < 2 ^ 24 → v < 2 ^ 32 →
      u = writeReg p v (addressedAt s (nextPtr p)) →
      completes (.setPtr addr p (leBytes 4 v) 0) s (fun t => t.mb = { u.mb with ack := true, resp := [] } ∧
        (∀ a, a ≠ Reg.MGT_MB_COUNT → rget t a = rget u a) ∧ (∀ q, q ≠ .regs → q ≠ .mb → samePart u t q))) ∧
  (∀ (s : State) (addr p : Nat), answersOwn s addr → pecOn s = false →
      completes (.setPtr addr p [] 0) s (fun t => t.mb.ptr = p % 2 ^ 24 / 4 * 4 ∧ t.mb.ack = true ∧ t.mb.resp = [])) ∧
  (∀ (s : State) (addr p : Nat), answersOwn s addr → pecOn s = false → p = s.mb.ptr → p ≠ Reg.MGT_REC_WIN → isLatched p = false →
      completes (.blockRead addr 4 5) s (fun t => t.mb.ack = true ∧ t.mb.ptr = nextPtr p ∧
        t.mb.resp = 4#8 :: leBytes 4 (viewReg (addressedAt s p) p))) ∧
  (∀ (s : State) (addr p : Nat), answersOwn s addr → pecOn s = false → p = s.mb.ptr → p ≠ Reg.MGT_REC_WIN → isLatched p = false →
      completes (.continue addr [] 4) s (fun t => t.mb.ack = true ∧ t.mb.ptr = nextPtr p ∧
        t.mb.resp = leBytes 4 (viewReg (addressedAt s p) p))) ∧
  (∀ (s : State) (addr p : Nat), answersOwn s addr → pecOn s = false → p % 4 = 0 → p < 2 ^ 24 → p ≠ Reg.MGT_REC_WIN →
      isLatched p = false →
      completes (.setPtr addr p [] 4) s (fun t => t.mb.ack = true ∧ t.mb.ptr = nextPtr p ∧
        t.mb.resp = leBytes 4 (viewReg (addressedAt s p) p))) ∧
  (∀ (s : State) (addr v : Nat) (c : Byte), answersOwn s addr → pecOn s = true → eventsTaken s = true →
      c ≠ pec ([addrByte addr false, 0x40#8, 4#8] ++ leBytes 4 v) →
      completes (.blockWrite addr 4 (leBytes 4 v ++ [c])) s (fun t => t.mb.ack = false ∧ t.mb.ptr = s.mb.ptr ∧
        countedMore s t Reg.MGT_MB_COUNT 15 0 1 ∧ (∀ a, a ≠ Reg.MGT_MB_COUNT → rget t a = rget s a) ∧
        eventPending t 0xB0A = true)) ∧
  (∀ (s : State) (addr p v : Nat), answersOwn s addr → pecOn s = false → p = s.mb.ptr → takesWord p v → v < 2 ^ 32 →
      completes (.blockWrite addr 4 (leBytes 4 v)) s (fun t => t.mb.ack = true ∧ t.mb.ptr = nextPtr p ∧ holdsWord t p v ∧
        (∀ a, a ≠ p → a ≠ Reg.MGT_MB_COUNT → rget t a = rget s a) ∧
        rfld t Reg.MGT_MB_COUNT 31 16 = (rfld s Reg.MGT_MB_COUNT 31 16 + 1) % 65536)) ∧
  (∀ (s : State) (addr p v w : Nat), answersOwn s addr → pecOn s = false → p = s.mb.ptr → takesWord p v →
      takesWord (nextPtr p) w → v < 2 ^ 32 → w < 2 ^ 32 →
      completes (.blockWrite addr 8 (leBytes 4 v ++ leBytes 4 w)) s (fun t => t.mb.ack = true ∧
        t.mb.ptr = nextPtr (nextPtr p) ∧ holdsWord t p v ∧ holdsWord t (nextPtr p) w ∧
        ∀ a, a ≠ p → a ≠ nextPtr p → a ≠ Reg.MGT_MB_COUNT → rget t a = rget s a)) ∧
  (∀ (s : State) (addr p v : Nat) (c : Byte), answersOwn s addr → pecOn s = true → p = s.mb.ptr → takesWord p v → v < 2 ^ 32 →
      c = pec ([addrByte addr false, 0x40#8, 4#8] ++ leBytes 4 v) →
      completes (.blockWrite addr 4 (leBytes 4 v ++ [c])) s (fun t => t.mb.ack = true ∧ t.mb.ptr = nextPtr p ∧ holdsWord t p v ∧
        ∀ a, a ≠ p → a ≠ Reg.MGT_MB_COUNT → rget t a = rget s a)) ∧
  (∀ (s : State) (addr cnt : Nat) (data : List Byte), answersOwn s addr → countOk cnt = false → eventsTaken s = true →
      completes (.blockWrite addr cnt data) s (fun t => t.mb.ack = false ∧ countedMore s t (Reg.MGT_MB_COUNT + 4) 31 16 1 ∧
        eventPending t 0xB0D = true))

/-! ### Events, recorder, resets and register access (16_events_resets.md, 17_address_map.md) -/

/-- R502, R506, R509, R512, R523. An occurrence sets the pending bit of its source, counts it, is shown by EVT_LAST and is
offered to the recorder, a privileged one without regard to the squall limiter; while the event tree is in reset it waits. The
clears clear the pending bits they name, or the counts of their domain, and no other. What the model chose or inferred in it:
log entry 231. -/
def Obligations.EventsArePendingUntilCleared : Prop :=
  (∀ (s : State) (code fid ctag coord : Nat) (args : List Nat), eventsTaken s = true →
      completes (.eventOccurrence code fid args ctag coord) s (fun t => eventPending t code = true ∧
        (srcOf t.evt code).occur = satN 16 ((srcOf s.evt code).occur + 1) ∧
        (∀ k, k ≠ code → eventPending t k = eventPending s k ∧ (srcOf t.evt k).occur = (srcOf s.evt k).occur) ∧
        mget t.evt.last (code / 0x100) = some (code, fid))) ∧
  (∀ (s : State) (code fid ctag coord : Nat) (args : List Nat), eventsTaken s = true → bit (evtCfg s code) 28 = true →
      bit (evtCfg s code) 29 = true → s.evt.rcd.taking = true → s.evt.rcd.intake.length < 8 →
      completes (.eventOccurrence code fid args ctag coord) s (fun t => t.evt.rcd.intake = s.evt.rcd.intake ++
        [⟨code, fid, s.t, seconds s, s.tbs.l, ctag, coord, args.take 5, true, bit (evtCfg s code) 27, 0⟩])) ∧
  (∀ (s : State) (code fid ctag coord : Nat) (args : List Nat), eventsTaken s = true → bit (evtCfg s code) 28 = false →
      completes (.eventOccurrence code fid args ctag coord) s (fun t => t.evt.rcd = s.evt.rcd)) ∧
  (∀ (s : State) (code fid ctag coord : Nat) (args : List Nat), eventsTaken s = false →
      completes (.eventOccurrence code fid args ctag coord) s (fun t => t.evt.src = s.evt.src ∧ t.evt.rcd = s.evt.rcd ∧
        t.evt.wait.length = s.evt.wait.length + 1)) ∧
  (∀ (s : State) (d j v : Nat), completes (.evtPendClear d j v) s (fun t => ∀ k, eventPending t k =
      (eventPending s k && !(decide (k / 0x100 = d) && decide (evtIndex k / 32 = j) && bit v (evtIndex k % 32))))) ∧
  (∀ (s : State) (d : Nat), completes (.evtClearPending d) s (fun t => ∀ k, eventPending t k =
      (eventPending s k && !decide (k / 0x100 = d)))) ∧
  (∀ (s : State) (d : Nat), completes (.evtClearStats d) s (fun t => (∀ k, eventPending t k = eventPending s k ∧
        (srcOf t.evt k).occur = (if k / 0x100 = d then 0 else (srcOf s.evt k).occur)) ∧
        mget t.evt.dropSquall d = none ∧ mget t.evt.dropIntake d = none))

/-- R507-R511, R514, R515, R519. The recorder writes the front of its intake as a new record in the ring, with the next SEQ, and
a privileged one enters the repeat table and the mirror queue; a privileged one whose key stands in that table updates its
record in place instead: REPEAT and the LAST fields of granule 3, then UPD of granule 0; a read of the window latches the record
at the cursor and moves the cursor past it, and the seeks set it to the oldest or the newest. A failure of the log's memory
enters its granule in the bad-granule map, with 0xB0F. After the scan the recorder takes records again. What the model chose or
inferred in it: log entries 6, 7, 221, 231. -/
def Obligations.RecorderWritesAndIsRead : Prop :=
  (∀ (s : State) (x : Rec) (rest : List Rec), s.evt.rcd.intake = x :: rest → x.priv = false ∨ repeatOf x s.evt.rcd = none →
      completes .recordWrite s (fun t => t.evt.rcd.seq = (s.evt.rcd.seq + 1) % 2 ^ 32 ∧
        (∃ e, e ∈ t.evt.rcd.recs ∧ e.seq = s.evt.rcd.seq ∧ e.code = x.code ∧ e.fid = x.fid ∧ e.len = recLen x ∧
          ringRead t.evt.rcd e = recGranules x s.evt.rcd.seq (if x.priv = true then (srcOf s.evt x.code).rep + x.rep else 0)) ∧
        (x.priv = true → t.evt.rcd.table.head? = some s.evt.rcd.seq ∧ t.evt.rcd.table.length ≤ 64 ∧
          ((∀ e, e ∈ s.evt.rcd.recs → e.seq ≠ s.evt.rcd.seq) → s.evt.rcd.seq ∈ t.evt.rcd.queue)))) ∧
  (∀ (s : State) (x : Rec) (rest : List Rec) (y : RingRec) (g0 g3 : Nat), s.evt.rcd.intake = x :: rest → x.priv = true →
      repeatOf x s.evt.rcd = some y → g0 = (mgetD s.evt.rcd.ring y.pos 0#128).toNat →
      g3 = (mgetD s.evt.rcd.ring (y.pos + 3) 0#128).toNat →
      completes .recordWrite s (fun t => t.evt.rcd.seq = s.evt.rcd.seq ∧
        mgetD t.evt.rcd.ring y.pos 0#128 = BitVec.ofNat 128 (setBits g0 109 104 (bits g0 109 104 + 1)) ∧
        mgetD t.evt.rcd.ring (y.pos + 3) 0#128 =
          granuleRepeat (bits g3 127 104 + 1 + ((srcOf s.evt x.code).rep + x.rep)) x.t x.s x.l ∧
        (∀ g, g ≠ y.pos → g ≠ y.pos + 3 → mgetD t.evt.rcd.ring g 0#128 = mgetD s.evt.rcd.ring g 0#128) ∧
        t.evt.rcd.table.head? = some y.seq ∧ (∀ e, e ∈ t.evt.rcd.recs → e.seq = y.seq → e.mirrored = false) ∧
        t.evt.rcd.recs.map (·.seq) = s.evt.rcd.recs.map (·.seq))) ∧
  (∀ (s : State) (x : RingRec), latchPick (rnat s Reg.MGT_REC_CURSOR) s.evt.rcd.recs = some x →
      completes .recordLatch s (fun t => rnat t Reg.MGT_REC_CURSOR = (x.seq + 1) % 2 ^ 32 ∧
        t.evt.rcd.window = (ringRead s.evt.rcd x ++ [0, 0, 0]).take 4 ∧ t.evt.rcd.winNone = false ∧
        t.evt.rcd.jump = (x.seq != rnat s Reg.MGT_REC_CURSOR))) ∧
  (∀ s : State, latchPick (rnat s Reg.MGT_REC_CURSOR) s.evt.rcd.recs = none →
      completes .recordLatch s (fun t => rnat t Reg.MGT_REC_CURSOR = rnat s Reg.MGT_REC_CURSOR ∧
        t.evt.rcd.window = [0, 0, 0, 0] ∧ t.evt.rcd.winNone = true)) ∧
  (∀ s : State, completes .recSeekOldest s (fun t =>
        rnat t Reg.MGT_REC_CURSOR = (s.evt.rcd.recs.head?.map (·.seq)).getD s.evt.rcd.seq % 2 ^ 32)) ∧
  (∀ s : State, completes .recSeekNewest s (fun t =>
        rnat t Reg.MGT_REC_CURSOR = (s.evt.rcd.recs.getLast?.map (·.seq)).getD s.evt.rcd.seq % 2 ^ 32)) ∧
  (∀ (s : State) (g c : Nat), g < 16384 → eventsTaken s = true →
      completes (.logMemFail g c) s (fun t => g ∈ t.evt.rcd.bad ∧ eventPending t 0xB0F = true ∧
        t.evt.rcd.seq = (s.evt.rcd.seq + 1) % 2 ^ 32 ∧ (∀ e, e ∈ t.evt.rcd.recs → e ∈ s.evt.rcd.recs ∧ ¬(e.pos ≤ g ∧
        g < e.pos + e.len)) ∧
        t.evt.rcd.sent.head? = some ⟨false, c % 3, g⟩)) ∧
  (∀ s : State, s.evt.rcd.taking = false → inReset s 0xB0201 = false → alive s = true →
      completes .recorderScan s (fun t => t.evt.rcd.taking = true ∧ t.evt.rcd.table = [] ∧
        (∀ x, s.evt.rcd.recs.getLast? = some x → t.evt.rcd.seq = (x.seq + 1) % 2 ^ 32) ∧
        (∀ x, x ∈ s.evt.rcd.recs → x.priv = true → x.mirrored = false → x.seq ∈ t.evt.rcd.queue)))

/-- R516-R518, R524. Under its grant the mirror programs the waiting records that fit its page, first their bodies and then
their marks, and erases the next sector; a page that fails is given up with 0xB10. A page of marks counts and its records leave
the queue; a changed privileged record is queued again after 10 s, and mirroring that was suspended resumes when the credit has
grown. What the model chose or inferred in it: log entries 218, 219, 220, 304, 319. -/
def Obligations.MirrorProgramsAndErases : Prop :=
  (∀ (s : State) (r : Recorder) (fit : List (Nat × List (BitVec 128))), r = s.evt.rcd → r.mBusy = false →
      inReset s 0xB0202 = false →
      s.nrg.running.any (fun g => g.order == 1 && g.who == 0) = true → r.mProg = none →
      fit = fitRecs (pageRoom r.mGran) (mirrorWaiting s) → fit ≠ [] → (r.mGran ≠ 0 ∨ r.mErased = true) → r.mGran < 256 →
      completes .mirrorPageProgram s (fun t => t.evt = { s.evt with rcd := { r with
        mProg := some (r.mGran, fit, false), mBusy := true } })) ∧
  (∀ s : State, s.evt.rcd.mBusy = false → inReset s 0xB0202 = false →
      s.nrg.running.any (fun g => g.order == 1 && g.who == 0) = true → s.evt.rcd.mProg.isSome = true →
      completes .mirrorPageProgram s (fun t => t.evt = { s.evt with rcd := { s.evt.rcd with mBusy := true } })) ∧
  (∀ s : State, s.evt.rcd.mErased = false → s.evt.rcd.mErasing = none → inReset s 0xB0202 = false →
      s.nrg.running.any (fun g => g.order == 2 && g.who == 0) = true →
      completes .mirrorSectorErase s (fun t => t.evt = { s.evt with rcd := { s.evt.rcd with
        mErasing := some (if s.evt.rcd.mGran = 0 ∧ s.evt.rcd.mProg = none then s.evt.rcd.mSector
          else nextSector s.evt.rcd.mSkip 1024 s.evt.rcd.mSector) } })) ∧
  (∀ (s : State) (g : Nat) (recs : List (Nat × List (BitVec 128))) (marks : Bool), s.evt.rcd.mProg = some (g, recs, marks) →
      nvTurn s 3 = true → eventsTaken s = true →
      completes (.pageProgramDone 0 false) s (fun t => t.evt.rcd.mProg = none ∧ t.evt.rcd.mBusy = false ∧
        t.evt.rcd.mGran = 0 ∧ t.evt.rcd.queue = s.evt.rcd.queue ∧ eventPending t 0xB10 = true)) ∧
  (∀ (s : State) (g : Nat) (recs : List (Nat × List (BitVec 128))), s.evt.rcd.mProg = some (g, recs, false) →
      nvTurn s 3 = true →
      completes (.pageProgramDone 0 true) s (fun t =>
        t.evt.rcd.mProg = some (if g = 0 then 1 else g, recs, true) ∧ t.evt.rcd.mBusy = false ∧
        t.nrg.running = s.nrg.running.filter (fun x => !(x.order == 1 && x.who == 0)))) ∧
  (∀ (s : State) (g : Nat) (recs : List (Nat × List (BitVec 128))), s.evt.rcd.mProg = some (g, recs, true) →
      nvTurn s 3 = true →
      completes (.pageProgramDone 0 true) s (fun t => t.evt.rcd.mProg = none ∧ t.evt.rcd.mBusy = false ∧
        t.evt.rcd.mPages = s.evt.rcd.mPages + 1 ∧
        t.evt.rcd.queue = s.evt.rcd.queue.filter (fun q => !(recs.map (·.1)).contains q) ∧
        (∀ x, x ∈ t.evt.rcd.recs → x.seq ∈ recs.map (·.1) → x.mirrored = true))) ∧
  (∀ (s : State) (i : Nat), s.evt.rcd.mErasing = some i → nvTurn s 4 = true →
      completes (.pageProgramDone 1 true) s (fun t => t.evt.rcd.mErasing = none ∧ t.evt.rcd.mErased = true ∧
        t.mgt.flash = (flashErase (mirrorAddr i 0) 4096 s).mgt.flash)) ∧
  (∀ (s : State) (o : NvOp) (rest : List NvOp), s.mgt.devOps = o :: rest → nvTurn s 5 = true → 4 ≤ o.kind → o.kind ≤ 9 →
      o.kind ≠ 8 →
      completes (.pageProgramDone 2 true) s (fun t => t.mgt.devOps = rest ∧
        t.mgt.flash = (if o.kind = 5 ∨ o.kind = 7 ∨ o.kind = 9 then flashErase o.addr 4096 s else flashPut o.addr o.data s).mgt.flash)) ∧
  (∀ (s : State) (o : NvOp) (rest : List NvOp), s.mgt.devOps = o :: rest → nvTurn s 5 = true → eventsTaken s = true →
      completes (.pageProgramDone 2 false) s (fun t => t.mgt.flash = s.mgt.flash ∧ eventPending t 0xB09 = true)) ∧
  (∀ (s : State) (x : RingRec) (t0 : Nat), x ∈ s.evt.rcd.recs → x.priv = true → x.mirrored = false → x.mirT = some t0 →
      t0 + 2000000000 ≤ s.t → x.seq ∉ s.evt.rcd.queue →
      completes (.privRemirror x.seq) s (fun t => t.evt = { s.evt with rcd := { s.evt.rcd with
        queue := s.evt.rcd.queue ++ [x.seq] } })) ∧
  (∀ s : State, s.evt.rcd.suspended = true → 0x10000 ≤ creditNow s →
      completes .mirroringResumes s (fun t => t.evt = { s.evt with rcd := { s.evt.rcd with suspended := false } }))

/-- R456, R520-R522. A reset is armed and then fired for the function that was armed; without an arm it is refused with RESULT 7
and 0xB12. The function is quiesced and held in its reset, its sections are loaded again, or it is held with 0xB06 after a
second failure, and it resumes with 0xB11. A function that shows no progress, one tied to lines only outside standstill, or a
memory that cannot be corrected, starts a reset of its own. What the model chose or inferred in it: log entries 71, 84, 104,
115, 116, 117, 264, 319, 332. -/
def Obligations.FunctionsAreReset : Prop :=
  (∀ (s : State) (f : Nat), alive s = true → f < 2 ^ 20 →
      completes (.resetArm f) s (fun t => t.rst = { s.rst with armed := some (f, s.t), reqFid := f, result := 1 })) ∧
  (∀ (s : State) (f t0 : Nat), alive s = true → s.rst.armed = some (f, t0) → f < 2 ^ 20 → s.t ≤ t0 + 2000000 →
      isFunction f = true → stateRefuses s f = false → (∀ r, r ∈ s.rst.runs → r.host = false) → beingReset s f = false →
      completes (.resetFire f) s (fun t => t.rst.armed = none ∧ t.rst.result = 2 ∧
        t.rst.runs = s.rst.runs ++ [⟨f, 0, if (s.rst.runs.filter (fun r => r.phase != .queued)).length < 4 then .fired else .queued,
          s.tbs.l, s.t, true⟩] ∧
        rnat t Reg.MGT_RST_LAST = f ∧ countedMore s t Reg.MGT_RST_COUNT 31 16 1)) ∧
  (∀ (s : State) (f : Nat), alive s = true → s.rst.armed = none → eventsTaken s = true →
      completes (.resetFire f) s (fun t => t.rst.result = 7 ∧ t.rst.runs = s.rst.runs ∧ eventPending t 0xB12 = true)) ∧
  (∀ s : State, completes .resetArmExpire s (fun t => t.rst = { s.rst with armed := none })) ∧
  (∀ (s : State) (f : Nat) (r : RstRun), runOf s f = some r → r.phase = .fired → r.cause ≠ 3 →
      completes (.resetQuiesce f) s (fun t => inReset t f = true ∧
        runOf t f = some { r with phase := .quiesced, lq := s.tbs.l, tq := s.t } ∧
        (f = 0x80300 → t.pen.sig = 0 ∧ ∀ e, e < 16 → engHalted t e = true) ∧ (f = 0x80200 → t.pen.strobes = []) ∧
        (f = 0x90000 → t.nrg.samples = [] ∧ t.nrg.meterOk = false))) ∧
  (∀ (s : State) (f a n : Nat) (r : RstRun) (d : RegDef) (x : Fld), runOf s f = some r → r.phase = .fired → r.cause ≠ 3 →
      fieldFid a x.hi = f → findEvt a = none → a ≠ Reg.MGT_MB_CFG → findReg a = some (d, n) → fieldsApart d.flds → x ∈ d.flds →
      (x.acc = .rw ∨ x.acc = .rwh) →
      completes (.resetQuiesce f) s (fun t => rfld t a x.hi x.lo = bits (resetOf a).toNat x.hi x.lo)) ∧
  (∀ (s : State) (f : Nat) (r : RstRun), runOf s f = some r → r.phase = .fired → r.cause = 3 →
      completes (.resetQuiesce f) s (fun t => f ∈ t.rst.held ∧ runOf t f = none)) ∧
  (∀ (s u : State) (f errs : Nat) (r : RstRun), runOf s f = some r → r.phase = .quiesced →
      (s.mgt.toc.any (fun e => e.typ == 1 && e.target == f) = true → nvTurn s 1 = true) → errs < 2 → reloadSections f s = some u →
      completes (.sectionReloadDone f errs) s (fun t => runOf t f = some { r with phase := .reloaded } ∧
        ∀ a, a ≠ Reg.MGT_MB_CFG → rget t a = rget u a)) ∧
  (∀ (s : State) (f errs : Nat) (r : RstRun), runOf s f = some r → r.phase = .quiesced →
      (s.mgt.toc.any (fun e => e.typ == 1 && e.target == f) = true → nvTurn s 1 = true) → 2 ≤ errs → eventsTaken s = true →
      completes (.sectionReloadDone f errs) s (fun t => f ∈ t.rst.held ∧ runOf t f = none ∧ eventPending t 0xB06 = true)) ∧
  (∀ (s : State) (f : Nat) (r : RstRun), runOf s f = some r → r.phase = .reloaded → eventsTaken s = true →
      completes (.resetResume f) s (fun t => runOf t f = none ∧ f ∉ t.rst.held ∧ inReset t f = false ∧
        (r.host = true → t.rst.result = 3) ∧ eventPending t 0xB11 = true)) ∧
  (∀ (s : State) (f c : Nat), isFunction f = true → domainRuns s (f / 0x10000) = true → inReset s f = false →
      beingReset s f = false →
      rbit s Reg.MGT_RST_CFG 31 = true → watchdogCode f = some c → f ≠ 0xB0003 → f ≠ 0xB0203 → eventsTaken s = true →
      s.tbs.standstill = false ∨ lineTied f = false →
      completes (.watchdogExpire f) s (fun t => eventPending t c = true ∧ beingReset t f = true ∧
        countedMore s t Reg.MGT_RST_COUNT 15 0 1)) ∧
  (∀ (s : State) (f : Nat), s.tbs.standstill = true → lineTied f = true → completes (.watchdogExpire f) s (fun t => t = s)) ∧
  (∀ s : State, alive s = true → inReset s 0xB0203 = false → nothingHolds s →
      completes (.watchdogExpire 0xB0203) s (fun t => startsAnew t)) ∧
  (∀ (s : State) (i l : Nat), alive s = true → eventsTaken s = true → inReset s 0x60C00 = false → beingReset s 0x60C00 = false →
      completes (.memoryEccError 7 i l true) s (fun t => eventPending t 0x60D = true ∧ beingReset t 0x60C00 = true ∧
        countedMore s t Reg.MGT_RST_COUNT 15 0 1)) ∧
  (∀ (s : State) (i l : Nat), alive s = true → eventsTaken s = true →
      completes (.memoryEccError 7 i l false) s (fun t => eventPending t 0x60C = true ∧ t.rst = s.rst ∧ t.vdt = s.vdt)) ∧
  (∀ (s : State) (i l : Nat), alive s = true →
      completes (.memoryEccError 17 i l false) s (fun t => t.evt = { s.evt with rcd := { s.evt.rcd with
        corr := min 15 (s.evt.rcd.corr + 1) } }))

/-- R17, R71, R383, R500, R529, R530, R533. A read of a lead shows its value and latches its group; a read of clear-on-read
fields returns them to their reset values. A write of a register whose fields are all writable, with no refused value, gives
each its part of the word and leaves every other register; a write of an unassigned address is ignored with 0xB0D. The clears
return the counters they name to their reset values. What the model chose or inferred in it: log entries 225, 231. -/
def Obligations.RegistersAreReadWrittenAndCleared : Prop :=
  (∀ (s : State) (a b : Nat) (g : List Nat), groupOfLead a = some g → b ∈ g.tail → a ≠ Reg.MGT_REC_WIN → isLatched a = false →
      completes (.leadRegisterRead a) s (fun t => t.mb.resp = leBytes 4 (viewReg s a) ∧
        (mget t.latched b).map BitVec.toNat = some (viewReg s b))) ∧
  (∀ (s : State) (a : Nat) (f : Fld), f ∈ rcFields a → fieldsApart (rcFields a) → isLatched a = false → a ≠ Reg.MGT_REC_WIN →
      a ≠ Reg.LNK_BUF → a ≠ Reg.MGT_REC_STATUS → a ≠ Reg.PEN_FIFO_OUT → groupOfLead a = none →
      completes (.rcRegisterRead a) s (fun t => t.mb.resp = leBytes 4 (viewReg s a) ∧
        rfld t a f.hi f.lo = bits (resetOf a).toNat f.hi f.lo ∧ ∀ b, b ≠ a → rget t b = rget s b)) ∧
  (∀ s : State, completes (.rcRegisterRead Reg.LNK_BUF) s (fun t => t.mb.resp = leBytes 4 (viewReg s Reg.LNK_BUF) ∧
        t.lnk = { s.lnk with maxFill := 0 })) ∧
  (∀ s : State, completes (.rcRegisterRead Reg.MGT_REC_STATUS) s (fun t =>
        t.mb.resp = leBytes 4 (viewReg s Reg.MGT_REC_STATUS) ∧ t.evt = { s.evt with rcd := { s.evt.rcd with corr := 0 } })) ∧
  (∀ (s : State) (a v n : Nat) (d : RegDef), findEvt a = none → findReg a = some (d, n) → d.flds ≠ [] →
      (∀ f, f ∈ d.flds → f.acc = .rw ∧ fldRefused v f = false) → fieldsApart d.flds → crossRefused s a v = false →
      (a = Reg.MGT_MB_CFG → groupBad v = false) → mixedFields a = none → a ≠ Reg.PEN_PMEM_DATA → a ≠ Reg.NRG_ENV →
      a ≠ Reg.PEN_SIG → (a < Reg.LNK_DT_TEST ∨ Reg.LNK_DT_TEST + 0x300 ≤ a ∨ (a - Reg.LNK_DT_TEST) % 0x20 ≠ 0) →
      completes (.registerWrite a v) s (fun t => (∀ f, f ∈ d.flds → rfld t a f.hi f.lo = bits v f.hi f.lo) ∧
        ∀ b, b ≠ a → rget t b = rget s b)) ∧
  (∀ (s : State) (a v : Nat), findEvt a = none → findReg a = none → eventsTaken s = true →
      completes (.registerWrite a v) s (fun t => countedMore s t (Reg.MGT_MB_COUNT + 12) 15 0 1 ∧
        (∀ b, b ≠ Reg.MGT_MB_COUNT + 12 → rget t b = rget s b) ∧ eventPending t 0xB0D = true)) ∧
  (∀ (s : State) (v : Nat), bit v 0 = true →
      completes (.counterClear Reg.MGT_MB_CLEAR v) s (fun t => (∀ i, i < 4 → rget t (Reg.MGT_MB_COUNT + 4 * i) =
          resetOf (Reg.MGT_MB_COUNT + 4 * i)) ∧
        ∀ a, (∀ i, i < 4 → a ≠ Reg.MGT_MB_COUNT + 4 * i) → rget t a = rget s a)) ∧
  (∀ (s : State) (v : Nat), bit v 0 = true →
      completes (.counterClear Reg.PEN_CLEAR v) s (fun t => (∀ e, e < 16 → rget t (Reg.PEN_ENG_COUNT + 0x20 * e) =
          resetOf (Reg.PEN_ENG_COUNT + 0x20 * e)) ∧
        (∀ i, i < 4 → rget t (Reg.PEN_ST_COUNT + 4 * i) = resetOf (Reg.PEN_ST_COUNT + 4 * i)) ∧
        ∀ e, (eng t e).changed = ((eng s e).changed && !bit v 1))) ∧
  (∀ (s : State) (v : Nat), completes (.dlClear v) s (fun t =>
      (∀ n, n < 10 → bit v n = true → rget t (Reg.TBS_DL_COUNT + 4 * n) = resetOf (Reg.TBS_DL_COUNT + 4 * n) ∧
        rget t (Reg.TBS_DL_LAST + 4 * n) = resetOf (Reg.TBS_DL_LAST + 4 * n)) ∧
      ∀ a, (∀ n, n < 10 → bit v n = true → a ≠ Reg.TBS_DL_COUNT + 4 * n ∧ a ≠ Reg.TBS_DL_LAST + 4 * n) → rget t a = rget s a))
end

