-- ==== Sys2Proof/Laws/Maps.lean ====
section
/-! SUPPORT. Laws of sparse maps: what a read gives after each operation, and that each keeps the canonical form. -/

namespace Sys2Proof.Laws

variable {α : Type}

@[simp] theorem mget_nil (k : Nat) : mget ([] : Map α) k = none := rfl

theorem mget_mput_same (m : Map α) (k : Nat) (v : α) : mget (mput m k v) k = some v := by
  induction m with
  | nil => simp [mput, mget]
  | cons p t ih =>
    obtain ⟨a, w⟩ := p
    simp only [mput]
    split
    · simp [mget]
    · split
      · simp [mget]
      · rename_i h1 h2
        have h3 : ¬ a = k := fun h => h2 h.symm
        simp [mget, h3, ih]

theorem mget_mput_other (m : Map α) {k j : Nat} (v : α) (h : j ≠ k) : mget (mput m k v) j = mget m j := by
  have h' : ¬ k = j := fun e => h e.symm
  induction m with
  | nil => simp [mput, mget, h']
  | cons p t ih =>
    obtain ⟨a, w⟩ := p
    simp only [mput]
    split
    · simp [mget, h']
    · split
      · rename_i h2
        subst h2
        simp [mget, h']
      · simp [mget, ih]

theorem mget_mdel_same (m : Map α) (k : Nat) : mget (mdel m k) k = none := by
  induction m with
  | nil => rfl
  | cons p t ih =>
    obtain ⟨a, w⟩ := p
    unfold mdel at ih ⊢
    by_cases h : a = k
    · simp [h, ih]
    · simp [h, mget, ih]

theorem mget_mdel_other (m : Map α) {k j : Nat} (h : j ≠ k) : mget (mdel m k) j = mget m j := by
  induction m with
  | nil => rfl
  | cons p t ih =>
    obtain ⟨a, w⟩ := p
    unfold mdel at ih ⊢
    by_cases hk : a = k
    · have hj : ¬ a = j := fun e => h (e.symm.trans hk)
      simp [hk, ih, mget]
      intro e
      exact absurd e.symm h
    · simp [hk, mget, ih]

theorem mgetD_mputD_same [DecidableEq α] (d : α) (m : Map α) (k : Nat) (v : α) : mgetD (mputD d m k v) k d = v := by
  unfold mputD
  split
  · rename_i h
    simp [mgetD, mget_mdel_same, h]
  · simp [mgetD, mget_mput_same]

theorem mget_mputD_other [DecidableEq α] (d : α) (m : Map α) {k j : Nat} (v : α) (h : j ≠ k) :
    mget (mputD d m k v) j = mget m j := by
  unfold mputD
  split
  · exact mget_mdel_other m h
  · exact mget_mput_other m v h

theorem mgetD_mputD_other [DecidableEq α] (d e : α) (m : Map α) {k j : Nat} (v : α) (h : j ≠ k) :
    mgetD (mputD d m k v) j e = mgetD m j e := by
  unfold mgetD
  rw [mget_mputD_other d m v h]

/-! ### Rising keys -/

/-- Rising keys, as a property of the list of pairs. -/
theorem mrising_iff (m : Map α) : mrising m = true ↔ m.Pairwise (fun p q => p.1 < q.1) := by
  induction m with
  | nil => simp [mrising]
  | cons p t ih =>
    cases t with
    | nil => simp [mrising]
    | cons q t =>
      obtain ⟨a, v⟩ := p
      obtain ⟨b, w⟩ := q
      rw [List.pairwise_cons, ← ih]
      simp only [mrising, Bool.and_eq_true, decide_eq_true_eq]
      constructor
      · rintro ⟨h1, h2⟩
        refine ⟨?_, h2⟩
        intro x hx
        rcases List.mem_cons.mp hx with rfl | hx
        · exact h1
        · have := (List.pairwise_cons.mp (ih.mp h2)).1 x hx
          exact Nat.lt_trans h1 this
      · rintro ⟨h1, h2⟩
        exact ⟨h1 (b, w) (by simp), h2⟩

theorem mput_mem (m : Map α) (k : Nat) (v : α) {p : Nat × α} (h : p ∈ mput m k v) : p = (k, v) ∨ p ∈ m := by
  induction m with
  | nil => simpa [mput] using h
  | cons q t ih =>
    obtain ⟨a, w⟩ := q
    simp only [mput] at h
    split at h
    · rcases List.mem_cons.mp h with h | h
      · exact .inl h
      · exact .inr h
    · split at h
      · rcases List.mem_cons.mp h with h | h
        · exact .inl h
        · exact .inr (List.mem_cons_of_mem _ h)
      · rcases List.mem_cons.mp h with h | h
        · exact .inr (by simp [h])
        · rcases ih h with h | h
          · exact .inl h
          · exact .inr (List.mem_cons_of_mem _ h)

theorem mrising_mput (m : Map α) (k : Nat) (v : α) (h : mrising m = true) : mrising (mput m k v) = true := by
  rw [mrising_iff] at h ⊢
  induction m with
  | nil => simp [mput]
  | cons q t ih =>
    obtain ⟨a, w⟩ := q
    have ht := List.pairwise_cons.mp h
    simp only [mput]
    split
    · rename_i hk
      refine List.pairwise_cons.mpr ⟨?_, h⟩
      intro x hx
      rcases List.mem_cons.mp hx with rfl | hx
      · exact hk
      · exact Nat.lt_trans hk (ht.1 x hx)
    · split
      · rename_i hk
        subst hk
        exact List.pairwise_cons.mpr ⟨ht.1, ht.2⟩
      · rename_i h1 h2
        refine List.pairwise_cons.mpr ⟨?_, ih ht.2⟩
        intro x hx
        rcases mput_mem t k v hx with rfl | hx
        · show a < k
          omega
        · exact ht.1 x hx

theorem mrising_filter (m : Map α) (f : Nat × α → Bool) (h : mrising m = true) : mrising (m.filter f) = true := by
  rw [mrising_iff] at h ⊢
  exact h.filter f

theorem mrising_mdel (m : Map α) (k : Nat) (h : mrising m = true) : mrising (mdel m k) = true := mrising_filter m _ h

/-! ### Canonical form -/

theorem wf_nil [DecidableEq α] (d : α) : Memory.wf d ([] : Map α) = true := rfl

theorem wf_iff [DecidableEq α] (d : α) (m : Map α) : Memory.wf d m = true ↔ mrising m = true ∧ ∀ p ∈ m, p.2 ≠ d := by
  simp [Memory.wf, List.all_eq_true]

theorem wf_filter [DecidableEq α] (d : α) (m : Map α) (f : Nat × α → Bool) (h : Memory.wf d m = true) :
    Memory.wf d (m.filter f) = true := by
  rw [wf_iff] at h ⊢
  exact ⟨mrising_filter m f h.1, fun p hp => h.2 p (List.mem_of_mem_filter hp)⟩

theorem wf_mdel [DecidableEq α] (d : α) (m : Map α) (k : Nat) (h : Memory.wf d m = true) : Memory.wf d (mdel m k) = true :=
  wf_filter d m _ h

theorem wf_mputD [DecidableEq α] (d : α) (m : Map α) (k : Nat) (v : α) (h : Memory.wf d m = true) :
    Memory.wf d (mputD d m k v) = true := by
  unfold mputD
  split
  · exact wf_mdel d m k h
  · rename_i hv
    rw [wf_iff] at h ⊢
    refine ⟨mrising_mput m k v h.1, ?_⟩
    intro p hp
    rcases mput_mem m k v hp with rfl | hp
    · exact hv
    · exact h.2 p hp

theorem wf_mputs [DecidableEq α] (d : α) (vs : List α) (m : Map α) (k : Nat) (h : Memory.wf d m = true) :
    Memory.wf d (mputs d m k vs) = true := by
  induction vs generalizing m k with
  | nil => exact h
  | cons v vs ih => exact ih _ _ (wf_mputD d m k v h)

end Sys2Proof.Laws
end

