-- ==== Sys2Proof/Laws/Frame.lean ====
section
/-! SUPPORT. What an operation can do to a state at large: which parts it may change, and that it keeps the form. -/

namespace Sys2Proof.Laws

open Sys2Proof.Machine

/-- From `s` to `u` only the parts whose bit is set in `k` may have changed, and a good form is kept. Bits in the order of the fields
of `State`. -/
structure Within (k : Nat) (s u : State) : Prop where
  regs : k.testBit 0 = false → u.regs = s.regs
  latched : k.testBit 1 = false → u.latched = s.latched
  t : k.testBit 2 = false → u.t = s.t
  tbs : k.testBit 3 = false → u.tbs = s.tbs
  grp : k.testBit 4 = false → u.grp = s.grp
  evt : k.testBit 5 = false → u.evt = s.evt
  rst : k.testBit 6 = false → u.rst = s.rst
  mgt : k.testBit 7 = false → u.mgt = s.mgt
  mb : k.testBit 8 = false → u.mb = s.mb
  xw : k.testBit 9 = false → u.xw = s.xw
  ary : k.testBit 10 = false → u.ary = s.ary
  col : k.testBit 11 = false → u.col = s.col
  pip : k.testBit 12 = false → u.pip = s.pip
  vdt : k.testBit 13 = false → u.vdt = s.vdt
  xwIn : k.testBit 14 = false → u.xwIn = s.xwIn
  aux : k.testBit 15 = false → u.aux = s.aux
  lnk : k.testBit 16 = false → u.lnk = s.lnk
  pen : k.testBit 17 = false → u.pen = s.pen
  nrg : k.testBit 18 = false → u.nrg = s.nrg
  thm : k.testBit 19 = false → u.thm = s.thm
  free : k.testBit 20 = false → u.free = s.free
  pending : k.testBit 21 = false → u.pending = s.pending
  form : s.formed → u.formed

variable {k : Nat} {s u v : State}

theorem Within.refl (k : Nat) (s : State) : Within k s s := by constructor <;> intro h <;> first | rfl | exact h

theorem sub_bit {j k : Nat} (h : j &&& k = j) (i : Nat) (hi : k.testBit i = false) : j.testBit i = false := by
  rw [← h, Nat.testBit_and, hi, Bool.and_false]

theorem Within.weaken {j k : Nat} (h : j &&& k = j) (w : Within j s u) : Within k s u where
  regs := fun hi => w.regs (sub_bit h _ hi)
  latched := fun hi => w.latched (sub_bit h _ hi)
  t := fun hi => w.t (sub_bit h _ hi)
  tbs := fun hi => w.tbs (sub_bit h _ hi)
  grp := fun hi => w.grp (sub_bit h _ hi)
  evt := fun hi => w.evt (sub_bit h _ hi)
  rst := fun hi => w.rst (sub_bit h _ hi)
  mgt := fun hi => w.mgt (sub_bit h _ hi)
  mb := fun hi => w.mb (sub_bit h _ hi)
  xw := fun hi => w.xw (sub_bit h _ hi)
  ary := fun hi => w.ary (sub_bit h _ hi)
  col := fun hi => w.col (sub_bit h _ hi)
  pip := fun hi => w.pip (sub_bit h _ hi)
  vdt := fun hi => w.vdt (sub_bit h _ hi)
  xwIn := fun hi => w.xwIn (sub_bit h _ hi)
  aux := fun hi => w.aux (sub_bit h _ hi)
  lnk := fun hi => w.lnk (sub_bit h _ hi)
  pen := fun hi => w.pen (sub_bit h _ hi)
  nrg := fun hi => w.nrg (sub_bit h _ hi)
  thm := fun hi => w.thm (sub_bit h _ hi)
  free := fun hi => w.free (sub_bit h _ hi)
  pending := fun hi => w.pending (sub_bit h _ hi)
  form := w.form

theorem Within.trans (w : Within k s u) (x : Within k u v) : Within k s v where
  regs := fun hi => (x.regs hi).trans (w.regs hi)
  latched := fun hi => (x.latched hi).trans (w.latched hi)
  t := fun hi => (x.t hi).trans (w.t hi)
  tbs := fun hi => (x.tbs hi).trans (w.tbs hi)
  grp := fun hi => (x.grp hi).trans (w.grp hi)
  evt := fun hi => (x.evt hi).trans (w.evt hi)
  rst := fun hi => (x.rst hi).trans (w.rst hi)
  mgt := fun hi => (x.mgt hi).trans (w.mgt hi)
  mb := fun hi => (x.mb hi).trans (w.mb hi)
  xw := fun hi => (x.xw hi).trans (w.xw hi)
  ary := fun hi => (x.ary hi).trans (w.ary hi)
  col := fun hi => (x.col hi).trans (w.col hi)
  pip := fun hi => (x.pip hi).trans (w.pip hi)
  vdt := fun hi => (x.vdt hi).trans (w.vdt hi)
  xwIn := fun hi => (x.xwIn hi).trans (w.xwIn hi)
  aux := fun hi => (x.aux hi).trans (w.aux hi)
  lnk := fun hi => (x.lnk hi).trans (w.lnk hi)
  pen := fun hi => (x.pen hi).trans (w.pen hi)
  nrg := fun hi => (x.nrg hi).trans (w.nrg hi)
  thm := fun hi => (x.thm hi).trans (w.thm hi)
  free := fun hi => (x.free hi).trans (w.free hi)
  pending := fun hi => (x.pending hi).trans (w.pending hi)
  form := fun h => x.form (w.form h)

theorem Within.next {j : Nat} (hj : j &&& k = j) (x : Within j u v) (w : Within k s u) : Within k s v := w.trans (x.weaken hj)

theorem within_ite {c : Prop} [Decidable c] {a b : State} (ha : Within k s a) (hb : Within k s b) :
    Within k s (if c then a else b) := by split <;> assumption

theorem within_foldl {α : Type} {f : State → α → State} {l : List α} (hf : ∀ x a, Within k s x → Within k s (f x a)) (h : Within k s u) :
    Within k s (l.foldl f u) := by
  induction l generalizing u with
  | nil => exact h
  | cons a l ih => exact ih (hf u a h)

theorem within_foldr {α : Type} {f : α → State → State} {l : List α} (hf : ∀ a x, Within k s x → Within k s (f a x)) (h : Within k s u) :
    Within k s (l.foldr f u) := by
  induction l with
  | nil => exact h
  | cons a l ih => exact hf a _ ih

/-- A state made from the parts of `u` and new parts. -/
theorem within_mk
    {x0 : (Map Word)} {x1 : (Map Word)} {x2 : Nat} {x3 : Tbs} {x4 : Grp} {x5 : Evt} {x6 : Rst} {x7 : Mgt} {x8 : Mb} {x9 :
    (Map XwLane)} {x10 : Ary} {x11 : Col} {x12 : Pip} {x13 : Vdt} {x14 : (List (Nat × XwMsg))} {x15 : Aux} {x16 : Lnk}
    {x17 : Pen} {x18 : Nrg} {x19 : Thm} {x20 : Nat} {x21 : (List Instr)}
    (hp : x21 = u.pending) (w : Within k s u)
    (h0 : k.testBit 0 = true ∨ x0 = u.regs := by first | exact .inl rfl | exact .inr rfl)
    (h1 : k.testBit 1 = true ∨ x1 = u.latched := by first | exact .inl rfl | exact .inr rfl)
    (h2 : k.testBit 2 = true ∨ x2 = u.t := by first | exact .inl rfl | exact .inr rfl)
    (h3 : k.testBit 3 = true ∨ x3 = u.tbs := by first | exact .inl rfl | exact .inr rfl)
    (h4 : k.testBit 4 = true ∨ x4 = u.grp := by first | exact .inl rfl | exact .inr rfl)
    (h5 : k.testBit 5 = true ∨ x5 = u.evt := by first | exact .inl rfl | exact .inr rfl)
    (h6 : k.testBit 6 = true ∨ x6 = u.rst := by first | exact .inl rfl | exact .inr rfl)
    (h7 : k.testBit 7 = true ∨ x7 = u.mgt := by first | exact .inl rfl | exact .inr rfl)
    (h8 : k.testBit 8 = true ∨ x8 = u.mb := by first | exact .inl rfl | exact .inr rfl)
    (h9 : k.testBit 9 = true ∨ x9 = u.xw := by first | exact .inl rfl | exact .inr rfl)
    (h10 : k.testBit 10 = true ∨ x10 = u.ary := by first | exact .inl rfl | exact .inr rfl)
    (h11 : k.testBit 11 = true ∨ x11 = u.col := by first | exact .inl rfl | exact .inr rfl)
    (h12 : k.testBit 12 = true ∨ x12 = u.pip := by first | exact .inl rfl | exact .inr rfl)
    (h13 : k.testBit 13 = true ∨ x13 = u.vdt := by first | exact .inl rfl | exact .inr rfl)
    (h14 : k.testBit 14 = true ∨ x14 = u.xwIn := by first | exact .inl rfl | exact .inr rfl)
    (h15 : k.testBit 15 = true ∨ x15 = u.aux := by first | exact .inl rfl | exact .inr rfl)
    (h16 : k.testBit 16 = true ∨ x16 = u.lnk := by first | exact .inl rfl | exact .inr rfl)
    (h17 : k.testBit 17 = true ∨ x17 = u.pen := by first | exact .inl rfl | exact .inr rfl)
    (h18 : k.testBit 18 = true ∨ x18 = u.nrg := by first | exact .inl rfl | exact .inr rfl)
    (h19 : k.testBit 19 = true ∨ x19 = u.thm := by first | exact .inl rfl | exact .inr rfl)
    (h20 : k.testBit 20 = true ∨ x20 = u.free := by first | exact .inl rfl | exact .inr rfl)
    (hf : u.formed → State.formed (State.mk x0 x1 x2 x3 x4 x5 x6 x7 x8 x9 x10 x11 x12 x13 x14 x15 x16 x17 x18 x19 x20 x21)) :
    Within k s (State.mk x0 x1 x2 x3 x4 x5 x6 x7 x8 x9 x10 x11 x12 x13 x14 x15 x16 x17 x18 x19 x20 x21) where
  regs := fun hi => h0.elim (fun h => by rw [hi] at h; cases h) (fun h => h.trans (w.regs hi))
  latched := fun hi => h1.elim (fun h => by rw [hi] at h; cases h) (fun h => h.trans (w.latched hi))
  t := fun hi => h2.elim (fun h => by rw [hi] at h; cases h) (fun h => h.trans (w.t hi))
  tbs := fun hi => h3.elim (fun h => by rw [hi] at h; cases h) (fun h => h.trans (w.tbs hi))
  grp := fun hi => h4.elim (fun h => by rw [hi] at h; cases h) (fun h => h.trans (w.grp hi))
  evt := fun hi => h5.elim (fun h => by rw [hi] at h; cases h) (fun h => h.trans (w.evt hi))
  rst := fun hi => h6.elim (fun h => by rw [hi] at h; cases h) (fun h => h.trans (w.rst hi))
  mgt := fun hi => h7.elim (fun h => by rw [hi] at h; cases h) (fun h => h.trans (w.mgt hi))
  mb := fun hi => h8.elim (fun h => by rw [hi] at h; cases h) (fun h => h.trans (w.mb hi))
  xw := fun hi => h9.elim (fun h => by rw [hi] at h; cases h) (fun h => h.trans (w.xw hi))
  ary := fun hi => h10.elim (fun h => by rw [hi] at h; cases h) (fun h => h.trans (w.ary hi))
  col := fun hi => h11.elim (fun h => by rw [hi] at h; cases h) (fun h => h.trans (w.col hi))
  pip := fun hi => h12.elim (fun h => by rw [hi] at h; cases h) (fun h => h.trans (w.pip hi))
  vdt := fun hi => h13.elim (fun h => by rw [hi] at h; cases h) (fun h => h.trans (w.vdt hi))
  xwIn := fun hi => h14.elim (fun h => by rw [hi] at h; cases h) (fun h => h.trans (w.xwIn hi))
  aux := fun hi => h15.elim (fun h => by rw [hi] at h; cases h) (fun h => h.trans (w.aux hi))
  lnk := fun hi => h16.elim (fun h => by rw [hi] at h; cases h) (fun h => h.trans (w.lnk hi))
  pen := fun hi => h17.elim (fun h => by rw [hi] at h; cases h) (fun h => h.trans (w.pen hi))
  nrg := fun hi => h18.elim (fun h => by rw [hi] at h; cases h) (fun h => h.trans (w.nrg hi))
  thm := fun hi => h19.elim (fun h => by rw [hi] at h; cases h) (fun h => h.trans (w.thm hi))
  free := fun hi => h20.elim (fun h => by rw [hi] at h; cases h) (fun h => h.trans (w.free hi))
  pending := fun hi => hp.trans (w.pending hi)
  form := fun h => hf (w.form h)

end Sys2Proof.Laws
end

