-- ==== Sys2Proof/Laws/FrameHand.lean ====
section
/-! SUPPORT. Frames of the basic operations. -/

namespace Sys2Proof.Laws

open Sys2Proof.Machine

variable {k : Nat} {s u v : State}

theorem Within.after {j : Nat} (x : Within j u v) (hj : j &&& k = j) (w : Within k s u) : Within k s v := Within.next hj x w

/-- A fold of answers of which `p` is the state. -/
theorem within_foldlP {α β : Type} {p : β → State} {f : β → α → β} {l : List α} {z : β}
    (hf : ∀ x a, Within k s (p x) → Within k s (p (f x a))) (h : Within k s (p z)) : Within k s (p (l.foldl f z)) := by
  induction l generalizing z with
  | nil => exact h
  | cons a l ih => exact ih (hf z a h)

theorem within_foldl2 {α β : Type} {f : β × State → α → β × State} {l : List α} {z : β × State}
    (hf : ∀ x a, Within k s x.2 → Within k s (f x a).2) (h : Within k s z.2) :
    Within k s (l.foldl f z).2 := by
  induction l generalizing z with
  | nil => exact h
  | cons a l ih => exact ih (hf z a h)

theorem within_foldl22 {α β γ : Type} {f : β × γ × State → α → β × γ × State} {l : List α} {z : β × γ × State}
    (hf : ∀ x a, Within k s x.2.2 → Within k s (f x a).2.2) (h : Within k s z.2.2) :
    Within k s (l.foldl f z).2.2 := by
  induction l generalizing z with
  | nil => exact h
  | cons a l ih => exact ih (hf z a h)

theorem within_foldlW {α : Type} {f : LineWork → α → LineWork} {l : List α} {z : LineWork}
    (hf : ∀ x a, Within k s x.s → Within k s (f x a).s) (h : Within k s z.s) :
    Within k s (l.foldl f z).s := by
  induction l generalizing z with
  | nil => exact h
  | cons a l ih => exact ih (hf z a h)

theorem within_foldl22W {α β γ : Type} {f : β × γ × LineWork → α → β × γ × LineWork} {l : List α} {z : β × γ × LineWork}
    (hf : ∀ x a, Within k s x.2.2.s → Within k s (f x a).2.2.s) (h : Within k s z.2.2.s) :
    Within k s (l.foldl f z).2.2.s := by
  induction l generalizing z with
  | nil => exact h
  | cons a l ih => exact ih (hf z a h)

/-- Every state that an optional answer holds under `p` is within `k` of `s`. -/
structure WithinO {β : Type} (k : Nat) (s : State) (p : β → State) (o : Option β) : Prop where
  get : ∀ r, o = some r → Within k s (p r)

theorem withinO_none {β : Type} {p : β → State} : WithinO k s p none := ⟨fun _ h => by cases h⟩

theorem withinO_some {β : Type} {p : β → State} {b : β} (h : Within k s (p b)) : WithinO k s p (some b) := ⟨fun _ e => by cases e; exact h⟩

theorem withinO_after {β : Type} {j : Nat} {p : β → State} {o : Option β} (x : WithinO j u p o) (hj : j &&& k = j) (w : Within k s u) :
    WithinO k s p o := ⟨fun r e => Within.after (x.get r e) hj w⟩

theorem withinO_get {β : Type} {p : β → State} {o : Option β} {r : β} (h : o = some r) (w : WithinO k s p o) : Within k s (p r) := w.get r h

theorem withinO_foldl {α : Type} {f : α → State → Option State} {l : List α} {o : Option State}
    (hf : ∀ a x, Within k s x → WithinO k s (fun r => r) (f a x)) (h : WithinO k s (fun r => r) o) :
    WithinO k s (fun r => r) (l.foldl (fun o e => o.bind (f e)) o) := by
  induction l generalizing o with
  | nil => exact h
  | cons a l ih =>
    refine ih ⟨fun r e => ?_⟩
    obtain ⟨x, hx, e⟩ := Option.bind_eq_some_iff.mp e
    exact (hf a x (h.get x hx)).get r e

theorem withinO_getD {o : Option State} {d : State} (w : WithinO k s (fun r => r) o) (h : Within k s d) : Within k s (o.getD d) := by
  cases o with
  | none => exact h
  | some r => exact w.get r rfl

/-- A goal about a value, from the goal about every value with a property of it. -/
theorem gen_of {α : Type} {P b : α → Prop} {v : α} (h : P v) (hb : ∀ x, P x → b x) : b v := hb v h

theorem gen_any {α : Type} {b : α → Prop} {v : α} (hb : ∀ x, b x) : b v := hb v

theorem within_of_eq {β : Type} {p : β → State} {x r : β} (h : x = r) (w : Within k s (p x)) : Within k s (p r) := h ▸ w

/-- The state of a pair; stated so that the kernel need not unfold the pair's state. -/
theorem within_pair {β : Type} {b : β} (h : Within k s u) : Within k s (b, u).2 := h

/-! ### Forms of maps -/

section
variable {α : Type} [DecidableEq α] {d : Nat → α} {m : Map α}

theorem mapForm_iff : mapForm d m = true ↔ mrising m = true ∧ ∀ p ∈ m, p.2 ≠ d p.1 := by
  simp [mapForm, List.all_eq_true]

theorem mapForm_nil (d : Nat → α) : mapForm d ([] : Map α) = true := rfl

theorem mapForm_filter (f : Nat × α → Bool) (h : mapForm d m = true) : mapForm d (m.filter f) = true := by
  rw [mapForm_iff] at h ⊢
  exact ⟨mrising_filter m f h.1, fun p hp => h.2 p (List.mem_of_mem_filter hp)⟩

theorem mapForm_mputD (a : Nat) (v : α) (h : mapForm d m = true) : mapForm d (mputD (d a) m a v) = true := by
  unfold mputD
  split
  · exact mapForm_filter _ h
  · rename_i hv
    rw [mapForm_iff] at h ⊢
    refine ⟨mrising_mput m a v h.1, fun p hp => ?_⟩
    rcases mput_mem m a v hp with rfl | hp
    · exact hv
    · exact h.2 p hp

theorem mapForm_foldl_mdel (l : List Nat) (h : mapForm d m = true) : mapForm d (l.foldl mdel m) = true := by
  induction l generalizing m with
  | nil => exact h
  | cons a l ih => exact ih (mapForm_filter _ h)

theorem mapForm_mputs (d : α) (vs : List α) (m : Map α) (a : Nat) (h : mapForm (fun _ => d) m = true) :
    mapForm (fun _ => d) (mputs d m a vs) = true := by
  induction vs generalizing m a with
  | nil => exact h
  | cons v vs ih => exact ih _ _ (mapForm_mputD (d := fun _ => d) a v h)

end

/-! ### The intake of the recorder -/

/-- A good form is kept where what it reads is left. -/
theorem form_eq {s t : State} (h1 : t.regs = s.regs := by dsimp only) (h2 : t.mgt.flash = s.mgt.flash := by dsimp only)
    (h3 : t.pip.pmem = s.pip.pmem := by dsimp only) (h4 : t.aux.tmem = s.aux.tmem := by dsimp only)
    (h5 : t.pen.pmem = s.pen.pmem := by dsimp only) (h6 : t.evt.rcd.intake = s.evt.rcd.intake := by dsimp only) : s.formed → t.formed := by
  unfold State.formed State.formView
  rw [h1, h2, h3, h4, h5, h6]
  exact id

theorem form_intake {s t : State} (h1 : t.regs = s.regs := by dsimp only) (h2 : t.mgt.flash = s.mgt.flash := by dsimp only)
    (h3 : t.pip.pmem = s.pip.pmem := by dsimp only) (h4 : t.aux.tmem = s.aux.tmem := by dsimp only)
    (h5 : t.pen.pmem = s.pen.pmem := by dsimp only) (hi : s.evt.rcd.intake.length ≤ 8 → t.evt.rcd.intake.length ≤ 8) :
    s.formed → t.formed := by
  unfold State.formed State.formView
  rw [h1, h2, h3, h4, h5]
  rintro ⟨g1, g2, g3, g4, g5, g6⟩
  exact ⟨g1, g2, g3, g4, g5, hi g6⟩

theorem dropNewest_length {l : List Rec} {d : Rec} {r : List Rec} (h : dropNewest l = some (d, r)) : r.length + 1 ≤ l.length := by
  unfold dropNewest at h
  split at h
  · cases h
  · rename_i x hx
    simp only [Option.some.injEq, Prod.mk.injEq] at h
    obtain ⟨-, rfl⟩ := h
    have hne : l ≠ [] := by
      rintro rfl
      simp at hx
    have hl : 0 < l.length := List.length_pos_iff.mpr hne
    rw [List.length_eraseIdx]
    split <;> omega

theorem dropAtIntake_intake (code t : Nat) (e : Evt) : (dropAtIntake code t e).rcd.intake = e.rcd.intake := rfl

theorem intake_offerIntake (r : Rec) (e : Evt) : e.rcd.intake.length ≤ 8 → (offerIntake r e).rcd.intake.length ≤ 8 := by
  intro h
  unfold offerIntake
  dsimp only
  split
  · split
    · exact h
    · split <;> exact h
  · split
    · simp; omega
    · split
      · split
        · rename_i hd
          have := dropNewest_length hd
          simp
          omega
        · exact h
      · exact h

theorem intake_squall (c : Nat) (r : Rec) (e : Evt) : e.rcd.intake.length ≤ 8 → (squall c r e).rcd.intake.length ≤ 8 := by
  intro h
  unfold squall
  extract_lets x d
  clear_value x d
  generalize tokenUnit = q
  split
  · exact intake_offerIntake _ _ h
  · exact h

theorem intake_evtAfter (s : State) (o : Rec) : s.evt.rcd.intake.length ≤ 8 → (evtAfter s o).rcd.intake.length ≤ 8 := by
  intro h
  unfold evtAfter
  dsimp only
  split
  · split
    · exact intake_offerIntake _ _ h
    · exact intake_squall _ _ _ h
  · exact h

theorem bucketKept_rcd (o w t c : Nat) (e : Evt) : (bucketKept o w t c e).rcd = e.rcd := by
  unfold bucketKept
  split <;> rfl

theorem bucketsKept_rcd (old s : State) : (bucketsKept old s).rcd = s.evt.rcd := by
  unfold bucketsKept
  extract_lets as
  generalize as.filterMap cfgSource = cs
  clear_value as
  generalize s.evt = e
  induction cs generalizing e with
  | nil => rfl
  | cons c cs ih => rw [List.foldl_cons, ih, bucketKept_rcd]

theorem intake_refillIntake (n : Nat) (e : Evt) : e.rcd.intake.length ≤ 8 → (refillIntake n e).rcd.intake.length ≤ 8 := by
  induction n generalizing e with
  | zero => exact id
  | succ n ih =>
    intro h
    unfold refillIntake
    split
    · rename_i hc
      simp only [Bool.and_eq_true, decide_eq_true_eq] at hc
      split
      · exact h
      · apply ih
        simp
        omega
    · exact h

/-! ### Operations that the form is about -/

theorem within_rset (s : State) (a v : Nat) : Within 1 s (rset s a v) := by
  constructor <;> intro h <;> first | (exact absurd h (by decide)) | rfl | skip
  obtain ⟨h1, h2⟩ := h
  exact ⟨mapForm_mputD (d := resetOf) a _ h1, h2⟩

theorem within_rclear (s : State) (l : List Nat) : Within 1 s (rclear s l) := by
  constructor <;> intro h <;> first | (exact absurd h (by decide)) | rfl | skip
  obtain ⟨h1, h2⟩ := h
  exact ⟨mapForm_foldl_mdel _ h1, h2⟩

theorem within_clearConfig (s : State) : Within 167937 s (clearConfig s) := by
  constructor <;> intro h <;> first | (exact absurd h (by decide)) | rfl | skip
  obtain ⟨h1, h2, -, -, -, h6⟩ := h
  exact ⟨mapForm_filter _ h1, h2, rfl, rfl, rfl, h6⟩

theorem within_pipMod {f : Pip → Pip} {s : State} (hf : mapForm pmDefault s.pip.pmem = true → mapForm pmDefault (f s.pip).pmem = true) :
    Within 4096 s (pipMod f s) := by
  constructor <;> intro h <;> first | (exact absurd h (by decide)) | rfl | skip
  obtain ⟨h1, h2, h3, h4⟩ := h
  exact ⟨h1, h2, hf h3, h4⟩

theorem within_mgtMod {f : Mgt → Mgt} {s : State}
    (hf : mapForm (fun _ => 0xFF#8) s.mgt.flash = true → mapForm (fun _ => 0xFF#8) (f s.mgt).flash = true) :
    Within 128 s (mgtMod f s) := by
  constructor <;> intro h <;> first | (exact absurd h (by decide)) | rfl | skip
  obtain ⟨h1, h2, h3⟩ := h
  exact ⟨h1, hf h2, h3⟩

theorem within_penMod {f : Pen → Pen} {s : State}
    (hf : mapForm (fun _ => 0#32) s.pen.pmem = true → mapForm (fun _ => 0#32) (f s.pen).pmem = true) :
    Within 131072 s (penMod f s) := by
  constructor <;> intro h <;> first | (exact absurd h (by decide)) | rfl | skip
  obtain ⟨h1, h2, h3, h4, h5, h6⟩ := h
  exact ⟨h1, h2, h3, h4, hf h5, h6⟩

theorem within_rcdMod {f : Recorder → Recorder} {s : State} (hf : s.evt.rcd.intake.length ≤ 8 → (f s.evt.rcd).intake.length ≤ 8) :
    Within 32 s (rcdMod f s) := by
  constructor <;> intro h <;> first | (exact absurd h (by decide)) | rfl | skip
  obtain ⟨h1, h2, h3, h4, h5, h6⟩ := h
  exact ⟨h1, h2, h3, h4, h5, hf h6⟩

theorem within_pmClear (a n : Nat) (s : State) : Within 4096 s (pmClear a n s) := within_pipMod (mapForm_filter _)

theorem mapForm_pmPut {m : Map Byte} (a : Nat) (v : Byte) (h : mapForm pmDefault m = true) : mapForm pmDefault (pmPut m a v) = true :=
  mapForm_mputD (d := pmDefault) a v h

theorem within_pmSet16 (a v : Nat) (s : State) : Within 4096 s (pmSet16 a v s) :=
  within_pipMod (fun h => mapForm_pmPut _ _ (mapForm_pmPut _ _ h))

theorem mapForm_pmPuts (a : Nat) (f : Byte × Nat → Byte) (l : List (Byte × Nat)) (m : Map Byte) (h : mapForm pmDefault m = true) :
    mapForm pmDefault (l.foldl (fun m b => pmPut m (a + b.2) (f b)) m) = true := by
  induction l generalizing m with
  | nil => exact h
  | cons b l ih => exact ih _ (mapForm_pmPut _ _ h)

theorem within_pmWrite (a : Nat) (bs : List Byte) (s : State) : Within 4096 s (pmWrite a bs s) :=
  within_pipMod (mapForm_pmPuts a _ _ _)

theorem within_tmemWrite (a : Nat) (bs : List Byte) (s : State) : Within 32768 s (tmemWrite a bs s) := by
  constructor <;> intro h <;> first | (exact absurd h (by decide)) | rfl | skip
  obtain ⟨h1, h2, h3, h4, h5⟩ := h
  exact ⟨h1, h2, h3, mapForm_mputs _ _ _ _ h4, h5⟩

theorem within_heldInReset (s : State) : Within 1048575 s (heldInReset s) := by
  constructor <;> intro h <;> first | (exact absurd h (by decide)) | rfl | skip
  obtain ⟨h1, h2, -, -, -, -⟩ := h
  exact ⟨mapForm_filter _ h1, h2, rfl, rfl, rfl, Nat.zero_le _⟩

theorem within_powerGood (s : State) : Within 1048575 s (powerGood s) := by
  constructor <;> intro h <;> first | (exact absurd h (by decide)) | rfl | skip
  obtain ⟨-, h2, -, -, -, -⟩ := h
  exact ⟨rfl, h2, rfl, rfl, rfl, Nat.zero_le _⟩

theorem within_takeFree {α : Type} (f : Nat → α) (s : State) : Within 1048576 s (takeFree f s).2 := by
  constructor <;> intro h <;> first | (exact absurd h (by decide)) | rfl | exact h

theorem within_takeIn (f : Nat → XwMsg → Bool) (s : State) : WithinO 16384 s Prod.snd (takeIn f s) := by
  refine ⟨fun r h => ?_⟩
  unfold takeIn at h
  split at h
  · cases h
    constructor <;> intro h <;> first | (exact absurd h (by decide)) | rfl | exact h
  · cases h

/-! ### Operations with an operation for an operand -/

theorem within_runStep {e op : Nat} {f : Nat → Engine → State → State} (hf : ∀ w g x, Within k s x → Within k s (f w g x))
    (h : Within k s u) : Within k s (runStep e op f u) := by
  unfold runStep
  split
  · exact hf _ _ _ h
  · exact h

end Sys2Proof.Laws
end

