-- ==== Sys2Proof/Laws/FrameOps1.lean ====
section
/-! SUPPORT. For each operation, the parts of the state that it may change and that it keeps the form (part 1 of 6, in the order
in which operations build on each other). -/

namespace Sys2Proof.Laws

set_option Elab.async false

open Sys2Proof.Machine

theorem within_raise (a0 : Nat) (a1 : Nat) (a2 : List Nat) (a3 : Nat) (a4 : Nat) (s : State)
    : Within 32 s (raise a0 a1 a2 a3 a4 s) := by
  unfold raise
  extract_lets x1 x2
  clear_value x1
  refine within_ite ?_ ?_
  · refine within_mk rfl ?_ (hf := form_eq)
    exact Within.refl _ _
  · refine within_mk rfl ?_ (hf := form_intake (hi := ?_))
    · exact Within.refl _ _
    · exact intake_evtAfter _ _

theorem within_tickAbandoned (a0 : Nat) (a1 : Nat) (s : State) : Within 32 s (tickAbandoned a0 a1 s) := by
  unfold tickAbandoned
  refine Within.after (within_raise ..) rfl ?_
  exact Within.refl _ _

theorem within_abandonJumped (a0 : Nat) (s : State) : Within 32 s (abandonJumped a0 s) := by
  unfold abandonJumped
  refine within_foldl ?_ ?_
  · intro y1 y2 y3
    refine within_foldl ?_ ?_
    · intro y4 y5 y6
      refine Within.after (within_tickAbandoned ..) rfl ?_
      assumption
    · assumption
  · exact Within.refl _ _

theorem within_setPort (a0 : Nat) (a1 : AuxPort) (s : State) : Within 32768 s (setPort a0 a1 s) := by
  unfold setPort
  refine within_mk rfl ?_ (hf := form_eq)
  exact Within.refl _ _

theorem within_modPort (a0 : Nat) (a1 : AuxPort → AuxPort) (s : State) : Within 32768 s (modPort a0 a1 s) := by
  unfold modPort
  refine Within.after (within_setPort ..) rfl ?_
  exact Within.refl _ _

theorem within_raiseAux (a0 : Nat) (a1 : Nat) (a2 : Nat) (a3 : List Nat) (s : State)
    : Within 32 s (raiseAux a0 a1 a2 a3 s) := by
  unfold raiseAux
  refine Within.after (within_raise ..) rfl ?_
  exact Within.refl _ _

theorem within_rfset (s : State) (a1 : Nat) (a2 : Nat) (a3 : Nat) (a4 : Nat) : Within 1 s (rfset s a1 a2 a3 a4) := by
  unfold rfset
  refine Within.after (within_rset ..) rfl ?_
  exact Within.refl _ _

theorem within_rsat (s : State) (a1 : Nat) (a2 : Nat) (a3 : Nat) (a4 : Nat) : Within 1 s (rsat s a1 a2 a3 a4) := by
  unfold rsat
  refine Within.after (within_rfset ..) rfl ?_
  exact Within.refl _ _

theorem within_abortStripe (s : State) : Within 32801 s (abortStripe s) := by
  unfold abortStripe
  split
  · refine within_ite ?_ ?_
    · exact Within.refl _ _
    · extract_lets x1 x2
      have hx1 : Within 32801 s x1 := by
        unfold x1
        refine Within.after (within_modPort ..) rfl ?_
        exact Within.refl _ _
      clear_value x1
      refine Within.after (within_raiseAux ..) rfl ?_
      refine Within.after (within_rsat ..) rfl ?_
      refine within_mk rfl ?_ (hf := form_eq)
      assumption
  · exact Within.refl _ _

theorem within_vdtMod (a0 : Vdt → Vdt) (s : State) : Within 8192 s (vdtMod a0 s) := by
  unfold vdtMod
  refine within_mk rfl ?_ (hf := form_eq)
  exact Within.refl _ _

theorem within_emitRecord (a0 : List (BitVec 128)) (s : State) : Within 8192 s (emitRecord a0 s) := by
  unfold emitRecord
  refine Within.after (within_vdtMod ..) rfl ?_
  exact Within.refl _ _

theorem within_modObj (a0 : Nat) (a1 : Obj → Obj) (s : State) : Within 8192 s (modObj a0 a1 s) := by
  unfold modObj
  refine Within.after (within_vdtMod ..) rfl ?_
  exact Within.refl _ _

theorem within_cancelGust (a0 : Nat) (a1 : Nat) (a2 : Nat) (s : State) : Within 8193 s (cancelGust a0 a1 a2 s) := by
  unfold cancelGust
  split
  · exact Within.refl _ _
  · split
    · exact Within.refl _ _
    · refine within_ite ?_ ?_
      · exact Within.refl _ _
      · refine Within.after (within_rsat ..) rfl ?_
        refine Within.after (within_emitRecord ..) rfl ?_
        refine Within.after (within_modObj ..) rfl ?_
        exact Within.refl _ _

theorem within_releaseResv (a0 : Nat) (a1 : Nat) (a2 : Resv → Bool) (s : State)
    : Within 8192 s (releaseResv a0 a1 a2 s) := by
  unfold releaseResv
  refine Within.after (within_vdtMod ..) rfl ?_
  exact Within.refl _ _

theorem within_skipCps (a0 : Nat) (s : State) : Within 8193 s (skipCps a0 s) := by
  unfold skipCps
  split
  · exact Within.refl _ _
  · extract_lets x1 x2 x3
    have hx3 : Within 8193 s x3 := by
      unfold x3
      refine Within.after (within_modObj ..) rfl ?_
      exact Within.refl _ _
    clear_value x1
    clear_value x2
    clear_value x3
    refine within_ite ?_ ?_
    · refine Within.after (within_rsat ..) rfl ?_
      assumption
    · assumption

theorem within_absorb (a0 : Nat) (a1 : Nat) (s : State) : Within 8193 s (absorb a0 a1 s) := by
  unfold absorb
  split
  · extract_lets x1 x2 x3 x4 x5 x6
    have hx1 : Within 8193 s x1 := by
      unfold x1
      refine Within.after (within_skipCps ..) rfl ?_
      refine Within.after (within_cancelGust ..) rfl ?_
      exact Within.refl _ _
    have hx2 : Within 8193 s x2 := by
      unfold x2
      refine Within.after (within_releaseResv ..) rfl ?_
      assumption
    clear_value x1
    clear_value x2
    clear_value x3
    clear_value x4
    clear_value x5
    clear_value x6
    refine Within.after (within_vdtMod ..) rfl ?_
    assumption
  · exact Within.refl _ _

theorem within_setObj (a0 : Nat) (a1 : Obj) (s : State) : Within 8192 s (setObj a0 a1 s) := by
  unfold setObj
  refine Within.after (within_vdtMod ..) rfl ?_
  exact Within.refl _ _

theorem within_accumulate (a0 : Nat) (a1 : Nat) (a2 : List Nat) (a3 : RegLine) (s : State)
    : Within 8192 s (accumulate a0 a1 a2 a3 s) := by
  unfold accumulate
  split
  · exact Within.refl _ _
  · extract_lets x1 x2 x3 x4 x5 x6 x7 x8 x9 x10 x11
    clear_value x1
    clear_value x2
    clear_value x3
    clear_value x4
    clear_value x5
    clear_value x6
    clear_value x7
    clear_value x8
    clear_value x9
    clear_value x10
    clear_value x11
    refine Within.after (within_setObj ..) rfl ?_
    exact Within.refl _ _

theorem within_dlCount (a0 : Nat) (a1 : Nat) (s : State) : Within 1 s (dlCount a0 a1 s) := by
  unfold dlCount
  refine Within.after (within_rset ..) rfl ?_
  refine Within.after (within_rsat ..) rfl ?_
  exact Within.refl _ _

theorem within_dlMiss (a0 : Nat) (a1 : Nat) (a2 : List Nat) (a3 : Nat) (a4 : Nat) (s : State)
    : Within 41 s (dlMiss a0 a1 a2 a3 a4 s) := by
  unfold dlMiss
  refine within_ite ?_ ?_
  · exact Within.refl _ _
  · extract_lets x1 x2
    have hx1 : Within 41 s x1 := by
      unfold x1
      refine Within.after (within_raise ..) rfl ?_
      exact Within.refl _ _
    clear_value x1
    refine within_ite ?_ ?_
    · refine within_mk rfl ?_ (hf := form_eq)
      assumption
    · refine Within.after (within_dlCount ..) rfl ?_
      assumption

theorem within_dlMissUnless (a0 : Bool) (a1 : Nat) (a2 : Nat) (a3 : List Nat) (a4 : Nat) (a5 : Nat) (s : State)
    : Within 41 s (dlMissUnless a0 a1 a2 a3 a4 a5 s) := by
  unfold dlMissUnless
  refine within_ite ?_ ?_
  · exact Within.refl _ _
  · refine Within.after (within_dlMiss ..) rfl ?_
    exact Within.refl _ _

theorem within_consumeArm (a0 : Nat) (a1 : Nat) (a2 : Nat) (a3 : Int) (s : State)
    : Within 8192 s (consumeArm a0 a1 a2 a3 s) := by
  unfold consumeArm
  refine Within.after (within_vdtMod ..) rfl ?_
  exact Within.refl _ _

theorem within_rmax (s : State) (a1 : Nat) (a2 : Nat) (a3 : Nat) (a4 : Nat) : Within 1 s (rmax s a1 a2 a3 a4) := by
  unfold rmax
  refine Within.after (within_rfset ..) rfl ?_
  exact Within.refl _ _

theorem within_placeResv (a0 : Resv) (s : State) : WithinO 8193 s (fun r => r) (placeResv a0 s) := by
  unfold placeResv
  split
  · exact withinO_none
  · refine withinO_some ?_
    refine Within.after (within_rmax ..) rfl ?_
    refine Within.after (within_vdtMod ..) rfl ?_
    exact Within.refl _ _

theorem within_raiseIf (a0 : Bool) (a1 : Nat) (a2 : Nat) (a3 : List Nat) (a4 : Nat) (a5 : Nat) (s : State)
    : Within 32 s (raiseIf a0 a1 a2 a3 a4 a5 s) := by
  unfold raiseIf
  refine within_ite ?_ ?_
  · refine Within.after (within_raise ..) rfl ?_
    exact Within.refl _ _
  · exact Within.refl _ _

theorem within_placeOpen (a0 : Obj) (a1 : Nat) (a2 : Nat × Int × Int × List Nat) (s : State)
    : Within 8225 s (placeOpen a0 a1 a2 s) := by
  unfold placeOpen
  split
  · rename_i hq1
    refine (fun hw1 => ?_) (withinO_get (k := 8225) (s := s) (p := fun r => r) hq1 ?_)
    · refine Within.after (within_consumeArm ..) rfl ?_
      assumption
    · refine withinO_after (within_placeResv ..) rfl ?_
      exact Within.refl _ _
  · refine Within.after (within_raiseIf ..) rfl ?_
    exact Within.refl _ _

theorem within_fireOnGust (a0 : Obj) (a1 : GustRec) (a2 : Int) (a3 : Nat × Int × List Nat) (s : State)
    : Within 8225 s (fireOnGust a0 a1 a2 a3 s) := by
  unfold fireOnGust
  split
  · extract_lets x1 x2
    have hx2 : Within 8225 s x2 := by
      unfold x2
      refine Within.after (within_raiseIf ..) rfl ?_
      exact Within.refl _ _
    clear_value x1
    clear_value x2
    refine within_ite ?_ ?_
    · refine Within.after (within_placeOpen ..) rfl ?_
      assumption
    · assumption
  · refine Within.after (within_raise ..) rfl ?_
    exact Within.refl _ _

theorem within_commitMiss (a0 : Nat) (a1 : Int) (s : State) : Within 8233 s (commitMiss a0 a1 s) := by
  unfold commitMiss
  split
  · exact Within.refl _ _
  · extract_lets x1 x2
    clear_value x2
    have hx1 : Within 8233 s x1 := by
      unfold x1
      refine Within.after (within_dlMissUnless ..) rfl ?_
      exact Within.refl _ _
    clear_value x1
    split
    · extract_lets x3
      have hx3 : Within 8233 s x3 := by
        unfold x3
        refine within_foldl ?_ ?_
        · intro y4 y5 y6
          refine Within.after (within_fireOnGust ..) rfl ?_
          assumption
        · assumption
      clear_value x3
      refine Within.after (within_raise ..) rfl ?_
      refine Within.after (within_rsat ..) rfl ?_
      refine Within.after (within_modObj ..) rfl ?_
      assumption
    · refine Within.after (within_raise ..) rfl ?_
      refine Within.after (within_modObj ..) rfl ?_
      assumption

theorem within_computeWindows (a0 : Nat) (s : State) : Within 8233 s (computeWindows a0 s) := by
  unfold computeWindows
  split
  · exact Within.refl _ _
  · refine within_ite ?_ ?_
    · exact Within.refl _ _
    · extract_lets x1 x2 x3 x4 x5 x6 x7
      have hx4 : Within 8233 s x4 := by
        unfold x4
        refine within_foldl ?_ ?_
        · intro y8 y9 y10
          refine Within.after (within_raise ..) rfl ?_
          assumption
        · exact Within.refl _ _
      have hx5 : Within 8233 s x5 := by
        unfold x5
        refine within_foldl ?_ ?_
        · intro y11 y12 y13
          refine Within.after (within_raise ..) rfl ?_
          assumption
        · assumption
      have hx6 : Within 8233 s x6 := by
        unfold x6
        refine Within.after (within_modObj ..) rfl ?_
        assumption
      clear_value x1
      clear_value x2
      clear_value x3
      clear_value x4
      clear_value x5
      clear_value x6
      clear_value x7
      split
      · refine within_ite ?_ ?_
        · refine Within.after (within_commitMiss ..) rfl ?_
          assumption
        · assumption
      · assumption

theorem within_fixVelocity (a0 : Nat) (s : State) : Within 8225 s (fixVelocity a0 s) := by
  unfold fixVelocity
  split
  · exact Within.refl _ _
  · split
    · extract_lets x1 x2
      clear_value x1
      clear_value x2
      refine Within.after (within_rfset ..) rfl ?_
      refine Within.after (within_setObj ..) rfl ?_
      exact Within.refl _ _
    · refine Within.after (within_raise ..) rfl ?_
      refine Within.after (within_setObj ..) rfl ?_
      exact Within.refl _ _

theorem within_freeObj (a0 : Nat) (s : State) : Within 8192 s (freeObj a0 s) := by
  unfold freeObj
  refine Within.after (within_vdtMod ..) rfl ?_
  exact Within.refl _ _

theorem within_pushEval (a0 : QEnt) (s : State) : WithinO 8193 s (fun r => r) (pushEval a0 s) := by
  unfold pushEval
  split
  · exact withinO_none
  · refine withinO_some ?_
    refine Within.after (within_rmax ..) rfl ?_
    refine Within.after (within_vdtMod ..) rfl ?_
    exact Within.refl _ _

theorem within_rwrap (s : State) (a1 : Nat) (a2 : Nat) (a3 : Nat) (a4 : Nat) : Within 1 s (rwrap s a1 a2 a3 a4) := by
  unfold rwrap
  refine Within.after (within_rfset ..) rfl ?_
  exact Within.refl _ _

theorem within_emitConfirmed (a0 : Nat) (a1 : Obj) (a2 : Nat × Nat × Nat) (s : State)
    : Within 8193 s (emitConfirmed a0 a1 a2 s) := by
  unfold emitConfirmed
  extract_lets x1 x2 x3
  have hx2 : Within 8193 s x2 := by
    unfold x2
    refine within_ite ?_ ?_
    · refine within_ite ?_ ?_
      · refine Within.after (within_modObj ..) rfl ?_
        refine Within.after (within_rsat ..) rfl ?_
        exact Within.refl _ _
      · refine Within.after (within_cancelGust ..) rfl ?_
        exact Within.refl _ _
    · exact Within.refl _ _
  have hx3 : Within 8193 s x3 := by
    unfold x3
    refine Within.after (within_emitRecord ..) rfl ?_
    assumption
  clear_value x1
  clear_value x2
  clear_value x3
  refine Within.after (within_rsat ..) rfl ?_
  refine Within.after (within_rwrap ..) rfl ?_
  refine Within.after (within_rwrap ..) rfl ?_
  assumption

theorem within_noteMargin (a0 : Obj) (s : State) : Within 1 s (noteMargin a0 s) := by
  unfold noteMargin
  split
  · exact Within.refl _ _
  · extract_lets x1
    clear_value x1
    refine within_ite ?_ ?_
    · refine Within.after (within_rset ..) rfl ?_
      refine Within.after (within_rset ..) rfl ?_
      exact Within.refl _ _
    · exact Within.refl _ _

theorem within_narrowArms (a0 : Nat) (a1 : Nat) (a2 : List Nat) (s : State) : Within 8192 s (narrowArms a0 a1 a2 s) := by
  unfold narrowArms
  refine Within.after (within_vdtMod ..) rfl ?_
  exact Within.refl _ _

theorem within_placeArm (a0 : Obj) (a1 : Nat) (a2 : List Nat) (a3 : Int) (a4 : Int) (s : State)
    : Within 8193 s (placeArm a0 a1 a2 a3 a4 s) := by
  unfold placeArm
  split
  · rename_i hq1
    refine (fun hw1 => ?_) (withinO_get (k := 8193) (s := s) (p := fun r => r) hq1 ?_)
    · assumption
    · refine withinO_after (within_placeResv ..) rfl ?_
      exact Within.refl _ _
  · refine Within.after (within_rsat ..) rfl ?_
    exact Within.refl _ _

theorem within_placeConfirmed (a0 : Obj) (a1 : Nat × Int × Int × List Nat) (s : State)
    : Within 8225 s (placeConfirmed a0 a1 s) := by
  unfold placeConfirmed
  extract_lets x1 x2 x3 x4 x5 x6 x7
  have hx4 : Within 8225 s x4 := by
    unfold x4
    refine Within.after (within_narrowArms ..) rfl ?_
    exact Within.refl _ _
  have hx7 : Within 8225 s x7 := by
    unfold x7
    refine Within.after (within_raiseIf ..) rfl ?_
    assumption
  clear_value x1
  clear_value x2
  clear_value x3
  clear_value x4
  clear_value x5
  clear_value x6
  clear_value x7
  refine Within.after (within_placeOpen ..) rfl ?_
  refine within_foldl ?_ ?_
  · intro y8 y9 y10
    refine Within.after (within_placeArm ..) rfl ?_
    assumption
  · assumption

theorem within_releaseOutside (a0 : Obj) (a1 : List (Nat × List Nat)) (s : State)
    : Within 8192 s (releaseOutside a0 a1 s) := by
  unfold releaseOutside
  refine Within.after (within_vdtMod ..) rfl ?_
  exact Within.refl _ _

theorem within_schedule (a0 : Obj) (a1 : Nat) (s : State) : Within 8225 s (schedule a0 a1 s) := by
  unfold schedule
  extract_lets x1 x2 x3 x4 x5 x6
  clear_value x1
  clear_value x2
  have hx4 : Within 8225 s x4 := by
    unfold x4
    refine Within.after (within_releaseOutside ..) rfl ?_
    exact Within.refl _ _
  have hx5 : Within 8225 s x5 := by
    unfold x5
    refine within_ite ?_ ?_
    · refine Within.after (within_vdtMod ..) rfl ?_
      assumption
    · refine within_foldl ?_ ?_
      · intro y7 y8 y9
        refine Within.after (within_placeConfirmed ..) rfl ?_
        assumption
      · assumption
  have hx6 : Within 8225 s x6 := by
    unfold x6
    dsimp -zeta only [x3]
    split
    · refine Within.after (within_releaseResv ..) rfl ?_
      refine Within.after (within_releaseResv ..) rfl ?_
      exact Within.refl _ _
    · refine Within.after (within_releaseResv ..) rfl ?_
      exact Within.refl _ _
  clear_value x4
  clear_value x5
  clear_value x6
  refine within_ite ?_ ?_
  · exact Within.refl _ _
  · refine within_ite ?_ ?_
    · refine within_ite ?_ ?_
      · exact Within.refl _ _
      · refine within_ite ?_ ?_
        · dsimp -zeta only [x3]
          split
          · refine Within.after (within_releaseResv ..) rfl ?_
            assumption
          · assumption
        · assumption
    · refine within_ite ?_ ?_
      · dsimp -zeta only [x3]
        split
        · refine Within.after (within_releaseResv ..) rfl ?_
          exact Within.refl _ _
        · exact Within.refl _ _
      · refine within_ite ?_ ?_
        · refine Within.after (within_raise ..) rfl ?_
          assumption
        · assumption

theorem within_confirm (a0 : Nat) (a1 : Nat × Nat × Nat) (s : State) : Within 8225 s (confirm a0 a1 s) := by
  unfold confirm
  split
  · exact Within.refl _ _
  · extract_lets x1 x2
    clear_value x1
    have hx2 : Within 8225 s x2 := by
      unfold x2
      refine Within.after (within_raiseIf ..) rfl ?_
      exact Within.refl _ _
    clear_value x2
    refine within_ite ?_ ?_
    · refine Within.after (within_setObj ..) rfl ?_
      exact Within.refl _ _
    · refine Within.after (within_freeObj ..) rfl ?_
      refine Within.after (within_emitConfirmed ..) rfl ?_
      refine Within.after (within_schedule ..) rfl ?_
      refine Within.after (within_noteMargin ..) rfl ?_
      assumption

theorem within_partnerMatch (a0 : Nat) (a1 : XwRec) (s : State) : Within 8225 s (partnerMatch a0 a1 s) := by
  unfold partnerMatch
  split
  · exact Within.refl _ _
  · extract_lets x1 x2 x3
    clear_value x1
    clear_value x2
    have hx3 : Within 8225 s x3 := by
      unfold x3
      refine Within.after (within_vdtMod ..) rfl ?_
      exact Within.refl _ _
    clear_value x3
    refine Within.after (within_confirm ..) rfl ?_
    refine Within.after (within_rsat ..) rfl ?_
    refine Within.after (within_setObj ..) rfl ?_
    assumption

theorem within_partnerWait (a0 : Nat) (s : State) : Within 8225 s (partnerWait a0 s) := by
  unfold partnerWait
  split
  · exact Within.refl _ _
  · extract_lets x1
    have hx1 : Within 8225 s x1 := by
      unfold x1
      refine Within.after (within_setObj ..) rfl ?_
      exact Within.refl _ _
    clear_value x1
    split
    · refine Within.after (within_partnerMatch ..) rfl ?_
      assumption
    · assumption

theorem within_setXw (s : State) (a1 : Nat) (a2 : XwLane) : Within 512 s (setXw s a1 a2) := by
  unfold setXw
  refine within_mk rfl ?_ (hf := form_eq)
  exact Within.refl _ _

theorem within_xwSend (a0 : Nat) (a1 : XwMsg) (s : State) : Within 512 s (xwSend a0 a1 s) := by
  unfold xwSend
  extract_lets x1
  clear_value x1
  refine within_ite ?_ ?_
  · exact Within.refl _ _
  · split
    · refine within_ite ?_ ?_
      · refine Within.after (within_setXw ..) rfl ?_
        exact Within.refl _ _
      · exact Within.refl _ _
    · refine within_ite ?_ ?_
      · refine Within.after (within_setXw ..) rfl ?_
        exact Within.refl _ _
      · exact Within.refl _ _
    · refine Within.after (within_setXw ..) rfl ?_
      exact Within.refl _ _

theorem within_verdictEmitted (a0 : Nat) (a1 : Nat × Nat × Nat) (s : State) : Within 8737 s (verdictEmitted a0 a1 s) := by
  unfold verdictEmitted
  split
  · exact Within.refl _ _
  · extract_lets x1 x2 x3 x4
    clear_value x1
    clear_value x3
    have hx2 : Within 8737 s x2 := by
      unfold x2
      refine Within.after (within_setObj ..) rfl ?_
      exact Within.refl _ _
    have hx4 : Within 8737 s x4 := by
      unfold x4
      refine within_foldl ?_ ?_
      · intro y5 y6 y7
        refine Within.after (within_xwSend ..) rfl ?_
        assumption
      · assumption
    clear_value x2
    clear_value x4
    refine within_ite ?_ ?_
    · refine Within.after (within_confirm ..) rfl ?_
      assumption
    · refine within_ite ?_ ?_
      · refine Within.after (within_partnerWait ..) rfl ?_
        assumption
      · refine Within.after (within_confirm ..) rfl ?_
        assumption

theorem within_queueConfirmed (a0 : Nat) (s : State) : Within 8737 s (queueConfirmed a0 s) := by
  unfold queueConfirmed
  split
  · exact Within.refl _ _
  · extract_lets x1 x2
    clear_value x2
    have hx1 : Within 8737 s x1 := by
      unfold x1
      refine Within.after (within_setObj ..) rfl ?_
      exact Within.refl _ _
    clear_value x1
    refine within_ite ?_ ?_
    · assumption
    · split
      · rename_i hq3
        refine (fun hw3 => ?_) (withinO_get (k := 8737) (s := s) (p := fun r => r) hq3 ?_)
        · assumption
        · refine withinO_after (within_pushEval ..) rfl ?_
          assumption
      · refine Within.after (within_verdictEmitted ..) rfl ?_
        refine Within.after (within_raise ..) rfl ?_
        assumption

theorem within_stitchMerge (a0 : Nat) (s : State) : Within 8745 s (stitchMerge a0 s) := by
  unfold stitchMerge
  extract_lets x1 x2
  clear_value x1
  clear_value x2
  split
  · extract_lets x3 x4 x5 x6 x7
    clear_value x3
    clear_value x4
    clear_value x5
    clear_value x6
    have hx7 : Within 8745 s x7 := by
      unfold x7
      refine within_foldl ?_ ?_
      · intro y8 y9 y10
        refine Within.after (within_absorb ..) rfl ?_
        assumption
      · refine Within.after (within_vdtMod ..) rfl ?_
        exact Within.refl _ _
    clear_value x7
    refine Within.after (within_queueConfirmed ..) rfl ?_
    refine Within.after (within_computeWindows ..) rfl ?_
    refine Within.after (within_rsat ..) rfl ?_
    refine Within.after (within_modObj ..) rfl ?_
    assumption
  · exact Within.refl _ _

theorem within_stitchTry (a0 : Nat) (s : State) : Within 8745 s (stitchTry a0 s) := by
  unfold stitchTry
  extract_lets x1 x2
  clear_value x1
  clear_value x2
  refine within_ite ?_ ?_
  · refine Within.after (within_stitchMerge ..) rfl ?_
    exact Within.refl _ _
  · exact Within.refl _ _

theorem within_stitchWait (a0 : Nat) (s : State) : Within 8745 s (stitchWait a0 s) := by
  unfold stitchWait
  split
  · exact Within.refl _ _
  · extract_lets x1
    have hx1 : Within 8745 s x1 := by
      unfold x1
      refine within_foldl ?_ ?_
      · intro y2 y3 y4
        refine Within.after (within_xwSend ..) rfl ?_
        assumption
      · refine Within.after (within_setObj ..) rfl ?_
        exact Within.refl _ _
    clear_value x1
    refine Within.after (within_stitchTry ..) rfl ?_
    assumption

theorem within_closeRegistered (a0 : Nat) (s : State) : Within 8745 s (closeRegistered a0 s) := by
  unfold closeRegistered
  split
  · exact Within.refl _ _
  · refine within_ite ?_ ?_
    · refine Within.after (within_freeObj ..) rfl ?_
      exact Within.refl _ _
    · extract_lets x1 x2 x3 x4 x5 x6
      clear_value x1
      clear_value x2
      clear_value x3
      have hx4 : Within 8745 s x4 := by
        unfold x4
        refine Within.after (within_skipCps ..) rfl ?_
        exact Within.refl _ _
      have hx5 : Within 8745 s x5 := by
        unfold x5
        refine Within.after (within_modObj ..) rfl ?_
        assumption
      have hx6 : Within 8745 s x6 := by
        unfold x6
        refine Within.after (within_computeWindows ..) rfl ?_
        refine Within.after (within_fixVelocity ..) rfl ?_
        assumption
      clear_value x4
      clear_value x5
      clear_value x6
      split
      · refine within_ite ?_ ?_
        · refine Within.after (within_queueConfirmed ..) rfl ?_
          assumption
        · refine Within.after (within_stitchWait ..) rfl ?_
          assumption
      · assumption

theorem within_closeDue (s : State) : Within 8745 s (closeDue s) := by
  unfold closeDue
  refine within_foldl ?_ ?_
  · intro y1 y2 y3
    refine within_ite ?_ ?_
    · refine Within.after (within_closeRegistered ..) rfl ?_
      assumption
    · assumption
  · exact Within.refl _ _

theorem within_watchLine (a0 : Nat) (a1 : RegLine) (s : State) : Within 8192 s (watchLine a0 a1 s) := by
  unfold watchLine
  split
  · exact Within.refl _ _
  · extract_lets x1 x2 x3 x4 x5 x6
    clear_value x1
    clear_value x2
    clear_value x3
    clear_value x4
    clear_value x5
    clear_value x6
    refine within_ite ?_ ?_
    · exact Within.refl _ _
    · refine within_ite ?_ ?_
      · refine Within.after (within_setObj ..) rfl ?_
        exact Within.refl _ _
      · split
        · refine within_ite ?_ ?_
          · extract_lets x7
            clear_value x7
            refine Within.after (within_setObj ..) rfl ?_
            exact Within.refl _ _
          · exact Within.refl _ _
        · refine within_ite ?_ ?_
          · refine Within.after (within_setObj ..) rfl ?_
            exact Within.refl _ _
          · exact Within.refl _ _

theorem within_accumulateSegment (a0 : Nat) (s : State) : Within 12841 s (accumulateSegment a0 s) := by
  unfold accumulateSegment
  split
  · exact Within.refl _ _
  · refine within_ite ?_ ?_
    · exact Within.refl _ _
    · extract_lets x1 x2 x3 x4 x5 x6 x7 x8 x9 x10 x11 x12 x13 x14
      clear_value x1
      clear_value x2
      clear_value x3
      clear_value x4
      clear_value x5
      clear_value x6
      clear_value x7
      clear_value x8
      clear_value x12
      have hx9 : Within 12841 s x9 := by
        unfold x9
        refine within_foldl ?_ ?_
        · intro y15 y16 y17
          extract_lets x18 x19
          clear_value x18
          have hx19 : Within 12841 s x19 := by
            unfold x19
            refine within_ite ?_ ?_
            · assumption
            · refine Within.after (within_modObj ..) rfl ?_
              assumption
          clear_value x19
          refine within_ite ?_ ?_
          · refine Within.after (within_watchLine ..) rfl ?_
            assumption
          · assumption
        · exact Within.refl _ _
      have hx10 : Within 12841 s x10 := by
        unfold x10
        refine within_foldl ?_ ?_
        · intro y20 y21 y22
          refine Within.after (within_accumulate ..) rfl ?_
          assumption
        · assumption
      have hx11 : Within 12841 s x11 := by
        unfold x11
        refine Within.after (within_vdtMod ..) rfl ?_
        assumption
      have hx13 : Within 12841 s x13 := by
        unfold x13
        refine Within.after (within_pipMod ?_) rfl ?_
        · (dsimp only; exact id)
        · assumption
      have hx14 : Within 12841 s x14 := by
        unfold x14
        refine Within.after (within_closeDue ..) rfl ?_
        assumption
      clear_value x9
      clear_value x10
      clear_value x11
      clear_value x13
      clear_value x14
      refine within_ite ?_ ?_
      · refine Within.after (within_vdtMod ..) rfl ?_
        refine Within.after (within_pipMod ?_) rfl ?_
        · (dsimp only; exact id)
        · assumption
      · assumption

theorem within_aryMod (a0 : Ary → Ary) (s : State) : Within 1024 s (aryMod a0 s) := by
  unfold aryMod
  refine within_mk rfl ?_ (hf := form_eq)
  exact Within.refl _ _

theorem within_raise0 (a0 : Nat) (a1 : Nat) (a2 : List Nat) (s : State) : Within 32 s (raise0 a0 a1 a2 s) := by
  unfold raise0
  refine Within.after (within_raise ..) rfl ?_
  exact Within.refl _ _

theorem within_rsets (s : State) (a1 : List (Nat × Nat)) : Within 1 s (rsets s a1) := by
  unfold rsets
  refine within_foldl ?_ ?_
  · intro y1 y2 y3
    refine Within.after (within_rset ..) rfl ?_
    assumption
  · exact Within.refl _ _

theorem within_showSet (a0 : CapSet) (s : State) : Within 1 s (showSet a0 s) := by
  unfold showSet
  extract_lets x1 x2
  have hx1 : Within 1 s x1 := by
    unfold x1
    refine Within.after (within_rsets ..) rfl ?_
    exact Within.refl _ _
  have hx2 : Within 1 s x2 := by
    unfold x2
    refine Within.after (within_rsets ..) rfl ?_
    assumption
  clear_value x1
  clear_value x2
  refine Within.after (within_rfset ..) rfl ?_
  refine Within.after (within_rset ..) rfl ?_
  assumption

theorem within_arySectionLoaded (s : State) : Within 1057 s (arySectionLoaded s) := by
  unfold arySectionLoaded
  extract_lets x1 x2 x3
  have hx2 : Within 1057 s x2 := by
    unfold x2
    refine Within.after (within_aryMod ..) rfl ?_
    exact Within.refl _ _
  clear_value x1
  clear_value x2
  clear_value x3
  refine Within.after (within_raise0 ..) rfl ?_
  refine Within.after (within_rfset ..) rfl ?_
  refine Within.after (within_showSet ..) rfl ?_
  assumption

theorem within_bgReset (s : State) : Within 4096 s (bgReset s) := by
  unfold bgReset
  refine Within.after (within_pipMod ?_) rfl ?_
  · (dsimp only; exact id)
  · refine Within.after (within_pmClear ..) rfl ?_
    exact Within.refl _ _

theorem within_tbsMod (a0 : Tbs → Tbs) (s : State) : Within 8 s (tbsMod a0 s) := by
  unfold tbsMod
  refine within_mk rfl ?_ (hf := form_eq)
  exact Within.refl _ _

theorem within_encoderState (s : State) : Within 8 s (encoderState s) := by
  unfold encoderState
  extract_lets x1
  clear_value x1
  refine Within.after (within_tbsMod ..) rfl ?_
  exact Within.refl _ _

theorem within_applyOnFail (a0 : Nat) (s : State) : Within 8 s (applyOnFail a0 s) := by
  unfold applyOnFail
  split
  · exact Within.refl _ _
  · refine Within.after (within_tbsMod ..) rfl ?_
    exact Within.refl _ _

theorem within_srcFail (a0 : Nat) (s : State) : Within 40 s (srcFail a0 s) := by
  unfold srcFail
  refine within_ite ?_ ?_
  · refine Within.after (within_applyOnFail ..) rfl ?_
    refine Within.after (within_raise0 ..) rfl ?_
    exact Within.refl _ _
  · exact Within.refl _ _

theorem within_encoderJudge (s : State) : Within 40 s (encoderJudge s) := by
  unfold encoderJudge
  extract_lets x1
  have hx1 : Within 40 s x1 := by
    unfold x1
    refine Within.after (within_encoderState ..) rfl ?_
    exact Within.refl _ _
  clear_value x1
  refine within_ite ?_ ?_
  · refine Within.after (within_srcFail ..) rfl ?_
    assumption
  · refine within_ite ?_ ?_
    · refine Within.after (within_srcFail ..) rfl ?_
      assumption
    · assumption

theorem within_idleChange (a0 : State) (s : State) : Within 32 s (idleChange a0 s) := by
  unfold idleChange
  refine within_foldl ?_ ?_
  · intro y1 y2 y3
    extract_lets x4 x5
    clear_value x4
    clear_value x5
    refine Within.after (within_raiseIf ..) rfl ?_
    assumption
  · exact Within.refl _ _

theorem within_monMod (a0 : Nat) (a1 : PinMon → PinMon) (s : State) : Within 131072 s (monMod a0 a1 s) := by
  unfold monMod
  refine Within.after (within_penMod ?_) rfl ?_
  · (dsimp only; exact id)
  · exact Within.refl _ _

theorem within_stuckEnd (a0 : Nat) (s : State) : Within 131112 s (stuckEnd a0 s) := by
  unfold stuckEnd
  refine within_ite ?_ ?_
  · refine Within.after (within_encoderState ..) rfl ?_
    refine Within.after (within_raise ..) rfl ?_
    refine Within.after (within_monMod ..) rfl ?_
    exact Within.refl _ _
  · exact Within.refl _ _

theorem within_refreshMotion (s : State) (a1 : Nat) : Within 131112 s (refreshMotion s a1) := by
  unfold refreshMotion
  extract_lets x1 x2
  have hx2 : Within 131112 s x2 := by
    unfold x2
    refine Within.after (within_raise ..) rfl ?_
    refine Within.after (within_monMod ..) rfl ?_
    exact Within.refl _ _
  clear_value x1
  clear_value x2
  refine within_ite ?_ ?_
  · exact Within.refl _ _
  · refine within_ite ?_ ?_
    · assumption
    · refine Within.after (within_stuckEnd ..) rfl ?_
      assumption

theorem within_judgeStall (s : State) : Within 40 s (judgeStall s) := by
  unfold judgeStall
  extract_lets x1
  clear_value x1
  refine Within.after (within_raiseIf ..) rfl ?_
  refine Within.after (within_tbsMod ..) rfl ?_
  exact Within.refl _ _

theorem within_runExpectLevel (s : State) : Within 40 s (runExpectLevel s) := by
  unfold runExpectLevel
  refine Within.after (within_judgeStall ..) rfl ?_
  refine Within.after (within_tbsMod ..) rfl ?_
  exact Within.refl _ _

theorem within_refreshMotions (s : State) : Within 131112 s (refreshMotions s) := by
  unfold refreshMotions
  extract_lets x1
  have hx1 : Within 131112 s x1 := by
    unfold x1
    refine Within.after (within_runExpectLevel ..) rfl ?_
    exact Within.refl _ _
  clear_value x1
  refine within_ite ?_ ?_
  · assumption
  · refine within_foldl ?_ ?_
    · intro y2 y3 y4
      refine Within.after (within_refreshMotion ..) rfl ?_
      assumption
    · assumption

theorem within_penSectionLoaded (s : State) : Within 131112 s (penSectionLoaded s) := by
  unfold penSectionLoaded
  refine Within.after (within_refreshMotions ..) rfl ?_
  refine Within.after (within_penMod ?_) rfl ?_
  · (dsimp only; exact id)
  · exact Within.refl _ _

theorem within_lnkMod (a0 : Lnk → Lnk) (s : State) : Within 65536 s (lnkMod a0 s) := by
  unfold lnkMod
  refine within_mk rfl ?_ (hf := form_eq)
  exact Within.refl _ _

theorem within_wirePrbs (a0 : Nat) (s : State) : Within 65536 s (wirePrbs a0 s) := by
  unfold wirePrbs
  extract_lets x1 x2
  clear_value x1
  clear_value x2
  refine Within.after (within_lnkMod ..) rfl ?_
  exact Within.refl _ _

theorem within_prbsTest (a0 : Nat) (a1 : Nat) (s : State) : Within 65569 s (prbsTest a0 a1 s) := by
  unfold prbsTest
  extract_lets x1
  clear_value x1
  refine within_ite ?_ ?_
  · refine within_ite ?_ ?_
    · exact Within.refl _ _
    · refine Within.after (within_raise ..) rfl ?_
      refine Within.after (within_wirePrbs ..) rfl ?_
      refine Within.after (within_lnkMod ..) rfl ?_
      refine Within.after (within_rset ..) rfl ?_
      exact Within.refl _ _
  · refine Within.after (within_lnkMod ..) rfl ?_
    refine Within.after (within_rset ..) rfl ?_
    exact Within.refl _ _

theorem within_tbsService (s : State) : Within 24 s (tbsService s) := by
  unfold tbsService
  extract_lets x1 x2 x3
  clear_value x1
  refine within_mk rfl ?_ (hf := form_eq)
  exact Within.refl _ _

theorem within_activate (s : State) : Within 201785 s (activate s) := by
  unfold activate
  extract_lets x1 x2
  have hx1 : Within 201785 s x1 := by
    unfold x1
    refine Within.after (within_bgReset ..) rfl ?_
    refine Within.after (within_tbsService ..) rfl ?_
    refine Within.after (within_idleChange ..) rfl ?_
    refine Within.after (within_arySectionLoaded ..) rfl ?_
    exact Within.refl _ _
  have hx2 : Within 201785 s x2 := by
    unfold x2
    refine within_foldl ?_ ?_
    · intro y3 y4 y5
      refine within_ite ?_ ?_
      · refine Within.after (within_prbsTest ..) rfl ?_
        assumption
      · assumption
    · assumption
  clear_value x1
  clear_value x2
  refine Within.after (within_encoderJudge ..) rfl ?_
  refine within_ite ?_ ?_
  · refine Within.after (within_penSectionLoaded ..) rfl ?_
    assumption
  · refine Within.after (within_refreshMotions ..) rfl ?_
    assumption

theorem within_nrgMod (a0 : Nrg → Nrg) (s : State) : Within 262144 s (nrgMod a0 s) := by
  unfold nrgMod
  refine within_mk rfl ?_ (hf := form_eq)
  exact Within.refl _ _

theorem within_planAdopt (s : State) : Within 262144 s (planAdopt s) := by
  unfold planAdopt
  refine Within.after (within_nrgMod ..) rfl ?_
  exact Within.refl _ _

theorem within_setBudget (a0 : Nat) (s : State) : Within 262145 s (setBudget a0 s) := by
  unfold setBudget
  extract_lets x1
  clear_value x1
  refine Within.after (within_nrgMod ..) rfl ?_
  refine Within.after (within_rset ..) rfl ?_
  exact Within.refl _ _

theorem within_shedEntry (a0 : Bool) (a1 : Nat) (a2 : Nat) (s : State) : Within 262144 s (shedEntry a0 a1 a2 s) := by
  unfold shedEntry
  refine Within.after (within_nrgMod ..) rfl ?_
  exact Within.refl _ _

theorem within_admission (s : State) : Within 262177 s (admission s).2 := by
  unfold admission
  extract_lets x1 x2 x3 x4 x5 x6 x7
  clear_value x2
  clear_value x3
  clear_value x4
  have hx1 : Within 262177 s x1 := by
    unfold x1
    refine Within.after (within_planAdopt ..) rfl ?_
    exact Within.refl _ _
  have hx5 : Within 262177 s x5 := by
    unfold x5
    refine Within.after (within_rfset ..) rfl ?_
    refine Within.after (within_rfset ..) rfl ?_
    refine Within.after (within_setBudget ..) rfl ?_
    assumption
  have hx6 : Within 262177 s x6 := by
    unfold x6
    refine Within.after (within_nrgMod ..) rfl ?_
    assumption
  have hx7 : Within 262177 s x7 := by
    unfold x7
    refine within_foldl ?_ ?_
    · intro y8 y9 y10
      refine Within.after (within_shedEntry ..) rfl ?_
      assumption
    · assumption
  clear_value x1
  clear_value x5
  clear_value x6
  clear_value x7
  split
  · refine within_pair ?_
    refine Within.after (within_raiseIf ..) rfl ?_
    assumption
  · refine within_pair ?_
    refine Within.after (within_raise0 ..) rfl ?_
    assumption

theorem within_thmMod (a0 : Thm → Thm) (s : State) : Within 524288 s (thmMod a0 s) := by
  unfold thmMod
  refine within_mk rfl ?_ (hf := form_eq)
  exact Within.refl _ _

theorem within_convMod (a0 : Nat) (a1 : Conv → Conv) (s : State) : Within 524288 s (convMod a0 a1 s) := by
  unfold convMod
  refine Within.after (within_thmMod ..) rfl ?_
  exact Within.refl _ _

theorem within_beginVisit (a0 : Nat) (s : State) : Within 524288 s (beginVisit a0 s) := by
  unfold beginVisit
  refine Within.after (within_convMod ..) rfl ?_
  exact Within.refl _ _

theorem within_afterUrgent (a0 : Nat) (s : State) : Within 524288 s (afterUrgent a0 s) := by
  unfold afterUrgent
  split
  · refine Within.after (within_convMod ..) rfl ?_
    exact Within.refl _ _
  · refine Within.after (within_beginVisit ..) rfl ?_
    refine Within.after (within_convMod ..) rfl ?_
    exact Within.refl _ _

theorem within_breachOn (s : State) : Within 262176 s (breachOn s) := by
  unfold breachOn
  refine within_ite ?_ ?_
  · refine Within.after (within_nrgMod ..) rfl ?_
    exact Within.refl _ _
  · refine Within.after (within_raise0 ..) rfl ?_
    refine Within.after (within_nrgMod ..) rfl ?_
    exact Within.refl _ _

theorem within_planRecheck (s : State) : Within 262177 s (planRecheck s) := by
  unfold planRecheck
  refine within_ite ?_ ?_
  · exact Within.refl _ _
  · extract_lets x1 x2 x3
    have hx3 : Within 262177 s x3 := by
      unfold x3
      refine Within.after (within_setBudget ..) rfl ?_
      refine Within.after (within_nrgMod ..) rfl ?_
      exact Within.refl _ _
    clear_value x1
    clear_value x2
    clear_value x3
    refine within_ite ?_ ?_
    · refine Within.after (within_breachOn ..) rfl ?_
      assumption
    · refine within_ite ?_ ?_
      · refine Within.after (within_nrgMod ..) rfl ?_
        assumption
      · assumption

theorem within_envelopeWrite (a0 : Nat) (s : State) : Within 262177 s (envelopeWrite a0 s) := by
  unfold envelopeWrite
  refine within_ite ?_ ?_
  · refine Within.after (within_planRecheck ..) rfl ?_
    refine Within.after (within_rset ..) rfl ?_
    exact Within.refl _ _
  · exact Within.refl _ _

theorem within_grpMod (a0 : Grp → Grp) (s : State) : Within 16 s (grpMod a0 s) := by
  unfold grpMod
  refine within_mk rfl ?_ (hf := form_eq)
  exact Within.refl _ _

theorem within_setEng (a0 : Nat) (a1 : Engine) (s : State) : Within 131072 s (setEng a0 a1 s) := by
  unfold setEng
  refine Within.after (within_penMod ?_) rfl ?_
  · (dsimp only; exact id)
  · exact Within.refl _ _

theorem within_engMod (a0 : Nat) (a1 : Engine → Engine) (s : State) : Within 131072 s (engMod a0 a1 s) := by
  unfold engMod
  refine Within.after (within_setEng ..) rfl ?_
  exact Within.refl _ _

theorem within_progWritten (a0 : Nat) (s : State) : Within 131072 s (progWritten a0 s) := by
  unfold progWritten
  refine within_ite ?_ ?_
  · refine Within.after (within_engMod ..) rfl ?_
    exact Within.refl _ _
  · exact Within.refl _ _

theorem within_sigChange (a0 : Option Nat) (a1 : Nat) (a2 : Nat) (s : State) : Within 131072 s (sigChange a0 a1 a2 s) := by
  unfold sigChange
  refine Within.after (within_penMod ?_) rfl ?_
  · (dsimp only; exact id)
  · exact Within.refl _ _

theorem within_signalBusWrite (a0 : Nat) (s : State) : Within 131072 s (signalBusWrite a0 s) := by
  unfold signalBusWrite
  refine within_ite ?_ ?_
  · refine Within.after (within_penMod ?_) rfl ?_
    · (dsimp only; exact id)
    · exact Within.refl _ _
  · exact Within.refl _ _

theorem within_afterWrite (a0 : Nat) (a1 : Nat) (s : State) : Within 393273 s (afterWrite a0 a1 s) := by
  unfold afterWrite
  refine within_ite ?_ ?_
  · refine Within.after (within_envelopeWrite ..) rfl ?_
    exact Within.refl _ _
  · refine within_ite ?_ ?_
    · refine Within.after (within_signalBusWrite ..) rfl ?_
      exact Within.refl _ _
    · refine within_ite ?_ ?_
      · refine Within.after (within_grpMod ..) rfl ?_
        exact Within.refl _ _
      · refine within_ite ?_ ?_
        · refine within_ite ?_ ?_
          · refine Within.after (within_refreshMotions ..) rfl ?_
            refine Within.after (within_progWritten ..) rfl ?_
            exact Within.refl _ _
          · refine Within.after (within_progWritten ..) rfl ?_
            exact Within.refl _ _
        · exact Within.refl _ _

theorem within_noteAge (a0 : Nat) (a1 : Nat) (a2 : Nat) (s : State) : Within 1 s (noteAge a0 a1 a2 s) := by
  unfold noteAge
  refine within_ite ?_ ?_
  · exact Within.refl _ _
  · refine Within.after (within_rmax ..) rfl ?_
    exact Within.refl _ _

theorem within_putSet (a0 : Nat) (a1 : LaneSet) (s : State) : Within 65536 s (putSet a0 a1 s) := by
  unfold putSet
  refine Within.after (within_lnkMod ..) rfl ?_
  exact Within.refl _ _

theorem within_snapRowLost (a0 : Nat) (s : State) : Within 4129 s (snapRowLost a0 s) := by
  unfold snapRowLost
  refine within_ite ?_ ?_
  · exact Within.refl _ _
  · refine Within.after (within_raise0 ..) rfl ?_
    refine Within.after (within_rsat ..) rfl ?_
    refine Within.after (within_pipMod ?_) rfl ?_
    · (dsimp only; exact id)
    · exact Within.refl _ _

theorem within_unitLost (a0 : Nat) (a1 : Nat) (a2 : Option Nat) (s : State) : Within 4129 s (unitLost a0 a1 a2 s) := by
  unfold unitLost
  extract_lets x1
  have hx1 : Within 4129 s x1 := by
    unfold x1
    refine Within.after (within_rsat ..) rfl ?_
    exact Within.refl _ _
  clear_value x1
  split
  · refine Within.after (within_snapRowLost ..) rfl ?_
    assumption
  · assumption

theorem within_ageDrop (a0 : Nat) (a1 : Nat) (s : State) : Within 69673 s (ageDrop a0 a1 s) := by
  unfold ageDrop
  extract_lets x1
  clear_value x1
  split
  · exact Within.refl _ _
  · extract_lets x2
    have hx2 : Within 69673 s x2 := by
      unfold x2
      refine Within.after (within_unitLost ..) rfl ?_
      refine Within.after (within_noteAge ..) rfl ?_
      refine Within.after (within_putSet ..) rfl ?_
      exact Within.refl _ _
    clear_value x2
    refine Within.after (within_dlMiss ..) rfl ?_
    refine Within.after (within_raise ..) rfl ?_
    assumption

theorem within_ainMod (a0 : Nat) (a1 : Ain → Ain) (s : State) : Within 524288 s (ainMod a0 a1 s) := by
  unfold ainMod
  refine Within.after (within_thmMod ..) rfl ?_
  exact Within.refl _ _

theorem within_ainDeliver (a0 : Nat) (a1 : Int) (s : State) : Within 524288 s (ainDeliver a0 a1 s) := by
  unfold ainDeliver
  split
  · exact Within.refl _ _
  · refine Within.after (within_ainMod ..) rfl ?_
    exact Within.refl _ _

theorem within_applyFault (a0 : Nat) (a1 : MapChange) (s : State) : Within 65568 s (applyFault a0 a1 s) := by
  unfold applyFault
  extract_lets x1
  clear_value x1
  refine within_ite ?_ ?_
  · split
    · refine Within.after (within_raise ..) rfl ?_
      refine Within.after (within_putSet ..) rfl ?_
      exact Within.refl _ _
    · refine Within.after (within_raise ..) rfl ?_
      refine Within.after (within_putSet ..) rfl ?_
      exact Within.refl _ _
  · exact Within.refl _ _

theorem within_beginWant (a0 : Nat) (s : State) : Within 65568 s (beginWant a0 s) := by
  unfold beginWant
  extract_lets x1
  clear_value x1
  split
  · extract_lets x2 x3
    clear_value x2
    clear_value x3
    split
    · extract_lets x4
      clear_value x4
      refine Within.after (within_putSet ..) rfl ?_
      exact Within.refl _ _
    · refine Within.after (within_raiseIf ..) rfl ?_
      refine Within.after (within_putSet ..) rfl ?_
      exact Within.refl _ _
  · exact Within.refl _ _

theorem within_sendStatus (a0 : Nat) (a1 : Nat) (s : State) : Within 65536 s (sendStatus a0 a1 s) := by
  unfold sendStatus
  extract_lets x1 x2 x3
  clear_value x1
  clear_value x2
  clear_value x3
  refine within_ite ?_ ?_
  · exact Within.refl _ _
  · refine Within.after (within_putSet ..) rfl ?_
    exact Within.refl _ _

theorem within_queuesLost (a0 : Nat) (a1 : List (List LUnit)) (s : State) : Within 4129 s (queuesLost a0 a1 s) := by
  unfold queuesLost
  refine within_foldl ?_ ?_
  · intro y1 y2 y3
    refine within_foldl ?_ ?_
    · intro y4 y5 y6
      refine Within.after (within_unitLost ..) rfl ?_
      assumption
    · assumption
  · exact Within.refl _ _

theorem within_resendReport (a0 : Nat) (s : State) : Within 65568 s (resendReport a0 s) := by
  unfold resendReport
  extract_lets x1
  clear_value x1
  refine within_ite ?_ ?_
  · exact Within.refl _ _
  · refine Within.after (within_raise ..) rfl ?_
    refine Within.after (within_putSet ..) rfl ?_
    exact Within.refl _ _

theorem within_setMod (a0 : Nat) (a1 : LaneSet → LaneSet) (s : State) : Within 65536 s (setMod a0 a1 s) := by
  unfold setMod
  refine Within.after (within_putSet ..) rfl ?_
  exact Within.refl _ _

theorem within_setDown (a0 : Nat) (s : State) : Within 69665 s (setDown a0 s) := by
  unfold setDown
  refine Within.after (within_raise ..) rfl ?_
  refine Within.after (within_queuesLost ..) rfl ?_
  refine Within.after (within_resendReport ..) rfl ?_
  refine Within.after (within_setMod ..) rfl ?_
  exact Within.refl _ _

theorem within_changeMap (a0 : Nat) (s : State) : Within 69665 s (changeMap a0 s) := by
  unfold changeMap
  extract_lets x1 x2 x3 x4
  have hx3 : Within 69665 s x3 := by
    unfold x3
    refine within_foldl ?_ ?_
    · intro y5 y6 y7
      refine Within.after (within_applyFault ..) rfl ?_
      assumption
    · exact Within.refl _ _
  have hx4 : Within 69665 s x4 := by
    unfold x4
    refine Within.after (within_setMod ..) rfl ?_
    assumption
  clear_value x1
  clear_value x2
  clear_value x3
  clear_value x4
  refine within_ite ?_ ?_
  · refine within_ite ?_ ?_
    · refine Within.after (within_setDown ..) rfl ?_
      assumption
    · refine Within.after (within_beginWant ..) rfl ?_
      refine Within.after (within_sendStatus ..) rfl ?_
      assumption
  · split
    · refine within_ite ?_ ?_
      · extract_lets x8 x9 x10
        have hx9 : Within 69665 s x9 := by
          unfold x9
          refine Within.after (within_putSet ..) rfl ?_
          exact Within.refl _ _
        have hx10 : Within 69665 s x10 := by
          unfold x10
          refine within_ite ?_ ?_
          · refine Within.after (within_raise ..) rfl ?_
            refine Within.after (within_setMod ..) rfl ?_
            assumption
          · refine Within.after (within_raise ..) rfl ?_
            assumption
        clear_value x8
        clear_value x9
        clear_value x10
        refine Within.after (within_beginWant ..) rfl ?_
        refine Within.after (within_sendStatus ..) rfl ?_
        assumption
      · exact Within.refl _ _
    · exact Within.refl _ _

theorem within_settleLanes (a0 : Nat) (s : State) : Within 65537 s (settleLanes a0 s) := by
  unfold settleLanes
  extract_lets x1
  clear_value x1
  refine within_foldl ?_ ?_
  · intro y2 y3 y4
    refine Within.after (within_rset ..) rfl ?_
    assumption
  · refine Within.after (within_lnkMod ..) rfl ?_
    exact Within.refl _ _

theorem within_wireAll (a0 : Nat) (a1 : List (Nat × Nat × Nat)) (s : State) : Within 65536 s (wireAll a0 a1 s) := by
  unfold wireAll
  extract_lets x1 x2
  clear_value x1
  clear_value x2
  refine Within.after (within_lnkMod ..) rfl ?_
  exact Within.refl _ _

theorem within_wireSend (a0 : Nat) (a1 : Nat) (a2 : Nat) (a3 : Nat) (s : State)
    : Within 65536 s (wireSend a0 a1 a2 a3 s) := by
  unfold wireSend
  refine Within.after (within_wireAll ..) rfl ?_
  exact Within.refl _ _

theorem within_alignRow (a0 : Nat) (s : State) : Within 69665 s (alignRow a0 s) := by
  unfold alignRow
  extract_lets x1 x2 x3 x4 x5
  clear_value x1
  clear_value x3
  have hx2 : Within 69665 s x2 := by
    unfold x2
    refine Within.after (within_settleLanes ..) rfl ?_
    refine Within.after (within_changeMap ..) rfl ?_
    exact Within.refl _ _
  have hx5 : Within 69665 s x5 := by
    unfold x5
    refine within_foldl ?_ ?_
    · intro y6 y7 y8
      dsimp -zeta only [x4]
      extract_lets x9
      clear_value x9
      refine Within.after (within_wireSend ..) rfl ?_
      assumption
    · assumption
  clear_value x2
  clear_value x5
  refine within_ite ?_ ?_
  · exact Within.refl _ _
  · refine Within.after (within_setMod ..) rfl ?_
    refine within_foldl ?_ ?_
    · intro y10 y11 y12
      refine within_ite ?_ ?_
      · refine Within.after (within_wirePrbs ..) rfl ?_
        assumption
      · dsimp -zeta only [x4]
        extract_lets x13
        clear_value x13
        refine Within.after (within_wireSend ..) rfl ?_
        assumption
    · assumption

theorem within_xwSendMask (a0 : Nat) (a1 : XwMsg) (s : State) : Within 512 s (xwSendMask a0 a1 s) := by
  unfold xwSendMask
  refine within_foldl ?_ ?_
  · intro y1 y2 y3
    refine within_ite ?_ ?_
    · refine Within.after (within_xwSend ..) rfl ?_
      assumption
    · assumption
  · exact Within.refl _ _

theorem within_announceSend (s : State) : Within 512 s (announceSend s) := by
  unfold announceSend
  refine within_ite ?_ ?_
  · refine Within.after (within_xwSendMask ..) rfl ?_
    exact Within.refl _ _
  · exact Within.refl _ _

theorem within_elapsedKept (a0 : Int) (s : State) : Within 787296 s (elapsedKept a0 s) := by
  unfold elapsedKept
  extract_lets x1 x2 x3 x4 x5 x6 x7 x8 x9
  clear_value x1
  clear_value x2
  clear_value x3
  refine within_mk rfl ?_ (hf := form_eq)
  exact Within.refl _ _

theorem within_loadT (a0 : Nat) (s : State) : Within 918516 s (loadT a0 s) := by
  unfold loadT
  extract_lets x1 x2 x3 x4 x5 x6
  clear_value x1
  clear_value x2
  have hx3 : Within 918516 s x3 := by
    unfold x3
    refine Within.after (within_elapsedKept ..) rfl ?_
    refine Within.after (within_abandonJumped ..) rfl ?_
    exact Within.refl _ _
  clear_value x3
  refine Within.after (within_raise0 ..) rfl ?_
  refine Within.after (within_grpMod ..) rfl ?_
  refine within_mk rfl ?_ (hf := form_eq)
  assumption

theorem within_announceTaken (a0 : Nat) (a1 : XwMsg) (s : State) : Within 918516 s (announceTaken a0 a1 s) := by
  unfold announceTaken
  split
  · extract_lets x1 x2 x3
    clear_value x1
    have hx2 : Within 918516 s x2 := by
      unfold x2
      refine Within.after (within_xwSendMask ..) rfl ?_
      exact Within.refl _ _
    have hx3 : Within 918516 s x3 := by
      unfold x3
      refine Within.after (within_grpMod ..) rfl ?_
      assumption
    clear_value x2
    clear_value x3
    refine within_ite ?_ ?_
    · exact Within.refl _ _
    · refine within_ite ?_ ?_
      · refine within_ite ?_ ?_
        · exact Within.refl _ _
        · refine within_ite ?_ ?_
          · assumption
          · refine Within.after (within_loadT ..) rfl ?_
            assumption
      · refine within_ite ?_ ?_
        · refine Within.after (within_raise0 ..) rfl ?_
          refine Within.after (within_grpMod ..) rfl ?_
          exact Within.refl _ _
        · exact Within.refl _ _
  · exact Within.refl _ _

theorem within_applyResult (a0 : Nat) (s : State) : Within 1 s (applyResult a0 s) := by
  unfold applyResult
  refine Within.after (within_rfset ..) rfl ?_
  exact Within.refl _ _

theorem within_applyEpoch (s : State) : Within 1057 s (applyEpoch s) := by
  unfold applyEpoch
  split
  · refine within_ite ?_ ?_
    · exact Within.refl _ _
    · extract_lets x6
      have hx6 : Within 1057 s x6 := by
        unfold x6
        refine Within.after (within_aryMod ..) rfl ?_
        exact Within.refl _ _
      clear_value x6
      refine Within.after (within_raise0 ..) rfl ?_
      refine Within.after (within_applyResult ..) rfl ?_
      refine Within.after (within_showSet ..) rfl ?_
      assumption
  · exact Within.refl _ _

theorem within_markChanged (a0 : List Nat) (s : State) : Within 131072 s (markChanged a0 s) := by
  unfold markChanged
  refine within_foldl ?_ ?_
  · intro y1 y2 y3
    refine Within.after (within_engMod ..) rfl ?_
    assumption
  · exact Within.refl _ _

theorem within_putStep (a0 : Nat) (a1 : Nat) (s : State) : Within 131072 s (putStep a0 a1 s) := by
  unfold putStep
  refine Within.after (within_markChanged ..) rfl ?_
  refine Within.after (within_penMod ?_) rfl ?_
  · exact fun h => mapForm_mputD (d := fun _ => 0#32) _ _ h
  · exact Within.refl _ _

theorem within_imageSteps (a : Nat) (bs : List Byte) (s : State) : Within 131072 s (imageSteps a bs s) := by
  fun_induction imageSteps a bs s with
  | case1 a b0 b1 b2 b3 rest s ih => exact Within.trans (Within.weaken rfl (within_putStep ..)) ih
  | case2 => exact Within.refl _ _

theorem within_imageMem (a0 : Nat) (a1 : Nat) (a2 : List Byte) (s : State) : Within 167936 s (imageMem a0 a1 a2 s) := by
  unfold imageMem
  split
  · refine Within.after (within_pmWrite ..) rfl ?_
    exact Within.refl _ _
  · refine Within.after (within_tmemWrite ..) rfl ?_
    exact Within.refl _ _
  · refine Within.after (within_imageSteps ..) rfl ?_
    exact Within.refl _ _

theorem within_evtPendClear (a0 : Nat) (a1 : Nat) (a2 : Nat) (s : State) : Within 32 s (evtPendClear a0 a1 a2 s) := by
  unfold evtPendClear
  refine within_mk rfl ?_ (hf := form_eq)
  exact Within.refl _ _

theorem within_imageWrite (a0 : Nat) (a1 : Nat) (a2 : Nat) (s : State) : Within 131105 s (imageWrite a0 a1 a2 s) := by
  unfold imageWrite
  refine within_ite ?_ ?_
  · extract_lets x1
    clear_value x1
    refine Within.after (within_rfset ..) rfl ?_
    refine Within.after (within_putStep ..) rfl ?_
    exact Within.refl _ _
  · split
    · refine Within.after (within_evtPendClear ..) rfl ?_
      exact Within.refl _ _
    · extract_lets x2
      have hx2 : Within 131105 s x2 := by
        unfold x2
        refine Within.after (within_progWritten ..) rfl ?_
        refine Within.after (within_rset ..) rfl ?_
        exact Within.refl _ _
      clear_value x2
      refine within_ite ?_ ?_
      · refine Within.after (within_penMod ?_) rfl ?_
        · (dsimp only; exact id)
        · assumption
      · assumption

theorem within_imageWords (target a : Nat) (bs : List Byte) (s : State) : WithinO 131105 s (fun r => r) (imageWords target a bs s) := by
  fun_induction imageWords target a bs s with
  | case1 a b0 b1 b2 b3 rest s h ih => exact withinO_after ih rfl (Within.weaken rfl (within_imageWrite ..))
  | case2 => exact withinO_none
  | case3 => exact withinO_some (Within.refl _ _)

theorem within_applyRecords (a0 : Nat) (a1 : Nat) (a2 : List Byte) (s : State)
    : WithinO 167969 s (fun r => r) (applyRecords a0 a1 a2 s) := by
  induction a1 generalizing a0 a2 s
  · unfold applyRecords
    exact withinO_none
  · rename_i n ih
    unfold applyRecords
    extract_lets x11 x12 x13 x14 x15 x16
    clear_value x11
    clear_value x12
    clear_value x13
    clear_value x14
    clear_value x15
    clear_value x16
    split
    · exact withinO_none
    · split
      · split
        · exact withinO_none
        · split
          · rename_i hq25
            refine (fun hw25 => ?_) (withinO_get (k := 167969) (s := s) (p := fun r => r) hq25 ?_)
            · refine withinO_after (ih ..) rfl ?_
              assumption
            · refine withinO_after (within_imageWords ..) rfl ?_
              exact Within.refl _ _
          · exact withinO_none
      · split
        · exact withinO_none
        · refine withinO_after (ih ..) rfl ?_
          refine Within.after (within_imageMem ..) rfl ?_
          exact Within.refl _ _
      · split
        · refine withinO_some ?_
          exact Within.refl _ _
        · exact withinO_none
      · exact withinO_none

theorem within_applySection (a0 : Nat) (a1 : TocEnt) (s : State) : WithinO 167969 s (fun r => r) (applySection a0 a1 s) := by
  unfold applySection
  refine withinO_after (within_applyRecords ..) rfl ?_
  exact Within.refl _ _

theorem within_armExpire (s : State) : Within 8193 s (armExpire s) := by
  unfold armExpire
  extract_lets x1
  clear_value x1
  split
  · exact Within.refl _ _
  · extract_lets x2
    have hx2 : Within 8193 s x2 := by
      unfold x2
      refine Within.after (within_rsat ..) rfl ?_
      refine Within.after (within_vdtMod ..) rfl ?_
      exact Within.refl _ _
    clear_value x2
    refine within_ite ?_ ?_
    · split
      · refine Within.after (within_cancelGust ..) rfl ?_
        assumption
      · assumption
    · assumption

theorem within_readoutCut (s : State) : Within 3072 s (readoutCut s) := by
  unfold readoutCut
  extract_lets x1 x2 x3
  clear_value x1
  refine within_mk rfl ?_ (hf := form_eq)
  exact Within.refl _ _

theorem within_withdrawCommit (a0 : Nat) (a1 : PendingCommit) (s : State) : Within 1057 s (withdrawCommit a0 a1 s) := by
  unfold withdrawCommit
  refine Within.after (within_raise0 ..) rfl ?_
  refine Within.after (within_applyResult ..) rfl ?_
  refine Within.after (within_rfset ..) rfl ?_
  refine Within.after (within_aryMod ..) rfl ?_
  exact Within.refl _ _

theorem within_aryResetScope (a0 : Nat) (s : State) : Within 7201 s (aryResetScope a0 s) := by
  unfold aryResetScope
  refine within_ite ?_ ?_
  · split
    · refine Within.after (within_withdrawCommit ..) rfl ?_
      exact Within.refl _ _
    · exact Within.refl _ _
  · refine within_ite ?_ ?_
    · refine within_ite ?_ ?_
      · extract_lets x1 x2
        have hx1 : Within 7201 s x1 := by
          unfold x1
          refine Within.after (within_aryMod ..) rfl ?_
          exact Within.refl _ _
        clear_value x1
        refine Within.after (within_rfset ..) rfl ?_
        refine Within.after (within_rfset ..) rfl ?_
        refine within_mk rfl ?_ (hf := form_eq)
        assumption
      · exact Within.refl _ _
    · refine within_ite ?_ ?_
      · refine Within.after (within_aryMod ..) rfl ?_
        exact Within.refl _ _
      · refine within_ite ?_ ?_
        · refine Within.after (within_aryMod ..) rfl ?_
          exact Within.refl _ _
        · refine within_ite ?_ ?_
          · refine Within.after (within_readoutCut ..) rfl ?_
            exact Within.refl _ _
          · exact Within.refl _ _

theorem within_grantEnd (a0 : Nat) (a1 : Nat) (s : State) : Within 262144 s (grantEnd a0 a1 s) := by
  unfold grantEnd
  refine Within.after (within_nrgMod ..) rfl ?_
  exact Within.refl _ _

theorem within_grantDrop (a0 : Nat) (a1 : Nat) (s : State) : Within 262144 s (grantDrop a0 a1 s) := by
  unfold grantDrop
  refine Within.after (within_grantEnd ..) rfl ?_
  refine Within.after (within_nrgMod ..) rfl ?_
  exact Within.refl _ _

theorem within_rowsLost (a0 : List (Option Nat)) (s : State) : Within 4129 s (rowsLost a0 s) := by
  unfold rowsLost
  refine within_foldl ?_ ?_
  · intro y1 y2 y3
    refine Within.after (within_snapRowLost ..) rfl ?_
    assumption
  · exact Within.refl _ _

theorem within_snapUnitsDiscarded (s : State) : Within 69665 s (snapUnitsDiscarded s) := by
  unfold snapUnitsDiscarded
  extract_lets x1 x2
  clear_value x1
  clear_value x2
  refine within_foldl ?_ ?_
  · intro y3 y4 y5
    refine Within.after (within_queuesLost ..) rfl ?_
    assumption
  · refine Within.after (within_rowsLost ..) rfl ?_
    refine Within.after (within_lnkMod ..) rfl ?_
    refine Within.after (within_pipMod ?_) rfl ?_
    · (dsimp only; exact id)
    · exact Within.refl _ _

theorem within_arrayStopped (s : State) : Within 334881 s (arrayStopped s) := by
  unfold arrayStopped
  refine Within.after (within_aryMod ..) rfl ?_
  refine Within.after (within_grantDrop ..) rfl ?_
  refine Within.after (within_snapUnitsDiscarded ..) rfl ?_
  refine Within.after (within_aryResetScope ..) rfl ?_
  exact Within.refl _ _

theorem within_askAgain (a0 : Nat) (s : State) : Within 524288 s (askAgain a0 s) := by
  unfold askAgain
  extract_lets x1
  clear_value x1
  refine Within.after (within_thmMod ..) rfl ?_
  exact Within.refl _ _

theorem within_askReconv (a0 : Nat) (s : State) : Within 524288 s (askReconv a0 s) := by
  unfold askReconv
  refine within_ite ?_ ?_
  · exact Within.refl _ _
  · refine Within.after (within_thmMod ..) rfl ?_
    exact Within.refl _ _

theorem within_attStatus (a0 : Nat) (s : State) : Within 1 s (attStatus a0 s) := by
  unfold attStatus
  refine Within.after (within_rfset ..) rfl ?_
  exact Within.refl _ _

theorem within_attAbort (s : State) : Within 262273 s (attAbort s) := by
  unfold attAbort
  refine within_ite ?_ ?_
  · refine Within.after (within_grantEnd ..) rfl ?_
    refine Within.after (within_attStatus ..) rfl ?_
    refine Within.after (within_mgtMod ?_) rfl ?_
    · (dsimp only; exact id)
    · exact Within.refl _ _
  · exact Within.refl _ _

theorem within_grantRequest (a0 : Nat) (a1 : Nat) (s : State) : Within 262144 s (grantRequest a0 a1 s) := by
  unfold grantRequest
  refine within_ite ?_ ?_
  · refine Within.after (within_nrgMod ..) rfl ?_
    exact Within.refl _ _
  · exact Within.refl _ _

theorem within_attGo (s : State) : Within 262273 s (attGo s) := by
  unfold attGo
  refine within_ite ?_ ?_
  · exact Within.refl _ _
  · refine Within.after (within_grantRequest ..) rfl ?_
    refine Within.after (within_attStatus ..) rfl ?_
    refine Within.after (within_mgtMod ?_) rfl ?_
    · (dsimp only; exact id)
    · exact Within.refl _ _

theorem within_attestationDone (s : State) : Within 1310849 s (attestationDone s) := by
  unfold attestationDone
  refine within_ite ?_ ?_
  · extract_lets x1
    have hx1 : Within 1310849 s x1.2 := by
      unfold x1
      refine Within.after (within_takeFree ..) rfl ?_
      exact Within.refl _ _
    clear_value x1
    refine Within.after (within_grantEnd ..) rfl ?_
    refine Within.after (within_rwrap ..) rfl ?_
    refine Within.after (within_attStatus ..) rfl ?_
    refine Within.after (within_mgtMod ?_) rfl ?_
    · (dsimp only; exact id)
    · assumption
  · exact Within.refl _ _

theorem within_raiseSlice (a0 : Nat) (a1 : Nat) (a2 : Nat) (a3 : List Nat) (s : State)
    : Within 32 s (raiseSlice a0 a1 a2 a3 s) := by
  unfold raiseSlice
  refine Within.after (within_raise ..) rfl ?_
  exact Within.refl _ _

theorem within_defectEvent (a0 : Nat) (a1 : Nat) (s : State) : Within 32 s (defectEvent a0 a1 s) := by
  unfold defectEvent
  refine within_ite ?_ ?_
  · refine Within.after (within_raiseSlice ..) rfl ?_
    exact Within.refl _ _
  · refine Within.after (within_raiseSlice ..) rfl ?_
    exact Within.refl _ _

theorem within_setSlice (s : State) (a1 : Nat) (a2 : Slice) : Within 2048 s (setSlice s a1 a2) := by
  unfold setSlice
  refine within_mk rfl ?_ (hf := form_eq)
  exact Within.refl _ _

theorem within_updStage (a0 : Nat) (s : State) : Within 2080 s (updStage a0 s) := by
  unfold updStage
  extract_lets x1 x2 x3 x4
  have hx3 : Within 2080 s x3 := by
    unfold x3
    refine Within.after (within_raiseSlice ..) rfl ?_
    refine Within.after (within_setSlice ..) rfl ?_
    exact Within.refl _ _
  have hx4 : Within 2080 s x4 := by
    unfold x4
    refine within_ite ?_ ?_
    · refine Within.after (within_raiseSlice ..) rfl ?_
      assumption
    · assumption
  clear_value x1
  clear_value x2
  clear_value x3
  clear_value x4
  refine within_ite ?_ ?_
  · exact Within.refl _ _
  · refine within_ite ?_ ?_
    · refine Within.after (within_raiseSlice ..) rfl ?_
      assumption
    · assumption

theorem within_makeDefective (a0 : Nat) (a1 : Nat) (s : State) : Within 2080 s (makeDefective a0 a1 s) := by
  unfold makeDefective
  extract_lets x1 x2
  clear_value x1
  clear_value x2
  refine within_ite ?_ ?_
  · exact Within.refl _ _
  · refine Within.after (within_updStage ..) rfl ?_
    refine Within.after (within_defectEvent ..) rfl ?_
    refine Within.after (within_setSlice ..) rfl ?_
    exact Within.refl _ _

theorem within_serveWaitF (a0 : Nat) (a1 : Nat) (s : State) : Within 2080 s (serveWaitF a0 a1 s) := by
  induction a0 generalizing a1 s
  · unfold serveWaitF
    exact Within.refl _ _
  · rename_i n ih
    unfold serveWaitF
    extract_lets x1
    clear_value x1
    refine within_ite ?_ ?_
    · exact Within.refl _ _
    · split
      · exact Within.refl _ _
      · extract_lets x2 x3 x4
        have hx3 : Within 2080 s x3 := by
          unfold x3
          refine Within.after (within_setSlice ..) rfl ?_
          exact Within.refl _ _
        have hx4 : Within 2080 s x4 := by
          unfold x4
          refine Within.after (within_setSlice ..) rfl ?_
          exact Within.refl _ _
        clear_value x2
        clear_value x3
        clear_value x4
        refine within_ite ?_ ?_
        · refine within_ite ?_ ?_
          · refine Within.after (ih ..) rfl ?_
            refine Within.after (within_setSlice ..) rfl ?_
            exact Within.refl _ _
          · split
            · refine Within.after (within_setSlice ..) rfl ?_
              exact Within.refl _ _
            · refine Within.after (ih ..) rfl ?_
              refine Within.after (within_updStage ..) rfl ?_
              refine Within.after (within_raiseSlice ..) rfl ?_
              assumption
        · refine within_ite ?_ ?_
          · refine Within.after (ih ..) rfl ?_
            refine within_ite ?_ ?_
            · refine Within.after (within_makeDefective ..) rfl ?_
              assumption
            · assumption
          · split
            · refine Within.after (within_raiseSlice ..) rfl ?_
              refine Within.after (within_setSlice ..) rfl ?_
              exact Within.refl _ _
            · refine Within.after (within_setSlice ..) rfl ?_
              exact Within.refl _ _

theorem within_serveWait (a0 : Nat) (s : State) : Within 2080 s (serveWait a0 s) := by
  unfold serveWait
  refine Within.after (within_serveWaitF ..) rfl ?_
  exact Within.refl _ _

theorem within_auditReplaced (a0 : Nat) (s : State) : Within 2080 s (auditReplaced a0 s) := by
  unfold auditReplaced
  extract_lets x1
  clear_value x1
  split
  · exact Within.refl _ _
  · refine within_ite ?_ ?_
    · exact Within.refl _ _
    · extract_lets x2 x3
      clear_value x2
      clear_value x3
      refine Within.after (within_serveWait ..) rfl ?_
      refine Within.after (within_updStage ..) rfl ?_
      refine Within.after (within_raiseSlice ..) rfl ?_
      refine Within.after (within_setSlice ..) rfl ?_
      exact Within.refl _ _

theorem within_startReset (a0 : Nat) (a1 : Nat) (a2 : Bool) (s : State) : Within 65 s (startReset a0 a1 a2 s) := by
  unfold startReset
  extract_lets x1 x2 x3
  clear_value x1
  clear_value x2
  refine Within.after (within_rset ..) rfl ?_
  refine within_mk rfl ?_ (hf := form_eq)
  exact Within.refl _ _

end Sys2Proof.Laws
end

