-- ==== Sys2Proof/Laws/FrameOps2.lean ====
section
/-! SUPPORT. For each operation, the parts of the state that it may change and that it keeps the form (part 2 of 6, in the order
in which operations build on each other). -/

namespace Sys2Proof.Laws

set_option Elab.async false

open Sys2Proof.Machine

theorem within_autoReset (a0 : Nat) (a1 : Nat) (s : State) : Within 65 s (autoReset a0 a1 s) := by
  unfold autoReset
  refine within_ite ?_ ?_
  · exact Within.refl _ _
  · extract_lets x1 x2 x3
    clear_value x1
    clear_value x2
    refine Within.after (within_rsat ..) rfl ?_
    refine Within.after (within_startReset ..) rfl ?_
    refine within_mk rfl ?_ (hf := form_eq)
    exact Within.refl _ _

theorem within_autoRecover (a0 : Nat) (a1 : Nat) (s : State) : Within 65 s (autoRecover a0 a1 s) := by
  unfold autoRecover
  refine within_ite ?_ ?_
  · refine Within.after (within_autoReset ..) rfl ?_
    exact Within.refl _ _
  · exact Within.refl _ _

theorem within_auxApply (s : State) : Within 32769 s (auxApply s) := by
  unfold auxApply
  refine within_foldl ?_ ?_
  · intro y1 y2 y3
    extract_lets x4
    clear_value x4
    split
    · assumption
    · extract_lets x5
      have hx5 : Within 32769 s x5 := by
        unfold x5
        refine Within.after (within_setPort ..) rfl ?_
        assumption
      clear_value x5
      refine Within.after (within_rsets ..) rfl ?_
      assumption
  · exact Within.refl _ _

theorem within_auxClear (a0 : Nat) (s : State) : Within 1 s (auxClear a0 s) := by
  unfold auxClear
  refine within_ite ?_ ?_
  · refine within_foldl ?_ ?_
    · intro y1 y2 y3
      extract_lets x4
      have hx4 : Within 1 s x4 := by
        unfold x4
        refine Within.after (within_rclear ..) rfl ?_
        assumption
      clear_value x4
      refine Within.after (within_rfset ..) rfl ?_
      refine Within.after (within_rfset ..) rfl ?_
      refine Within.after (within_rfset ..) rfl ?_
      assumption
    · refine Within.after (within_rclear ..) rfl ?_
      exact Within.refl _ _
  · exact Within.refl _ _

theorem within_auxCommit (a0 : Nat) (s : State) : Within 32768 s (auxCommit a0 s) := by
  unfold auxCommit
  refine within_foldl ?_ ?_
  · intro y1 y2 y3
    extract_lets x4
    clear_value x4
    refine Within.after (within_modPort ..) rfl ?_
    assumption
  · exact Within.refl _ _

theorem within_contextsRetire (s : State) : Within 32768 s (contextsRetire s) := by
  unfold contextsRetire
  refine within_mk rfl ?_ (hf := form_eq)
  exact Within.refl _ _

theorem within_exposureLoop (a0 : Nat) (s : State) : Within 1081377 s (exposureLoop a0 s) := by
  unfold exposureLoop
  extract_lets x1 x2 x3 x4 x5 x6 x7 x8
  clear_value x1
  clear_value x3
  clear_value x5
  clear_value x6
  clear_value x7
  clear_value x8
  have hx2 : Within 1081377 s x2 := by
    unfold x2
    refine Within.after (within_setPort ..) rfl ?_
    exact Within.refl _ _
  have hx4 : Within 1081377 s x4.2 := by
    unfold x4
    refine Within.after (within_takeFree ..) rfl ?_
    assumption
  clear_value x2
  clear_value x4
  split
  · exact Within.refl _ _
  · refine within_ite ?_ ?_
    · exact Within.refl _ _
    · refine within_ite ?_ ?_
      · refine Within.after (within_setPort ..) rfl ?_
        exact Within.refl _ _
      · extract_lets x9 x10 x11 x12 x13 x14 x15 x16 x17
        clear_value x11
        clear_value x12
        clear_value x16
        clear_value x17
        have hx9 : Within 1081377 s x9.2 := by
          unfold x9
          split
          · refine within_pair ?_
            assumption
          · refine within_pair ?_
            assumption
        have hx10 : Within 1081377 s x10 := by
          unfold x10
          assumption
        have hx13 : Within 1081377 s x13 := by
          unfold x13
          refine within_ite ?_ ?_
          · refine Within.after (within_raiseAux ..) rfl ?_
            assumption
          · assumption
        have hx14 : Within 1081377 s x14.2 := by
          unfold x14
          split
          · refine Within.after (within_takeFree ..) rfl ?_
            assumption
          · refine within_pair ?_
            assumption
        have hx15 : Within 1081377 s x15.2 := by
          unfold x15
          split
          · refine Within.after (within_takeFree ..) rfl ?_
            assumption
          · refine within_pair ?_
            assumption
        clear_value x9
        clear_value x10
        clear_value x13
        clear_value x14
        clear_value x15
        refine within_ite ?_ ?_
        · assumption
        · refine Within.after (within_rwrap ..) rfl ?_
          refine Within.after (within_modPort ..) rfl ?_
          assumption

theorem within_auxSettle (s : State) : Within 1081377 s (auxSettle s) := by
  unfold auxSettle
  refine Within.after (within_exposureLoop ..) rfl ?_
  refine Within.after (within_exposureLoop ..) rfl ?_
  refine Within.after (within_contextsRetire ..) rfl ?_
  exact Within.refl _ _

theorem within_auxLineLost (a0 : Nat) (a1 : Nat) (a2 : Bool) (s : State) : Within 1081377 s (auxLineLost a0 a1 a2 s) := by
  unfold auxLineLost
  refine Within.after (within_auxSettle ..) rfl ?_
  refine Within.after (within_modPort ..) rfl ?_
  refine Within.after (within_raiseAux ..) rfl ?_
  exact Within.refl _ _

theorem within_auxResetScope (a0 : Nat) (s : State) : Within 32769 s (auxResetScope a0 s) := by
  unfold auxResetScope
  extract_lets x1
  clear_value x1
  refine within_ite ?_ ?_
  · refine Within.after (within_modPort ..) rfl ?_
    exact Within.refl _ _
  · refine within_ite ?_ ?_
    · refine within_foldl ?_ ?_
      · intro y2 y3 y4
        refine within_ite ?_ ?_
        · assumption
        · extract_lets x5 x6
          clear_value x5
          clear_value x6
          refine Within.after (within_rsat ..) rfl ?_
          refine Within.after (within_setPort ..) rfl ?_
          assumption
      · exact Within.refl _ _
    · refine within_ite ?_ ?_
      · refine Within.after (within_modPort ..) rfl ?_
        exact Within.refl _ _
      · exact Within.refl _ _

theorem within_auxTbChange (a0 : Nat) (s : State) : Within 32800 s (auxTbChange a0 s) := by
  unfold auxTbChange
  refine within_foldl ?_ ?_
  · intro y1 y2 y3
    refine within_ite ?_ ?_
    · assumption
    · extract_lets x4 x5
      clear_value x4
      clear_value x5
      refine within_ite ?_ ?_
      · refine Within.after (within_raiseAux ..) rfl ?_
        refine Within.after (within_setPort ..) rfl ?_
        assumption
      · refine Within.after (within_setPort ..) rfl ?_
        assumption
  · exact Within.refl _ _

theorem within_auxUncommit (s : State) : Within 32768 s (auxUncommit s) := by
  unfold auxUncommit
  refine within_foldl ?_ ?_
  · intro y1 y2 y3
    refine Within.after (within_modPort ..) rfl ?_
    assumption
  · exact Within.refl _ _

theorem within_checkBacklog (s : State) : Within 41 s (checkBacklog s) := by
  unfold checkBacklog
  extract_lets x1 x2 x3 x4
  clear_value x2
  refine within_ite ?_ ?_
  · refine Within.after (within_dlMissUnless ..) rfl ?_
    refine within_mk rfl ?_ (hf := form_eq)
    exact Within.refl _ _
  · exact Within.refl _ _

theorem within_backlogJudged (a0 : Nat) (s : State) : Within 41 s (backlogJudged a0 s) := by
  unfold backlogJudged
  refine within_ite ?_ ?_
  · exact Within.refl _ _
  · refine Within.after (within_checkBacklog ..) rfl ?_
    exact Within.refl _ _

theorem within_rowDrvFault (a0 : Nat) (a1 : Nat) (a2 : Nat) (s : State) : Within 1121 s (rowDrvFault a0 a1 a2 s) := by
  unfold rowDrvFault
  refine Within.after (within_autoRecover ..) rfl ?_
  refine Within.after (within_raise ..) rfl ?_
  refine Within.after (within_aryMod ..) rfl ?_
  exact Within.refl _ _

theorem within_transferBands (a0 : CapLine) (a1 : Nat) (s : State) : Within 1024 s (transferBands a0 a1 s) := by
  unfold transferBands
  extract_lets x1
  clear_value x1
  refine Within.after (within_aryMod ..) rfl ?_
  exact Within.refl _ _

theorem within_bandTransfer (a0 : Nat) (a1 : Nat) (a2 : Nat) (s : State) : Within 1121 s (bandTransfer a0 a1 a2 s) := by
  unfold bandTransfer
  split
  · exact Within.refl _ _
  · refine within_ite ?_ ?_
    · exact Within.refl _ _
    · refine within_foldl ?_ ?_
      · intro y1 y2 y3
        refine within_ite ?_ ?_
        · refine Within.after (within_rowDrvFault ..) rfl ?_
          assumption
        · refine within_ite ?_ ?_
          · refine Within.after (within_rowDrvFault ..) rfl ?_
            assumption
          · assumption
      · refine Within.after (within_transferBands ..) rfl ?_
        exact Within.refl _ _

theorem within_beaconSend (s : State) : Within 528 s (beaconSend s) := by
  unfold beaconSend
  refine within_ite ?_ ?_
  · refine Within.after (within_grpMod ..) rfl ?_
    refine Within.after (within_xwSendMask ..) rfl ?_
    exact Within.refl _ _
  · exact Within.refl _ _

theorem within_setSec (a0 : Nat) (a1 : Sec) (s : State) : Within 4096 s (setSec a0 a1 s) := by
  unfold setSec
  refine Within.after (within_pipMod ?_) rfl ?_
  · (dsimp only; exact id)
  · exact Within.refl _ _

theorem within_bgKeep (a0 : Nat) (a1 : Nat) (s : State) : Within 4096 s (bgKeep a0 a1 s) := by
  unfold bgKeep
  split
  · refine Within.after (within_setSec ..) rfl ?_
    exact Within.refl _ _
  · exact Within.refl _ _

theorem within_bgBand (a0 : RegLine) (a1 : Nat) (s : State) : Within 4128 s (bgBand a0 a1 s) := by
  unfold bgBand
  extract_lets x1 x2 x3 x4 x5 x6 x7 x8
  clear_value x1
  clear_value x2
  clear_value x3
  clear_value x4
  clear_value x5
  clear_value x6
  clear_value x7
  have hx8 : Within 4128 s x8 := by
    unfold x8
    refine within_foldl ?_ ?_
    · intro y9 y10 y11
      split
      · extract_lets x12 x13
        clear_value x12
        clear_value x13
        refine Within.after (within_raiseIf ..) rfl ?_
        refine Within.after (within_pipMod ?_) rfl ?_
        · (dsimp only; exact id)
        · refine Within.after (within_pmSet16 ..) rfl ?_
          refine Within.after (within_bgKeep ..) rfl ?_
          assumption
      · refine Within.after (within_pipMod ?_) rfl ?_
        · (dsimp only; exact id)
        · assumption
    · exact Within.refl _ _
  clear_value x8
  refine within_ite ?_ ?_
  · exact Within.refl _ _
  · split
    · refine Within.after (within_raise ..) rfl ?_
      assumption
    · assumption

theorem within_bgUpdate (a0 : RegLine) (s : State) : Within 4128 s (bgUpdate a0 s) := by
  unfold bgUpdate
  refine within_ite ?_ ?_
  · exact Within.refl _ _
  · refine within_foldl ?_ ?_
    · intro y1 y2 y3
      refine Within.after (within_bgBand ..) rfl ?_
      assumption
    · exact Within.refl _ _

theorem within_blackJudge (a0 : Nat) (a1 : Nat) (a2 : Nat) (a3 : Nat) (s : State)
    : Within 2080 s (blackJudge a0 a1 a2 a3 s) := by
  unfold blackJudge
  extract_lets x1 x2 x3 x4 x5 x6 x7
  have hx2 : Within 2080 s x2 := by
    unfold x2
    refine within_mk rfl ?_ (hf := form_eq)
    exact Within.refl _ _
  have hx7 : Within 2080 s x7 := by
    unfold x7
    refine within_mk rfl ?_ (hf := form_eq)
    assumption
  clear_value x2
  clear_value x3
  clear_value x4
  clear_value x5
  clear_value x7
  refine within_ite ?_ ?_
  · assumption
  · refine Within.after (within_raiseIf ..) rfl ?_
    assumption

theorem within_mbMod (a0 : Mb → Mb) (s : State) : Within 256 s (mbMod a0 s) := by
  unfold mbMod
  refine within_mk rfl ?_ (hf := form_eq)
  exact Within.refl _ _

theorem within_fifoOutRead (s : State) : Within 131072 s (fifoOutRead s).2 := by
  unfold fifoOutRead
  extract_lets x1
  clear_value x1
  split
  · refine within_pair ?_
    exact Within.refl _ _
  · refine within_pair ?_
    refine Within.after (within_engMod ..) rfl ?_
    exact Within.refl _ _

theorem within_pmemRead (s : State) : Within 1 s (pmemRead s).2 := by
  unfold pmemRead
  extract_lets x1
  clear_value x1
  refine within_pair ?_
  refine Within.after (within_rfset ..) rfl ?_
  exact Within.refl _ _

theorem within_xwMod (a0 : Nat) (a1 : XwLane → XwLane) (s : State) : Within 512 s (xwMod a0 a1 s) := by
  unfold xwMod
  refine Within.after (within_setXw ..) rfl ?_
  exact Within.refl _ _

theorem within_readDone (a0 : Nat) (s : State) : Within 197153 s (readDone a0 s) := by
  unfold readDone
  refine within_ite ?_ ?_
  · refine Within.after (within_fifoOutRead ..) rfl ?_
    exact Within.refl _ _
  · refine within_ite ?_ ?_
    · refine Within.after (within_pmemRead ..) rfl ?_
      exact Within.refl _ _
    · refine within_ite ?_ ?_
      · refine Within.after (within_lnkMod ..) rfl ?_
        exact Within.refl _ _
      · refine within_ite ?_ ?_
        · refine Within.after (within_rcdMod ?_) rfl ?_
          · (dsimp only; exact id)
          · exact Within.refl _ _
        · extract_lets x1
          have hx1 : Within 197153 s x1 := by
            unfold x1
            refine within_foldl ?_ ?_
            · intro y2 y3 y4
              refine Within.after (within_rfset ..) rfl ?_
              assumption
            · exact Within.refl _ _
          clear_value x1
          refine within_ite ?_ ?_
          · refine Within.after (within_xwMod ..) rfl ?_
            assumption
          · assumption

theorem within_recordLatch (s : State) : Within 33 s (recordLatch s) := by
  unfold recordLatch
  extract_lets x1 x2 x3
  clear_value x2
  split
  · refine within_mk rfl ?_ (hf := form_eq)
    exact Within.refl _ _
  · extract_lets x4
    have hx4 : Within 33 s x4 := by
      unfold x4
      refine within_mk rfl ?_ (hf := form_eq)
      exact Within.refl _ _
    clear_value x4
    refine Within.after (within_rset ..) rfl ?_
    assumption

theorem within_readLatch (a0 : Nat) (s : State) : Within 35 s (readLatch a0 s).2 := by
  unfold readLatch
  split
  · extract_lets x1
    have hx1 : Within 35 s x1 := by
      unfold x1
      refine Within.after (within_recordLatch ..) rfl ?_
      exact Within.refl _ _
    clear_value x1
    assumption
  · split
    · refine within_pair ?_
      exact Within.refl _ _
    · split
      · refine within_pair ?_
        refine within_mk rfl ?_ (hf := form_eq)
        exact Within.refl _ _
      · refine within_pair ?_
        exact Within.refl _ _

theorem within_busRead (a0 : Nat) (a1 : Nat) (s : State) : Within 197411 s (busRead a0 a1 s).2 := by
  induction a0 generalizing a1 s
  · unfold busRead
    refine within_pair ?_
    exact Within.refl _ _
  · rename_i n ih
    unfold busRead
    split
    · refine within_pair ?_
      exact Within.refl _ _
    · extract_lets x1 x2 x3 x4
      have hx1 : Within 197411 s x1.2 := by
        unfold x1
        refine Within.after (within_readLatch ..) rfl ?_
        exact Within.refl _ _
      have hx3 : Within 197411 s x3 := by
        unfold x3
        refine Within.after (within_mbMod ..) rfl ?_
        refine Within.after (within_readDone ..) rfl ?_
        assumption
      have hx4 : Within 197411 s x4.2 := by
        unfold x4
        refine Within.after (ih ..) rfl ?_
        assumption
      clear_value x1
      clear_value x2
      clear_value x3
      clear_value x4
      split
      · assumption
      · assumption

theorem within_mbCount (a0 : Nat) (a1 : Nat) (a2 : Nat) (s : State) : Within 1 s (mbCount a0 a1 a2 s) := by
  unfold mbCount
  refine Within.after (within_rsat ..) rfl ?_
  exact Within.refl _ _

theorem within_lullEnd (s : State) : Within 257 s (lullEnd s) := by
  unfold lullEnd
  refine Within.after (within_mbCount ..) rfl ?_
  refine Within.after (within_mbMod ..) rfl ?_
  exact Within.refl _ _

theorem within_mbShow (a0 : Bool) (a1 : List Byte) (s : State) : Within 256 s (mbShow a0 a1 s) := by
  unfold mbShow
  refine Within.after (within_mbMod ..) rfl ?_
  exact Within.refl _ _

theorem within_mbAddressed {k : Nat} {s0 s : State} {a : Nat} {f : Bool → State → State} (hf : ∀ b x, Within k s0 x → Within k s0 (f b x))
    (h7 : 257 &&& k = 257) (h6 : 256 &&& k = 256) (h : Within k s0 s) : Within k s0 (mbAddressed a f s) := by
  unfold mbAddressed
  extract_lets x1 own s1
  clear_value x1 own
  have h1 : Within k s0 s1 := Within.after (within_mbMod ..) h6 h
  split
  · exact h
  · split
    · exact Within.after (within_mbShow ..) h6 (Within.after (within_lullEnd ..) h7 h1)
    · exact hf _ _ (Within.after (within_mbMod ..) h6 h1)

theorem within_mbDone (a0 : Bool) (a1 : List Byte) (s : State) : Within 257 s (mbDone a0 a1 s) := by
  unfold mbDone
  refine Within.after (within_mbShow ..) rfl ?_
  refine within_ite ?_ ?_
  · exact Within.refl _ _
  · refine Within.after (within_rwrap ..) rfl ?_
    exact Within.refl _ _

theorem within_mbRefuse (s : State) : Within 289 s (mbRefuse s) := by
  unfold mbRefuse
  refine Within.after (within_mbShow ..) rfl ?_
  refine Within.after (within_raise0 ..) rfl ?_
  refine Within.after (within_mbCount ..) rfl ?_
  exact Within.refl _ _

theorem within_blockRead (a0 : Nat) (a1 : Nat) (a2 : Nat) (s : State) : Within 197411 s (blockRead a0 a1 a2 s) := by
  unfold blockRead
  refine within_mbAddressed ?_ ?_ ?_ ?_
  · intro y4 y5 y6
    refine within_ite ?_ ?_
    · refine Within.after (within_mbRefuse ..) rfl ?_
      assumption
    · refine within_ite ?_ ?_
      · refine Within.after (within_mbShow ..) rfl ?_
        assumption
      · extract_lets x7 x8 x9 x10
        have hx8 : Within 197411 s x8.2 := by
          unfold x8
          refine Within.after (within_busRead ..) rfl ?_
          assumption
        clear_value x7
        clear_value x8
        clear_value x9
        clear_value x10
        refine Within.after (within_mbDone ..) rfl ?_
        assumption
  · rfl
  · rfl
  · exact Within.refl _ _

theorem within_commitImage (s : State) : Within 160 s (commitImage s) := by
  unfold commitImage
  extract_lets x1 x2
  clear_value x1
  clear_value x2
  refine within_ite ?_ ?_
  · exact Within.refl _ _
  · refine Within.after (within_raise0 ..) rfl ?_
    refine Within.after (within_mgtMod ?_) rfl ?_
    · (dsimp only; exact id)
    · exact Within.refl _ _

theorem within_bootCommit (s : State) : Within 160 s (bootCommit s) := by
  unfold bootCommit
  refine within_ite ?_ ?_
  · refine Within.after (within_commitImage ..) rfl ?_
    exact Within.refl _ _
  · exact Within.refl _ _

theorem within_flashPut (a0 : Nat) (a1 : List Byte) (s : State) : Within 128 s (flashPut a0 a1 s) := by
  unfold flashPut
  refine Within.after (within_mgtMod ?_) rfl ?_
  · exact mapForm_mputs _ _ _ _
  · exact Within.refl _ _

theorem within_flashUndefined (a0 : Nat) (a1 : Nat) (s : State) : Within 1048704 s (flashUndefined a0 a1 s) := by
  induction a1 generalizing a0 s
  · unfold flashUndefined
    exact Within.refl _ _
  · rename_i n ih
    unfold flashUndefined
    extract_lets x1
    have hx1 : Within 1048704 s x1.2 := by
      unfold x1
      refine Within.after (within_takeFree ..) rfl ?_
      exact Within.refl _ _
    clear_value x1
    refine Within.after (ih ..) rfl ?_
    refine Within.after (within_flashPut ..) rfl ?_
    assumption

theorem within_nvCutShort (a0 : NvOp) (s : State) : Within 1048704 s (nvCutShort a0 s) := by
  unfold nvCutShort
  refine within_ite ?_ ?_
  · exact Within.refl _ _
  · refine within_ite ?_ ?_
    · refine Within.after (within_flashUndefined ..) rfl ?_
      exact Within.refl _ _
    · refine Within.after (within_flashUndefined ..) rfl ?_
      exact Within.refl _ _

theorem within_eraseCut (s : State) : Within 1048704 s (eraseCut s) := by
  unfold eraseCut
  extract_lets x1
  have hx1 : Within 1048704 s x1 := by
    unfold x1
    refine within_foldl ?_ ?_
    · intro y2 y3 y4
      refine Within.after (within_nvCutShort ..) rfl ?_
      assumption
    · exact Within.refl _ _
  clear_value x1
  split
  · refine Within.after (within_flashUndefined ..) rfl ?_
    assumption
  · assumption

theorem within_programCut (s : State) : Within 1048704 s (programCut s) := by
  unfold programCut
  refine within_ite ?_ ?_
  · exact Within.refl _ _
  · split
    · refine Within.after (within_flashUndefined ..) rfl ?_
      exact Within.refl _ _
    · refine Within.after (within_nvCutShort ..) rfl ?_
      exact Within.refl _ _
    · refine Within.after (within_nvCutShort ..) rfl ?_
      exact Within.refl _ _
    · exact Within.refl _ _

theorem within_startUp (s : State) : Within 1048575 s (startUp s) := by
  unfold startUp
  extract_lets x1 x2 x3 x4 x5 x6
  have hx1 : Within 1048575 s x1 := by
    unfold x1
    refine Within.after (within_heldInReset ..) rfl ?_
    exact Within.refl _ _
  have hx5 : Within 1048575 s x5 := by
    unfold x5
    refine within_mk rfl ?_ (hf := form_eq)
    assumption
  have hx6 : Within 1048575 s x6 := by
    unfold x6
    refine Within.after (within_raiseIf ..) rfl ?_
    refine within_foldl ?_ ?_
    · intro y7 y8 y9
      refine Within.after (within_raise0 ..) rfl ?_
      assumption
    · refine within_ite ?_ ?_
      · refine Within.after (within_attStatus ..) rfl ?_
        assumption
      · assumption
  clear_value x1
  clear_value x5
  clear_value x6
  split
  · assumption
  · refine Within.after (within_raiseIf ..) rfl ?_
    refine Within.after (within_raise0 ..) rfl ?_
    assumption

theorem within_startIfFree (s : State) : Within 1048575 s (startIfFree s) := by
  unfold startIfFree
  refine within_ite ?_ ?_
  · refine Within.after (within_startUp ..) rfl ?_
    exact Within.refl _ _
  · exact Within.refl _ _

theorem within_restartNow (s : State) : Within 2097151 s (restartNow s) := by
  unfold restartNow
  refine Within.after (within_startIfFree ..) rfl ?_
  refine Within.after (within_heldInReset ..) rfl ?_
  refine Within.after (within_eraseCut ..) rfl ?_
  refine Within.after (within_programCut ..) rfl ?_
  exact Within.refl _ _

theorem within_bootRestart (s : State) : Within 2097151 s (bootRestart s) := by
  unfold bootRestart
  refine within_ite ?_ ?_
  · refine Within.after (within_restartNow ..) rfl ?_
    exact Within.refl _ _
  · exact Within.refl _ _

theorem within_nvSettle (s : State) : Within 128 s (nvSettle s) := by
  unfold nvSettle
  refine within_mk rfl ?_ (hf := form_eq)
  exact Within.refl _ _

theorem within_bootVerify (s : State) : Within 129 s (bootVerify s) := by
  unfold bootVerify
  extract_lets x1
  clear_value x1
  refine within_ite ?_ ?_
  · exact Within.refl _ _
  · refine Within.after (within_nvSettle ..) rfl ?_
    refine Within.after (within_rfset ..) rfl ?_
    refine Within.after (within_mgtMod ?_) rfl ?_
    · (dsimp only; exact id)
    · exact Within.refl _ _

theorem within_cancel (s : State) : Within 1057 s (cancel s) := by
  unfold cancel
  split
  · exact Within.refl _ _
  · refine within_ite ?_ ?_
    · refine Within.after (within_applyResult ..) rfl ?_
      exact Within.refl _ _
    · refine Within.after (within_withdrawCommit ..) rfl ?_
      exact Within.refl _ _

theorem within_cancelStaged (s : State) : Within 33825 s (cancelStaged s) := by
  unfold cancelStaged
  extract_lets x1
  have hx1 : Within 33825 s x1 := by
    unfold x1
    refine Within.after (within_cancel ..) rfl ?_
    exact Within.refl _ _
  clear_value x1
  refine within_ite ?_ ?_
  · refine Within.after (within_auxUncommit ..) rfl ?_
    assumption
  · assumption

theorem within_gustClear (a0 : Nat) (s : State) : Within 1 s (gustClear a0 s) := by
  unfold gustClear
  refine within_ite ?_ ?_
  · refine Within.after (within_rfset ..) rfl ?_
    refine Within.after (within_rclear ..) rfl ?_
    exact Within.refl _ _
  · exact Within.refl _ _

theorem within_lnkClear (a0 : Nat) (s : State) : Within 1 s (lnkClear a0 s) := by
  unfold lnkClear
  refine within_ite ?_ ?_
  · extract_lets x1
    have hx1 : Within 1 s x1 := by
      unfold x1
      refine Within.after (within_rclear ..) rfl ?_
      exact Within.refl _ _
    clear_value x1
    refine within_foldl ?_ ?_
    · intro y2 y3 y4
      refine Within.after (within_rfset ..) rfl ?_
      assumption
    · assumption
  · exact Within.refl _ _

theorem within_outClear (a0 : Nat) (s : State) : Within 1 s (outClear a0 s) := by
  unfold outClear
  refine within_ite ?_ ?_
  · refine Within.after (within_rfset ..) rfl ?_
    refine Within.after (within_rclear ..) rfl ?_
    exact Within.refl _ _
  · exact Within.refl _ _

theorem within_penClear (a0 : Nat) (s : State) : Within 131073 s (penClear a0 s) := by
  unfold penClear
  extract_lets x1
  have hx1 : Within 131073 s x1 := by
    unfold x1
    refine within_ite ?_ ?_
    · refine Within.after (within_rclear ..) rfl ?_
      exact Within.refl _ _
    · exact Within.refl _ _
  clear_value x1
  refine within_ite ?_ ?_
  · refine Within.after (within_penMod ?_) rfl ?_
    · (dsimp only; exact id)
    · assumption
  · assumption

theorem within_pipClear (a0 : Nat) (s : State) : Within 1 s (pipClear a0 s) := by
  unfold pipClear
  refine within_ite ?_ ?_
  · refine Within.after (within_rclear ..) rfl ?_
    exact Within.refl _ _
  · exact Within.refl _ _

theorem within_recClear (v : Nat) (s : State) : Within 32 s (recClear v s) := by
  unfold recClear
  extract_lets r r1
  refine within_mk rfl (Within.refl _ _) (hf := form_intake (hi := ?_))
  have h1 : r1.intake = s.evt.rcd.intake := by unfold r1; split <;> rfl
  dsimp only
  split <;> simp [h1]

theorem within_thmClear (a0 : Nat) (s : State) : Within 524289 s (thmClear a0 s) := by
  unfold thmClear
  refine within_ite ?_ ?_
  · refine Within.after (within_thmMod ..) rfl ?_
    refine Within.after (within_rclear ..) rfl ?_
    exact Within.refl _ _
  · exact Within.refl _ _

theorem within_vdtClear (a0 : Nat) (s : State) : Within 1 s (vdtClear a0 s) := by
  unfold vdtClear
  refine within_ite ?_ ?_
  · refine within_foldl ?_ ?_
    · intro y1 y2 y3
      refine Within.after (within_rfset ..) rfl ?_
      assumption
    · refine Within.after (within_rclear ..) rfl ?_
      exact Within.refl _ _
  · exact Within.refl _ _

theorem within_clearCounters (a0 : Nat) (a1 : Nat) (s : State) : Within 655393 s (clearCounters a0 a1 s) := by
  unfold clearCounters
  refine within_ite ?_ ?_
  · refine Within.after (within_pipClear ..) rfl ?_
    exact Within.refl _ _
  · refine within_ite ?_ ?_
    · refine Within.after (within_outClear ..) rfl ?_
      exact Within.refl _ _
    · refine within_ite ?_ ?_
      · refine Within.after (within_auxClear ..) rfl ?_
        exact Within.refl _ _
      · refine within_ite ?_ ?_
        · refine Within.after (within_vdtClear ..) rfl ?_
          exact Within.refl _ _
        · refine within_ite ?_ ?_
          · refine Within.after (within_gustClear ..) rfl ?_
            exact Within.refl _ _
          · refine within_ite ?_ ?_
            · refine Within.after (within_lnkClear ..) rfl ?_
              exact Within.refl _ _
            · refine within_ite ?_ ?_
              · refine Within.after (within_penClear ..) rfl ?_
                exact Within.refl _ _
              · refine within_ite ?_ ?_
                · refine Within.after (within_thmClear ..) rfl ?_
                  exact Within.refl _ _
                · refine within_ite ?_ ?_
                  · refine Within.after (within_recClear ..) rfl ?_
                    exact Within.refl _ _
                  · refine within_ite ?_ ?_
                    · refine within_ite ?_ ?_
                      · refine Within.after (within_rclear ..) rfl ?_
                        exact Within.refl _ _
                      · exact Within.refl _ _
                    · exact Within.refl _ _

theorem within_refuseCommit (a0 : Nat) (s : State) : Within 33 s (refuseCommit a0 s) := by
  unfold refuseCommit
  extract_lets x1
  have hx1 : Within 33 s x1 := by
    unfold x1
    refine Within.after (within_raise0 ..) rfl ?_
    refine Within.after (within_applyResult ..) rfl ?_
    exact Within.refl _ _
  clear_value x1
  refine within_ite ?_ ?_
  · refine Within.after (within_raise0 ..) rfl ?_
    assumption
  · assumption

theorem within_commitAt (a0 : CapSet → Option Nat) (a1 : Nat) (s : State) : Within 1057 s (commitAt a0 a1 s) := by
  unfold commitAt
  refine within_ite ?_ ?_
  · exact Within.refl _ _
  · split
    · refine Within.after (within_refuseCommit ..) rfl ?_
      exact Within.refl _ _
    · extract_lets x7 x8 x9
      have hx9 : Within 1057 s x9 := by
        unfold x9
        refine Within.after (within_aryMod ..) rfl ?_
        exact Within.refl _ _
      clear_value x7
      clear_value x9
      refine Within.after (within_applyResult ..) rfl ?_
      refine Within.after (within_rfset ..) rfl ?_
      assumption

theorem within_commit (a0 : CapSet → Option Nat) (s : State) : Within 1057 s (commit a0 s) := by
  unfold commit
  refine Within.after (within_commitAt ..) rfl ?_
  exact Within.refl _ _

theorem within_withAux (a0 : State) (s : State) : Within 32768 s (withAux a0 s) := by
  unfold withAux
  split
  · refine within_ite ?_ ?_
    · refine Within.after (within_auxCommit ..) rfl ?_
      exact Within.refl _ _
    · exact Within.refl _ _
  · exact Within.refl _ _

theorem within_commitStaged (s : State) : Within 33825 s (commitStaged s) := by
  unfold commitStaged
  refine Within.after (within_withAux ..) rfl ?_
  refine Within.after (within_commit ..) rfl ?_
  exact Within.refl _ _

theorem within_commitAsap (a0 : CapSet → Option Nat) (s : State) : Within 1057 s (commitAsap a0 s) := by
  unfold commitAsap
  refine Within.after (within_commitAt ..) rfl ?_
  exact Within.refl _ _

theorem within_commitStagedAsap (s : State) : Within 33825 s (commitStagedAsap s) := by
  unfold commitStagedAsap
  refine Within.after (within_withAux ..) rfl ?_
  refine Within.after (within_commitAsap ..) rfl ?_
  exact Within.refl _ _

theorem within_dlClear (a0 : Nat) (s : State) : Within 1 s (dlClear a0 s) := by
  unfold dlClear
  refine Within.after (within_rclear ..) rfl ?_
  exact Within.refl _ _

theorem within_fifoInWrite (a0 : Nat) (s : State) : Within 131104 s (fifoInWrite a0 s) := by
  unfold fifoInWrite
  extract_lets x1
  clear_value x1
  refine within_ite ?_ ?_
  · exact Within.refl _ _
  · refine within_ite ?_ ?_
    · refine Within.after (within_raise ..) rfl ?_
      exact Within.refl _ _
    · refine Within.after (within_engMod ..) rfl ?_
      exact Within.refl _ _

theorem within_requestMove (a0 : Nat) (a1 : Nat) (a2 : Nat) (a3 : Nat) (s : State)
    : Within 65568 s (requestMove a0 a1 a2 a3 s) := by
  unfold requestMove
  refine Within.after (within_beginWant ..) rfl ?_
  refine Within.after (within_setMod ..) rfl ?_
  exact Within.refl _ _

theorem within_laneMove (a0 : Nat) (s : State) : Within 65568 s (laneMove a0 s) := by
  unfold laneMove
  extract_lets x1 x2
  clear_value x1
  split
  · refine within_ite ?_ ?_
    · dsimp -zeta only [x2]
      refine Within.after (within_raise ..) rfl ?_
      exact Within.refl _ _
    · exact Within.refl _ _
  · refine within_ite ?_ ?_
    · exact Within.refl _ _
    · refine within_ite ?_ ?_
      · dsimp -zeta only [x2]
        refine Within.after (within_raise ..) rfl ?_
        exact Within.refl _ _
      · refine Within.after (within_requestMove ..) rfl ?_
        exact Within.refl _ _

theorem within_nvResult (a0 : Nat) (s : State) : Within 1 s (nvResult a0 s) := by
  unfold nvResult
  refine Within.after (within_rfset ..) rfl ?_
  exact Within.refl _ _

theorem within_nvBegin (a0 : Nat) (a1 : Bool) (a2 : NvOp) (s : State) : Within 262273 s (nvBegin a0 a1 a2 s) := by
  unfold nvBegin
  refine within_ite ?_ ?_
  · exact Within.refl _ _
  · refine within_ite ?_ ?_
    · refine Within.after (within_nvResult ..) rfl ?_
      exact Within.refl _ _
    · refine within_ite ?_ ?_
      · refine Within.after (within_nvResult ..) rfl ?_
        exact Within.refl _ _
      · refine within_ite ?_ ?_
        · refine Within.after (within_nvSettle ..) rfl ?_
          refine Within.after (within_nvResult ..) rfl ?_
          refine Within.after (within_mgtMod ?_) rfl ?_
          · (dsimp only; exact id)
          · exact Within.refl _ _
        · refine Within.after (within_grantRequest ..) rfl ?_
          refine Within.after (within_nvResult ..) rfl ?_
          refine Within.after (within_mgtMod ?_) rfl ?_
          · (dsimp only; exact id)
          · exact Within.refl _ _

theorem within_nvErase (s : State) : Within 262273 s (nvErase s) := by
  unfold nvErase
  extract_lets x1
  clear_value x1
  refine Within.after (within_nvBegin ..) rfl ?_
  exact Within.refl _ _

theorem within_nvProgram (s : State) : Within 262273 s (nvProgram s) := by
  unfold nvProgram
  extract_lets x1
  clear_value x1
  refine Within.after (within_nvBegin ..) rfl ?_
  exact Within.refl _ _

theorem within_nvRead (s : State) : Within 262273 s (nvRead s) := by
  unfold nvRead
  extract_lets x1
  clear_value x1
  refine Within.after (within_nvBegin ..) rfl ?_
  exact Within.refl _ _

theorem within_keepLevels (a0 : List Nat) (s : State) : Within 131072 s (keepLevels a0 s) := by
  unfold keepLevels
  refine within_ite ?_ ?_
  · exact Within.refl _ _
  · extract_lets x1
    clear_value x1
    refine Within.after (within_penMod ?_) rfl ?_
    · (dsimp only; exact id)
    · exact Within.refl _ _

theorem within_haltEng (a0 : Nat) (a1 : Nat) (a2 : Nat) (s : State) : Within 131104 s (haltEng a0 a1 a2 s) := by
  unfold haltEng
  refine within_ite ?_ ?_
  · exact Within.refl _ _
  · refine Within.after (within_raise ..) rfl ?_
    refine Within.after (within_engMod ..) rfl ?_
    refine Within.after (within_keepLevels ..) rfl ?_
    exact Within.refl _ _

theorem within_penHalt (a0 : Nat) (s : State) : Within 131104 s (penHalt a0 s) := by
  unfold penHalt
  refine within_ite ?_ ?_
  · refine within_foldl ?_ ?_
    · intro y1 y2 y3
      refine Within.after (within_haltEng ..) rfl ?_
      assumption
    · exact Within.refl _ _
  · exact Within.refl _ _

theorem within_engFault (a0 : Nat) (s : State) : Within 131104 s (engFault a0 s) := by
  unfold engFault
  refine Within.after (within_raise ..) rfl ?_
  refine Within.after (within_haltEng ..) rfl ?_
  exact Within.refl _ _

theorem within_startEng (s : State) (a1 : Nat) : Within 131105 s (startEng s a1) := by
  unfold startEng
  extract_lets x1 x2 x3
  clear_value x1
  clear_value x2
  have hx3 : Within 131105 s x3 := by
    unfold x3
    refine Within.after (within_raiseIf ..) rfl ?_
    refine Within.after (within_setEng ..) rfl ?_
    exact Within.refl _ _
  clear_value x3
  refine within_ite ?_ ?_
  · refine Within.after (within_raise ..) rfl ?_
    refine Within.after (within_rsat ..) rfl ?_
    refine Within.after (within_setEng ..) rfl ?_
    exact Within.refl _ _
  · refine within_ite ?_ ?_
    · refine Within.after (within_engFault ..) rfl ?_
      assumption
    · assumption

theorem within_startAll (a0 : Bool) (a1 : List Nat) (s : State) : Within 131105 s (startAll a0 a1 s).2 := by
  unfold startAll
  extract_lets x1
  clear_value x1
  split
  · refine within_pair ?_
    refine Within.after (within_raise0 ..) rfl ?_
    exact Within.refl _ _
  · split
    · refine within_pair ?_
      refine Within.after (within_raise0 ..) rfl ?_
      refine Within.after (within_raise ..) rfl ?_
      exact Within.refl _ _
    · refine within_pair ?_
      refine Within.after (within_raise0 ..) rfl ?_
      refine Within.after (within_penMod ?_) rfl ?_
      · (dsimp only; exact id)
      · refine within_foldl ?_ ?_
        · intro y2 y3 y4
          refine Within.after (within_startEng ..) rfl ?_
          assumption
        · exact Within.refl _ _

theorem within_penStart (a0 : Nat) (s : State) : Within 131105 s (penStart a0 s) := by
  unfold penStart
  refine within_ite ?_ ?_
  · refine Within.after (within_startAll ..) rfl ?_
    exact Within.refl _ _
  · exact Within.refl _ _

theorem within_rstResult (a0 : Nat) (s : State) : Within 64 s (rstResult a0 s) := by
  unfold rstResult
  refine within_mk rfl ?_ (hf := form_eq)
  exact Within.refl _ _

theorem within_resetArm (a0 : Nat) (s : State) : Within 64 s (resetArm a0 s) := by
  unfold resetArm
  refine within_ite ?_ ?_
  · refine Within.after (within_rstResult ..) rfl ?_
    refine within_mk rfl ?_ (hf := form_eq)
    exact Within.refl _ _
  · exact Within.refl _ _

theorem within_raiseAbout (a0 : Nat) (a1 : Nat) (a2 : Nat) (a3 : List Nat) (s : State)
    : Within 32 s (raiseAbout a0 a1 a2 a3 s) := by
  unfold raiseAbout
  refine Within.after (within_raise ..) rfl ?_
  exact Within.refl _ _

theorem within_rstRefuse (a0 : Nat) (a1 : Nat) (s : State) : Within 96 s (rstRefuse a0 a1 s) := by
  unfold rstRefuse
  refine Within.after (within_raiseAbout ..) rfl ?_
  refine Within.after (within_rstResult ..) rfl ?_
  exact Within.refl _ _

theorem within_resetFire (a0 : Nat) (s : State) : Within 97 s (resetFire a0 s) := by
  unfold resetFire
  extract_lets x1 x2 x3 x4
  have hx3 : Within 97 s x3 := by
    unfold x3
    refine within_mk rfl ?_ (hf := form_eq)
    exact Within.refl _ _
  clear_value x1
  clear_value x3
  refine within_ite ?_ ?_
  · exact Within.refl _ _
  · split
    · refine Within.after (within_rstRefuse ..) rfl ?_
      assumption
    · refine within_ite ?_ ?_
      · refine Within.after (within_rstRefuse ..) rfl ?_
        assumption
      · refine within_ite ?_ ?_
        · refine Within.after (within_rstRefuse ..) rfl ?_
          assumption
        · refine within_ite ?_ ?_
          · refine Within.after (within_rstRefuse ..) rfl ?_
            assumption
          · refine within_ite ?_ ?_
            · refine Within.after (within_rstRefuse ..) rfl ?_
              assumption
            · refine within_ite ?_ ?_
              · refine Within.after (within_rstRefuse ..) rfl ?_
                assumption
              · refine within_ite ?_ ?_
                · refine Within.after (within_rstResult ..) rfl ?_
                  refine within_mk rfl ?_ (hf := form_eq)
                  assumption
                · refine Within.after (within_rsat ..) rfl ?_
                  refine Within.after (within_startReset ..) rfl ?_
                  refine Within.after (within_rstResult ..) rfl ?_
                  assumption

theorem within_seekNewest (s : State) : Within 1 s (seekNewest s) := by
  unfold seekNewest
  refine Within.after (within_rset ..) rfl ?_
  exact Within.refl _ _

theorem within_seekOldest (s : State) : Within 1 s (seekOldest s) := by
  unfold seekOldest
  refine Within.after (within_rset ..) rfl ?_
  exact Within.refl _ _

theorem within_snapGo (s : State) : Within 1057 s (snapGo s) := by
  unfold snapGo
  refine within_ite ?_ ?_
  · refine Within.after (within_raise0 ..) rfl ?_
    refine Within.after (within_rfset ..) rfl ?_
    exact Within.refl _ _
  · refine within_ite ?_ ?_
    · exact Within.refl _ _
    · refine Within.after (within_rfset ..) rfl ?_
      refine Within.after (within_aryMod ..) rfl ?_
      exact Within.refl _ _

theorem within_thmRestart (a0 : Nat) (s : State) : Within 2097151 s (thmRestart a0 s) := by
  unfold thmRestart
  refine within_ite ?_ ?_
  · refine Within.after (within_raise0 ..) rfl ?_
    exact Within.refl _ _
  · refine within_ite ?_ ?_
    · refine Within.after (within_restartNow ..) rfl ?_
      exact Within.refl _ _
    · refine within_ite ?_ ?_
      · refine Within.after (within_restartNow ..) rfl ?_
        refine Within.after (within_thmMod ..) rfl ?_
        exact Within.refl _ _
      · exact Within.refl _ _

theorem within_commandWrite (a0 : Nat) (a1 : Nat) (s : State) : Within 2097151 s (commandWrite a0 a1 s) := by
  unfold commandWrite
  refine within_ite ?_ ?_
  · refine within_ite ?_ ?_
    · refine Within.after (within_snapGo ..) rfl ?_
      exact Within.refl _ _
    · exact Within.refl _ _
  · refine within_ite ?_ ?_
    · split
      · refine Within.after (within_commitStaged ..) rfl ?_
        exact Within.refl _ _
      · refine Within.after (within_commitStagedAsap ..) rfl ?_
        exact Within.refl _ _
      · refine Within.after (within_cancelStaged ..) rfl ?_
        exact Within.refl _ _
      · exact Within.refl _ _
    · refine within_ite ?_ ?_
      · refine Within.after (within_dlClear ..) rfl ?_
        exact Within.refl _ _
      · refine within_ite ?_ ?_
        · refine Within.after (within_laneMove ..) rfl ?_
          exact Within.refl _ _
        · refine within_ite ?_ ?_
          · refine Within.after (within_penStart ..) rfl ?_
            exact Within.refl _ _
          · refine within_ite ?_ ?_
            · refine Within.after (within_penHalt ..) rfl ?_
              exact Within.refl _ _
            · refine within_ite ?_ ?_
              · refine Within.after (within_fifoInWrite ..) rfl ?_
                exact Within.refl _ _
              · refine within_ite ?_ ?_
                · refine Within.after (within_thmRestart ..) rfl ?_
                  exact Within.refl _ _
                · refine within_ite ?_ ?_
                  · refine within_ite ?_ ?_
                    · exact Within.refl _ _
                    · split
                      · refine Within.after (within_bootRestart ..) rfl ?_
                        exact Within.refl _ _
                      · refine Within.after (within_bootVerify ..) rfl ?_
                        exact Within.refl _ _
                      · refine Within.after (within_bootCommit ..) rfl ?_
                        exact Within.refl _ _
                      · exact Within.refl _ _
                  · refine within_ite ?_ ?_
                    · refine within_ite ?_ ?_
                      · refine Within.after (within_nvResult ..) rfl ?_
                        exact Within.refl _ _
                      · split
                        · refine Within.after (within_nvRead ..) rfl ?_
                          exact Within.refl _ _
                        · refine Within.after (within_nvProgram ..) rfl ?_
                          exact Within.refl _ _
                        · refine Within.after (within_nvErase ..) rfl ?_
                          exact Within.refl _ _
                        · exact Within.refl _ _
                    · refine within_ite ?_ ?_
                      · refine within_ite ?_ ?_
                        · refine Within.after (within_attGo ..) rfl ?_
                          exact Within.refl _ _
                        · exact Within.refl _ _
                      · refine within_ite ?_ ?_
                        · split
                          · refine Within.after (within_seekOldest ..) rfl ?_
                            exact Within.refl _ _
                          · refine Within.after (within_seekNewest ..) rfl ?_
                            exact Within.refl _ _
                          · exact Within.refl _ _
                        · refine within_ite ?_ ?_
                          · refine within_ite ?_ ?_
                            · refine Within.after (within_resetArm ..) rfl ?_
                              exact Within.refl _ _
                            · refine within_ite ?_ ?_
                              · refine Within.after (within_resetFire ..) rfl ?_
                                exact Within.refl _ _
                              · exact Within.refl _ _
                          · refine Within.after (within_clearCounters ..) rfl ?_
                            exact Within.refl _ _

theorem within_evtClearPending (a0 : Nat) (s : State) : Within 32 s (evtClearPending a0 s) := by
  unfold evtClearPending
  refine within_mk rfl ?_ (hf := form_eq)
  exact Within.refl _ _

theorem within_evtClearStats (a0 : Nat) (s : State) : Within 32 s (evtClearStats a0 s) := by
  unfold evtClearStats
  refine within_mk rfl ?_ (hf := form_eq)
  exact Within.refl _ _

theorem within_noteRise (a0 : State) (s : State) : Within 32 s (noteRise a0 s) := by
  unfold noteRise
  refine within_ite ?_ ?_
  · refine within_mk rfl ?_ (hf := form_eq)
    exact Within.refl _ _
  · exact Within.refl _ _

theorem within_evtConfigured (a0 : State) (s : State) : Within 32 s (evtConfigured a0 s) := by
  unfold evtConfigured
  refine Within.after (within_noteRise ..) rfl ?_
  exact within_mk rfl (Within.refl _ _) (hf := form_intake (hi := fun h => by rw [bucketsKept_rcd]; exact h))

theorem within_ignoredWrite (s : State) : Within 33 s (ignoredWrite s) := by
  unfold ignoredWrite
  refine Within.after (within_raise0 ..) rfl ?_
  refine Within.after (within_rsat ..) rfl ?_
  exact Within.refl _ _

theorem within_eventWrite (a0 : Nat) (a1 : EvtReg) (a2 : Nat) (a3 : Nat) (s : State)
    : Within 33 s (eventWrite a0 a1 a2 a3 s) := by
  unfold eventWrite
  split
  · refine Within.after (within_evtPendClear ..) rfl ?_
    exact Within.refl _ _
  · extract_lets x1
    have hx1 : Within 33 s x1 := by
      unfold x1
      refine within_ite ?_ ?_
      · refine Within.after (within_evtClearPending ..) rfl ?_
        exact Within.refl _ _
      · exact Within.refl _ _
    clear_value x1
    refine within_ite ?_ ?_
    · refine Within.after (within_evtClearStats ..) rfl ?_
      assumption
    · assumption
  · refine within_ite ?_ ?_
    · refine Within.after (within_ignoredWrite ..) rfl ?_
      exact Within.refl _ _
    · extract_lets x2 x3
      clear_value x2
      clear_value x3
      refine Within.after (within_evtConfigured ..) rfl ?_
      refine Within.after (within_rset ..) rfl ?_
      exact Within.refl _ _
  · refine Within.after (within_ignoredWrite ..) rfl ?_
    exact Within.refl _ _

theorem within_creditSettle (s : State) : Within 32 s (creditSettle s) := by
  unfold creditSettle
  refine within_mk rfl ?_ (hf := form_eq)
  exact Within.refl _ _

theorem within_fieldsWrite (a0 : List Fld) (a1 : Nat) (a2 : Nat) (s : State) : Within 393273 s (fieldsWrite a0 a1 a2 s) := by
  unfold fieldsWrite
  extract_lets x1 x2 x3 x4 x5 x6 x7 x8
  clear_value x1
  clear_value x2
  clear_value x3
  clear_value x4
  clear_value x5
  have hx6 : Within 393273 s x6 := by
    unfold x6
    refine within_foldl ?_ ?_
    · intro y9 y10 y11
      refine within_ite ?_ ?_
      · refine Within.after (within_rfset ..) rfl ?_
        assumption
      · assumption
    · refine within_ite ?_ ?_
      · refine Within.after (within_creditSettle ..) rfl ?_
        exact Within.refl _ _
      · exact Within.refl _ _
  have hx7 : Within 393273 s x7 := by
    unfold x7
    refine within_ite ?_ ?_
    · exact Within.refl _ _
    · assumption
  have hx8 : Within 393273 s x8 := by
    unfold x8
    refine within_ite ?_ ?_
    · exact Within.refl _ _
    · refine Within.after (within_afterWrite ..) rfl ?_
      assumption
  clear_value x6
  clear_value x7
  clear_value x8
  refine within_ite ?_ ?_
  · refine Within.after (within_ignoredWrite ..) rfl ?_
    exact Within.refl _ _
  · refine within_ite ?_ ?_
    · refine Within.after (within_ignoredWrite ..) rfl ?_
      exact Within.refl _ _
    · refine within_ite ?_ ?_
      · refine within_ite ?_ ?_
        · refine Within.after (within_ignoredWrite ..) rfl ?_
          assumption
        · refine Within.after (within_raise0 ..) rfl ?_
          assumption
      · assumption

theorem within_pmemWrite (a0 : Nat) (s : State) : Within 131105 s (pmemWrite a0 s) := by
  unfold pmemWrite
  extract_lets x1
  clear_value x1
  refine within_ite ?_ ?_
  · exact Within.refl _ _
  · refine within_ite ?_ ?_
    · refine Within.after (within_raise0 ..) rfl ?_
      exact Within.refl _ _
    · refine Within.after (within_rfset ..) rfl ?_
      refine Within.after (within_putStep ..) rfl ?_
      exact Within.refl _ _

theorem within_writeReg (a0 : Nat) (a1 : Nat) (s : State) : Within 2097151 s (writeReg a0 a1 s) := by
  unfold writeReg
  split
  · refine Within.after (within_eventWrite ..) rfl ?_
    exact Within.refl _ _
  · split
    · refine Within.after (within_ignoredWrite ..) rfl ?_
      exact Within.refl _ _
    · refine within_ite ?_ ?_
      · refine Within.after (within_pmemWrite ..) rfl ?_
        exact Within.refl _ _
      · refine within_ite ?_ ?_
        · extract_lets x1
          clear_value x1
          refine within_ite ?_ ?_
          · refine Within.after (within_ignoredWrite ..) rfl ?_
            exact Within.refl _ _
          · refine within_ite ?_ ?_
            · refine Within.after (within_rset ..) rfl ?_
              exact Within.refl _ _
            · refine Within.after (within_prbsTest ..) rfl ?_
              exact Within.refl _ _
        · refine within_ite ?_ ?_
          · refine within_ite ?_ ?_
            · refine Within.after (within_ignoredWrite ..) rfl ?_
              exact Within.refl _ _
            · refine Within.after (within_commandWrite ..) rfl ?_
              exact Within.refl _ _
          · refine Within.after (within_fieldsWrite ..) rfl ?_
            exact Within.refl _ _

theorem within_busWrites (a0 : Nat) (a1 : List Byte) (s : State) : Within 2097151 s (busWrites a0 a1 s) := by
  unfold busWrites
  extract_lets x1 x2 x3
  clear_value x1
  have hx2 : Within 2097151 s x2 := by
    unfold x2
    refine Within.after (within_mbMod ..) rfl ?_
    exact Within.refl _ _
  have hx3 : Within 2097151 s x3 := by
    unfold x3
    refine within_foldl ?_ ?_
    · intro y4 y5 y6
      refine Within.after (within_writeReg ..) rfl ?_
      assumption
    · assumption
  clear_value x2
  clear_value x3
  refine within_ite ?_ ?_
  · assumption
  · refine within_foldl ?_ ?_
    · intro y7 y8 y9
      refine Within.after (within_writeReg ..) rfl ?_
      assumption
    · assumption

theorem within_pecFail (s : State) : Within 289 s (pecFail s) := by
  unfold pecFail
  refine within_ite ?_ ?_
  · refine Within.after (within_mbShow ..) rfl ?_
    exact Within.refl _ _
  · refine Within.after (within_mbShow ..) rfl ?_
    refine Within.after (within_raise0 ..) rfl ?_
    refine Within.after (within_mbCount ..) rfl ?_
    exact Within.refl _ _

theorem within_busWrite (a0 : List Byte) (a1 : Nat) (a2 : List Byte) (s : State) : Within 2097151 s (busWrite a0 a1 a2 s) := by
  unfold busWrite
  refine within_ite ?_ ?_
  · refine Within.after (within_mbDone ..) rfl ?_
    refine Within.after (within_busWrites ..) rfl ?_
    exact Within.refl _ _
  · refine within_ite ?_ ?_
    · refine Within.after (within_mbShow ..) rfl ?_
      exact Within.refl _ _
    · split
      · refine Within.after (within_pecFail ..) rfl ?_
        exact Within.refl _ _
      · refine within_ite ?_ ?_
        · refine Within.after (within_mbDone ..) rfl ?_
          refine Within.after (within_busWrites ..) rfl ?_
          exact Within.refl _ _
        · refine Within.after (within_pecFail ..) rfl ?_
          exact Within.refl _ _

theorem within_blockWrite (a0 : Nat) (a1 : Nat) (a2 : List Byte) (s : State) : Within 2097151 s (blockWrite a0 a1 a2 s) := by
  unfold blockWrite
  refine within_mbAddressed ?_ ?_ ?_ ?_
  · intro y4 y5 y6
    refine within_ite ?_ ?_
    · refine Within.after (within_mbRefuse ..) rfl ?_
      assumption
    · extract_lets x7
      clear_value x7
      refine within_ite ?_ ?_
      · refine within_ite ?_ ?_
        · refine Within.after (within_mbShow ..) rfl ?_
          assumption
        · refine within_ite ?_ ?_
          · refine Within.after (within_pecFail ..) rfl ?_
            assumption
          · refine Within.after (within_busWrite ..) rfl ?_
            assumption
      · refine Within.after (within_busWrite ..) rfl ?_
        assumption
  · rfl
  · rfl
  · exact Within.refl _ _

theorem within_stepEnd (a0 : Nat) (a1 : Nat) (a2 : Nat) (s : State) : Within 131104 s (stepEnd a0 a1 a2 s) := by
  unfold stepEnd
  extract_lets x1
  have hx1 : Within 131104 s x1 := by
    unfold x1
    refine Within.after (within_engMod ..) rfl ?_
    exact Within.refl _ _
  clear_value x1
  refine within_ite ?_ ?_
  · refine Within.after (within_engFault ..) rfl ?_
    assumption
  · assumption

theorem within_fireDeadline (a0 : Nat) (a1 : Nat) (s : State) : Within 131113 s (fireDeadline a0 a1 s) := by
  unfold fireDeadline
  extract_lets x1 x2 x3
  clear_value x3
  have hx1 : Within 131113 s x1 := by
    unfold x1
    refine Within.after (within_stepEnd ..) rfl ?_
    refine Within.after (within_engMod ..) rfl ?_
    exact Within.refl _ _
  have hx2 : Within 131113 s x2 := by
    unfold x2
    refine Within.after (within_rsat ..) rfl ?_
    assumption
  clear_value x1
  clear_value x2
  refine within_ite ?_ ?_
  · refine within_ite ?_ ?_
    · assumption
    · refine Within.after (within_dlMissUnless ..) rfl ?_
      assumption
  · refine Within.after (within_raise ..) rfl ?_
    assumption

theorem within_blocking {k : Nat} {s0 s : State} {e : Nat} {r : Bool} {f : State → State} (hf : ∀ x, Within k s0 x → Within k s0 (f x))
    (h1 : 131113 &&& k = 131113) (h2 : 131072 &&& k = 131072) (h : Within k s0 s) : Within k s0 (blocking e r f s) := by
  unfold blocking
  split
  · exact Within.after (within_fireDeadline ..) h1 h
  · split
    · exact hf _ h
    · exact Within.after (within_engMod ..) h2 h

theorem within_bodiesDone (a0 : Nat) (a1 : List (Nat × List (BitVec 128))) (s : State)
    : Within 160 s (bodiesDone a0 a1 s) := by
  unfold bodiesDone
  extract_lets x1 x2 x3 x4 x5
  have hx5 : Within 160 s x5 := by
    unfold x5
    refine Within.after (within_flashPut ..) rfl ?_
    refine Within.after (within_flashPut ..) rfl ?_
    exact Within.refl _ _
  clear_value x2
  clear_value x3
  clear_value x4
  clear_value x5
  refine Within.after (within_rcdMod ?_) rfl ?_
  · (dsimp only; exact id)
  · assumption

theorem within_dsnuSwitch (s : State) : Within 4128 s (dsnuSwitch s) := by
  unfold dsnuSwitch
  split
  · refine within_ite ?_ ?_
    · exact Within.refl _ _
    · refine Within.after (within_raise0 ..) rfl ?_
      refine Within.after (within_pipMod ?_) rfl ?_
      · (dsimp only; exact id)
      · exact Within.refl _ _
  · exact Within.refl _ _

theorem within_boundary (s : State) : Within 4664 s (boundary s) := by
  unfold boundary
  refine within_ite ?_ ?_
  · exact Within.refl _ _
  · extract_lets x1 x2 x3
    clear_value x1
    have hx2 : Within 4664 s x2 := by
      unfold x2
      refine Within.after (within_tbsMod ..) rfl ?_
      exact Within.refl _ _
    have hx3 : Within 4664 s x3 := by
      unfold x3
      refine Within.after (within_raiseIf ..) rfl ?_
      refine within_ite ?_ ?_
      · refine Within.after (within_dsnuSwitch ..) rfl ?_
        assumption
      · assumption
    clear_value x2
    clear_value x3
    refine within_ite ?_ ?_
    · refine Within.after (within_grpMod ..) rfl ?_
      refine Within.after (within_xwSendMask ..) rfl ?_
      assumption
    · assumption

theorem within_nextStep (a0 : Nat) (a1 : Nat) (s : State) : Within 131104 s (nextStep a0 a1 s) := by
  unfold nextStep
  refine Within.after (within_stepEnd ..) rfl ?_
  exact Within.refl _ _

theorem within_branch (a0 : Nat) (s : State) : Within 131104 s (branch a0 s) := by
  unfold branch
  refine within_runStep ?_ ?_
  · intro y1 y2 y3 y4
    refine within_ite ?_ ?_
    · refine Within.after (within_stepEnd ..) rfl ?_
      assumption
    · refine Within.after (within_nextStep ..) rfl ?_
      assumption
  · exact Within.refl _ _

theorem within_discipline (a0 : Int) (s : State) : Within 49 s (discipline a0 s) := by
  unfold discipline
  extract_lets x1 x2 x3 x4 x5 x6 x7
  have hx7 : Within 49 s x7 := by
    unfold x7
    refine Within.after (within_rset ..) rfl ?_
    refine Within.after (within_grpMod ..) rfl ?_
    exact Within.refl _ _
  clear_value x1
  clear_value x2
  clear_value x4
  clear_value x5
  clear_value x6
  clear_value x7
  refine within_ite ?_ ?_
  · refine Within.after (within_raise0 ..) rfl ?_
    assumption
  · assumption

theorem within_takeBroadcast (a0 : Nat) (a1 : Nat) (a2 : Nat) (a3 : Nat) (a4 : Bool) (s : State)
    : Within 4136 s (takeBroadcast a0 a1 a2 a3 a4 s) := by
  unfold takeBroadcast
  refine within_ite ?_ ?_
  · exact Within.refl _ _
  · refine within_ite ?_ ?_
    · extract_lets x1 x2
      clear_value x1
      have hx2 : Within 4136 s x2 := by
        unfold x2
        refine Within.after (within_tbsMod ..) rfl ?_
        exact Within.refl _ _
      clear_value x2
      refine Within.after (within_raiseIf ..) rfl ?_
      refine within_ite ?_ ?_
      · refine Within.after (within_dsnuSwitch ..) rfl ?_
        assumption
      · assumption
    · refine Within.after (within_tbsMod ..) rfl ?_
      exact Within.refl _ _

theorem within_broadcastReceived (a0 : Nat) (a1 : XwMsg) (s : State) : Within 4665 s (broadcastReceived a0 a1 s) := by
  unfold broadcastReceived
  extract_lets x1 x2 x3 x4 x5 x6 x7 x8
  clear_value x2
  clear_value x3
  clear_value x4
  have hx5 : Within 4665 s x5 := by
    unfold x5
    refine Within.after (within_grpMod ..) rfl ?_
    exact Within.refl _ _
  have hx6 : Within 4665 s x6 := by
    unfold x6
    refine Within.after (within_grpMod ..) rfl ?_
    assumption
  have hx7 : Within 4665 s x7 := by
    unfold x7
    refine Within.after (within_xwSendMask ..) rfl ?_
    assumption
  have hx8 : Within 4665 s x8 := by
    unfold x8
    refine Within.after (within_discipline ..) rfl ?_
    assumption
  clear_value x5
  clear_value x6
  clear_value x7
  clear_value x8
  refine within_ite ?_ ?_
  · refine within_ite ?_ ?_
    · assumption
    · split
      · refine Within.after (within_takeBroadcast ..) rfl ?_
        refine Within.after (within_grpMod ..) rfl ?_
        assumption
      · assumption
  · exact Within.refl _ _

theorem within_budgetRow (s : State) : Within 1 s (budgetRow s) := by
  unfold budgetRow
  refine Within.after (within_rset ..) rfl ?_
  exact Within.refl _ _

theorem within_bufEcc (a0 : Nat) (a1 : Nat) (a2 : Bool) (s : State) : Within 69665 s (bufEcc a0 a1 a2 s) := by
  unfold bufEcc
  refine within_ite ?_ ?_
  · refine Within.after (within_raise ..) rfl ?_
    exact Within.refl _ _
  · extract_lets x1 x2
    clear_value x1
    clear_value x2
    split
    · refine Within.after (within_raise ..) rfl ?_
      exact Within.refl _ _
    · refine Within.after (within_raise ..) rfl ?_
      refine Within.after (within_unitLost ..) rfl ?_
      refine Within.after (within_putSet ..) rfl ?_
      exact Within.refl _ _

theorem within_calRestore (a0 : List RemapRec) (a1 : Nat) (s : State) : Within 2080 s (calRestore a0 a1 s) := by
  unfold calRestore
  refine Within.after (within_raiseIf ..) rfl ?_
  refine Within.after (within_setSlice ..) rfl ?_
  exact Within.refl _ _

theorem within_calSlice (a0 : CalMeas) (a1 : Bool) (a2 : Nat) (s : State) : Within 2080 s (calSlice a0 a1 a2 s) := by
  unfold calSlice
  extract_lets x1 x2 x3 x4 x5 x6 x7 x8 x9 x10 x11 x12 x13
  have hx11 : Within 2080 s x11 := by
    unfold x11
    refine within_foldl ?_ ?_
    · intro y14 y15 y16
      refine Within.after (within_raiseSlice ..) rfl ?_
      assumption
    · refine Within.after (within_setSlice ..) rfl ?_
      exact Within.refl _ _
  have hx12 : Within 2080 s x12 := by
    unfold x12
    refine within_foldl ?_ ?_
    · intro y17 y18 y19
      refine Within.after (within_defectEvent ..) rfl ?_
      assumption
    · assumption
  have hx13 : Within 2080 s x13 := by
    unfold x13
    refine within_ite ?_ ?_
    · refine Within.after (within_raiseSlice ..) rfl ?_
      assumption
    · assumption
  clear_value x1
  clear_value x2
  clear_value x3
  clear_value x4
  clear_value x5
  clear_value x6
  clear_value x7
  clear_value x8
  clear_value x9
  clear_value x10
  clear_value x11
  clear_value x12
  clear_value x13
  refine Within.after (within_raiseSlice ..) rfl ?_
  refine Within.after (within_raiseSlice ..) rfl ?_
  refine Within.after (within_updStage ..) rfl ?_
  assumption

theorem within_calmAutoRestart (s : State) : Within 2097151 s (calmAutoRestart s) := by
  unfold calmAutoRestart
  refine within_ite ?_ ?_
  · refine Within.after (within_restartNow ..) rfl ?_
    exact Within.refl _ _
  · exact Within.refl _ _

theorem within_haltAll (a0 : Nat) (a1 : Nat) (s : State) : Within 131104 s (haltAll a0 a1 s) := by
  unfold haltAll
  refine within_foldl ?_ ?_
  · intro y1 y2 y3
    refine Within.after (within_haltEng ..) rfl ?_
    assumption
  · exact Within.refl _ _

theorem within_calmEntered (s : State) : Within 655520 s (calmEntered s) := by
  unfold calmEntered
  refine within_ite ?_ ?_
  · refine Within.after (within_raise0 ..) rfl ?_
    refine Within.after (within_thmMod ..) rfl ?_
    refine Within.after (within_mgtMod ?_) rfl ?_
    · (dsimp only; exact id)
    · refine Within.after (within_haltAll ..) rfl ?_
      exact Within.refl _ _
  · exact Within.refl _ _

theorem within_closeRecs (a0 : Nat) (s : State) : Within 65536 s (closeRecs a0 s) := by
  unfold closeRecs
  extract_lets x1
  clear_value x1
  split
  · exact Within.refl _ _
  · refine Within.after (within_putSet ..) rfl ?_
    exact Within.refl _ _

theorem within_sendStatusAll (a0 : Nat) (s : State) : Within 65536 s (sendStatusAll a0 s) := by
  unfold sendStatusAll
  refine within_foldl ?_ ?_
  · intro y1 y2 y3
    refine Within.after (within_sendStatus ..) rfl ?_
    assumption
  · exact Within.refl _ _

theorem within_calmSets (s : State) : Within 65536 s (calmSets s) := by
  unfold calmSets
  refine Within.after (within_lnkMod ..) rfl ?_
  refine Within.after (within_sendStatusAll ..) rfl ?_
  refine within_foldl ?_ ?_
  · intro y1 y2 y3
    refine Within.after (within_closeRecs ..) rfl ?_
    assumption
  · exact Within.refl _ _

theorem within_captureBegin (s : State) : Within 128 s (captureBegin s) := by
  unfold captureBegin
  refine within_ite ?_ ?_
  · refine Within.after (within_mgtMod ?_) rfl ?_
    · (dsimp only; exact id)
    · exact Within.refl _ _
  · exact Within.refl _ _

theorem within_setStrobe (a0 : Nat) (a1 : Strobe) (s : State) : Within 131072 s (setStrobe a0 a1 s) := by
  unfold setStrobe
  refine Within.after (within_penMod ?_) rfl ?_
  · (dsimp only; exact id)
  · exact Within.refl _ _

theorem within_strobeOff (a0 : Nat) (s : State) : Within 131072 s (strobeOff a0 s) := by
  unfold strobeOff
  refine within_ite ?_ ?_
  · refine Within.after (within_setStrobe ..) rfl ?_
    exact Within.refl _ _
  · exact Within.refl _ _

theorem within_strobesAtLine (a0 : Bool) (s : State) : Within 131072 s (strobesAtLine a0 s) := by
  unfold strobesAtLine
  refine within_foldl ?_ ?_
  · intro y1 y2 y3
    refine within_ite ?_ ?_
    · assumption
    · refine within_ite ?_ ?_
      · refine Within.after (within_strobeOff ..) rfl ?_
        assumption
      · refine Within.after (within_setStrobe ..) rfl ?_
        assumption
  · exact Within.refl _ _

theorem within_captureLine (a0 : Nat) (a1 : Nat) (s : State) : Within 138368 s (captureLine a0 a1 s) := by
  unfold captureLine
  extract_lets x1 x2 x3 x4 x5 x6 x7 x8 x9 x10
  clear_value x1
  clear_value x2
  clear_value x3
  clear_value x4
  clear_value x5
  clear_value x6
  have hx7 : Within 138368 s x7 := by
    unfold x7
    refine Within.after (within_aryMod ..) rfl ?_
    exact Within.refl _ _
  have hx10 : Within 138368 s x10 := by
    unfold x10
    refine within_mk rfl ?_ (hf := form_eq)
    assumption
  clear_value x7
  clear_value x10
  refine Within.after (within_pipMod ?_) rfl ?_
  · (dsimp only; exact id)
  · refine Within.after (within_strobesAtLine ..) rfl ?_
    assumption

theorem within_showActive (a0 : Nat) (a1 : AuxCtx) (s : State) : Within 1 s (showActive a0 a1 s) := by
  unfold showActive
  refine within_ite ?_ ?_
  · exact Within.refl _ _
  · refine Within.after (within_rsets ..) rfl ?_
    exact Within.refl _ _

theorem within_showCtx (a0 : Nat) (s : State) : Within 1 s (showCtx a0 s) := by
  unfold showCtx
  refine within_ite ?_ ?_
  · refine Within.after (within_showActive ..) rfl ?_
    exact Within.refl _ _
  · exact Within.refl _ _

theorem within_companionAbsent (a0 : Nat) (s : State) : Within 32801 s (companionAbsent a0 s) := by
  unfold companionAbsent
  extract_lets x1 x2
  have hx1 : Within 32801 s x1 := by
    unfold x1
    refine within_ite ?_ ?_
    · refine Within.after (within_raiseAux ..) rfl ?_
      exact Within.refl _ _
    · exact Within.refl _ _
  have hx2 : Within 32801 s x2 := by
    unfold x2
    refine Within.after (within_modPort ..) rfl ?_
    assumption
  clear_value x1
  clear_value x2
  refine Within.after (within_raiseAux ..) rfl ?_
  refine Within.after (within_showCtx ..) rfl ?_
  assumption

theorem within_withdrawChange (a0 : Nat) (s : State) : Within 32801 s (withdrawChange a0 s) := by
  unfold withdrawChange
  extract_lets x1 x2
  have hx2 : Within 32801 s x2 := by
    unfold x2
    refine Within.after (within_modPort ..) rfl ?_
    exact Within.refl _ _
  clear_value x1
  clear_value x2
  refine Within.after (within_raiseAux ..) rfl ?_
  refine Within.after (within_showCtx ..) rfl ?_
  assumption

theorem within_cbFail (a0 : Nat) (s : State) : Within 32801 s (cbFail a0 s) := by
  unfold cbFail
  extract_lets x1 x2
  clear_value x1
  have hx2 : Within 32801 s x2 := by
    unfold x2
    refine Within.after (within_rsat ..) rfl ?_
    exact Within.refl _ _
  clear_value x2
  refine within_ite ?_ ?_
  · exact Within.refl _ _
  · refine within_ite ?_ ?_
    · refine Within.after (within_modPort ..) rfl ?_
      assumption
    · refine within_ite ?_ ?_
      · refine Within.after (within_withdrawChange ..) rfl ?_
        assumption
      · refine Within.after (within_companionAbsent ..) rfl ?_
        assumption

theorem within_changeWritten (a0 : Nat) (a1 : AuxChange) (s : State) : Within 32768 s (changeWritten a0 a1 s) := by
  unfold changeWritten
  extract_lets x1 x2 x3 x4
  clear_value x1
  clear_value x2
  clear_value x3
  clear_value x4
  refine Within.after (within_setPort ..) rfl ?_
  exact Within.refl _ _

theorem within_discoveryEnd (a0 : Nat) (s : State) : Within 32800 s (discoveryEnd a0 s) := by
  unfold discoveryEnd
  extract_lets x1 x2 x3
  clear_value x1
  clear_value x2
  clear_value x3
  refine Within.after (within_raiseAux ..) rfl ?_
  refine Within.after (within_setPort ..) rfl ?_
  exact Within.refl _ _

theorem within_idRead (a0 : Nat) (s : State) : Within 32801 s (idRead a0 s) := by
  unfold idRead
  extract_lets x1 x2
  clear_value x1
  have hx2 : Within 32801 s x2 := by
    unfold x2
    refine Within.after (within_setPort ..) rfl ?_
    exact Within.refl _ _
  clear_value x2
  split
  · exact Within.refl _ _
  · refine within_ite ?_ ?_
    · refine Within.after (within_companionAbsent ..) rfl ?_
      assumption
    · extract_lets x3
      have hx3 : Within 32801 s x3 := by
        unfold x3
        refine Within.after (within_rfset ..) rfl ?_
        assumption
      clear_value x3
      refine within_ite ?_ ?_
      · assumption
      · refine Within.after (within_companionAbsent ..) rfl ?_
        assumption

theorem within_cbDone (a0 : Nat) (a1 : Bool) (s : State) : Within 32801 s (cbDone a0 a1 s) := by
  unfold cbDone
  extract_lets x1 x2
  clear_value x1
  have hx2 : Within 32801 s x2 := by
    unfold x2
    refine Within.after (within_setPort ..) rfl ?_
    exact Within.refl _ _
  clear_value x2
  refine within_ite ?_ ?_
  · exact Within.refl _ _
  · refine within_ite ?_ ?_
    · refine Within.after (within_idRead ..) rfl ?_
      exact Within.refl _ _
    · refine within_ite ?_ ?_
      · refine Within.after (within_cbFail ..) rfl ?_
        exact Within.refl _ _
      · refine within_ite ?_ ?_
        · refine Within.after (within_idRead ..) rfl ?_
          exact Within.refl _ _
        · refine within_ite ?_ ?_
          · assumption
          · refine within_ite ?_ ?_
            · refine Within.after (within_discoveryEnd ..) rfl ?_
              assumption
            · split
              · refine within_ite ?_ ?_
                · refine Within.after (within_changeWritten ..) rfl ?_
                  assumption
                · assumption
              · refine Within.after (within_modPort ..) rfl ?_
                assumption

theorem within_cbRestart (a0 : Nat) (s : State) : Within 32801 s (cbRestart a0 s) := by
  unfold cbRestart
  extract_lets x1
  clear_value x1
  refine within_ite ?_ ?_
  · exact Within.refl _ _
  · refine within_ite ?_ ?_
    · refine Within.after (within_setPort ..) rfl ?_
      exact Within.refl _ _
    · refine Within.after (within_cbFail ..) rfl ?_
      exact Within.refl _ _

end Sys2Proof.Laws
end

