-- ==== Sys2Proof/Laws/FrameOps3.lean ====
section
/-! SUPPORT. For each operation, the parts of the state that it may change and that it keeps the form (part 3 of 6, in the order
in which operations build on each other). -/

namespace Sys2Proof.Laws

set_option Elab.async false

open Sys2Proof.Machine

theorem within_cbTimeout (a0 : Nat) (s : State) : Within 32801 s (cbTimeout a0 s) := by
  unfold cbTimeout
  refine within_ite ?_ ?_
  · refine Within.after (within_companionAbsent ..) rfl ?_
    exact Within.refl _ _
  · exact Within.refl _ _

theorem within_changeWrite (a0 : Nat) (s : State) : Within 32768 s (changeWrite a0 s) := by
  unfold changeWrite
  extract_lets x1
  clear_value x1
  split
  · exact Within.refl _ _
  · refine within_ite ?_ ?_
    · exact Within.refl _ _
    · extract_lets x2
      clear_value x2
      refine Within.after (within_setPort ..) rfl ?_
      exact Within.refl _ _

theorem within_countBoot (s : State) : Within 129 s (countBoot s) := by
  unfold countBoot
  refine within_ite ?_ ?_
  · exact Within.refl _ _
  · extract_lets x1
    clear_value x1
    refine Within.after (within_mgtMod ?_) rfl ?_
    · (dsimp only; exact id)
    · refine Within.after (within_rset ..) rfl ?_
      exact Within.refl _ _

theorem within_strobesOff (s : State) : Within 131072 s (strobesOff s) := by
  unfold strobesOff
  refine within_foldl ?_ ?_
  · intro y1 y2 y3
    refine Within.after (within_strobeOff ..) rfl ?_
    assumption
  · exact Within.refl _ _

theorem within_enterSafe (s : State) : Within 131240 s (enterSafe s) := by
  unfold enterSafe
  refine Within.after (within_raise0 ..) rfl ?_
  refine Within.after (within_mgtMod ?_) rfl ?_
  · (dsimp only; exact id)
  · refine Within.after (within_penMod ?_) rfl ?_
    · (dsimp only; exact id)
    · refine Within.after (within_tbsMod ..) rfl ?_
      refine Within.after (within_strobesOff ..) rfl ?_
      exact Within.refl _ _

theorem within_slotResult (a0 : Nat) (a1 : Nat) (s : State) : Within 1 s (slotResult a0 a1 s) := by
  unfold slotResult
  refine Within.after (within_rfset ..) rfl ?_
  exact Within.refl _ _

theorem within_slotInvalid (a0 : Nat) (a1 : Nat) (s : State) : Within 33 s (slotInvalid a0 a1 s) := by
  unfold slotInvalid
  refine Within.after (within_raise0 ..) rfl ?_
  refine Within.after (within_slotResult ..) rfl ?_
  exact Within.refl _ _

theorem within_configFault (a0 : Nat) (a1 : Nat) (a2 : Nat) (s : State) : Within 33 s (configFault a0 a1 a2 s) := by
  unfold configFault
  refine Within.after (within_slotInvalid ..) rfl ?_
  refine Within.after (within_raise0 ..) rfl ?_
  refine Within.after (within_rset ..) rfl ?_
  exact Within.refl _ _

theorem within_copyRegs (a0 : List Nat) (a1 : State) (s : State) : Within 1 s (copyRegs a0 a1 s) := by
  unfold copyRegs
  refine within_foldl ?_ ?_
  · intro y1 y2 y3
    refine Within.after (within_rset ..) rfl ?_
    assumption
  · exact Within.refl _ _

theorem within_laneCheck (a0 : Nat) (s : State) : Within 65537 s (laneCheck a0 s).2 := by
  unfold laneCheck
  split
  · extract_lets x1
    clear_value x1
    refine within_pair ?_
    refine Within.after (within_lnkMod ..) rfl ?_
    refine Within.after (within_rfset ..) rfl ?_
    refine Within.after (within_rfset ..) rfl ?_
    exact Within.refl _ _
  · refine within_pair ?_
    exact Within.refl _ _

theorem within_laneChecks (s : State) : Within 65537 s (laneChecks s).2 := by
  unfold laneChecks
  refine within_foldl2 ?_ ?_
  · intro y1 y2 y3
    extract_lets x4
    have hx4 : Within 65537 s x4.2 := by
      unfold x4
      refine Within.after (within_laneCheck ..) rfl ?_
      assumption
    clear_value x4
    dsimp -zeta only
    assumption
  · dsimp -zeta only
    exact Within.refl _ _

theorem within_laneVerdict (sl : Nat) {s u : State} (r : Option Nat × State) (h : Within 496801 s r.2) :
    Within 496801 s (laneVerdict sl u.ary r s).2 := by
  unfold laneVerdict
  split
  · refine within_pair ?_
    refine Within.after (within_configFault ..) rfl ?_
    refine Within.after (within_lnkMod ..) rfl ?_
    exact Within.after (within_copyRegs ..) rfl (Within.refl _ _)
  · refine within_pair (within_mk rfl ?_ (hf := form_eq))
    exact h

theorem within_imageVerdict (sl : Nat) {s u : State} (h : Within 496801 s u) : Within 496801 s (imageVerdict sl u s).2 := by
  unfold imageVerdict
  split
  · exact within_pair (Within.after (within_configFault ..) rfl (Within.after (within_copyRegs ..) rfl (Within.refl _ _)))
  · refine within_laneVerdict sl _ (Within.after (within_laneChecks ..) rfl ?_)
    refine within_mk rfl ?_ (hf := form_eq)
    exact h

theorem within_digestRegs (a0 : Nat) (a1 : List Byte) (s : State) : Within 1 s (digestRegs a0 a1 s) := by
  unfold digestRegs
  refine within_foldl ?_ ?_
  · intro y1 y2 y3
    refine Within.after (within_rset ..) rfl ?_
    assumption
  · exact Within.refl _ _

theorem within_rwhDropped (a0 : Nat) (s : State) : Within 1 s (rwhDropped a0 s) := by
  unfold rwhDropped
  refine within_ite ?_ ?_
  · exact Within.refl _ _
  · refine within_foldl ?_ ?_
    · intro y1 y2 y3
      split
      · refine within_foldl ?_ ?_
        · intro y4 y5 y6
          refine Within.after (within_rfset ..) rfl ?_
          assumption
        · assumption
      · assumption
    · exact Within.refl _ _

theorem within_loadImage (a0 : Nat) (s : State) : WithinO 430241 s (fun r => r) (loadImage a0 s) := by
  unfold loadImage
  extract_lets x1
  clear_value x1
  split
  · exact withinO_none
  · rename_i hq2
    refine (fun hw2 => ?_) (withinO_get (k := 430241) (s := s) (p := fun r => r) hq2 ?_)
    · split
      · exact withinO_none
      · split
        · exact withinO_none
        · refine withinO_some ?_
          refine Within.after (within_evtConfigured ..) rfl ?_
          refine Within.after (within_nrgMod ..) rfl ?_
          refine Within.after (within_pipMod ?_) rfl ?_
          · (dsimp only; exact id)
          · refine Within.after (within_digestRegs ..) rfl ?_
            refine Within.after (within_digestRegs ..) rfl ?_
            refine Within.after (within_mgtMod ?_) rfl ?_
            · (dsimp only; exact id)
            · assumption
    · refine withinO_foldl ?_ ?_
      · intro y3 y4 y5
        refine withinO_after (within_applySection ..) rfl ?_
        assumption
      · refine withinO_some ?_
        refine within_foldl ?_ ?_
        · intro y6 y7 y8
          refine Within.after (within_rwhDropped ..) rfl ?_
          assumption
        · refine Within.after (within_creditSettle ..) rfl ?_
          exact Within.refl _ _

theorem within_loadListedBands (s : State) : Within 1 s (loadListedBands s) := by
  unfold loadListedBands
  refine Within.after (within_rfset ..) rfl ?_
  exact Within.refl _ _

theorem within_loadPrograms (s : State) : Within 1 s (loadPrograms s) := by
  unfold loadPrograms
  refine within_foldl ?_ ?_
  · intro y1 y2 y3
    extract_lets x4
    clear_value x4
    refine Within.after (within_rset ..) rfl ?_
    refine within_ite ?_ ?_
    · assumption
    · refine Within.after (within_rfset ..) rfl ?_
      assumption
  · refine Within.after (within_rfset ..) rfl ?_
    exact Within.refl _ _

theorem within_tryLoad (a0 : Nat) (s : State) : Within 496801 s (tryLoad a0 s).2 := by
  unfold tryLoad
  split
  · exact within_pair (Within.after (within_slotInvalid ..) rfl (Within.refl _ _))
  · split
    · exact within_pair (Within.after (within_slotInvalid ..) rfl (Within.refl _ _))
    · rename_i s1 hq8
      have hw : Within 496801 s s1 := withinO_get (p := fun r => r) hq8 (withinO_after (within_loadImage ..) rfl (Within.refl _ _))
      split
      · exact within_pair (Within.after (within_slotInvalid ..) rfl (Within.refl _ _))
      · exact within_imageVerdict a0 (Within.after (within_loadListedBands ..) rfl
          (Within.after (within_loadPrograms ..) rfl (Within.after (within_budgetRow ..) rfl hw)))

theorem within_loadFirst (a0 : List Nat) (s : State) : Within 496801 s (loadFirst a0 s).2 := by
  induction a0 generalizing s
  · unfold loadFirst
    refine within_pair ?_
    exact Within.refl _ _
  · rename_i a l ih
    unfold loadFirst
    extract_lets x1 x2
    have hx1 : Within 496801 s x1 := by
      unfold x1
      refine within_ite ?_ ?_
      · exact Within.refl _ _
      · refine Within.after (within_raise0 ..) rfl ?_
        refine Within.after (within_mgtMod ?_) rfl ?_
        · (dsimp only; exact id)
        · exact Within.refl _ _
    have hx2 : Within 496801 s x2.2 := by
      unfold x2
      refine Within.after (within_tryLoad ..) rfl ?_
      refine Within.after (within_mgtMod ?_) rfl ?_
      · (dsimp only; exact id)
      · assumption
    clear_value x1
    clear_value x2
    split
    · assumption
    · refine Within.after (ih ..) rfl ?_
      assumption

theorem within_stepEnded (a0 : Nat) (s : State) : Within 129 s (stepEnded a0 s) := by
  unfold stepEnded
  refine Within.after (within_mgtMod ?_) rfl ?_
  · (dsimp only; exact id)
  · refine Within.after (within_rset ..) rfl ?_
    exact Within.refl _ _

theorem within_verifyHead (a0 : Nat) (a1 : Bool) (s : State) : Within 33 s (verifyHead a0 a1 s).2 := by
  unfold verifyHead
  extract_lets x1 x2 x3 x4 x5 x6
  have hx3 : Within 33 s x3 := by
    unfold x3
    refine Within.after (within_digestRegs ..) rfl ?_
    refine Within.after (within_rset ..) rfl ?_
    refine Within.after (within_rset ..) rfl ?_
    exact Within.refl _ _
  have hx4 : Within 33 s x4 := by
    unfold x4
    refine within_ite ?_ ?_
    · assumption
    · refine Within.after (within_rset ..) rfl ?_
      refine Within.after (within_rfset ..) rfl ?_
      refine Within.after (within_rfset ..) rfl ?_
      assumption
  have hx5 : Within 33 s x5 := by
    unfold x5
    refine within_ite ?_ ?_
    · refine Within.after (within_rfset ..) rfl ?_
      assumption
    · assumption
  have hx6 : Within 33 s x6 := by
    unfold x6
    refine within_ite ?_ ?_
    · refine Within.after (within_digestRegs ..) rfl ?_
      assumption
    · assumption
  clear_value x1
  clear_value x2
  clear_value x3
  clear_value x4
  clear_value x5
  clear_value x6
  refine within_pair ?_
  refine within_ite ?_ ?_
  · refine Within.after (within_slotResult ..) rfl ?_
    assumption
  · refine Within.after (within_slotInvalid ..) rfl ?_
    assumption

theorem within_chooseSlot (a0 : Bool) (a1 : Bool) (s : State) : Within 496825 s (chooseSlot a0 a1 s) := by
  unfold chooseSlot
  extract_lets x1 x2 x3 x4
  have hx1 : Within 496825 s x1 := by
    unfold x1
    refine within_ite ?_ ?_
    · exact Within.refl _ _
    · refine Within.after (within_evtConfigured ..) rfl ?_
      refine Within.after (within_clearConfig ..) rfl ?_
      refine Within.after (within_creditSettle ..) rfl ?_
      exact Within.refl _ _
  have hx2 : Within 496825 s x2.2 := by
    unfold x2
    refine within_foldl2 ?_ ?_
    · intro y5 y6 y7
      split
      · assumption
      · extract_lets x8
        have hx8 : Within 496825 s x8.2 := by
          unfold x8
          refine Within.after (within_verifyHead ..) rfl ?_
          assumption
        clear_value x8
        refine within_pair ?_
        assumption
    · refine within_pair ?_
      assumption
  have hx3 : Within 496825 s x3.2 := by
    unfold x3
    refine Within.after (within_loadFirst ..) rfl ?_
    assumption
  have hx4 : Within 496825 s x4 := by
    unfold x4
    refine within_foldl ?_ ?_
    · intro y9 y10 y11
      refine Within.after (within_slotResult ..) rfl ?_
      assumption
    · assumption
  clear_value x1
  clear_value x2
  clear_value x3
  clear_value x4
  refine within_ite ?_ ?_
  · refine Within.after (within_countBoot ..) rfl ?_
    refine Within.after (within_mgtMod ?_) rfl ?_
    · (dsimp only; exact id)
    · refine Within.after (within_stepEnded ..) rfl ?_
      refine Within.after (within_activate ..) rfl ?_
      assumption
  · refine Within.after (within_enterSafe ..) rfl ?_
    refine Within.after (within_countBoot ..) rfl ?_
    refine Within.after (within_stepEnded ..) rfl ?_
    assumption

theorem within_clearOwned (a0 : Nat) (s : State) : Within 33 s (clearOwned a0 s) := by
  unfold clearOwned
  refine within_foldl ?_ ?_
  · intro y1 y2 y3
    refine Within.after (within_rset ..) rfl ?_
    assumption
  · refine within_ite ?_ ?_
    · refine Within.after (within_creditSettle ..) rfl ?_
      exact Within.refl _ _
    · exact Within.refl _ _

theorem within_clearTables (a0 : Nat) (s : State) : Within 135168 s (clearTables a0 s) := by
  unfold clearTables
  refine within_ite ?_ ?_
  · refine Within.after (within_pmClear ..) rfl ?_
    refine Within.after (within_pmClear ..) rfl ?_
    exact Within.refl _ _
  · refine within_ite ?_ ?_
    · refine Within.after (within_pmClear ..) rfl ?_
      exact Within.refl _ _
    · refine within_ite ?_ ?_
      · refine Within.after (within_pmClear ..) rfl ?_
        exact Within.refl _ _
      · refine within_ite ?_ ?_
        · refine Within.after (within_pmClear ..) rfl ?_
          exact Within.refl _ _
        · refine within_ite ?_ ?_
          · refine Within.after (within_pmClear ..) rfl ?_
            exact Within.refl _ _
          · refine within_ite ?_ ?_
            · refine Within.after (within_pmClear ..) rfl ?_
              exact Within.refl _ _
            · refine within_ite ?_ ?_
              · refine Within.after (within_penMod ?_) rfl ?_
                · exact fun _ => rfl
                · exact Within.refl _ _
              · exact Within.refl _ _

theorem within_clockFault (s : State) : Within 131104 s (clockFault s) := by
  unfold clockFault
  refine within_ite ?_ ?_
  · exact Within.refl _ _
  · refine Within.after (within_raise0 ..) rfl ?_
    refine Within.after (within_haltAll ..) rfl ?_
    refine Within.after (within_penMod ?_) rfl ?_
    · (dsimp only; exact id)
    · refine Within.after (within_strobesOff ..) rfl ?_
      exact Within.refl _ _

theorem within_clockRelock (s : State) : Within 131072 s (clockRelock s) := by
  unfold clockRelock
  refine Within.after (within_penMod ?_) rfl ?_
  · (dsimp only; exact id)
  · exact Within.refl _ _

theorem within_pushSeg (a0 : Nat) (a1 : Seg) (s : State) : Within 4096 s (pushSeg a0 a1 s) := by
  unfold pushSeg
  extract_lets x1
  clear_value x1
  refine Within.after (within_setSec ..) rfl ?_
  exact Within.refl _ _

theorem within_defLine (a0 : Nat) (a1 : Nat) (a2 : Nat) (a3 : Nat) (a4 : Map Nat) (s : State)
    : Within 4128 s (defLine a0 a1 a2 a3 a4 s).2 := by
  unfold defLine
  extract_lets x1 x2 x3 x4 x5 x6 x7 x8 x9
  have hx9 : Within 4128 s x9 := by
    unfold x9
    refine within_foldl ?_ ?_
    · intro y10 y11 y12
      extract_lets x13 x14 x15 x16 x17 x18 x19 x20
      have hx18 : Within 4128 s x18 := by
        unfold x18
        refine Within.after (within_setSec ..) rfl ?_
        assumption
      have hx19 : Within 4128 s x19 := by
        unfold x19
        refine Within.after (within_raiseIf ..) rfl ?_
        assumption
      have hx20 : Within 4128 s x20 := by
        unfold x20
        refine Within.after (within_raiseIf ..) rfl ?_
        assumption
      clear_value x13
      clear_value x14
      clear_value x15
      clear_value x16
      clear_value x17
      clear_value x18
      clear_value x19
      clear_value x20
      refine within_ite ?_ ?_
      · refine Within.after (within_raise ..) rfl ?_
        refine Within.after (within_pipMod ?_) rfl ?_
        · (dsimp only; exact id)
        · assumption
      · assumption
    · exact Within.refl _ _
  clear_value x1
  clear_value x2
  clear_value x3
  clear_value x4
  clear_value x5
  clear_value x6
  clear_value x7
  clear_value x8
  clear_value x9
  assumption

theorem within_throughComp (a0 : Nat) (a1 : Nat) (a2 : CapSet) (a3 : OpenBL) (s : State)
    : Within 4128 s (throughComp a0 a1 a2 a3 s).2.2 := by
  unfold throughComp
  extract_lets x1 x2 x3 x4 x5
  have hx3 : Within 4128 s x3 := by
    unfold x3
    refine Within.after (within_raiseIf ..) rfl ?_
    exact Within.refl _ _
  have hx5 : Within 4128 s x5.2 := by
    unfold x5
    refine Within.after (within_defLine ..) rfl ?_
    assumption
  clear_value x1
  clear_value x2
  clear_value x3
  clear_value x4
  clear_value x5
  assumption

theorem within_closeLine (a0 : Nat) (a1 : SecIn) (a2 : Nat) (a3 : Nat) (s : State)
    : Within 4129 s (closeLine a0 a1 a2 a3 s) := by
  unfold closeLine
  extract_lets x1 x2 x3 x4 x5 x6 x7 x8 x9 x10 x11
  have hx7 : Within 4129 s x7 := by
    unfold x7
    refine Within.after (within_setSec ..) rfl ?_
    exact Within.refl _ _
  have hx10 : Within 4129 s x10 := by
    unfold x10
    refine within_ite ?_ ?_
    · refine Within.after (within_raise ..) rfl ?_
      refine Within.after (within_rsat ..) rfl ?_
      assumption
    · assumption
  have hx11 : Within 4129 s x11.2.2 := by
    unfold x11
    refine Within.after (within_throughComp ..) rfl ?_
    assumption
  clear_value x1
  clear_value x2
  clear_value x3
  clear_value x4
  clear_value x5
  clear_value x6
  clear_value x7
  clear_value x9
  clear_value x10
  clear_value x11
  refine within_ite ?_ ?_
  · dsimp -zeta only [x8]
    refine within_ite ?_ ?_
    · extract_lets x12
      clear_value x12
      refine Within.after (within_setSec ..) rfl ?_
      refine Within.after (within_pushSeg ..) rfl ?_
      assumption
    · refine Within.after (within_pushSeg ..) rfl ?_
      assumption
  · refine within_ite ?_ ?_
    · dsimp -zeta only [x8]
      refine within_ite ?_ ?_
      · extract_lets x13
        clear_value x13
        refine Within.after (within_setSec ..) rfl ?_
        refine Within.after (within_pushSeg ..) rfl ?_
        assumption
      · refine Within.after (within_pushSeg ..) rfl ?_
        assumption
    · refine within_ite ?_ ?_
      · dsimp -zeta only [x8]
        refine within_ite ?_ ?_
        · extract_lets x14
          clear_value x14
          refine Within.after (within_setSec ..) rfl ?_
          refine Within.after (within_raise ..) rfl ?_
          refine Within.after (within_rsat ..) rfl ?_
          assumption
        · refine Within.after (within_raise ..) rfl ?_
          refine Within.after (within_rsat ..) rfl ?_
          assumption
      · dsimp -zeta only [x8]
        refine within_ite ?_ ?_
        · extract_lets x15
          clear_value x15
          refine Within.after (within_setSec ..) rfl ?_
          assumption
        · assumption

theorem within_closeBand (a0 : Nat) (a1 : SecIn) (a2 : Nat) (s : State) : Within 4129 s (closeBand a0 a1 a2 s) := by
  unfold closeBand
  split
  · exact Within.refl _ _
  · extract_lets x1 x2
    clear_value x1
    clear_value x2
    refine within_foldl ?_ ?_
    · intro y3 y4 y5
      refine Within.after (within_closeLine ..) rfl ?_
      assumption
    · exact Within.refl _ _

theorem within_closeLive (a0 : Nat) (s : State) : Within 8225 s (closeLive a0 s) := by
  unfold closeLive
  split
  · exact Within.refl _ _
  · refine within_ite ?_ ?_
    · extract_lets x1 x2
      have hx1 : Within 8225 s x1 := by
        unfold x1
        refine Within.after (within_skipCps ..) rfl ?_
        refine Within.after (within_cancelGust ..) rfl ?_
        exact Within.refl _ _
      have hx2 : Within 8225 s x2 := by
        unfold x2
        refine Within.after (within_releaseResv ..) rfl ?_
        assumption
      clear_value x1
      clear_value x2
      refine Within.after (within_raise ..) rfl ?_
      refine Within.after (within_rsat ..) rfl ?_
      refine Within.after (within_modObj ..) rfl ?_
      assumption
    · refine Within.after (within_modObj ..) rfl ?_
      exact Within.refl _ _

theorem within_pushUnit (a0 : Nat) (a1 : LineUnit) (s : State) : Within 4097 s (pushUnit a0 a1 s) := by
  unfold pushUnit
  refine Within.after (within_rwrap ..) rfl ?_
  refine Within.after (within_pipMod ?_) rfl ?_
  · (dsimp only; exact id)
  · exact Within.refl _ _

theorem within_clsUnit (a0 : RegLine) (a1 : Bool) (s : State) : Within 4097 s (clsUnit a0 a1 s) := by
  unfold clsUnit
  extract_lets x1 x2 x3
  clear_value x1
  clear_value x2
  clear_value x3
  refine within_ite ?_ ?_
  · refine Within.after (within_pushUnit ..) rfl ?_
    exact Within.refl _ _
  · refine Within.after (within_pushUnit ..) rfl ?_
    exact Within.refl _ _

theorem within_cmdRefused (a0 : Nat) (a1 : Nat) (a2 : Nat) (s : State) : Within 289 s (cmdRefused a0 a1 a2 s) := by
  unfold cmdRefused
  refine within_mbAddressed ?_ ?_ ?_ ?_
  · intro y4 y5 y6
    refine within_ite ?_ ?_
    · refine Within.after (within_mbRefuse ..) rfl ?_
      assumption
    · assumption
  · rfl
  · rfl
  · exact Within.refl _ _

theorem within_oneStep (s : State) : Within 4664 s (oneStep s) := by
  unfold oneStep
  extract_lets x1 x2 x3
  clear_value x1
  clear_value x2
  have hx3 : Within 4664 s x3 := by
    unfold x3
    refine Within.after (within_tbsMod ..) rfl ?_
    exact Within.refl _ _
  clear_value x3
  refine within_ite ?_ ?_
  · assumption
  · refine Within.after (within_boundary ..) rfl ?_
    assumption

theorem within_nSteps (a0 : Nat) (s : State) : Within 4664 s (nSteps a0 s) := by
  induction a0 generalizing s
  · unfold nSteps
    exact Within.refl _ _
  · rename_i n ih
    unfold nSteps
    refine Within.after (ih ..) rfl ?_
    refine Within.after (within_oneStep ..) rfl ?_
    exact Within.refl _ _

theorem within_rateCycle (a0 : Nat) (s : State) : Within 4664 s (rateCycle a0 s) := by
  unfold rateCycle
  extract_lets x1
  clear_value x1
  refine Within.after (within_nSteps ..) rfl ?_
  refine Within.after (within_tbsMod ..) rfl ?_
  exact Within.refl _ _

theorem within_coastCycle (s : State) : Within 4664 s (coastCycle s) := by
  unfold coastCycle
  split
  · refine within_ite ?_ ?_
    · refine Within.after (within_rateCycle ..) rfl ?_
      exact Within.refl _ _
    · exact Within.refl _ _
  · refine within_ite ?_ ?_
    · refine Within.after (within_rateCycle ..) rfl ?_
      exact Within.refl _ _
    · exact Within.refl _ _

theorem within_coastEnd (s : State) : Within 40 s (coastEnd s) := by
  unfold coastEnd
  split
  · refine within_ite ?_ ?_
    · refine Within.after (within_raise0 ..) rfl ?_
      refine Within.after (within_tbsMod ..) rfl ?_
      exact Within.refl _ _
    · exact Within.refl _ _
  · exact Within.refl _ _

theorem within_countClip (a0 : Nat) (a1 : Nat) (a2 : Nat) (s : State) : Within 33 s (countClip a0 a1 a2 s) := by
  unfold countClip
  refine within_ite ?_ ?_
  · exact Within.refl _ _
  · refine Within.after (within_raise ..) rfl ?_
    refine Within.after (within_rsat ..) rfl ?_
    exact Within.refl _ _

theorem within_codingUnit (a0 : RegLine) (a1 : Option (Map Nat)) (a2 : Bool) (s : State)
    : Within 4129 s (codingUnit a0 a1 a2 s) := by
  unfold codingUnit
  extract_lets x1 x2 x3 x4 x5 x6 x7 x8 x9 x10
  have hx7 : Within 4129 s x7 := by
    unfold x7
    refine Within.after (within_countClip ..) rfl ?_
    exact Within.refl _ _
  have hx8 : Within 4129 s x8 := by
    unfold x8
    refine Within.after (within_pipMod ?_) rfl ?_
    · (dsimp only; exact id)
    · assumption
  clear_value x1
  clear_value x2
  clear_value x3
  clear_value x4
  clear_value x5
  clear_value x6
  clear_value x7
  clear_value x8
  clear_value x9
  clear_value x10
  refine within_ite ?_ ?_
  · split
    · refine Within.after (within_pushUnit ..) rfl ?_
      assumption
    · refine Within.after (within_pushUnit ..) rfl ?_
      assumption
  · refine within_ite ?_ ?_
    · refine Within.after (within_pipMod ?_) rfl ?_
      · (dsimp only; exact id)
      · assumption
    · refine Within.after (within_pushUnit ..) rfl ?_
      assumption

theorem within_indict (a0 : Nat) (a1 : Nat) (a2 : Nat) (s : State) : Within 2080 s (indict a0 a1 a2 s) := by
  unfold indict
  extract_lets x1
  clear_value x1
  refine within_ite ?_ ?_
  · exact Within.refl _ _
  · refine Within.after (within_raiseSlice ..) rfl ?_
    refine Within.after (within_setSlice ..) rfl ?_
    exact Within.refl _ _

theorem within_commitAudit (a0 : Nat) (s : State) (a2 : Nat × Bool) : Within 2080 s (commitAudit a0 s a2) := by
  unfold commitAudit
  extract_lets x1 x2 x3 x4 x5 x6 x7 x8 x9 x10
  have hx9 : Within 2080 s x9 := by
    unfold x9
    refine Within.after (within_setSlice ..) rfl ?_
    exact Within.refl _ _
  have hx10 : Within 2080 s x10 := by
    unfold x10
    refine within_ite ?_ ?_
    · refine Within.after (within_raiseSlice ..) rfl ?_
      assumption
    · assumption
  clear_value x1
  clear_value x2
  clear_value x3
  clear_value x4
  clear_value x5
  clear_value x6
  clear_value x7
  clear_value x8
  clear_value x9
  clear_value x10
  refine within_ite ?_ ?_
  · refine within_ite ?_ ?_
    · refine Within.after (within_indict ..) rfl ?_
      assumption
    · refine Within.after (within_raiseSlice ..) rfl ?_
      assumption
  · assumption

theorem within_suspectAu (a0 : Nat) (s : State) : Within 2080 s (suspectAu a0 s) := by
  unfold suspectAu
  extract_lets x1 x2 x3 x4
  have hx3 : Within 2080 s x3 := by
    unfold x3
    refine Within.after (within_setSlice ..) rfl ?_
    exact Within.refl _ _
  clear_value x1
  clear_value x2
  clear_value x3
  clear_value x4
  refine within_ite ?_ ?_
  · refine Within.after (within_raiseSlice ..) rfl ?_
    refine Within.after (within_setSlice ..) rfl ?_
    assumption
  · assumption

theorem within_refCheck (a0 : Nat) (s : State) : Within 2081 s (refCheck a0 s) := by
  unfold refCheck
  extract_lets x1 x2 x3 x4 x5 x6 x7 x8 x9 x10 x11
  have hx6 : Within 2081 s x6 := by
    unfold x6
    refine Within.after (within_setSlice ..) rfl ?_
    exact Within.refl _ _
  have hx7 : Within 2081 s x7 := by
    unfold x7
    refine within_ite ?_ ?_
    · refine Within.after (within_rfset ..) rfl ?_
      refine Within.after (within_rfset ..) rfl ?_
      assumption
    · assumption
  have hx9 : Within 2081 s x9 := by
    unfold x9
    refine within_ite ?_ ?_
    · refine Within.after (within_raiseSlice ..) rfl ?_
      refine Within.after (within_setSlice ..) rfl ?_
      assumption
    · assumption
  have hx10 : Within 2081 s x10 := by
    unfold x10
    refine Within.after (within_raiseSlice ..) rfl ?_
    assumption
  clear_value x1
  clear_value x2
  clear_value x3
  clear_value x4
  clear_value x5
  clear_value x6
  clear_value x7
  clear_value x8
  clear_value x9
  clear_value x10
  clear_value x11
  split
  · refine within_foldl ?_ ?_
    · intro y12 y13 y14
      refine Within.after (within_commitAudit ..) rfl ?_
      assumption
    · assumption
  · refine Within.after (within_suspectAu ..) rfl ?_
    refine Within.after (within_raiseSlice ..) rfl ?_
    assumption
  · refine within_ite ?_ ?_
    · refine Within.after (within_raiseSlice ..) rfl ?_
      refine Within.after (within_setSlice ..) rfl ?_
      assumption
    · assumption
  · assumption

theorem within_cycleEnd (a0 : Nat) (s : State) : Within 2081 s (cycleEnd a0 s) := by
  unfold cycleEnd
  extract_lets x1 x2
  have hx1 : Within 2081 s x1 := by
    unfold x1
    refine Within.after (within_refCheck ..) rfl ?_
    exact Within.refl _ _
  have hx2 : Within 2081 s x2 := by
    unfold x2
    refine Within.after (within_raiseIf ..) rfl ?_
    assumption
  clear_value x1
  clear_value x2
  refine Within.after (within_serveWait ..) rfl ?_
  assumption

theorem within_cycleNotDone (a0 : List Nat) (s : State) : Within 2081 s (cycleNotDone a0 s) := by
  unfold cycleNotDone
  refine within_foldl ?_ ?_
  · intro y1 y2 y3
    refine Within.after (within_cycleEnd ..) rfl ?_
    refine Within.after (within_setSlice ..) rfl ?_
    assumption
  · exact Within.refl _ _

theorem within_shadowLineEnd (a0 : Nat) (s : State) : Within 2080 s (shadowLineEnd a0 s) := by
  unfold shadowLineEnd
  extract_lets x1
  clear_value x1
  split
  · exact Within.refl _ _
  · refine within_ite ?_ ?_
    · exact Within.refl _ _
    · refine within_ite ?_ ?_
      · extract_lets x2 x3 x4 x5
        have hx3 : Within 2080 s x3 := by
          unfold x3
          refine Within.after (within_updStage ..) rfl ?_
          refine Within.after (within_raiseSlice ..) rfl ?_
          refine Within.after (within_setSlice ..) rfl ?_
          exact Within.refl _ _
        have hx5 : Within 2080 s x5 := by
          unfold x5
          refine Within.after (within_raiseSlice ..) rfl ?_
          refine Within.after (within_setSlice ..) rfl ?_
          assumption
        clear_value x2
        clear_value x3
        clear_value x4
        clear_value x5
        split
        · refine Within.after (within_raiseSlice ..) rfl ?_
          refine Within.after (within_setSlice ..) rfl ?_
          assumption
        · refine Within.after (within_serveWait ..) rfl ?_
          refine Within.after (within_suspectAu ..) rfl ?_
          assumption
      · extract_lets x6 x7 x8 x9
        have hx8 : Within 2080 s x8 := by
          unfold x8
          refine within_ite ?_ ?_
          · refine Within.after (within_raiseIf ..) rfl ?_
            refine Within.after (within_setSlice ..) rfl ?_
            exact Within.refl _ _
          · exact Within.refl _ _
        clear_value x6
        clear_value x7
        clear_value x8
        clear_value x9
        refine within_ite ?_ ?_
        · refine Within.after (within_setSlice ..) rfl ?_
          assumption
        · refine Within.after (within_setSlice ..) rfl ?_
          assumption

theorem within_sliceLineEnd (a0 : Nat) (a1 : Nat) (s : State) : Within 2081 s (sliceLineEnd a0 a1 s) := by
  unfold sliceLineEnd
  extract_lets x1 x2 x3 x4 x5 x6 x7 x8 x9 x10
  clear_value x2
  clear_value x3
  clear_value x4
  clear_value x5
  clear_value x6
  have hx1 : Within 2081 s x1 := by
    unfold x1
    refine Within.after (within_shadowLineEnd ..) rfl ?_
    exact Within.refl _ _
  have hx7 : Within 2081 s x7 := by
    unfold x7
    refine within_ite ?_ ?_
    · refine within_ite ?_ ?_
      · refine Within.after (within_raiseSlice ..) rfl ?_
        refine Within.after (within_setSlice ..) rfl ?_
        assumption
      · refine Within.after (within_setSlice ..) rfl ?_
        assumption
    · assumption
  have hx9 : Within 2081 s x9 := by
    unfold x9
    refine within_foldl ?_ ?_
    · intro y11 y12 y13
      refine within_ite ?_ ?_
      · extract_lets x14 x15
        clear_value x14
        have hx15 : Within 2081 s x15 := by
          unfold x15
          refine Within.after (within_raiseSlice ..) rfl ?_
          refine Within.after (within_setSlice ..) rfl ?_
          assumption
        clear_value x15
        refine within_ite ?_ ?_
        · refine Within.after (within_indict ..) rfl ?_
          assumption
        · refine Within.after (within_makeDefective ..) rfl ?_
          assumption
      · assumption
    · assumption
  have hx10 : Within 2081 s x10 := by
    unfold x10
    refine Within.after (within_raiseIf ..) rfl ?_
    assumption
  clear_value x1
  clear_value x7
  clear_value x9
  clear_value x10
  refine within_ite ?_ ?_
  · refine Within.after (within_cycleEnd ..) rfl ?_
    assumption
  · refine Within.after (within_serveWait ..) rfl ?_
    assumption

theorem within_convLineEnd (a0 : ReadSeq) (s : State) : Within 2081 s (convLineEnd a0 s) := by
  unfold convLineEnd
  extract_lets x1 x2
  have hx2 : Within 2081 s x2 := by
    unfold x2
    refine within_foldl ?_ ?_
    · intro y3 y4 y5
      refine Within.after (within_sliceLineEnd ..) rfl ?_
      assumption
    · exact Within.refl _ _
  clear_value x1
  clear_value x2
  refine within_ite ?_ ?_
  · refine Within.after (within_cycleNotDone ..) rfl ?_
    assumption
  · assumption

theorem within_convOffset (a0 : ReadSeq) (a1 : Codes) (s : State) : Within 2080 s (convOffset a0 a1 s) := by
  unfold convOffset
  extract_lets x1 x2 x3 x4
  have hx4 : Within 2080 s x4 := by
    unfold x4
    refine within_foldl ?_ ?_
    · intro y5 y6 y7
      refine Within.after (within_setSlice ..) rfl ?_
      assumption
    · refine within_mk rfl ?_ (hf := form_eq)
      exact Within.refl _ _
  clear_value x1
  clear_value x2
  clear_value x4
  refine within_ite ?_ ?_
  · refine within_mk rfl ?_ (hf := form_eq)
    exact Within.refl _ _
  · refine Within.after (within_blackJudge ..) rfl ?_
    assumption

theorem within_convRow (a0 : ReadSeq) (a1 : Nat) (a2 : Nat) (a3 : Codes) (s : State)
    : Within 2048 s (convRow a0 a1 a2 a3 s) := by
  unfold convRow
  extract_lets x1 x2 x3
  clear_value x1
  clear_value x2
  clear_value x3
  refine within_foldl ?_ ?_
  · intro y4 y5 y6
    refine Within.after (within_setSlice ..) rfl ?_
    assumption
  · exact Within.refl _ _

theorem within_colConvert (a0 : Codes) (s : State) : WithinO 3105 s (fun r => r.2.2) (colConvert a0 s) := by
  unfold colConvert
  split
  · exact withinO_none
  · extract_lets x1 x2 x3 x4 x5 x6
    have hx3 : Within 3105 s x3 := by
      unfold x3
      split
      · refine Within.after (within_convOffset ..) rfl ?_
        exact Within.refl _ _
      · refine within_ite ?_ ?_
        · exact Within.refl _ _
        · refine Within.after (within_convRow ..) rfl ?_
          exact Within.refl _ _
    have hx6 : Within 3105 s x6 := by
      unfold x6
      refine Within.after (within_aryMod ..) rfl ?_
      assumption
    clear_value x1
    clear_value x2
    clear_value x3
    clear_value x4
    clear_value x5
    clear_value x6
    refine withinO_some ?_
    refine within_pair ?_
    refine within_ite ?_ ?_
    · refine Within.after (within_convLineEnd ..) rfl ?_
      assumption
    · assumption

theorem within_colResetScope (a0 : Nat) (s : State) : Within 2080 s (colResetScope a0 s) := by
  unfold colResetScope
  refine within_ite ?_ ?_
  · extract_lets x1 x2 x3
    have hx3 : Within 2080 s x3 := by
      unfold x3
      refine Within.after (within_setSlice ..) rfl ?_
      exact Within.refl _ _
    clear_value x1
    clear_value x2
    clear_value x3
    refine within_ite ?_ ?_
    · refine Within.after (within_raiseSlice ..) rfl ?_
      assumption
    · assumption
  · refine within_ite ?_ ?_
    · refine within_mk rfl ?_ (hf := form_eq)
      exact Within.refl _ _
    · exact Within.refl _ _

theorem within_dsnuNext (s : State) : Within 4224 s (dsnuNext s) := by
  unfold dsnuNext
  split
  · exact Within.refl _ _
  · split
    · refine Within.after (within_nvSettle ..) rfl ?_
      refine Within.after (within_pipMod ?_) rfl ?_
      · (dsimp only; exact id)
      · exact Within.refl _ _
    · exact Within.refl _ _

theorem within_dsnuBandChange (s : State) : Within 4256 s (dsnuBandChange s) := by
  unfold dsnuBandChange
  extract_lets x1
  have hx1 : Within 4256 s x1 := by
    unfold x1
    refine Within.after (within_raiseIf ..) rfl ?_
    exact Within.refl _ _
  clear_value x1
  refine Within.after (within_dsnuNext ..) rfl ?_
  refine Within.after (within_dsnuSwitch ..) rfl ?_
  assumption

theorem within_pulseChange (a0 : Nat) (s : State) : Within 1056 s (pulseChange a0 s) := by
  unfold pulseChange
  refine Within.after (within_raiseIf ..) rfl ?_
  refine Within.after (within_aryMod ..) rfl ?_
  exact Within.refl _ _

theorem within_columnBand (a0 : Nat) (s : State) : Within 7328 s (columnBand a0 s) := by
  unfold columnBand
  refine Within.after (within_pulseChange ..) rfl ?_
  refine Within.after (within_dsnuBandChange ..) rfl ?_
  refine Within.after (within_raise0 ..) rfl ?_
  refine within_mk rfl ?_ (hf := form_eq)
  exact Within.refl _ _

theorem within_columnCalibration (a0 : CalMeas) (a1 : Bool) (s : State) : Within 2080 s (columnCalibration a0 a1 s) := by
  unfold columnCalibration
  refine within_ite ?_ ?_
  · extract_lets x1 x2 x3 x4 x5
    clear_value x1
    clear_value x2
    have hx3 : Within 2080 s x3 := by
      unfold x3
      refine within_ite ?_ ?_
      · refine Within.after (within_raise0 ..) rfl ?_
        exact Within.refl _ _
      · exact Within.refl _ _
    have hx4 : Within 2080 s x4 := by
      unfold x4
      refine within_foldl ?_ ?_
      · intro y6 y7 y8
        refine Within.after (within_calSlice ..) rfl ?_
        refine Within.after (within_calRestore ..) rfl ?_
        assumption
      · assumption
    clear_value x3
    clear_value x4
    refine within_mk rfl ?_ (hf := form_eq)
    assumption
  · exact Within.refl _ _

theorem within_partnerLate (a0 : Nat) (s : State) : Within 8233 s (partnerLate a0 s) := by
  unfold partnerLate
  split
  · exact Within.refl _ _
  · extract_lets x1
    have hx1 : Within 8233 s x1 := by
      unfold x1
      refine Within.after (within_rsat ..) rfl ?_
      refine Within.after (within_modObj ..) rfl ?_
      exact Within.refl _ _
    clear_value x1
    refine Within.after (within_confirm ..) rfl ?_
    refine Within.after (within_dlMissUnless ..) rfl ?_
    assumption

theorem within_commitCheck (a0 : Nat) (s : State) : Within 8233 s (commitCheck a0 s) := by
  unfold commitCheck
  refine within_ite ?_ ?_
  · exact Within.refl _ _
  · refine within_foldl ?_ ?_
    · intro y1 y2 y3
      split
      · refine within_ite ?_ ?_
        · assumption
        · refine within_ite ?_ ?_
          · refine Within.after (within_partnerLate ..) rfl ?_
            assumption
          · refine Within.after (within_commitMiss ..) rfl ?_
            assumption
      · assumption
    · refine Within.after (within_vdtMod ..) rfl ?_
      exact Within.refl _ _

theorem within_linOffset (a0 : Nat) (a1 : SecIn) (s : State) : Within 4128 s (linOffset a0 a1 s) := by
  unfold linOffset
  extract_lets x1 x2 x3 x4 x5
  clear_value x1
  clear_value x2
  clear_value x3
  clear_value x4
  clear_value x5
  refine Within.after (within_raiseIf ..) rfl ?_
  refine Within.after (within_setSec ..) rfl ?_
  exact Within.refl _ _

theorem within_offsetLost (a0 : Nat) (a1 : SecIn) (s : State) : Within 4096 s (offsetLost a0 a1 s) := by
  unfold offsetLost
  extract_lets x1
  clear_value x1
  refine within_ite ?_ ?_
  · exact Within.refl _ _
  · refine Within.after (within_setSec ..) rfl ?_
    exact Within.refl _ _

theorem within_tdiGap (a0 : Nat) (a1 : SecIn) (s : State) : Within 4096 s (tdiGap a0 a1 s) := by
  unfold tdiGap
  extract_lets x1
  clear_value x1
  refine within_foldl ?_ ?_
  · intro y2 y3 y4
    extract_lets x5
    refine within_ite ?_ ?_
    · assumption
    · refine Within.after (within_setSec ..) rfl ?_
      assumption
  · exact Within.refl _ _

theorem within_tdiRow (a0 : Nat) (a1 : SecIn) (a2 : Nat) (a3 : Nat) (s : State) : Within 4096 s (tdiRow a0 a1 a2 a3 s) := by
  unfold tdiRow
  extract_lets x1 x2 x3 x4 x5 x6
  clear_value x1
  clear_value x2
  clear_value x3
  clear_value x4
  clear_value x5
  clear_value x6
  refine within_ite ?_ ?_
  · exact Within.refl _ _
  · refine within_ite ?_ ?_
    · refine Within.after (within_setSec ..) rfl ?_
      exact Within.refl _ _
    · refine within_ite ?_ ?_
      · refine Within.after (within_setSec ..) rfl ?_
        exact Within.refl _ _
      · refine Within.after (within_setSec ..) rfl ?_
        exact Within.refl _ _

theorem within_secEntry (a0 : Nat) (a1 : SecIn) (s : State) : Within 4129 s (secEntry a0 a1 s) := by
  unfold secEntry
  extract_lets x1 x2 x3 x4 x5 x6
  clear_value x1
  clear_value x2
  clear_value x6
  have hx3 : Within 4129 s x3 := by
    unfold x3
    refine Within.after (within_setSec ..) rfl ?_
    exact Within.refl _ _
  have hx4 : Within 4129 s x4 := by
    unfold x4
    split
    · refine within_ite ?_ ?_
      · refine Within.after (within_offsetLost ..) rfl ?_
        assumption
      · refine Within.after (within_linOffset ..) rfl ?_
        assumption
    · extract_lets x7
      have hx7 : Within 4129 s x7 := by
        unfold x7
        refine Within.after (within_tdiRow ..) rfl ?_
        assumption
      clear_value x7
      refine within_ite ?_ ?_
      · refine Within.after (within_closeBand ..) rfl ?_
        assumption
      · assumption
  have hx5 : Within 4129 s x5 := by
    unfold x5
    refine within_foldl ?_ ?_
    · intro y8 y9 y10
      refine Within.after (within_closeBand ..) rfl ?_
      assumption
    · assumption
  clear_value x3
  clear_value x4
  clear_value x5
  refine within_ite ?_ ?_
  · refine within_foldl ?_ ?_
    · intro y11 y12 y13
      refine Within.after (within_closeBand ..) rfl ?_
      assumption
    · refine Within.after (within_tdiGap ..) rfl ?_
      refine Within.after (within_offsetLost ..) rfl ?_
      assumption
  · refine within_ite ?_ ?_
    · refine Within.after (within_setSec ..) rfl ?_
      assumption
    · assumption

theorem within_secPumpF (a0 : Nat) (a1 : Nat) (s : State) : Within 4129 s (secPumpF a0 a1 s) := by
  induction a0 generalizing a1 s
  · unfold secPumpF
    exact Within.refl _ _
  · rename_i n ih
    unfold secPumpF
    extract_lets x1
    clear_value x1
    split
    · refine within_ite ?_ ?_
      · refine Within.after (ih ..) rfl ?_
        refine Within.after (within_secEntry ..) rfl ?_
        refine Within.after (within_setSec ..) rfl ?_
        exact Within.refl _ _
      · exact Within.refl _ _
    · exact Within.refl _ _

theorem within_secPump (a0 : Nat) (s : State) : Within 4129 s (secPump a0 s) := by
  unfold secPump
  refine within_ite ?_ ?_
  · refine Within.after (within_secPumpF ..) rfl ?_
    exact Within.refl _ _
  · exact Within.refl _ _

theorem within_writeSlot (a0 : Nat) (a1 : Seg) (s : State) : Within 4128 s (writeSlot a0 a1 s) := by
  unfold writeSlot
  extract_lets x1 x2 x3 x4 x5 x6 x7 x8 x9
  clear_value x1
  clear_value x2
  clear_value x3
  clear_value x4
  clear_value x5
  clear_value x6
  clear_value x7
  clear_value x8
  clear_value x9
  refine Within.after (within_raiseIf ..) rfl ?_
  refine Within.after (within_pipMod ?_) rfl ?_
  · exact id
  · exact Within.refl _ _

theorem within_compStore (a0 : Nat) (s : State) : WithinO 4129 s (fun r => r.2) (compStore a0 s) := by
  unfold compStore
  extract_lets x1
  clear_value x1
  split
  · exact withinO_none
  · split
    · exact withinO_none
    · refine withinO_some ?_
      refine within_pair ?_
      refine Within.after (within_secPump ..) rfl ?_
      refine Within.after (within_writeSlot ..) rfl ?_
      refine Within.after (within_setSec ..) rfl ?_
      exact Within.refl _ _

theorem within_cpFire (a0 : Nat) (a1 : Nat) (a2 : Nat) (a3 : Obj) (s : State) : Within 8193 s (cpFire a0 a1 a2 a3 s) := by
  unfold cpFire
  extract_lets x1 x2 x3
  clear_value x1
  clear_value x2
  clear_value x3
  split
  · rename_i hq4
    refine (fun hw4 => ?_) (withinO_get (k := 8193) (s := s) (p := fun r => r) hq4 ?_)
    · refine Within.after (within_setObj ..) rfl ?_
      assumption
    · split
      · exact withinO_none
      · refine withinO_after (within_pushEval ..) rfl ?_
        exact Within.refl _ _
  · refine Within.after (within_rsat ..) rfl ?_
    refine Within.after (within_setObj ..) rfl ?_
    exact Within.refl _ _

theorem within_cpPoll (a0 : Nat) (s : State) : Within 8193 s (cpPoll a0 s) := by
  unfold cpPoll
  split
  · exact Within.refl _ _
  · extract_lets x1 x2
    clear_value x1
    clear_value x2
    refine within_ite ?_ ?_
    · refine within_ite ?_ ?_
      · refine Within.after (within_rsat ..) rfl ?_
        refine Within.after (within_setObj ..) rfl ?_
        exact Within.refl _ _
      · refine within_ite ?_ ?_
        · refine Within.after (within_rsat ..) rfl ?_
          refine Within.after (within_setObj ..) rfl ?_
          exact Within.refl _ _
        · refine Within.after (within_cpFire ..) rfl ?_
          exact Within.refl _ _
    · exact Within.refl _ _

theorem within_cpPollAll (s : State) : Within 8193 s (cpPollAll s) := by
  unfold cpPollAll
  refine within_ite ?_ ?_
  · refine within_foldl ?_ ?_
    · intro y1 y2 y3
      refine Within.after (within_cpPoll ..) rfl ?_
      assumption
    · exact Within.refl _ _
  · exact Within.refl _ _

theorem within_gustColumns (a0 : Seg) (a1 : CapSet) (a2 : Nat) (a3 : List Nat) (s : State)
    : Within 8192 s (gustColumns a0 a1 a2 a3 s) := by
  unfold gustColumns
  refine Within.after (within_modObj ..) rfl ?_
  exact Within.refl _ _

theorem within_gustTap (a0 : Nat) (a1 : Seg) (s : State) : Within 8192 s (gustTap a0 a1 s) := by
  unfold gustTap
  refine within_ite ?_ ?_
  · exact Within.refl _ _
  · extract_lets x1 x2 x3 x4 x5
    clear_value x1
    clear_value x2
    clear_value x3
    clear_value x4
    clear_value x5
    refine within_ite ?_ ?_
    · exact Within.refl _ _
    · refine within_foldl ?_ ?_
      · intro y6 y7 y8
        refine Within.after (within_gustColumns ..) rfl ?_
        assumption
      · exact Within.refl _ _

theorem within_compWrite (a0 : Nat) (s : State) : Within 12321 s (compWrite a0 s) := by
  unfold compWrite
  refine within_ite ?_ ?_
  · exact Within.refl _ _
  · split
    · exact Within.refl _ _
    · rename_i hq1
      refine (fun hw1 => ?_) (withinO_get (k := 12321) (s := s) (p := fun r => r.2) hq1 ?_)
      · refine Within.after (within_cpPollAll ..) rfl ?_
        refine Within.after (within_gustTap ..) rfl ?_
        assumption
      · refine withinO_after (within_compStore ..) rfl ?_
        exact Within.refl _ _

theorem within_storeRow (a0 : Nat) (a1 : AuxRow) (s : State) : Within 32801 s (storeRow a0 a1 s) := by
  unfold storeRow
  extract_lets x1 x2 x3 x4 x5 x6 x7 x8 x9 x10
  clear_value x1
  clear_value x2
  clear_value x3
  clear_value x4
  clear_value x5
  clear_value x6
  clear_value x7
  clear_value x8
  have hx9 : Within 32801 s x9 := by
    unfold x9
    refine Within.after (within_setPort ..) rfl ?_
    exact Within.refl _ _
  have hx10 : Within 32801 s x10 := by
    unfold x10
    refine Within.after (within_rset ..) rfl ?_
    assumption
  clear_value x9
  clear_value x10
  refine within_ite ?_ ?_
  · refine Within.after (within_raiseAux ..) rfl ?_
    refine Within.after (within_rsat ..) rfl ?_
    exact Within.refl _ _
  · refine within_ite ?_ ?_
    · refine Within.after (within_raiseAux ..) rfl ?_
      refine Within.after (within_rsat ..) rfl ?_
      assumption
    · assumption

theorem within_emitRows (a0 : Nat) (a1 : Nat) (s : State) : Within 32801 s (emitRows a0 a1 s) := by
  unfold emitRows
  extract_lets x1 x2 x3
  clear_value x1
  clear_value x2
  have hx3 : Within 32801 s x3 := by
    unfold x3
    refine within_foldl ?_ ?_
    · intro y4 y5 y6
      extract_lets x7 x8 x9
      clear_value x7
      clear_value x8
      clear_value x9
      refine Within.after (within_storeRow ..) rfl ?_
      assumption
    · exact Within.refl _ _
  clear_value x3
  refine within_ite ?_ ?_
  · refine Within.after (within_modPort ..) rfl ?_
    refine within_foldl ?_ ?_
    · intro y10 y11 y12
      refine Within.after (within_storeRow ..) rfl ?_
      assumption
    · exact Within.refl _ _
  · refine Within.after (within_modPort ..) rfl ?_
    assumption

theorem within_flushCarry (a0 : Nat) (s : State) : Within 32801 s (flushCarry a0 s) := by
  unfold flushCarry
  extract_lets x1 x2
  clear_value x1
  have hx2 : Within 32801 s x2 := by
    unfold x2
    split
    · refine Within.after (within_setPort ..) rfl ?_
      exact Within.refl _ _
    · exact Within.refl _ _
  clear_value x2
  refine Within.after (within_modPort ..) rfl ?_
  refine Within.after (within_emitRows ..) rfl ?_
  assumption

theorem within_dropStripe (a0 : Nat) (a1 : Nat) (a2 : Nat) (s : State) : Within 32801 s (dropStripe a0 a1 a2 s) := by
  unfold dropStripe
  extract_lets x1 x2
  have hx1 : Within 32801 s x1 := by
    unfold x1
    refine Within.after (within_modPort ..) rfl ?_
    exact Within.refl _ _
  have hx2 : Within 32801 s x2 := by
    unfold x2
    refine within_ite ?_ ?_
    · refine Within.after (within_flushCarry ..) rfl ?_
      assumption
    · assumption
  clear_value x1
  clear_value x2
  refine Within.after (within_raiseAux ..) rfl ?_
  refine Within.after (within_rsat ..) rfl ?_
  assumption

theorem within_lineDone (a0 : Nat) (a1 : List Nat) (s : State) : Within 32801 s (lineDone a0 a1 s) := by
  unfold lineDone
  extract_lets x1 x2 x3 x4 x5 x6 x7 x8 x9 x10 x11 x12 x13 x14 x15 x16 x17
  clear_value x1
  clear_value x2
  clear_value x3
  clear_value x4
  clear_value x5
  clear_value x6
  clear_value x7
  clear_value x8
  clear_value x9
  clear_value x10
  clear_value x11
  have hx12 : Within 32801 s x12 := by
    unfold x12
    refine Within.after (within_setPort ..) rfl ?_
    exact Within.refl _ _
  have hx13 : Within 32801 s x13 := by
    unfold x13
    refine within_ite ?_ ?_
    · refine Within.after (within_raiseAux ..) rfl ?_
      refine Within.after (within_rsat ..) rfl ?_
      assumption
    · assumption
  have hx14 : Within 32801 s x14 := by
    unfold x14
    refine within_ite ?_ ?_
    · refine Within.after (within_raiseAux ..) rfl ?_
      refine Within.after (within_rsat ..) rfl ?_
      assumption
    · assumption
  have hx15 : Within 32801 s x15 := by
    unfold x15
    refine Within.after (within_rsat ..) rfl ?_
    assumption
  have hx16 : Within 32801 s x16 := by
    unfold x16
    refine within_ite ?_ ?_
    · assumption
    · refine Within.after (within_rsat ..) rfl ?_
      assumption
  have hx17 : Within 32801 s x17 := by
    unfold x17
    refine within_ite ?_ ?_
    · refine Within.after (within_raiseAux ..) rfl ?_
      refine Within.after (within_modPort ..) rfl ?_
      assumption
    · assumption
  clear_value x12
  clear_value x13
  clear_value x14
  clear_value x15
  clear_value x16
  clear_value x17
  split
  · exact Within.refl _ _
  · extract_lets x18 x19 x20 x21 x22 x23
    clear_value x18
    clear_value x20
    clear_value x21
    clear_value x22
    have hx19 : Within 32801 s x19 := by
      unfold x19
      refine Within.after (within_modPort ..) rfl ?_
      assumption
    have hx23 : Within 32801 s x23 := by
      unfold x23
      refine Within.after (within_rmax ..) rfl ?_
      assumption
    clear_value x19
    clear_value x23
    refine within_ite ?_ ?_
    · assumption
    · refine within_ite ?_ ?_
      · assumption
      · refine within_ite ?_ ?_
        · assumption
        · refine Within.after (within_raiseAux ..) rfl ?_
          refine Within.after (within_dropStripe ..) rfl ?_
          assumption

theorem within_loopCount (a0 : Nat) (s : State) : Within 32768 s (loopCount a0 s) := by
  unfold loopCount
  extract_lets x1 x2
  clear_value x1
  clear_value x2
  refine within_ite ?_ ?_
  · exact Within.refl _ _
  · refine within_ite ?_ ?_
    · refine Within.after (within_setPort ..) rfl ?_
      exact Within.refl _ _
    · refine Within.after (within_setPort ..) rfl ?_
      exact Within.refl _ _

theorem within_companionFrameEnd (a0 : Nat) (a1 : List Nat) (s : State) : Within 32801 s (companionFrameEnd a0 a1 s) := by
  unfold companionFrameEnd
  extract_lets x1 x2 x3 x4 x5 x6 x7 x8
  clear_value x1
  clear_value x3
  clear_value x4
  clear_value x5
  have hx2 : Within 32801 s x2 := by
    unfold x2
    refine Within.after (within_lineDone ..) rfl ?_
    exact Within.refl _ _
  have hx6 : Within 32801 s x6 := by
    unfold x6
    refine Within.after (within_rset ..) rfl ?_
    refine Within.after (within_setPort ..) rfl ?_
    assumption
  have hx7 : Within 32801 s x7 := by
    unfold x7
    refine within_ite ?_ ?_
    · refine Within.after (within_raiseAux ..) rfl ?_
      refine Within.after (within_rsat ..) rfl ?_
      assumption
    · assumption
  have hx8 : Within 32801 s x8 := by
    unfold x8
    refine within_ite ?_ ?_
    · assumption
    · refine Within.after (within_flushCarry ..) rfl ?_
      assumption
  clear_value x2
  clear_value x6
  clear_value x7
  clear_value x8
  refine within_ite ?_ ?_
  · exact Within.refl _ _
  · refine Within.after (within_loopCount ..) rfl ?_
    assumption

theorem within_ctxApply (a0 : Nat) (s : State) : Within 32801 s (ctxApply a0 s) := by
  unfold ctxApply
  extract_lets x1 x2
  clear_value x1
  clear_value x2
  split
  · exact Within.refl _ _
  · extract_lets x3 x4
    clear_value x3
    clear_value x4
    refine within_ite ?_ ?_
    · exact Within.refl _ _
    · refine Within.after (within_raiseAux ..) rfl ?_
      refine Within.after (within_showActive ..) rfl ?_
      refine Within.after (within_setPort ..) rfl ?_
      exact Within.refl _ _

theorem within_companionFrameStart (a0 : Nat) (s : State) : Within 32801 s (companionFrameStart a0 s) := by
  unfold companionFrameStart
  refine within_ite ?_ ?_
  · exact Within.refl _ _
  · extract_lets x1
    have hx1 : Within 32801 s x1 := by
      unfold x1
      refine Within.after (within_modPort ..) rfl ?_
      exact Within.refl _ _
    clear_value x1
    refine Within.after (within_ctxApply ..) rfl ?_
    refine Within.after (within_rwrap ..) rfl ?_
    assumption

theorem within_companionJoin (a0 : RegLine) (s : State) : Within 32809 s (companionJoin a0 s).2 := by
  unfold companionJoin
  extract_lets x1
  clear_value x1
  refine within_foldl2 ?_ ?_
  · intro y2 y3 y4
    extract_lets x5 x6 x7 x8 x9 x10
    clear_value x6
    clear_value x7
    clear_value x8
    have hx5 : Within 32809 s x5 := by
      unfold x5
      assumption
    have hx9 : Within 32809 s x9 := by
      unfold x9
      refine Within.after (within_rset ..) rfl ?_
      assumption
    have hx10 : Within 32809 s x10 := by
      unfold x10
      split
      · refine Within.after (within_modPort ..) rfl ?_
        assumption
      · assumption
    clear_value x5
    clear_value x9
    clear_value x10
    split
    · refine within_pair ?_
      assumption
    · split
      · refine within_pair ?_
        assumption
      · refine within_pair ?_
        refine within_ite ?_ ?_
        · refine Within.after (within_dlMiss ..) rfl ?_
          assumption
        · assumption
  · refine within_pair ?_
    exact Within.refl _ _

theorem within_companionLineEnd (a0 : Nat) (a1 : List Nat) (s : State) : Within 32801 s (companionLineEnd a0 a1 s) := by
  unfold companionLineEnd
  refine within_ite ?_ ?_
  · refine Within.after (within_lineDone ..) rfl ?_
    exact Within.refl _ _
  · exact Within.refl _ _

theorem within_lamCap (s : State) (a1 : Int) : Within 1048576 s (lamCap s a1).2 := by
  unfold lamCap
  split
  · refine within_pair ?_
    exact Within.refl _ _
  · split
    · split
      · split
        · refine within_pair ?_
          exact Within.refl _ _
        · refine within_pair ?_
          exact Within.refl _ _
      · extract_lets x1
        have hx1 : Within 1048576 s x1.2 := by
          unfold x1
          refine Within.after (within_takeFree ..) rfl ?_
          exact Within.refl _ _
        clear_value x1
        assumption
    · split
      · refine within_pair ?_
        exact Within.refl _ _
      · refine within_pair ?_
        exact Within.refl _ _

theorem within_companionLineStart (a0 : Nat) (s : State) : Within 1081377 s (companionLineStart a0 s) := by
  unfold companionLineStart
  extract_lets x1 x2 x3 x4 x5 x6 x7 x8 x9 x10 x11 x12 x13 x14
  clear_value x1
  clear_value x2
  clear_value x3
  clear_value x4
  clear_value x7
  clear_value x8
  clear_value x11
  clear_value x12
  clear_value x13
  have hx5 : Within 1081377 s x5 := by
    unfold x5
    refine Within.after (within_raiseIf ..) rfl ?_
    refine Within.after (within_ctxApply ..) rfl ?_
    refine Within.after (within_setPort ..) rfl ?_
    exact Within.refl _ _
  have hx6 : Within 1081377 s x6 := by
    unfold x6
    refine Within.after (within_rsat ..) rfl ?_
    assumption
  have hx9 : Within 1081377 s x9.2 := by
    unfold x9
    refine Within.after (within_lamCap ..) rfl ?_
    assumption
  have hx10 : Within 1081377 s x10 := by
    unfold x10
    assumption
  have hx14 : Within 1081377 s x14 := by
    unfold x14
    refine Within.after (within_rmax ..) rfl ?_
    assumption
  clear_value x5
  clear_value x6
  clear_value x9
  clear_value x10
  clear_value x14
  refine within_ite ?_ ?_
  · exact Within.refl _ _
  · refine within_ite ?_ ?_
    · refine Within.after (within_raiseAux ..) rfl ?_
      refine Within.after (within_rsat ..) rfl ?_
      exact Within.refl _ _
    · refine within_ite ?_ ?_
      · refine within_ite ?_ ?_
        · assumption
        · refine Within.after (within_raiseAux ..) rfl ?_
          refine Within.after (within_rsat ..) rfl ?_
          refine Within.after (within_modPort ..) rfl ?_
          assumption
      · refine within_ite ?_ ?_
        · assumption
        · refine within_ite ?_ ?_
          · refine Within.after (within_modPort ..) rfl ?_
            assumption
          · refine within_ite ?_ ?_
            · refine Within.after (within_modPort ..) rfl ?_
              refine Within.after (within_abortStripe ..) rfl ?_
              assumption
            · refine Within.after (within_dropStripe ..) rfl ?_
              assumption

theorem within_const (a0 : Nat) (s : State) : Within 131104 s (const a0 s) := by
  unfold const
  refine within_runStep ?_ ?_
  · intro y1 y2 y3 y4
    refine Within.after (within_nextStep ..) rfl ?_
    refine Within.after (within_engMod ..) rfl ?_
    assumption
  · exact Within.refl _ _

theorem within_pointerRead (a0 : List Byte) (a1 : Nat) (s : State) : Within 197411 s (pointerRead a0 a1 s) := by
  unfold pointerRead
  refine within_ite ?_ ?_
  · extract_lets x1
    have hx1 : Within 197411 s x1.2 := by
      unfold x1
      refine Within.after (within_busRead ..) rfl ?_
      exact Within.refl _ _
    clear_value x1
    refine Within.after (within_mbDone ..) rfl ?_
    assumption
  · extract_lets x2
    have hx2 : Within 197411 s x2.2 := by
      unfold x2
      refine Within.after (within_busRead ..) rfl ?_
      exact Within.refl _ _
    clear_value x2
    refine Within.after (within_mbDone ..) rfl ?_
    assumption

theorem within_continueAt (a0 : Nat) (a1 : List Byte) (a2 : Nat) (s : State) : Within 2097151 s (continueAt a0 a1 a2 s) := by
  unfold continueAt
  refine within_mbAddressed ?_ ?_ ?_ ?_
  · intro y4 y5 y6
    extract_lets x7
    clear_value x7
    refine within_ite ?_ ?_
    · refine Within.after (within_busWrite ..) rfl ?_
      assumption
    · refine within_ite ?_ ?_
      · refine Within.after (within_mbShow ..) rfl ?_
        assumption
      · refine Within.after (within_pointerRead ..) rfl ?_
        assumption
  · rfl
  · rfl
  · exact Within.refl _ _

theorem within_convFault (a0 : Nat) (s : State) : Within 524320 s (convFault a0 s) := by
  unfold convFault
  extract_lets x1
  have hx1 : Within 524320 s x1 := by
    unfold x1
    refine Within.after (within_convMod ..) rfl ?_
    refine Within.after (within_askAgain ..) rfl ?_
    exact Within.refl _ _
  clear_value x1
  refine within_ite ?_ ?_
  · refine Within.after (within_raise0 ..) rfl ?_
    refine Within.after (within_thmMod ..) rfl ?_
    assumption
  · refine Within.after (within_raise ..) rfl ?_
    assumption

theorem within_gapCycle (a0 : Nat) (s : State) : Within 2081 s (gapCycle a0 s) := by
  unfold gapCycle
  refine within_ite ?_ ?_
  · refine within_foldl ?_ ?_
    · intro y1 y2 y3
      refine Within.after (within_setSlice ..) rfl ?_
      assumption
    · exact Within.refl _ _
  · refine within_ite ?_ ?_
    · refine Within.after (within_cycleNotDone ..) rfl ?_
      exact Within.refl _ _
    · exact Within.refl _ _

theorem within_secIn (a0 : Nat) (a1 : SecIn) (s : State) : Within 4129 s (secIn a0 a1 s) := by
  unfold secIn
  extract_lets x1 x2 x3 x4
  clear_value x1
  clear_value x2
  clear_value x3
  have hx4 : Within 4129 s x4 := by
    unfold x4
    refine Within.after (within_setSec ..) rfl ?_
    exact Within.refl _ _
  clear_value x4
  refine within_ite ?_ ?_
  · refine within_ite ?_ ?_
    · refine Within.after (within_offsetLost ..) rfl ?_
      exact Within.refl _ _
    · exact Within.refl _ _
  · refine within_ite ?_ ?_
    · refine Within.after (within_secPump ..) rfl ?_
      refine Within.after (within_setSec ..) rfl ?_
      exact Within.refl _ _
    · refine within_ite ?_ ?_
      · refine Within.after (within_secPump ..) rfl ?_
        refine Within.after (within_setSec ..) rfl ?_
        exact Within.refl _ _
      · refine within_ite ?_ ?_
        · refine Within.after (within_raise ..) rfl ?_
          refine Within.after (within_rsat ..) rfl ?_
          assumption
        · refine Within.after (within_secPump ..) rfl ?_
          refine Within.after (within_rmax ..) rfl ?_
          refine Within.after (within_setSec ..) rfl ?_
          exact Within.refl _ _

theorem within_gapMarker (a0 : Nat) (a1 : Nat) (s : State) : Within 4129 s (gapMarker a0 a1 s) := by
  unfold gapMarker
  refine within_foldl ?_ ?_
  · intro y1 y2 y3
    refine Within.after (within_secIn ..) rfl ?_
    assumption
  · exact Within.refl _ _

theorem within_rawGap (a0 : Nat) (s : State) : Within 4096 s (rawGap a0 s) := by
  unfold rawGap
  refine within_ite ?_ ?_
  · refine Within.after (within_pipMod ?_) rfl ?_
    · (dsimp only; exact id)
    · exact Within.refl _ _
  · exact Within.refl _ _

theorem within_gapReadout (s : State) (a1 : Nat × Nat) : Within 6177 s (gapReadout s a1) := by
  unfold gapReadout
  refine Within.after (within_gapMarker ..) rfl ?_
  refine Within.after (within_rawGap ..) rfl ?_
  refine Within.after (within_gapCycle ..) rfl ?_
  exact Within.refl _ _

theorem within_gapsPass (s : State) : Within 7201 s (gapsPass s) := by
  unfold gapsPass
  extract_lets x1
  clear_value x1
  refine within_foldl ?_ ?_
  · intro y2 y3 y4
    refine Within.after (within_gapReadout ..) rfl ?_
    assumption
  · refine Within.after (within_aryMod ..) rfl ?_
    exact Within.refl _ _

theorem within_keepRaw (a0 : Delivery) (a1 : Bool) (s : State) : Within 4129 s (keepRaw a0 a1 s) := by
  unfold keepRaw
  extract_lets x1 x2 x3 x4 x5
  clear_value x1
  clear_value x2
  clear_value x4
  have hx3 : Within 4129 s x3 := by
    unfold x3
    refine Within.after (within_pipMod ?_) rfl ?_
    · (dsimp only; exact id)
    · exact Within.refl _ _
  have hx5 : Within 4129 s x5 := by
    unfold x5
    refine Within.after (within_rsat ..) rfl ?_
    assumption
  clear_value x3
  clear_value x5
  refine within_ite ?_ ?_
  · refine within_ite ?_ ?_
    · exact Within.refl _ _
    · split
      · refine Within.after (within_pipMod ?_) rfl ?_
        · (dsimp only; exact id)
        · exact Within.refl _ _
      · refine Within.after (within_pipMod ?_) rfl ?_
        · (dsimp only; exact id)
        · exact Within.refl _ _
  · refine within_ite ?_ ?_
    · exact Within.refl _ _
    · refine within_ite ?_ ?_
      · refine within_ite ?_ ?_
        · assumption
        · refine within_ite ?_ ?_
          · assumption
          · refine Within.after (within_raise ..) rfl ?_
            refine Within.after (within_pipMod ?_) rfl ?_
            · (dsimp only; exact id)
            · assumption
      · assumption

theorem within_markOff (a0 : Nat) (s : State) : Within 2048 s (markOff a0 s) := by
  unfold markOff
  extract_lets x1 x2
  clear_value x1
  refine within_ite ?_ ?_
  · exact Within.refl _ _
  · refine within_mk rfl ?_ (hf := form_eq)
    exact Within.refl _ _

theorem within_sectorsIn (a0 : Delivery) (a1 : Bool) (s : State) : Within 6177 s (sectorsIn a0 a1 s) := by
  unfold sectorsIn
  extract_lets x1 x2 x3 x4
  clear_value x2
  clear_value x3
  clear_value x4
  have hx1 : Within 6177 s x1 := by
    unfold x1
    refine Within.after (within_markOff ..) rfl ?_
    exact Within.refl _ _
  clear_value x1
  refine within_foldl ?_ ?_
  · intro y5 y6 y7
    extract_lets x8
    clear_value x8
    refine Within.after (within_secIn ..) rfl ?_
    assumption
  · assumption

theorem within_conversion (a0 : Codes) (s : State) : Within 15393 s (conversion a0 s) := by
  unfold conversion
  refine within_ite ?_ ?_
  · exact Within.refl _ _
  · split
    · exact Within.refl _ _
    · rename_i hq1
      refine (fun hw1 => ?_) (withinO_get (k := 15393) (s := s) (p := fun r => r.2.2) hq1 ?_)
      · refine within_ite ?_ ?_
        · refine Within.after (within_keepRaw ..) rfl ?_
          assumption
        · extract_lets x2
          have hx2 : Within 15393 s x2 := by
            unfold x2
            refine Within.after (within_cpPollAll ..) rfl ?_
            refine Within.after (within_gapsPass ..) rfl ?_
            refine Within.after (within_sectorsIn ..) rfl ?_
            refine Within.after (within_keepRaw ..) rfl ?_
            assumption
          clear_value x2
          refine within_ite ?_ ?_
          · refine Within.after (within_pipMod ?_) rfl ?_
            · (dsimp only; exact id)
            · assumption
          · assumption
      · refine withinO_after (within_colConvert ..) rfl ?_
        exact Within.refl _ _

end Sys2Proof.Laws
end

