-- ==== Sys2Proof/Laws/FrameOps4.lean ====
section
/-! SUPPORT. For each operation, the parts of the state that it may change and that it keeps the form (part 4 of 6, in the order
in which operations build on each other). -/

namespace Sys2Proof.Laws

set_option Elab.async false

open Sys2Proof.Machine

theorem within_coreSpent (a0 : Nat) (a1 : Nat) (s : State) : Within 8192 s (coreSpent a0 a1 s) := by
  unfold coreSpent
  refine Within.after (within_vdtMod ..) rfl ?_
  exact Within.refl _ _

theorem within_count (a0 : Nat) (s : State) : Within 131104 s (count a0 s) := by
  unfold count
  refine within_runStep ?_ ?_
  · intro y1 y2 y3 y4
    extract_lets x5 x6
    clear_value x5
    split
    · refine Within.after (within_nextStep ..) rfl ?_
      refine Within.after (within_engMod ..) rfl ?_
      assumption
    · refine Within.after (within_nextStep ..) rfl ?_
      refine Within.after (within_engMod ..) rfl ?_
      assumption
    · dsimp -zeta only [x6]
      refine within_ite ?_ ?_
      · refine Within.after (within_nextStep ..) rfl ?_
        refine Within.after (within_engMod ..) rfl ?_
        assumption
      · refine Within.after (within_stepEnd ..) rfl ?_
        refine Within.after (within_engMod ..) rfl ?_
        assumption
    · dsimp -zeta only [x6]
      refine within_ite ?_ ?_
      · refine Within.after (within_nextStep ..) rfl ?_
        refine Within.after (within_engMod ..) rfl ?_
        assumption
      · refine Within.after (within_stepEnd ..) rfl ?_
        refine Within.after (within_engMod ..) rfl ?_
        assumption
    · refine Within.after (within_nextStep ..) rfl ?_
      refine Within.after (within_engMod ..) rfl ?_
      assumption
  · exact Within.refl _ _

theorem within_countEdge (a0 : Nat) (s : State) : Within 131112 s (countEdge a0 s) := by
  unfold countEdge
  split
  · exact Within.refl _ _
  · extract_lets x1 x2 x3 x4
    clear_value x1
    clear_value x2
    have hx3 : Within 131112 s x3 := by
      unfold x3
      refine Within.after (within_monMod ..) rfl ?_
      exact Within.refl _ _
    have hx4 : Within 131112 s x4 := by
      unfold x4
      refine Within.after (within_encoderState ..) rfl ?_
      refine Within.after (within_raise ..) rfl ?_
      assumption
    clear_value x3
    clear_value x4
    refine within_ite ?_ ?_
    · refine within_ite ?_ ?_
      · refine Within.after (within_srcFail ..) rfl ?_
        assumption
      · assumption
    · assumption

theorem within_creditReceived (a0 : Nat) (a1 : Nat) (s : State) : Within 512 s (creditReceived a0 a1 s) := by
  unfold creditReceived
  extract_lets x1
  clear_value x1
  refine within_ite ?_ ?_
  · refine Within.after (within_setXw ..) rfl ?_
    exact Within.refl _ _
  · exact Within.refl _ _

theorem within_linkSend (a0 : Nat) (a1 : List (Nat × Nat × Nat)) (s : State) : Within 65536 s (linkSend a0 a1 s) := by
  unfold linkSend
  refine Within.after (within_wireAll ..) rfl ?_
  exact Within.refl _ _

theorem within_creditSend (a0 : Nat) (s : State) : Within 66048 s (creditSend a0 s) := by
  unfold creditSend
  extract_lets x1 x2
  clear_value x1
  clear_value x2
  refine within_ite ?_ ?_
  · refine Within.after (within_linkSend ..) rfl ?_
    refine Within.after (within_setXw ..) rfl ?_
    exact Within.refl _ _
  · exact Within.refl _ _

theorem within_ctxWithdraw (a0 : Nat) (s : State) : Within 32801 s (ctxWithdraw a0 s) := by
  unfold ctxWithdraw
  refine within_ite ?_ ?_
  · refine Within.after (within_withdrawChange ..) rfl ?_
    exact Within.refl _ _
  · exact Within.refl _ _

theorem within_nvDrop (s : State) : Within 160 s (nvDrop s) := by
  unfold nvDrop
  refine Within.after (within_rcdMod ?_) rfl ?_
  · (dsimp only; exact id)
  · refine Within.after (within_mgtMod ?_) rfl ?_
    · (dsimp only; exact id)
    · exact Within.refl _ _

theorem within_cutToFlash (a0 : State) (s : State) : Within 1048575 s (cutToFlash a0 s) := by
  unfold cutToFlash
  extract_lets x1 x2 x3 x4 x5
  have hx1 : Within 1048575 s x1 := by
    unfold x1
    refine Within.after (within_heldInReset ..) rfl ?_
    exact Within.refl _ _
  have hx5 : Within 1048575 s x5 := by
    unfold x5
    refine within_mk rfl ?_ (hf := form_intake (hi := ?_))
    · assumption
    · (dsimp only; exact id)
  clear_value x1
  clear_value x5
  refine within_ite ?_ ?_
  · assumption
  · refine Within.after (within_nvDrop ..) rfl ?_
    assumption

theorem within_deadlineExpire (a0 : Nat) (s : State) : Within 131113 s (deadlineExpire a0 s) := by
  unfold deadlineExpire
  split
  · refine within_ite ?_ ?_
    · refine Within.after (within_fireDeadline ..) rfl ?_
      exact Within.refl _ _
    · exact Within.refl _ _
  · exact Within.refl _ _

theorem within_declareStandstill (s : State) : Within 40 s (declareStandstill s) := by
  unfold declareStandstill
  refine within_ite ?_ ?_
  · refine Within.after (within_judgeStall ..) rfl ?_
    refine Within.after (within_raise0 ..) rfl ?_
    refine Within.after (within_tbsMod ..) rfl ?_
    exact Within.refl _ _
  · exact Within.refl _ _

theorem within_flashErase (a0 : Nat) (a1 : Nat) (s : State) : Within 128 s (flashErase a0 a1 s) := by
  unfold flashErase
  refine Within.after (within_mgtMod ?_) rfl ?_
  · exact mapForm_filter _
  · exact Within.refl _ _

theorem within_devOpDone (a0 : Bool) (s : State) : Within 262304 s (devOpDone a0 s) := by
  unfold devOpDone
  split
  · refine within_ite ?_ ?_
    · exact Within.refl _ _
    · extract_lets x1 x2 x3
      have hx1 : Within 262304 s x1 := by
        unfold x1
        refine Within.after (within_grantEnd ..) rfl ?_
        exact Within.refl _ _
      have hx2 : Within 262304 s x2 := by
        unfold x2
        refine Within.after (within_mgtMod ?_) rfl ?_
        · (dsimp only; exact id)
        · assumption
      have hx3 : Within 262304 s x3 := by
        unfold x3
        refine Within.after (within_mgtMod ?_) rfl ?_
        · (dsimp only; exact id)
        · assumption
      clear_value x1
      clear_value x2
      clear_value x3
      refine within_ite ?_ ?_
      · refine within_ite ?_ ?_
        · refine Within.after (within_flashErase ..) rfl ?_
          assumption
        · refine Within.after (within_flashPut ..) rfl ?_
          assumption
      · refine Within.after (within_raise ..) rfl ?_
        refine Within.after (within_mgtMod ?_) rfl ?_
        · (dsimp only; exact id)
        · assumption
  · exact Within.refl _ _

theorem within_discardOldest (a0 : Nat) (a1 : Nat) (s : State) : WithinO 69665 s (fun r => r) (discardOldest a0 a1 s) := by
  unfold discardOldest
  extract_lets x1
  clear_value x1
  split
  · exact withinO_none
  · refine withinO_some ?_
    refine Within.after (within_raise ..) rfl ?_
    refine Within.after (within_unitLost ..) rfl ?_
    refine Within.after (within_putSet ..) rfl ?_
    exact Within.refl _ _

theorem within_discovery (a0 : Nat) (a1 : Nat) (a2 : Bool) (a3 : Nat) (a4 : Bool) (s : State)
    : Within 32801 s (discovery a0 a1 a2 a3 a4 s) := by
  unfold discovery
  extract_lets x1 x2 x3 x4 x5
  clear_value x1
  clear_value x2
  clear_value x4
  clear_value x5
  have hx3 : Within 32801 s x3 := by
    unfold x3
    refine Within.after (within_setPort ..) rfl ?_
    refine within_ite ?_ ?_
    · exact Within.refl _ _
    · refine Within.after (within_rsat ..) rfl ?_
      exact Within.refl _ _
  clear_value x3
  refine within_ite ?_ ?_
  · exact Within.refl _ _
  · refine within_ite ?_ ?_
    · refine Within.after (within_companionAbsent ..) rfl ?_
      assumption
    · refine Within.after (within_setPort ..) rfl ?_
      assumption

theorem within_displayUnit (a0 : RegLine) (a1 : Option (Map Nat)) (a2 : Bool) (s : State)
    : Within 4129 s (displayUnit a0 a1 a2 s) := by
  unfold displayUnit
  refine within_ite ?_ ?_
  · exact Within.refl _ _
  · extract_lets x1 x2 x3 x4 x5 x6
    clear_value x1
    clear_value x2
    clear_value x3
    clear_value x4
    clear_value x5
    clear_value x6
    refine within_ite ?_ ?_
    · refine Within.after (within_pushUnit ..) rfl ?_
      exact Within.refl _ _
    · refine Within.after (within_pushUnit ..) rfl ?_
      refine Within.after (within_countClip ..) rfl ?_
      exact Within.refl _ _

theorem within_dividers (s : State) : Within 131072 s (dividers s) := by
  unfold dividers
  refine within_ite ?_ ?_
  · exact Within.refl _ _
  · refine within_foldl ?_ ?_
    · intro y1 y2 y3
      refine Within.after (within_engMod ..) rfl ?_
      assumption
    · exact Within.refl _ _

theorem within_dlHkMiss (s : State) : Within 524329 s (dlHkMiss s) := by
  unfold dlHkMiss
  refine within_ite ?_ ?_
  · refine Within.after (within_dlMissUnless ..) rfl ?_
    refine Within.after (within_thmMod ..) rfl ?_
    exact Within.refl _ _
  · exact Within.refl _ _

theorem within_dropSummary (s : State) : Within 32 s (dropSummary s) := by
  unfold dropSummary
  extract_lets x1 x2
  refine within_ite ?_ ?_
  · refine Within.after (within_raise0 ..) rfl ?_
    refine within_mk rfl ?_ (hf := form_eq)
    exact Within.refl _ _
  · exact Within.refl _ _

theorem within_queueMirror (a0 : Nat) (s : State) : Within 41 s (queueMirror a0 s) := by
  unfold queueMirror
  extract_lets x1 x2
  split
  · exact Within.refl _ _
  · refine within_ite ?_ ?_
    · exact Within.refl _ _
    · refine within_ite ?_ ?_
      · refine within_mk rfl ?_ (hf := form_eq)
        exact Within.refl _ _
      · refine within_ite ?_ ?_
        · refine Within.after (within_checkBacklog ..) rfl ?_
          refine within_mk rfl ?_ (hf := form_eq)
          exact Within.refl _ _
        · exact Within.refl _ _

theorem freeRec_intake (x : RingRec) (r : Recorder) : (freeRec x r).1.intake = r.intake := by
  unfold freeRec
  repeat' (first | rfl | split)

theorem freeRecs_intake (l : List RingRec) (r : Recorder) : (freeRecs l r).1.intake = r.intake := by
  have key : ∀ (l : List RingRec) (a : Recorder × Nat),
      (l.foldl (fun a x => let b := freeRec x a.1; (b.1, a.2 + b2n b.2)) a).1.intake = a.1.intake := by
    intro l
    induction l with
    | nil => intro a; rfl
    | cons x l ih => intro a; exact (ih _).trans (freeRec_intake x a.1)
  exact key l (r, 0)

theorem writeNew_intake (x : Rec) (rep : Nat) (r : Recorder) : (writeNew x rep r).1.intake = r.intake := by
  unfold writeNew
  dsimp only
  exact freeRecs_intake _ _

theorem within_writeFront {x : Rec} {rest : List Rec} {s : State} (hr : s.evt.rcd.intake.length ≤ 8 → rest.length ≤ 8) :
    Within 41 s (writeFront x rest s) := by
  unfold writeFront
  extract_lets src rep q r r0 ev w s1
  have h0 : r0.intake = rest := rfl
  split
  · refine within_mk rfl (Within.refl _ _) (hf := form_intake (hi := ?_))
    intro h
    exact hr h
  · have h1 : Within 41 s s1 := by
      unfold s1
      refine within_mk rfl (Within.refl _ _) (hf := form_intake (hi := ?_))
      intro h
      show w.1.intake.length ≤ 8
      unfold w
      rw [writeNew_intake, h0]
      exact hr h
    refine Within.after (within_queueMirror ..) rfl (Within.after (within_backlogJudged ..) rfl ?_)
    exact within_foldl (fun _ _ hx => Within.after (within_raise0 ..) rfl hx) h1

theorem within_recordWrite (s : State) : Within 41 s (recordWrite s) := by
  unfold recordWrite
  split
  · refine Within.after (within_dropSummary ..) rfl ?_
    exact within_mk rfl (Within.refl _ _) (hf := form_intake (hi := intake_refillIntake _ _))
  · rename_i x rest hx
    extract_lets s1
    have h1 : Within 41 s s1 := within_writeFront (fun h => by rw [hx] at h; simp at h; omega)
    clear_value s1
    refine Within.after (within_dropSummary ..) rfl ?_
    exact within_mk rfl h1 (hf := form_intake (hi := intake_refillIntake _ _))

theorem within_drainIntake (a0 : Nat) (s : State) : Within 41 s (drainIntake a0 s) := by
  induction a0 generalizing s
  · unfold drainIntake
    exact Within.refl _ _
  · rename_i n ih
    unfold drainIntake
    refine within_ite ?_ ?_
    · exact Within.refl _ _
    · refine Within.after (ih ..) rfl ?_
      refine Within.after (within_recordWrite ..) rfl ?_
      exact Within.refl _ _

theorem within_holdLine (a0 : RegLine) (s : State) : Within 4096 s (holdLine a0 s) := by
  unfold holdLine
  refine Within.after (within_pipMod ?_) rfl ?_
  · (dsimp only; exact id)
  · exact Within.refl _ _

theorem within_keepBufs (a0 : Nat) (a1 : Nat) (s : State) : Within 4096 s (keepBufs a0 a1 s) := by
  unfold keepBufs
  refine within_ite ?_ ?_
  · exact Within.refl _ _
  · extract_lets x1 x2 x3
    clear_value x1
    clear_value x2
    clear_value x3
    refine Within.after (within_setSec ..) rfl ?_
    exact Within.refl _ _

theorem within_lineDrawn (a0 : Nat) (s : State) : Within 4097 s (lineDrawn a0 s) := by
  unfold lineDrawn
  refine Within.after (within_rset ..) rfl ?_
  refine Within.after (within_pipMod ?_) rfl ?_
  · (dsimp only; exact id)
  · exact Within.refl _ _

theorem within_segDrawn (a0 : Nat) (a1 : Nat) (s : State) : Within 4096 s (segDrawn a0 a1 s) := by
  unfold segDrawn
  refine Within.after (within_setSec ..) rfl ?_
  exact Within.refl _ _

theorem within_setsAdmit (s : State) : Within 65536 s (setsAdmit s) := by
  unfold setsAdmit
  refine Within.after (within_lnkMod ..) rfl ?_
  exact Within.refl _ _

theorem within_wholeLine (a0 : RegPart) (s : State) : Within 41 s (wholeLine a0 s).2 := by
  unfold wholeLine
  extract_lets x1 x2 x3 x4 x5
  clear_value x1
  clear_value x2
  clear_value x3
  clear_value x4
  have hx5 : Within 41 s x5 := by
    unfold x5
    refine within_foldl ?_ ?_
    · intro y6 y7 y8
      extract_lets x9
      clear_value x9
      refine Within.after (within_dlMiss ..) rfl ?_
      assumption
    · exact Within.refl _ _
  clear_value x5
  assumption

theorem within_drawLine (a0 : Nat) (a1 : Bool) (a2 : Nat) (s : State) : Within 102441 s (drawLine a0 a1 a2 s) := by
  unfold drawLine
  extract_lets x1 x2 x3 x4 x5 x6
  clear_value x3
  clear_value x5
  have hx1 : Within 102441 s x1.2 := by
    unfold x1
    refine Within.after (within_companionJoin ..) rfl ?_
    exact Within.refl _ _
  have hx2 : Within 102441 s x2.2 := by
    unfold x2
    split
    · refine within_pair ?_
      exact Within.refl _ _
    · assumption
  have hx4 : Within 102441 s x4 := by
    unfold x4
    refine Within.after (within_segDrawn ..) rfl ?_
    refine Within.after (within_keepBufs ..) rfl ?_
    assumption
  have hx6 : Within 102441 s x6.2 := by
    unfold x6
    refine Within.after (within_wholeLine ..) rfl ?_
    refine Within.after (within_pipMod ?_) rfl ?_
    · (dsimp only; exact id)
    · assumption
  clear_value x1
  clear_value x2
  clear_value x4
  clear_value x6
  refine within_ite ?_ ?_
  · refine Within.after (within_setsAdmit ..) rfl ?_
    refine Within.after (within_lineDrawn ..) rfl ?_
    refine Within.after (within_holdLine ..) rfl ?_
    refine Within.after (within_bgUpdate ..) rfl ?_
    assumption
  · refine Within.after (within_pipMod ?_) rfl ?_
    · (dsimp only; exact id)
    · assumption

theorem within_retireEpochs (a0 : Nat → Bool) (s : State) : Within 1024 s (retireEpochs a0 s) := by
  unfold retireEpochs
  refine Within.after (within_aryMod ..) rfl ?_
  exact Within.refl _ _

theorem within_epochsRetire (s : State) : Within 1024 s (epochsRetire s) := by
  unfold epochsRetire
  refine Within.after (within_retireEpochs ..) rfl ?_
  exact Within.refl _ _

theorem within_drawDue (a0 : Nat) (a1 : Bool) (s : State) : Within 111657 s (drawDue a0 a1 s) := by
  unfold drawDue
  extract_lets x1 x2
  clear_value x1
  have hx2 : Within 111657 s x2 := by
    unfold x2
    refine Within.after (within_raiseIf ..) rfl ?_
    exact Within.refl _ _
  clear_value x2
  refine Within.after (within_cpPollAll ..) rfl ?_
  refine Within.after (within_epochsRetire ..) rfl ?_
  refine Within.after (within_secPump ..) rfl ?_
  refine within_foldl ?_ ?_
  · intro y3 y4 y5
    refine within_ite ?_ ?_
    · refine Within.after (within_drawLine ..) rfl ?_
      assumption
    · assumption
  · assumption

theorem within_drive (a0 : Nat) (s : State) : Within 131104 s (drive a0 s) := by
  unfold drive
  refine within_runStep ?_ ?_
  · intro y1 y2 y3 y4
    extract_lets x5 x6
    clear_value x5
    clear_value x6
    refine Within.after (within_nextStep ..) rfl ?_
    refine Within.after (within_engMod ..) rfl ?_
    assumption
  · exact Within.refl _ _

theorem within_dropLatches (a0 : Nat) (s : State) : Within 2 s (dropLatches a0 s) := by
  unfold dropLatches
  refine within_mk rfl ?_ (hf := form_eq)
  exact Within.refl _ _

theorem within_flashOverload (a0 : Nat) (s : State) : Within 32 s (flashOverload a0 s) := by
  unfold flashOverload
  refine Within.after (within_raiseIf ..) rfl ?_
  exact Within.refl _ _

theorem within_flashRead (a0 : Bool) (a1 : Nat) (s : State) : Within 32 s (flashRead a0 a1 s) := by
  unfold flashRead
  refine within_ite ?_ ?_
  · refine Within.after (within_flashOverload ..) rfl ?_
    exact Within.refl _ _
  · exact Within.refl _ _

theorem within_dsnuLoadDone (a0 : Bool) (s : State) : Within 4256 s (dsnuLoadDone a0 s) := by
  unfold dsnuLoadDone
  split
  · exact Within.refl _ _
  · extract_lets x1 x2 x3
    clear_value x1
    clear_value x3
    have hx2 : Within 4256 s x2 := by
      unfold x2
      refine Within.after (within_nvSettle ..) rfl ?_
      refine Within.after (within_pipMod ?_) rfl ?_
      · (dsimp only; exact id)
      · exact Within.refl _ _
    clear_value x2
    split
    · refine Within.after (within_dsnuNext ..) rfl ?_
      refine Within.after (within_pipMod ?_) rfl ?_
      · (dsimp only; exact id)
      · refine Within.after (within_pmWrite ..) rfl ?_
        assumption
    · refine Within.after (within_dsnuNext ..) rfl ?_
      refine Within.after (within_flashRead ..) rfl ?_
      refine Within.after (within_raise0 ..) rfl ?_
      refine Within.after (within_pmWrite ..) rfl ?_
      assumption

theorem within_visUnit (a0 : RegLine) (a1 : Option (List (Map Nat))) (a2 : Bool) (a3 : Nat) (s : State)
    : Within 4097 s (visUnit a0 a1 a2 a3 s) := by
  unfold visUnit
  extract_lets x1 x2 x3 x4 x5 x6 x7 x8 x9 x10
  clear_value x1
  clear_value x2
  clear_value x3
  clear_value x4
  clear_value x5
  clear_value x6
  clear_value x7
  clear_value x8
  clear_value x9
  clear_value x10
  refine within_ite ?_ ?_
  · refine Within.after (within_pushUnit ..) rfl ?_
    exact Within.refl _ _
  · refine Within.after (within_pushUnit ..) rfl ?_
    exact Within.refl _ _

theorem within_emitLine (a0 : Bool) (a1 : RegLine) (s : State) : Within 4129 s (emitLine a0 a1 s) := by
  unfold emitLine
  extract_lets x1 x2 x3 x4 x5 x6 x7 x8 x9 x10
  clear_value x1
  clear_value x2
  clear_value x4
  clear_value x5
  clear_value x10
  have hx3 : Within 4129 s x3 := by
    unfold x3
    refine within_ite ?_ ?_
    · split
      · refine within_ite ?_ ?_
        · exact Within.refl _ _
        · refine Within.after (within_raise ..) rfl ?_
          refine Within.after (within_rsat ..) rfl ?_
          exact Within.refl _ _
      · refine Within.after (within_raise ..) rfl ?_
        refine Within.after (within_rsat ..) rfl ?_
        exact Within.refl _ _
    · exact Within.refl _ _
  have hx6 : Within 4129 s x6 := by
    unfold x6
    refine within_ite ?_ ?_
    · refine Within.after (within_clsUnit ..) rfl ?_
      assumption
    · assumption
  have hx7 : Within 4129 s x7 := by
    unfold x7
    refine within_ite ?_ ?_
    · refine within_foldl ?_ ?_
      · intro y11 y12 y13
        refine Within.after (within_visUnit ..) rfl ?_
        assumption
      · assumption
    · assumption
  have hx8 : Within 4129 s x8 := by
    unfold x8
    refine within_ite ?_ ?_
    · refine Within.after (within_codingUnit ..) rfl ?_
      assumption
    · assumption
  have hx9 : Within 4129 s x9 := by
    unfold x9
    refine within_ite ?_ ?_
    · refine Within.after (within_displayUnit ..) rfl ?_
      assumption
    · assumption
  clear_value x3
  clear_value x6
  clear_value x7
  clear_value x8
  clear_value x9
  refine Within.after (within_pipMod ?_) rfl ?_
  · (dsimp only; exact id)
  · assumption

theorem within_forwardEdge (s : State) : Within 4664 s (forwardEdge s) := by
  unfold forwardEdge
  refine within_ite ?_ ?_
  · refine Within.after (within_tbsMod ..) rfl ?_
    exact Within.refl _ _
  · extract_lets x1 x2
    clear_value x1
    clear_value x2
    refine Within.after (within_nSteps ..) rfl ?_
    refine Within.after (within_tbsMod ..) rfl ?_
    exact Within.refl _ _

theorem within_reverseEdge (s : State) : Within 40 s (reverseEdge s) := by
  unfold reverseEdge
  extract_lets x1 x2
  clear_value x1
  clear_value x2
  refine Within.after (within_raiseIf ..) rfl ?_
  refine Within.after (within_tbsMod ..) rfl ?_
  exact Within.refl _ _

theorem within_encoderEdge (a0 : Bool) (s : State) : Within 4664 s (encoderEdge a0 s) := by
  unfold encoderEdge
  refine within_ite ?_ ?_
  · extract_lets x1
    have hx1 : Within 4664 s x1 := by
      unfold x1
      refine Within.after (within_tbsMod ..) rfl ?_
      exact Within.refl _ _
    clear_value x1
    refine within_ite ?_ ?_
    · refine Within.after (within_forwardEdge ..) rfl ?_
      assumption
    · refine Within.after (within_reverseEdge ..) rfl ?_
      assumption
  · exact Within.refl _ _

theorem within_encoderPosted (s : State) : Within 135736 s (encoderPosted s) := by
  unfold encoderPosted
  split
  · exact Within.refl _ _
  · refine Within.after (within_encoderEdge ..) rfl ?_
    refine Within.after (within_penMod ?_) rfl ?_
    · (dsimp only; exact id)
    · exact Within.refl _ _

theorem within_startQueued (s : State) : Within 64 s (startQueued s) := by
  unfold startQueued
  refine within_ite ?_ ?_
  · split
    · refine within_mk rfl ?_ (hf := form_eq)
      exact Within.refl _ _
    · exact Within.refl _ _
  · exact Within.refl _ _

theorem within_endRun (a0 : Nat) (s : State) : Within 64 s (endRun a0 s) := by
  unfold endRun
  refine Within.after (within_startQueued ..) rfl ?_
  refine within_mk rfl ?_ (hf := form_eq)
  exact Within.refl _ _

theorem within_engResetScope (a0 : Nat) (s : State) : Within 131105 s (engResetScope a0 s) := by
  unfold engResetScope
  extract_lets x1 x2 x3
  clear_value x1
  clear_value x3
  have hx2 : Within 131105 s x2 := by
    unfold x2
    refine Within.after (within_haltEng ..) rfl ?_
    exact Within.refl _ _
  clear_value x2
  refine Within.after (within_rsat ..) rfl ?_
  refine Within.after (within_setEng ..) rfl ?_
  assumption

theorem within_engineLine (a0 : Nat) (s : State) (a2 : AuxLine) : Within 32768 s (engineLine a0 s a2) := by
  unfold engineLine
  extract_lets x1 x2 x3
  clear_value x1
  clear_value x2
  refine within_ite ?_ ?_
  · dsimp -zeta only [x3]
    refine Within.after (within_setPort ..) rfl ?_
    exact Within.refl _ _
  · split
    · refine within_ite ?_ ?_
      · dsimp -zeta only [x3]
        refine Within.after (within_setPort ..) rfl ?_
        exact Within.refl _ _
      · refine within_ite ?_ ?_
        · dsimp -zeta only [x3]
          refine Within.after (within_setPort ..) rfl ?_
          exact Within.refl _ _
        · dsimp -zeta only [x3]
          refine Within.after (within_setPort ..) rfl ?_
          exact Within.refl _ _
    · refine within_ite ?_ ?_
      · dsimp -zeta only [x3]
        refine Within.after (within_setPort ..) rfl ?_
        exact Within.refl _ _
      · dsimp -zeta only [x3]
        refine Within.after (within_setPort ..) rfl ?_
        exact Within.refl _ _

theorem within_noteFill (s : State) : Within 65536 s (noteFill s) := by
  unfold noteFill
  refine Within.after (within_lnkMod ..) rfl ?_
  exact Within.refl _ _

theorem within_trimP0 (a0 : Nat) (a1 : Nat) (s : State) : Within 65569 s (trimP0 a0 a1 s) := by
  induction a1 generalizing a0 s
  · unfold trimP0
    exact Within.refl _ _
  · rename_i n ih
    unfold trimP0
    extract_lets x1
    clear_value x1
    refine within_ite ?_ ?_
    · split
      · exact Within.refl _ _
      · refine Within.after (ih ..) rfl ?_
        refine Within.after (within_raise ..) rfl ?_
        refine Within.after (within_rsat ..) rfl ?_
        refine Within.after (within_putSet ..) rfl ?_
        exact Within.refl _ _
    · exact Within.refl _ _

theorem within_enqueueRecord (a0 : Nat) (a1 : List (BitVec 128)) (s : State) : Within 65569 s (enqueueRecord a0 a1 s) := by
  unfold enqueueRecord
  extract_lets x1 x2 x3 x4 x5
  clear_value x1
  clear_value x2
  clear_value x4
  clear_value x5
  have hx3 : Within 65569 s x3 := by
    unfold x3
    refine within_ite ?_ ?_
    · refine Within.after (within_closeRecs ..) rfl ?_
      exact Within.refl _ _
    · exact Within.refl _ _
  clear_value x3
  refine within_ite ?_ ?_
  · exact Within.refl _ _
  · refine Within.after (within_noteFill ..) rfl ?_
    refine Within.after (within_trimP0 ..) rfl ?_
    refine Within.after (within_putSet ..) rfl ?_
    assumption

theorem within_enterRun (s : State) : Within 161 s (enterRun s) := by
  unfold enterRun
  refine within_ite ?_ ?_
  · refine Within.after (within_raise0 ..) rfl ?_
    refine Within.after (within_rfset ..) rfl ?_
    refine Within.after (within_stepEnded ..) rfl ?_
    refine Within.after (within_mgtMod ?_) rfl ?_
    · (dsimp only; exact id)
    · exact Within.refl _ _
  · exact Within.refl _ _

theorem within_enterReady (s : State) : Within 161 s (enterReady s) := by
  unfold enterReady
  refine within_ite ?_ ?_
  · extract_lets x1
    have hx1 : Within 161 s x1 := by
      unfold x1
      refine Within.after (within_raise0 ..) rfl ?_
      refine Within.after (within_rfset ..) rfl ?_
      refine Within.after (within_stepEnded ..) rfl ?_
      refine Within.after (within_mgtMod ?_) rfl ?_
      · (dsimp only; exact id)
      · exact Within.refl _ _
    clear_value x1
    refine Within.after (within_enterRun ..) rfl ?_
    refine within_ite ?_ ?_
    · refine Within.after (within_commitImage ..) rfl ?_
      assumption
    · assumption
  · exact Within.refl _ _

theorem within_envelopeBreach (s : State) : Within 262176 s (envelopeBreach s) := by
  unfold envelopeBreach
  extract_lets x1
  clear_value x1
  refine within_ite ?_ ?_
  · exact Within.refl _ _
  · refine within_ite ?_ ?_
    · refine Within.after (within_breachOn ..) rfl ?_
      exact Within.refl _ _
    · refine within_ite ?_ ?_
      · refine Within.after (within_raise0 ..) rfl ?_
        refine Within.after (within_nrgMod ..) rfl ?_
        exact Within.refl _ _
      · exact Within.refl _ _

theorem within_epochApplied (s : State) : Within 295969 s (epochApplied s) := by
  unfold epochApplied
  extract_lets x1 x2 x3
  have hx1 : Within 295969 s x1 := by
    unfold x1
    refine Within.after (within_applyEpoch ..) rfl ?_
    exact Within.refl _ _
  have hx2 : Within 295969 s x2 := by
    unfold x2
    refine Within.after (within_auxApply ..) rfl ?_
    assumption
  have hx3 : Within 295969 s x3 := by
    unfold x3
    refine Within.after (within_raiseIf ..) rfl ?_
    assumption
  clear_value x1
  clear_value x2
  clear_value x3
  refine within_ite ?_ ?_
  · refine Within.after (within_planRecheck ..) rfl ?_
    refine Within.after (within_idleChange ..) rfl ?_
    assumption
  · assumption

theorem within_epochFreeze (s : State) : Within 1024 s (epochFreeze s) := by
  unfold epochFreeze
  split
  · refine within_ite ?_ ?_
    · refine Within.after (within_aryMod ..) rfl ?_
      exact Within.refl _ _
    · exact Within.refl _ _
  · exact Within.refl _ _

theorem within_eqSwap (a0 : Nat) (s : State) : Within 545 s (eqSwap a0 s) := by
  unfold eqSwap
  extract_lets x1 x2
  clear_value x1
  clear_value x2
  split
  · refine within_ite ?_ ?_
    · refine Within.after (within_raise ..) rfl ?_
      refine Within.after (within_rwrap ..) rfl ?_
      refine Within.after (within_rfset ..) rfl ?_
      refine Within.after (within_rfset ..) rfl ?_
      refine Within.after (within_setXw ..) rfl ?_
      exact Within.refl _ _
    · exact Within.refl _ _
  · exact Within.refl _ _

theorem within_eraseAbandon (s : State) : Within 1048704 s (eraseAbandon s) := by
  unfold eraseAbandon
  refine Within.after (within_mgtMod ?_) rfl ?_
  · (dsimp only; exact id)
  · refine Within.after (within_eraseCut ..) rfl ?_
    exact Within.refl _ _

theorem within_eraseDone (a0 : Nat) (a1 : Bool) (s : State) : Within 262304 s (eraseDone a0 a1 s) := by
  unfold eraseDone
  extract_lets x1
  have hx1 : Within 262304 s x1 := by
    unfold x1
    refine Within.after (within_grantEnd ..) rfl ?_
    exact Within.refl _ _
  clear_value x1
  refine within_ite ?_ ?_
  · refine Within.after (within_rcdMod ?_) rfl ?_
    · (dsimp only; exact id)
    · refine Within.after (within_flashErase ..) rfl ?_
      assumption
  · refine Within.after (within_flashOverload ..) rfl ?_
    refine within_ite ?_ ?_
    · refine Within.after (within_raise ..) rfl ?_
      refine Within.after (within_rcdMod ?_) rfl ?_
      · (dsimp only; intro h; repeat' (first | exact h | exact intake_evtAfter _ _ h | split))
      · assumption
    · refine Within.after (within_rcdMod ?_) rfl ?_
      · (dsimp only; exact id)
      · assumption

theorem within_evtResume (s : State) : Within 32 s (evtResume s) := by
  unfold evtResume
  refine within_foldl ?_ ?_
  · intro y1 y2 y3
    refine within_mk rfl ?_ (hf := form_intake (hi := ?_))
    · assumption
    · (dsimp only; intro h; repeat' (first | exact h | exact intake_evtAfter _ _ h | split))
  · refine within_mk rfl ?_ (hf := form_eq)
    exact Within.refl _ _

theorem within_exposureStart (a0 : Nat) (a1 : Nat) (s : State) : Within 1024 s (exposureStart a0 a1 s) := by
  unfold exposureStart
  refine within_ite ?_ ?_
  · refine Within.after (within_aryMod ..) rfl ?_
    exact Within.refl _ _
  · exact Within.refl _ _

theorem within_eyeMeasure (a0 : Nat) (a1 : Nat) (a2 : Nat) (a3 : Nat) (a4 : Nat) (s : State)
    : Within 545 s (eyeMeasure a0 a1 a2 a3 a4 s) := by
  unfold eyeMeasure
  extract_lets x1 x2 x3 x4 x5 x6 x7 x8
  clear_value x1
  clear_value x2
  clear_value x3
  clear_value x4
  clear_value x5
  have hx6 : Within 545 s x6 := by
    unfold x6
    refine Within.after (within_rfset ..) rfl ?_
    refine Within.after (within_rfset ..) rfl ?_
    exact Within.refl _ _
  have hx7 : Within 545 s x7 := by
    unfold x7
    refine Within.after (within_setXw ..) rfl ?_
    assumption
  have hx8 : Within 545 s x8 := by
    unfold x8
    refine Within.after (within_raiseIf ..) rfl ?_
    assumption
  clear_value x6
  clear_value x7
  clear_value x8
  refine within_ite ?_ ?_
  · exact Within.refl _ _
  · refine Within.after (within_raiseIf ..) rfl ?_
    assumption

theorem within_failLane (a0 : Nat) (a1 : Nat) (a2 : Nat) (s : State) : Within 65569 s (failLane a0 a1 a2 s) := by
  unfold failLane
  extract_lets x1 x2 x3 x4 x5
  clear_value x1
  clear_value x5
  have hx2 : Within 65569 s x2 := by
    unfold x2
    refine Within.after (within_raise ..) rfl ?_
    refine Within.after (within_rfset ..) rfl ?_
    exact Within.refl _ _
  have hx3 : Within 65569 s x3 := by
    unfold x3
    refine Within.after (within_lnkMod ..) rfl ?_
    assumption
  clear_value x2
  clear_value x3
  refine within_ite ?_ ?_
  · refine within_ite ?_ ?_
    · exact Within.refl _ _
    · refine Within.after (within_putSet ..) rfl ?_
      assumption
  · refine Within.after (within_beginWant ..) rfl ?_
    refine Within.after (within_putSet ..) rfl ?_
    assumption

theorem within_fetch (a0 : Nat) (s : State) : Within 131113 s (fetch a0 s) := by
  unfold fetch
  refine within_runStep ?_ ?_
  · intro y2 y3 y4 y5
    refine within_blocking ?_ ?_ ?_ ?_
    · intro y6 y7
      refine Within.after (within_nextStep ..) rfl ?_
      refine Within.after (within_engMod ..) rfl ?_
      assumption
    · rfl
    · rfl
    · assumption
  · exact Within.refl _ _

theorem within_fetchN (a0 : Nat) (s : State) : Within 131105 s (fetchN a0 s) := by
  unfold fetchN
  refine within_runStep ?_ ?_
  · intro y1 y2 y3 y4
    split
    · refine Within.after (within_nextStep ..) rfl ?_
      refine Within.after (within_engMod ..) rfl ?_
      assumption
    · refine Within.after (within_raise ..) rfl ?_
      refine Within.after (within_rsat ..) rfl ?_
      refine Within.after (within_nextStep ..) rfl ?_
      refine Within.after (within_engMod ..) rfl ?_
      assumption
  · exact Within.refl _ _

theorem within_readReg (a0 : Nat) (s : State) : Within 197155 s (readReg a0 s).2 := by
  unfold readReg
  extract_lets x1
  have hx1 : Within 197155 s x1.2 := by
    unfold x1
    refine Within.after (within_readLatch ..) rfl ?_
    exact Within.refl _ _
  clear_value x1
  refine within_pair ?_
  refine Within.after (within_readDone ..) rfl ?_
  assumption

theorem within_fifoOutShown (s : State) : Within 197411 s (fifoOutShown s) := by
  unfold fifoOutShown
  extract_lets x1
  have hx1 : Within 197411 s x1.2 := by
    unfold x1
    refine Within.after (within_readReg ..) rfl ?_
    exact Within.refl _ _
  clear_value x1
  refine Within.after (within_mbShow ..) rfl ?_
  assumption

theorem within_splitHead (a0 : Nat) (s : State) : Within 8225 s (splitHead a0 s) := by
  unfold splitHead
  split
  · exact Within.refl _ _
  · refine Within.after (within_closeLive ..) rfl ?_
    refine Within.after (within_raise ..) rfl ?_
    refine Within.after (within_modObj ..) rfl ?_
    exact Within.refl _ _

theorem within_finishLine (a0 : Nat) (a1 : Nat) (a2 : List LeadIn) (s : State) : Within 8225 s (finishLine a0 a1 a2 s) := by
  unfold finishLine
  refine within_foldl ?_ ?_
  · intro y1 y2 y3
    extract_lets x4 x5 x6 x7 x8
    clear_value x4
    clear_value x5
    clear_value x6
    clear_value x7
    have hx8 : Within 8225 s x8 := by
      unfold x8
      refine within_ite ?_ ?_
      · refine Within.after (within_modObj ..) rfl ?_
        assumption
      · refine within_ite ?_ ?_
        · refine Within.after (within_modObj ..) rfl ?_
          assumption
        · assumption
    clear_value x8
    refine within_ite ?_ ?_
    · refine Within.after (within_closeLive ..) rfl ?_
      assumption
    · refine within_ite ?_ ?_
      · refine Within.after (within_splitHead ..) rfl ?_
        assumption
      · assumption
  · exact Within.refl _ _

theorem within_firstRound (s : State) : Within 128 s (firstRound s) := by
  unfold firstRound
  refine within_ite ?_ ?_
  · refine within_mk rfl ?_ (hf := form_eq)
    exact Within.refl _ _
  · exact Within.refl _ _

theorem within_fixedRead (a0 : Nat) (a1 : Nat) (a2 : Nat) (a3 : State → List Byte) (s : State)
    : Within 257 s (fixedRead a0 a1 a2 a3 s) := by
  unfold fixedRead
  refine within_mbAddressed ?_ ?_ ?_ ?_
  · intro y5 y6 y7
    refine within_ite ?_ ?_
    · refine Within.after (within_mbShow ..) rfl ?_
      assumption
    · extract_lets x8 x9
      clear_value x8
      clear_value x9
      refine Within.after (within_mbDone ..) rfl ?_
      assumption
  · rfl
  · rfl
  · exact Within.refl _ _

theorem within_fmtResetScope (a0 : Nat) (s : State) : Within 4096 s (fmtResetScope a0 s) := by
  unfold fmtResetScope
  refine within_ite ?_ ?_
  · refine Within.after (within_pipMod ?_) rfl ?_
    · (dsimp only; exact id)
    · exact Within.refl _ _
  · refine within_ite ?_ ?_
    · refine Within.after (within_pipMod ?_) rfl ?_
      · (dsimp only; exact id)
      · exact Within.refl _ _
    · refine within_ite ?_ ?_
      · refine Within.after (within_pipMod ?_) rfl ?_
        · (dsimp only; exact id)
        · exact Within.refl _ _
      · refine within_ite ?_ ?_
        · refine Within.after (within_pipMod ?_) rfl ?_
          · (dsimp only; exact id)
          · exact Within.refl _ _
        · exact Within.refl _ _

theorem within_formatterEmit (s : State) : Within 4129 s (formatterEmit s) := by
  unfold formatterEmit
  split
  · exact Within.refl _ _
  · extract_lets x1
    clear_value x1
    refine within_ite ?_ ?_
    · refine Within.after (within_emitLine ..) rfl ?_
      refine Within.after (within_rmax ..) rfl ?_
      exact Within.refl _ _
    · exact Within.refl _ _

theorem within_formatterFlush (s : State) : Within 4129 s (formatterFlush s) := by
  unfold formatterFlush
  extract_lets x1
  clear_value x1
  refine within_ite ?_ ?_
  · exact Within.refl _ _
  · refine Within.after (within_pipMod ?_) rfl ?_
    · (dsimp only; exact id)
    · refine Within.after (within_raise0 ..) rfl ?_
      refine within_foldl ?_ ?_
      · intro y2 y3 y4
        refine Within.after (within_emitLine ..) rfl ?_
        assumption
      · exact Within.refl _ _

theorem within_fragmentExpire (s : State) : Within 8192 s (fragmentExpire s) := by
  unfold fragmentExpire
  split
  · refine Within.after (within_vdtMod ..) rfl ?_
    exact Within.refl _ _
  · exact Within.refl _ _

theorem within_fragmentReceived (s : State) : Within 25129 s (fragmentReceived s) := by
  unfold fragmentReceived
  split
  · exact Within.refl _ _
  · rename_i hq1
    refine (fun hw1 => ?_) (withinO_get (k := 25129) (s := s) (p := fun r => r.2) hq1 ?_)
    · refine within_ite ?_ ?_
      · assumption
      · extract_lets x2 x3
        clear_value x2
        have hx3 : Within 25129 s x3 := by
          unfold x3
          refine Within.after (within_vdtMod ..) rfl ?_
          assumption
        clear_value x3
        split
        · refine Within.after (within_stitchTry ..) rfl ?_
          assumption
        · assumption
    · refine withinO_after (within_takeIn ..) rfl ?_
      exact Within.refl _ _

theorem within_frameAbandon (a0 : Nat) (s : State) : Within 8224 s (frameAbandon a0 s) := by
  unfold frameAbandon
  extract_lets x1
  clear_value x1
  split
  · refine Within.after (within_raise ..) rfl ?_
    refine Within.after (within_vdtMod ..) rfl ?_
    exact Within.refl _ _
  · exact Within.refl _ _

theorem within_pruneResv (a0 : Nat) (a1 : Nat) (s : State) : Within 8192 s (pruneResv a0 a1 s) := by
  unfold pruneResv
  refine Within.after (within_vdtMod ..) rfl ?_
  exact Within.refl _ _

theorem within_frameBuild (a0 : Nat) (s : State) : Within 8233 s (frameBuild a0 s) := by
  unfold frameBuild
  extract_lets x1 x2 x3 x4 x5
  clear_value x1
  clear_value x2
  clear_value x3
  have hx4 : Within 8233 s x4 := by
    unfold x4
    refine Within.after (within_commitCheck ..) rfl ?_
    exact Within.refl _ _
  have hx5 : Within 8233 s x5 := by
    unfold x5
    refine within_ite ?_ ?_
    · assumption
    · refine Within.after (within_vdtMod ..) rfl ?_
      assumption
  clear_value x4
  clear_value x5
  refine within_ite ?_ ?_
  · exact Within.refl _ _
  · refine Within.after (within_pruneResv ..) rfl ?_
    assumption

theorem within_frameWordPost (a0 : Nat) (s : State) : Within 139264 s (frameWordPost a0 s) := by
  unfold frameWordPost
  extract_lets x1 x2
  clear_value x1
  split
  · refine within_ite ?_ ?_
    · exact Within.refl _ _
    · extract_lets x3
      clear_value x3
      refine Within.after (within_engMod ..) rfl ?_
      refine within_mk rfl ?_ (hf := form_eq)
      exact Within.refl _ _
  · exact Within.refl _ _

theorem within_jumpLine (s : State) : Within 4664 s (jumpLine s) := by
  unfold jumpLine
  extract_lets x1
  clear_value x1
  refine Within.after (within_boundary ..) rfl ?_
  refine Within.after (within_tbsMod ..) rfl ?_
  exact Within.refl _ _

theorem within_freerunBoundary (s : State) : Within 4664 s (freerunBoundary s) := by
  unfold freerunBoundary
  refine within_ite ?_ ?_
  · refine Within.after (within_jumpLine ..) rfl ?_
    exact Within.refl _ _
  · exact Within.refl _ _

theorem within_funcReset (a0 : RstRun) (a1 : Nat) (s : State) : Within 32 s (funcReset a0 a1 s) := by
  unfold funcReset
  refine Within.after (within_raiseAbout ..) rfl ?_
  exact Within.refl _ _

theorem within_gapLine (a0 : Nat) (a1 : Option Nat) (s : State) : Within 146473 s (gapLine a0 a1 s) := by
  unfold gapLine
  extract_lets x1 x2 x3 x4
  have hx1 : Within 146473 s x1 := by
    unfold x1
    split
    · refine Within.after (within_dlMissUnless ..) rfl ?_
      exact Within.refl _ _
    · exact Within.refl _ _
  have hx2 : Within 146473 s x2 := by
    unfold x2
    refine within_ite ?_ ?_
    · refine Within.after (within_aryMod ..) rfl ?_
      assumption
    · assumption
  have hx4 : Within 146473 s x4 := by
    unfold x4
    refine within_mk rfl ?_ (hf := form_eq)
    assumption
  clear_value x1
  clear_value x2
  clear_value x4
  refine Within.after (within_cpPollAll ..) rfl ?_
  refine Within.after (within_gapsPass ..) rfl ?_
  refine Within.after (within_aryMod ..) rfl ?_
  refine Within.after (within_strobesAtLine ..) rfl ?_
  assumption

theorem within_getAttn (a0 : Nat) (a1 : Nat) (s : State) : Within 257 s (getAttn a0 a1 s) := by
  unfold getAttn
  refine Within.after (within_fixedRead ..) rfl ?_
  exact Within.refl _ _

theorem within_getBus (a0 : Nat) (a1 : Nat) (s : State) : Within 257 s (getBus a0 a1 s) := by
  unfold getBus
  refine Within.after (within_fixedRead ..) rfl ?_
  exact Within.refl _ _

theorem within_getId (a0 : Nat) (a1 : Nat) (s : State) : Within 257 s (getId a0 a1 s) := by
  unfold getId
  refine Within.after (within_fixedRead ..) rfl ?_
  exact Within.refl _ _

theorem within_getPtr (a0 : Nat) (a1 : Nat) (s : State) : Within 257 s (getPtr a0 a1 s) := by
  unfold getPtr
  refine Within.after (within_fixedRead ..) rfl ?_
  exact Within.refl _ _

theorem within_getState (a0 : Nat) (a1 : Nat) (s : State) : Within 257 s (getState a0 a1 s) := by
  unfold getState
  refine Within.after (within_fixedRead ..) rfl ?_
  exact Within.refl _ _

theorem within_snapGrant (s : State) : Within 5121 s (snapGrant s) := by
  unfold snapGrant
  extract_lets x1 x2 x3 x4 x5 x6 x7
  clear_value x1
  clear_value x2
  clear_value x3
  clear_value x5
  have hx4 : Within 5121 s x4 := by
    unfold x4
    refine Within.after (within_aryMod ..) rfl ?_
    exact Within.refl _ _
  have hx7 : Within 5121 s x7 := by
    unfold x7
    refine within_mk rfl ?_ (hf := form_eq)
    assumption
  clear_value x4
  clear_value x7
  refine Within.after (within_rfset ..) rfl ?_
  refine Within.after (within_rfset ..) rfl ?_
  assumption

theorem within_grantWork (a0 : Grant) (s : State) : Within 530049 s (grantWork a0 s) := by
  unfold grantWork
  extract_lets x1 x2 x3 x4
  split
  · refine Within.after (within_setXw ..) rfl ?_
    exact Within.refl _ _
  · refine Within.after (within_snapGrant ..) rfl ?_
    exact Within.refl _ _
  · refine within_mk rfl ?_ (hf := form_eq)
    exact Within.refl _ _
  · dsimp -zeta only [x1]
    refine within_mk rfl ?_ (hf := form_eq)
    dsimp -zeta only [x3]
    refine within_mk rfl ?_ (hf := form_eq)
    exact Within.refl _ _
  · dsimp -zeta only [x1]
    refine within_mk rfl ?_ (hf := form_eq)
    dsimp -zeta only [x3]
    refine within_mk rfl ?_ (hf := form_eq)
    exact Within.refl _ _
  · dsimp -zeta only [x1]
    refine within_mk rfl ?_ (hf := form_eq)
    exact Within.refl _ _
  · dsimp -zeta only [x1]
    refine within_mk rfl ?_ (hf := form_eq)
    dsimp -zeta only [x2]
    refine within_mk rfl ?_ (hf := form_eq)
    exact Within.refl _ _

theorem within_giveGrant (a0 : Grant) (a1 : Bool) (s : State) : Within 792193 s (giveGrant a0 a1 s) := by
  unfold giveGrant
  extract_lets x1 x2 x3
  clear_value x1
  have hx2 : Within 792193 s x2 := by
    unfold x2
    refine Within.after (within_nrgMod ..) rfl ?_
    exact Within.refl _ _
  have hx3 : Within 792193 s x3 := by
    unfold x3
    refine Within.after (within_rwrap ..) rfl ?_
    refine Within.after (within_rmax ..) rfl ?_
    assumption
  clear_value x2
  clear_value x3
  refine Within.after (within_grantWork ..) rfl ?_
  refine Within.after (within_rsat ..) rfl ?_
  assumption

theorem within_grantEvaluation (s : State) : Within 792193 s (grantEvaluation s) := by
  unfold grantEvaluation
  refine within_ite ?_ ?_
  · exact Within.refl _ _
  · refine within_foldl ?_ ?_
    · intro y1 y2 y3
      refine within_ite ?_ ?_
      · refine Within.after (within_giveGrant ..) rfl ?_
        assumption
      · assumption
    · exact Within.refl _ _

theorem within_grantForced (a0 : Nat) (a1 : Nat) (s : State) : Within 792225 s (grantForced a0 a1 s) := by
  unfold grantForced
  split
  · exact Within.refl _ _
  · refine within_ite ?_ ?_
    · refine within_ite ?_ ?_
      · exact Within.refl _ _
      · refine Within.after (within_raise0 ..) rfl ?_
        refine Within.after (within_nrgMod ..) rfl ?_
        exact Within.refl _ _
    · refine within_ite ?_ ?_
      · exact Within.refl _ _
      · refine Within.after (within_raise0 ..) rfl ?_
        refine Within.after (within_giveGrant ..) rfl ?_
        exact Within.refl _ _

theorem within_guardCheck (s : State) : Within 262144 s (guardCheck s) := by
  unfold guardCheck
  extract_lets x1
  clear_value x1
  refine within_ite ?_ ?_
  · refine Within.after (within_nrgMod ..) rfl ?_
    exact Within.refl _ _
  · exact Within.refl _ _

theorem within_guardRestore (s : State) : Within 262144 s (guardRestore s) := by
  unfold guardRestore
  extract_lets x1
  clear_value x1
  refine within_ite ?_ ?_
  · refine Within.after (within_nrgMod ..) rfl ?_
    exact Within.refl _ _
  · exact Within.refl _ _

theorem within_placeArms (a0 : Nat) (a1 : Nat) (a2 : Nat) (a3 : List (Nat × Int × List Nat)) (s : State)
    : Within 8193 s (placeArms a0 a1 a2 a3 s) := by
  unfold placeArms
  extract_lets x1 x2
  clear_value x1
  clear_value x2
  refine within_foldl ?_ ?_
  · intro y3 y4 y5
    split
    · rename_i hq6
      refine (fun hw6 => ?_) (withinO_get (k := 8193) (s := s) (p := fun r => r) hq6 ?_)
      · assumption
      · refine withinO_after (within_placeResv ..) rfl ?_
        assumption
    · refine Within.after (within_rsat ..) rfl ?_
      assumption
  · exact Within.refl _ _

theorem within_gustFires (a0 : QEnt) (a1 : Nat) (a2 : Nat) (s : State) : Within 1057281 s (gustFires a0 a1 a2 s) := by
  unfold gustFires
  split
  · exact Within.refl _ _
  · extract_lets x1 x2 x3 x4 x5 x6 x7 x8 x9
    clear_value x1
    clear_value x2
    clear_value x3
    clear_value x4
    clear_value x7
    have hx5 : Within 1057281 s x5.2 := by
      unfold x5
      refine Within.after (within_takeFree ..) rfl ?_
      exact Within.refl _ _
    have hx6 : Within 1057281 s x6.2 := by
      unfold x6
      split
      · refine within_pair ?_
        exact Within.refl _ _
      · assumption
    have hx8 : Within 1057281 s x8 := by
      unfold x8
      refine Within.after (within_rsat ..) rfl ?_
      refine Within.after (within_emitRecord ..) rfl ?_
      refine Within.after (within_skipCps ..) rfl ?_
      refine Within.after (within_setObj ..) rfl ?_
      assumption
    have hx9 : Within 1057281 s x9 := by
      unfold x9
      refine within_foldl ?_ ?_
      · intro y10 y11 y12
        refine Within.after (within_xwSend ..) rfl ?_
        assumption
      · assumption
    clear_value x5
    clear_value x6
    clear_value x8
    clear_value x9
    refine within_ite ?_ ?_
    · assumption
    · refine Within.after (within_placeArms ..) rfl ?_
      assumption

theorem within_gustResult (a0 : QEnt) (a1 : Nat × Nat) (s : State) : Within 1057281 s (gustResult a0 a1 s) := by
  unfold gustResult
  extract_lets x1 x2
  have hx1 : Within 1057281 s x1 := by
    unfold x1
    refine Within.after (within_rsat ..) rfl ?_
    exact Within.refl _ _
  have hx2 : Within 1057281 s x2 := by
    unfold x2
    refine Within.after (within_modObj ..) rfl ?_
    exact Within.refl _ _
  clear_value x1
  clear_value x2
  split
  · assumption
  · refine within_ite ?_ ?_
    · assumption
    · refine within_ite ?_ ?_
      · refine Within.after (within_gustFires ..) rfl ?_
        assumption
      · refine Within.after (within_cpPoll ..) rfl ?_
        assumption

theorem within_gustEvaluation (a0 : Nat) (s : State) : Within 1057281 s (gustEvaluation a0 s) := by
  unfold gustEvaluation
  refine within_ite ?_ ?_
  · exact Within.refl _ _
  · split
    · exact Within.refl _ _
    · refine within_ite ?_ ?_
      · exact Within.refl _ _
      · extract_lets x1 x2
        clear_value x2
        have hx1 : Within 1057281 s x1 := by
          unfold x1
          refine Within.after (within_rsat ..) rfl ?_
          refine Within.after (within_vdtMod ..) rfl ?_
          exact Within.refl _ _
        clear_value x1
        refine Within.after (within_gustResult ..) rfl ?_
        refine Within.after (within_coreSpent ..) rfl ?_
        assumption

theorem within_haltStep (a0 : Nat) (s : State) : Within 131104 s (haltStep a0 s) := by
  unfold haltStep
  refine within_runStep ?_ ?_
  · intro y1 y2 y3 y4
    refine Within.after (within_haltEng ..) rfl ?_
    assumption
  · exact Within.refl _ _

theorem within_hkConversionDone (a0 : Nat) (a1 : Int) (s : State) : Within 524288 s (hkConversionDone a0 a1 s) := by
  unfold hkConversionDone
  extract_lets x1 x2
  clear_value x1
  clear_value x2
  refine within_ite ?_ ?_
  · exact Within.refl _ _
  · split
    · refine Within.after (within_convMod ..) rfl ?_
      exact Within.refl _ _
    · exact Within.refl _ _
    · split
      · exact Within.refl _ _
      · refine within_ite ?_ ?_
        · refine Within.after (within_convMod ..) rfl ?_
          exact Within.refl _ _
        · extract_lets x3 x4
          have hx3 : Within 524288 s x3 := by
            unfold x3
            refine Within.after (within_thmMod ..) rfl ?_
            exact Within.refl _ _
          have hx4 : Within 524288 s x4 := by
            unfold x4
            refine within_ite ?_ ?_
            · refine Within.after (within_ainDeliver ..) rfl ?_
              assumption
            · assumption
          clear_value x3
          clear_value x4
          refine Within.after (within_afterUrgent ..) rfl ?_
          refine Within.after (within_convMod ..) rfl ?_
          assumption

theorem within_judgeConv (a0 : Nat) (a1 : List Nat) (a2 : Bool) (s : State) (a4 : Nat)
    : Within 524320 s (judgeConv a0 a1 a2 s a4) := by
  unfold judgeConv
  refine within_ite ?_ ?_
  · exact Within.refl _ _
  · refine within_ite ?_ ?_
    · extract_lets x1 x2
      clear_value x1
      have hx2 : Within 524320 s x2 := by
        unfold x2
        refine Within.after (within_raise ..) rfl ?_
        refine Within.after (within_convMod ..) rfl ?_
        exact Within.refl _ _
      clear_value x2
      refine within_ite ?_ ?_
      · refine Within.after (within_convFault ..) rfl ?_
        assumption
      · assumption
    · refine Within.after (within_convMod ..) rfl ?_
      exact Within.refl _ _

theorem within_judgeMonitor (a0 : Bool) (s : State) : Within 786464 s (judgeMonitor a0 s) := by
  unfold judgeMonitor
  extract_lets x1 x2 x3 x4
  clear_value x1
  have hx2 : Within 786464 s x2 := by
    unfold x2
    refine Within.after (within_thmMod ..) rfl ?_
    exact Within.refl _ _
  clear_value x2
  refine within_ite ?_ ?_
  · refine Within.after (within_raise0 ..) rfl ?_
    refine within_mk rfl ?_ (hf := form_eq)
    assumption
  · assumption

theorem within_judgeRail (s : State) (a1 : Nat) : Within 524320 s (judgeRail s a1) := by
  unfold judgeRail
  split
  · extract_lets x1 x2 x3 x4 x5 x6
    clear_value x1
    clear_value x2
    clear_value x3
    clear_value x4
    clear_value x5
    clear_value x6
    refine Within.after (within_raiseIf ..) rfl ?_
    refine Within.after (within_thmMod ..) rfl ?_
    exact Within.refl _ _
  · exact Within.refl _ _

theorem within_judgeSensor (a0 : List Nat) (s : State) (a2 : Nat) : Within 524320 s (judgeSensor a0 s a2) := by
  unfold judgeSensor
  extract_lets x1 x2 x3 x4 x5 x6
  clear_value x1
  clear_value x2
  clear_value x3
  clear_value x4
  clear_value x6
  refine within_ite ?_ ?_
  · refine within_ite ?_ ?_
    · refine Within.after (within_thmMod ..) rfl ?_
      exact Within.refl _ _
    · refine within_ite ?_ ?_
      · refine Within.after (within_thmMod ..) rfl ?_
        exact Within.refl _ _
      · refine Within.after (within_raise ..) rfl ?_
        refine Within.after (within_thmMod ..) rfl ?_
        exact Within.refl _ _
  · refine within_ite ?_ ?_
    · dsimp -zeta only [x5]
      refine Within.after (within_raise ..) rfl ?_
      refine Within.after (within_thmMod ..) rfl ?_
      exact Within.refl _ _
    · refine within_ite ?_ ?_
      · refine Within.after (within_thmMod ..) rfl ?_
        exact Within.refl _ _
      · refine within_ite ?_ ?_
        · refine Within.after (within_thmMod ..) rfl ?_
          exact Within.refl _ _
        · refine within_ite ?_ ?_
          · refine Within.after (within_askReconv ..) rfl ?_
            refine Within.after (within_thmMod ..) rfl ?_
            exact Within.refl _ _
          · split
            · refine Within.after (within_askReconv ..) rfl ?_
              refine Within.after (within_thmMod ..) rfl ?_
              exact Within.refl _ _
            · refine within_ite ?_ ?_
              · dsimp -zeta only [x5]
                refine Within.after (within_raise ..) rfl ?_
                refine Within.after (within_thmMod ..) rfl ?_
                exact Within.refl _ _
              · refine Within.after (within_thmMod ..) rfl ?_
                exact Within.refl _ _

theorem within_riseAlarm (s : State) : Within 524320 s (riseAlarm s) := by
  unfold riseAlarm
  extract_lets x1 x2 x3 x4
  clear_value x1
  clear_value x2
  clear_value x3
  have hx4 : Within 524320 s x4 := by
    unfold x4
    refine Within.after (within_thmMod ..) rfl ?_
    exact Within.refl _ _
  clear_value x4
  refine within_ite ?_ ?_
  · refine Within.after (within_raise0 ..) rfl ?_
    refine Within.after (within_thmMod ..) rfl ?_
    assumption
  · refine within_ite ?_ ?_
    · refine Within.after (within_raise0 ..) rfl ?_
      refine Within.after (within_thmMod ..) rfl ?_
      assumption
    · assumption

theorem within_stopTrigger (s : State) : Within 524288 s (stopTrigger s) := by
  unfold stopTrigger
  refine within_ite ?_ ?_
  · refine Within.after (within_askReconv ..) rfl ?_
    exact Within.refl _ _
  · refine within_ite ?_ ?_
    · extract_lets x1
      clear_value x1
      refine Within.after (within_askReconv ..) rfl ?_
      refine Within.after (within_thmMod ..) rfl ?_
      exact Within.refl _ _
    · exact Within.refl _ _

theorem within_thmFault (s : State) : Within 524320 s (thmFault s) := by
  unfold thmFault
  extract_lets x1 x2 x3
  clear_value x1
  clear_value x2
  have hx3 : Within 524320 s x3 := by
    unfold x3
    refine within_ite ?_ ?_
    · refine Within.after (within_thmMod ..) rfl ?_
      exact Within.refl _ _
    · exact Within.refl _ _
  clear_value x3
  refine within_ite ?_ ?_
  · refine Within.after (within_raise0 ..) rfl ?_
    refine Within.after (within_thmMod ..) rfl ?_
    assumption
  · assumption

theorem within_roundDecide (a0 : Bool) (s : State) : Within 786465 s (roundDecide a0 s) := by
  unfold roundDecide
  extract_lets x2 x3 x4 x5 x6 x7 x8 x9 x10 x11 x12 x13
  have hx3 : Within 786465 s x3 := by
    unfold x3
    refine Within.after (within_judgeMonitor ..) rfl ?_
    refine within_foldl ?_ ?_
    · intro y14 y15 y16
      refine Within.after (within_judgeConv ..) rfl ?_
      assumption
    · exact Within.refl _ _
  have hx4 : Within 786465 s x4 := by
    unfold x4
    refine within_foldl ?_ ?_
    · intro y15 y16 y17
      refine Within.after (within_judgeRail ..) rfl ?_
      assumption
    · exact hx3
  have hx6 : Within 786465 s x6 := by
    unfold x6
    refine within_foldl ?_ ?_
    · intro y16 y17 y18
      refine Within.after (within_judgeSensor ..) rfl ?_
      assumption
    · exact hx4
  have hx10 : Within 786465 s x10 := by
    unfold x10
    refine Within.after (within_thmMod ..) rfl ?_
    exact hx6
  have hx13 : Within 786465 s x13 := by
    unfold x13
    refine Within.after (within_thmMod ..) rfl ?_
    exact hx10
  clear_value x2
  clear_value x3
  clear_value x4
  clear_value x5
  clear_value x6
  clear_value x7
  clear_value x8
  clear_value x9
  clear_value x10
  clear_value x11
  clear_value x12
  clear_value x13
  refine within_ite ?_ ?_
  · refine Within.after (within_thmFault ..) rfl ?_
    assumption
  · refine within_ite ?_ ?_
    · assumption
    · refine Within.after (within_stopTrigger ..) rfl ?_
      refine Within.after (within_riseAlarm ..) rfl ?_
      refine Within.after (within_thmFault ..) rfl ?_
      assumption

theorem within_takeReadings (s : State) : Within 524289 s (takeReadings s) := by
  unfold takeReadings
  extract_lets x1 x2 x3 x4 x5
  clear_value x1
  clear_value x2
  have hx3 : Within 524289 s x3 := by
    unfold x3
    refine Within.after (within_thmMod ..) rfl ?_
    exact Within.refl _ _
  have hx5 : Within 524289 s x5 := by
    unfold x5
    dsimp -zeta only [x4]
    split
    · refine Within.after (within_rfset ..) rfl ?_
      split
      · refine Within.after (within_rfset ..) rfl ?_
        split
        · refine Within.after (within_rfset ..) rfl ?_
          split
          · refine Within.after (within_rfset ..) rfl ?_
            assumption
          · assumption
        · split
          · refine Within.after (within_rfset ..) rfl ?_
            assumption
          · assumption
      · split
        · refine Within.after (within_rfset ..) rfl ?_
          split
          · refine Within.after (within_rfset ..) rfl ?_
            assumption
          · assumption
        · split
          · refine Within.after (within_rfset ..) rfl ?_
            assumption
          · assumption
    · split
      · refine Within.after (within_rfset ..) rfl ?_
        split
        · refine Within.after (within_rfset ..) rfl ?_
          split
          · refine Within.after (within_rfset ..) rfl ?_
            assumption
          · assumption
        · split
          · refine Within.after (within_rfset ..) rfl ?_
            assumption
          · assumption
      · split
        · refine Within.after (within_rfset ..) rfl ?_
          split
          · refine Within.after (within_rfset ..) rfl ?_
            assumption
          · assumption
        · split
          · refine Within.after (within_rfset ..) rfl ?_
            assumption
          · assumption
  clear_value x3
  clear_value x5
  refine within_foldl ?_ ?_
  · intro y6 y7 y8
    split
    · refine Within.after (within_rfset ..) rfl ?_
      assumption
    · assumption
  · assumption

theorem within_hkRoundEnd (s : State) : Within 786593 s (hkRoundEnd s) := by
  unfold hkRoundEnd
  refine within_ite ?_ ?_
  · exact Within.refl _ _
  · extract_lets x1 x2 x3 x4
    clear_value x1
    clear_value x2
    clear_value x3
    have hx4 : Within 786593 s x4 := by
      unfold x4
      refine Within.after (within_thmMod ..) rfl ?_
      exact Within.refl _ _
    clear_value x4
    refine Within.after (within_thmMod ..) rfl ?_
    refine Within.after (within_roundDecide ..) rfl ?_
    refine Within.after (within_firstRound ..) rfl ?_
    refine Within.after (within_takeReadings ..) rfl ?_
    assumption

theorem within_hkRoundStart (s : State) : Within 655360 s (hkRoundStart s) := by
  unfold hkRoundStart
  refine within_ite ?_ ?_
  · exact Within.refl _ _
  · extract_lets x1 x2 x3 x4 x5 x6
    have hx1 : Within 655360 s x1 := by
      unfold x1
      refine within_foldl ?_ ?_
      · intro y7 y8 y9
        extract_lets x10 x11
        clear_value x10
        refine within_ite ?_ ?_
        · assumption
        · refine Within.after (within_ainMod ..) rfl ?_
          assumption
      · exact Within.refl _ _
    have hx4 : Within 655360 s x4 := by
      unfold x4
      refine Within.after (within_thmMod ..) rfl ?_
      exact hx1
    have hx5 : Within 655360 s x5 := by
      unfold x5
      refine within_foldl ?_ ?_
      · intro y9 y10 y11
        refine Within.after (within_beginVisit ..) rfl ?_
        refine Within.after (within_convMod ..) rfl ?_
        assumption
      · exact hx4
    clear_value x1
    clear_value x4
    clear_value x5
    refine within_mk rfl ?_ (hf := form_eq)
    assumption

theorem within_holdFunction (a0 : RstRun) (s : State) : Within 97 s (holdFunction a0 s) := by
  unfold holdFunction
  refine Within.after (within_endRun ..) rfl ?_
  refine Within.after (within_funcReset ..) rfl ?_
  extract_lets x1 x2
  have hx1 : Within 97 s x1 := by
    unfold x1
    refine Within.after (within_rset ..) rfl ?_
    exact Within.refl _ _
  clear_value x1
  refine within_mk rfl ?_ (hf := form_eq)
  assumption

theorem within_ibrEnd (a0 : Nat) (s : State) : Within 288 s (ibrEnd a0 s) := by
  unfold ibrEnd
  refine within_mk rfl ?_ (hf := form_eq)
  exact Within.refl _ _

theorem within_ibrFail (s : State) : Within 289 s (ibrFail s) := by
  unfold ibrFail
  refine Within.after (within_raise0 ..) rfl ?_
  refine Within.after (within_mbCount ..) rfl ?_
  refine Within.after (within_ibrEnd ..) rfl ?_
  exact Within.refl _ _

theorem within_ibrRetry (s : State) : Within 289 s (ibrRetry s) := by
  unfold ibrRetry
  refine within_ite ?_ ?_
  · refine within_ite ?_ ?_
    · refine Within.after (within_ibrFail ..) rfl ?_
      exact Within.refl _ _
    · refine Within.after (within_mbMod ..) rfl ?_
      exact Within.refl _ _
  · exact Within.refl _ _

theorem within_ibrStart (s : State) : Within 289 s (ibrStart s) := by
  unfold ibrStart
  refine within_ite ?_ ?_
  · extract_lets x1 x2
    clear_value x1
    clear_value x2
    refine Within.after (within_mbCount ..) rfl ?_
    refine Within.after (within_mbMod ..) rfl ?_
    refine Within.after (within_ibrEnd ..) rfl ?_
    exact Within.refl _ _
  · exact Within.refl _ _

theorem within_ibrUnanswered (s : State) : Within 289 s (ibrUnanswered s) := by
  unfold ibrUnanswered
  refine within_ite ?_ ?_
  · refine Within.after (within_ibrFail ..) rfl ?_
    exact Within.refl _ _
  · exact Within.refl _ _

theorem within_timeCycle (s : State) : Within 20 s (timeCycle s) := by
  unfold timeCycle
  extract_lets x1 x2
  clear_value x1
  refine within_mk rfl ?_ (hf := form_eq)
  exact Within.refl _ _

theorem within_idleCycle (s : State) : Within 135740 s (idleCycle s) := by
  unfold idleCycle
  refine Within.after (within_dividers ..) rfl ?_
  refine Within.after (within_coastCycle ..) rfl ?_
  refine Within.after (within_timeCycle ..) rfl ?_
  exact Within.refl _ _

theorem within_inputOutOfRange (s : State) : Within 32 s (inputOutOfRange s) := by
  unfold inputOutOfRange
  extract_lets x1
  clear_value x1
  refine within_ite ?_ ?_
  · exact Within.refl _ _
  · refine within_ite ?_ ?_
    · refine Within.after (within_raise0 ..) rfl ?_
      exact Within.refl _ _
    · refine within_ite ?_ ?_
      · refine Within.after (within_raise0 ..) rfl ?_
        exact Within.refl _ _
      · exact Within.refl _ _

theorem within_segmentLost (a0 : Nat) (a1 : Nat) (a2 : Nat) (s : State) : Within 4096 s (segmentLost a0 a1 a2 s) := by
  unfold segmentLost
  extract_lets x1 x2
  clear_value x1
  clear_value x2
  refine within_ite ?_ ?_
  · refine Within.after (within_pipMod ?_) rfl ?_
    · (dsimp only; exact id)
    · exact Within.refl _ _
  · exact Within.refl _ _

theorem within_labelLost (a0 : Nat) (a1 : Nat) (s : State) : Within 12320 s (labelLost a0 a1 s) := by
  unfold labelLost
  extract_lets x1
  clear_value x1
  refine Within.after (within_segmentLost ..) rfl ?_
  refine within_foldl ?_ ?_
  · intro y2 y3 y4
    refine Within.after (within_modObj ..) rfl ?_
    assumption
  · refine Within.after (within_raise ..) rfl ?_
    exact Within.refl _ _

theorem within_storeLabels (s : State) (a1 : Nat × Nat × Map Nat) : Within 4096 s (storeLabels s a1) := by
  unfold storeLabels
  extract_lets x1 x2
  clear_value x1
  clear_value x2
  refine Within.after (within_pipMod ?_) rfl ?_
  · (dsimp only; exact id)
  · exact Within.refl _ _

theorem within_labelsResume (s : State) : Within 4096 s (labelsResume s) := by
  unfold labelsResume
  refine within_foldl ?_ ?_
  · intro y1 y2 y3
    refine Within.after (within_storeLabels ..) rfl ?_
    assumption
  · refine Within.after (within_pipMod ?_) rfl ?_
    · (dsimp only; exact id)
    · exact Within.refl _ _

theorem within_setBringUp (a0 : Nat) (s : State) : Within 69665 s (setBringUp a0 s) := by
  unfold setBringUp
  refine within_ite ?_ ?_
  · exact Within.refl _ _
  · extract_lets x1 x2 x3 x4 x5 x6 x7
    clear_value x1
    clear_value x2
    clear_value x3
    clear_value x4
    clear_value x5
    clear_value x6
    have hx7 : Within 69665 s x7 := by
      unfold x7
      refine Within.after (within_rowsLost ..) rfl ?_
      refine Within.after (within_putSet ..) rfl ?_
      exact Within.refl _ _
    clear_value x7
    refine within_ite ?_ ?_
    · refine Within.after (within_setDown ..) rfl ?_
      assumption
    · assumption

end Sys2Proof.Laws
end

