-- ==== Sys2Proof/Laws/FrameOps5.lean ====
section
/-! SUPPORT. For each operation, the parts of the state that it may change and that it keeps the form (part 5 of 6, in the order
in which operations build on each other). -/

namespace Sys2Proof.Laws

set_option Elab.async false

open Sys2Proof.Machine

theorem within_laneBringupBegin (s : State) : Within 69793 s (laneBringupBegin s) := by
  unfold laneBringupBegin
  refine within_ite ?_ ?_
  · refine Within.after (within_enterReady ..) rfl ?_
    refine within_foldl ?_ ?_
    · intro y1 y2 y3
      refine Within.after (within_setBringUp ..) rfl ?_
      assumption
    · refine Within.after (within_mgtMod ?_) rfl ?_
      · (dsimp only; exact id)
      · exact Within.refl _ _
  · exact Within.refl _ _

theorem within_laneFault (a0 : Nat) (a1 : Nat) (a2 : Nat) (a3 : Nat) (s : State)
    : Within 65569 s (laneFault a0 a1 a2 a3 s) := by
  unfold laneFault
  split
  · exact Within.refl _ _
  · refine within_ite ?_ ?_
    · exact Within.refl _ _
    · refine Within.after (within_failLane ..) rfl ?_
      refine Within.after (within_rset ..) rfl ?_
      exact Within.refl _ _

theorem within_lanePolicyUpdate (a0 : Nat) (s : State) : Within 65568 s (lanePolicyUpdate a0 s) := by
  unfold lanePolicyUpdate
  extract_lets x1 x2 x3 x4
  clear_value x1
  clear_value x2
  clear_value x3
  have hx4 : Within 65568 s x4 := by
    unfold x4
    refine Within.after (within_putSet ..) rfl ?_
    exact Within.refl _ _
  clear_value x4
  refine within_ite ?_ ?_
  · exact Within.refl _ _
  · refine within_ite ?_ ?_
    · assumption
    · refine within_ite ?_ ?_
      · refine Within.after (within_sendStatus ..) rfl ?_
        refine within_foldl ?_ ?_
        · intro y5 y6 y7
          refine within_ite ?_ ?_
          · refine Within.after (within_raise ..) rfl ?_
            assumption
          · assumption
        · assumption
      · refine Within.after (within_sendStatus ..) rfl ?_
        refine within_foldl ?_ ?_
        · intro y8 y9 y10
          refine within_ite ?_ ?_
          · refine Within.after (within_raise ..) rfl ?_
            assumption
          · assumption
        · assumption

theorem within_laneReturn (a0 : Nat) (s : State) : Within 65568 s (laneReturn a0 s) := by
  unfold laneReturn
  split
  · exact Within.refl _ _
  · extract_lets x1 x2 x3
    clear_value x1
    have hx2 : Within 65568 s x2 := by
      unfold x2
      refine Within.after (within_lnkMod ..) rfl ?_
      exact Within.refl _ _
    have hx3 : Within 65568 s x3 := by
      unfold x3
      refine Within.after (within_putSet ..) rfl ?_
      assumption
    clear_value x2
    clear_value x3
    refine within_ite ?_ ?_
    · exact Within.refl _ _
    · refine within_ite ?_ ?_
      · refine Within.after (within_sendStatus ..) rfl ?_
        refine Within.after (within_raise ..) rfl ?_
        refine Within.after (within_putSet ..) rfl ?_
        assumption
      · refine within_ite ?_ ?_
        · refine Within.after (within_requestMove ..) rfl ?_
          assumption
        · assumption

theorem within_launch (a0 : Nat) (a1 : LPkt) (s : State) : Within 65569 s (launch a0 a1 s) := by
  unfold launch
  extract_lets x1 x2 x3 x4 x5
  clear_value x1
  clear_value x2
  clear_value x3
  have hx4 : Within 65569 s x4 := by
    unfold x4
    refine Within.after (within_putSet ..) rfl ?_
    exact Within.refl _ _
  have hx5 : Within 65569 s x5 := by
    unfold x5
    refine Within.after (within_rsat ..) rfl ?_
    assumption
  clear_value x4
  clear_value x5
  refine within_ite ?_ ?_
  · assumption
  · refine within_ite ?_ ?_
    · refine Within.after (within_resendReport ..) rfl ?_
      assumption
    · assumption

theorem within_launchClass (a0 : Nat) (a1 : Nat) (s : State) : WithinO 65569 s (fun r => r) (launchClass a0 a1 s) := by
  unfold launchClass
  extract_lets x1
  clear_value x1
  split
  · refine withinO_some ?_
    refine Within.after (within_launch ..) rfl ?_
    refine Within.after (within_putSet ..) rfl ?_
    exact Within.refl _ _
  · split
    · exact withinO_none
    · split
      · exact withinO_none
      · extract_lets x2
        clear_value x2
        refine withinO_some ?_
        refine Within.after (within_launch ..) rfl ?_
        refine Within.after (within_noteAge ..) rfl ?_
        refine Within.after (within_putSet ..) rfl ?_
        exact Within.refl _ _

theorem within_startPacket (a0 : Nat) (a1 : Nat) (s : State) : Within 65569 s (startPacket a0 a1 s) := by
  unfold startPacket
  extract_lets x1 x2 x3
  clear_value x1
  clear_value x2
  clear_value x3
  split
  · refine within_ite ?_ ?_
    · refine Within.after (within_launch ..) rfl ?_
      refine Within.after (within_putSet ..) rfl ?_
      exact Within.refl _ _
    · extract_lets x4
      clear_value x4
      refine Within.after (within_launch ..) rfl ?_
      refine Within.after (within_putSet ..) rfl ?_
      exact Within.refl _ _
  · split
    · refine Within.after (within_lnkMod ..) rfl ?_
      refine Within.after (within_launch ..) rfl ?_
      refine Within.after (within_putSet ..) rfl ?_
      exact Within.refl _ _
    · split
      · rename_i hq5
        refine (fun hw5 => ?_) (withinO_get (k := 65569) (s := s) (p := fun r => r) hq5 ?_)
        · assumption
        · refine withinO_after (within_launchClass ..) rfl ?_
          exact Within.refl _ _
      · split
        · rename_i hq6
          refine (fun hw6 => ?_) (withinO_get (k := 65569) (s := s) (p := fun r => r) hq6 ?_)
          · assumption
          · refine withinO_after (within_launchClass ..) rfl ?_
            exact Within.refl _ _
        · split
          · rename_i hq7
            refine (fun hw7 => ?_) (withinO_get (k := 65569) (s := s) (p := fun r => r) hq7 ?_)
            · assumption
            · refine withinO_after (within_launchClass ..) rfl ?_
              exact Within.refl _ _
          · refine withinO_getD ?_ ?_
            · refine withinO_after (within_launchClass ..) rfl ?_
              exact Within.refl _ _
            · exact Within.refl _ _

theorem within_wireWord (a0 : Nat) (a1 : BitVec 128) (s : State) : Within 65536 s (wireWord a0 a1 s) := by
  unfold wireWord
  refine Within.after (within_wireSend ..) rfl ?_
  exact Within.refl _ _

theorem within_slotWord (a0 : Nat) (a1 : Nat) (a2 : Nat) (s : State) : Within 65569 s (slotWord a0 a1 a2 s) := by
  unfold slotWord
  extract_lets x1 x2 x3 x4 x5
  clear_value x2
  clear_value x3
  clear_value x5
  have hx1 : Within 65569 s x1 := by
    unfold x1
    refine within_ite ?_ ?_
    · refine Within.after (within_startPacket ..) rfl ?_
      exact Within.refl _ _
    · exact Within.refl _ _
  have hx4 : Within 65569 s x4 := by
    unfold x4
    refine Within.after (within_rwrap ..) rfl ?_
    assumption
  clear_value x1
  clear_value x4
  split
  · refine Within.after (within_wireWord ..) rfl ?_
    refine Within.after (within_putSet ..) rfl ?_
    assumption
  · refine Within.after (within_wireWord ..) rfl ?_
    refine Within.after (within_putSet ..) rfl ?_
    assumption

theorem within_wireIdle (a0 : Nat) (s : State) : Within 65536 s (wireIdle a0 s) := by
  unfold wireIdle
  refine within_ite ?_ ?_
  · refine Within.after (within_wirePrbs ..) rfl ?_
    exact Within.refl _ _
  · refine Within.after (within_wireSend ..) rfl ?_
    exact Within.refl _ _

theorem within_laneRowSend (a0 : Nat) (s : State) : Within 65569 s (laneRowSend a0 s) := by
  unfold laneRowSend
  extract_lets x1 x2 x3
  clear_value x1
  have hx2 : Within 65569 s x2 := by
    unfold x2
    refine within_foldl ?_ ?_
    · intro y4 y5 y6
      refine Within.after (within_slotWord ..) rfl ?_
      assumption
    · exact Within.refl _ _
  have hx3 : Within 65569 s x3 := by
    unfold x3
    refine within_foldl ?_ ?_
    · intro y7 y8 y9
      refine Within.after (within_wireIdle ..) rfl ?_
      assumption
    · assumption
  clear_value x2
  clear_value x3
  refine within_ite ?_ ?_
  · exact Within.refl _ _
  · refine Within.after (within_setMod ..) rfl ?_
    assumption

theorem within_laneWarn (a0 : Nat) (a1 : Nat) (a2 : Nat) (s : State) : Within 65569 s (laneWarn a0 a1 a2 s) := by
  unfold laneWarn
  split
  · exact Within.refl _ _
  · refine within_ite ?_ ?_
    · exact Within.refl _ _
    · extract_lets x1
      have hx1 : Within 65569 s x1 := by
        unfold x1
        refine Within.after (within_raise ..) rfl ?_
        refine Within.after (within_rfset ..) rfl ?_
        refine Within.after (within_rset ..) rfl ?_
        exact Within.refl _ _
      clear_value x1
      refine within_ite ?_ ?_
      · refine Within.after (within_requestMove ..) rfl ?_
        assumption
      · assumption

theorem within_leadRead (a0 : Nat) (s : State) : Within 197411 s (leadRead a0 s) := by
  unfold leadRead
  refine within_ite ?_ ?_
  · extract_lets x1
    have hx1 : Within 197411 s x1.2 := by
      unfold x1
      refine Within.after (within_readReg ..) rfl ?_
      exact Within.refl _ _
    clear_value x1
    refine Within.after (within_mbShow ..) rfl ?_
    assumption
  · exact Within.refl _ _

theorem within_leadSegment (a0 : Nat) (s : State) : Within 12321 s (leadSegment a0 s) := by
  unfold leadSegment
  extract_lets x1 x2
  clear_value x1
  clear_value x2
  split
  · exact Within.refl _ _
  · refine within_ite ?_ ?_
    · exact Within.refl _ _
    · extract_lets x3 x4 x5
      clear_value x3
      clear_value x4
      clear_value x5
      refine Within.after (within_secPump ..) rfl ?_
      refine Within.after (within_vdtMod ..) rfl ?_
      refine Within.after (within_setSec ..) rfl ?_
      exact Within.refl _ _

theorem within_modelDiverge (a0 : Nat) (a1 : Nat) (s : State) : Within 262176 s (modelDiverge a0 a1 s) := by
  unfold modelDiverge
  extract_lets x1 x2 x3 x4 x5
  clear_value x2
  clear_value x3
  clear_value x4
  have hx5 : Within 262176 s x5 := by
    unfold x5
    refine Within.after (within_nrgMod ..) rfl ?_
    exact Within.refl _ _
  clear_value x5
  refine within_ite ?_ ?_
  · refine Within.after (within_nrgMod ..) rfl ?_
    exact Within.refl _ _
  · refine Within.after (within_raiseIf ..) rfl ?_
    assumption

theorem within_planBoundary (s : State) : Within 262177 s (planBoundary s) := by
  unfold planBoundary
  refine within_ite ?_ ?_
  · refine Within.after (within_planRecheck ..) rfl ?_
    refine Within.after (within_nrgMod ..) rfl ?_
    refine Within.after (within_planAdopt ..) rfl ?_
    exact Within.refl _ _
  · exact Within.refl _ _

theorem within_shedApply (s : State) : Within 327713 s (shedApply s) := by
  unfold shedApply
  extract_lets x1 x2 x3 x4 x5 x6 x7 x8
  have hx3 : Within 327713 s x3 := by
    unfold x3
    refine Within.after (within_nrgMod ..) rfl ?_
    exact Within.refl _ _
  have hx6 : Within 327713 s x6 := by
    unfold x6
    refine Within.after (within_rfset ..) rfl ?_
    exact hx3
  have hx7 : Within 327713 s x7 := by
    unfold x7
    refine within_foldl ?_ ?_
    · intro y11 y12 y13
      refine Within.after (within_raise0 ..) rfl ?_
      refine Within.after (within_shedEntry ..) rfl ?_
      assumption
    · exact hx6
  have hx8 : Within 327713 s x8 := by
    unfold x8
    refine within_foldl ?_ ?_
    · intro y12 y13 y14
      refine Within.after (within_raise0 ..) rfl ?_
      refine Within.after (within_shedEntry ..) rfl ?_
      assumption
    · exact hx7
  clear_value x2
  clear_value x3
  clear_value x4
  clear_value x5
  clear_value x6
  clear_value x7
  clear_value x8
  refine within_ite ?_ ?_
  · exact Within.refl _ _
  · refine within_ite ?_ ?_
    · refine Within.after (within_sendStatusAll ..) rfl ?_
      assumption
    · refine within_ite ?_ ?_
      · refine Within.after (within_sendStatusAll ..) rfl ?_
        assumption
      · assumption

theorem within_ledgerEntryClose (s : State) : Within 327713 s (ledgerEntryClose s) := by
  unfold ledgerEntryClose
  refine within_ite ?_ ?_
  · exact Within.refl _ _
  · extract_lets x1 x2 x3 x4 x5 x6 x7 x8
    clear_value x2
    clear_value x3
    clear_value x4
    clear_value x5
    clear_value x6
    clear_value x7
    have hx8 : Within 327713 s x8 := by
      unfold x8
      refine within_ite ?_ ?_
      · refine Within.after (within_nrgMod ..) rfl ?_
        exact Within.refl _ _
      · refine Within.after (within_modelDiverge ..) rfl ?_
        refine Within.after (within_nrgMod ..) rfl ?_
        exact Within.refl _ _
    clear_value x8
    refine within_ite ?_ ?_
    · assumption
    · refine Within.after (within_planBoundary ..) rfl ?_
      refine Within.after (within_shedApply ..) rfl ?_
      assumption

theorem within_lineEntry (a0 : DueLine) (a1 : Nat) (a2 : Bool) (s : State) : Within 8 s (lineEntry a0 a1 a2 s) := by
  unfold lineEntry
  extract_lets x1 x2
  clear_value x1
  clear_value x2
  refine Within.after (within_tbsMod ..) rfl ?_
  exact Within.refl _ _

theorem within_lineStart (s : State) : Within 146601 s (lineStart s) := by
  unfold lineStart
  split
  · exact Within.refl _ _
  · extract_lets x1
    clear_value x1
    refine within_ite ?_ ?_
    · refine Within.after (within_tbsMod ..) rfl ?_
      exact Within.refl _ _
    · refine within_ite ?_ ?_
      · refine Within.after (within_lineEntry ..) rfl ?_
        exact Within.refl _ _
      · refine within_ite ?_ ?_
        · refine Within.after (within_gapLine ..) rfl ?_
          refine Within.after (within_lineEntry ..) rfl ?_
          exact Within.refl _ _
        · split
          · refine Within.after (within_gapLine ..) rfl ?_
            refine Within.after (within_lineEntry ..) rfl ?_
            exact Within.refl _ _
          · refine Within.after (within_captureLine ..) rfl ?_
            refine Within.after (within_lineEntry ..) rfl ?_
            exact Within.refl _ _

theorem within_linkBandChange (a0 : Nat) (a1 : List Nat) (s : State) : Within 513 s (linkBandChange a0 a1 s) := by
  unfold linkBandChange
  refine within_foldl ?_ ?_
  · intro y1 y2 y3
    extract_lets x4 x5 x6 x7
    clear_value x4
    clear_value x5
    clear_value x6
    have hx7 : Within 513 s x7 := by
      unfold x7
      refine Within.after (within_rfset ..) rfl ?_
      assumption
    clear_value x7
    refine within_ite ?_ ?_
    · refine Within.after (within_setXw ..) rfl ?_
      assumption
    · assumption
  · exact Within.refl _ _

theorem within_linkIdle (a0 : Nat) (s : State) : Within 65536 s (linkIdle a0 s) := by
  unfold linkIdle
  refine Within.after (within_lnkMod ..) rfl ?_
  exact Within.refl _ _

theorem within_sweepEnd (a0 : Nat) (s : State) : Within 262144 s (sweepEnd a0 s) := by
  unfold sweepEnd
  refine within_mk rfl ?_ (hf := form_eq)
  exact Within.refl _ _

theorem within_linkDown (a0 : Nat) (s : State) : Within 328192 s (linkDown a0 s) := by
  unfold linkDown
  refine Within.after (within_sweepEnd ..) rfl ?_
  refine Within.after (within_linkIdle ..) rfl ?_
  refine Within.after (within_xwMod ..) rfl ?_
  exact Within.refl _ _

theorem within_linkPacketReceived (a0 : Nat) (a1 : List (BitVec 128)) (a2 : Nat × Nat) (s : State)
    : Within 82465 s (linkPacketReceived a0 a1 a2 s) := by
  unfold linkPacketReceived
  extract_lets x1 x2 x3 x4 x5 x6 x7
  clear_value x1
  clear_value x2
  clear_value x3
  clear_value x4
  clear_value x6
  have hx5 : Within 82465 s x5 := by
    unfold x5
    refine Within.after (within_setXw ..) rfl ?_
    exact Within.refl _ _
  have hx7 : Within 82465 s x7 := by
    unfold x7
    refine Within.after (within_rwrap ..) rfl ?_
    assumption
  clear_value x5
  clear_value x7
  refine within_ite ?_ ?_
  · exact Within.refl _ _
  · refine within_ite ?_ ?_
    · refine Within.after (within_raise ..) rfl ?_
      exact Within.refl _ _
    · refine within_ite ?_ ?_
      · refine Within.after (within_raise ..) rfl ?_
        refine Within.after (within_rsat ..) rfl ?_
        assumption
      · refine within_ite ?_ ?_
        · refine Within.after (within_raise ..) rfl ?_
          assumption
        · split
          · refine Within.after (within_raise ..) rfl ?_
            assumption
          · refine within_ite ?_ ?_
            · assumption
            · refine within_ite ?_ ?_
              · refine Within.after (within_rsat ..) rfl ?_
                assumption
              · extract_lets x8
                have hx8 : Within 82465 s x8 := by
                  unfold x8
                  refine within_mk rfl ?_ (hf := form_eq)
                  assumption
                clear_value x8
                refine within_ite ?_ ?_
                · refine Within.after (within_lnkMod ..) rfl ?_
                  assumption
                · assumption

theorem within_xwLaunch (a0 : Nat) (a1 : Nat) (a2 : XwMsg) (a3 : List XwMsg) (s : State)
    : Within 66049 s (xwLaunch a0 a1 a2 a3 s) := by
  unfold xwLaunch
  extract_lets x1 x2 x3 x4 x5
  clear_value x1
  clear_value x2
  clear_value x3
  clear_value x5
  have hx4 : Within 66049 s x4 := by
    unfold x4
    refine Within.after (within_setXw ..) rfl ?_
    exact Within.refl _ _
  clear_value x4
  refine Within.after (within_rwrap ..) rfl ?_
  refine Within.after (within_linkSend ..) rfl ?_
  assumption

theorem within_linkPacketSend (a0 : Nat) (s : State) : Within 66081 s (linkPacketSend a0 s) := by
  unfold linkPacketSend
  extract_lets x1 x2 x3
  clear_value x1
  clear_value x2
  have hx3 : Within 66081 s x3 := by
    unfold x3
    refine within_ite ?_ ?_
    · refine Within.after (within_raise ..) rfl ?_
      refine Within.after (within_rsat ..) rfl ?_
      refine Within.after (within_setXw ..) rfl ?_
      exact Within.refl _ _
    · exact Within.refl _ _
  clear_value x3
  refine within_ite ?_ ?_
  · exact Within.refl _ _
  · split
    · refine Within.after (within_xwLaunch ..) rfl ?_
      assumption
    · refine Within.after (within_linkSend ..) rfl ?_
      refine Within.after (within_xwMod ..) rfl ?_
      assumption
    · refine Within.after (within_linkSend ..) rfl ?_
      assumption

theorem within_partnerSingle (a0 : Nat) (a1 : State) (s : State) : Within 32 s (partnerSingle a0 a1 s) := by
  unfold partnerSingle
  refine Within.after (within_raiseIf ..) rfl ?_
  exact Within.refl _ _

theorem within_linkResetScope (a0 : Nat) (s : State) : Within 344608 s (linkResetScope a0 s) := by
  unfold linkResetScope
  refine within_ite ?_ ?_
  · extract_lets x1 x2 x3
    clear_value x1
    clear_value x2
    clear_value x3
    refine Within.after (within_partnerSingle ..) rfl ?_
    refine Within.after (within_sweepEnd ..) rfl ?_
    refine Within.after (within_linkIdle ..) rfl ?_
    refine Within.after (within_setXw ..) rfl ?_
    exact Within.refl _ _
  · refine within_ite ?_ ?_
    · refine Within.after (within_lnkMod ..) rfl ?_
      refine within_mk rfl ?_ (hf := form_eq)
      exact Within.refl _ _
    · exact Within.refl _ _

theorem within_noteTrained (s : State) : Within 16 s (noteTrained s) := by
  unfold noteTrained
  refine within_ite ?_ ?_
  · refine within_mk rfl ?_ (hf := form_eq)
    exact Within.refl _ _
  · exact Within.refl _ _

theorem within_train (a0 : Nat) (a1 : Bool) (a2 : List Nat) (a3 : Nat × List Nat) (a4 : Bool) (s : State)
    : Within 1114657 s (train a0 a1 a2 a3 a4 s) := by
  unfold train
  extract_lets x1 x2 x3 x4 x5 x6 x7 x8 x9 x10 x11
  clear_value x1
  clear_value x3
  clear_value x5
  clear_value x6
  clear_value x8
  have hx2 : Within 1114657 s x2 := by
    unfold x2
    refine Within.after (within_linkSend ..) rfl ?_
    refine Within.after (within_rwrap ..) rfl ?_
    exact Within.refl _ _
  have hx4 : Within 1114657 s x4 := by
    unfold x4
    refine Within.after (within_rset ..) rfl ?_
    assumption
  have hx7 : Within 1114657 s x7 := by
    unfold x7
    refine Within.after (within_setXw ..) rfl ?_
    assumption
  have hx9 : Within 1114657 s x9 := by
    unfold x9
    refine Within.after (within_linkSend ..) rfl ?_
    refine within_mk rfl ?_ (hf := form_eq)
    assumption
  have hx10 : Within 1114657 s x10 := by
    unfold x10
    refine Within.after (within_rset ..) rfl ?_
    refine Within.after (within_rset ..) rfl ?_
    refine Within.after (within_rfset ..) rfl ?_
    assumption
  have hx11 : Within 1114657 s x11 := by
    unfold x11
    refine Within.after (within_raiseIf ..) rfl ?_
    refine Within.after (within_raise ..) rfl ?_
    assumption
  clear_value x2
  clear_value x4
  clear_value x7
  clear_value x9
  clear_value x10
  clear_value x11
  refine within_ite ?_ ?_
  · refine Within.after (within_raise ..) rfl ?_
    refine Within.after (within_xwMod ..) rfl ?_
    assumption
  · refine within_ite ?_ ?_
    · refine Within.after (within_raise ..) rfl ?_
      refine Within.after (within_linkIdle ..) rfl ?_
      refine Within.after (within_xwMod ..) rfl ?_
      assumption
    · refine Within.after (within_xwSend ..) rfl ?_
      assumption

theorem within_linkRetrain (a0 : Nat) (a1 : Bool) (a2 : List Nat) (a3 : Nat × List Nat) (s : State)
    : Within 1114673 s (linkRetrain a0 a1 a2 a3 s) := by
  unfold linkRetrain
  refine within_ite ?_ ?_
  · refine Within.after (within_partnerSingle ..) rfl ?_
    refine Within.after (within_noteTrained ..) rfl ?_
    refine Within.after (within_train ..) rfl ?_
    exact Within.refl _ _
  · exact Within.refl _ _

theorem within_linkTraining (a0 : Nat) (a1 : Bool) (a2 : List Nat) (a3 : Nat × List Nat) (s : State)
    : Within 1114673 s (linkTraining a0 a1 a2 a3 s) := by
  unfold linkTraining
  refine within_ite ?_ ?_
  · refine Within.after (within_partnerSingle ..) rfl ?_
    refine Within.after (within_noteTrained ..) rfl ?_
    refine Within.after (within_train ..) rfl ?_
    exact Within.refl _ _
  · exact Within.refl _ _

theorem within_linkWordLockLoss (a0 : Nat) (a1 : Nat) (s : State) : Within 328225 s (linkWordLockLoss a0 a1 s) := by
  unfold linkWordLockLoss
  refine within_ite ?_ ?_
  · extract_lets x1
    have hx1 : Within 328225 s x1 := by
      unfold x1
      refine Within.after (within_raise ..) rfl ?_
      refine Within.after (within_rsat ..) rfl ?_
      exact Within.refl _ _
    clear_value x1
    refine within_ite ?_ ?_
    · assumption
    · refine Within.after (within_partnerSingle ..) rfl ?_
      refine Within.after (within_raise ..) rfl ?_
      refine Within.after (within_linkDown ..) rfl ?_
      assumption
  · exact Within.refl _ _

theorem within_linksBegin (s : State) : Within 66048 s (linksBegin s) := by
  unfold linksBegin
  refine within_foldl ?_ ?_
  · intro y1 y2 y3
    refine within_ite ?_ ?_
    · extract_lets x4
      clear_value x4
      refine Within.after (within_linkSend ..) rfl ?_
      refine Within.after (within_xwMod ..) rfl ?_
      assumption
    · assumption
  · exact Within.refl _ _

theorem within_liveRun (a0 : Nat) (a1 : List LeadIn) (a2 : Nat) (a3 : Nat) (a4 : Nat) (s : State)
    : Within 8192 s (liveRun a0 a1 a2 a3 a4 s) := by
  unfold liveRun
  extract_lets x1 x2
  clear_value x1
  clear_value x2
  refine Within.after (within_modObj ..) rfl ?_
  exact Within.refl _ _

theorem within_lnkResetScope (a0 : Nat) (s : State) : Within 69665 s (lnkResetScope a0 s) := by
  unfold lnkResetScope
  refine within_ite ?_ ?_
  · refine Within.after (within_queuesLost ..) rfl ?_
    refine Within.after (within_resendReport ..) rfl ?_
    refine Within.after (within_setMod ..) rfl ?_
    exact Within.refl _ _
  · refine within_ite ?_ ?_
    · extract_lets x1 x2
      clear_value x1
      have hx2 : Within 69665 s x2 := by
        unfold x2
        split
        · refine within_ite ?_ ?_
          · exact Within.refl _ _
          · refine Within.after (within_failLane ..) rfl ?_
            exact Within.refl _ _
        · exact Within.refl _ _
      clear_value x2
      refine Within.after (within_lnkMod ..) rfl ?_
      assumption
    · refine within_ite ?_ ?_
      · extract_lets x3
        have hx3 : Within 69665 s x3 := by
          unfold x3
          refine Within.after (within_lnkMod ..) rfl ?_
          exact Within.refl _ _
        clear_value x3
        refine within_foldl ?_ ?_
        · intro y4 y5 y6
          refine Within.after (within_queuesLost ..) rfl ?_
          assumption
        · refine within_foldl ?_ ?_
          · intro y7 y8 y9
            refine within_ite ?_ ?_
            · refine Within.after (within_resendReport ..) rfl ?_
              assumption
            · assumption
          · assumption
      · exact Within.refl _ _

theorem within_loadQ (s : State) : Within 8 s (loadQ s) := by
  unfold loadQ
  extract_lets x1
  clear_value x1
  refine Within.after (within_tbsMod ..) rfl ?_
  exact Within.refl _ _

theorem within_logMemFail (a0 : Nat) (a1 : Nat) (s : State) : Within 41 s (logMemFail a0 a1 s) := by
  unfold logMemFail
  extract_lets x1 x2 x3 x4 x5 x6 x7
  clear_value x2
  clear_value x3
  have hx6 : Within 41 s x6 := by
    unfold x6
    refine within_mk rfl ?_ (hf := form_eq)
    exact Within.refl _ _
  clear_value x6
  refine within_ite ?_ ?_
  · exact Within.refl _ _
  · refine Within.after (within_backlogJudged ..) rfl ?_
    refine within_mk rfl ?_ (hf := form_intake (hi := ?_))
    · assumption
    · (dsimp only; intro h; repeat' (first | exact h | exact intake_evtAfter _ _ h | split))

theorem within_lullEnter (s : State) : Within 288 s (lullEnter s) := by
  unfold lullEnter
  extract_lets x1 x2
  clear_value x1
  refine within_ite ?_ ?_
  · refine Within.after (within_mbMod ..) rfl ?_
    refine within_mk rfl ?_ (hf := form_eq)
    exact Within.refl _ _
  · exact Within.refl _ _

theorem within_lullWake (a0 : Bool) (s : State) : Within 257 s (lullWake a0 s) := by
  unfold lullWake
  refine within_ite ?_ ?_
  · refine within_ite ?_ ?_
    · refine Within.after (within_mbShow ..) rfl ?_
      refine Within.after (within_lullEnd ..) rfl ?_
      refine Within.after (within_mbMod ..) rfl ?_
      exact Within.refl _ _
    · refine Within.after (within_lullEnd ..) rfl ?_
      exact Within.refl _ _
  · exact Within.refl _ _

theorem within_makeRoom (a0 : Nat) (a1 : Nat) (a2 : Nat) (a3 : Nat) (s : State)
    : Within 69665 s (makeRoom a0 a1 a2 a3 s) := by
  induction a3 generalizing a0 a1 a2 s
  · unfold makeRoom
    exact Within.refl _ _
  · rename_i n ih
    unfold makeRoom
    refine within_ite ?_ ?_
    · exact Within.refl _ _
    · split
      · rename_i hq1
        refine (fun hw1 => ?_) (withinO_get (k := 69665) (s := s) (p := fun r => r) hq1 ?_)
        · refine Within.after (ih ..) rfl ?_
          assumption
        · split
          · refine withinO_after (within_discardOldest ..) rfl ?_
            exact Within.refl _ _
          · exact withinO_none
      · split
        · rename_i hq2
          refine (fun hw2 => ?_) (withinO_get (k := 69665) (s := s) (p := fun r => r) hq2 ?_)
          · refine Within.after (ih ..) rfl ?_
            assumption
          · split
            · refine withinO_after (within_discardOldest ..) rfl ?_
              exact Within.refl _ _
            · exact withinO_none
        · exact Within.refl _ _

theorem within_markIncomplete (a0 : List Nat) (s : State) : Within 8192 s (markIncomplete a0 s) := by
  unfold markIncomplete
  refine within_foldl ?_ ?_
  · intro y1 y2 y3
    refine Within.after (within_modObj ..) rfl ?_
    assumption
  · exact Within.refl _ _

theorem within_sectorPads (a0 : Nat) (a1 : Nat) (s : State) : Within 128 s (sectorPads a0 a1 s) := by
  unfold sectorPads
  refine Within.after (within_flashPut ..) rfl ?_
  exact Within.refl _ _

theorem within_marksWritten (a0 : Nat) (a1 : List (Nat × List (BitVec 128))) (s : State) : Within 160 s (marksWritten a0 a1 s) := by
  unfold marksWritten
  extract_lets x3 x4 x5 x6 x7 x8
  have hx4 : Within 160 s x4 := by
    unfold x4
    refine within_foldl2 ?_ ?_
    · intro y9 y10 y11
      split
      · assumption
      · dsimp -zeta only
        refine Within.after (within_flashPut ..) rfl ?_
        assumption
    · dsimp -zeta only
      exact Within.refl _ _
  clear_value x4
  clear_value x5
  clear_value x6
  clear_value x7
  clear_value x8
  have hs : Within 160 s (if 256 ≤ x8 then sectorPads x3.mSector x7 x4 else x4) :=
    within_ite (Within.after (within_sectorPads ..) rfl hx4) hx4
  generalize (if 256 ≤ x8 then sectorPads x3.mSector x7 x4 else x4) = u at hs ⊢
  refine Within.after (within_rcdMod ?_) rfl hs
  intro hp
  (repeat' split) <;> exact hp

theorem within_marksDone (a0 : Nat) (a1 : List (Nat × List (BitVec 128))) (s : State)
    : Within 169 s (marksDone a0 a1 s) := by
  unfold marksDone
  refine Within.after (within_backlogJudged ..) rfl ?_
  refine Within.after (within_marksWritten ..) rfl ?_
  exact Within.refl _ _

theorem within_masterLostCmd (s : State) : Within 56 s (masterLostCmd s) := by
  unfold masterLostCmd
  refine within_ite ?_ ?_
  · refine Within.after (within_applyOnFail ..) rfl ?_
    refine Within.after (within_raise0 ..) rfl ?_
    refine Within.after (within_grpMod ..) rfl ?_
    exact Within.refl _ _
  · exact Within.refl _ _

theorem within_mbTimeout (s : State) : Within 289 s (mbTimeout s) := by
  unfold mbTimeout
  refine within_ite ?_ ?_
  · refine Within.after (within_mbShow ..) rfl ?_
    refine Within.after (within_raise0 ..) rfl ?_
    refine Within.after (within_mbCount ..) rfl ?_
    refine Within.after (within_mbMod ..) rfl ?_
    exact Within.refl _ _
  · exact Within.refl _ _

theorem within_pmemEcc (a0 : Nat) (s : State) : Within 131169 s (pmemEcc a0 s) := by
  unfold pmemEcc
  refine Within.after (within_autoReset ..) rfl ?_
  refine Within.after (within_raise ..) rfl ?_
  refine Within.after (within_haltEng ..) rfl ?_
  exact Within.refl _ _

theorem within_reloadTable (a0 : Nat) (a1 : Nat) (s : State) : Within 4096 s (reloadTable a0 a1 s) := by
  unfold reloadTable
  extract_lets x1
  clear_value x1
  refine within_ite ?_ ?_
  · exact Within.refl _ _
  · refine within_foldl ?_ ?_
    · intro y2 y3 y4
      refine within_ite ?_ ?_
      · refine Within.after (within_pmWrite ..) rfl ?_
        assumption
      · assumption
    · refine Within.after (within_pmClear ..) rfl ?_
      exact Within.refl _ _

theorem within_programLost (a0 : Nat) (s : State) : Within 1061409 s (programLost a0 s) := by
  unfold programLost
  split
  · refine Within.after (within_raise0 ..) rfl ?_
    exact Within.refl _ _
  · extract_lets x1
    have hx1 : Within 1061409 s x1 := by
      unfold x1
      refine Within.after (within_vdtMod ..) rfl ?_
      refine Within.after (within_reloadTable ..) rfl ?_
      refine Within.after (within_raise ..) rfl ?_
      exact Within.refl _ _
    clear_value x1
    refine within_ite ?_ ?_
    · refine Within.after (within_gustResult ..) rfl ?_
      refine Within.after (within_rsat ..) rfl ?_
      assumption
    · split
      · assumption
      · refine within_ite ?_ ?_
        · assumption
        · split
          · extract_lets x2
            have hx2 : Within 1061409 s x2 := by
              unfold x2
              refine Within.after (within_raise ..) rfl ?_
              assumption
            clear_value x2
            refine within_ite ?_ ?_
            · refine Within.after (within_verdictEmitted ..) rfl ?_
              assumption
            · refine Within.after (within_verdictEmitted ..) rfl ?_
              assumption
          · refine Within.after (within_verdictEmitted ..) rfl ?_
            assumption

theorem within_remapRebuild (a0 : Nat) (s : State) : Within 2080 s (remapRebuild a0 s) := by
  unfold remapRebuild
  extract_lets x1 x2 x3
  clear_value x1
  clear_value x2
  have hx3 : Within 2080 s x3 := by
    unfold x3
    refine Within.after (within_setSlice ..) rfl ?_
    refine Within.after (within_raiseSlice ..) rfl ?_
    exact Within.refl _ _
  clear_value x3
  refine Within.after (within_raiseSlice ..) rfl ?_
  assumption

theorem within_slotLost (a0 : Nat) (s : State) : Within 8193 s (slotLost a0 s) := by
  unfold slotLost
  split
  · exact Within.refl _ _
  · extract_lets x1
    have hx1 : Within 8193 s x1 := by
      unfold x1
      refine Within.after (within_releaseResv ..) rfl ?_
      refine Within.after (within_cancelGust ..) rfl ?_
      refine Within.after (within_modObj ..) rfl ?_
      exact Within.refl _ _
    clear_value x1
    refine Within.after (within_freeObj ..) rfl ?_
    refine Within.after (within_vdtMod ..) rfl ?_
    assumption

theorem within_tocEcc (a0 : Bool) (s : State) : Within 160 s (tocEcc a0 s) := by
  unfold tocEcc
  refine within_ite ?_ ?_
  · exact Within.refl _ _
  · refine within_ite ?_ ?_
    · refine Within.after (within_mgtMod ?_) rfl ?_
      · (dsimp only; exact id)
      · exact Within.refl _ _
    · refine Within.after (within_raise0 ..) rfl ?_
      exact Within.refl _ _

theorem within_memoryEccError (a0 : Nat) (a1 : Nat) (a2 : Nat) (a3 : Bool) (s : State)
    : Within 1293033 s (memoryEccError a0 a1 a2 a3 s) := by
  unfold memoryEccError
  refine within_ite ?_ ?_
  · exact Within.refl _ _
  · split
    · refine Within.after (within_raise0 ..) rfl ?_
      exact Within.refl _ _
    · refine within_ite ?_ ?_
      · exact Within.refl _ _
      · refine within_ite ?_ ?_
        · refine Within.after (within_autoReset ..) rfl ?_
          refine Within.after (within_remapRebuild ..) rfl ?_
          exact Within.refl _ _
        · refine Within.after (within_raiseSlice ..) rfl ?_
          exact Within.refl _ _
    · extract_lets x1
      clear_value x1
      refine within_ite ?_ ?_
      · refine Within.after (within_segmentLost ..) rfl ?_
        refine Within.after (within_raise ..) rfl ?_
        exact Within.refl _ _
      · refine Within.after (within_raise ..) rfl ?_
        exact Within.refl _ _
    · extract_lets x2 x3
      clear_value x2
      clear_value x3
      refine within_ite ?_ ?_
      · refine Within.after (within_autoReset ..) rfl ?_
        refine Within.after (within_raise ..) rfl ?_
        exact Within.refl _ _
      · refine Within.after (within_raise ..) rfl ?_
        exact Within.refl _ _
    · extract_lets x4 x5
      clear_value x4
      clear_value x5
      refine within_ite ?_ ?_
      · refine Within.after (within_autoReset ..) rfl ?_
        refine Within.after (within_raise ..) rfl ?_
        exact Within.refl _ _
      · refine Within.after (within_raise ..) rfl ?_
        exact Within.refl _ _
    · refine within_ite ?_ ?_
      · refine Within.after (within_autoReset ..) rfl ?_
        refine Within.after (within_raise0 ..) rfl ?_
        exact Within.refl _ _
      · exact Within.refl _ _
    · refine within_ite ?_ ?_
      · refine Within.after (within_labelLost ..) rfl ?_
        exact Within.refl _ _
      · exact Within.refl _ _
    · refine within_ite ?_ ?_
      · refine Within.after (within_autoReset ..) rfl ?_
        refine Within.after (within_slotLost ..) rfl ?_
        refine Within.after (within_raise0 ..) rfl ?_
        exact Within.refl _ _
      · refine Within.after (within_raise0 ..) rfl ?_
        exact Within.refl _ _
    · refine within_ite ?_ ?_
      · refine Within.after (within_programLost ..) rfl ?_
        exact Within.refl _ _
      · exact Within.refl _ _
    · refine within_ite ?_ ?_
      · refine Within.after (within_vdtMod ..) rfl ?_
        refine Within.after (within_reloadTable ..) rfl ?_
        refine Within.after (within_raise ..) rfl ?_
        exact Within.refl _ _
      · exact Within.refl _ _
    · refine within_ite ?_ ?_
      · refine Within.after (within_autoReset ..) rfl ?_
        refine Within.after (within_raise0 ..) rfl ?_
        refine Within.after (within_vdtMod ..) rfl ?_
        exact Within.refl _ _
      · exact Within.refl _ _
    · refine within_ite ?_ ?_
      · refine Within.after (within_auxLineLost ..) rfl ?_
        exact Within.refl _ _
      · refine Within.after (within_raiseAux ..) rfl ?_
        exact Within.refl _ _
    · extract_lets x6
      clear_value x6
      refine within_ite ?_ ?_
      · exact Within.refl _ _
      · refine within_ite ?_ ?_
        · refine Within.after (within_autoReset ..) rfl ?_
          refine Within.after (within_raiseAbout ..) rfl ?_
          exact Within.refl _ _
        · refine Within.after (within_raiseAbout ..) rfl ?_
          exact Within.refl _ _
    · refine Within.after (within_bufEcc ..) rfl ?_
      exact Within.refl _ _
    · refine within_ite ?_ ?_
      · refine Within.after (within_pmemEcc ..) rfl ?_
        exact Within.refl _ _
      · refine Within.after (within_raise ..) rfl ?_
        exact Within.refl _ _
    · extract_lets x7
      clear_value x7
      refine within_ite ?_ ?_
      · refine Within.after (within_autoReset ..) rfl ?_
        refine Within.after (within_raise0 ..) rfl ?_
        exact Within.refl _ _
      · exact Within.refl _ _
    · refine within_ite ?_ ?_
      · refine Within.after (within_tocEcc ..) rfl ?_
        exact Within.refl _ _
      · exact Within.refl _ _
    · refine within_ite ?_ ?_
      · refine Within.after (within_logMemFail ..) rfl ?_
        exact Within.refl _ _
      · refine Within.after (within_rcdMod ?_) rfl ?_
        · (dsimp only; exact id)
        · exact Within.refl _ _
    · exact Within.refl _ _

theorem within_meterSample (a0 : Nat) (a1 : Nat) (s : State) : Within 262145 s (meterSample a0 a1 s) := by
  unfold meterSample
  refine within_ite ?_ ?_
  · exact Within.refl _ _
  · extract_lets x1 x2 x3 x4 x5 x6
    clear_value x1
    clear_value x2
    clear_value x3
    have hx4 : Within 262145 s x4 := by
      unfold x4
      refine Within.after (within_nrgMod ..) rfl ?_
      exact Within.refl _ _
    have hx5 : Within 262145 s x5 := by
      unfold x5
      refine Within.after (within_rset ..) rfl ?_
      refine Within.after (within_rset ..) rfl ?_
      assumption
    have hx6 : Within 262145 s x6 := by
      unfold x6
      refine Within.after (within_rset ..) rfl ?_
      refine Within.after (within_rset ..) rfl ?_
      refine Within.after (within_rset ..) rfl ?_
      assumption
    clear_value x4
    clear_value x5
    clear_value x6
    refine Within.after (within_rmax ..) rfl ?_
    refine Within.after (within_rfset ..) rfl ?_
    refine Within.after (within_rmax ..) rfl ?_
    assumption

theorem within_mirrorGivesUp (s : State) : Within 160 s (mirrorGivesUp s) := by
  unfold mirrorGivesUp
  split
  · extract_lets x1
    clear_value x1
    refine within_ite ?_ ?_
    · refine Within.after (within_rcdMod ?_) rfl ?_
      · exact id
      · refine Within.after (within_sectorPads ..) rfl ?_
        exact Within.refl _ _
    · refine Within.after (within_rcdMod ?_) rfl ?_
      · (dsimp only; exact id)
      · exact Within.refl _ _
  · refine Within.after (within_rcdMod ?_) rfl ?_
    · (dsimp only; exact id)
    · exact Within.refl _ _

theorem within_mirrorScope (s : State) : Within 32 s (mirrorScope s) := by
  unfold mirrorScope
  refine Within.after (within_rcdMod ?_) rfl ?_
  · (dsimp only; exact id)
  · exact Within.refl _ _

theorem within_mgtResetScope (a0 : Nat) (s : State) : Within 1311137 s (mgtResetScope a0 s) := by
  unfold mgtResetScope
  refine within_ite ?_ ?_
  · split
    · refine Within.after (within_rfset ..) rfl ?_
      refine Within.after (within_mgtMod ?_) rfl ?_
      · (dsimp only; exact id)
      · exact Within.refl _ _
    · exact Within.refl _ _
  · refine within_ite ?_ ?_
    · extract_lets x1
      have hx1 : Within 1311137 s x1 := by
        unfold x1
        split
        · extract_lets x2
          have hx2 : Within 1311137 s x2 := by
            unfold x2
            refine within_ite ?_ ?_
            · refine Within.after (within_nvCutShort ..) rfl ?_
              exact Within.refl _ _
            · exact Within.refl _ _
          clear_value x2
          refine Within.after (within_nvResult ..) rfl ?_
          refine Within.after (within_grantDrop ..) rfl ?_
          refine Within.after (within_mgtMod ?_) rfl ?_
          · (dsimp only; exact id)
          · assumption
        · exact Within.refl _ _
      clear_value x1
      refine Within.after (within_nvSettle ..) rfl ?_
      split
      · refine within_ite ?_ ?_
        · refine Within.after (within_devOpDone ..) rfl ?_
          refine within_ite ?_ ?_
          · refine Within.after (within_nvCutShort ..) rfl ?_
            assumption
          · assumption
        · assumption
      · assumption
    · refine within_ite ?_ ?_
      · refine Within.after (within_attAbort ..) rfl ?_
        exact Within.refl _ _
      · refine within_ite ?_ ?_
        · refine within_mk rfl ?_ (hf := form_eq)
          exact Within.refl _ _
        · refine within_ite ?_ ?_
          · extract_lets x3 x4
            refine within_mk rfl ?_ (hf := form_intake (hi := ?_))
            · exact Within.refl _ _
            · exact fun _ => Nat.zero_le _
          · refine within_ite ?_ ?_
            · refine within_ite ?_ ?_
              · refine Within.after (within_mirrorScope ..) rfl ?_
                exact Within.refl _ _
              · refine Within.after (within_nvSettle ..) rfl ?_
                refine Within.after (within_grantDrop ..) rfl ?_
                refine Within.after (within_mirrorGivesUp ..) rfl ?_
                refine Within.after (within_mirrorScope ..) rfl ?_
                exact Within.refl _ _
            · exact Within.refl _ _

theorem within_mirrorGoesOn (a0 : Option (Nat × Nat × Nat)) (s : State) : Within 160 s (mirrorGoesOn a0 s) := by
  unfold mirrorGoesOn
  split
  · exact Within.refl _ _
  · extract_lets x1 x2
    clear_value x1
    clear_value x2
    refine within_ite ?_ ?_
    · refine Within.after (within_rcdMod ?_) rfl ?_
      · exact id
      · refine Within.after (within_sectorPads ..) rfl ?_
        exact Within.refl _ _
    · refine Within.after (within_rcdMod ?_) rfl ?_
      · (dsimp only; exact id)
      · exact Within.refl _ _

theorem within_mirrorPageProgram (s : State) : Within 160 s (mirrorPageProgram s) := by
  unfold mirrorPageProgram
  extract_lets x1 x2 x3 x4 x5
  clear_value x2
  clear_value x3
  clear_value x4
  clear_value x5
  refine within_ite ?_ ?_
  · exact Within.refl _ _
  · split
    · refine Within.after (within_nvSettle ..) rfl ?_
      refine Within.after (within_rcdMod ?_) rfl ?_
      · (dsimp only; exact id)
      · exact Within.refl _ _
    · refine within_ite ?_ ?_
      · exact Within.refl _ _
      · refine within_ite ?_ ?_
        · refine Within.after (within_rcdMod ?_) rfl ?_
          · exact id
          · refine Within.after (within_sectorPads ..) rfl ?_
            exact Within.refl _ _
        · refine Within.after (within_nvSettle ..) rfl ?_
          refine Within.after (within_rcdMod ?_) rfl ?_
          · (dsimp only; exact id)
          · exact Within.refl _ _

theorem within_mirrorResume (s : State) : Within 32 s (mirrorResume s) := by
  unfold mirrorResume
  refine Within.after (within_rcdMod ?_) rfl ?_
  · (dsimp only; exact id)
  · exact Within.refl _ _

theorem within_mirrorSectorErase (s : State) : Within 160 s (mirrorSectorErase s) := by
  unfold mirrorSectorErase
  extract_lets x1
  refine within_ite ?_ ?_
  · exact Within.refl _ _
  · refine Within.after (within_nvSettle ..) rfl ?_
    refine Within.after (within_rcdMod ?_) rfl ?_
    · (dsimp only; exact id)
    · exact Within.refl _ _

theorem within_mirroringResumes (s : State) : Within 32 s (mirroringResumes s) := by
  unfold mirroringResumes
  refine within_ite ?_ ?_
  · refine within_mk rfl ?_ (hf := form_eq)
    exact Within.refl _ _
  · exact Within.refl _ _

theorem within_writeLabels (a0 : Nat) (a1 : List PrevRun) (s : State) : Within 4096 s (writeLabels a0 a1 s) := by
  unfold writeLabels
  extract_lets x1 x2
  clear_value x1
  clear_value x2
  refine within_ite ?_ ?_
  · refine Within.after (within_pipMod ?_) rfl ?_
    · (dsimp only; exact id)
    · exact Within.refl _ _
  · refine Within.after (within_storeLabels ..) rfl ?_
    exact Within.refl _ _

theorem within_missingLine (a0 : Nat) (s : State) : Within 12321 s (missingLine a0 s) := by
  unfold missingLine
  extract_lets x1 x2 x3
  clear_value x1
  clear_value x3
  have hx2 : Within 12321 s x2 := by
    unfold x2
    refine Within.after (within_writeLabels ..) rfl ?_
    refine Within.after (within_vdtMod ..) rfl ?_
    exact Within.refl _ _
  clear_value x2
  refine within_ite ?_ ?_
  · refine Within.after (within_vdtMod ..) rfl ?_
    refine within_foldl ?_ ?_
    · intro y4 y5 y6
      refine Within.after (within_closeLive ..) rfl ?_
      refine Within.after (within_modObj ..) rfl ?_
      assumption
    · assumption
  · refine within_foldl ?_ ?_
    · intro y7 y8 y9
      split
      · refine within_ite ?_ ?_
        · refine Within.after (within_splitHead ..) rfl ?_
          assumption
        · assumption
      · assumption
    · assumption

theorem within_nReset (a0 : Bool) (s : State) : Within 2097151 s (nReset a0 s) := by
  unfold nReset
  extract_lets x1
  clear_value x1
  refine within_ite ?_ ?_
  · refine within_ite ?_ ?_
    · refine Within.after (within_heldInReset ..) rfl ?_
      refine Within.after (within_mgtMod ?_) rfl ?_
      · (dsimp only; exact id)
      · refine Within.after (within_eraseCut ..) rfl ?_
        refine Within.after (within_programCut ..) rfl ?_
        exact Within.refl _ _
    · refine Within.after (within_mgtMod ?_) rfl ?_
      · (dsimp only; exact id)
      · exact Within.refl _ _
  · refine within_ite ?_ ?_
    · refine Within.after (within_startIfFree ..) rfl ?_
      refine Within.after (within_mgtMod ?_) rfl ?_
      · (dsimp only; exact id)
      · exact Within.refl _ _
    · exact Within.refl _ _

theorem within_noMasterCmd (s : State) : Within 48 s (noMasterCmd s) := by
  unfold noMasterCmd
  refine within_ite ?_ ?_
  · refine Within.after (within_raise0 ..) rfl ?_
    refine Within.after (within_grpMod ..) rfl ?_
    exact Within.refl _ _
  · exact Within.refl _ _

theorem within_noteEdge (a0 : Nat) (a1 : Bool) (s : State) : Within 131072 s (noteEdge a0 a1 s) := by
  unfold noteEdge
  refine within_foldl ?_ ?_
  · intro y1 y2 y3
    extract_lets x4
    clear_value x4
    refine within_ite ?_ ?_
    · refine Within.after (within_engMod ..) rfl ?_
      assumption
    · assumption
  · exact Within.refl _ _

theorem within_nrgResetScope (a0 : Nat) (s : State) : Within 262144 s (nrgResetScope a0 s) := by
  unfold nrgResetScope
  refine within_ite ?_ ?_
  · refine Within.after (within_nrgMod ..) rfl ?_
    exact Within.refl _ _
  · refine within_ite ?_ ?_
    · refine Within.after (within_nrgMod ..) rfl ?_
      exact Within.refl _ _
    · refine within_ite ?_ ?_
      · refine Within.after (within_nrgMod ..) rfl ?_
        exact Within.refl _ _
      · exact Within.refl _ _

theorem within_nrgResume (a0 : Nat) (s : State) : Within 262144 s (nrgResume a0 s) := by
  unfold nrgResume
  refine within_ite ?_ ?_
  · refine Within.after (within_nrgMod ..) rfl ?_
    exact Within.refl _ _
  · exact Within.refl _ _

theorem within_nvOperationDone (a0 : Bool) (s : State) : Within 1310881 s (nvOperationDone a0 s) := by
  unfold nvOperationDone
  split
  · exact Within.refl _ _
  · refine within_ite ?_ ?_
    · exact Within.refl _ _
    · extract_lets x1 x2 x3
      have hx1 : Within 1310881 s x1 := by
        unfold x1
        refine Within.after (within_nvSettle ..) rfl ?_
        refine Within.after (within_mgtMod ?_) rfl ?_
        · (dsimp only; exact id)
        · exact Within.refl _ _
      have hx2 : Within 1310881 s x2 := by
        unfold x2
        refine within_ite ?_ ?_
        · assumption
        · refine Within.after (within_grantEnd ..) rfl ?_
          assumption
      have hx3 : Within 1310881 s x3 := by
        unfold x3
        split
        · refine within_foldl ?_ ?_
          · intro y4 y5 y6
            refine Within.after (within_rset ..) rfl ?_
            assumption
          · assumption
        · refine Within.after (within_flashPut ..) rfl ?_
          assumption
        · refine Within.after (within_flashErase ..) rfl ?_
          assumption
      clear_value x1
      clear_value x2
      clear_value x3
      refine within_ite ?_ ?_
      · refine Within.after (within_flashOverload ..) rfl ?_
        refine Within.after (within_nvResult ..) rfl ?_
        refine Within.after (within_nvCutShort ..) rfl ?_
        assumption
      · refine Within.after (within_rwrap ..) rfl ?_
        refine Within.after (within_nvResult ..) rfl ?_
        assumption

theorem within_openObj (a0 : Nat) (a1 : Option Nat) (s : State) : Within 8193 s (openObj a0 a1 s).2 := by
  unfold openObj
  split
  · refine within_pair ?_
    exact Within.refl _ _
  · extract_lets x1 x2 x3 x4
    clear_value x1
    clear_value x2
    clear_value x3
    have hx4 : Within 8193 s x4 := by
      unfold x4
      refine Within.after (within_vdtMod ..) rfl ?_
      exact Within.refl _ _
    clear_value x4
    refine within_pair ?_
    refine Within.after (within_rmax ..) rfl ?_
    assumption

theorem within_overflowRun (a0 : Nat) (a1 : Nat) (s : State) : Within 33 s (overflowRun a0 a1 s) := by
  unfold overflowRun
  refine Within.after (within_raise ..) rfl ?_
  refine Within.after (within_rsat ..) rfl ?_
  exact Within.refl _ _

theorem within_takeRun (a0 : Nat) (a1 : Bool) (a2 : Bool) (a3 : List LeadIn) (s : LineWork) (a5 : Nat × Nat × Bool)
    : Within 8225 s.s (takeRun a0 a1 a2 a3 s a5).s := by
  unfold takeRun
  extract_lets x1 x2 x3 x4 x5 x6 x7 x8 x9
  clear_value x1
  clear_value x2
  clear_value x3
  clear_value x8
  have hx6 : Within 8225 s.s x6.work.s := by
    unfold x6
    unfold connectRun
    refine within_foldlP (p := fun r : RunConn => r.work.s) ?_ ?_
    · intro y10 y11 y12
      split
      · dsimp -zeta only
        assumption
      · extract_lets x13 x14 x15
        clear_value x14
        have hx13 : Within 8225 s.s x13.s := by
          unfold x13
          assumption
        clear_value x13
        split
        · assumption
        · split
          · dsimp -zeta only [x15]
            assumption
          · split
            · dsimp -zeta only [x15]
              assumption
            · split
              · rename_i hq16
                refine (fun hw16 => ?_) (within_of_eq (k := 8225) (s := s.s) (p := fun r => r.2) hq16 ?_)
                · dsimp -zeta only [x15]
                  assumption
                · split
                  · refine within_pair ?_
                    assumption
                  · refine Within.after (within_openObj ..) rfl ?_
                    assumption
              · rename_i hq17
                refine (fun hw17 => ?_) (within_of_eq (k := 8225) (s := s.s) (p := fun r => r.2) hq17 ?_)
                · dsimp -zeta only
                  assumption
                · split
                  · refine within_pair ?_
                    assumption
                  · refine Within.after (within_openObj ..) rfl ?_
                    assumption
    · dsimp -zeta only
      exact Within.refl _ _
  have hx7 : Within 8225 s.s x7.s := by
    unfold x7
    assumption
  have hx9 : Within 8225 s.s x9 := by
    unfold x9
    refine Within.after (within_markIncomplete ..) rfl ?_
    assumption
  clear_value x6
  clear_value x7
  clear_value x9
  split
  · dsimp -zeta only [x4]
    refine Within.after (within_markIncomplete ..) rfl ?_
    exact Within.refl _ _
  · split
    · extract_lets x18 x19 x20
      clear_value x18
      clear_value x20
      have hx19 : Within 8225 s.s x19 := by
        unfold x19
        refine within_foldl ?_ ?_
        · intro y21 y22 y23
          refine within_ite ?_ ?_
          · assumption
          · refine Within.after (within_absorb ..) rfl ?_
            assumption
        · assumption
      clear_value x19
      dsimp -zeta only [x5]
      extract_lets x24
      clear_value x24
      dsimp -zeta only
      refine Within.after (within_liveRun ..) rfl ?_
      refine Within.after (within_modObj ..) rfl ?_
      refine Within.after (within_modObj ..) rfl ?_
      assumption
    · split
      · dsimp -zeta only [x4]
        assumption
      · split
        · rename_i hq25
          refine (fun hw25 => ?_) (within_of_eq (k := 8225) (s := s.s) (p := fun r => r.2) hq25 ?_)
          · dsimp -zeta only [x5]
            extract_lets x26
            clear_value x26
            dsimp -zeta only
            refine Within.after (within_liveRun ..) rfl ?_
            refine Within.after (within_modObj ..) rfl ?_
            assumption
          · split
            · refine Within.after (within_openObj ..) rfl ?_
              assumption
            · refine within_pair ?_
              assumption
        · rename_i hq27
          refine (fun hw27 => ?_) (within_of_eq (k := 8225) (s := s.s) (p := fun r => r.2) hq27 ?_)
          · dsimp -zeta only [x4]
            refine Within.after (within_overflowRun ..) rfl ?_
            assumption
          · split
            · refine Within.after (within_openObj ..) rfl ?_
              assumption
            · refine within_pair ?_
              assumption

theorem within_tableLine (a0 : Nat) (a1 : List LeadIn) (s : State) : Within 12321 s (tableLine a0 a1 s) := by
  unfold tableLine
  extract_lets x1 x2 x3 x4 x5 x6 x7 x8 x9
  clear_value x1
  clear_value x4
  clear_value x6
  clear_value x8
  have hx2 : Within 12321 s x2 := by
    unfold x2
    refine within_foldl ?_ ?_
    · intro y10 y11 y12
      refine within_ite ?_ ?_
      · assumption
      · refine Within.after (within_raise ..) rfl ?_
        assumption
    · exact Within.refl _ _
  have hx3 : Within 12321 s x3 := by
    unfold x3
    refine within_foldl ?_ ?_
    · intro y13 y14 y15
      split
      · refine within_ite ?_ ?_
        · refine Within.after (within_modObj ..) rfl ?_
          assumption
        · assumption
      · assumption
    · assumption
  have hx5 : Within 12321 s x5 := by
    unfold x5
    refine within_foldl ?_ ?_
    · intro y16 y17 y18
      extract_lets x19 x20
      clear_value x19
      have hx20 : Within 12321 s x20 := by
        unfold x20
        refine Within.after (within_rmax ..) rfl ?_
        assumption
      clear_value x20
      refine within_ite ?_ ?_
      · assumption
      · refine Within.after (within_raise ..) rfl ?_
        refine Within.after (within_rsat ..) rfl ?_
        assumption
    · assumption
  have hx7 : Within 12321 s x7.s := by
    unfold x7
    refine within_foldlP (p := fun r : LineWork => r.s) ?_ ?_
    · intro y21 y22 y23
      refine Within.after (within_takeRun ..) rfl ?_
      assumption
    · dsimp -zeta only
      assumption
  have hx9 : Within 12321 s x9 := by
    unfold x9
    refine Within.after (within_vdtMod ..) rfl ?_
    assumption
  clear_value x2
  clear_value x3
  clear_value x5
  clear_value x7
  clear_value x9
  refine Within.after (within_writeLabels ..) rfl ?_
  refine Within.after (within_finishLine ..) rfl ?_
  assumption

theorem within_objectTableLine (s : State) : Within 12841 s (objectTableLine s) := by
  unfold objectTableLine
  refine within_ite ?_ ?_
  · exact Within.refl _ _
  · split
    · exact Within.refl _ _
    · extract_lets x1 x2
      have hx1 : Within 12841 s x1 := by
        unfold x1
        refine Within.after (within_vdtMod ..) rfl ?_
        exact Within.refl _ _
      have hx2 : Within 12841 s x2 := by
        unfold x2
        refine within_ite ?_ ?_
        · refine Within.after (within_missingLine ..) rfl ?_
          assumption
        · refine Within.after (within_tableLine ..) rfl ?_
          assumption
      clear_value x1
      clear_value x2
      refine Within.after (within_closeDue ..) rfl ?_
      refine Within.after (within_cpPollAll ..) rfl ?_
      refine within_foldl ?_ ?_
      · intro y3 y4 y5
        refine Within.after (within_secPump ..) rfl ?_
        assumption
      · assumption

theorem within_orderlyStopConfirm (s : State) : Within 524320 s (orderlyStopConfirm s) := by
  unfold orderlyStopConfirm
  split
  · refine within_ite ?_ ?_
    · refine Within.after (within_thmMod ..) rfl ?_
      exact Within.refl _ _
    · extract_lets x1 x2
      clear_value x1
      clear_value x2
      refine within_ite ?_ ?_
      · refine Within.after (within_raise0 ..) rfl ?_
        refine Within.after (within_thmMod ..) rfl ?_
        exact Within.refl _ _
      · refine Within.after (within_raise0 ..) rfl ?_
        refine Within.after (within_thmMod ..) rfl ?_
        exact Within.refl _ _
  · exact Within.refl _ _

theorem within_privQueued (s : State) : Within 32 s (privQueued s) := by
  unfold privQueued
  refine Within.after (within_rcdMod ?_) rfl ?_
  · (dsimp only; exact id)
  · exact Within.refl _ _

theorem within_strobesForced (s : State) : Within 131104 s (strobesForced s) := by
  unfold strobesForced
  refine Within.after (within_raise0 ..) rfl ?_
  refine Within.after (within_penMod ?_) rfl ?_
  · (dsimp only; exact id)
  · refine Within.after (within_strobesOff ..) rfl ?_
    exact Within.refl _ _

theorem within_partnerAlone (a0 : Nat) (s : State) : Within 8225 s (partnerAlone a0 s) := by
  unfold partnerAlone
  split
  · refine Within.after (within_confirm ..) rfl ?_
    refine Within.after (within_modObj ..) rfl ?_
    exact Within.refl _ _
  · exact Within.refl _ _

theorem within_truncate (a0 : Bool) (a1 : Nat) (s : State) : Within 8737 s (truncate a0 a1 s) := by
  unfold truncate
  split
  · exact Within.refl _ _
  · extract_lets x1 x2
    have hx1 : Within 8737 s x1 := by
      unfold x1
      refine Within.after (within_modObj ..) rfl ?_
      exact Within.refl _ _
    have hx2 : Within 8737 s x2 := by
      unfold x2
      refine Within.after (within_releaseResv ..) rfl ?_
      refine Within.after (within_cancelGust ..) rfl ?_
      assumption
    clear_value x1
    clear_value x2
    refine within_ite ?_ ?_
    · refine Within.after (within_verdictEmitted ..) rfl ?_
      refine Within.after (within_vdtMod ..) rfl ?_
      assumption
    · split
      · refine Within.after (within_confirm ..) rfl ?_
        refine within_foldl ?_ ?_
        · intro y3 y4 y5
          refine Within.after (within_xwSend ..) rfl ?_
          assumption
        · assumption
      · assumption

theorem within_vdtResetScope (a0 : Nat) (s : State) : Within 8737 s (vdtResetScope a0 s) := by
  unfold vdtResetScope
  extract_lets x1 x2 x3 x4 x5 x6
  clear_value x1
  clear_value x2
  clear_value x5
  have hx3 : Within 8737 s x3 := by
    unfold x3
    refine within_foldl ?_ ?_
    · intro y7 y8 y9
      refine Within.after (within_truncate ..) rfl ?_
      assumption
    · exact Within.refl _ _
  have hx4 : Within 8737 s x4 := by
    unfold x4
    refine within_foldl ?_ ?_
    · intro y10 y11 y12
      refine Within.after (within_partnerAlone ..) rfl ?_
      assumption
    · assumption
  have hx6 : Within 8737 s x6 := by
    unfold x6
    refine Within.after (within_vdtMod ..) rfl ?_
    exact Within.refl _ _
  clear_value x3
  clear_value x4
  clear_value x6
  refine within_ite ?_ ?_
  · refine within_ite ?_ ?_
    · refine within_foldl ?_ ?_
      · intro y13 y14 y15
        refine Within.after (within_truncate ..) rfl ?_
        assumption
      · exact Within.refl _ _
    · refine within_ite ?_ ?_
      · refine within_foldl ?_ ?_
        · intro y16 y17 y18
          refine Within.after (within_modObj ..) rfl ?_
          refine Within.after (within_skipCps ..) rfl ?_
          assumption
        · exact Within.refl _ _
      · exact Within.refl _ _
  · refine within_ite ?_ ?_
    · refine Within.after (within_vdtMod ..) rfl ?_
      assumption
    · refine within_ite ?_ ?_
      · refine within_ite ?_ ?_
        · assumption
        · refine Within.after (within_rsat ..) rfl ?_
          assumption
      · refine within_ite ?_ ?_
        · refine Within.after (within_vdtMod ..) rfl ?_
          refine within_foldl ?_ ?_
          · intro y19 y20 y21
            refine Within.after (within_queueConfirmed ..) rfl ?_
            refine Within.after (within_modObj ..) rfl ?_
            assumption
          · exact Within.refl _ _
        · refine within_ite ?_ ?_
          · refine Within.after (within_vdtMod ..) rfl ?_
            refine within_foldl ?_ ?_
            · intro y22 y23 y24
              refine Within.after (within_partnerAlone ..) rfl ?_
              assumption
            · exact Within.refl _ _
          · refine within_ite ?_ ?_
            · refine Within.after (within_vdtMod ..) rfl ?_
              exact Within.refl _ _
            · exact Within.refl _ _

theorem within_orderlyStopCut (s : State) : Within 999073 s (orderlyStopCut s) := by
  unfold orderlyStopCut
  refine within_ite ?_ ?_
  · exact Within.refl _ _
  · extract_lets x1
    have hx1 : Within 999073 s x1 := by
      unfold x1
      refine Within.after (within_strobesForced ..) rfl ?_
      refine Within.after (within_vdtMod ..) rfl ?_
      refine Within.after (within_vdtResetScope ..) rfl ?_
      exact Within.refl _ _
    clear_value x1
    refine Within.after (within_privQueued ..) rfl ?_
    refine Within.after (within_calmSets ..) rfl ?_
    refine Within.after (within_thmMod ..) rfl ?_
    refine Within.after (within_mgtMod ?_) rfl ?_
    · (dsimp only; exact id)
    · refine Within.after (within_arrayStopped ..) rfl ?_
      assumption

theorem within_outputsReleased (s : State) : Within 131104 s (outputsReleased s) := by
  unfold outputsReleased
  refine Within.after (within_raise0 ..) rfl ?_
  refine Within.after (within_penMod ?_) rfl ?_
  · (dsimp only; exact id)
  · exact Within.refl _ _

theorem within_pageFailed (a0 : Nat) (a1 : List (Nat × List (BitVec 128))) (s : State)
    : Within 160 s (pageFailed a0 a1 s) := by
  unfold pageFailed
  extract_lets x1 x2 x3 x4
  clear_value x2
  clear_value x3
  have hx4 : Within 160 s x4 := by
    unfold x4
    refine Within.after (within_rcdMod ?_) rfl ?_
    · exact id
    · refine Within.after (within_sectorPads ..) rfl ?_
      exact Within.refl _ _
  clear_value x4
  refine Within.after (within_noteRise ..) rfl ?_
  refine Within.after (within_flashOverload ..) rfl ?_
  refine Within.after (within_raise ..) rfl ?_
  assumption

theorem within_pageProgramDone (a0 : Nat) (a1 : Bool) (s : State) : Within 262313 s (pageProgramDone a0 a1 s) := by
  unfold pageProgramDone
  extract_lets x1 x2
  have hx2 : Within 262313 s x2 := by
    unfold x2
    refine Within.after (within_grantEnd ..) rfl ?_
    exact Within.refl _ _
  clear_value x2
  refine within_ite ?_ ?_
  · exact Within.refl _ _
  · refine Within.after (within_nvSettle ..) rfl ?_
    split
    · split
      · refine within_ite ?_ ?_
        · refine Within.after (within_pageFailed ..) rfl ?_
          assumption
        · refine within_ite ?_ ?_
          · refine Within.after (within_marksDone ..) rfl ?_
            assumption
          · refine Within.after (within_bodiesDone ..) rfl ?_
            assumption
      · exact Within.refl _ _
    · split
      · refine Within.after (within_eraseDone ..) rfl ?_
        exact Within.refl _ _
      · exact Within.refl _ _
    · refine Within.after (within_devOpDone ..) rfl ?_
      exact Within.refl _ _

theorem within_pairReceived (s : State) : Within 344609 s (pairReceived s) := by
  unfold pairReceived
  split
  · exact Within.refl _ _
  · extract_lets x7 x8 x9 x10
    have hx7 : Within 344609 s x7 := by
      unfold x7
      refine within_mk rfl ?_ (hf := form_eq)
      exact Within.refl _ _
    have hx10 : Within 344609 s x10 := Within.after (within_rwrap ..) rfl hx7
    clear_value x10
    clear_value x7
    clear_value x9
    split
    · refine within_ite ?_ ?_
      · assumption
      · refine within_ite ?_ ?_
        · refine Within.after (within_partnerSingle ..) rfl ?_
          refine Within.after (within_linkDown ..) rfl ?_
          refine Within.after (within_raise ..) rfl ?_
          assumption
        · extract_lets x18 x19 x20 x21 x22 x23 x24
          have hx21 : Within 344609 s x21 := by
            unfold x21
            refine Within.after (within_setXw ..) rfl ?_
            assumption
          have hx22 : Within 344609 s x22 := by
            unfold x22
            refine Within.after (within_rfset ..) rfl ?_
            refine Within.after (within_rfset ..) rfl ?_
            exact hx21
          have hx23 : Within 344609 s x23 := by
            unfold x23
            clear_value x19
            split
            · refine Within.after (within_rfset ..) rfl ?_
              exact hx22
            · exact hx22
          have hx24 : Within 344609 s x24 := by
            unfold x24
            refine Within.after (within_raiseIf ..) rfl ?_
            exact hx23
          clear_value x18
          clear_value x19
          clear_value x20
          clear_value x21
          clear_value x22
          clear_value x23
          clear_value x24
          split
          · refine Within.after (within_raise ..) rfl ?_
            assumption
          · assumption
    · assumption

theorem within_pairResend (a0 : Nat) (s : State) : Within 512 s (pairResend a0 s) := by
  unfold pairResend
  refine within_ite ?_ ?_
  · refine Within.after (within_xwSend ..) rfl ?_
    exact Within.refl _ _
  · exact Within.refl _ _

theorem within_partnerAdopt (s : State) : Within 8233 s (partnerAdopt s) := by
  unfold partnerAdopt
  split
  · exact Within.refl _ _
  · extract_lets x1 x2 x3 x4 x5 x6 x7 x8 x9 x10
    clear_value x2
    clear_value x3
    clear_value x4
    clear_value x5
    clear_value x6
    clear_value x7
    clear_value x8
    have hx1 : Within 8233 s x1 := by
      unfold x1
      refine Within.after (within_vdtMod ..) rfl ?_
      exact Within.refl _ _
    have hx9 : Within 8233 s x9 := by
      unfold x9
      refine Within.after (within_vdtMod ..) rfl ?_
      assumption
    have hx10 : Within 8233 s x10 := by
      unfold x10
      refine Within.after (within_raise ..) rfl ?_
      refine Within.after (within_rsat ..) rfl ?_
      assumption
    clear_value x1
    clear_value x9
    clear_value x10
    refine within_ite ?_ ?_
    · assumption
    · refine Within.after (within_confirm ..) rfl ?_
      refine Within.after (within_computeWindows ..) rfl ?_
      refine Within.after (within_setObj ..) rfl ?_
      assumption

theorem within_partnerExpire (s : State) : Within 8233 s (partnerExpire s) := by
  unfold partnerExpire
  split
  · refine Within.after (within_partnerLate ..) rfl ?_
    exact Within.refl _ _
  · exact Within.refl _ _

theorem within_partnerGust (a0 : Nat) (a1 : Nat) (a2 : List (BitVec 128)) (s : State)
    : Within 8193 s (partnerGust a0 a1 a2 s) := by
  unfold partnerGust
  refine within_ite ?_ ?_
  · exact Within.refl _ _
  · extract_lets x1 x2 x3
    clear_value x1
    clear_value x2
    clear_value x3
    refine Within.after (within_placeArms ..) rfl ?_
    exact Within.refl _ _

theorem within_partnerGustReceived (s : State) : Within 24577 s (partnerGustReceived s) := by
  unfold partnerGustReceived
  split
  · exact Within.refl _ _
  · rename_i hq1
    refine (fun hw1 => ?_) (withinO_get (k := 24577) (s := s) (p := fun r => r.2) hq1 ?_)
    · refine within_ite ?_ ?_
      · refine Within.after (within_partnerGust ..) rfl ?_
        assumption
      · assumption
    · refine withinO_after (within_takeIn ..) rfl ?_
      exact Within.refl _ _
  · rename_i hq2
    refine (fun hw2 => ?_) (withinO_get (k := 24577) (s := s) (p := fun r => r.2) hq2 ?_)
    · assumption
    · refine withinO_after (within_takeIn ..) rfl ?_
      exact Within.refl _ _

theorem within_partnerReceived (s : State) : Within 24609 s (partnerReceived s) := by
  unfold partnerReceived
  split
  · exact Within.refl _ _
  · rename_i hq1
    refine (fun hw1 => ?_) (withinO_get (k := 24609) (s := s) (p := fun r => r.2) hq1 ?_)
    · refine within_ite ?_ ?_
      · assumption
      · extract_lets x2 x3
        clear_value x2
        have hx3 : Within 24609 s x3 := by
          unfold x3
          refine Within.after (within_vdtMod ..) rfl ?_
          assumption
        clear_value x3
        split
        · refine Within.after (within_partnerMatch ..) rfl ?_
          assumption
        · assumption
    · refine withinO_after (within_takeIn ..) rfl ?_
      exact Within.refl _ _

end Sys2Proof.Laws
end

