-- ==== Sys2Proof/Laws/FrameOps6.lean ====
section
/-! SUPPORT. For each operation, the parts of the state that it may change and that it keeps the form (part 6 of 6, in the order
in which operations build on each other). -/

namespace Sys2Proof.Laws

set_option Elab.async false

open Sys2Proof.Machine

theorem within_penResetScope (a0 : Nat) (s : State) : Within 131113 s (penResetScope a0 s) := by
  unfold penResetScope
  refine within_ite ?_ ?_
  · refine Within.after (within_engResetScope ..) rfl ?_
    exact Within.refl _ _
  · refine within_ite ?_ ?_
    · refine Within.after (within_encoderState ..) rfl ?_
      refine Within.after (within_penMod ?_) rfl ?_
      · (dsimp only; exact id)
      · exact Within.refl _ _
    · refine within_ite ?_ ?_
      · refine Within.after (within_keepLevels ..) rfl ?_
        exact Within.refl _ _
      · refine within_ite ?_ ?_
        · refine Within.after (within_penMod ?_) rfl ?_
          · (dsimp only; exact id)
          · exact Within.refl _ _
        · refine within_ite ?_ ?_
          · refine Within.after (within_penMod ?_) rfl ?_
            · (dsimp only; exact id)
            · refine Within.after (within_haltAll ..) rfl ?_
              exact Within.refl _ _
          · exact Within.refl _ _

theorem within_startAuto (s : State) : Within 131105 s (startAuto s).2 := by
  unfold startAuto
  extract_lets x1
  clear_value x1
  split
  · refine within_pair ?_
    exact Within.refl _ _
  · refine Within.after (within_startAll ..) rfl ?_
    exact Within.refl _ _

theorem within_penResume (a0 : Nat) (s : State) : Within 131113 s (penResume a0 s) := by
  unfold penResume
  refine within_ite ?_ ?_
  · refine within_ite ?_ ?_
    · refine Within.after (within_startAll ..) rfl ?_
      exact Within.refl _ _
    · exact Within.refl _ _
  · refine within_ite ?_ ?_
    · refine Within.after (within_refreshMotions ..) rfl ?_
      refine Within.after (within_raise0 ..) rfl ?_
      exact Within.refl _ _
    · refine within_ite ?_ ?_
      · refine Within.after (within_startAuto ..) rfl ?_
        exact Within.refl _ _
      · exact Within.refl _ _

theorem within_pfHold (s : State) : Within 1048575 s (pfHold s) := by
  unfold pfHold
  refine Within.after (within_heldInReset ..) rfl ?_
  refine Within.after (within_nrgMod ..) rfl ?_
  exact Within.refl _ _

theorem within_pfRestart (s : State) : Within 1048575 s (pfRestart s) := by
  unfold pfRestart
  refine within_ite ?_ ?_
  · exact Within.refl _ _
  · refine Within.after (within_startIfFree ..) rfl ?_
    refine Within.after (within_mgtMod ?_) rfl ?_
    · (dsimp only; exact id)
    · refine Within.after (within_nrgMod ..) rfl ?_
      exact Within.refl _ _

theorem within_programDone (s : State) : Within 169 s (programDone s) := by
  unfold programDone
  refine within_ite ?_ ?_
  · exact Within.refl _ _
  · split
    · refine within_ite ?_ ?_
      · refine Within.after (within_marksDone ..) rfl ?_
        exact Within.refl _ _
      · refine Within.after (within_bodiesDone ..) rfl ?_
        exact Within.refl _ _
    · refine Within.after (within_flashPut ..) rfl ?_
      exact Within.refl _ _
    · refine Within.after (within_flashPut ..) rfl ?_
      exact Within.refl _ _
    · exact Within.refl _ _

theorem within_pfSeal (a0 : Nat) (s : State) : Within 1048575 s (pfSeal a0 s) := by
  unfold pfSeal
  refine within_ite ?_ ?_
  · exact Within.refl _ _
  · extract_lets x1 x2
    clear_value x2
    have hx1 : Within 1048575 s x1 := by
      unfold x1
      refine Within.after (within_rfset ..) rfl ?_
      refine Within.after (within_nvDrop ..) rfl ?_
      refine Within.after (within_programDone ..) rfl ?_
      exact Within.refl _ _
    clear_value x1
    refine within_ite ?_ ?_
    · refine Within.after (within_nrgMod ..) rfl ?_
      refine Within.after (within_rfset ..) rfl ?_
      assumption
    · refine Within.after (within_pfHold ..) rfl ?_
      refine Within.after (within_rfset ..) rfl ?_
      assumption

theorem within_sealWritten (s : State) : Within 160 s (sealWritten s) := by
  unfold sealWritten
  extract_lets x1
  clear_value x1
  split
  · exact Within.refl _ _
  · extract_lets x2
    clear_value x2
    refine Within.after (within_rcdMod ?_) rfl ?_
    · (dsimp only; exact id)
    · refine Within.after (within_flashPut ..) rfl ?_
      refine Within.after (within_flashPut ..) rfl ?_
      exact Within.refl _ _

theorem within_pfSealDone (s : State) : Within 1048575 s (pfSealDone s) := by
  unfold pfSealDone
  refine within_ite ?_ ?_
  · exact Within.refl _ _
  · refine Within.after (within_pfHold ..) rfl ?_
    refine Within.after (within_sealWritten ..) rfl ?_
    exact Within.refl _ _

theorem within_pfThresholdCross (a0 : Bool) (s : State) : Within 262305 s (pfThresholdCross a0 s) := by
  unfold pfThresholdCross
  refine within_ite ?_ ?_
  · refine Within.after (within_mgtMod ?_) rfl ?_
    · (dsimp only; exact id)
    · exact Within.refl _ _
  · refine within_ite ?_ ?_
    · refine within_ite ?_ ?_
      · refine Within.after (within_nrgMod ..) rfl ?_
        exact Within.refl _ _
      · exact Within.refl _ _
    · refine within_ite ?_ ?_
      · extract_lets x1
        have hx1 : Within 262305 s x1 := by
          unfold x1
          refine Within.after (within_rsat ..) rfl ?_
          refine Within.after (within_nrgMod ..) rfl ?_
          exact Within.refl _ _
        clear_value x1
        refine within_ite ?_ ?_
        · refine Within.after (within_raise0 ..) rfl ?_
          assumption
        · refine Within.after (within_nrgMod ..) rfl ?_
          assumption
      · exact Within.refl _ _

theorem within_pinLevelChange (a0 : Nat) (a1 : Bool) (s : State) : Within 131112 s (pinLevelChange a0 a1 s) := by
  unfold pinLevelChange
  refine within_ite ?_ ?_
  · exact Within.refl _ _
  · extract_lets x3 x4 x5
    have hx3 : Within 131112 s x3 := by
      unfold x3
      refine Within.after (within_noteEdge ..) rfl ?_
      refine Within.after (within_penMod ?_) rfl ?_
      · (dsimp only; exact id)
      · exact Within.refl _ _
    have hx4 : Within 131112 s x4 := by
      unfold x4
      refine Within.after (within_countEdge ..) rfl ?_
      exact hx3
    have hx5 : Within 131112 s x5 := by
      unfold x5
      refine within_ite ?_ ?_
      · refine Within.after (within_stuckEnd ..) rfl ?_
        refine Within.after (within_monMod ..) rfl ?_
        exact hx4
      · exact hx4
    clear_value x3
    clear_value x4
    clear_value x5
    refine within_ite ?_ ?_
    · refine Within.after (within_refreshMotions ..) rfl ?_
      assumption
    · assumption

theorem within_pinReadback (a0 : Nat) (a1 : Bool) (s : State) : Within 32 s (pinReadback a0 a1 s) := by
  unfold pinReadback
  refine within_ite ?_ ?_
  · refine within_ite ?_ ?_
    · refine Within.after (within_raiseIf ..) rfl ?_
      exact Within.refl _ _
    · refine within_ite ?_ ?_
      · exact Within.refl _ _
      · extract_lets x1 x2
        clear_value x1
        clear_value x2
        refine Within.after (within_raiseIf ..) rfl ?_
        exact Within.refl _ _
  · exact Within.refl _ _

theorem within_pinStuckSet (a0 : Nat) (s : State) : Within 131112 s (pinStuckSet a0 s) := by
  unfold pinStuckSet
  refine within_ite ?_ ?_
  · extract_lets x1
    have hx1 : Within 131112 s x1 := by
      unfold x1
      refine Within.after (within_encoderState ..) rfl ?_
      refine Within.after (within_raise ..) rfl ?_
      refine Within.after (within_monMod ..) rfl ?_
      exact Within.refl _ _
    clear_value x1
    refine within_ite ?_ ?_
    · refine Within.after (within_srcFail ..) rfl ?_
      assumption
    · assumption
  · exact Within.refl _ _

theorem within_pipResetScope (a0 : Nat) (s : State) : Within 4129 s (pipResetScope a0 s) := by
  unfold pipResetScope
  refine within_ite ?_ ?_
  · extract_lets x1 x2 x3
    clear_value x1
    clear_value x2
    have hx3 : Within 4129 s x3 := by
      unfold x3
      refine Within.after (within_setSec ..) rfl ?_
      exact Within.refl _ _
    clear_value x3
    refine Within.after (within_secPump ..) rfl ?_
    assumption
  · refine within_ite ?_ ?_
    · refine Within.after (within_bgReset ..) rfl ?_
      exact Within.refl _ _
    · exact Within.refl _ _

theorem within_portSilent (a0 : Nat) (s : State) : Within 32800 s (portSilent a0 s) := by
  unfold portSilent
  refine within_ite ?_ ?_
  · refine Within.after (within_raiseAux ..) rfl ?_
    refine Within.after (within_modPort ..) rfl ?_
    exact Within.refl _ _
  · exact Within.refl _ _

theorem within_postEdge (a0 : Nat) (a1 : Bool) (s : State) : Within 131104 s (postEdge a0 a1 s) := by
  unfold postEdge
  refine within_ite ?_ ?_
  · refine Within.after (within_penMod ?_) rfl ?_
    · (dsimp only; exact id)
    · exact Within.refl _ _
  · refine Within.after (within_raise ..) rfl ?_
    exact Within.refl _ _

theorem within_recorderForced (s : State) : Within 96 s (recorderForced s) := by
  unfold recorderForced
  extract_lets x1 x2
  have hx1 : Within 96 s x1 := by
    unfold x1
    refine within_ite ?_ ?_
    · exact Within.refl _ _
    · refine Within.after (within_rcdMod ?_) rfl ?_
      · (dsimp only; exact id)
      · exact Within.refl _ _
  clear_value x1
  refine within_mk rfl ?_ (hf := form_eq)
  assumption

theorem within_powerFail (s : State) : Within 2097151 s (powerFail s) := by
  unfold powerFail
  refine within_ite ?_ ?_
  · exact Within.refl _ _
  · extract_lets x1 x2
    have hx1 : Within 2097151 s x1 := by
      unfold x1
      refine Within.after (within_drainIntake ..) rfl ?_
      refine Within.after (within_outputsReleased ..) rfl ?_
      refine Within.after (within_raise0 ..) rfl ?_
      refine Within.after (within_recorderForced ..) rfl ?_
      refine Within.after (within_eraseAbandon ..) rfl ?_
      exact Within.refl _ _
    have hx2 : Within 2097151 s x2 := by
      unfold x2
      refine Within.after (within_rsat ..) rfl ?_
      refine Within.after (within_rfset ..) rfl ?_
      assumption
    clear_value x1
    clear_value x2
    refine Within.after (within_cutToFlash ..) rfl ?_
    refine Within.after (within_nrgMod ..) rfl ?_
    assumption

theorem within_privCapped (a0 : State) (s : State) : Within 1 s (privCapped a0 s) := by
  unfold privCapped
  extract_lets x1
  clear_value x1
  refine within_foldl ?_ ?_
  · intro y2 y3 y4
    refine Within.after (within_rfset ..) rfl ?_
    assumption
  · exact Within.refl _ _

theorem within_privRemirror (a0 : Nat) (s : State) : Within 32 s (privRemirror a0 s) := by
  unfold privRemirror
  extract_lets x1 x2
  refine within_ite ?_ ?_
  · refine within_mk rfl ?_ (hf := form_eq)
    exact Within.refl _ _
  · exact Within.refl _ _

theorem within_tbsResetScope (a0 : Nat) (s : State) : Within 24 s (tbsResetScope a0 s) := by
  unfold tbsResetScope
  refine within_ite ?_ ?_
  · refine Within.after (within_tbsMod ..) rfl ?_
    exact Within.refl _ _
  · refine within_ite ?_ ?_
    · refine Within.after (within_tbsMod ..) rfl ?_
      exact Within.refl _ _
    · refine within_ite ?_ ?_
      · refine Within.after (within_tbsMod ..) rfl ?_
        exact Within.refl _ _
      · refine within_ite ?_ ?_
        · refine Within.after (within_grpMod ..) rfl ?_
          exact Within.refl _ _
        · exact Within.refl _ _

theorem within_takeOver (a0 : Nat) (s : State) : Within 524288 s (takeOver a0 s) := by
  unfold takeOver
  refine within_ite ?_ ?_
  · exact Within.refl _ _
  · extract_lets x1
    have hx1 : Within 524288 s x1 := by
      unfold x1
      refine Within.after (within_convMod ..) rfl ?_
      exact Within.refl _ _
    clear_value x1
    refine within_ite ?_ ?_
    · refine Within.after (within_beginVisit ..) rfl ?_
      assumption
    · assumption

theorem within_thmResetScope (a0 : Nat) (s : State) : Within 524288 s (thmResetScope a0 s) := by
  unfold thmResetScope
  refine within_ite ?_ ?_
  · extract_lets x1 x2 x3
    clear_value x1
    clear_value x2
    have hx3 : Within 524288 s x3 := by
      unfold x3
      refine Within.after (within_convMod ..) rfl ?_
      refine Within.after (within_askAgain ..) rfl ?_
      exact Within.refl _ _
    clear_value x3
    refine within_ite ?_ ?_
    · assumption
    · refine Within.after (within_takeOver ..) rfl ?_
      assumption
  · refine within_ite ?_ ?_
    · refine Within.after (within_thmMod ..) rfl ?_
      exact Within.refl _ _
    · refine within_ite ?_ ?_
      · refine Within.after (within_thmMod ..) rfl ?_
        exact Within.refl _ _
      · refine within_ite ?_ ?_
        · refine Within.after (within_thmMod ..) rfl ?_
          exact Within.refl _ _
        · exact Within.refl _ _

theorem within_resetScope (a0 : Nat) (s : State) : Within 2097081 s (resetScope a0 s) := by
  unfold resetScope
  split
  · refine within_ite ?_ ?_
    · refine Within.after (within_grantDrop ..) rfl ?_
      refine Within.after (within_snapUnitsDiscarded ..) rfl ?_
      refine Within.after (within_aryResetScope ..) rfl ?_
      exact Within.refl _ _
    · refine within_ite ?_ ?_
      · refine Within.after (within_cpPollAll ..) rfl ?_
        refine Within.after (within_gapsPass ..) rfl ?_
        refine Within.after (within_aryResetScope ..) rfl ?_
        exact Within.refl _ _
      · refine Within.after (within_aryResetScope ..) rfl ?_
        exact Within.refl _ _
  · refine Within.after (within_colResetScope ..) rfl ?_
    exact Within.refl _ _
  · refine Within.after (within_tbsResetScope ..) rfl ?_
    exact Within.refl _ _
  · refine within_ite ?_ ?_
    · refine Within.after (within_fmtResetScope ..) rfl ?_
      exact Within.refl _ _
    · refine Within.after (within_cpPollAll ..) rfl ?_
      refine Within.after (within_pipResetScope ..) rfl ?_
      exact Within.refl _ _
  · refine Within.after (within_auxResetScope ..) rfl ?_
    exact Within.refl _ _
  · refine Within.after (within_vdtResetScope ..) rfl ?_
    exact Within.refl _ _
  · refine Within.after (within_linkResetScope ..) rfl ?_
    refine Within.after (within_lnkResetScope ..) rfl ?_
    exact Within.refl _ _
  · refine Within.after (within_penResetScope ..) rfl ?_
    exact Within.refl _ _
  · refine Within.after (within_nrgResetScope ..) rfl ?_
    exact Within.refl _ _
  · refine Within.after (within_thmResetScope ..) rfl ?_
    exact Within.refl _ _
  · refine Within.after (within_mgtResetScope ..) rfl ?_
    exact Within.refl _ _
  · exact Within.refl _ _

theorem within_resetQuiesce (a0 : Nat) (s : State) : Within 2097145 s (resetQuiesce a0 s) := by
  unfold resetQuiesce
  split
  · exact Within.refl _ _
  · refine within_ite ?_ ?_
    · exact Within.refl _ _
    · extract_lets x1 x2 x3 x4
      clear_value x1
      have hx2 : Within 2097145 s x2 := by
        unfold x2
        refine Within.after (within_clearOwned ..) rfl ?_
        refine Within.after (within_resetScope ..) rfl ?_
        exact Within.refl _ _
      have hx4 : Within 2097145 s x4 := by
        unfold x4
        refine Within.after (within_nvSettle ..) rfl ?_
        refine within_mk rfl ?_ (hf := form_eq)
        assumption
      clear_value x2
      clear_value x4
      refine within_ite ?_ ?_
      · refine Within.after (within_nvSettle ..) rfl ?_
        refine Within.after (within_holdFunction ..) rfl ?_
        assumption
      · assumption

theorem within_quiesceReset (a0 : Nat) (s : State) : Within 2097147 s (quiesceReset a0 s) := by
  unfold quiesceReset
  refine within_ite ?_ ?_
  · refine Within.after (within_dropLatches ..) rfl ?_
    refine Within.after (within_resetQuiesce ..) rfl ?_
    exact Within.refl _ _
  · exact Within.refl _ _

theorem within_rateWindowEnd (a0 : Nat) (a1 : Nat) (s : State) : Within 131112 s (rateWindowEnd a0 a1 s) := by
  unfold rateWindowEnd
  refine within_ite ?_ ?_
  · exact Within.refl _ _
  · split
    · exact Within.refl _ _
    · extract_lets x1 x2 x3
      clear_value x1
      clear_value x2
      have hx3 : Within 131112 s x3 := by
        unfold x3
        refine Within.after (within_raiseIf ..) rfl ?_
        refine Within.after (within_monMod ..) rfl ?_
        exact Within.refl _ _
      clear_value x3
      refine Within.after (within_encoderState ..) rfl ?_
      refine Within.after (within_raiseIf ..) rfl ?_
      assumption

theorem within_rawRowEmit (s : State) : Within 4097 s (rawRowEmit s) := by
  unfold rawRowEmit
  split
  · exact Within.refl _ _
  · extract_lets x1 x2 x3 x4
    clear_value x1
    clear_value x3
    clear_value x4
    have hx2 : Within 4097 s x2 := by
      unfold x2
      refine Within.after (within_pipMod ?_) rfl ?_
      · (dsimp only; exact id)
      · exact Within.refl _ _
    clear_value x2
    refine within_ite ?_ ?_
    · refine Within.after (within_pushUnit ..) rfl ?_
      assumption
    · refine Within.after (within_rwrap ..) rfl ?_
      refine within_foldl ?_ ?_
      · intro y5 y6 y7
        refine Within.after (within_pushUnit ..) rfl ?_
        assumption
      · assumption

theorem within_rcRead (a0 : Nat) (s : State) : Within 197411 s (rcRead a0 s) := by
  unfold rcRead
  refine within_ite ?_ ?_
  · exact Within.refl _ _
  · extract_lets x1
    have hx1 : Within 197411 s x1.2 := by
      unfold x1
      refine Within.after (within_readReg ..) rfl ?_
      exact Within.refl _ _
    clear_value x1
    refine Within.after (within_mbShow ..) rfl ?_
    assumption

theorem within_readaptSweep (a0 : Nat) (a1 : List Nat) (s : State) : Within 262689 s (readaptSweep a0 a1 s) := by
  unfold readaptSweep
  extract_lets x1 x2 x3
  clear_value x1
  clear_value x2
  have hx3 : Within 262689 s x3 := by
    unfold x3
    refine Within.after (within_sweepEnd ..) rfl ?_
    refine Within.after (within_rwrap ..) rfl ?_
    exact Within.refl _ _
  clear_value x3
  refine within_ite ?_ ?_
  · exact Within.refl _ _
  · refine within_ite ?_ ?_
    · refine Within.after (within_rfset ..) rfl ?_
      refine Within.after (within_setXw ..) rfl ?_
      assumption
    · refine Within.after (within_raise ..) rfl ?_
      refine Within.after (within_setXw ..) rfl ?_
      assumption

theorem within_recordEnqueue (s : State) : Within 73761 s (recordEnqueue s) := by
  unfold recordEnqueue
  split
  · exact Within.refl _ _
  · refine within_foldl ?_ ?_
    · intro y1 y2 y3
      refine within_ite ?_ ?_
      · refine Within.after (within_enqueueRecord ..) rfl ?_
        assumption
      · assumption
    · refine within_mk rfl ?_ (hf := form_eq)
      exact Within.refl _ _

theorem closeSector_intake (r : Recorder) : (closeSector r).intake = r.intake := by
  rfl

theorem within_recorderScan (s : State) : Within 160 s (recorderScan s) := by
  unfold recorderScan
  extract_lets r unm s0 s1
  have h0 : Within 160 s s0 := by
    unfold s0
    refine Within.after (within_rcdMod ?_) rfl ?_
    · (dsimp only; exact id)
    · exact Within.refl _ _
  clear_value s0
  have h1 : Within 160 s s1 := by
    unfold s1
    exact within_ite (Within.after (within_mirrorGoesOn ..) rfl h0) h0
  clear_value s1
  refine within_ite (Within.refl _ _) ?_
  refine Within.after (within_dropSummary ..) rfl ?_
  exact within_mk rfl h1 (hf := form_intake (hi := intake_refillIntake _ _))

theorem within_refclkLost (s : State) : Within 2097151 s (refclkLost s) := by
  unfold refclkLost
  extract_lets x1
  clear_value x1
  refine within_ite ?_ ?_
  · refine Within.after (within_heldInReset ..) rfl ?_
    refine Within.after (within_mgtMod ?_) rfl ?_
    · (dsimp only; exact id)
    · refine Within.after (within_eraseCut ..) rfl ?_
      refine Within.after (within_programCut ..) rfl ?_
      exact Within.refl _ _
  · refine Within.after (within_mgtMod ?_) rfl ?_
    · (dsimp only; exact id)
    · exact Within.refl _ _

theorem within_refclkReturn (s : State) : Within 1048575 s (refclkReturn s) := by
  unfold refclkReturn
  refine within_ite ?_ ?_
  · refine Within.after (within_startIfFree ..) rfl ?_
    refine Within.after (within_mgtMod ?_) rfl ?_
    · (dsimp only; exact id)
    · exact Within.refl _ _
  · exact Within.refl _ _

theorem within_sectorDraw (a0 : Nat) (s : State) : Within 111657 s (sectorDraw a0 s) := by
  unfold sectorDraw
  refine within_ite ?_ ?_
  · exact Within.refl _ _
  · refine Within.after (within_drawDue ..) rfl ?_
    refine within_foldl ?_ ?_
    · intro y1 y2 y3
      refine Within.after (within_compWrite ..) rfl ?_
      assumption
    · exact Within.refl _ _

theorem within_registrationDraw (s : State) : Within 111657 s (registrationDraw s) := by
  unfold registrationDraw
  refine within_foldl ?_ ?_
  · intro y1 y2 y3
    refine Within.after (within_sectorDraw ..) rfl ?_
    assumption
  · exact Within.refl _ _

theorem within_reloadSections (a0 : Nat) (s : State) : WithinO 167969 s (fun r => r) (reloadSections a0 s) := by
  unfold reloadSections
  extract_lets x1 x2
  clear_value x1
  have hx2 : Within 167969 s x2 := by
    unfold x2
    refine Within.after (within_clearOwned ..) rfl ?_
    exact Within.refl _ _
  clear_value x2
  split
  · exact withinO_none
  · split
    · rename_i hq3
      refine (fun hw3 => ?_) (withinO_get (k := 167969) (s := s) (p := fun r => r) hq3 ?_)
      · refine withinO_some ?_
        refine Within.after (within_privCapped ..) rfl ?_
        assumption
      · refine withinO_foldl ?_ ?_
        · intro y4 y5 y6
          refine withinO_after (within_applySection ..) rfl ?_
          assumption
        · refine withinO_some ?_
          refine within_ite ?_ ?_
          · assumption
          · refine Within.after (within_clearTables ..) rfl ?_
            assumption
    · exact withinO_none

theorem within_resetArmExpire (s : State) : Within 64 s (resetArmExpire s) := by
  unfold resetArmExpire
  refine within_mk rfl ?_ (hf := form_eq)
  exact Within.refl _ _

theorem within_secResume (a0 : Nat) (s : State) : Within 4096 s (secResume a0 s) := by
  unfold secResume
  split
  · refine Within.after (within_setSec ..) rfl ?_
    exact Within.refl _ _
  · exact Within.refl _ _

theorem within_tbsResume (a0 : Nat) (s : State) : Within 9 s (tbsResume a0 s) := by
  unfold tbsResume
  refine within_ite ?_ ?_
  · refine Within.after (within_loadQ ..) rfl ?_
    refine Within.after (within_tbsMod ..) rfl ?_
    exact Within.refl _ _
  · refine within_ite ?_ ?_
    · refine Within.after (within_loadQ ..) rfl ?_
      exact Within.refl _ _
    · refine within_ite ?_ ?_
      · refine Within.after (within_tbsMod ..) rfl ?_
        refine within_foldl ?_ ?_
        · intro y1 y2 y3
          refine Within.after (within_dlCount ..) rfl ?_
          assumption
        · exact Within.refl _ _
      · exact Within.refl _ _

theorem within_thmResume (a0 : Nat) (s : State) : Within 524288 s (thmResume a0 s) := by
  unfold thmResume
  refine within_ite ?_ ?_
  · refine Within.after (within_thmMod ..) rfl ?_
    exact Within.refl _ _
  · refine within_ite ?_ ?_
    · extract_lets x1
      have hx1 : Within 524288 s x1 := by
        unfold x1
        refine Within.after (within_thmMod ..) rfl ?_
        exact Within.refl _ _
      clear_value x1
      refine within_ite ?_ ?_
      · refine Within.after (within_takeOver ..) rfl ?_
        assumption
      · assumption
    · refine within_ite ?_ ?_
      · refine Within.after (within_thmMod ..) rfl ?_
        exact Within.refl _ _
      · exact Within.refl _ _

theorem within_vdtResume (a0 : Nat) (s : State) : Within 8745 s (vdtResume a0 s) := by
  unfold vdtResume
  refine within_ite ?_ ?_
  · refine within_foldl ?_ ?_
    · intro y1 y2 y3
      refine Within.after (within_queueConfirmed ..) rfl ?_
      assumption
    · exact Within.refl _ _
  · refine within_ite ?_ ?_
    · refine within_foldl ?_ ?_
      · intro y4 y5 y6
        extract_lets x7
        have hx7 : Within 8745 s x7 := by
          unfold x7
          refine Within.after (within_computeWindows ..) rfl ?_
          assumption
        clear_value x7
        split
        · split
          · refine within_ite ?_ ?_
            · refine Within.after (within_confirm ..) rfl ?_
              assumption
            · assumption
          · assumption
        · assumption
      · exact Within.refl _ _
    · exact Within.refl _ _

theorem within_resumeScope (a0 : Nat) (s : State) : Within 1031849 s (resumeScope a0 s) := by
  unfold resumeScope
  split
  · extract_lets x1
    clear_value x1
    refine within_ite ?_ ?_
    · refine Within.after (within_raise0 ..) rfl ?_
      refine Within.after (within_rfset ..) rfl ?_
      exact Within.refl _ _
    · refine within_ite ?_ ?_
      · refine Within.after (within_raiseAbout ..) rfl ?_
        refine Within.after (within_aryMod ..) rfl ?_
        exact Within.refl _ _
      · exact Within.refl _ _
  · refine within_ite ?_ ?_
    · refine Within.after (within_secResume ..) rfl ?_
      exact Within.refl _ _
    · refine within_ite ?_ ?_
      · refine Within.after (within_labelsResume ..) rfl ?_
        exact Within.refl _ _
      · refine within_ite ?_ ?_
        · refine Within.after (within_bgReset ..) rfl ?_
          exact Within.refl _ _
        · exact Within.refl _ _
  · refine within_ite ?_ ?_
    · refine Within.after (within_auxTbChange ..) rfl ?_
      refine Within.after (within_columnBand ..) rfl ?_
      exact Within.refl _ _
    · exact Within.refl _ _
  · extract_lets x2
    have hx2 : Within 1031849 s x2 := by
      unfold x2
      refine Within.after (within_refreshMotions ..) rfl ?_
      refine Within.after (within_tbsResume ..) rfl ?_
      exact Within.refl _ _
    clear_value x2
    refine within_ite ?_ ?_
    · refine Within.after (within_encoderJudge ..) rfl ?_
      assumption
    · assumption
  · refine Within.after (within_vdtResume ..) rfl ?_
    refine within_ite ?_ ?_
    · refine Within.after (within_loadPrograms ..) rfl ?_
      exact Within.refl _ _
    · refine within_ite ?_ ?_
      · refine Within.after (within_loadListedBands ..) rfl ?_
        exact Within.refl _ _
      · exact Within.refl _ _
  · refine within_ite ?_ ?_
    · refine Within.after (within_setBringUp ..) rfl ?_
      exact Within.refl _ _
    · exact Within.refl _ _
  · refine Within.after (within_penResume ..) rfl ?_
    refine within_ite ?_ ?_
    · refine Within.after (within_refreshMotions ..) rfl ?_
      exact Within.refl _ _
    · exact Within.refl _ _
  · refine Within.after (within_thmResume ..) rfl ?_
    refine Within.after (within_nrgResume ..) rfl ?_
    exact Within.refl _ _
  · refine Within.after (within_thmResume ..) rfl ?_
    exact Within.refl _ _
  · refine within_ite ?_ ?_
    · refine Within.after (within_evtResume ..) rfl ?_
      exact Within.refl _ _
    · refine within_ite ?_ ?_
      · refine Within.after (within_mirrorResume ..) rfl ?_
        exact Within.refl _ _
      · exact Within.refl _ _
  · exact Within.refl _ _

theorem within_resetResume (a0 : Nat) (s : State) : Within 1031913 s (resetResume a0 s) := by
  unfold resetResume
  split
  · exact Within.refl _ _
  · refine within_ite ?_ ?_
    · exact Within.refl _ _
    · extract_lets x1 x2 x3
      have hx2 : Within 1031913 s x2 := by
        unfold x2
        refine within_mk rfl ?_ (hf := form_eq)
        exact Within.refl _ _
      have hx3 : Within 1031913 s x3 := by
        unfold x3
        refine Within.after (within_resumeScope ..) rfl ?_
        assumption
      clear_value x2
      clear_value x3
      refine Within.after (within_startQueued ..) rfl ?_
      refine Within.after (within_funcReset ..) rfl ?_
      refine within_ite ?_ ?_
      · refine Within.after (within_rstResult ..) rfl ?_
        assumption
      · assumption

theorem within_runExpectChange (a0 : Bool) (s : State) : Within 131112 s (runExpectChange a0 s) := by
  unfold runExpectChange
  refine Within.after (within_pinLevelChange ..) rfl ?_
  exact Within.refl _ _

theorem within_sample (a0 : Nat) (s : State) : Within 131104 s (sample a0 s) := by
  unfold sample
  refine within_runStep ?_ ?_
  · intro y1 y2 y3 y4
    extract_lets x5
    clear_value x5
    refine Within.after (within_nextStep ..) rfl ?_
    refine Within.after (within_engMod ..) rfl ?_
    assumption
  · exact Within.refl _ _

theorem within_secDiscard (a0 : Nat) (a1 : Nat) (a2 : Bool) (s : State) : Within 4129 s (secDiscard a0 a1 a2 s) := by
  unfold secDiscard
  extract_lets x1 x2 x3 x4 x5
  clear_value x1
  clear_value x2
  clear_value x5
  have hx3 : Within 4129 s x3 := by
    unfold x3
    refine Within.after (within_setSec ..) rfl ?_
    exact Within.refl _ _
  have hx4 : Within 4129 s x4 := by
    unfold x4
    refine within_foldl ?_ ?_
    · intro y6 y7 y8
      refine Within.after (within_secEntry ..) rfl ?_
      assumption
    · assumption
  clear_value x3
  clear_value x4
  refine Within.after (within_setSec ..) rfl ?_
  assumption

theorem within_secWriteAll (a0 : Nat) (s : State) : Within 12321 s (secWriteAll a0 s) := by
  unfold secWriteAll
  refine within_foldl ?_ ?_
  · intro y1 y2 y3
    refine Within.after (within_cpPollAll ..) rfl ?_
    refine Within.after (within_gustTap ..) rfl ?_
    refine Within.after (within_writeSlot ..) rfl ?_
    refine Within.after (within_setSec ..) rfl ?_
    assumption
  · exact Within.refl _ _

theorem within_sectionReloadDone (a0 : Nat) (a1 : Nat) (s : State) : Within 168161 s (sectionReloadDone a0 a1 s) := by
  unfold sectionReloadDone
  split
  · exact Within.refl _ _
  · refine within_ite ?_ ?_
    · exact Within.refl _ _
    · refine Within.after (within_nvSettle ..) rfl ?_
      split
      · rename_i hq1
        refine (fun hw1 => ?_) (withinO_get (k := 168161) (s := s) (p := fun r => r) hq1 ?_)
        · extract_lets x2 x3
          have hx2 : Within 168161 s x2 := by
            unfold x2
            refine within_ite ?_ ?_
            · refine Within.after (within_rset ..) rfl ?_
              assumption
            · assumption
          clear_value x2
          refine Within.after (within_evtConfigured ..) rfl ?_
          refine within_mk rfl ?_ (hf := form_eq)
          assumption
        · split
          · refine withinO_after (within_reloadSections ..) rfl ?_
            exact Within.refl _ _
          · exact withinO_none
      · extract_lets x4 x5
        clear_value x4
        have hx5 : Within 168161 s x5 := by
          unfold x5
          refine Within.after (within_flashRead ..) rfl ?_
          refine Within.after (within_raiseAbout ..) rfl ?_
          exact Within.refl _ _
        clear_value x5
        refine Within.after (within_holdFunction ..) rfl ?_
        refine within_ite ?_ ?_
        · refine Within.after (within_rstResult ..) rfl ?_
          assumption
        · assumption

theorem within_sectorLate (a0 : Nat) (a1 : Nat) (s : State) : Within 12329 s (sectorLate a0 a1 s) := by
  unfold sectorLate
  refine Within.after (within_secWriteAll ..) rfl ?_
  refine Within.after (within_secDiscard ..) rfl ?_
  refine Within.after (within_rsat ..) rfl ?_
  refine Within.after (within_dlMiss ..) rfl ?_
  exact Within.refl _ _

theorem within_sectorCheck (a0 : Nat) (s : State) : Within 111657 s (sectorCheck a0 s) := by
  unfold sectorCheck
  extract_lets x1
  clear_value x1
  refine within_ite ?_ ?_
  · exact Within.refl _ _
  · refine within_ite ?_ ?_
    · refine Within.after (within_cpPollAll ..) rfl ?_
      refine Within.after (within_secDiscard ..) rfl ?_
      exact Within.refl _ _
    · refine Within.after (within_drawDue ..) rfl ?_
      refine Within.after (within_sectorLate ..) rfl ?_
      exact Within.refl _ _

theorem within_setIdle (a0 : Nat) (s : State) : Within 65568 s (setIdle a0 s) := by
  unfold setIdle
  extract_lets x1 x2
  clear_value x1
  clear_value x2
  refine within_ite ?_ ?_
  · refine Within.after (within_raise ..) rfl ?_
    refine Within.after (within_lnkMod ..) rfl ?_
    refine Within.after (within_putSet ..) rfl ?_
    exact Within.refl _ _
  · exact Within.refl _ _

theorem within_setPllUnlock (a0 : Nat) (s : State) : Within 69665 s (setPllUnlock a0 s) := by
  unfold setPllUnlock
  extract_lets x1 x2 x3
  clear_value x1
  have hx2 : Within 69665 s x2 := by
    unfold x2
    refine Within.after (within_raise ..) rfl ?_
    exact Within.refl _ _
  have hx3 : Within 69665 s x3 := by
    unfold x3
    refine within_foldl ?_ ?_
    · intro y4 y5 y6
      refine Within.after (within_failLane ..) rfl ?_
      assumption
    · assumption
  clear_value x2
  clear_value x3
  refine within_ite ?_ ?_
  · exact Within.refl _ _
  · refine Within.after (within_setDown ..) rfl ?_
    refine Within.after (within_setMod ..) rfl ?_
    assumption

theorem within_setPtr (a0 : Nat) (a1 : Nat) (a2 : List Byte) (a3 : Nat) (s : State) : Within 2097151 s (setPtr a0 a1 a2 a3 s) := by
  unfold setPtr
  refine within_mbAddressed ?_ ?_ ?_ ?_
  · intro y5 y6 y7
    extract_lets x8 x9 x10
    clear_value x8
    clear_value x9
    refine within_ite ?_ ?_
    · refine Within.after (within_busWrite ..) rfl ?_
      assumption
    · refine within_ite ?_ ?_
      · refine Within.after (within_mbShow ..) rfl ?_
        refine within_ite ?_ ?_
        · assumption
        · dsimp -zeta only [x10]
          refine Within.after (within_mbMod ..) rfl ?_
          assumption
      · refine Within.after (within_pointerRead ..) rfl ?_
        dsimp -zeta only [x10]
        refine Within.after (within_mbMod ..) rfl ?_
        assumption
  · rfl
  · rfl
  · exact Within.refl _ _

theorem within_setUp (a0 : Nat) (s : State) : Within 65568 s (setUp a0 s) := by
  unfold setUp
  extract_lets x1
  clear_value x1
  refine within_ite ?_ ?_
  · refine Within.after (within_raise ..) rfl ?_
    refine Within.after (within_sendStatus ..) rfl ?_
    refine Within.after (within_putSet ..) rfl ?_
    exact Within.refl _ _
  · exact Within.refl _ _

theorem within_setUpReady (a0 : Nat) (s : State) : Within 65697 s (setUpReady a0 s) := by
  unfold setUpReady
  refine Within.after (within_enterReady ..) rfl ?_
  refine Within.after (within_setUp ..) rfl ?_
  exact Within.refl _ _

theorem within_shiftPhase (a0 : Nat) (a1 : Nat) (s : State) : Within 131072 s (shiftPhase a0 a1 s) := by
  unfold shiftPhase
  extract_lets x1 x2 x3 x4 x5 x6 x7 x8
  clear_value x1
  clear_value x2
  clear_value x3
  clear_value x4
  clear_value x5
  clear_value x6
  clear_value x7
  clear_value x8
  refine Within.after (within_engMod ..) rfl ?_
  exact Within.refl _ _

theorem within_shiftPhases (a0 : Nat) (a1 : Nat) (a2 : Nat) (s : State) : Within 131072 s (shiftPhases a0 a1 a2 s) := by
  induction a2 generalizing a0 a1 s
  · unfold shiftPhases
    exact Within.refl _ _
  · rename_i n ih
    unfold shiftPhases
    refine within_ite ?_ ?_
    · exact Within.refl _ _
    · refine Within.after (ih ..) rfl ?_
      refine Within.after (within_shiftPhase ..) rfl ?_
      exact Within.refl _ _

theorem within_shift (a0 : Nat) (a1 : Nat) (s : State) : Within 131104 s (shift a0 a1 s) := by
  unfold shift
  refine within_runStep ?_ ?_
  · intro y1 y2 y3 y4
    extract_lets x5 x6 x7
    clear_value x6
    have hx5 : Within 131104 s x5 := by
      unfold x5
      refine Within.after (within_shiftPhases ..) rfl ?_
      assumption
    have hx7 : Within 131104 s x7 := by
      unfold x7
      refine within_ite ?_ ?_
      · refine Within.after (within_engMod ..) rfl ?_
        assumption
      · assumption
    clear_value x5
    clear_value x7
    refine within_ite ?_ ?_
    · refine Within.after (within_nextStep ..) rfl ?_
      assumption
    · assumption
  · exact Within.refl _ _

theorem within_signal (a0 : Nat) (s : State) : Within 131104 s (signal a0 s) := by
  unfold signal
  refine within_runStep ?_ ?_
  · intro y1 y2 y3 y4
    extract_lets x5
    have hx5 : Within 131104 s x5 := by
      unfold x5
      split
      · refine Within.after (within_penMod ?_) rfl ?_
        · (dsimp only; exact id)
        · assumption
      · refine Within.after (within_penMod ?_) rfl ?_
        · (dsimp only; exact id)
        · assumption
      · split
        · refine Within.after (within_postEdge ..) rfl ?_
          assumption
        · refine Within.after (within_postEdge ..) rfl ?_
          assumption
        · refine Within.after (within_postEdge ..) rfl ?_
          assumption
        · refine Within.after (within_postEdge ..) rfl ?_
          assumption
        · refine Within.after (within_postEdge ..) rfl ?_
          assumption
        · refine Within.after (within_postEdge ..) rfl ?_
          assumption
        · refine Within.after (within_postEdge ..) rfl ?_
          assumption
        · refine Within.after (within_postEdge ..) rfl ?_
          assumption
        · assumption
        · assumption
        · assumption
        · assumption
        · refine Within.after (within_raise ..) rfl ?_
          assumption
      · refine Within.after (within_postEdge ..) rfl ?_
        assumption
      · refine Within.after (within_postEdge ..) rfl ?_
        assumption
      · refine Within.after (within_raise ..) rfl ?_
        assumption
    clear_value x5
    refine Within.after (within_nextStep ..) rfl ?_
    assumption
  · exact Within.refl _ _

theorem within_slotEdge (a0 : Nat) (a1 : Bool) (a2 : Nat) (s : State) : Within 1056 s (slotEdge a0 a1 a2 s) := by
  unfold slotEdge
  split
  · exact Within.refl _ _
  · refine within_ite ?_ ?_
    · exact Within.refl _ _
    · extract_lets x1
      have hx1 : Within 1056 s x1 := by
        unfold x1
        refine Within.after (within_aryMod ..) rfl ?_
        exact Within.refl _ _
      clear_value x1
      refine Within.after (within_raiseIf ..) rfl ?_
      assumption

theorem within_snapEnd (s : State) : Within 1057 s (snapEnd s) := by
  unfold snapEnd
  extract_lets x1 x2 x3
  clear_value x1
  have hx2 : Within 1057 s x2 := by
    unfold x2
    refine Within.after (within_aryMod ..) rfl ?_
    exact Within.refl _ _
  have hx3 : Within 1057 s x3 := by
    unfold x3
    refine Within.after (within_rwrap ..) rfl ?_
    refine Within.after (within_rfset ..) rfl ?_
    refine Within.after (within_rfset ..) rfl ?_
    assumption
  clear_value x2
  clear_value x3
  refine Within.after (within_raiseIf ..) rfl ?_
  refine Within.after (within_raise0 ..) rfl ?_
  assumption

theorem within_snapDone (s : State) : Within 5153 s (snapDone s) := by
  unfold snapDone
  refine within_ite ?_ ?_
  · extract_lets x1 x2 x3 x4 x5 x6
    clear_value x2
    clear_value x3
    clear_value x4
    clear_value x5
    have hx1 : Within 5153 s x1 := by
      unfold x1
      refine Within.after (within_snapEnd ..) rfl ?_
      exact Within.refl _ _
    have hx6 : Within 5153 s x6 := by
      unfold x6
      refine within_foldl ?_ ?_
      · intro y7 y8 y9
        refine Within.after (within_pushUnit ..) rfl ?_
        assumption
      · assumption
    clear_value x1
    clear_value x6
    refine within_ite ?_ ?_
    · refine Within.after (within_pipMod ?_) rfl ?_
      · (dsimp only; exact id)
      · assumption
    · refine Within.after (within_rwrap ..) rfl ?_
      refine Within.after (within_pipMod ?_) rfl ?_
      · (dsimp only; exact id)
      · assumption
  · exact Within.refl _ _

theorem within_snapExposure (s : State) : Within 1024 s (snapExposure s) := by
  unfold snapExposure
  refine within_ite ?_ ?_
  · refine Within.after (within_aryMod ..) rfl ?_
    exact Within.refl _ _
  · exact Within.refl _ _

theorem within_snapNoGrant (s : State) : Within 1057 s (snapNoGrant s) := by
  unfold snapNoGrant
  refine within_ite ?_ ?_
  · refine Within.after (within_raise0 ..) rfl ?_
    refine Within.after (within_rfset ..) rfl ?_
    refine Within.after (within_rfset ..) rfl ?_
    refine Within.after (within_aryMod ..) rfl ?_
    exact Within.refl _ _
  · exact Within.refl _ _

theorem within_snapOver (s : State) : Within 267297 s (snapOver s) := by
  unfold snapOver
  refine within_ite ?_ ?_
  · refine Within.after (within_grantEnd ..) rfl ?_
    refine Within.after (within_snapDone ..) rfl ?_
    exact Within.refl _ _
  · exact Within.refl _ _

theorem within_snapTransfer (s : State) : Within 1024 s (snapTransfer s) := by
  unfold snapTransfer
  refine within_ite ?_ ?_
  · refine Within.after (within_aryMod ..) rfl ?_
    exact Within.refl _ _
  · exact Within.refl _ _

theorem within_snapWithdraw (s : State) : Within 263201 s (snapWithdraw s) := by
  unfold snapWithdraw
  refine Within.after (within_nrgMod ..) rfl ?_
  refine Within.after (within_snapNoGrant ..) rfl ?_
  exact Within.refl _ _

theorem within_srcResume (s : State) : Within 40 s (srcResume s) := by
  unfold srcResume
  split
  · refine within_ite ?_ ?_
    · exact Within.refl _ _
    · refine Within.after (within_raise0 ..) rfl ?_
      refine Within.after (within_tbsMod ..) rfl ?_
      exact Within.refl _ _
  · exact Within.refl _ _

theorem within_standstillFlags (s : State) : Within 8192 s (standstillFlags s) := by
  unfold standstillFlags
  refine Within.after (within_vdtMod ..) rfl ?_
  exact Within.refl _ _

theorem within_standstillDeclared (s : State) : Within 12329 s (standstillDeclared s) := by
  unfold standstillDeclared
  extract_lets x1
  have hx1 : Within 12329 s x1 := by
    unfold x1
    refine Within.after (within_declareStandstill ..) rfl ?_
    exact Within.refl _ _
  clear_value x1
  refine within_ite ?_ ?_
  · refine Within.after (within_standstillFlags ..) rfl ?_
    refine within_ite ?_ ?_
    · refine Within.after (within_formatterFlush ..) rfl ?_
      assumption
    · assumption
  · exact Within.refl _ _

theorem within_startBand (s : State) : Within 531584 s (startBand s) := by
  unfold startBand
  extract_lets x1 x2 x3 x4 x5
  clear_value x1
  refine Within.after (within_dsnuNext ..) rfl ?_
  refine within_mk rfl ?_ (hf := form_eq)
  exact Within.refl _ _

theorem within_step4Failed (a0 : Nat) (a1 : Nat) (s : State) : Within 131233 s (step4Failed a0 a1 s) := by
  unfold step4Failed
  refine Within.after (within_nvSettle ..) rfl ?_
  refine Within.after (within_mgtMod ?_) rfl ?_
  · (dsimp only; exact id)
  · refine Within.after (within_penMod ?_) rfl ?_
    · (dsimp only; exact id)
    · refine Within.after (within_configFault ..) rfl ?_
      exact Within.refl _ _

theorem within_step4Tests (a0 : Nat) (s : State) :
    Within 990889 s ((List.range 2).foldl (fun s c => raiseIf (bit a0 c) 0xA0F 0xA0300 [] 0 0 s)
      (thmMod (fun t => { t with cmpTest := a0 % 4 }) s)) := by
  refine within_foldl ?_ (Within.after (within_thmMod ..) rfl (Within.refl _ _))
  intro y5 y6 y7
  exact Within.after (within_raiseIf ..) rfl y7

theorem within_step4Auto (s u : State) (h : Within 990889 s u) : Within 990889 s (
    let e := startAuto u
    if !e.1 then step4Failed 3 0x80300 e.2
    else linksBegin <| mgtMod (fun m => { m with step := 5 }) (slotResult e.2.mgt.slot 1 (stepEnded 4 e.2))) := by
  have he : Within 990889 s (startAuto u).2 := Within.after (within_startAuto ..) rfl h
  generalize startAuto u = e at he ⊢
  refine within_ite (Within.after (within_step4Failed ..) rfl he) ?_
  refine Within.after (within_linksBegin ..) rfl ?_
  refine Within.after (within_mgtMod ?_) rfl ?_
  · dsimp only; exact id
  · exact Within.after (within_slotResult ..) rfl (Within.after (within_stepEnded ..) rfl he)

theorem within_step4Admit (s u : State) (h : Within 990889 s u) : Within 990889 s (
    let r := admission (startBand u)
    if !r.1 then step4Failed 3 0 r.2
    else
      let e := startAuto r.2
      if !e.1 then step4Failed 3 0x80300 e.2
      else linksBegin <| mgtMod (fun m => { m with step := 5 }) (slotResult e.2.mgt.slot 1 (stepEnded 4 e.2))) := by
  have hr : Within 990889 s (admission (startBand u)).2 :=
    Within.after (within_admission ..) rfl (Within.after (within_startBand ..) rfl h)
  generalize admission (startBand u) = r at hr ⊢
  exact within_ite (Within.after (within_step4Failed ..) rfl hr) (within_step4Auto s r.2 hr)

theorem within_step4 (a0 : Nat) (s : State) : Within 990889 s (step4 a0 s) := by
  unfold step4
  exact within_ite (Within.after (within_enterSafe ..) rfl (Within.after (within_stepEnded ..) rfl (within_step4Tests ..)))
    (within_step4Admit _ _ (within_step4Tests ..))

theorem within_startupStepEnd (a0 : Nat) (a1 : Sfdp) (a2 : Nat) (s : State) : Within 2072505 s (startupStepEnd a0 a1 a2 s) := by
  unfold startupStepEnd
  extract_lets x1 x2 x3 x4 x5 x6
  clear_value x1
  clear_value x2
  have hx3 : Within 2072505 s x3.2 := by
    unfold x3
    refine Within.after (within_takeFree ..) rfl ?_
    exact Within.refl _ _
  have hx4 : Within 2072505 s x4 := by
    unfold x4
    refine Within.after (within_mgtMod ?_) rfl ?_
    · (dsimp only; exact id)
    · refine Within.after (within_stepEnded ..) rfl ?_
      assumption
  have hx6 : Within 2072505 s x6 := by
    unfold x6
    refine Within.after (within_mgtMod ?_) rfl ?_
    · (dsimp only; exact id)
    · refine Within.after (within_stepEnded ..) rfl ?_
      exact Within.refl _ _
  clear_value x3
  clear_value x4
  clear_value x6
  refine within_ite ?_ ?_
  · exact Within.refl _ _
  · refine within_ite ?_ ?_
    · refine within_mk rfl ?_ (hf := form_eq)
      assumption
    · refine within_ite ?_ ?_
      · refine within_ite ?_ ?_
        · refine Within.after (within_mgtMod ?_) rfl ?_
          · (dsimp only; exact id)
          · assumption
        · refine within_ite ?_ ?_
          · refine Within.after (within_nvSettle ..) rfl ?_
            refine Within.after (within_mgtMod ?_) rfl ?_
            · (dsimp only; exact id)
            · assumption
          · refine Within.after (within_enterSafe ..) rfl ?_
            refine Within.after (within_raise0 ..) rfl ?_
            assumption
      · refine within_ite ?_ ?_
        · refine Within.after (within_nvSettle ..) rfl ?_
          refine Within.after (within_chooseSlot ..) rfl ?_
          exact Within.refl _ _
        · refine within_ite ?_ ?_
          · refine Within.after (within_step4 ..) rfl ?_
            exact Within.refl _ _
          · refine within_ite ?_ ?_
            · refine Within.after (within_mgtMod ?_) rfl ?_
              · (dsimp only; exact id)
              · refine Within.after (within_stepEnded ..) rfl ?_
                exact Within.refl _ _
            · refine within_ite ?_ ?_
              · refine Within.after (within_stepEnded ..) rfl ?_
                exact Within.refl _ _
              · refine within_ite ?_ ?_
                · refine Within.after (within_enterReady ..) rfl ?_
                  exact Within.refl _ _
                · refine within_ite ?_ ?_
                  · refine Within.after (within_enterRun ..) rfl ?_
                    exact Within.refl _ _
                  · exact Within.refl _ _

theorem within_statusHeartbeat (a0 : Nat) (s : State) : Within 65536 s (statusHeartbeat a0 s) := by
  unfold statusHeartbeat
  refine within_ite ?_ ?_
  · refine Within.after (within_sendStatus ..) rfl ?_
    exact Within.refl _ _
  · exact Within.refl _ _

theorem within_stitchLate (a0 : Nat) (s : State) : Within 8745 s (stitchLate a0 s) := by
  unfold stitchLate
  split
  · exact Within.refl _ _
  · refine within_ite ?_ ?_
    · refine Within.after (within_queueConfirmed ..) rfl ?_
      refine Within.after (within_dlMissUnless ..) rfl ?_
      refine Within.after (within_rsat ..) rfl ?_
      refine Within.after (within_modObj ..) rfl ?_
      exact Within.refl _ _
    · refine Within.after (within_stitchMerge ..) rfl ?_
      exact Within.refl _ _

theorem within_stitchExpire (s : State) : Within 8745 s (stitchExpire s) := by
  unfold stitchExpire
  split
  · refine Within.after (within_stitchLate ..) rfl ?_
    exact Within.refl _ _
  · exact Within.refl _ _

theorem within_store (a0 : Nat) (s : State) : Within 131113 s (store a0 s) := by
  unfold store
  refine within_runStep ?_ ?_
  · intro y2 y3 y4 y5
    refine within_blocking ?_ ?_ ?_ ?_
    · intro y6 y7
      refine Within.after (within_nextStep ..) rfl ?_
      refine Within.after (within_engMod ..) rfl ?_
      assumption
    · rfl
    · rfl
    · assumption
  · exact Within.refl _ _

theorem within_storeN (a0 : Nat) (s : State) : Within 131105 s (storeN a0 s) := by
  unfold storeN
  refine within_runStep ?_ ?_
  · intro y1 y2 y3 y4
    refine within_ite ?_ ?_
    · refine Within.after (within_nextStep ..) rfl ?_
      refine Within.after (within_engMod ..) rfl ?_
      assumption
    · refine Within.after (within_raise ..) rfl ?_
      refine Within.after (within_rsat ..) rfl ?_
      refine Within.after (within_nextStep ..) rfl ?_
      assumption
  · exact Within.refl _ _

theorem within_stripeProcess (a0 : Nat) (s : State) : Within 32801 s (stripeProcess a0 s) := by
  unfold stripeProcess
  refine within_ite ?_ ?_
  · exact Within.refl _ _
  · extract_lets x1 x2
    have hx2 : Within 32801 s x2 := by
      unfold x2
      refine within_mk rfl ?_ (hf := form_eq)
      exact Within.refl _ _
    clear_value x2
    split
    · assumption
    · extract_lets x3 x4 x5 x6 x7 x8
      clear_value x3
      clear_value x4
      clear_value x5
      clear_value x6
      have hx7 : Within 32801 s x7 := by
        unfold x7
        refine within_ite ?_ ?_
        · refine Within.after (within_rwrap ..) rfl ?_
          assumption
        · assumption
      clear_value x7
      split
      · assumption
      · extract_lets x9 x10 x11 x12 x13 x14 x15 x16 x17
        clear_value x9
        clear_value x10
        clear_value x11
        clear_value x13
        clear_value x16
        have hx12 : Within 32801 s x12 := by
          unfold x12
          refine within_mk rfl ?_ (hf := form_eq)
          assumption
        have hx14 : Within 32801 s x14 := by
          unfold x14
          refine within_ite ?_ ?_
          · assumption
          · refine Within.after (within_flushCarry ..) rfl ?_
            assumption
        have hx15 : Within 32801 s x15 := by
          unfold x15
          refine within_foldl ?_ ?_
          · intro y18 y19 y20
            refine Within.after (within_engineLine ..) rfl ?_
            assumption
          · assumption
        have hx17 : Within 32801 s x17 := by
          unfold x17
          refine within_ite ?_ ?_
          · refine Within.after (within_flushCarry ..) rfl ?_
            assumption
          · refine Within.after (within_emitRows ..) rfl ?_
            assumption
        clear_value x12
        clear_value x14
        clear_value x15
        clear_value x17
        refine Within.after (within_modPort ..) rfl ?_
        assumption

theorem within_strobeEarlyEnd (a0 : Nat) (a1 : Bool) (s : State) : Within 131105 s (strobeEarlyEnd a0 a1 s) := by
  unfold strobeEarlyEnd
  refine within_ite ?_ ?_
  · extract_lets x1
    clear_value x1
    refine Within.after (within_raise ..) rfl ?_
    refine Within.after (within_rsat ..) rfl ?_
    refine Within.after (within_setStrobe ..) rfl ?_
    exact Within.refl _ _
  · exact Within.refl _ _

theorem within_strobeOn (a0 : Nat) (s : State) : Within 655360 s (strobeOn a0 s) := by
  unfold strobeOn
  extract_lets x1 x2 x3 x4 x5
  clear_value x1
  clear_value x2
  clear_value x3
  clear_value x4
  have hx5 : Within 655360 s x5 := by
    unfold x5
    refine Within.after (within_setStrobe ..) rfl ?_
    exact Within.refl _ _
  clear_value x5
  refine within_ite ?_ ?_
  · refine within_ite ?_ ?_
    · refine Within.after (within_thmMod ..) rfl ?_
      assumption
    · assumption
  · exact Within.refl _ _

theorem within_synRateStep (s : State) : Within 4664 s (synRateStep s) := by
  unfold synRateStep
  refine within_ite ?_ ?_
  · refine Within.after (within_rateCycle ..) rfl ?_
    exact Within.refl _ _
  · exact Within.refl _ _

theorem within_syncInEdge (a0 : Bool) (a1 : Nat) (s : State) : Within 4664 s (syncInEdge a0 a1 s) := by
  unfold syncInEdge
  refine within_ite ?_ ?_
  · refine within_ite ?_ ?_
    · refine Within.after (within_raise0 ..) rfl ?_
      exact Within.refl _ _
    · extract_lets x1
      have hx1 : Within 4664 s x1 := by
        unfold x1
        refine Within.after (within_tbsMod ..) rfl ?_
        exact Within.refl _ _
      clear_value x1
      refine within_ite ?_ ?_
      · refine Within.after (within_jumpLine ..) rfl ?_
        assumption
      · refine Within.after (within_oneStep ..) rfl ?_
        assumption
  · exact Within.refl _ _

theorem within_syncOutEnd (s : State) : Within 8 s (syncOutEnd s) := by
  unfold syncOutEnd
  refine Within.after (within_tbsMod ..) rfl ?_
  exact Within.refl _ _

theorem within_takeAnnounceIn (s : State) : Within 934900 s (takeAnnounceIn s) := by
  unfold takeAnnounceIn
  split
  · exact Within.refl _ _
  · rename_i hq1
    refine (fun hw1 => ?_) (withinO_get (k := 934900) (s := s) (p := fun r => r.2) hq1 ?_)
    · refine Within.after (within_announceTaken ..) rfl ?_
      assumption
    · refine withinO_after (within_takeIn ..) rfl ?_
      exact Within.refl _ _

theorem within_takeBroadcastIn (s : State) : Within 21049 s (takeBroadcastIn s) := by
  unfold takeBroadcastIn
  split
  · exact Within.refl _ _
  · rename_i hq1
    refine (fun hw1 => ?_) (withinO_get (k := 21049) (s := s) (p := fun r => r.2) hq1 ?_)
    · refine Within.after (within_broadcastReceived ..) rfl ?_
      assumption
    · refine withinO_after (within_takeIn ..) rfl ?_
      exact Within.refl _ _

theorem within_takeover (a0 : Nat) (s : State) : Within 6176 s (takeover a0 s) := by
  unfold takeover
  extract_lets x1 x2
  clear_value x1
  split
  · exact Within.refl _ _
  · extract_lets x3 x4 x5 x6 x7
    clear_value x3
    clear_value x4
    have hx5 : Within 6176 s x5 := by
      unfold x5
      refine within_mk rfl ?_ (hf := form_eq)
      exact Within.refl _ _
    have hx6 : Within 6176 s x6 := by
      unfold x6
      refine Within.after (within_raiseSlice ..) rfl ?_
      refine Within.after (within_setSlice ..) rfl ?_
      assumption
    have hx7 : Within 6176 s x7 := by
      unfold x7
      refine within_ite ?_ ?_
      · refine Within.after (within_raiseSlice ..) rfl ?_
        assumption
      · assumption
    clear_value x5
    clear_value x6
    clear_value x7
    refine Within.after (within_serveWait ..) rfl ?_
    refine Within.after (within_updStage ..) rfl ?_
    assumption

theorem within_tbApply (a0 : List Nat) (s : State) : Within 827041 s (tbApply a0 s) := by
  unfold tbApply
  split
  · exact Within.refl _ _
  · refine within_ite ?_ ?_
    · exact Within.refl _ _
    · refine within_ite ?_ ?_
      · refine Within.after (within_planRecheck ..) rfl ?_
        refine Within.after (within_raise0 ..) rfl ?_
        refine Within.after (within_thmMod ..) rfl ?_
        exact Within.refl _ _
      · extract_lets x1 x2
        have hx1 : Within 827041 s x1 := by
          unfold x1
          refine Within.after (within_raise0 ..) rfl ?_
          refine Within.after (within_thmMod ..) rfl ?_
          exact Within.refl _ _
        have hx2 : Within 827041 s x2 := by
          unfold x2
          refine within_ite ?_ ?_
          · assumption
          · refine Within.after (within_auxTbChange ..) rfl ?_
            refine Within.after (within_columnBand ..) rfl ?_
            assumption
        clear_value x1
        clear_value x2
        refine Within.after (within_planRecheck ..) rfl ?_
        refine Within.after (within_linkBandChange ..) rfl ?_
        assumption

theorem within_trip (a0 : Bool) (s : State) : Within 2097151 s (trip a0 s) := by
  unfold trip
  refine within_ite ?_ ?_
  · exact Within.refl _ _
  · extract_lets x1 x2 x3 x4
    clear_value x1
    clear_value x2
    clear_value x3
    have hx4 : Within 2097151 s x4 := by
      unfold x4
      refine Within.after (within_thmMod ..) rfl ?_
      exact Within.refl _ _
    clear_value x4
    refine within_ite ?_ ?_
    · refine Within.after (within_thmMod ..) rfl ?_
      assumption
    · refine within_ite ?_ ?_
      · refine Within.after (within_cutToFlash ..) rfl ?_
        refine Within.after (within_eraseAbandon ..) rfl ?_
        refine Within.after (within_outputsReleased ..) rfl ?_
        assumption
      · refine Within.after (within_heldInReset ..) rfl ?_
        refine Within.after (within_eraseAbandon ..) rfl ?_
        refine Within.after (within_outputsReleased ..) rfl ?_
        refine Within.after (within_nrgMod ..) rfl ?_
        assumption

theorem within_tripFlashCut (a0 : Bool) (s : State) : Within 2097151 s (tripFlashCut a0 s) := by
  unfold tripFlashCut
  refine within_ite ?_ ?_
  · exact Within.refl _ _
  · extract_lets x1
    have hx1 : Within 2097151 s x1 := by
      unfold x1
      refine Within.after (within_thmMod ..) rfl ?_
      refine within_ite ?_ ?_
      · refine Within.after (within_programDone ..) rfl ?_
        exact Within.refl _ _
      · refine Within.after (within_programCut ..) rfl ?_
        exact Within.refl _ _
    clear_value x1
    refine within_ite ?_ ?_
    · refine Within.after (within_pfHold ..) rfl ?_
      refine Within.after (within_rfset ..) rfl ?_
      assumption
    · refine within_ite ?_ ?_
      · refine Within.after (within_pfSealDone ..) rfl ?_
        assumption
      · refine Within.after (within_heldInReset ..) rfl ?_
        refine Within.after (within_nrgMod ..) rfl ?_
        assumption

theorem within_tripRestart (s : State) : Within 1048575 s (tripRestart s) := by
  unfold tripRestart
  refine within_ite ?_ ?_
  · refine Within.after (within_startIfFree ..) rfl ?_
    refine Within.after (within_thmMod ..) rfl ?_
    exact Within.refl _ _
  · exact Within.refl _ _

theorem within_unitAdmit (s : State) : Within 69665 s (unitAdmit s) := by
  unfold unitAdmit
  split
  · exact Within.refl _ _
  · extract_lets x1 x2 x3 x4 x5 x6 x7 x8 x9 x10 x11
    clear_value x2
    clear_value x3
    clear_value x4
    clear_value x5
    clear_value x6
    clear_value x7
    clear_value x8
    clear_value x9
    clear_value x11
    have hx1 : Within 69665 s x1 := by
      unfold x1
      refine Within.after (within_pipMod ?_) rfl ?_
      · (dsimp only; exact id)
      · exact Within.refl _ _
    have hx10 : Within 69665 s x10 := by
      unfold x10
      refine Within.after (within_makeRoom ..) rfl ?_
      assumption
    clear_value x1
    clear_value x10
    refine within_ite ?_ ?_
    · refine within_ite ?_ ?_
      · refine Within.after (within_unitLost ..) rfl ?_
        assumption
      · refine Within.after (within_rowsLost ..) rfl ?_
        assumption
    · refine within_ite ?_ ?_
      · refine within_ite ?_ ?_
        · refine Within.after (within_unitLost ..) rfl ?_
          assumption
        · refine Within.after (within_raise ..) rfl ?_
          refine Within.after (within_unitLost ..) rfl ?_
          refine Within.after (within_putSet ..) rfl ?_
          assumption
      · refine within_ite ?_ ?_
        · refine Within.after (within_rowsLost ..) rfl ?_
          assumption
        · refine within_ite ?_ ?_
          · refine Within.after (within_unitLost ..) rfl ?_
            assumption
          · refine within_ite ?_ ?_
            · refine Within.after (within_noteFill ..) rfl ?_
              refine Within.after (within_putSet ..) rfl ?_
              assumption
            · refine Within.after (within_raise ..) rfl ?_
              refine Within.after (within_unitLost ..) rfl ?_
              assumption

theorem within_urgentRequest (s : State) : Within 524321 s (urgentRequest s) := by
  unfold urgentRequest
  split
  · exact Within.refl _ _
  · extract_lets x1
    have hx1 : Within 524321 s x1 := by
      unfold x1
      refine Within.after (within_thmMod ..) rfl ?_
      exact Within.refl _ _
    clear_value x1
    split
    · assumption
    · extract_lets x2
      clear_value x2
      refine within_ite ?_ ?_
      · refine within_ite ?_ ?_
        · refine Within.after (within_convMod ..) rfl ?_
          assumption
        · exact Within.refl _ _
      · refine within_ite ?_ ?_
        · refine Within.after (within_convMod ..) rfl ?_
          assumption
        · refine within_ite ?_ ?_
          · refine Within.after (within_convMod ..) rfl ?_
            assumption
          · refine within_ite ?_ ?_
            · refine Within.after (within_raise ..) rfl ?_
              refine Within.after (within_rsat ..) rfl ?_
              refine Within.after (within_convMod ..) rfl ?_
              assumption
            · exact Within.refl _ _

theorem within_urgentResult (a0 : Nat) (a1 : Int) (s : State) : Within 524321 s (urgentResult a0 a1 s) := by
  unfold urgentResult
  extract_lets x1 x2 x3 x4
  clear_value x1
  clear_value x3
  clear_value x4
  have hx2 : Within 524321 s x2 := by
    unfold x2
    refine Within.after (within_rsat ..) rfl ?_
    refine Within.after (within_afterUrgent ..) rfl ?_
    exact Within.refl _ _
  clear_value x2
  split
  · refine within_ite ?_ ?_
    · refine Within.after (within_thmMod ..) rfl ?_
      assumption
    · refine within_ite ?_ ?_
      · refine Within.after (within_raiseIf ..) rfl ?_
        assumption
      · refine Within.after (within_raiseIf ..) rfl ?_
        assumption
  · exact Within.refl _ _

theorem within_velocityEstimate (s : State) : Within 8 s (velocityEstimate s) := by
  unfold velocityEstimate
  refine within_ite ?_ ?_
  · refine within_ite ?_ ?_
    · refine Within.after (within_tbsMod ..) rfl ?_
      exact Within.refl _ _
    · extract_lets x1
      clear_value x1
      refine within_ite ?_ ?_
      · refine Within.after (within_tbsMod ..) rfl ?_
        exact Within.refl _ _
      · refine within_ite ?_ ?_
        · exact Within.refl _ _
        · refine Within.after (within_tbsMod ..) rfl ?_
          exact Within.refl _ _
  · exact Within.refl _ _

theorem within_verdictEvaluation (a0 : Nat) (s : State) : Within 8737 s (verdictEvaluation a0 s) := by
  unfold verdictEvaluation
  refine within_ite ?_ ?_
  · exact Within.refl _ _
  · split
    · exact Within.refl _ _
    · refine within_ite ?_ ?_
      · exact Within.refl _ _
      · extract_lets x1
        have hx1 : Within 8737 s x1 := by
          unfold x1
          refine Within.after (within_vdtMod ..) rfl ?_
          exact Within.refl _ _
        clear_value x1
        split
        · assumption
        · refine within_ite ?_ ?_
          · assumption
          · extract_lets x2 x3 x4
            clear_value x2
            clear_value x3
            split
            · extract_lets x5
              have hx5 : Within 8737 s x5 := by
                unfold x5
                refine Within.after (within_raise ..) rfl ?_
                assumption
              clear_value x5
              refine within_ite ?_ ?_
              · dsimp -zeta only [x4]
                extract_lets x6
                have hx6 : Within 8737 s x6 := by
                  unfold x6
                  refine Within.after (within_coreSpent ..) rfl ?_
                  assumption
                clear_value x6
                split
                · refine Within.after (within_verdictEmitted ..) rfl ?_
                  assumption
                · refine Within.after (within_verdictEmitted ..) rfl ?_
                  refine Within.after (within_raise ..) rfl ?_
                  assumption
              · refine Within.after (within_verdictEmitted ..) rfl ?_
                refine Within.after (within_coreSpent ..) rfl ?_
                assumption
            · dsimp -zeta only [x4]
              extract_lets x7
              have hx7 : Within 8737 s x7 := by
                unfold x7
                refine Within.after (within_coreSpent ..) rfl ?_
                assumption
              clear_value x7
              split
              · refine Within.after (within_verdictEmitted ..) rfl ?_
                assumption
              · refine Within.after (within_verdictEmitted ..) rfl ?_
                refine Within.after (within_raise ..) rfl ?_
                assumption

theorem within_verifyDone (a0 : Bool) (s : State) : Within 161 s (verifyDone a0 s) := by
  unfold verifyDone
  split
  · exact Within.refl _ _
  · extract_lets x1 x2
    have hx1 : Within 161 s x1 := by
      unfold x1
      refine Within.after (within_rfset ..) rfl ?_
      refine Within.after (within_nvSettle ..) rfl ?_
      refine Within.after (within_mgtMod ?_) rfl ?_
      · (dsimp only; exact id)
      · exact Within.refl _ _
    have hx2 : Within 161 s x2.2 := by
      unfold x2
      refine Within.after (within_verifyHead ..) rfl ?_
      assumption
    clear_value x1
    clear_value x2
    refine within_ite ?_ ?_
    · refine Within.after (within_flashOverload ..) rfl ?_
      assumption
    · refine within_ite ?_ ?_
      · assumption
      · refine within_ite ?_ ?_
        · refine Within.after (within_slotResult ..) rfl ?_
          assumption
        · refine Within.after (within_slotInvalid ..) rfl ?_
          assumption

theorem within_waitPin (a0 : Nat) (s : State) : Within 131113 s (waitPin a0 s) := by
  unfold waitPin
  refine within_runStep ?_ ?_
  · intro y2 y3 y4 y5
    extract_lets x6 x7 x8
    clear_value x6
    clear_value x7
    clear_value x8
    refine within_blocking ?_ ?_ ?_ ?_
    · intro y9 y10
      refine Within.after (within_nextStep ..) rfl ?_
      assumption
    · rfl
    · rfl
    · refine within_ite ?_ ?_
      · assumption
      · refine Within.after (within_engMod ..) rfl ?_
        assumption
  · exact Within.refl _ _

theorem within_waitPos (a0 : Nat) (s : State) : Within 131113 s (waitPos a0 s) := by
  unfold waitPos
  refine within_runStep ?_ ?_
  · intro y2 y3 y4 y5
    split
    · refine within_blocking ?_ ?_ ?_ ?_
      · intro y10 y11
        refine Within.after (within_nextStep ..) rfl ?_
        assumption
      · rfl
      · rfl
      · assumption
    · extract_lets x10
      have hx10 : Within 131113 s x10 := by
        unfold x10
        refine within_ite ?_ ?_
        · assumption
        · refine Within.after (within_engMod ..) rfl ?_
          assumption
      clear_value x10
      refine within_blocking ?_ ?_ ?_ ?_
      · intro y12 y13
        refine Within.after (within_nextStep ..) rfl ?_
        assumption
      · rfl
      · rfl
      · assumption
    · assumption
  · exact Within.refl _ _

theorem within_waitSig (a0 : Nat) (s : State) : Within 131113 s (waitSig a0 s) := by
  unfold waitSig
  refine within_runStep ?_ ?_
  · intro y2 y3 y4 y5
    extract_lets x6 x7
    clear_value x6
    clear_value x7
    refine within_blocking ?_ ?_ ?_ ?_
    · intro y8 y9
      refine Within.after (within_nextStep ..) rfl ?_
      assumption
    · rfl
    · rfl
    · assumption
  · exact Within.refl _ _

theorem within_waitTime (a0 : Nat) (s : State) : Within 131113 s (waitTime a0 s) := by
  unfold waitTime
  refine within_runStep ?_ ?_
  · intro y2 y3 y4 y5
    split
    · refine within_blocking ?_ ?_ ?_ ?_
      · intro y10 y11
        refine Within.after (within_nextStep ..) rfl ?_
        assumption
      · rfl
      · rfl
      · assumption
    · refine within_blocking ?_ ?_ ?_ ?_
      · intro y10 y11
        refine Within.after (within_nextStep ..) rfl ?_
        assumption
      · rfl
      · rfl
      · assumption
    · refine Within.after (within_nextStep ..) rfl ?_
      refine Within.after (within_engMod ..) rfl ?_
      assumption
    · refine Within.after (within_nextStep ..) rfl ?_
      refine Within.after (within_engMod ..) rfl ?_
      assumption
    · refine Within.after (within_nextStep ..) rfl ?_
      refine Within.after (within_engMod ..) rfl ?_
      assumption
    · extract_lets x10
      clear_value x10
      refine within_blocking ?_ ?_ ?_ ?_
      · intro y11 y12
        refine Within.after (within_nextStep ..) rfl ?_
        assumption
      · rfl
      · rfl
      · refine Within.after (within_engMod ..) rfl ?_
        assumption
    · assumption
  · exact Within.refl _ _

theorem within_warmupEnd (s : State) : Within 161 s (warmupEnd s) := by
  unfold warmupEnd
  refine Within.after (within_enterRun ..) rfl ?_
  exact Within.refl _ _

theorem within_watchdogExpire (a0 : Nat) (s : State) : Within 2097151 s (watchdogExpire a0 s) := by
  unfold watchdogExpire
  refine within_ite ?_ ?_
  · exact Within.refl _ _
  · extract_lets x1
    have hx1 : Within 2097151 s x1 := by
      unfold x1
      split
      · refine Within.after (within_raiseAbout ..) rfl ?_
        exact Within.refl _ _
      · exact Within.refl _ _
    clear_value x1
    refine within_ite ?_ ?_
    · refine Within.after (within_restartNow ..) rfl ?_
      assumption
    · refine within_ite ?_ ?_
      · assumption
      · refine Within.after (within_autoReset ..) rfl ?_
        assumption

end Sys2Proof.Laws
end

