-- ==== Sys2Proof/Laws/State.lean ====
section
/-! SUPPORT. What each update of one component of the state leaves: one lemma per field and update, true by definition. -/

namespace Sys2Proof.Machine

/-! ### tbsMod -/

@[simp] theorem tbsMod_regs (f : Tbs → Tbs) (s : State) : (tbsMod f s).regs = s.regs := rfl
@[simp] theorem tbsMod_latched (f : Tbs → Tbs) (s : State) : (tbsMod f s).latched = s.latched := rfl
@[simp] theorem tbsMod_t (f : Tbs → Tbs) (s : State) : (tbsMod f s).t = s.t := rfl
@[simp] theorem tbsMod_tbs (f : Tbs → Tbs) (s : State) : (tbsMod f s).tbs = f s.tbs := rfl
@[simp] theorem tbsMod_grp (f : Tbs → Tbs) (s : State) : (tbsMod f s).grp = s.grp := rfl
@[simp] theorem tbsMod_evt (f : Tbs → Tbs) (s : State) : (tbsMod f s).evt = s.evt := rfl
@[simp] theorem tbsMod_rst (f : Tbs → Tbs) (s : State) : (tbsMod f s).rst = s.rst := rfl
@[simp] theorem tbsMod_mgt (f : Tbs → Tbs) (s : State) : (tbsMod f s).mgt = s.mgt := rfl
@[simp] theorem tbsMod_mb (f : Tbs → Tbs) (s : State) : (tbsMod f s).mb = s.mb := rfl
@[simp] theorem tbsMod_xw (f : Tbs → Tbs) (s : State) : (tbsMod f s).xw = s.xw := rfl
@[simp] theorem tbsMod_ary (f : Tbs → Tbs) (s : State) : (tbsMod f s).ary = s.ary := rfl
@[simp] theorem tbsMod_col (f : Tbs → Tbs) (s : State) : (tbsMod f s).col = s.col := rfl
@[simp] theorem tbsMod_pip (f : Tbs → Tbs) (s : State) : (tbsMod f s).pip = s.pip := rfl
@[simp] theorem tbsMod_vdt (f : Tbs → Tbs) (s : State) : (tbsMod f s).vdt = s.vdt := rfl
@[simp] theorem tbsMod_xwIn (f : Tbs → Tbs) (s : State) : (tbsMod f s).xwIn = s.xwIn := rfl
@[simp] theorem tbsMod_aux (f : Tbs → Tbs) (s : State) : (tbsMod f s).aux = s.aux := rfl
@[simp] theorem tbsMod_lnk (f : Tbs → Tbs) (s : State) : (tbsMod f s).lnk = s.lnk := rfl
@[simp] theorem tbsMod_pen (f : Tbs → Tbs) (s : State) : (tbsMod f s).pen = s.pen := rfl
@[simp] theorem tbsMod_nrg (f : Tbs → Tbs) (s : State) : (tbsMod f s).nrg = s.nrg := rfl
@[simp] theorem tbsMod_thm (f : Tbs → Tbs) (s : State) : (tbsMod f s).thm = s.thm := rfl
@[simp] theorem tbsMod_free (f : Tbs → Tbs) (s : State) : (tbsMod f s).free = s.free := rfl
@[simp] theorem tbsMod_pending (f : Tbs → Tbs) (s : State) : (tbsMod f s).pending = s.pending := rfl

/-! ### grpMod -/

@[simp] theorem grpMod_regs (f : Grp → Grp) (s : State) : (grpMod f s).regs = s.regs := rfl
@[simp] theorem grpMod_latched (f : Grp → Grp) (s : State) : (grpMod f s).latched = s.latched := rfl
@[simp] theorem grpMod_t (f : Grp → Grp) (s : State) : (grpMod f s).t = s.t := rfl
@[simp] theorem grpMod_tbs (f : Grp → Grp) (s : State) : (grpMod f s).tbs = s.tbs := rfl
@[simp] theorem grpMod_grp (f : Grp → Grp) (s : State) : (grpMod f s).grp = f s.grp := rfl
@[simp] theorem grpMod_evt (f : Grp → Grp) (s : State) : (grpMod f s).evt = s.evt := rfl
@[simp] theorem grpMod_rst (f : Grp → Grp) (s : State) : (grpMod f s).rst = s.rst := rfl
@[simp] theorem grpMod_mgt (f : Grp → Grp) (s : State) : (grpMod f s).mgt = s.mgt := rfl
@[simp] theorem grpMod_mb (f : Grp → Grp) (s : State) : (grpMod f s).mb = s.mb := rfl
@[simp] theorem grpMod_xw (f : Grp → Grp) (s : State) : (grpMod f s).xw = s.xw := rfl
@[simp] theorem grpMod_ary (f : Grp → Grp) (s : State) : (grpMod f s).ary = s.ary := rfl
@[simp] theorem grpMod_col (f : Grp → Grp) (s : State) : (grpMod f s).col = s.col := rfl
@[simp] theorem grpMod_pip (f : Grp → Grp) (s : State) : (grpMod f s).pip = s.pip := rfl
@[simp] theorem grpMod_vdt (f : Grp → Grp) (s : State) : (grpMod f s).vdt = s.vdt := rfl
@[simp] theorem grpMod_xwIn (f : Grp → Grp) (s : State) : (grpMod f s).xwIn = s.xwIn := rfl
@[simp] theorem grpMod_aux (f : Grp → Grp) (s : State) : (grpMod f s).aux = s.aux := rfl
@[simp] theorem grpMod_lnk (f : Grp → Grp) (s : State) : (grpMod f s).lnk = s.lnk := rfl
@[simp] theorem grpMod_pen (f : Grp → Grp) (s : State) : (grpMod f s).pen = s.pen := rfl
@[simp] theorem grpMod_nrg (f : Grp → Grp) (s : State) : (grpMod f s).nrg = s.nrg := rfl
@[simp] theorem grpMod_thm (f : Grp → Grp) (s : State) : (grpMod f s).thm = s.thm := rfl
@[simp] theorem grpMod_free (f : Grp → Grp) (s : State) : (grpMod f s).free = s.free := rfl
@[simp] theorem grpMod_pending (f : Grp → Grp) (s : State) : (grpMod f s).pending = s.pending := rfl

/-! ### mgtMod -/

@[simp] theorem mgtMod_regs (f : Mgt → Mgt) (s : State) : (mgtMod f s).regs = s.regs := rfl
@[simp] theorem mgtMod_latched (f : Mgt → Mgt) (s : State) : (mgtMod f s).latched = s.latched := rfl
@[simp] theorem mgtMod_t (f : Mgt → Mgt) (s : State) : (mgtMod f s).t = s.t := rfl
@[simp] theorem mgtMod_tbs (f : Mgt → Mgt) (s : State) : (mgtMod f s).tbs = s.tbs := rfl
@[simp] theorem mgtMod_grp (f : Mgt → Mgt) (s : State) : (mgtMod f s).grp = s.grp := rfl
@[simp] theorem mgtMod_evt (f : Mgt → Mgt) (s : State) : (mgtMod f s).evt = s.evt := rfl
@[simp] theorem mgtMod_rst (f : Mgt → Mgt) (s : State) : (mgtMod f s).rst = s.rst := rfl
@[simp] theorem mgtMod_mgt (f : Mgt → Mgt) (s : State) : (mgtMod f s).mgt = f s.mgt := rfl
@[simp] theorem mgtMod_mb (f : Mgt → Mgt) (s : State) : (mgtMod f s).mb = s.mb := rfl
@[simp] theorem mgtMod_xw (f : Mgt → Mgt) (s : State) : (mgtMod f s).xw = s.xw := rfl
@[simp] theorem mgtMod_ary (f : Mgt → Mgt) (s : State) : (mgtMod f s).ary = s.ary := rfl
@[simp] theorem mgtMod_col (f : Mgt → Mgt) (s : State) : (mgtMod f s).col = s.col := rfl
@[simp] theorem mgtMod_pip (f : Mgt → Mgt) (s : State) : (mgtMod f s).pip = s.pip := rfl
@[simp] theorem mgtMod_vdt (f : Mgt → Mgt) (s : State) : (mgtMod f s).vdt = s.vdt := rfl
@[simp] theorem mgtMod_xwIn (f : Mgt → Mgt) (s : State) : (mgtMod f s).xwIn = s.xwIn := rfl
@[simp] theorem mgtMod_aux (f : Mgt → Mgt) (s : State) : (mgtMod f s).aux = s.aux := rfl
@[simp] theorem mgtMod_lnk (f : Mgt → Mgt) (s : State) : (mgtMod f s).lnk = s.lnk := rfl
@[simp] theorem mgtMod_pen (f : Mgt → Mgt) (s : State) : (mgtMod f s).pen = s.pen := rfl
@[simp] theorem mgtMod_nrg (f : Mgt → Mgt) (s : State) : (mgtMod f s).nrg = s.nrg := rfl
@[simp] theorem mgtMod_thm (f : Mgt → Mgt) (s : State) : (mgtMod f s).thm = s.thm := rfl
@[simp] theorem mgtMod_free (f : Mgt → Mgt) (s : State) : (mgtMod f s).free = s.free := rfl
@[simp] theorem mgtMod_pending (f : Mgt → Mgt) (s : State) : (mgtMod f s).pending = s.pending := rfl

/-! ### mbMod -/

@[simp] theorem mbMod_regs (f : Mb → Mb) (s : State) : (mbMod f s).regs = s.regs := rfl
@[simp] theorem mbMod_latched (f : Mb → Mb) (s : State) : (mbMod f s).latched = s.latched := rfl
@[simp] theorem mbMod_t (f : Mb → Mb) (s : State) : (mbMod f s).t = s.t := rfl
@[simp] theorem mbMod_tbs (f : Mb → Mb) (s : State) : (mbMod f s).tbs = s.tbs := rfl
@[simp] theorem mbMod_grp (f : Mb → Mb) (s : State) : (mbMod f s).grp = s.grp := rfl
@[simp] theorem mbMod_evt (f : Mb → Mb) (s : State) : (mbMod f s).evt = s.evt := rfl
@[simp] theorem mbMod_rst (f : Mb → Mb) (s : State) : (mbMod f s).rst = s.rst := rfl
@[simp] theorem mbMod_mgt (f : Mb → Mb) (s : State) : (mbMod f s).mgt = s.mgt := rfl
@[simp] theorem mbMod_mb (f : Mb → Mb) (s : State) : (mbMod f s).mb = f s.mb := rfl
@[simp] theorem mbMod_xw (f : Mb → Mb) (s : State) : (mbMod f s).xw = s.xw := rfl
@[simp] theorem mbMod_ary (f : Mb → Mb) (s : State) : (mbMod f s).ary = s.ary := rfl
@[simp] theorem mbMod_col (f : Mb → Mb) (s : State) : (mbMod f s).col = s.col := rfl
@[simp] theorem mbMod_pip (f : Mb → Mb) (s : State) : (mbMod f s).pip = s.pip := rfl
@[simp] theorem mbMod_vdt (f : Mb → Mb) (s : State) : (mbMod f s).vdt = s.vdt := rfl
@[simp] theorem mbMod_xwIn (f : Mb → Mb) (s : State) : (mbMod f s).xwIn = s.xwIn := rfl
@[simp] theorem mbMod_aux (f : Mb → Mb) (s : State) : (mbMod f s).aux = s.aux := rfl
@[simp] theorem mbMod_lnk (f : Mb → Mb) (s : State) : (mbMod f s).lnk = s.lnk := rfl
@[simp] theorem mbMod_pen (f : Mb → Mb) (s : State) : (mbMod f s).pen = s.pen := rfl
@[simp] theorem mbMod_nrg (f : Mb → Mb) (s : State) : (mbMod f s).nrg = s.nrg := rfl
@[simp] theorem mbMod_thm (f : Mb → Mb) (s : State) : (mbMod f s).thm = s.thm := rfl
@[simp] theorem mbMod_free (f : Mb → Mb) (s : State) : (mbMod f s).free = s.free := rfl
@[simp] theorem mbMod_pending (f : Mb → Mb) (s : State) : (mbMod f s).pending = s.pending := rfl

/-! ### aryMod -/

@[simp] theorem aryMod_regs (f : Ary → Ary) (s : State) : (aryMod f s).regs = s.regs := rfl
@[simp] theorem aryMod_latched (f : Ary → Ary) (s : State) : (aryMod f s).latched = s.latched := rfl
@[simp] theorem aryMod_t (f : Ary → Ary) (s : State) : (aryMod f s).t = s.t := rfl
@[simp] theorem aryMod_tbs (f : Ary → Ary) (s : State) : (aryMod f s).tbs = s.tbs := rfl
@[simp] theorem aryMod_grp (f : Ary → Ary) (s : State) : (aryMod f s).grp = s.grp := rfl
@[simp] theorem aryMod_evt (f : Ary → Ary) (s : State) : (aryMod f s).evt = s.evt := rfl
@[simp] theorem aryMod_rst (f : Ary → Ary) (s : State) : (aryMod f s).rst = s.rst := rfl
@[simp] theorem aryMod_mgt (f : Ary → Ary) (s : State) : (aryMod f s).mgt = s.mgt := rfl
@[simp] theorem aryMod_mb (f : Ary → Ary) (s : State) : (aryMod f s).mb = s.mb := rfl
@[simp] theorem aryMod_xw (f : Ary → Ary) (s : State) : (aryMod f s).xw = s.xw := rfl
@[simp] theorem aryMod_ary (f : Ary → Ary) (s : State) : (aryMod f s).ary = f s.ary := rfl
@[simp] theorem aryMod_col (f : Ary → Ary) (s : State) : (aryMod f s).col = s.col := rfl
@[simp] theorem aryMod_pip (f : Ary → Ary) (s : State) : (aryMod f s).pip = s.pip := rfl
@[simp] theorem aryMod_vdt (f : Ary → Ary) (s : State) : (aryMod f s).vdt = s.vdt := rfl
@[simp] theorem aryMod_xwIn (f : Ary → Ary) (s : State) : (aryMod f s).xwIn = s.xwIn := rfl
@[simp] theorem aryMod_aux (f : Ary → Ary) (s : State) : (aryMod f s).aux = s.aux := rfl
@[simp] theorem aryMod_lnk (f : Ary → Ary) (s : State) : (aryMod f s).lnk = s.lnk := rfl
@[simp] theorem aryMod_pen (f : Ary → Ary) (s : State) : (aryMod f s).pen = s.pen := rfl
@[simp] theorem aryMod_nrg (f : Ary → Ary) (s : State) : (aryMod f s).nrg = s.nrg := rfl
@[simp] theorem aryMod_thm (f : Ary → Ary) (s : State) : (aryMod f s).thm = s.thm := rfl
@[simp] theorem aryMod_free (f : Ary → Ary) (s : State) : (aryMod f s).free = s.free := rfl
@[simp] theorem aryMod_pending (f : Ary → Ary) (s : State) : (aryMod f s).pending = s.pending := rfl

/-! ### pipMod -/

@[simp] theorem pipMod_regs (f : Pip → Pip) (s : State) : (pipMod f s).regs = s.regs := rfl
@[simp] theorem pipMod_latched (f : Pip → Pip) (s : State) : (pipMod f s).latched = s.latched := rfl
@[simp] theorem pipMod_t (f : Pip → Pip) (s : State) : (pipMod f s).t = s.t := rfl
@[simp] theorem pipMod_tbs (f : Pip → Pip) (s : State) : (pipMod f s).tbs = s.tbs := rfl
@[simp] theorem pipMod_grp (f : Pip → Pip) (s : State) : (pipMod f s).grp = s.grp := rfl
@[simp] theorem pipMod_evt (f : Pip → Pip) (s : State) : (pipMod f s).evt = s.evt := rfl
@[simp] theorem pipMod_rst (f : Pip → Pip) (s : State) : (pipMod f s).rst = s.rst := rfl
@[simp] theorem pipMod_mgt (f : Pip → Pip) (s : State) : (pipMod f s).mgt = s.mgt := rfl
@[simp] theorem pipMod_mb (f : Pip → Pip) (s : State) : (pipMod f s).mb = s.mb := rfl
@[simp] theorem pipMod_xw (f : Pip → Pip) (s : State) : (pipMod f s).xw = s.xw := rfl
@[simp] theorem pipMod_ary (f : Pip → Pip) (s : State) : (pipMod f s).ary = s.ary := rfl
@[simp] theorem pipMod_col (f : Pip → Pip) (s : State) : (pipMod f s).col = s.col := rfl
@[simp] theorem pipMod_pip (f : Pip → Pip) (s : State) : (pipMod f s).pip = f s.pip := rfl
@[simp] theorem pipMod_vdt (f : Pip → Pip) (s : State) : (pipMod f s).vdt = s.vdt := rfl
@[simp] theorem pipMod_xwIn (f : Pip → Pip) (s : State) : (pipMod f s).xwIn = s.xwIn := rfl
@[simp] theorem pipMod_aux (f : Pip → Pip) (s : State) : (pipMod f s).aux = s.aux := rfl
@[simp] theorem pipMod_lnk (f : Pip → Pip) (s : State) : (pipMod f s).lnk = s.lnk := rfl
@[simp] theorem pipMod_pen (f : Pip → Pip) (s : State) : (pipMod f s).pen = s.pen := rfl
@[simp] theorem pipMod_nrg (f : Pip → Pip) (s : State) : (pipMod f s).nrg = s.nrg := rfl
@[simp] theorem pipMod_thm (f : Pip → Pip) (s : State) : (pipMod f s).thm = s.thm := rfl
@[simp] theorem pipMod_free (f : Pip → Pip) (s : State) : (pipMod f s).free = s.free := rfl
@[simp] theorem pipMod_pending (f : Pip → Pip) (s : State) : (pipMod f s).pending = s.pending := rfl

/-! ### vdtMod -/

@[simp] theorem vdtMod_regs (f : Vdt → Vdt) (s : State) : (vdtMod f s).regs = s.regs := rfl
@[simp] theorem vdtMod_latched (f : Vdt → Vdt) (s : State) : (vdtMod f s).latched = s.latched := rfl
@[simp] theorem vdtMod_t (f : Vdt → Vdt) (s : State) : (vdtMod f s).t = s.t := rfl
@[simp] theorem vdtMod_tbs (f : Vdt → Vdt) (s : State) : (vdtMod f s).tbs = s.tbs := rfl
@[simp] theorem vdtMod_grp (f : Vdt → Vdt) (s : State) : (vdtMod f s).grp = s.grp := rfl
@[simp] theorem vdtMod_evt (f : Vdt → Vdt) (s : State) : (vdtMod f s).evt = s.evt := rfl
@[simp] theorem vdtMod_rst (f : Vdt → Vdt) (s : State) : (vdtMod f s).rst = s.rst := rfl
@[simp] theorem vdtMod_mgt (f : Vdt → Vdt) (s : State) : (vdtMod f s).mgt = s.mgt := rfl
@[simp] theorem vdtMod_mb (f : Vdt → Vdt) (s : State) : (vdtMod f s).mb = s.mb := rfl
@[simp] theorem vdtMod_xw (f : Vdt → Vdt) (s : State) : (vdtMod f s).xw = s.xw := rfl
@[simp] theorem vdtMod_ary (f : Vdt → Vdt) (s : State) : (vdtMod f s).ary = s.ary := rfl
@[simp] theorem vdtMod_col (f : Vdt → Vdt) (s : State) : (vdtMod f s).col = s.col := rfl
@[simp] theorem vdtMod_pip (f : Vdt → Vdt) (s : State) : (vdtMod f s).pip = s.pip := rfl
@[simp] theorem vdtMod_vdt (f : Vdt → Vdt) (s : State) : (vdtMod f s).vdt = f s.vdt := rfl
@[simp] theorem vdtMod_xwIn (f : Vdt → Vdt) (s : State) : (vdtMod f s).xwIn = s.xwIn := rfl
@[simp] theorem vdtMod_aux (f : Vdt → Vdt) (s : State) : (vdtMod f s).aux = s.aux := rfl
@[simp] theorem vdtMod_lnk (f : Vdt → Vdt) (s : State) : (vdtMod f s).lnk = s.lnk := rfl
@[simp] theorem vdtMod_pen (f : Vdt → Vdt) (s : State) : (vdtMod f s).pen = s.pen := rfl
@[simp] theorem vdtMod_nrg (f : Vdt → Vdt) (s : State) : (vdtMod f s).nrg = s.nrg := rfl
@[simp] theorem vdtMod_thm (f : Vdt → Vdt) (s : State) : (vdtMod f s).thm = s.thm := rfl
@[simp] theorem vdtMod_free (f : Vdt → Vdt) (s : State) : (vdtMod f s).free = s.free := rfl
@[simp] theorem vdtMod_pending (f : Vdt → Vdt) (s : State) : (vdtMod f s).pending = s.pending := rfl

/-! ### lnkMod -/

@[simp] theorem lnkMod_regs (f : Lnk → Lnk) (s : State) : (lnkMod f s).regs = s.regs := rfl
@[simp] theorem lnkMod_latched (f : Lnk → Lnk) (s : State) : (lnkMod f s).latched = s.latched := rfl
@[simp] theorem lnkMod_t (f : Lnk → Lnk) (s : State) : (lnkMod f s).t = s.t := rfl
@[simp] theorem lnkMod_tbs (f : Lnk → Lnk) (s : State) : (lnkMod f s).tbs = s.tbs := rfl
@[simp] theorem lnkMod_grp (f : Lnk → Lnk) (s : State) : (lnkMod f s).grp = s.grp := rfl
@[simp] theorem lnkMod_evt (f : Lnk → Lnk) (s : State) : (lnkMod f s).evt = s.evt := rfl
@[simp] theorem lnkMod_rst (f : Lnk → Lnk) (s : State) : (lnkMod f s).rst = s.rst := rfl
@[simp] theorem lnkMod_mgt (f : Lnk → Lnk) (s : State) : (lnkMod f s).mgt = s.mgt := rfl
@[simp] theorem lnkMod_mb (f : Lnk → Lnk) (s : State) : (lnkMod f s).mb = s.mb := rfl
@[simp] theorem lnkMod_xw (f : Lnk → Lnk) (s : State) : (lnkMod f s).xw = s.xw := rfl
@[simp] theorem lnkMod_ary (f : Lnk → Lnk) (s : State) : (lnkMod f s).ary = s.ary := rfl
@[simp] theorem lnkMod_col (f : Lnk → Lnk) (s : State) : (lnkMod f s).col = s.col := rfl
@[simp] theorem lnkMod_pip (f : Lnk → Lnk) (s : State) : (lnkMod f s).pip = s.pip := rfl
@[simp] theorem lnkMod_vdt (f : Lnk → Lnk) (s : State) : (lnkMod f s).vdt = s.vdt := rfl
@[simp] theorem lnkMod_xwIn (f : Lnk → Lnk) (s : State) : (lnkMod f s).xwIn = s.xwIn := rfl
@[simp] theorem lnkMod_aux (f : Lnk → Lnk) (s : State) : (lnkMod f s).aux = s.aux := rfl
@[simp] theorem lnkMod_lnk (f : Lnk → Lnk) (s : State) : (lnkMod f s).lnk = f s.lnk := rfl
@[simp] theorem lnkMod_pen (f : Lnk → Lnk) (s : State) : (lnkMod f s).pen = s.pen := rfl
@[simp] theorem lnkMod_nrg (f : Lnk → Lnk) (s : State) : (lnkMod f s).nrg = s.nrg := rfl
@[simp] theorem lnkMod_thm (f : Lnk → Lnk) (s : State) : (lnkMod f s).thm = s.thm := rfl
@[simp] theorem lnkMod_free (f : Lnk → Lnk) (s : State) : (lnkMod f s).free = s.free := rfl
@[simp] theorem lnkMod_pending (f : Lnk → Lnk) (s : State) : (lnkMod f s).pending = s.pending := rfl

/-! ### penMod -/

@[simp] theorem penMod_regs (f : Pen → Pen) (s : State) : (penMod f s).regs = s.regs := rfl
@[simp] theorem penMod_latched (f : Pen → Pen) (s : State) : (penMod f s).latched = s.latched := rfl
@[simp] theorem penMod_t (f : Pen → Pen) (s : State) : (penMod f s).t = s.t := rfl
@[simp] theorem penMod_tbs (f : Pen → Pen) (s : State) : (penMod f s).tbs = s.tbs := rfl
@[simp] theorem penMod_grp (f : Pen → Pen) (s : State) : (penMod f s).grp = s.grp := rfl
@[simp] theorem penMod_evt (f : Pen → Pen) (s : State) : (penMod f s).evt = s.evt := rfl
@[simp] theorem penMod_rst (f : Pen → Pen) (s : State) : (penMod f s).rst = s.rst := rfl
@[simp] theorem penMod_mgt (f : Pen → Pen) (s : State) : (penMod f s).mgt = s.mgt := rfl
@[simp] theorem penMod_mb (f : Pen → Pen) (s : State) : (penMod f s).mb = s.mb := rfl
@[simp] theorem penMod_xw (f : Pen → Pen) (s : State) : (penMod f s).xw = s.xw := rfl
@[simp] theorem penMod_ary (f : Pen → Pen) (s : State) : (penMod f s).ary = s.ary := rfl
@[simp] theorem penMod_col (f : Pen → Pen) (s : State) : (penMod f s).col = s.col := rfl
@[simp] theorem penMod_pip (f : Pen → Pen) (s : State) : (penMod f s).pip = s.pip := rfl
@[simp] theorem penMod_vdt (f : Pen → Pen) (s : State) : (penMod f s).vdt = s.vdt := rfl
@[simp] theorem penMod_xwIn (f : Pen → Pen) (s : State) : (penMod f s).xwIn = s.xwIn := rfl
@[simp] theorem penMod_aux (f : Pen → Pen) (s : State) : (penMod f s).aux = s.aux := rfl
@[simp] theorem penMod_lnk (f : Pen → Pen) (s : State) : (penMod f s).lnk = s.lnk := rfl
@[simp] theorem penMod_pen (f : Pen → Pen) (s : State) : (penMod f s).pen = f s.pen := rfl
@[simp] theorem penMod_nrg (f : Pen → Pen) (s : State) : (penMod f s).nrg = s.nrg := rfl
@[simp] theorem penMod_thm (f : Pen → Pen) (s : State) : (penMod f s).thm = s.thm := rfl
@[simp] theorem penMod_free (f : Pen → Pen) (s : State) : (penMod f s).free = s.free := rfl
@[simp] theorem penMod_pending (f : Pen → Pen) (s : State) : (penMod f s).pending = s.pending := rfl

/-! ### nrgMod -/

@[simp] theorem nrgMod_regs (f : Nrg → Nrg) (s : State) : (nrgMod f s).regs = s.regs := rfl
@[simp] theorem nrgMod_latched (f : Nrg → Nrg) (s : State) : (nrgMod f s).latched = s.latched := rfl
@[simp] theorem nrgMod_t (f : Nrg → Nrg) (s : State) : (nrgMod f s).t = s.t := rfl
@[simp] theorem nrgMod_tbs (f : Nrg → Nrg) (s : State) : (nrgMod f s).tbs = s.tbs := rfl
@[simp] theorem nrgMod_grp (f : Nrg → Nrg) (s : State) : (nrgMod f s).grp = s.grp := rfl
@[simp] theorem nrgMod_evt (f : Nrg → Nrg) (s : State) : (nrgMod f s).evt = s.evt := rfl
@[simp] theorem nrgMod_rst (f : Nrg → Nrg) (s : State) : (nrgMod f s).rst = s.rst := rfl
@[simp] theorem nrgMod_mgt (f : Nrg → Nrg) (s : State) : (nrgMod f s).mgt = s.mgt := rfl
@[simp] theorem nrgMod_mb (f : Nrg → Nrg) (s : State) : (nrgMod f s).mb = s.mb := rfl
@[simp] theorem nrgMod_xw (f : Nrg → Nrg) (s : State) : (nrgMod f s).xw = s.xw := rfl
@[simp] theorem nrgMod_ary (f : Nrg → Nrg) (s : State) : (nrgMod f s).ary = s.ary := rfl
@[simp] theorem nrgMod_col (f : Nrg → Nrg) (s : State) : (nrgMod f s).col = s.col := rfl
@[simp] theorem nrgMod_pip (f : Nrg → Nrg) (s : State) : (nrgMod f s).pip = s.pip := rfl
@[simp] theorem nrgMod_vdt (f : Nrg → Nrg) (s : State) : (nrgMod f s).vdt = s.vdt := rfl
@[simp] theorem nrgMod_xwIn (f : Nrg → Nrg) (s : State) : (nrgMod f s).xwIn = s.xwIn := rfl
@[simp] theorem nrgMod_aux (f : Nrg → Nrg) (s : State) : (nrgMod f s).aux = s.aux := rfl
@[simp] theorem nrgMod_lnk (f : Nrg → Nrg) (s : State) : (nrgMod f s).lnk = s.lnk := rfl
@[simp] theorem nrgMod_pen (f : Nrg → Nrg) (s : State) : (nrgMod f s).pen = s.pen := rfl
@[simp] theorem nrgMod_nrg (f : Nrg → Nrg) (s : State) : (nrgMod f s).nrg = f s.nrg := rfl
@[simp] theorem nrgMod_thm (f : Nrg → Nrg) (s : State) : (nrgMod f s).thm = s.thm := rfl
@[simp] theorem nrgMod_free (f : Nrg → Nrg) (s : State) : (nrgMod f s).free = s.free := rfl
@[simp] theorem nrgMod_pending (f : Nrg → Nrg) (s : State) : (nrgMod f s).pending = s.pending := rfl

/-! ### thmMod -/

@[simp] theorem thmMod_regs (f : Thm → Thm) (s : State) : (thmMod f s).regs = s.regs := rfl
@[simp] theorem thmMod_latched (f : Thm → Thm) (s : State) : (thmMod f s).latched = s.latched := rfl
@[simp] theorem thmMod_t (f : Thm → Thm) (s : State) : (thmMod f s).t = s.t := rfl
@[simp] theorem thmMod_tbs (f : Thm → Thm) (s : State) : (thmMod f s).tbs = s.tbs := rfl
@[simp] theorem thmMod_grp (f : Thm → Thm) (s : State) : (thmMod f s).grp = s.grp := rfl
@[simp] theorem thmMod_evt (f : Thm → Thm) (s : State) : (thmMod f s).evt = s.evt := rfl
@[simp] theorem thmMod_rst (f : Thm → Thm) (s : State) : (thmMod f s).rst = s.rst := rfl
@[simp] theorem thmMod_mgt (f : Thm → Thm) (s : State) : (thmMod f s).mgt = s.mgt := rfl
@[simp] theorem thmMod_mb (f : Thm → Thm) (s : State) : (thmMod f s).mb = s.mb := rfl
@[simp] theorem thmMod_xw (f : Thm → Thm) (s : State) : (thmMod f s).xw = s.xw := rfl
@[simp] theorem thmMod_ary (f : Thm → Thm) (s : State) : (thmMod f s).ary = s.ary := rfl
@[simp] theorem thmMod_col (f : Thm → Thm) (s : State) : (thmMod f s).col = s.col := rfl
@[simp] theorem thmMod_pip (f : Thm → Thm) (s : State) : (thmMod f s).pip = s.pip := rfl
@[simp] theorem thmMod_vdt (f : Thm → Thm) (s : State) : (thmMod f s).vdt = s.vdt := rfl
@[simp] theorem thmMod_xwIn (f : Thm → Thm) (s : State) : (thmMod f s).xwIn = s.xwIn := rfl
@[simp] theorem thmMod_aux (f : Thm → Thm) (s : State) : (thmMod f s).aux = s.aux := rfl
@[simp] theorem thmMod_lnk (f : Thm → Thm) (s : State) : (thmMod f s).lnk = s.lnk := rfl
@[simp] theorem thmMod_pen (f : Thm → Thm) (s : State) : (thmMod f s).pen = s.pen := rfl
@[simp] theorem thmMod_nrg (f : Thm → Thm) (s : State) : (thmMod f s).nrg = s.nrg := rfl
@[simp] theorem thmMod_thm (f : Thm → Thm) (s : State) : (thmMod f s).thm = f s.thm := rfl
@[simp] theorem thmMod_free (f : Thm → Thm) (s : State) : (thmMod f s).free = s.free := rfl
@[simp] theorem thmMod_pending (f : Thm → Thm) (s : State) : (thmMod f s).pending = s.pending := rfl

/-! ### rcdMod -/

@[simp] theorem rcdMod_rcd (f : Recorder → Recorder) (s : State) : (rcdMod f s).evt.rcd = f s.evt.rcd := rfl
@[simp] theorem rcdMod_regs (f : Recorder → Recorder) (s : State) : (rcdMod f s).regs = s.regs := rfl
@[simp] theorem rcdMod_latched (f : Recorder → Recorder) (s : State) : (rcdMod f s).latched = s.latched := rfl
@[simp] theorem rcdMod_t (f : Recorder → Recorder) (s : State) : (rcdMod f s).t = s.t := rfl
@[simp] theorem rcdMod_tbs (f : Recorder → Recorder) (s : State) : (rcdMod f s).tbs = s.tbs := rfl
@[simp] theorem rcdMod_grp (f : Recorder → Recorder) (s : State) : (rcdMod f s).grp = s.grp := rfl
@[simp] theorem rcdMod_rst (f : Recorder → Recorder) (s : State) : (rcdMod f s).rst = s.rst := rfl
@[simp] theorem rcdMod_mgt (f : Recorder → Recorder) (s : State) : (rcdMod f s).mgt = s.mgt := rfl
@[simp] theorem rcdMod_mb (f : Recorder → Recorder) (s : State) : (rcdMod f s).mb = s.mb := rfl
@[simp] theorem rcdMod_xw (f : Recorder → Recorder) (s : State) : (rcdMod f s).xw = s.xw := rfl
@[simp] theorem rcdMod_ary (f : Recorder → Recorder) (s : State) : (rcdMod f s).ary = s.ary := rfl
@[simp] theorem rcdMod_col (f : Recorder → Recorder) (s : State) : (rcdMod f s).col = s.col := rfl
@[simp] theorem rcdMod_pip (f : Recorder → Recorder) (s : State) : (rcdMod f s).pip = s.pip := rfl
@[simp] theorem rcdMod_vdt (f : Recorder → Recorder) (s : State) : (rcdMod f s).vdt = s.vdt := rfl
@[simp] theorem rcdMod_xwIn (f : Recorder → Recorder) (s : State) : (rcdMod f s).xwIn = s.xwIn := rfl
@[simp] theorem rcdMod_aux (f : Recorder → Recorder) (s : State) : (rcdMod f s).aux = s.aux := rfl
@[simp] theorem rcdMod_lnk (f : Recorder → Recorder) (s : State) : (rcdMod f s).lnk = s.lnk := rfl
@[simp] theorem rcdMod_pen (f : Recorder → Recorder) (s : State) : (rcdMod f s).pen = s.pen := rfl
@[simp] theorem rcdMod_nrg (f : Recorder → Recorder) (s : State) : (rcdMod f s).nrg = s.nrg := rfl
@[simp] theorem rcdMod_thm (f : Recorder → Recorder) (s : State) : (rcdMod f s).thm = s.thm := rfl
@[simp] theorem rcdMod_free (f : Recorder → Recorder) (s : State) : (rcdMod f s).free = s.free := rfl
@[simp] theorem rcdMod_pending (f : Recorder → Recorder) (s : State) : (rcdMod f s).pending = s.pending := rfl

/-! ### rset -/

@[simp] theorem rset_latched (s : State) (a v : Nat) : (rset s a v).latched = s.latched := rfl
@[simp] theorem rset_t (s : State) (a v : Nat) : (rset s a v).t = s.t := rfl
@[simp] theorem rset_tbs (s : State) (a v : Nat) : (rset s a v).tbs = s.tbs := rfl
@[simp] theorem rset_grp (s : State) (a v : Nat) : (rset s a v).grp = s.grp := rfl
@[simp] theorem rset_evt (s : State) (a v : Nat) : (rset s a v).evt = s.evt := rfl
@[simp] theorem rset_rst (s : State) (a v : Nat) : (rset s a v).rst = s.rst := rfl
@[simp] theorem rset_mgt (s : State) (a v : Nat) : (rset s a v).mgt = s.mgt := rfl
@[simp] theorem rset_mb (s : State) (a v : Nat) : (rset s a v).mb = s.mb := rfl
@[simp] theorem rset_xw (s : State) (a v : Nat) : (rset s a v).xw = s.xw := rfl
@[simp] theorem rset_ary (s : State) (a v : Nat) : (rset s a v).ary = s.ary := rfl
@[simp] theorem rset_col (s : State) (a v : Nat) : (rset s a v).col = s.col := rfl
@[simp] theorem rset_pip (s : State) (a v : Nat) : (rset s a v).pip = s.pip := rfl
@[simp] theorem rset_vdt (s : State) (a v : Nat) : (rset s a v).vdt = s.vdt := rfl
@[simp] theorem rset_xwIn (s : State) (a v : Nat) : (rset s a v).xwIn = s.xwIn := rfl
@[simp] theorem rset_aux (s : State) (a v : Nat) : (rset s a v).aux = s.aux := rfl
@[simp] theorem rset_lnk (s : State) (a v : Nat) : (rset s a v).lnk = s.lnk := rfl
@[simp] theorem rset_pen (s : State) (a v : Nat) : (rset s a v).pen = s.pen := rfl
@[simp] theorem rset_nrg (s : State) (a v : Nat) : (rset s a v).nrg = s.nrg := rfl
@[simp] theorem rset_thm (s : State) (a v : Nat) : (rset s a v).thm = s.thm := rfl
@[simp] theorem rset_free (s : State) (a v : Nat) : (rset s a v).free = s.free := rfl
@[simp] theorem rset_pending (s : State) (a v : Nat) : (rset s a v).pending = s.pending := rfl

/-! ### rfset -/

@[simp] theorem rfset_latched (s : State) (a hi lo v : Nat) : (rfset s a hi lo v).latched = s.latched := rfl
@[simp] theorem rfset_t (s : State) (a hi lo v : Nat) : (rfset s a hi lo v).t = s.t := rfl
@[simp] theorem rfset_tbs (s : State) (a hi lo v : Nat) : (rfset s a hi lo v).tbs = s.tbs := rfl
@[simp] theorem rfset_grp (s : State) (a hi lo v : Nat) : (rfset s a hi lo v).grp = s.grp := rfl
@[simp] theorem rfset_evt (s : State) (a hi lo v : Nat) : (rfset s a hi lo v).evt = s.evt := rfl
@[simp] theorem rfset_rst (s : State) (a hi lo v : Nat) : (rfset s a hi lo v).rst = s.rst := rfl
@[simp] theorem rfset_mgt (s : State) (a hi lo v : Nat) : (rfset s a hi lo v).mgt = s.mgt := rfl
@[simp] theorem rfset_mb (s : State) (a hi lo v : Nat) : (rfset s a hi lo v).mb = s.mb := rfl
@[simp] theorem rfset_xw (s : State) (a hi lo v : Nat) : (rfset s a hi lo v).xw = s.xw := rfl
@[simp] theorem rfset_ary (s : State) (a hi lo v : Nat) : (rfset s a hi lo v).ary = s.ary := rfl
@[simp] theorem rfset_col (s : State) (a hi lo v : Nat) : (rfset s a hi lo v).col = s.col := rfl
@[simp] theorem rfset_pip (s : State) (a hi lo v : Nat) : (rfset s a hi lo v).pip = s.pip := rfl
@[simp] theorem rfset_vdt (s : State) (a hi lo v : Nat) : (rfset s a hi lo v).vdt = s.vdt := rfl
@[simp] theorem rfset_xwIn (s : State) (a hi lo v : Nat) : (rfset s a hi lo v).xwIn = s.xwIn := rfl
@[simp] theorem rfset_aux (s : State) (a hi lo v : Nat) : (rfset s a hi lo v).aux = s.aux := rfl
@[simp] theorem rfset_lnk (s : State) (a hi lo v : Nat) : (rfset s a hi lo v).lnk = s.lnk := rfl
@[simp] theorem rfset_pen (s : State) (a hi lo v : Nat) : (rfset s a hi lo v).pen = s.pen := rfl
@[simp] theorem rfset_nrg (s : State) (a hi lo v : Nat) : (rfset s a hi lo v).nrg = s.nrg := rfl
@[simp] theorem rfset_thm (s : State) (a hi lo v : Nat) : (rfset s a hi lo v).thm = s.thm := rfl
@[simp] theorem rfset_free (s : State) (a hi lo v : Nat) : (rfset s a hi lo v).free = s.free := rfl
@[simp] theorem rfset_pending (s : State) (a hi lo v : Nat) : (rfset s a hi lo v).pending = s.pending := rfl

/-! ### rsat -/

@[simp] theorem rsat_latched (s : State) (a hi lo n : Nat) : (rsat s a hi lo n).latched = s.latched := rfl
@[simp] theorem rsat_t (s : State) (a hi lo n : Nat) : (rsat s a hi lo n).t = s.t := rfl
@[simp] theorem rsat_tbs (s : State) (a hi lo n : Nat) : (rsat s a hi lo n).tbs = s.tbs := rfl
@[simp] theorem rsat_grp (s : State) (a hi lo n : Nat) : (rsat s a hi lo n).grp = s.grp := rfl
@[simp] theorem rsat_evt (s : State) (a hi lo n : Nat) : (rsat s a hi lo n).evt = s.evt := rfl
@[simp] theorem rsat_rst (s : State) (a hi lo n : Nat) : (rsat s a hi lo n).rst = s.rst := rfl
@[simp] theorem rsat_mgt (s : State) (a hi lo n : Nat) : (rsat s a hi lo n).mgt = s.mgt := rfl
@[simp] theorem rsat_mb (s : State) (a hi lo n : Nat) : (rsat s a hi lo n).mb = s.mb := rfl
@[simp] theorem rsat_xw (s : State) (a hi lo n : Nat) : (rsat s a hi lo n).xw = s.xw := rfl
@[simp] theorem rsat_ary (s : State) (a hi lo n : Nat) : (rsat s a hi lo n).ary = s.ary := rfl
@[simp] theorem rsat_col (s : State) (a hi lo n : Nat) : (rsat s a hi lo n).col = s.col := rfl
@[simp] theorem rsat_pip (s : State) (a hi lo n : Nat) : (rsat s a hi lo n).pip = s.pip := rfl
@[simp] theorem rsat_vdt (s : State) (a hi lo n : Nat) : (rsat s a hi lo n).vdt = s.vdt := rfl
@[simp] theorem rsat_xwIn (s : State) (a hi lo n : Nat) : (rsat s a hi lo n).xwIn = s.xwIn := rfl
@[simp] theorem rsat_aux (s : State) (a hi lo n : Nat) : (rsat s a hi lo n).aux = s.aux := rfl
@[simp] theorem rsat_lnk (s : State) (a hi lo n : Nat) : (rsat s a hi lo n).lnk = s.lnk := rfl
@[simp] theorem rsat_pen (s : State) (a hi lo n : Nat) : (rsat s a hi lo n).pen = s.pen := rfl
@[simp] theorem rsat_nrg (s : State) (a hi lo n : Nat) : (rsat s a hi lo n).nrg = s.nrg := rfl
@[simp] theorem rsat_thm (s : State) (a hi lo n : Nat) : (rsat s a hi lo n).thm = s.thm := rfl
@[simp] theorem rsat_free (s : State) (a hi lo n : Nat) : (rsat s a hi lo n).free = s.free := rfl
@[simp] theorem rsat_pending (s : State) (a hi lo n : Nat) : (rsat s a hi lo n).pending = s.pending := rfl

/-! ### rwrap -/

@[simp] theorem rwrap_latched (s : State) (a hi lo n : Nat) : (rwrap s a hi lo n).latched = s.latched := rfl
@[simp] theorem rwrap_t (s : State) (a hi lo n : Nat) : (rwrap s a hi lo n).t = s.t := rfl
@[simp] theorem rwrap_tbs (s : State) (a hi lo n : Nat) : (rwrap s a hi lo n).tbs = s.tbs := rfl
@[simp] theorem rwrap_grp (s : State) (a hi lo n : Nat) : (rwrap s a hi lo n).grp = s.grp := rfl
@[simp] theorem rwrap_evt (s : State) (a hi lo n : Nat) : (rwrap s a hi lo n).evt = s.evt := rfl
@[simp] theorem rwrap_rst (s : State) (a hi lo n : Nat) : (rwrap s a hi lo n).rst = s.rst := rfl
@[simp] theorem rwrap_mgt (s : State) (a hi lo n : Nat) : (rwrap s a hi lo n).mgt = s.mgt := rfl
@[simp] theorem rwrap_mb (s : State) (a hi lo n : Nat) : (rwrap s a hi lo n).mb = s.mb := rfl
@[simp] theorem rwrap_xw (s : State) (a hi lo n : Nat) : (rwrap s a hi lo n).xw = s.xw := rfl
@[simp] theorem rwrap_ary (s : State) (a hi lo n : Nat) : (rwrap s a hi lo n).ary = s.ary := rfl
@[simp] theorem rwrap_col (s : State) (a hi lo n : Nat) : (rwrap s a hi lo n).col = s.col := rfl
@[simp] theorem rwrap_pip (s : State) (a hi lo n : Nat) : (rwrap s a hi lo n).pip = s.pip := rfl
@[simp] theorem rwrap_vdt (s : State) (a hi lo n : Nat) : (rwrap s a hi lo n).vdt = s.vdt := rfl
@[simp] theorem rwrap_xwIn (s : State) (a hi lo n : Nat) : (rwrap s a hi lo n).xwIn = s.xwIn := rfl
@[simp] theorem rwrap_aux (s : State) (a hi lo n : Nat) : (rwrap s a hi lo n).aux = s.aux := rfl
@[simp] theorem rwrap_lnk (s : State) (a hi lo n : Nat) : (rwrap s a hi lo n).lnk = s.lnk := rfl
@[simp] theorem rwrap_pen (s : State) (a hi lo n : Nat) : (rwrap s a hi lo n).pen = s.pen := rfl
@[simp] theorem rwrap_nrg (s : State) (a hi lo n : Nat) : (rwrap s a hi lo n).nrg = s.nrg := rfl
@[simp] theorem rwrap_thm (s : State) (a hi lo n : Nat) : (rwrap s a hi lo n).thm = s.thm := rfl
@[simp] theorem rwrap_free (s : State) (a hi lo n : Nat) : (rwrap s a hi lo n).free = s.free := rfl
@[simp] theorem rwrap_pending (s : State) (a hi lo n : Nat) : (rwrap s a hi lo n).pending = s.pending := rfl

/-! ### rmax -/

@[simp] theorem rmax_latched (s : State) (a hi lo v : Nat) : (rmax s a hi lo v).latched = s.latched := rfl
@[simp] theorem rmax_t (s : State) (a hi lo v : Nat) : (rmax s a hi lo v).t = s.t := rfl
@[simp] theorem rmax_tbs (s : State) (a hi lo v : Nat) : (rmax s a hi lo v).tbs = s.tbs := rfl
@[simp] theorem rmax_grp (s : State) (a hi lo v : Nat) : (rmax s a hi lo v).grp = s.grp := rfl
@[simp] theorem rmax_evt (s : State) (a hi lo v : Nat) : (rmax s a hi lo v).evt = s.evt := rfl
@[simp] theorem rmax_rst (s : State) (a hi lo v : Nat) : (rmax s a hi lo v).rst = s.rst := rfl
@[simp] theorem rmax_mgt (s : State) (a hi lo v : Nat) : (rmax s a hi lo v).mgt = s.mgt := rfl
@[simp] theorem rmax_mb (s : State) (a hi lo v : Nat) : (rmax s a hi lo v).mb = s.mb := rfl
@[simp] theorem rmax_xw (s : State) (a hi lo v : Nat) : (rmax s a hi lo v).xw = s.xw := rfl
@[simp] theorem rmax_ary (s : State) (a hi lo v : Nat) : (rmax s a hi lo v).ary = s.ary := rfl
@[simp] theorem rmax_col (s : State) (a hi lo v : Nat) : (rmax s a hi lo v).col = s.col := rfl
@[simp] theorem rmax_pip (s : State) (a hi lo v : Nat) : (rmax s a hi lo v).pip = s.pip := rfl
@[simp] theorem rmax_vdt (s : State) (a hi lo v : Nat) : (rmax s a hi lo v).vdt = s.vdt := rfl
@[simp] theorem rmax_xwIn (s : State) (a hi lo v : Nat) : (rmax s a hi lo v).xwIn = s.xwIn := rfl
@[simp] theorem rmax_aux (s : State) (a hi lo v : Nat) : (rmax s a hi lo v).aux = s.aux := rfl
@[simp] theorem rmax_lnk (s : State) (a hi lo v : Nat) : (rmax s a hi lo v).lnk = s.lnk := rfl
@[simp] theorem rmax_pen (s : State) (a hi lo v : Nat) : (rmax s a hi lo v).pen = s.pen := rfl
@[simp] theorem rmax_nrg (s : State) (a hi lo v : Nat) : (rmax s a hi lo v).nrg = s.nrg := rfl
@[simp] theorem rmax_thm (s : State) (a hi lo v : Nat) : (rmax s a hi lo v).thm = s.thm := rfl
@[simp] theorem rmax_free (s : State) (a hi lo v : Nat) : (rmax s a hi lo v).free = s.free := rfl
@[simp] theorem rmax_pending (s : State) (a hi lo v : Nat) : (rmax s a hi lo v).pending = s.pending := rfl

/-! ### rclear -/

@[simp] theorem rclear_latched (s : State) (as : List Nat) : (rclear s as).latched = s.latched := rfl
@[simp] theorem rclear_t (s : State) (as : List Nat) : (rclear s as).t = s.t := rfl
@[simp] theorem rclear_tbs (s : State) (as : List Nat) : (rclear s as).tbs = s.tbs := rfl
@[simp] theorem rclear_grp (s : State) (as : List Nat) : (rclear s as).grp = s.grp := rfl
@[simp] theorem rclear_evt (s : State) (as : List Nat) : (rclear s as).evt = s.evt := rfl
@[simp] theorem rclear_rst (s : State) (as : List Nat) : (rclear s as).rst = s.rst := rfl
@[simp] theorem rclear_mgt (s : State) (as : List Nat) : (rclear s as).mgt = s.mgt := rfl
@[simp] theorem rclear_mb (s : State) (as : List Nat) : (rclear s as).mb = s.mb := rfl
@[simp] theorem rclear_xw (s : State) (as : List Nat) : (rclear s as).xw = s.xw := rfl
@[simp] theorem rclear_ary (s : State) (as : List Nat) : (rclear s as).ary = s.ary := rfl
@[simp] theorem rclear_col (s : State) (as : List Nat) : (rclear s as).col = s.col := rfl
@[simp] theorem rclear_pip (s : State) (as : List Nat) : (rclear s as).pip = s.pip := rfl
@[simp] theorem rclear_vdt (s : State) (as : List Nat) : (rclear s as).vdt = s.vdt := rfl
@[simp] theorem rclear_xwIn (s : State) (as : List Nat) : (rclear s as).xwIn = s.xwIn := rfl
@[simp] theorem rclear_aux (s : State) (as : List Nat) : (rclear s as).aux = s.aux := rfl
@[simp] theorem rclear_lnk (s : State) (as : List Nat) : (rclear s as).lnk = s.lnk := rfl
@[simp] theorem rclear_pen (s : State) (as : List Nat) : (rclear s as).pen = s.pen := rfl
@[simp] theorem rclear_nrg (s : State) (as : List Nat) : (rclear s as).nrg = s.nrg := rfl
@[simp] theorem rclear_thm (s : State) (as : List Nat) : (rclear s as).thm = s.thm := rfl
@[simp] theorem rclear_free (s : State) (as : List Nat) : (rclear s as).free = s.free := rfl
@[simp] theorem rclear_pending (s : State) (as : List Nat) : (rclear s as).pending = s.pending := rfl

end Sys2Proof.Machine
end

