-- ==== Sys2Proof/Laws/Ops.lean ====
section
/-! SUPPORT. What the shared operations do: the register file, raising an event, counting a deadline miss, messages to links. -/

namespace Sys2Proof.Machine

/-! ### Register file -/

theorem rget_rset_same (s : State) (a v : Nat) : rget (rset s a v) a = BitVec.ofNat 32 v := Laws.mgetD_mputD_same _ _ _ _

theorem rget_rset_other (s : State) {a b : Nat} (v : Nat) (h : b ≠ a) : rget (rset s a v) b = rget s b :=
  Laws.mgetD_mputD_other _ _ _ _ h

theorem rnat_rset_same (s : State) (a v : Nat) : rnat (rset s a v) a = v % 2 ^ 32 := by
  simp [rnat, rget_rset_same]

theorem rnat_rset_other (s : State) {a b : Nat} (v : Nat) (h : b ≠ a) : rnat (rset s a v) b = rnat s b := by
  simp [rnat, rget_rset_other s v h]

theorem rget_rfset_other (s : State) {a b : Nat} (hi lo v : Nat) (h : b ≠ a) : rget (rfset s a hi lo v) b = rget s b :=
  rget_rset_other s _ h

/-! ### Raising an event -/

@[simp] theorem raise_regs (code fid : Nat) (args : List Nat) (ctag coord : Nat) (s : State) : (raise code fid args ctag coord s).regs = s.regs := by
  unfold raise; dsimp only; split <;> rfl
@[simp] theorem raise_latched (code fid : Nat) (args : List Nat) (ctag coord : Nat) (s : State) : (raise code fid args ctag coord s).latched = s.latched := by
  unfold raise; dsimp only; split <;> rfl
@[simp] theorem raise_t (code fid : Nat) (args : List Nat) (ctag coord : Nat) (s : State) : (raise code fid args ctag coord s).t = s.t := by
  unfold raise; dsimp only; split <;> rfl
@[simp] theorem raise_tbs (code fid : Nat) (args : List Nat) (ctag coord : Nat) (s : State) : (raise code fid args ctag coord s).tbs = s.tbs := by
  unfold raise; dsimp only; split <;> rfl
@[simp] theorem raise_grp (code fid : Nat) (args : List Nat) (ctag coord : Nat) (s : State) : (raise code fid args ctag coord s).grp = s.grp := by
  unfold raise; dsimp only; split <;> rfl
@[simp] theorem raise_rst (code fid : Nat) (args : List Nat) (ctag coord : Nat) (s : State) : (raise code fid args ctag coord s).rst = s.rst := by
  unfold raise; dsimp only; split <;> rfl
@[simp] theorem raise_mgt (code fid : Nat) (args : List Nat) (ctag coord : Nat) (s : State) : (raise code fid args ctag coord s).mgt = s.mgt := by
  unfold raise; dsimp only; split <;> rfl
@[simp] theorem raise_mb (code fid : Nat) (args : List Nat) (ctag coord : Nat) (s : State) : (raise code fid args ctag coord s).mb = s.mb := by
  unfold raise; dsimp only; split <;> rfl
@[simp] theorem raise_xw (code fid : Nat) (args : List Nat) (ctag coord : Nat) (s : State) : (raise code fid args ctag coord s).xw = s.xw := by
  unfold raise; dsimp only; split <;> rfl
@[simp] theorem raise_ary (code fid : Nat) (args : List Nat) (ctag coord : Nat) (s : State) : (raise code fid args ctag coord s).ary = s.ary := by
  unfold raise; dsimp only; split <;> rfl
@[simp] theorem raise_col (code fid : Nat) (args : List Nat) (ctag coord : Nat) (s : State) : (raise code fid args ctag coord s).col = s.col := by
  unfold raise; dsimp only; split <;> rfl
@[simp] theorem raise_pip (code fid : Nat) (args : List Nat) (ctag coord : Nat) (s : State) : (raise code fid args ctag coord s).pip = s.pip := by
  unfold raise; dsimp only; split <;> rfl
@[simp] theorem raise_vdt (code fid : Nat) (args : List Nat) (ctag coord : Nat) (s : State) : (raise code fid args ctag coord s).vdt = s.vdt := by
  unfold raise; dsimp only; split <;> rfl
@[simp] theorem raise_xwIn (code fid : Nat) (args : List Nat) (ctag coord : Nat) (s : State) : (raise code fid args ctag coord s).xwIn = s.xwIn := by
  unfold raise; dsimp only; split <;> rfl
@[simp] theorem raise_aux (code fid : Nat) (args : List Nat) (ctag coord : Nat) (s : State) : (raise code fid args ctag coord s).aux = s.aux := by
  unfold raise; dsimp only; split <;> rfl
@[simp] theorem raise_lnk (code fid : Nat) (args : List Nat) (ctag coord : Nat) (s : State) : (raise code fid args ctag coord s).lnk = s.lnk := by
  unfold raise; dsimp only; split <;> rfl
@[simp] theorem raise_pen (code fid : Nat) (args : List Nat) (ctag coord : Nat) (s : State) : (raise code fid args ctag coord s).pen = s.pen := by
  unfold raise; dsimp only; split <;> rfl
@[simp] theorem raise_nrg (code fid : Nat) (args : List Nat) (ctag coord : Nat) (s : State) : (raise code fid args ctag coord s).nrg = s.nrg := by
  unfold raise; dsimp only; split <;> rfl
@[simp] theorem raise_thm (code fid : Nat) (args : List Nat) (ctag coord : Nat) (s : State) : (raise code fid args ctag coord s).thm = s.thm := by
  unfold raise; dsimp only; split <;> rfl
@[simp] theorem raise_free (code fid : Nat) (args : List Nat) (ctag coord : Nat) (s : State) : (raise code fid args ctag coord s).free = s.free := by
  unfold raise; dsimp only; split <;> rfl
@[simp] theorem raise_pending (code fid : Nat) (args : List Nat) (ctag coord : Nat) (s : State) : (raise code fid args ctag coord s).pending = s.pending := by
  unfold raise; dsimp only; split <;> rfl

@[simp] theorem raise0_regs (code fid : Nat) (args : List Nat) (s : State) : (raise0 code fid args s).regs = s.regs := by
  simp [raise0]
@[simp] theorem raise0_latched (code fid : Nat) (args : List Nat) (s : State) : (raise0 code fid args s).latched = s.latched := by
  simp [raise0]
@[simp] theorem raise0_t (code fid : Nat) (args : List Nat) (s : State) : (raise0 code fid args s).t = s.t := by
  simp [raise0]
@[simp] theorem raise0_tbs (code fid : Nat) (args : List Nat) (s : State) : (raise0 code fid args s).tbs = s.tbs := by
  simp [raise0]
@[simp] theorem raise0_grp (code fid : Nat) (args : List Nat) (s : State) : (raise0 code fid args s).grp = s.grp := by
  simp [raise0]
@[simp] theorem raise0_rst (code fid : Nat) (args : List Nat) (s : State) : (raise0 code fid args s).rst = s.rst := by
  simp [raise0]
@[simp] theorem raise0_mgt (code fid : Nat) (args : List Nat) (s : State) : (raise0 code fid args s).mgt = s.mgt := by
  simp [raise0]
@[simp] theorem raise0_mb (code fid : Nat) (args : List Nat) (s : State) : (raise0 code fid args s).mb = s.mb := by
  simp [raise0]
@[simp] theorem raise0_xw (code fid : Nat) (args : List Nat) (s : State) : (raise0 code fid args s).xw = s.xw := by
  simp [raise0]
@[simp] theorem raise0_ary (code fid : Nat) (args : List Nat) (s : State) : (raise0 code fid args s).ary = s.ary := by
  simp [raise0]
@[simp] theorem raise0_col (code fid : Nat) (args : List Nat) (s : State) : (raise0 code fid args s).col = s.col := by
  simp [raise0]
@[simp] theorem raise0_pip (code fid : Nat) (args : List Nat) (s : State) : (raise0 code fid args s).pip = s.pip := by
  simp [raise0]
@[simp] theorem raise0_vdt (code fid : Nat) (args : List Nat) (s : State) : (raise0 code fid args s).vdt = s.vdt := by
  simp [raise0]
@[simp] theorem raise0_xwIn (code fid : Nat) (args : List Nat) (s : State) : (raise0 code fid args s).xwIn = s.xwIn := by
  simp [raise0]
@[simp] theorem raise0_aux (code fid : Nat) (args : List Nat) (s : State) : (raise0 code fid args s).aux = s.aux := by
  simp [raise0]
@[simp] theorem raise0_lnk (code fid : Nat) (args : List Nat) (s : State) : (raise0 code fid args s).lnk = s.lnk := by
  simp [raise0]
@[simp] theorem raise0_pen (code fid : Nat) (args : List Nat) (s : State) : (raise0 code fid args s).pen = s.pen := by
  simp [raise0]
@[simp] theorem raise0_nrg (code fid : Nat) (args : List Nat) (s : State) : (raise0 code fid args s).nrg = s.nrg := by
  simp [raise0]
@[simp] theorem raise0_thm (code fid : Nat) (args : List Nat) (s : State) : (raise0 code fid args s).thm = s.thm := by
  simp [raise0]
@[simp] theorem raise0_free (code fid : Nat) (args : List Nat) (s : State) : (raise0 code fid args s).free = s.free := by
  simp [raise0]
@[simp] theorem raise0_pending (code fid : Nat) (args : List Nat) (s : State) : (raise0 code fid args s).pending = s.pending := by
  simp [raise0]

@[simp] theorem raiseIf_regs (c : Bool) (code fid : Nat) (args : List Nat) (ctag coord : Nat) (s : State) : (raiseIf c code fid args ctag coord s).regs = s.regs := by
  unfold raiseIf; split <;> simp
@[simp] theorem raiseIf_latched (c : Bool) (code fid : Nat) (args : List Nat) (ctag coord : Nat) (s : State) : (raiseIf c code fid args ctag coord s).latched = s.latched := by
  unfold raiseIf; split <;> simp
@[simp] theorem raiseIf_t (c : Bool) (code fid : Nat) (args : List Nat) (ctag coord : Nat) (s : State) : (raiseIf c code fid args ctag coord s).t = s.t := by
  unfold raiseIf; split <;> simp
@[simp] theorem raiseIf_tbs (c : Bool) (code fid : Nat) (args : List Nat) (ctag coord : Nat) (s : State) : (raiseIf c code fid args ctag coord s).tbs = s.tbs := by
  unfold raiseIf; split <;> simp
@[simp] theorem raiseIf_grp (c : Bool) (code fid : Nat) (args : List Nat) (ctag coord : Nat) (s : State) : (raiseIf c code fid args ctag coord s).grp = s.grp := by
  unfold raiseIf; split <;> simp
@[simp] theorem raiseIf_rst (c : Bool) (code fid : Nat) (args : List Nat) (ctag coord : Nat) (s : State) : (raiseIf c code fid args ctag coord s).rst = s.rst := by
  unfold raiseIf; split <;> simp
@[simp] theorem raiseIf_mgt (c : Bool) (code fid : Nat) (args : List Nat) (ctag coord : Nat) (s : State) : (raiseIf c code fid args ctag coord s).mgt = s.mgt := by
  unfold raiseIf; split <;> simp
@[simp] theorem raiseIf_mb (c : Bool) (code fid : Nat) (args : List Nat) (ctag coord : Nat) (s : State) : (raiseIf c code fid args ctag coord s).mb = s.mb := by
  unfold raiseIf; split <;> simp
@[simp] theorem raiseIf_xw (c : Bool) (code fid : Nat) (args : List Nat) (ctag coord : Nat) (s : State) : (raiseIf c code fid args ctag coord s).xw = s.xw := by
  unfold raiseIf; split <;> simp
@[simp] theorem raiseIf_ary (c : Bool) (code fid : Nat) (args : List Nat) (ctag coord : Nat) (s : State) : (raiseIf c code fid args ctag coord s).ary = s.ary := by
  unfold raiseIf; split <;> simp
@[simp] theorem raiseIf_col (c : Bool) (code fid : Nat) (args : List Nat) (ctag coord : Nat) (s : State) : (raiseIf c code fid args ctag coord s).col = s.col := by
  unfold raiseIf; split <;> simp
@[simp] theorem raiseIf_pip (c : Bool) (code fid : Nat) (args : List Nat) (ctag coord : Nat) (s : State) : (raiseIf c code fid args ctag coord s).pip = s.pip := by
  unfold raiseIf; split <;> simp
@[simp] theorem raiseIf_vdt (c : Bool) (code fid : Nat) (args : List Nat) (ctag coord : Nat) (s : State) : (raiseIf c code fid args ctag coord s).vdt = s.vdt := by
  unfold raiseIf; split <;> simp
@[simp] theorem raiseIf_xwIn (c : Bool) (code fid : Nat) (args : List Nat) (ctag coord : Nat) (s : State) : (raiseIf c code fid args ctag coord s).xwIn = s.xwIn := by
  unfold raiseIf; split <;> simp
@[simp] theorem raiseIf_aux (c : Bool) (code fid : Nat) (args : List Nat) (ctag coord : Nat) (s : State) : (raiseIf c code fid args ctag coord s).aux = s.aux := by
  unfold raiseIf; split <;> simp
@[simp] theorem raiseIf_lnk (c : Bool) (code fid : Nat) (args : List Nat) (ctag coord : Nat) (s : State) : (raiseIf c code fid args ctag coord s).lnk = s.lnk := by
  unfold raiseIf; split <;> simp
@[simp] theorem raiseIf_pen (c : Bool) (code fid : Nat) (args : List Nat) (ctag coord : Nat) (s : State) : (raiseIf c code fid args ctag coord s).pen = s.pen := by
  unfold raiseIf; split <;> simp
@[simp] theorem raiseIf_nrg (c : Bool) (code fid : Nat) (args : List Nat) (ctag coord : Nat) (s : State) : (raiseIf c code fid args ctag coord s).nrg = s.nrg := by
  unfold raiseIf; split <;> simp
@[simp] theorem raiseIf_thm (c : Bool) (code fid : Nat) (args : List Nat) (ctag coord : Nat) (s : State) : (raiseIf c code fid args ctag coord s).thm = s.thm := by
  unfold raiseIf; split <;> simp
@[simp] theorem raiseIf_free (c : Bool) (code fid : Nat) (args : List Nat) (ctag coord : Nat) (s : State) : (raiseIf c code fid args ctag coord s).free = s.free := by
  unfold raiseIf; split <;> simp
@[simp] theorem raiseIf_pending (c : Bool) (code fid : Nat) (args : List Nat) (ctag coord : Nat) (s : State) : (raiseIf c code fid args ctag coord s).pending = s.pending := by
  unfold raiseIf; split <;> simp

/-! ### Deadline misses -/

@[simp] theorem dlCount_latched (n l : Nat) (s : State) : (dlCount n l s).latched = s.latched := by
  simp [dlCount]
@[simp] theorem dlCount_t (n l : Nat) (s : State) : (dlCount n l s).t = s.t := by
  simp [dlCount]
@[simp] theorem dlCount_tbs (n l : Nat) (s : State) : (dlCount n l s).tbs = s.tbs := by
  simp [dlCount]
@[simp] theorem dlCount_grp (n l : Nat) (s : State) : (dlCount n l s).grp = s.grp := by
  simp [dlCount]
@[simp] theorem dlCount_rst (n l : Nat) (s : State) : (dlCount n l s).rst = s.rst := by
  simp [dlCount]
@[simp] theorem dlCount_mgt (n l : Nat) (s : State) : (dlCount n l s).mgt = s.mgt := by
  simp [dlCount]
@[simp] theorem dlCount_mb (n l : Nat) (s : State) : (dlCount n l s).mb = s.mb := by
  simp [dlCount]
@[simp] theorem dlCount_xw (n l : Nat) (s : State) : (dlCount n l s).xw = s.xw := by
  simp [dlCount]
@[simp] theorem dlCount_ary (n l : Nat) (s : State) : (dlCount n l s).ary = s.ary := by
  simp [dlCount]
@[simp] theorem dlCount_col (n l : Nat) (s : State) : (dlCount n l s).col = s.col := by
  simp [dlCount]
@[simp] theorem dlCount_pip (n l : Nat) (s : State) : (dlCount n l s).pip = s.pip := by
  simp [dlCount]
@[simp] theorem dlCount_vdt (n l : Nat) (s : State) : (dlCount n l s).vdt = s.vdt := by
  simp [dlCount]
@[simp] theorem dlCount_xwIn (n l : Nat) (s : State) : (dlCount n l s).xwIn = s.xwIn := by
  simp [dlCount]
@[simp] theorem dlCount_aux (n l : Nat) (s : State) : (dlCount n l s).aux = s.aux := by
  simp [dlCount]
@[simp] theorem dlCount_lnk (n l : Nat) (s : State) : (dlCount n l s).lnk = s.lnk := by
  simp [dlCount]
@[simp] theorem dlCount_pen (n l : Nat) (s : State) : (dlCount n l s).pen = s.pen := by
  simp [dlCount]
@[simp] theorem dlCount_nrg (n l : Nat) (s : State) : (dlCount n l s).nrg = s.nrg := by
  simp [dlCount]
@[simp] theorem dlCount_thm (n l : Nat) (s : State) : (dlCount n l s).thm = s.thm := by
  simp [dlCount]
@[simp] theorem dlCount_free (n l : Nat) (s : State) : (dlCount n l s).free = s.free := by
  simp [dlCount]
@[simp] theorem dlCount_pending (n l : Nat) (s : State) : (dlCount n l s).pending = s.pending := by
  simp [dlCount]
end Sys2Proof.Machine
end

