-- ==== Sys2Proof/Tests/Slice0.lean ====
section
/-! SUPPORT. Tests. Terms that each break one check of a command and terms at the ends of the ranges; results of single steps,
worked out by hand from the rules named; and, for every statement with hypotheses, a state and operands that meet them, clause
by clause. -/

set_option Elab.async false
set_option maxRecDepth 100000

namespace Sys2Proof.Tests

open Sys2Proof Sys2Proof.Machine

/-! ### States -/

/-- A running device. -/
def wRun : State :=
  { State.reset with mgt.state := .run, mgt.step := 8, mgt.stepsDone := [5], mgt.loaded := true, tbs.inService := true }

/-- A register at a value. -/
def wReg (a v : Nat) (s : State) : State := { s with regs := mput s.regs a (BitVec.ofNat 32 v) }

/-- A capture set with a row of band 0 and every word of small value. -/
def wSet1 : CapSet := ⟨List.replicate 67 1, List.replicate 9 1⟩

/-- A registered line. -/
def wLine : RegLine :=
  ⟨0, 0, 0, false, 0, 0, 0, 0, [], [], Ary.reset.set, [], [], [], [], false, 0, 0, 0, [], 0⟩

/-- A LEAD line of all sectors. -/
def wLead (kind : Nat) : List LeadIn := (List.range 12).map (fun n => ⟨n, 3, [], [], kind⟩)

/-- The rule word of program 0 that gives a verdict and a reason, in PMEM. -/
def wProg (v : Nat) (s : State) : State :=
  wReg Reg.VDT_PROG_INFO 1
    { s with pip.pmem := [(0x2B4000, BitVec.ofNat 8 (v + 16)), (0x2B4001, 0), (0x2B4002, 0), (0x2B4003, 0xA0)] }

/-- An object in slot 0 and its evaluation at a checkpoint. -/
def wObj (o : Obj) (cp : Nat) (s : State) : State :=
  { s with vdt.objs := [(0, o)], vdt.queue := [⟨0, 0, cp, none, []⟩] }

/-- An object that waits for its confirmed evaluation. -/
def wClosed : Obj := { Obj.reset with st := 3 }

/-- A record packet of a type, with verdict `v`. -/
def wRec (ty v : Nat) : XwMsg := .record ty 0 0 [BitVec.ofNat 128 (v * 2 ^ 44), 0#128] (0, 0)

/-- Both companion ports configured, port 0 as given. -/
def wPort (x : AuxPort) : State :=
  wReg Reg.AUX_PORT_GEOM 4 (wReg Reg.AUX_CFG 0x23 { wRun with aux.ports := [x, AuxPort.reset] })

/-- A companion line of row 0. -/
def wAuxLine (ws : List Nat) (done : Bool) : AuxLine := ⟨0, 0, none, 0, 0, false, ws, done, none⟩

/-- Lane set 0 as given. -/
def wSet (x : LaneSet) : State := { wRun with lnk.sets := [(0, x)] }

/-- A lane set that is up, with two lanes of payload. -/
def wUp : LaneSet := { LaneSet.reset with stage := 2, admits := true, slots := [0, 1] }

/-- Link 0 as given, switched on. -/
def wXw (x : XwLane) : State := wReg Reg.LNK_XW_CFG 0x80000000 { wRun with xw := [(0, x)] }

/-- A link that is up and accepted. -/
def wLinkUp : XwLane := { XwLane.reset with st := 2, lock := true, credInit := true, accepted := true }

/-- The header of a beacon with one word of payload. -/
def wHead : Nat := 9 * 2 ^ 124 + 2 ^ 108

/-- Engine 0 runs the word `w` with the given registers. -/
def wEng (w : Nat) (g : Engine) : State :=
  wReg Reg.PEN_ENG_PINS 0x200020 (wReg Reg.PEN_ENG_PROG 0x20000
    { wRun with pen.hiz := false, pen.pmem := [(0, BitVec.ofNat 32 w)], pen.eng := [(0, { g with st := 1 })] })

/-- An engine that runs. -/
def wGo : Engine := { Engine.reset with st := 1 }

/-- The device starts, in a step, with the given steps done. -/
def wStart (n : Nat) (don : List Nat) : State := { State.reset with mgt.state := .starting, mgt.step := n, mgt.stepsDone := don }

/-- A reset of the fault monitor of PEN that has reached a phase. -/
def wReset (p : RstPhase) (c : Nat) : State := { wRun with rst.runs := [⟨0x80300, c, p, 0, 0, false⟩] }

/-- A recorder whose mirror has erased its sector. -/
def wRcd : Recorder := { State.reset.evt.rcd with mErased := true }

/-- A staged set of one row of LEAD and one of TRL, in one slot of 500 ns. -/
def wStaged : State :=
  wReg 0x100080 100 (wReg 0x100090 2 (wReg 0x100094 100 (wReg 0x1000A0 0x10000 (wReg 0x1000C0 0x10000
    (wReg 0x100120 50 (wReg 0x100180 50 (wReg Reg.PIP_BS_DEPTH 161 (wReg (Reg.PIP_BS_DEPTH + 32) 1
      (wReg Reg.ARY_APPLY_L 2 { wRun with ary.loaded := true })))))))))

/-- A captured line of the staged set, on its way through its slot. -/
def wCap : CapLine := ⟨4, 0, 0, stagedSet wStaged, 7⟩

/-- The line of `wCap` in flight at time `t`. -/
def wFly (t : Nat) : State := { wRun with t := t, ary.flight := [wCap] }

/-- A round whose channels have all been delivered. -/
def wRound : State := { wRun with thm.running := true, thm.res := allChans.map (fun ch => (resKey 0 ch, 5)) }

/-- The parameters of a flash that meets every criterion. -/
def wSfdp : Sfdp := ⟨true, 256, true, 256, true, true, true, true⟩

/-- A device whose DSNU section of band 0 is empty, with the digest that it should have. -/
def wDsnu : State := { wRun with mgt.toc := [⟨2, 0, 0, 0, 0, sha512 []⟩], pip.dsnuLoad := some 0 }

/-- A device whose metered guard has shed all four steps and has room again. -/
def wGuard : State :=
  wReg Reg.NRG_GUARD_CFG 0x80000000
    (wReg Reg.NRG_ENV 15000 { wRun with nrg.admitted := true, nrg.meterOk := true, nrg.guardShed := 4 })

/-- The state after a step that goes on, else the state at reset. -/
def after (o : Host.Outcome State Fault Refusal) : State :=
  match o with
  | .next t => t
  | _ => State.reset

/-! ### Commands and words -/

/-- The table gives no bits, so no word spells a command. -/
theorem test_no_word_spells_a_command : decodeTableWord 32 0xD2000001 = none := rfl

/-- Terms that each break one check of a command, part 1. -/
def illFormed1 : List Instr := [
  .syncInEdge (true, 4294967296), .exposureStart 9 0, .exposureStart 0 4, .slotEdge 4 true 0, .slotEdge 0 true 65536,
  .bandTransfer 4 0 0, .bandTransfer 0 512 0, .bandTransfer 0 0 512, .conversion [(1, 0), (1, 0)] 0,
  .conversion [(24576, 0)] 0, .conversion [(0, 4096)] 0, .conversion [] 4096, .takeover 192, .auditReplaced 192,
  .columnCalibration [(1, 0, 0, 0), (1, 0, 0, 0)] (0, 0, 0) [] ([], []) true,
  .columnCalibration [(24576, 0, 0, 0)] (0, 0, 0) [] ([], []) true,
  .columnCalibration [] (0, 0, 0) [(1, [], []), (1, [], [])] ([], []) true,
  .columnCalibration [] (0, 0, 0) [(192, [], [])] ([], []) true,
  .columnCalibration [] (0, 0, 0) [(0, [262144], [])] ([], []) true, .columnCalibration [] (0, 0, 0) [] ([], [262144]) true,
  .tbApply [256], .compWrite 12, .dlSectorCheck 12, .leadSegmentReceived 12, .registeredSegmentAccumulate 12,
  .verdictEvaluation 4, .gustEvaluation 4, .valveFrameBuild 8, .frameWordPost 8, .frameAbandoned 8]

/-- Terms that each break one check of a command, part 2. -/
def illFormed2 : List Instr := [
  .companionFrameStart 2, .companionFrameEnd 2 [], .companionFrameEnd 0 [1048576], .companionLineStart 2,
  .companionLineEnd 2 [], .companionLineEnd 0 [1048576], .stripeProcess 2, .portSilent 2,
  .companionDiscovery 2 0 true 0 true, .companionDiscovery 0 10 true 0 true, .companionDiscovery 0 0 true 65536 true,
  .contextChangeWrite 2, .cbTransactionDone 2 true, .cbContentionRestart 2, .cbStretchTimeout 2, .ctxWithdraw 2,
  .laneRowSend 4, .alignRow 4, .recordsPacketClose 4, .ageDrop 4 0, .ageDrop 0 4, .statusHeartbeat 4, .laneFault 24 0 0 0,
  .laneFault 0 4 0 0, .laneFault 0 0 65536 0, .laneFault 0 0 0 65536, .laneWarn 24 0 0, .laneWarn 0 65536 0,
  .laneWarn 0 0 65536, .laneMove 4294967296]

/-- Terms that each break one check of a command, part 3. -/
def illFormed3 : List Instr := [
  .laneReturn 24, .lanePolicyUpdate 4, .setUp 4, .setIdle 4, .linkPacketSend 4, .linkPacketReceived 4 [] (0, 0),
  .linkPacketReceived 0 [] (65536, 0), .linkPacketReceived 0 [] (0, 65536), .creditSend 4, .creditReceived 4 (0, 0),
  .creditReceived 0 (18446744073709551616, 0), .creditReceived 0 (0, 18446744073709551616), .linkWordLockLoss 4 0,
  .linkWordLockLoss 0 65, .linkRetrain 4 true [] (0, []), .linkRetrain 0 true [256] (0, []),
  .linkRetrain 0 true [] (4294967296, []), .linkRetrain 0 true [] (0, [281474976710656]), .linkTraining 4 true [] (0, []),
  .linkTraining 0 true [256] (0, []), .linkTraining 0 true [] (4294967296, []),
  .linkTraining 0 true [] (0, [281474976710656]), .eyeMeasure 4 0 0 0 0, .eyeMeasure 0 33 0 0 0, .eyeMeasure 0 0 33 0 0,
  .eyeMeasure 0 0 0 33 0, .eyeMeasure 0 0 0 0 33, .readaptSweep 4 [], .readaptSweep 0 [256], .eqSwap 4]

/-- Terms that each break one check of a command, part 4. -/
def illFormed4 : List Instr := [
  .pairResend 4, .setPllUnlock 4, .drive 16, .sample 16, .shift 16 0, .shift 0 65, .waitpin 16, .waittime 16, .waitpos 16,
  .fetch 16, .fetchn 16, .store 16, .storen 16, .branch 16, .count 16, .signal 16, .waitsig 16, .const 16, .halt 16,
  .deadlineExpire 16, .penStart 4294967296, .penHalt 4294967296, .pmemWrite 4294967296, .fifoInWrite 4294967296,
  .signalBusWrite 65536, .pinLevelChange 80 true, .rateWindowEnd 80 0, .rateWindowEnd 0 4294967296, .pinStuckSet 80,
  .pinReadbackMismatch 98 true]

/-- Terms that each break one check of a command, part 5. -/
def illFormed5 : List Instr := [
  .strobeOn 16, .strobeOff 16, .strobeEarlyEnd 16 true, .meterSample 65536 0, .meterSample 0 65536,
  .envelopeWrite 4294967296, .grantRequest 6 0, .grantRequest 0 4, .grantForced 6 0, .grantForced 0 4, .pfSeal 256,
  .hkConversionDone 2 0, .hkConversionDone 0 (-32769), .hkConversionDone 0 32768, .urgentResult 2 0,
  .urgentResult 0 (-32769), .urgentResult 0 32768, .thmRestart 256, .startupStepEnd 9 wSfdp 0, .startupStepEnd 0 wSfdp 65536,
  .getState 256 0, .getState 0 256, .getAttn 256 0, .getAttn 0 256, .getId 256 0, .getId 0 256, .getPtr 256 0, .getPtr 0 256,
  .getBus 256 0, .getBus 0 256]

/-- Terms that each break one check of a command, part 6. -/
def illFormed6 : List Instr := [
  .blockWrite 256 0 [], .blockWrite 0 256 [], .blockRead 256 0 0, .blockRead 0 256 0, .blockRead 0 0 512, .setPtr 256 0 [] 0,
  .setPtr 0 16777216 [] 0, .setPtr 0 0 [] 65536, .continue 256 [] 0, .continue 0 [] 65536, .cmdRefused 256 0 0,
  .cmdRefused 0 256 0, .cmdRefused 0 0 256, .eventOccurrence 4096 0 [] 0 0, .eventOccurrence 0 1048576 [] 0 0,
  .eventOccurrence 0 0 [4294967296] 0 0, .eventOccurrence 0 0 [] 16 0, .eventOccurrence 0 0 [] 0 1099511627776,
  .logMemFail 16384 0, .logMemFail 0 4294967296, .privRemirror 4294967296, .evtPendClear 12 0 0, .evtPendClear 0 2 0,
  .evtPendClear 0 0 4294967296, .evtClearPending 12, .evtClearStats 12, .resetArm 1048576, .resetFire 1048576,
  .resetQuiesce 1048576, .sectionReloadDone 1048576 0]

/-- Terms that each break one check of a command, part 7. -/
def illFormed7 : List Instr := [
  .sectionReloadDone 0 3, .resetResume 1048576, .watchdogExpire 1048576, .memoryEccError 18 0 0 true,
  .memoryEccError 0 4294967296 0 true, .memoryEccError 0 0 4294967296 true, .leadRegisterRead 16777216,
  .rcRegisterRead 16777216, .counterClear 16777216 0, .counterClear 0 4294967296, .dlClear 4294967296, .prbsTest 24 0,
  .prbsTest 0 4294967296, .registerWrite 16777216 0, .registerWrite 0 4294967296, .pageProgramDone 3 true]

/-- Each term of `illFormed1` is refused. -/
theorem test_illFormed1 : illFormed1.all (fun i => !i.wellFormed) = true := by decide +kernel

/-- Each term of `illFormed2` is refused. -/
theorem test_illFormed2 : illFormed2.all (fun i => !i.wellFormed) = true := by decide +kernel

/-- Each term of `illFormed3` is refused. -/
theorem test_illFormed3 : illFormed3.all (fun i => !i.wellFormed) = true := by decide +kernel

/-- Each term of `illFormed4` is refused. -/
theorem test_illFormed4 : illFormed4.all (fun i => !i.wellFormed) = true := by decide +kernel

/-- Each term of `illFormed5` is refused. -/
theorem test_illFormed5 : illFormed5.all (fun i => !i.wellFormed) = true := by decide +kernel

/-- Each term of `illFormed6` is refused. -/
theorem test_illFormed6 : illFormed6.all (fun i => !i.wellFormed) = true := by decide +kernel

/-- Each term of `illFormed7` is refused. -/
theorem test_illFormed7 : illFormed7.all (fun i => !i.wellFormed) = true := by decide +kernel

/-- Terms with every operand at the end of its range, part 1. -/
def atBound1 : List Instr := [
  .syncInEdge (true, 4294967295), .exposureStart 8 3, .slotEdge 3 true 65535, .bandTransfer 3 511 511,
  .conversion [(0, 0), (24575, 0)] 4095, .takeover 191, .auditReplaced 191,
  .columnCalibration [(0, 0, 0, 0), (24575, 0, 0, 0)] (0, 0, 0) [(0, [262143], []), (191, [], [262143])] ([262143], [262143]) true,
  .tbApply [255], .compWrite 11, .dlSectorCheck 11, .leadSegmentReceived 11, .registeredSegmentAccumulate 11,
  .verdictEvaluation 3, .gustEvaluation 3, .valveFrameBuild 7, .frameWordPost 7, .frameAbandoned 7, .companionFrameStart 1,
  .companionFrameEnd 1 [1048575], .companionLineStart 1, .companionLineEnd 1 [1048575], .stripeProcess 1, .portSilent 1,
  .companionDiscovery 1 9 true 65535 true, .contextChangeWrite 1, .cbTransactionDone 1 true, .cbContentionRestart 1,
  .cbStretchTimeout 1, .ctxWithdraw 1]

/-- Terms with every operand at the end of its range, part 2. -/
def atBound2 : List Instr := [
  .laneRowSend 3, .alignRow 3, .recordsPacketClose 3, .ageDrop 3 3, .statusHeartbeat 3, .laneFault 23 3 65535 65535,
  .laneWarn 23 65535 65535, .laneMove 4294967295, .laneReturn 23, .lanePolicyUpdate 3, .setUp 3, .setIdle 3,
  .linkPacketSend 3, .linkPacketReceived 3 [] (65535, 65535), .creditSend 3,
  .creditReceived 3 (18446744073709551615, 18446744073709551615), .linkWordLockLoss 3 64,
  .linkRetrain 3 true [255] (4294967295, [281474976710655]), .linkTraining 3 true [255] (4294967295, [281474976710655]),
  .eyeMeasure 3 32 32 32 32, .readaptSweep 3 [255], .eqSwap 3, .pairResend 3, .setPllUnlock 3, .drive 15, .sample 15,
  .shift 15 64, .waitpin 15, .waittime 15, .waitpos 15]

/-- Terms with every operand at the end of its range, part 3. -/
def atBound3 : List Instr := [
  .fetch 15, .fetchn 15, .store 15, .storen 15, .branch 15, .count 15, .signal 15, .waitsig 15, .const 15, .halt 15,
  .deadlineExpire 15, .penStart 4294967295, .penHalt 4294967295, .pmemWrite 4294967295, .fifoInWrite 4294967295,
  .signalBusWrite 65535, .pinLevelChange 79 true, .rateWindowEnd 79 4294967295, .pinStuckSet 79,
  .pinReadbackMismatch 97 true, .strobeOn 15, .strobeOff 15, .strobeEarlyEnd 15 true, .meterSample 65535 65535,
  .envelopeWrite 4294967295, .grantRequest 5 3, .grantForced 5 3, .pfSeal 255, .hkConversionDone 1 32767,
  .urgentResult 1 32767]

/-- Terms with every operand at the end of its range, part 4. -/
def atBound4 : List Instr := [
  .thmRestart 255, .startupStepEnd 8 wSfdp 65535, .getState 255 255, .getAttn 255 255, .getId 255 255, .getPtr 255 255,
  .getBus 255 255, .blockWrite 255 255 [], .blockRead 255 255 511, .setPtr 255 16777215 [] 65535, .continue 255 [] 65535,
  .cmdRefused 255 255 255, .eventOccurrence 4095 1048575 [4294967295] 15 1099511627775, .logMemFail 16383 4294967295,
  .privRemirror 4294967295, .evtPendClear 11 1 4294967295, .evtClearPending 11, .evtClearStats 11, .resetArm 1048575,
  .resetFire 1048575, .resetQuiesce 1048575, .sectionReloadDone 1048575 2, .resetResume 1048575, .watchdogExpire 1048575,
  .memoryEccError 17 4294967295 4294967295 true, .leadRegisterRead 16777215, .rcRegisterRead 16777215,
  .counterClear 16777215 4294967295, .dlClear 4294967295, .prbsTest 23 4294967295]

/-- Terms with every operand at the end of its range, part 5. -/
def atBound5 : List Instr := [
  .registerWrite 16777215 4294967295, .pageProgramDone 2 true]

/-- Each term of `atBound1` is well formed. -/
theorem test_atBound1 : atBound1.all Instr.wellFormed = true := by decide +kernel

/-- Each term of `atBound2` is well formed. -/
theorem test_atBound2 : atBound2.all Instr.wellFormed = true := by decide +kernel

/-- Each term of `atBound3` is well formed. -/
theorem test_atBound3 : atBound3.all Instr.wellFormed = true := by decide +kernel

/-- Each term of `atBound4` is well formed. -/
theorem test_atBound4 : atBound4.all Instr.wellFormed = true := by decide +kernel

/-- Each term of `atBound5` is well formed. -/
theorem test_atBound5 : atBound5.all Instr.wellFormed = true := by decide +kernel

/-! ### Results of single steps -/

/-- R361: CONST 2 adds IMM sign-extended; 5 + 0xFFFF is 4. -/
theorem test_const_adds_signed :
    (eng (after (exec (.const 0) (wEng 0xD200FFFF { wGo with x := 5 }))) 0).x = 4 := by decide +kernel

/-- R361: CONST 1 writes X[31:16] alone. -/
theorem test_const_high_half :
    (eng (after (exec (.const 0) (wEng 0xD100ABCD { wGo with x := 0x11112222 }))) 0).x = 0xABCD2222 := by decide +kernel

/-- R361: BRANCH 4 is taken when X − Y < 0, signed; X = −1, Y = 0. -/
theorem test_branch_signed_taken :
    (eng (after (exec (.branch 0) (wEng 0x94000002 { wGo with x := 0xFFFFFFFF }))) 0).pc = 2 := by decide +kernel

/-- R361: BRANCH 5 is not taken on the same values. -/
theorem test_branch_signed_not_taken :
    (eng (after (exec (.branch 0) (wEng 0x95000002 { wGo with x := 0xFFFFFFFF }))) 0).pc = 1 := by decide +kernel

/-- R359: DRIVE 3 is exclusive or; 6 xor 5 is 3. -/
theorem test_drive_toggles :
    (eng (after (exec (.drive 0) (wEng 0x03000005 { wGo with out := 6 }))) 0).out = 3 := by decide +kernel

/-- R110: with TRIM 1.5 the code 110 over the offset 100 is delivered as 115. -/
theorem test_trim : trimmed 0xC000 110 100 = 115 := by decide

/-- R110: the trimmed code is clamped to 4,095. -/
theorem test_trim_clamps : trimmed 0xC000 4095 0 = 4095 := by decide

/-- R384: 12 V (48,000 steps) and 0.5 A (16,000 steps) are 6,000 mW. -/
theorem test_meter_power :
    rnat (after (exec (.meterSample 48000 16000) wRun)) Reg.NRG_INPUT_P = 6000 := by decide +kernel

/-- R385: an envelope of 3,999 mW is refused, and NRG_ENV keeps its reset value. -/
theorem test_envelope_refused :
    rnat (after (exec (.envelopeWrite 3999) State.reset)) Reg.NRG_ENV = 15000 := by decide +kernel

/-- R473: with both straps high the target address is 0x5F. -/
theorem test_own_address : ownAddr { wRun with mb.strap := 3 } = 0x5F := by decide

/-- R505: 29 sources are privileged by default. -/
theorem test_privileged_by_default : privCount State.reset = 29 := by decide +kernel

/-- The digest of the three bytes "abc", the first example of FIPS 180-4 (R444). -/
theorem test_sha512_abc : ofBe (sha512 [0x61, 0x62, 0x63]) =
    0xddaf35a193617abacc417349ae20413112e6fa4e89a97ea20a9eeee64b55d39a2192992a274fc1a836ba3c23a3feebbd454d4423643ce80e2a9ac94fa54ca49f := by decide +kernel

/-! ### The hypotheses of every statement are met -/

/-- Words 0 and 1 of the page buffer take any word. -/
theorem page_buffer_takes_word (a v : Nat) (h : a = 0xB00300 ∧ v = 7 ∨ a = 0xB00304 ∧ v = 8) : takesWord a v := by
  have reg : ∀ n, findReg a = some (⟨"MGT_NV_BUF", 0xB00300, [(4, 64)], [0], [⟨31, 0, .rw, 0, 4294967295⟩]⟩, n) →
      findEvt a = none → mixedFields a = none → (∀ s, crossRefused s a v = false) →
      0xB00300 ≤ a → a < 0xB00400 → v < 2 ^ 32 → takesWord a v := by
    intro n hr he hm hc h1 h2 hv
    refine ⟨he, hm, hc, ?_, ?_, ?_, ?_, ?_, _, n, hr, by decide, ?_, by unfold fieldsApart; decide⟩
    · unfold Reg.MGT_MB_CFG; omega
    · unfold Reg.PEN_PMEM_DATA; omega
    · unfold Reg.NRG_ENV; omega
    · unfold Reg.PEN_SIG; omega
    · unfold Reg.LNK_DT_TEST; omega
    · intro f hf
      simp only [List.mem_singleton] at hf
      subst hf
      obtain ⟨_, rfl⟩ | ⟨_, rfl⟩ := h <;> exact ⟨rfl, by decide⟩
  obtain ⟨rfl, rfl⟩ | ⟨rfl, rfl⟩ := h
  · exact reg 0 (by decide +kernel) (by decide +kernel) (by decide +kernel) (fun _ => rfl) (by decide) (by decide) (by decide)
  · exact reg 1 (by decide +kernel) (by decide +kernel) (by decide +kernel) (fun _ => rfl) (by decide) (by decide) (by decide)

/-- Between the last two steps of the guard nothing is saved in `wGuard`: no set, no gust evaluation. -/
theorem guard_step_saves_nothing : stepPower100 wGuard (3 + 1) = 0 := by
  have h : gustPlanned wGuard (stepMask (3 + 1 - 1)) = gustPlanned wGuard (stepMask (3 + 1)) := by decide +kernel
  have h2 : trafficPower wGuard wGuard.nrg.tb (stepMask (3 + 1 - 1)) false =
      trafficPower wGuard wGuard.nrg.tb (stepMask (3 + 1)) false := by decide +kernel
  have h3 : (if bit (stepMask (3 + 1 - 1)) 3 = true then 0 else listedCount wGuard) =
      (if bit (stepMask (3 + 1)) 3 = true then 0 else listedCount wGuard) := by decide +kernel
  have e : planTerms wGuard wGuard.nrg.tb (stepMask (3 + 1 - 1)) = planTerms wGuard wGuard.nrg.tb (stepMask (3 + 1)) := by
    simp only [planTerms, h, h2, h3]
  rw [stepPower100, e, Nat.sub_self, Nat.mul_zero]

/-- In `wGuard` the step fits the envelope again. -/
theorem guard_has_room :
    11 * (p1000 wGuard * 1000000000000 * 100 + stepPower100 wGuard (3 + 1)) ≤ 10 * (envMw wGuard * 1000000000000 * 100) := by
  have h1 : p1000 wGuard = 0 := by decide +kernel
  have h2 : envMw wGuard = 15000 := by decide +kernel
  rw [guard_step_saves_nothing, h1, h2]
  decide

/-- The guard of `wGuard` is on, with nothing decided. -/
theorem guard_facts : 3 + 1 = wGuard.nrg.guardShed ∧ guardOn wGuard = true ∧ wGuard.nrg.guardNext = none := by decide +kernel

/-- The hypotheses of every clause of `Obligations.IdleStepIsOneCycle` are met. -/
theorem test_meets_IdleStepIsOneCycle :
    ∃ (s : State), s.pending = [] :=
  ⟨State.reset,
  by decide +kernel⟩

/-- The hypotheses of every clause of `Obligations.StepsKeepForm` are met. -/
theorem test_meets_StepsKeepForm :
    ∃ (s : State) (t : State), s.formed ∧ step s = .next t :=
  ⟨wRun, _, by unfold State.formed FormView.ok; decide +kernel, rfl⟩

/-- The hypotheses of every clause of `Obligations.SourceInputMovesPosition` are met. -/
theorem test_meets_SourceInputMovesPosition :
    (∃ (s : State) (rest : List Bool), s.pen.posted = true :: rest ∧ counting s = true ∧ source s = 0 ∧ (∀ t0, s.tbs.encT = some
    t0 → t0 + 8 ≤ s.t) ∧ s.tbs.deficit ≠ 0) ∧
    (∃ (s : State) (rest : List Bool), s.pen.posted = true :: rest ∧ counting s = true ∧ source s = 0 ∧ (∀ t0, s.tbs.encT = some
    t0 → t0 + 8 ≤ s.t) ∧ s.tbs.deficit = 0) ∧
    (∃ (s : State) (rest : List Bool), s.pen.posted = false :: rest ∧ counting s = true ∧ source s = 0 ∧ (∀ t0, s.tbs.encT =
    some t0 → t0 + 8 ≤ s.t)) ∧
    (∃ (s : State) (rising : Bool) (width : Nat), counting s = true ∧ source s = 1 ∧ edgeSelected rising s = true ∧ (∀ t0,
    s.tbs.syncT = some t0 → t0 + 8 ≤ s.t) ∧ rfld s Reg.TBS_SYNC_CFG 29 20 ≤ width ∧ captureMode s ≠ 1) ∧
    (∃ (s : State) (rising : Bool) (width : Nat), counting s = true ∧ source s = 1 ∧ edgeSelected rising s = true ∧ (∀ t0,
    s.tbs.syncT = some t0 → t0 + 8 ≤ s.t) ∧ rfld s Reg.TBS_SYNC_CFG 29 20 ≤ width ∧ captureMode s = 1) ∧
    (∃ (s : State) (rest : List Bool), s.pen.posted = true :: rest ∧ counting s = true ∧ source s = 0 ∧ (∀ t0, s.tbs.encT = some
    t0 → t0 + 8 ≤ s.t) ∧ s.tbs.deficit = 0 ∧ s.tbs.q < lineSteps s) ∧
    (∃ (s : State) (rising : Bool) (width : Nat), counting s = true ∧ source s = 1 ∧ edgeSelected rising s = true ∧ (∀ t0,
    s.tbs.syncT = some t0 → t0 + 8 ≤ s.t) ∧ rfld s Reg.TBS_SYNC_CFG 29 20 ≤ width ∧ s.tbs.q < lineSteps s) ∧
    (∃ (s : State), counting s = true ∧ source s = 3 ∧ s.tbs.q < lineSteps s) ∧
    (∃ (s : State), counting s = true ∧ source s = 3) ∧
    (∃ (s : State) (d : Bool) (rest : List Bool) (t0 : Nat), s.pen.posted = d :: rest ∧ s.tbs.encT = some t0 ∧ s.t < t0 + 8) ∧
    (∃ (s : State) (rising : Bool) (width : Nat) (t0 : Nat), counting s = true ∧ source s = 1 ∧ edgeSelected rising s = true ∧
    eventsTaken s = true ∧ (s.tbs.syncT = some t0 ∧ s.t < t0 + 8 ∨ width < rfld s Reg.TBS_SYNC_CFG 29 20)) ∧
    (∃ (s : State) (rising : Bool), edgeSelected rising s = false) :=
  ⟨⟨{ wRun with pen.posted := [true], tbs.deficit := 2 }, [],
   by decide +kernel⟩,
   ⟨{ wRun with pen.posted := [true], t := 8, tbs.encT := some 0 }, [],
   by decide +kernel⟩,
   ⟨{ wRun with pen.posted := [false] }, [],
   by decide +kernel⟩,
   ⟨wReg Reg.TBS_SRC_CFG 1 wRun, true, 1023,
   by decide +kernel⟩,
   ⟨wReg Reg.TBS_SRC_CFG 1 (wReg Reg.ARY_STATUS 1 wRun), true, 1023,
   by decide +kernel⟩,
   ⟨{ wRun with pen.posted := [true], t := 8, tbs.encT := some 0, tbs.q := 15 }, [],
   by decide +kernel⟩,
   ⟨wReg Reg.TBS_SRC_CFG 1 { wRun with tbs.q := 15 }, true, 1023,
   by decide +kernel⟩,
   ⟨wReg Reg.TBS_SRC_CFG 3 { wRun with tbs.q := 15 },
   by decide +kernel⟩,
   ⟨wReg Reg.TBS_SRC_CFG 3 wRun,
   by decide +kernel⟩,
   ⟨{ wRun with pen.posted := [true], tbs.encT := some 0, t := 7 }, true, [], 0,
   by decide +kernel⟩,
   ⟨{ wReg Reg.TBS_SRC_CFG 1 wRun with tbs.syncT := some 0, t := 7 }, true, 1023, 0,
   by decide +kernel⟩,
   ⟨wRun, false,
   by decide +kernel⟩⟩

/-- The hypotheses of every clause of `Obligations.BoundariesLineStartsAndMotion` are met. -/
theorem test_meets_BoundariesLineStartsAndMotion :
    (∃ (s : State), s.tbs.inService = true ∧ captureMode s = 2 ∧ works s = true) ∧
    (∃ (s : State) (d : DueLine) (rest : List DueLine), s.tbs.due = d :: rest ∧ works s = true ∧ s.mgt.capturing = true ∧
    lineBlocked s = false ∧ lineCause s d (d.tCross + lsDelay s) = none) ∧
    (∃ (s : State) (d : DueLine) (rest : List DueLine) (c : Nat), s.tbs.due = d :: rest ∧ works s = true ∧ s.mgt.capturing =
    true ∧ lineBlocked s = false ∧ lineCause s d (d.tCross + lsDelay s) = some c) ∧
    (∃ (s : State), counting s = true ∧ source s ≤ 1 ∧ up s 0x30002 = true ∧ (s.tbs.standstill = true ∨ s.tbs.deficit ≠ 0)) ∧
    (∃ (s : State) (a : StepStamp) (b : StepStamp) (rest : List StepStamp), counting s = true ∧ source s ≤ 1 ∧ up s 0x30002 =
    true ∧ s.tbs.standstill = false ∧ s.tbs.deficit = 0 ∧ s.tbs.steps = a :: rest ∧ a.t ≤ s.t ∧ rest.find? (fun x => decide (x.t
    + 2 ^ rfld s Reg.TBS_VEL_CFG 3 0 * 200 ≤ a.t)) = some b ∧ s.t ≤ b.t + 13107200) ∧
    (∃ (s : State), counting s = true ∧ source s ≤ 1 ∧ up s 0x30002 = true ∧ s.tbs.steps = [] ∧ s.tbs.keepV = false) ∧
    (∃ (s : State), s.tbs.inService = true ∧ s.tbs.standstill = false ∧ eventsTaken s = true) ∧
    (∃ (s : State) (level : Bool), rbit s Reg.TBS_MOTION_CFG 31 = true ∧ rfld s Reg.TBS_MOTION_CFG 29 23 < 80 ∧ bit s.pen.level
    (rfld s Reg.TBS_MOTION_CFG 29 23) = !level ∧ up s 0x80100 = true) :=
  ⟨⟨wReg Reg.ARY_STATUS 2 wRun,
   by decide +kernel⟩,
   ⟨{ wRun with tbs.due := [⟨1, 0, 0, none, false⟩], mgt.capturing := true, tbs.lastBoundary := some 0 }, ⟨1, 0, 0, none,
   false⟩, [],
   by decide +kernel⟩,
   ⟨{ wRun with tbs.due := [⟨1, 0, 0, none, false⟩], mgt.capturing := true, tbs.tl := some 0 }, ⟨1, 0, 0, none, false⟩, [], 0,
   by decide +kernel⟩,
   ⟨{ wRun with tbs.standstill := true },
   by decide +kernel⟩,
   ⟨{ wRun with tbs.steps := [⟨1000000, 5, 5⟩, ⟨0, 1, 1⟩], t := 1000000, tbs.standstill := false }, ⟨1000000, 5, 5⟩, ⟨0, 1, 1⟩,
   [⟨0, 1, 1⟩],
   by decide +kernel⟩,
   ⟨wRun,
   by decide +kernel⟩,
   ⟨{ wRun with tbs.standstill := false },
   by decide +kernel⟩,
   ⟨wReg Reg.TBS_MOTION_CFG 0x80000000 wRun, true,
   by decide +kernel⟩⟩

/-- The hypotheses of every clause of `Obligations.SourcePolicyEndsAndSourceReturns` are met. -/
theorem test_meets_SourcePolicyEndsAndSourceReturns :
    (∃ (s : State) (f : SrcFailed), s.tbs.failed = some f ∧ f.pol = 1 ∧ captureMode s ≠ 2 ∧ eventsTaken s = true) ∧
    (∃ (s : State) (f : SrcFailed), s.tbs.failed = some f ∧ s.tbs.stuck = false ∧ s.tbs.overrate = false ∧ s.grp.masterLost =
    false ∧ eventsTaken s = true) :=
  ⟨⟨{ wRun with tbs.failed := some ⟨1, 5, 0⟩ }, ⟨1, 5, 0⟩,
   by decide +kernel⟩,
   ⟨{ wRun with tbs.failed := some ⟨1, 5, 0⟩ }, ⟨1, 5, 0⟩,
   by decide +kernel⟩⟩

/-- The hypotheses of every clause of `Obligations.MasterAndFollowersShareTime` are met. -/
theorem test_meets_MasterAndFollowersShareTime :
    (∃ (s : State), s.grp.role = 1 ∧ up s 0x30101 = true) ∧
    (∃ (s : State), s.grp.role = 1 ∧ s.grp.trained = true ∧ up s 0x30101 = true) ∧
    (∃ (s : State) (n : Nat) (ts : Nat) (h : Nat) (pl : Nat) (tc : Nat) (l : Nat) (v : Nat) (p : Nat) (ls : Nat) (dev : Nat) (fl
    : Bool), s.xwIn.find? (fun x => isBroadcast x.2) = some (n, .bcast ts h pl tc l v p ls false fl dev) ∧ s.grp.role = 2 ∧ up s
    0x30101 = true ∧ rbit s Reg.TBS_XW_CFG n = true ∧ (xwLane s n).accepted = true ∧ s.grp.tLoaded = true ∧ (∀ x, x ∈
    s.grp.copies → x.key ≠ (ts, 0)) ∧ captureMode s ≠ 2 ∧ s.tbs.failed = none ∧ laterL l s.tbs.l = true) ∧
    (∃ (s : State) (n : Nat) (ts : Nat) (h : Nat) (pl : Nat) (kind : Nat) (tc : Nat) (l : Nat) (v : Nat) (p : Nat) (ls : Nat)
    (dev : Nat) (tm : Nat) (st : Bool) (fl : Bool) (m : XwMsg) (r : XwMsg) (e : Int), s.xwIn.find? (fun x => isBroadcast x.2) =
    some (n, m) ∧ ((m = .bcast ts h pl tc l v p ls st fl dev ∧ kind = 0 ∧ r = .bcast ts (h + 1) (pl + rfld s (Reg.TBS_XW_LAT + 4
    * n) 15 0) tc l v p ls st fl dev) ∨ (m = .beacon ts h pl dev tm ∧ kind = 1 ∧ r = .beacon ts (h + 1) (pl + rfld s
    (Reg.TBS_XW_LAT + 4 * n) 15 0) dev tm)) ∧ n < 4 ∧ s.grp.role = 2 ∧ up s 0x30101 = true ∧ rbit s Reg.TBS_XW_CFG n = true ∧
    (xwLane s n).accepted = true ∧ s.grp.tLoaded = true ∧ (∀ x, x ∈ s.grp.copies → x.key ≠ (ts, kind)) ∧ eventsTaken s = true ∧
    e = diffMod 40 (ts + (pl + rfld s (Reg.TBS_XW_LAT + 4 * n) 15 0)) s.t) ∧
    (∃ (s : State) (n : Nat) (ts : Nat) (h : Nat) (pl : Nat) (dev : Nat) (tm : Nat) (ls : Nat), s.xwIn.find? (fun x =>
    isAnnounce x.2) = some (n, .announce ts h pl dev tm ls) ∧ s.grp.role = 2 ∧ up s 0x30101 = true ∧ rbit s Reg.TBS_XW_CFG n =
    true ∧ (xwLane s n).accepted = true ∧ s.grp.tLoaded = false ∧ ls = lsDelay s ∧ eventsTaken s = true) ∧
    (∃ (s : State), s.grp.role = 2 ∧ s.grp.accepted = false ∧ s.grp.noMaster = false ∧ eventsTaken s = true) ∧
    (∃ (s : State), s.grp.role = 2 ∧ s.grp.accepted = true ∧ s.grp.masterLost = false ∧ s.tbs.failed = none ∧ eventsTaken s =
    true) :=
  ⟨⟨{ wRun with grp.role := 1 },
   by decide +kernel⟩,
   ⟨{ wRun with grp.role := 1, grp.trained := true },
   by decide +kernel⟩,
   ⟨{ wReg Reg.TBS_XW_CFG 1 wRun with xwIn := [(0, .bcast 1 0 0 0 5 0 7 0 false false 9)], grp.role := 2, xw := [(0, { XwLane.reset with accepted := true })], grp.tLoaded := true },
   0, 1, 0, 0, 0, 5, 0, 7, 0, 9, false,
   by decide +kernel⟩,
   ⟨{ wReg Reg.TBS_XW_CFG 0x21 wRun with xwIn := [(0, .beacon 1 0 0 9 77)], grp.role := 2, xw := [(0, { XwLane.reset with accepted := true }), (1, { XwLane.reset with st := 2, accepted := true })], grp.tLoaded := true },
   0, 1, 0, 0, 1, 0, 0, 0, 0, 0, 9, 77, false, false, .beacon 1 0 0 9 77, .beacon 1 1 0 9 77, 1,
   by decide +kernel⟩,
   ⟨{ wReg Reg.TBS_XW_CFG 1 (wReg Reg.TBS_LS_DELAY 40 wRun) with xwIn := [(0, .announce 1 0 0 9 77 40)], grp.role := 2, xw := [(0, { XwLane.reset with accepted := true })], grp.tLoaded := false },
   0, 1, 0, 0, 9, 77, 40,
   by decide +kernel⟩,
   ⟨{ wRun with grp.role := 2, grp.noMaster := false },
   by decide +kernel⟩,
   ⟨{ wRun with grp.role := 2, grp.accepted := true },
   by decide +kernel⟩⟩

/-- The hypotheses of every clause of `Obligations.CommitsAreCheckedAndApplied` are met. -/
theorem test_meets_CommitsAreCheckedAndApplied :
    (∃ (s : State), s.ary.loaded = true ∧ domainRuns s 1 = true ∧ inReset s 0x10000 = false ∧ commitRefusal (stagedCheck s)
    (rnat s Reg.ARY_APPLY_L) s = none) ∧
    (∃ (s : State), s.ary.loaded = true ∧ domainRuns s 1 = true ∧ inReset s 0x10000 = false ∧ commitRefusal (stagedCheck s)
    ((s.tbs.l + 2) % 2 ^ 32) s = none) ∧
    (∃ (s : State) (r : Nat), s.ary.loaded = true ∧ domainRuns s 1 = true ∧ inReset s 0x10000 = false ∧ eventsTaken s = true ∧
    commitRefusal (stagedCheck s) (rnat s Reg.ARY_APPLY_L) s = some r) ∧
    (∃ (s : State) (r : Nat), s.ary.loaded = true ∧ domainRuns s 1 = true ∧ inReset s 0x10000 = false ∧ eventsTaken s = true ∧
    commitRefusal (stagedCheck s) ((s.tbs.l + 2) % 2 ^ 32) s = some r) ∧
    (∃ (s : State), domainRuns s 1 = false) ∧
    (∃ (s : State) (p : PendingCommit), s.ary.pend = some p ∧ diffMod 32 p.lApply s.tbs.l ≤ 0 ∧ eventsTaken s = true) :=
  ⟨⟨wStaged,
   by decide +kernel⟩,
   ⟨wStaged,
   by decide +kernel⟩,
   ⟨{ wRun with ary.loaded := true }, 4,
   by decide +kernel⟩,
   ⟨{ wRun with ary.loaded := true, ary.pend := some ⟨Ary.reset.set, 5, 1, false⟩ }, 5,
   by decide +kernel⟩,
   ⟨{ wRun with mgt.state := .safe },
   by decide +kernel⟩,
   ⟨{ wRun with ary.pend := some ⟨Ary.reset.set, 0, 1, true⟩ }, ⟨Ary.reset.set, 0, 1, true⟩,
   by decide +kernel⟩⟩

/-- The hypotheses of every clause of `Obligations.PendingCommitIsCancelledUntilFrozen` are met. -/
theorem test_meets_PendingCommitIsCancelledUntilFrozen :
    (∃ (s : State) (p : PendingCommit), s.ary.pend = some p ∧ p.frozen = false ∧ eventsTaken s = true) ∧
    (∃ (s : State) (p : PendingCommit), s.ary.pend = some p ∧ diffMod 32 p.lApply s.tbs.l ≤ 1) ∧
    (∃ (s : State) (p : PendingCommit), s.ary.pend = some p ∧ p.frozen = true) ∧
    (∃ (s : State) (p : PendingCommit) (r : RstRun), s.ary.pend = some p ∧ runOf s 0x10000 = some r ∧ r.phase = .fired) :=
  ⟨⟨{ wRun with ary.pend := some ⟨Ary.reset.set, 5, 1, false⟩ }, ⟨Ary.reset.set, 5, 1, false⟩,
   by decide +kernel⟩,
   ⟨{ wRun with ary.pend := some ⟨Ary.reset.set, 1, 1, false⟩ }, ⟨Ary.reset.set, 1, 1, false⟩,
   by decide +kernel⟩,
   ⟨{ wRun with ary.pend := some ⟨Ary.reset.set, 5, 1, true⟩ }, ⟨Ary.reset.set, 5, 1, true⟩,
   by decide +kernel⟩,
   ⟨{ wRun with ary.pend := some ⟨CapSet.zero, 2, 1, false⟩, rst.runs := [⟨0x10000, 2, .fired, 0, 0, false⟩] }, ⟨CapSet.zero, 2,
   1, false⟩, ⟨0x10000, 2, .fired, 0, 0, false⟩,
   by decide +kernel⟩⟩

/-- The hypotheses of every clause of `Obligations.SnapshotsAndExposuresRun` are met. -/
theorem test_meets_SnapshotsAndExposuresRun :
    (∃ (s : State), s.ary.snapPend = false ∧ s.ary.snapBusy = false ∧ up s 0x10001 = true) ∧
    (∃ (s : State), (s.ary.snapPend || s.ary.snapBusy) = true ∧ eventsTaken s = true) ∧
    (∃ (s : State), s.ary.snapBusy = true ∧ s.ary.snapStage = 0) ∧
    (∃ (s : State), s.ary.snapBusy = true ∧ s.ary.snapStage = 1) ∧
    (∃ (s : State), s.ary.snapBusy = true ∧ s.ary.snapStage = 2 ∧ eventsTaken s = true) ∧
    (∃ (s : State), s.ary.snapPend = true ∧ eventsTaken s = true) ∧
    (∃ (s : State) (k : Nat) (c : Nat), (lineExposing s k c).isSome = true ∧ up s (0x10200 + k) = true) ∧
    (∃ (s : State) (i : Nat) (x : CapLine), lineInSlot s 0 i = some x ∧ up s 0x10100 = true ∧ eventsTaken s = true) ∧
    (∃ (s : State) (i : Nat) (x : CapLine), lineEnding s i = some x ∧ up s 0x10100 = true ∧ eventsTaken s = true) ∧
    (∃ (s : State) (i : Nat) (x : CapLine), lineEnding s i = some x ∧ images s = true) ∧
    (∃ (s : State) (i : Nat) (rowBad : Nat) (pulseBad : Nat) (k : Nat) (x : CapLine), lineEnding s i = some x ∧ images s = true
    ∧ eventsTaken s = true ∧ k < 9 ∧ x.set.captured k = true ∧ x.set.bandSlot k = i ∧ up s (0x10200 + k) = true ∧ (bit rowBad k
    = true ∨ bit pulseBad k = true)) :=
  ⟨⟨wRun,
   by decide +kernel⟩,
   ⟨{ wRun with ary.snapBusy := true },
   by decide +kernel⟩,
   ⟨{ wRun with ary.snapBusy := true },
   by decide +kernel⟩,
   ⟨{ wRun with ary.snapBusy := true, ary.snapStage := 1 },
   by decide +kernel⟩,
   ⟨{ wRun with ary.snapBusy := true, ary.snapStage := 2 },
   by decide +kernel⟩,
   ⟨{ wRun with ary.snapPend := true },
   by decide +kernel⟩,
   ⟨wFly 50, 0, 0,
   by decide +kernel⟩,
   ⟨wFly 50, 0, wCap,
   by decide +kernel⟩,
   ⟨wFly 100, 0, wCap,
   by decide +kernel⟩,
   ⟨wFly 100, 0, wCap,
   by decide +kernel⟩,
   ⟨wFly 100, 0, 1, 0, 0, wCap,
   by decide +kernel⟩⟩

/-- The hypotheses of every clause of `Obligations.ConvertersConvertCalibrateAndAreReplaced` are met. -/
theorem test_meets_ConvertersConvertCalibrateAndAreReplaced :
    (∃ (s : State) (r : ReadSeq) (rest : List ReadSeq), images s = true ∧ inReset s 0x10300 = false ∧ s.ary.reads = r :: rest ∧
    r.snap = false) ∧
    (∃ (s : State) (r : ReadSeq) (rest : List ReadSeq), images s = true ∧ inReset s 0x10300 = false ∧ s.ary.reads = r :: rest ∧
    r.snap = true) ∧
    (∃ (s : State) (n : Nat) (p : Nat) (i : Nat), lineConverting s = false ∧ (sliceOf s n).due = some (p, i) ∧ eventsTaken s =
    true) ∧
    (∃ (s : State) (n : Nat) (r : AuRepl), (sliceOf s n).repl = some r ∧ 2 ≤ r.cycles ∧ eventsTaken s = true) ∧
    (∃ (s : State), s.mgt.state = .starting ∧ s.mgt.step = 5 ∧ s.col.calibrated = false ∧ rbit s Reg.COL_CFG 8 = false) ∧
    (∃ (s : State) (b : Nat), s.thm.tbNext = some b ∧ works s = true ∧ s.mgt.stepsDone.contains 5 = true ∧ inReset s 0x20C01 =
    false ∧ eventsTaken s = true) ∧
    (∃ (s : State) (b : Nat), s.thm.tbNext = some b ∧ works s = true ∧ s.mgt.stepsDone.contains 5 = true ∧ inReset s 0x20C01 =
    true ∧ eventsTaken s = true) :=
  ⟨⟨{ wRun with ary.reads := [⟨0, 0, 0, 0, 0, 0, 0, false⟩] }, ⟨0, 0, 0, 0, 0, 0, 0, false⟩, [],
   by decide +kernel⟩,
   ⟨{ wRun with ary.reads := [⟨0, 0, 0, 0, 0, 0, 0, true⟩] }, ⟨0, 0, 0, 0, 0, 0, 0, true⟩, [],
   by decide +kernel⟩,
   ⟨{ wRun with col.slices := [(0, { Slice.reset with due := some (3, 96) })] }, 0, 3, 96,
   by decide +kernel⟩,
   ⟨{ wRun with col.slices := [(0, { Slice.reset with repl := some ⟨97, 2, []⟩ })] }, 0, ⟨97, 2, []⟩,
   by decide +kernel⟩,
   ⟨wReg Reg.COL_CFG 1 { wRun with mgt.state := .starting, mgt.step := 5 },
   by decide +kernel⟩,
   ⟨{ wRun with thm.tbNext := some 2 }, 2,
   by decide +kernel⟩,
   ⟨{ wRun with thm.tbNext := some 2, rst.held := [0x20C01] }, 2,
   by decide +kernel⟩⟩

/-- The hypotheses of every clause of `Obligations.SegmentsAreStoredAndLinesDrawn` are met. -/
theorem test_meets_SegmentsAreStoredAndLinesDrawn :
    (∃ (s : State) (n : Nat) (g : Seg) (rest : List Seg), n < 12 ∧ images s = true ∧ (secOf s n).wq = g :: rest ∧ inReset s
    0x40C00 = false) ∧
    (∃ (s : State) (n : Nat) (l : Nat) (rest : List Nat), n < 12 ∧ images s = true ∧ inReset s 0x40C00 = false ∧ (secOf s n).wq
    = [] ∧ (secOf s n).due = l :: rest ∧ regRoom s n = true ∧ (∀ m, m < 12 → m ≠ n → (secOf s m).due = []) ∧ eventsTaken s =
    true) ∧
    (∃ (s : State) (n : Nat) (l : Nat) (q : RegPart), n < 12 ∧ images s = true ∧ inReset s 0x40C00 = false ∧ (secOf s n).wq = []
    ∧ (secOf s n).due = [l] ∧ regRoom s n = true ∧ (∀ m, m < 12 → m ≠ n → (secOf s m).due = []) ∧ s.pip.parts.find? (fun q =>
    q.line.l == l) = some q ∧ (∀ i, i < 12 → i ≠ n → i ∈ q.done)) ∧
    (∃ (s : State) (l : Nat), images s = true ∧ inReset s 0x40C00 = false ∧ (∀ q, q ∈ s.pip.parts → q.line.l ≠ l) ∧ (∀ n, n < 12
    → (secOf s n).wq = [] ∧ (secOf s n).fifo = [] ∧ (secOf s n).due = [l] ∧ regRoom s n = true)) ∧
    (∃ (s : State), (∀ n, n < 12 → (secOf s n).due = [] ∨ (secOf s n).wq = [] ∧ regRoom s n = false)) :=
  ⟨⟨{ wRun with pip.sec := [(11, { Sec.reset with wq := [⟨0, 1, 2, 0, [], false, false, false, false, false⟩] })] }, 11, ⟨0, 1,
   2, 0, [], false, false, false, false, false⟩, [],
   by decide +kernel⟩,
   ⟨{ wRun with pip.sec := [(3, { Sec.reset with due := [3, 4] })] }, 3, 3, [4],
   by decide +kernel⟩,
   ⟨{ wRun with pip.sec := [(3, { Sec.reset with due := [0] })], pip.parts := [⟨wLine, [0, 1, 2, 4, 5, 6, 7, 8, 9, 10, 11], [], [], []⟩] },
   3, 0, ⟨wLine, [0, 1, 2, 4, 5, 6, 7, 8, 9, 10, 11], [], [], []⟩,
   by decide +kernel⟩,
   ⟨{ wRun with pip.sec := (List.range 12).map (fun n => (n, { Sec.reset with due := [3] })) }, 3,
   by decide +kernel⟩,
   ⟨{ wRun with pip.sec := [(3, { Sec.reset with due := [3] })], pip.lines := [{ wLine with accLeft := [3] }, { wLine with accLeft := [3] }] },
   by decide +kernel⟩⟩

/-- The hypotheses of every clause of `Obligations.LateSectorsDsnuAndLineUnits` are met. -/
theorem test_meets_LateSectorsDsnuAndLineUnits :
    (∃ (s : State) (n : Nat), n < 12 ∧ secFinished s n ((s.tbs.l + 2 ^ 32 - 4) % 2 ^ 32) = false ∧ secOff s n = false ∧ inReset
    s 0x40C00 = false ∧ eventsTaken s = true) ∧
    (∃ (s : State) (n : Nat) (g : Seg), n < 12 ∧ (secOf s n).fifo = [] ∧ (secOf s n).wq = [g] ∧ (secOf s n).due = [] ∧ (lineGone
    (secOf s n) ((s.tbs.l + 2 ^ 32 - 4) % 2 ^ 32) || (restUpTo s ((s.tbs.l + 2 ^ 32 - 4) % 2 ^ 32)).isEmpty) = true ∧ laterL g.l
    ((s.tbs.l + 2 ^ 32 - 4) % 2 ^ 32) = false ∧ secOff s n = false ∧ inReset s 0x40C00 = false ∧ eventsTaken s = true) ∧
    (∃ (s : State) (n : Nat), secFinished s n ((s.tbs.l + 2 ^ 32 - 4) % 2 ^ 32) = true) ∧
    (∃ (s : State) (b : Nat) (bs : List Byte), s.pip.dsnuLoad = some b ∧ nvTurn s 2 = true ∧ dsnuSection s b = some bs ∧
    bs.length ≤ 663552) ∧
    (∃ (s : State) (b : Nat), s.pip.dsnuLoad = some b ∧ nvTurn s 2 = true ∧ eventsTaken s = true) ∧
    (∃ (s : State) (r : RegLine) (d : Nat), images s = true ∧ nextEmit s = some r ∧ s.pip.drawn = some d ∧ 2 ≤ diffMod 32 d r.l
    ∧ clsHere s r = true) ∧
    (∃ (s : State) (r : RegLine), nextEmit s = some r ∧ (s.pip.drawn = none ∨ (∃ d, s.pip.drawn = some d ∧ diffMod 32 d r.l < 2)
    ∨ clsHere s r = false)) ∧
    (∃ (s : State) (l : Nat) (rest : List (Nat × Bool)), images s = true ∧ s.pip.rawDone = (l, false) :: rest) ∧
    (∃ (s : State) (l : Nat) (rest : List (Nat × Bool)), images s = true ∧ s.pip.rawDone = (l, true) :: rest) :=
  ⟨⟨{ wRun with pip.sec := [(0, { Sec.reset with wq := [⟨0, 1, 2 ^ 32 - 4, 0, [], false, false, false, false, false⟩] })] }, 0,
   by decide +kernel⟩,
   ⟨{ wRun with pip.sec := [(0, { Sec.reset with wq := [⟨0, 1, 2 ^ 32 - 4, 0, [], false, false, false, false, false⟩] })] }, 0,
   ⟨0, 1, 2 ^ 32 - 4, 0, [], false, false, false, false, false⟩,
   by decide +kernel⟩,
   ⟨wRun, 12,
   by decide +kernel⟩,
   ⟨wDsnu, 0, [], rfl, by decide +kernel, by decide +kernel, by decide +kernel⟩,
   ⟨{ wRun with pip.dsnuLoad := some 1 }, 1,
   by decide +kernel⟩,
   ⟨{ wRun with pip.lines := [wLine], pip.drawn := some 2 }, wLine, 2,
   by decide +kernel⟩,
   ⟨{ wRun with pip.lines := [wLine] }, wLine,
   by decide +kernel⟩,
   ⟨{ wRun with pip.rawDone := [(4, false)] }, 4, [],
   by decide +kernel⟩,
   ⟨{ wRun with pip.rawDone := [(4, true)] }, 4, [],
   by decide +kernel⟩⟩

/-- The hypotheses of every clause of `Obligations.LeadLinesAndSectorsMakeObjects` are met. -/
theorem test_meets_LeadLinesAndSectorsMakeObjects :
    (∃ (s : State) (n : Nat) (g : LeadSeg) (rest : List LeadSeg), n < 12 ∧ works s = true ∧ (secOf s n).lead = g :: rest ∧
    inReset s (0x60000 + 0x100 * n) = false ∧ inReset s (0x60001 + 0x100 * n) = false) ∧
    (∃ (s : State) (n : Nat) (g : LeadSeg) (rest : List LeadSeg), n < 12 ∧ works s = true ∧ (secOf s n).lead = g :: rest ∧
    (inReset s (0x60000 + 0x100 * n) = true ∨ inReset s (0x60001 + 0x100 * n) = true)) ∧
    (∃ (s : State) (b : Nat) (segs : List LeadIn), works s = true ∧ leadLine s = some (b, segs) ∧ inReset s 0x40C00 = false) ∧
    (∃ (s : State), leadLine s = none) ∧
    (∃ (s : State) (b : Nat) (segs : List LeadIn), works s = true ∧ leadLine s = some (b, segs) ∧ segs.all (fun g => g.kind ==
    2) = true) ∧
    (∃ (s : State) (b : Nat) (segs : List LeadIn), works s = true ∧ leadLine s = some (b, segs) ∧ segs.all (fun g => g.kind ==
    2) = false) ∧
    (∃ (s : State) (n : Nat) (r : RegLine), n < 12 ∧ works s = true ∧ nextAcc s n = some r) ∧
    (∃ (s : State) (n : Nat) (k : Nat) (r : RegLine) (o : Obj) (cols : List Nat), n < 12 ∧ works s = true ∧ nextAcc s n = some r
    ∧ inReset s (0x60000 + 0x100 * n) = false ∧ inReset s (0x60001 + 0x100 * n) = false ∧ objOf s k = some o ∧ (∀ p, p ∈
    s.vdt.objs → p.2.st ≠ 2 ∧ p.2.st ≠ 7) ∧ byObject ((r.labels.filter (fun p => p.1 / 1536 == n)).filterMap (fun p => (resolve
    s r.l p.2).map (fun i => (i, p.1)))) = [(k, cols)]) ∧
    (∃ (s : State) (n : Nat), nextAcc s n = none) :=
  ⟨⟨{ wRun with pip.sec := [(0, { Sec.reset with lead := [⟨3, [], 0⟩] })] }, 0, ⟨3, [], 0⟩, [],
   by decide +kernel⟩,
   ⟨{ wRun with pip.sec := [(11, { Sec.reset with lead := [⟨3, [], 0⟩] })], rst.held := [0x60B00] }, 11, ⟨3, [], 0⟩, [],
   by decide +kernel⟩,
   ⟨{ wRun with vdt.lead := wLead 0 }, 3, wLead 0,
   by decide +kernel⟩,
   ⟨wRun,
   by decide +kernel⟩,
   ⟨{ wRun with vdt.lead := wLead 2 }, 3, wLead 2,
   by decide +kernel⟩,
   ⟨{ wRun with vdt.lead := wLead 0 }, 3, wLead 0,
   by decide +kernel⟩,
   ⟨{ wRun with pip.lines := [{ wLine with accLeft := [0] }] }, 0, { wLine with accLeft := [0] },
   by decide +kernel⟩,
   ⟨{ wRun with pip.lines := [{ wLine with accLeft := [0], labels := [(5, 1)] }], vdt.objs := [(0, { Obj.reset with st := 1 })] },
   0, 0, { wLine with accLeft := [0], labels := [(5, 1)] }, { Obj.reset with st := 1 }, [5],
   by decide +kernel⟩,
   ⟨wRun, 0,
   by decide +kernel⟩⟩

/-- The hypotheses of every clause of `Obligations.ConfirmedEvaluationGivesVerdict` are met. -/
theorem test_meets_ConfirmedEvaluationGivesVerdict :
    (∃ (s : State) (c : Nat) (e : QEnt) (o : Obj) (v : Nat) (reason : Nat), c < 4 ∧ up s (0x60D00 + c) = true ∧ inReset s
    0x60C02 = false ∧ inReset s 0x60F01 = false ∧ partnerLinks s = [] ∧ nextEval s = some e ∧ e.cp = 0 ∧ objOf s e.slot = some o
    ∧ o.id = e.id ∧ o.st = 3 ∧ absentPolicy s o (o.prog.getD 0) = none ∧ (runProgram s (o.prog.getD 0) (viewOf s o 0 0 0)).1 =
    some (v, reason) ∧ v < 16) ∧
    (∃ (s : State) (c : Nat) (e : QEnt) (o : Obj), c < 4 ∧ up s (0x60D00 + c) = true ∧ inReset s 0x60C02 = false ∧ inReset s
    0x60F01 = false ∧ partnerLinks s = [] ∧ nextEval s = some e ∧ e.cp = 0 ∧ objOf s e.slot = some o ∧ o.id = e.id ∧ o.st = 3 ∧
    absentPolicy s o (o.prog.getD 0) = none ∧ (runProgram s (o.prog.getD 0) (viewOf s o 0 0 0)).1 = none ∧ eventsTaken s = true) ∧
    (∃ (s : State) (c : Nat) (e : QEnt) (o : Obj) (k : Nat) (pol : Nat), c < 4 ∧ up s (0x60D00 + c) = true ∧ inReset s 0x60C02 =
    false ∧ inReset s 0x60F01 = false ∧ partnerLinks s = [] ∧ nextEval s = some e ∧ e.cp = 0 ∧ objOf s e.slot = some o ∧ o.id =
    e.id ∧ o.st = 3 ∧ absentPolicy s o (o.prog.getD 0) = some (k, pol) ∧ (pol = 1 ∨ pol = 2) ∧ eventsTaken s = true) ∧
    (∃ (s : State) (c : Nat) (e : QEnt) (o : Obj) (v : Nat) (reason : Nat), c < 4 ∧ up s (0x60D00 + c) = true ∧ inReset s
    0x60C02 = false ∧ inReset s 0x60F01 = false ∧ partnerLinks s = [] ∧ nextEval s = some e ∧ e.cp = 0 ∧ objOf s e.slot = some o
    ∧ o.id = e.id ∧ o.st = 3 ∧ absentPolicy s o (o.prog.getD 0) = none ∧ (runProgram s (o.prog.getD 0) (viewOf s o 0 0 0)).1 =
    some (v, reason) ∧ fires s v = true ∧ firesValves s = true ∧ inReset s 0x60F02 = false ∧ o.late = 0 ∧ (o.wins.map
    (·.1)).Nodup ∧ eventsTaken s = true ∧ (∀ r, r ∈ s.vdt.resv → r.obj ≠ o.id ∨ r.site ≠ site s) ∧ s.vdt.resv.length + 2 *
    o.wins.length ≤ 8192) ∧
    (∃ (s : State) (c : Nat) (e : QEnt) (o : Obj) (v : Nat) (reason : Nat), c < 4 ∧ up s (0x60D00 + c) = true ∧ inReset s
    0x60C02 = false ∧ inReset s 0x60F01 = false ∧ partnerLinks s = [] ∧ nextEval s = some e ∧ e.cp = 0 ∧ objOf s e.slot = some o
    ∧ o.id = e.id ∧ o.st = 3 ∧ absentPolicy s o (o.prog.getD 0) = none ∧ (runProgram s (o.prog.getD 0) (viewOf s o 0 0 0)).1 =
    some (v, reason) ∧ fires s v = false ∧ firesValves s = true ∧ o.late ≠ 2 ∧ bit o.flags 10 = false) :=
  ⟨⟨wObj wClosed 0 (wProg 3 wRun), 0, ⟨0, 0, 0, none, []⟩, wClosed, 3, 1,
   by decide +kernel⟩,
   ⟨wObj wClosed 0 wRun, 0, ⟨0, 0, 0, none, []⟩, wClosed,
   by decide +kernel⟩,
   ⟨wObj { wClosed with reg.al := [1] } 0 (wReg Reg.VDT_PROG_INFO 65537 (wReg Reg.VDT_ABS_CFG 1 wRun)), 0, ⟨0, 0, 0, none, []⟩,
   { wClosed with reg.al := [1] }, 0, 1,
   by decide +kernel⟩,
   ⟨wObj { wClosed with wins := [(0, 100, 110, [3]), (7, 102, 110, [127])] } 0 (wProg 3 wRun), 0, ⟨0, 0, 0, none, []⟩,
   { wClosed with wins := [(0, 100, 110, [3]), (7, 102, 110, [127])] }, 3, 1,
   by decide +kernel⟩,
   ⟨{ wObj wClosed 0 (wProg 0 wRun) with vdt.resv := [⟨0, 0, 0, false, 0, [3], 5, 9⟩] }, 0, ⟨0, 0, 0, none, []⟩, wClosed, 0, 1,
   by decide +kernel⟩⟩

/-- The hypotheses of every clause of `Obligations.FragmentsAndPartnerRecordsAreMatched` are met. -/
theorem test_meets_FragmentsAndPartnerRecordsAreMatched :
    (∃ (s : State) (x : Nat × XwMsg), s.xwIn.find? (fun x => isRec 3 x.2 && decide (x.1 ≤ 1)) = some x ∧ stitchOn s x.1 = true ∧
    (waiting s).find? (fun p => fragMatch s p.2 (asRec s x.1 x.2)) = none) ∧
    (∃ (s : State) (x : Nat × XwMsg) (k : Nat) (o : Obj), s.xwIn.find? (fun x => isRec 3 x.2 && decide (x.1 ≤ 1)) = some x ∧
    stitchOn s x.1 = true ∧ s.vdt.objs = [(k, o)] ∧ o.st = 4 ∧ s.vdt.frags = [] ∧ fragMatch s o (asRec s x.1 x.2) = true ∧
    stitchSides s o = [x.1] ∧ inReset s 0x60C02 = false ∧ s.vdt.queue.length < 1024) ∧
    (∃ (s : State) (x : Nat × XwMsg), s.xwIn.find? (fun x => isRec 3 x.2 && decide (x.1 ≤ 1)) = some x ∧ stitchOn s x.1 = false) ∧
    (∃ (s : State) (k : Nat) (o : Obj), longest s 4 = some k ∧ objOf s k = some o ∧ (component s 64 [k]).2 = [] ∧ inReset s
    0x60C02 = false ∧ inReset s 0x60E00 = false ∧ s.vdt.queue.length < 1024 ∧ eventsTaken s = true) ∧
    (∃ (s : State) (x : Nat × XwMsg), s.xwIn.find? (fun x => isRec 4 x.2 && decide (2 ≤ x.1)) = some x ∧ partnerOwner s = true ∧
    inReset s 0x60E01 = false ∧ (partnerLinks s).contains x.1 = true ∧ (s.vdt.objs.filter (fun p => p.2.st == 5)).filterMap (fun
    p => partnerDist s p.2 (asRec s x.1 x.2)) = []) ∧
    (∃ (s : State) (x : Nat × XwMsg) (k : Nat) (v : Nat) (o : Obj), s.xwIn.find? (fun x => isRec 4 x.2 && decide (2 ≤ x.1)) =
    some x ∧ partnerOwner s = true ∧ inReset s 0x60E01 = false ∧ inReset s 0x60F01 = false ∧ (partnerLinks s).contains x.1 =
    true ∧ s.vdt.objs = [(k, o)] ∧ o.st = 5 ∧ (partnerDist s o (asRec s x.1 x.2)).isSome = true ∧ v = (combine (o.verdict.getD
    (0, 0, 0)) (recFld (asRec s x.1 x.2).words 0 47 44)).1 ∧ v < 16) ∧
    (∃ (s : State) (k : Nat), longest s 5 = some k ∧ inReset s 0x60F01 = false ∧ inReset s 0x60E01 = false ∧ eventsTaken s =
    true ∧ (objOf s k).isSome = true) ∧
    (∃ (s : State) (q : XwRec) (rest : List XwRec), s.vdt.parts = q :: rest ∧ fires s (recFld q.words 0 47 44) = false) ∧
    (∃ (s : State) (q : XwRec) (rest : List XwRec), s.vdt.parts = q :: rest ∧ fires s (recFld q.words 0 47 44) = true ∧
    partnerOwner s = true ∧ inReset s 0x60F01 = false ∧ eventsTaken s = true) :=
  ⟨⟨wReg Reg.VDT_XW_CFG 0x80000000 { wRun with xwIn := [(0, wRec 3 0)] }, (0, wRec 3 0),
   by decide +kernel⟩,
   ⟨wReg Reg.VDT_XW_CFG 0x80000000
   { wRun with xwIn := [(0, wRec 3 0)], vdt.objs := [(0, { Obj.reset with st := 4, flags := 0x80, edgeLo := some (0, 0) })] },
   (0, wRec 3 0), 0, { Obj.reset with st := 4, flags := 0x80, edgeLo := some (0, 0) },
   by decide +kernel⟩,
   ⟨wReg Reg.VDT_XW_CFG 0 { wRun with xwIn := [(0, wRec 3 0)] }, (0, wRec 3 0),
   by decide +kernel⟩,
   ⟨{ wRun with vdt.objs := [(0, { Obj.reset with st := 4 })] }, 0, { Obj.reset with st := 4 },
   by decide +kernel⟩,
   ⟨wReg Reg.VDT_XW_CFG 0x30000000 { wRun with xwIn := [(2, wRec 4 0)] }, (2, wRec 4 0),
   by decide +kernel⟩,
   ⟨wReg Reg.VDT_XW_CFG 0x301F0FFF
   { wRun with xwIn := [(2, wRec 4 0)], vdt.objs := [(0, { Obj.reset with st := 5, reg.area := 1 })] }, (2, wRec 4 0), 0, 0,
   { Obj.reset with st := 5, reg.area := 1 },
   by decide +kernel⟩,
   ⟨{ wRun with vdt.objs := [(0, { Obj.reset with st := 5 })] }, 0,
   by decide +kernel⟩,
   ⟨{ wRun with vdt.parts := [⟨0, 2, 0, 0, [], (0, 0)⟩] }, ⟨0, 2, 0, 0, [], (0, 0)⟩, [],
   by decide +kernel⟩,
   ⟨wReg Reg.VDT_XW_CFG 0x30000000 { wRun with vdt.parts := [⟨0, 2, 0, 0, [17592186044416#128], (0, 0)⟩] }, ⟨0, 2, 0, 0,
   [17592186044416#128], (0, 0)⟩, [],
   by decide +kernel⟩⟩

/-- The hypotheses of every clause of `Obligations.GustVerdictsFramesAndArmSpans` are met. -/
theorem test_meets_GustVerdictsFramesAndArmSpans :
    (∃ (s : State) (c : Nat) (e : QEnt) (o : Obj), c < 4 ∧ up s (0x60D00 + c) = true ∧ inReset s 0x60C02 = false ∧ nextEval s =
    some e ∧ e.cp ≠ 0 ∧ objOf s e.slot = some o ∧ o.id = e.id ∧ (o.st = 1 ∨ o.st = 2) ∧ fires s (((runProgram s (o.prog.getD 0)
    (fun i => mgetD e.views i 0)).1.getD (15, 0)).1) = true) ∧
    (∃ (s : State) (c : Nat) (e : QEnt), c < 4 ∧ up s (0x60D00 + c) = true ∧ inReset s 0x60C02 = false ∧ nextEval s = some e ∧
    e.cp ≠ 0 ∧ objOf s e.slot = none) ∧
    (∃ (s : State) (b : Nat), b < 8 ∧ works s = true ∧ rbit s (Reg.VDT_VB_CFG + 4 * b) 31 = true ∧ tickLen s ≠ 0 ∧ (∀ m, (mgetD
    s.vdt.framers b Framer.reset).last = some m → m < (s.t + frameLat s) / tickLen s) ∧ inReset s (0x61000 + b) = false) ∧
    (∃ (s : State) (b : Nat) (e : Nat) (n : Nat) (w : Nat) (f : Bool) (ws : List Nat) (rest : List (Nat × Bool × List Nat)),
    (mgetD s.vdt.framers b Framer.reset).q = (n, f, w :: ws) :: rest ∧ bankPe s b = some e ∧ inReset s (0x61000 + b) = false ∧
    (eng s e).inF.length < 8) ∧
    (∃ (s : State) (b : Nat) (f : Nat × Bool × List Nat), (mgetD s.vdt.framers b Framer.reset).q.find? (fun f => !f.2.1) = some
    f ∧ eventsTaken s = true) ∧
    (∃ (s : State) (r : Resv), s.vdt.resv.find? (fun r => !r.opn && (r.src == 0 || r.src == 2) && decide (r.hi ≤ ((s.t / tickLen
    s : Nat) : Int))) = some r) ∧
    (∃ (s : State) (n : Nat) (ty : Nat) (st : Nat) (ob : Nat) (ws : List (BitVec 128)) (cn : Nat × Nat) (a : Int) (b : Int) (vs
    : List (Nat × List Nat)), s.xwIn.find? (fun x => isRec 1 x.2 && decide (2 ≤ x.1)) = some (n, .record ty st ob ws cn) ∧
    (partnerLinks s).contains n = true ∧ inReset s 0x60F02 = false ∧ rbit s Reg.VDT_XW_CFG 29 = true ∧ rbit s Reg.VDT_XW_CFG 28
    = true ∧ captureMode s ≠ 2 ∧ fires s (recFld ws 0 47 44) = true ∧ a = localCol s (recFld ws 1 59 43) ∧ b = localCol s
    (recFld ws 1 42 26) ∧ vs = bankSets (valveSet s (min a b) (max a b)) ∧ s.vdt.resv.length + vs.length ≤ 8192) :=
  ⟨⟨wObj { Obj.reset with st := 1 } 1 (wProg 3 wRun), 0, ⟨0, 0, 1, none, []⟩, { Obj.reset with st := 1 },
   by decide +kernel⟩,
   ⟨{ wRun with vdt.queue := [⟨0, 0, 1, none, []⟩] }, 0, ⟨0, 0, 1, none, []⟩,
   by decide +kernel⟩,
   ⟨wReg Reg.VDT_VB_CFG 0x80000000 wRun, 0,
   by decide +kernel⟩,
   ⟨wReg Reg.VDT_VB_CFG 0x80000000 { wRun with vdt.framers := [(0, ⟨none, [(0, false, [5])]⟩)] }, 0, 0, 0, 5, false, [], [],
   by decide +kernel⟩,
   ⟨{ wRun with vdt.framers := [(0, ⟨none, [(0, false, [5])]⟩)] }, 0, (0, false, [5]),
   by decide +kernel⟩,
   ⟨{ wRun with vdt.resv := [⟨0, 0, 0, false, 0, [], 0, 0⟩] }, ⟨0, 0, 0, false, 0, [], 0, 0⟩,
   by decide +kernel⟩,
   ⟨wReg Reg.VDT_XW_CFG 0x30000000 { wRun with xwIn := [(2, wRec 1 1)] }, 2, 1, 0, 0, [17592186044416#128, 0#128], (0, 0), 0, 0,
   [],
   by decide +kernel⟩⟩

/-- The hypotheses of every clause of `Obligations.StepsKeepTwoPortsAndConverters` are met. -/
theorem test_meets_StepsKeepTwoPortsAndConverters :
    (∃ (s : State) (t : State), s.aux.ports.length = 2 ∧ step s = .next t) ∧
    (∃ (s : State) (t : State), s.thm.conv.length = 2 ∧ step s = .next t) :=
  ⟨⟨wRun, _, rfl, rfl⟩,
   ⟨wRun, _, rfl, rfl⟩⟩

/-- The hypotheses of every clause of `Obligations.CompanionFramesAndLines` are met. -/
theorem test_meets_CompanionFramesAndLines :
    (∃ (s : State) (p : Nat), s.aux.ports.length = 2 ∧ configured s p = true ∧ up s (0x50000 + p) = true ∧ eventsTaken s = true) ∧
    (∃ (s : State) (p : Nat), s.aux.ports.length = 2 ∧ configured s p = true ∧ up s (0x50000 + p) = true ∧ (portOf s p).fval =
    true ∧ eventsTaken s = true) ∧
    (∃ (s : State) (p : Nat), s.aux.ports.length = 2 ∧ configured s p = true ∧ up s (0x50000 + p) = true ∧ (portOf s p).fval =
    true ∧ (pfld s p Reg.AUX_PORT_GEOM 28 16 = 0 ∨ (portOf s p).rows < pfld s p Reg.AUX_PORT_GEOM 28 16) ∧ ((portOf s p).frames,
    (portOf s p).rows / 16) ∉ (portOf s p).drops ∧ (ringLines s (portOf s p)).length < 32) ∧
    (∃ (s : State) (p : Nat), s.aux.ports.length = 2 ∧ configured s p = true ∧ up s (0x50000 + p) = true ∧ (portOf s p).fval =
    false ∧ eventsTaken s = true ∧ (∀ q, q < 2 → portSettled (portOf s q) = true)) ∧
    (∃ (s : State) (p : Nat) (ws : List Nat) (l : AuxLine), s.aux.ports.length = 2 ∧ configured s p = true ∧ up s (0x50000 + p)
    = true ∧ (∀ q, q < 2 → portSettled (portOf s q) = true) ∧ (portOf s p).cur = some l ∧ pcfg s p 23 23 = 0 ∧ ws.length =
    lineWords s p ∧ (l.frame, l.row / 16) ∉ (portOf s p).drops ∧ (ringLines s (portOf s p)).length < 32) ∧
    (∃ (s : State) (p : Nat) (ws : List Nat) (l : AuxLine), s.aux.ports.length = 2 ∧ configured s p = true ∧ up s (0x50000 + p)
    = true ∧ (portOf s p).cur = some l ∧ ws.length < lineWords s p ∧ eventsTaken s = true ∧ (l.frame, l.row / 16) ∉ (portOf s
    p).drops ∧ (ringLines s (portOf s p)).length < 32) :=
  ⟨⟨wPort AuxPort.reset, 0,
   by decide +kernel⟩,
   ⟨wPort { AuxPort.reset with fval := true }, 0,
   by decide +kernel⟩,
   ⟨wPort { AuxPort.reset with fval := true }, 0,
   by decide +kernel⟩,
   ⟨wPort AuxPort.reset, 0,
   by decide +kernel⟩,
   ⟨wReg Reg.AUX_PORT_CFG 0 (wPort { AuxPort.reset with fval := true, cur := some (wAuxLine [] false) }), 0, List.replicate 4 1,
   wAuxLine [] false,
   by decide +kernel⟩,
   ⟨wPort { AuxPort.reset with fval := true, cur := some (wAuxLine [] false) }, 0, [1], wAuxLine [] false,
   by decide +kernel⟩⟩

/-- The hypotheses of every clause of `Obligations.CompanionStripesAndDiscovery` are met. -/
theorem test_meets_CompanionStripesAndDiscovery :
    (∃ (s : State) (h : Nat) (p : Nat) (l0 : AuxLine), s.aux.ports.length = 2 ∧ h < 2 ∧ up s (0x50100 + h) = true ∧ (auxMode s =
    2 ∧ h = p ∨ auxMode s = 1 ∧ h = 0 ∧ hasStripe s (1 - p) = false) ∧ hasStripe s p = true ∧ oldestLine (portOf s p) = some l0) ∧
    (∃ (s : State) (p : Nat), s.aux.ports.length = 2 ∧ configured s p = true ∧ up s (0x50000 + p) = true ∧ (portOf s p).silent =
    false ∧ portSettled (portOf s p) = true ∧ eventsTaken s = true) ∧
    (∃ (s : State) (p : Nat), s.aux.ports.length = 2 ∧ configured s p = true ∧ up s (0x50300 + p) = true ∧ (portOf s p).bus = 0
    ∧ (portOf s p).cure ≠ 0 ∧ ctxWith (portOf s p) 1 = none) ∧
    (∃ (s : State) (p : Nat), s.aux.ports.length = 2 ∧ configured s p = true ∧ up s (0x50300 + p) = true ∧ (portOf s p).bus = 0
    ∧ (portOf s p).cure ≠ 0 ∧ eventsTaken s = true) ∧
    (∃ (s : State) (p : Nat) (id : Nat), s.aux.ports.length = 2 ∧ p < 2 ∧ up s (0x50300 + p) = true ∧ (portOf s p).bus = 3 ∧
    (portOf s p).ident = some (id, true) ∧ id % 65536 = pfld s p Reg.AUX_BUS_ID 15 0 ∧ portSettled (portOf s p) = true) ∧
    (∃ (s : State) (p : Nat) (id : Nat) (ack : Bool), s.aux.ports.length = 2 ∧ p < 2 ∧ up s (0x50300 + p) = true ∧ (portOf s
    p).bus = 3 ∧ (portOf s p).ident = some (id, ack) ∧ (ack = false ∨ id % 65536 ≠ pfld s p Reg.AUX_BUS_ID 15 0) ∧ eventsTaken s
    = true) :=
  ⟨⟨wPort { AuxPort.reset with ring := (List.range 16).map (fun r => { wAuxLine [1, 1, 1, 1] true with row := r }) }, 0, 0,
   wAuxLine [1, 1, 1, 1] true,
   by decide +kernel⟩,
   ⟨wPort AuxPort.reset, 0,
   by decide +kernel⟩,
   ⟨wPort { AuxPort.reset with cure := 1 }, 0,
   by decide +kernel⟩,
   ⟨wPort { AuxPort.reset with cure := 1 }, 0,
   by decide +kernel⟩,
   ⟨wReg Reg.AUX_BUS_ID 7 (wPort { AuxPort.reset with bus := 3, ident := some (7, true) }), 0, 7,
   by decide +kernel⟩,
   ⟨wReg Reg.AUX_BUS_ID 7 (wPort { AuxPort.reset with bus := 3, ident := some (8, true) }), 0, 8, true,
   by decide +kernel⟩⟩

/-- The hypotheses of every clause of `Obligations.CompanionContextsAndBus` are met. -/
theorem test_meets_CompanionContextsAndBus :
    (∃ (s : State) (p : Nat) (c : AuxChange) (rest : List AuxChange), s.aux.ports.length = 2 ∧ p < 2 ∧ up s (0x50300 + p) = true
    ∧ (portOf s p).wait = c :: rest ∧ (portOf s p).absent = false ∧ (portOf s p).bus = 0 ∧ (portOf s p).cure = 0 ∧ ctxWith
    (portOf s p) 2 = none ∧ ctxWith (portOf s p) 3 = none) ∧
    (∃ (s : State) (p : Nat), s.aux.ports.length = 2 ∧ p < 2 ∧ up s (0x50300 + p) = true ∧ (ctxWith (portOf s p) 2).isSome =
    true ∧ eventsTaken s = true) ∧
    (∃ (s : State) (p : Nat), s.aux.ports.length = 2 ∧ p < 2 ∧ up s (0x50300 + p) = true ∧ (portOf s p).bus ≠ 0 ∧ 1 < (portOf s
    p).tx.length ∧ portSettled (portOf s p) = true ∧ (portOf s p).ident = none) ∧
    (∃ (s : State) (p : Nat) (c : AuxChange), s.aux.ports.length = 2 ∧ p < 2 ∧ up s (0x50300 + p) = true ∧ (portOf s p).bus = 1
    ∧ (portOf s p).tx.length ≤ 1 ∧ (portOf s p).change = some c) ∧
    (∃ (s : State) (p : Nat), s.aux.ports.length = 2 ∧ p < 2 ∧ up s (0x50300 + p) = true ∧ (portOf s p).bus = 3 ∧ (portOf s
    p).ident = none ∧ (portOf s p).tx.length ≤ 1 ∧ eventsTaken s = true) ∧
    (∃ (s : State) (p : Nat), s.aux.ports.length = 2 ∧ p < 2 ∧ up s (0x50300 + p) = true ∧ (portOf s p).bus ≠ 0 ∧ (portOf s
    p).rep = false ∧ portSettled (portOf s p) = true) ∧
    (∃ (s : State) (p : Nat), s.aux.ports.length = 2 ∧ p < 2 ∧ up s (0x50300 + p) = true ∧ (portOf s p).bus = 3 ∧ (portOf s
    p).rep = true ∧ eventsTaken s = true) ∧
    (∃ (s : State) (p : Nat), s.aux.ports.length = 2 ∧ p < 2 ∧ up s (0x50300 + p) = true ∧ (portOf s p).bus = 1 ∧ (portOf s
    p).rep = true ∧ eventsTaken s = true) ∧
    (∃ (s : State) (p : Nat), s.aux.ports.length = 2 ∧ p < 2 ∧ up s (0x50300 + p) = true ∧ (portOf s p).bus ≠ 0 ∧ (portOf s
    p).restarts < 3 ∧ (∀ q, q < 2 → portSettled (portOf s q) = true)) ∧
    (∃ (s : State) (p : Nat), s.aux.ports.length = 2 ∧ p < 2 ∧ up s (0x50300 + p) = true ∧ (portOf s p).bus ≠ 0 ∧ 3 ≤ (portOf s
    p).restarts ∧ (portOf s p).rep = false ∧ portSettled (portOf s p) = true) ∧
    (∃ (s : State) (p : Nat), s.aux.ports.length = 2 ∧ configured s p = true ∧ up s (0x50300 + p) = true ∧ (portOf s p).bus ≠ 0
    ∧ eventsTaken s = true) :=
  ⟨⟨wPort { AuxPort.reset with wait := [⟨1, 1, 0, 0, 0, 0, 1⟩], cure := 0 }, 0, ⟨1, 1, 0, 0, 0, 0, 1⟩, [],
   by decide +kernel⟩,
   ⟨wPort { AuxPort.reset with ctx := [{ AuxCtx.reset with st := 2 }, AuxCtx.reset, AuxCtx.reset, AuxCtx.reset] }, 0,
   by decide +kernel⟩,
   ⟨wPort { AuxPort.reset with bus := 1, tx := [[1], [2]] }, 0,
   by decide +kernel⟩,
   ⟨wPort { AuxPort.reset with bus := 1, tx := [[1]], change := some ⟨1, 1, 0, 0, 0, 0, 1⟩ }, 0, ⟨1, 1, 0, 0, 0, 0, 1⟩,
   by decide +kernel⟩,
   ⟨wPort { AuxPort.reset with bus := 3, tx := [[1]] }, 0,
   by decide +kernel⟩,
   ⟨wPort { AuxPort.reset with bus := 1, tx := [[1]] }, 0,
   by decide +kernel⟩,
   ⟨wPort { AuxPort.reset with bus := 3, tx := [[1]], rep := true }, 0,
   by decide +kernel⟩,
   ⟨wPort { AuxPort.reset with bus := 1, tx := [[1]], rep := true }, 0,
   by decide +kernel⟩,
   ⟨wPort { AuxPort.reset with bus := 1, restarts := 2 }, 0,
   by decide +kernel⟩,
   ⟨wPort { AuxPort.reset with bus := 1, restarts := 3 }, 0,
   by decide +kernel⟩,
   ⟨wPort { AuxPort.reset with bus := 1 }, 0,
   by decide +kernel⟩⟩

/-- The hypotheses of every clause of `Obligations.RowsCarryWordsAndMapChanges` are met. -/
theorem test_meets_RowsCarryWordsAndMapChanges :
    (∃ (s : State) (n : Nat), (laneSet s n).stage ≠ 0 ∧ (laneSet s n).down = false ∧ (laneSet s n).slots ≠ [] ∧ alignDue
    (laneSet s n) = false) ∧
    (∃ (s : State) (n : Nat), (laneSet s n).stage ≠ 0 ∧ (laneSet s n).down = false ∧ alignDue (laneSet s n) = true ∧ (laneSet s
    n).faults = [] ∧ (laneSet s n).planned = none) ∧
    (∃ (s : State) (n : Nat) (sp : Nat) (rest : List Nat) (m : MapChange), (laneSet s n).stage ≠ 0 ∧ (laneSet s n).down = false
    ∧ (laneSet s n).faults = [m] ∧ m.lane ∈ (laneSet s n).slots ∧ (laneSet s n).spares = sp :: rest ∧ eventsTaken s = true) ∧
    (∃ (s : State) (n : Nat) (m : MapChange), (laneSet s n).stage ≠ 0 ∧ (laneSet s n).down = false ∧ (laneSet s n).faults = [m]
    ∧ m.lane ∈ (laneSet s n).slots ∧ (laneSet s n).spares = [] ∧ (laneSet s n).slots.erase m.lane ≠ [] ∧ eventsTaken s = true) :=
  ⟨⟨wSet wUp, 0,
   by decide +kernel⟩,
   ⟨wSet { wUp with rows := 4095 }, 0,
   by decide +kernel⟩,
   ⟨wSet { wUp with spares := [2], faults := [⟨1, 1, true, 0, none⟩] }, 0, 2, [], ⟨1, 1, true, 0, none⟩,
   by decide +kernel⟩,
   ⟨wSet { wUp with faults := [⟨1, 1, true, 0, none⟩] }, 0, ⟨1, 1, true, 0, none⟩,
   by decide +kernel⟩⟩

/-- The hypotheses of every clause of `Obligations.UnitsAreAdmittedAndAgedOut` are met. -/
theorem test_meets_UnitsAreAdmittedAndAgedOut :
    (∃ (s : State) (u : LineUnit) (rest : List LineUnit) (n : Nat) (c : Nat), s.pip.units = u :: rest ∧ n = routeOf s u.family
    u.plane ∧ c = famClass u.family ∧ inReset s 0x70301 = false ∧ (laneSet s n).down = false ∧ inReset s (setFid n) = false ∧
    (laneSet s n).admits = true ∧ (bit (laneSet s n).drop (3 - c) = false ∨ laterL (dropLine (laneSet s n) c) u.l = true) ∧
    lowBytes (laneSet s n) + 16 * nsum ((unitPackets c u).map (fun p => p.payload.length)) ≤ regionBytes s n - p0Reserve) ∧
    (∃ (s : State) (u : LineUnit) (rest : List LineUnit) (n : Nat) (c : Nat), s.pip.units = u :: rest ∧ n = routeOf s u.family
    u.plane ∧ c = famClass u.family ∧ inReset s 0x70301 = false ∧ (laneSet s n).down = false ∧ inReset s (setFid n) = false ∧
    (laneSet s n).admits = true ∧ bit (laneSet s n).drop (3 - c) = true ∧ laterL (dropLine (laneSet s n) c) u.l = false) ∧
    (∃ (s : State) (n : Nat) (c : Nat) (u : LUnit) (rest : List LUnit), 1 ≤ c ∧ c ≤ 3 ∧ clsQ (laneSet s n) c = u :: rest ∧
    eventsTaken s = true ∧ inReset s (setFid n) = false) :=
  ⟨⟨wReg Reg.LNK_SET_CFG 0x80200000 { wSet wUp with pip.units := [⟨0, 0, 5, 0, 0, none, [7]⟩] }, ⟨0, 0, 5, 0, 0, none, [7]⟩, [],
   0, 1,
   by decide +kernel⟩,
   ⟨{ wSet { wUp with drop := 4, dropL := [0, 0, 3, 0] } with pip.units := [⟨0, 0, 5, 0, 0, none, [7]⟩] }, ⟨0, 0, 5, 0, 0, none,
   [7]⟩, [], 0, 1,
   by decide +kernel⟩,
   ⟨wSet { wUp with q := [[], [⟨0, none, false, []⟩], [], []] }, 0, 1, ⟨0, none, false, []⟩, [],
   by decide +kernel⟩⟩

/-- The hypotheses of every clause of `Obligations.RecordsAndStatusAreQueued` are met. -/
theorem test_meets_RecordsAndStatusAreQueued :
    (∃ (s : State) (ws : List (BitVec 128)) (rest : List (List (BitVec 128))), s.vdt.out = ws :: rest) ∧
    (∃ (s : State) (n : Nat) (r : OpenRecs), (laneSet s n).recs = some r) ∧
    (∃ (s : State) (n : Nat), (laneSet s n).stage = 2 ∧ (laneSet s n).down = false) :=
  ⟨⟨{ wRun with vdt.out := [[1#128]] }, [1#128], [],
   by decide +kernel⟩,
   ⟨wSet { wUp with recs := some ⟨0, 1, [1#128]⟩ }, 0, ⟨0, 1, [1#128]⟩,
   by decide +kernel⟩,
   ⟨wSet wUp, 0,
   by decide +kernel⟩⟩

/-- The hypotheses of every clause of `Obligations.FailedLanesAndPlannedMoves` are met. -/
theorem test_meets_FailedLanesAndPlannedMoves :
    (∃ (s : State) (n : Nat) (lane : Nat), setOfLane s lane = some n ∧ (laneSet s n).stage ≠ 0 ∧ lane ∈ (laneSet s n).slots ∧
    (laneSet s n).faults.any (fun m => m.lane == lane) = false ∧ eventsTaken s = true) ∧
    (∃ (s : State) (n : Nat) (lane : Nat), setOfLane s lane = some n ∧ (laneSet s n).stage ≠ 0 ∧ lane ∉ (laneSet s n).slots ∧
    eventsTaken s = true) ∧
    (∃ (s : State) (n : Nat), (laneSet s n).stage ≠ 0 ∧ (laneSet s n).down = false ∧ eventsTaken s = true) ∧
    (∃ (s : State) (n : Nat) (lane : Nat) (sp : Nat) (rest : List Nat), setOfLane s lane = some n ∧ (laneSet s n).stage ≠ 0 ∧
    lane ∈ (laneSet s n).slots ∧ (laneSet s n).planned = none ∧ (laneSet s n).wants = [] ∧ (laneSet s n).spares = sp :: rest ∧
    eventsTaken s = true) ∧
    (∃ (s : State) (n : Nat) (v : Nat) (sp : Nat) (rest : List Nat), (List.range 4).find? (fun n => (laneSet s n).slots.contains
    (v % 32)) = some n ∧ (laneSet s n).stage ≠ 0 ∧ (laneSet s n).down = false ∧ (laneSet s n).planned = none ∧ (laneSet s
    n).wants = [] ∧ (laneSet s n).spares = sp :: rest ∧ works s = true) ∧
    (∃ (s : State) (v : Nat), (∀ n, n < 4 → v % 32 ∉ (laneSet s n).slots) ∧ eventsTaken s = true ∧ works s = true) ∧
    (∃ (s : State) (n : Nat) (lane : Nat), (List.range 4).find? (fun n => (laneSet s n).failed.contains lane) = some n ∧ lane ∈
    s.lnk.returned ∧ inReset s (dtFid lane) = false ∧ (laneSet s n).stage ≠ 0 ∧ (laneSet s n).down = false ∧ cfgNdata s n ≤
    (laneSet s n).slots.length) ∧
    (∃ (s : State) (n : Nat) (lane : Nat), (List.range 4).find? (fun n => (laneSet s n).failed.contains lane) = some n ∧ lane ∈
    s.lnk.returned ∧ inReset s (dtFid lane) = false ∧ (laneSet s n).stage ≠ 0 ∧ (laneSet s n).down = true ∧ eventsTaken s =
    true) :=
  ⟨⟨wSet wUp, 0, 1,
   by decide +kernel⟩,
   ⟨wSet { wUp with spares := [2] }, 0, 2,
   by decide +kernel⟩,
   ⟨wSet wUp, 0,
   by decide +kernel⟩,
   ⟨wSet { wUp with spares := [2] }, 0, 1, 2, [],
   by decide +kernel⟩,
   ⟨wSet { wUp with spares := [2] }, 0, 1, 2, [],
   by decide +kernel⟩,
   ⟨wRun, 0,
   by decide +kernel⟩,
   ⟨{ wSet { wUp with failed := [3] } with lnk.returned := [3] }, 0, 3,
   by decide +kernel⟩,
   ⟨{ wSet { wUp with slots := [], failed := [3], down := true } with lnk.returned := [3] }, 0, 3,
   by decide +kernel⟩⟩

/-- The hypotheses of every clause of `Obligations.SetsComeUpShedAndIdle` are met. -/
theorem test_meets_SetsComeUpShedAndIdle :
    (∃ (s : State) (n : Nat), (laneSet s n).lossDue = true ∧ (laneSet s n).down = false ∧ (laneSet s n).stage ≠ 0) ∧
    (∃ (s : State) (n : Nat), (laneSet s n).stage = 1 ∧ (laneSet s n).down = false ∧ inReset s (setFid n) = false ∧ eventsTaken
    s = true) ∧
    (∃ (s : State) (n : Nat), (laneSet s n).calm = true ∧ (laneSet s n).stage = 2 ∧ (p0Empty s n = true ∨ (laneSet s n).down =
    true) ∧ eventsTaken s = true) ∧
    (∃ (s : State) (lane : Nat) (v : Nat), lane < 24 ∧ (laneRole s lane).1 % 2 = 0 ∧ ownerHalted (Reg.LNK_DT_TEST + 0x20 * lane)
    31 s = false ∧ bit v 31 = true ∧ eventsTaken s = true) ∧
    (∃ (s : State) (lane : Nat) (v : Nat), lane < 24 ∧ (laneRole s lane).1 % 2 = 0 ∧ ownerHalted (Reg.LNK_DT_TEST + 0x20 * lane)
    31 s = false ∧ bit v 31 = false) ∧
    (∃ (s : State) (lane : Nat), lane < 24 ∧ (laneRole s lane).1 % 2 = 0 ∧ ownerHalted (Reg.LNK_DT_TEST + 0x20 * lane) 31 s =
    true) ∧
    (∃ (s : State) (lane : Nat), lane < 24 ∧ (laneRole s lane).1 % 2 = 1) :=
  ⟨⟨wSet { wUp with lossDue := true }, 0,
   by decide +kernel⟩,
   ⟨wSet { wUp with stage := 1 }, 0,
   by decide +kernel⟩,
   ⟨wSet { wUp with calm := true }, 0,
   by decide +kernel⟩,
   ⟨{ wRun with mgt.loadedFids := [dtFid 5] }, 5, 0x80000000,
   by decide +kernel⟩,
   ⟨{ wRun with mgt.loadedFids := [dtFid 5] }, 5, 0,
   by decide +kernel⟩,
   ⟨wRun, 5,
   by decide +kernel⟩,
   ⟨wSet wUp, 1,
   by decide +kernel⟩⟩

/-- The hypotheses of every clause of `Obligations.CreditGatesLinkPackets` are met. -/
theorem test_meets_CreditGatesLinkPackets :
    (∃ (s : State) (n : Nat) (c : Nat) (m : XwMsg) (rest : List XwMsg), (xwLane s n).st = 2 ∧ (xwLane s n).left = [] ∧ pickVc
    (xwLane s n) [0, 1, 2] = some (c, m, rest)) ∧
    (∃ (s : State) (n : Nat) (w : BitVec 128) (ws : List (BitVec 128)) (m : XwMsg) (rest : List XwMsg), (xwLane s n).st = 2 ∧
    (xwLane s n).left = w :: ws ∧ pickVc (xwLane s n) [0] = some (0, m, rest)) ∧
    (∃ (s : State) (n : Nat) (w : BitVec 128) (ws : List (BitVec 128)), (xwLane s n).st = 2 ∧ (xwLane s n).left = w :: ws ∧
    pickVc (xwLane s n) [0] = none) ∧
    (∃ (s : State) (n : Nat) (m : XwMsg) (rest : List XwMsg), (xwLane s n).st = 2 ∧ pickVc (xwLane s n) [0, 1, 2] = none ∧
    (xwLane s n).left = [] ∧ (xwLane s n).q1 = m :: rest ∧ (xwLane s n).stalled = false ∧ eventsTaken s = true) ∧
    (∃ (s : State) (n : Nat), (xwLane s n).st = 2) ∧
    (∃ (s : State) (n : Nat) (b1 : Nat) (b2 : Nat), (xwLane s n).st = 2 ∧ bits b1 7 0 = 0x2D ∧ bits b2 7 0 = 0xD2 ∧ (pec
    (leBytes 6 (b1 / 256 % 2 ^ 48) ++ leBytes 7 (b2 / 256 % 2 ^ 56))).toNat = bits b1 63 56) ∧
    (∃ (b1 : Nat) (b2 : Nat), (pec (leBytes 6 (b1 / 256 % 2 ^ 48) ++ leBytes 7 (b2 / 256 % 2 ^ 56))).toNat ≠ bits b1 63 56) :=
  ⟨⟨wXw { wLinkUp with q0 := [.beacon 0 0 0 1 2] }, 0, 0, .beacon 0 0 0 1 2, [],
   by decide +kernel⟩,
   ⟨wXw { wLinkUp with left := [1], q0 := [.beacon 0 0 0 1 2] }, 0, 1, [], .beacon 0 0 0 1 2, [],
   by decide +kernel⟩,
   ⟨wXw { wLinkUp with left := [1] }, 0, 1, [],
   by decide +kernel⟩,
   ⟨wXw { wLinkUp with q1 := [wRec 3 0], sent := [0, 1024, 0] }, 0, wRec 3 0, [],
   by decide +kernel⟩,
   ⟨wXw wLinkUp, 0,
   by decide +kernel⟩,
   ⟨wXw wLinkUp, 0, 0x2D, 0xD2,
   by decide +kernel⟩,
   ⟨0x10000000000002D, 0xD2,
   by decide +kernel⟩⟩

/-- The hypotheses of every clause of `Obligations.LinkPacketsAreCheckedAndDelivered` are met. -/
theorem test_meets_LinkPacketsAreCheckedAndDelivered :
    (∃ (s : State) (n : Nat) (c : Nat) (h : Nat) (ws : List (BitVec 128)) (ps : List (BitVec 128)) (cn : Nat × Nat) (m : XwMsg),
    (xwLane s n).st = 2 ∧ h = (ws.headD 0).toNat ∧ c = min 2 (bits h 123 122) ∧ ps = (ws.drop 1).dropLast ∧ ws = packetWords h
    ps ∧ ((xwLane s n).recv.getD c 0 + ws.length + 2 ^ 16 - (xwLane s n).freedTold.getD c 0) % 2 ^ 16 ≤ vcBuf c ∧ bits h 119 108
    = ps.length ∧ ps.length ≤ 22 ∧ 8 ≤ bits h 127 124 ∧ bits h 127 124 ≤ 12 ∧ xwDecode h ps cn = some m ∧ inReset s 0x70300 =
    false ∧ (vcOf m = 2 ∨ (xwLane s n).accepted = true) ∧ (n < 2 ∨ vcOf m = 2 ∨ dupKey m ∉ s.lnk.seen)) ∧
    (∃ (s : State) (n : Nat) (ws : List (BitVec 128)), (xwLane s n).st = 2 ∧ 2 ≤ ws.length ∧ vcBuf (min 2 (bits (ws.headD
    0).toNat 123 122)) < ((xwLane s n).recv.getD (min 2 (bits (ws.headD 0).toNat 123 122)) 0 + ws.length + 2 ^ 16 - (xwLane s
    n).freedTold.getD (min 2 (bits (ws.headD 0).toNat 123 122)) 0) % 2 ^ 16 ∧ eventsTaken s = true) ∧
    (∃ (s : State) (n : Nat) (c : Nat) (h : Nat) (ws : List (BitVec 128)), (xwLane s n).st = 2 ∧ 2 ≤ ws.length ∧ h = (ws.headD
    0).toNat ∧ c = min 2 (bits h 123 122) ∧ ((xwLane s n).recv.getD c 0 + ws.length + 2 ^ 16 - (xwLane s n).freedTold.getD c 0)
    % 2 ^ 16 ≤ vcBuf c ∧ packetWords h ((ws.drop 1).dropLast) ≠ ws ∧ eventsTaken s = true) ∧
    (∃ (s : State) (n : Nat) (h : Nat) (ws : List (BitVec 128)) (ps : List (BitVec 128)) (cn : Nat × Nat) (m : XwMsg), h =
    (ws.headD 0).toNat ∧ ps = (ws.drop 1).dropLast ∧ xwDecode h ps cn = some m ∧ 2 ≤ n ∧ vcOf m ≠ 2 ∧ dupKey m ∈ s.lnk.seen) :=
  ⟨⟨wXw wLinkUp, 0, 0, wHead, packetWords wHead [0#128], [0#128], (0, 0), .beacon 0 0 0 0 0,
   by decide +kernel⟩,
   ⟨wXw { wLinkUp with recv := [63, 0, 0] }, 0, [0#128, 0#128],
   by decide +kernel⟩,
   ⟨wXw wLinkUp, 0, 0, wHead, [BitVec.ofNat 128 wHead, 0#128, 0#128],
   by decide +kernel⟩,
   ⟨{ wRun with xw := [(2, wLinkUp)], lnk.seen := [(25, 0, 0)] }, 2, wHead, packetWords wHead [0#128], [0#128], (0, 0), .beacon
   0 0 0 0 0,
   by decide +kernel⟩⟩

/-- The hypotheses of every clause of `Obligations.LinksTrainLoseLockAndRetrain` are met. -/
theorem test_meets_LinksTrainLoseLockAndRetrain :
    (∃ (s : State) (n : Nat) (errs : Nat), (xwLane s n).st = 2 ∧ 4 < errs ∧ eventsTaken s = true) ∧
    (∃ (s : State) (n : Nat) (errs : Nat), (xwLane s n).st = 2 ∧ 0 < errs ∧ errs ≤ 4 ∧ eventsTaken s = true) ∧
    (∃ (s : State) (n : Nat), xwOn s n = true ∧ (xwLane s n).st ≤ 1 ∧ eventsTaken s = true) ∧
    (∃ (s : State) (n : Nat) (foms : List Nat), xwOn s n = true ∧ (xwLane s n).st ≤ 1 ∧ eventsTaken s = true ∧ (bestFom foms).1
    < rfld s Reg.LNK_FOM_CFG 15 8) ∧
    (∃ (s : State) (n : Nat) (foms : List Nat), xwOn s n = true ∧ (xwLane s n).st ≤ 1 ∧ eventsTaken s = true ∧ rfld s
    Reg.LNK_FOM_CFG 15 8 ≤ (bestFom foms).1) ∧
    (∃ (s : State) (n : Nat) (foms : List Nat), xwOn s n = true ∧ (xwLane s n).st = 3 ∧ xwTraining s n = true ∧ eventsTaken s =
    true ∧ rfld s Reg.LNK_FOM_CFG 15 8 ≤ (bestFom foms).1) :=
  ⟨⟨wXw wLinkUp, 0, 5,
   by decide +kernel⟩,
   ⟨wXw wLinkUp, 0, 3,
   by decide +kernel⟩,
   ⟨wXw XwLane.reset, 0,
   by decide +kernel⟩,
   ⟨wReg Reg.LNK_FOM_CFG 0x2000 (wXw XwLane.reset), 0, [1, 2],
   by decide +kernel⟩,
   ⟨wReg Reg.LNK_FOM_CFG 0x2000 (wXw XwLane.reset), 0, [1, 40],
   by decide +kernel⟩,
   ⟨wReg Reg.LNK_FOM_CFG 0x2000 { wXw { XwLane.reset with st := 3 } with t := 200000 }, 0, [1, 40],
   by decide +kernel⟩⟩

/-- The hypotheses of every clause of `Obligations.EyesAreMeasuredAndPathsSwapped` are met. -/
theorem test_meets_EyesAreMeasuredAndPathsSwapped :
    (∃ (s : State) (n : Nat) (hm : Nat) (vm : Nat) (hs : Nat) (vs : Nat), n < 4 ∧ (xwLane s n).st = 2 ∧ hm ≤ 32 ∧ vm ≤ 32 ∧ hs ≤
    32 ∧ vs ≤ 32) ∧
    (∃ (s : State) (n : Nat) (foms : List Nat), n < 4 ∧ (xwLane s n).adapting = true ∧ (xwLane s n).st = 2 ∧ rfld s (xwReg n
    0x10) 31 24 + rfld s Reg.LNK_FOM_CFG 7 0 ≤ (bestFom foms).1) ∧
    (∃ (s : State) (n : Nat) (foms : List Nat), n < 4 ∧ (xwLane s n).adapting = true ∧ (xwLane s n).st = 2 ∧ (bestFom foms).1 <
    rfld s (xwReg n 0x10) 31 24 + rfld s Reg.LNK_FOM_CFG 7 0 ∧ eventsTaken s = true) ∧
    (∃ (s : State) (n : Nat) (b : Nat), n < 4 ∧ (xwLane s n).bestPk = some b ∧ (xwLane s n).st = 2 ∧ eventsTaken s = true) :=
  ⟨⟨wXw wLinkUp, 0, 32, 1, 0, 3,
   by decide +kernel⟩,
   ⟨wReg Reg.LNK_FOM_CFG 2 (wXw { wLinkUp with adapting := true }), 0, [1, 40],
   by decide +kernel⟩,
   ⟨wReg Reg.LNK_FOM_CFG 2 (wXw { wLinkUp with adapting := true }), 0, [1, 0],
   by decide +kernel⟩,
   ⟨wXw { wLinkUp with bestPk := some 4 }, 0, 4,
   by decide +kernel⟩⟩

/-- The hypotheses of every clause of `Obligations.PairsAreCheckedAndResent` are met. -/
theorem test_meets_PairsAreCheckedAndResent :
    (∃ (s : State) (n : Nat) (dev : Nat) (st : Nat) (lk : Nat) (geom : List Byte) (vdt : List Byte), s.xwIn.find? (fun p => vcOf
    p.2 == 2) = some (n, .pair dev st lk geom vdt) ∧ n < 4 ∧ (xwLane s n).st = 2 ∧ ((xwLane s n).peer = 0 ∨ (xwLane s n).peer =
    dev) ∧ eventsTaken s = true) ∧
    (∃ (s : State) (n : Nat) (dev : Nat) (st : Nat) (lk : Nat) (geom : List Byte) (vdt : List Byte), s.xwIn.find? (fun p => vcOf
    p.2 == 2) = some (n, .pair dev st lk geom vdt) ∧ (xwLane s n).st = 2 ∧ (xwLane s n).peer ≠ 0 ∧ (xwLane s n).peer ≠ dev ∧
    eventsTaken s = true) ∧
    (∃ (s : State) (n : Nat), n < 4 ∧ (xwLane s n).st = 2) :=
  ⟨⟨{ wXw wLinkUp with xwIn := [(0, .pair 7 1 2 [] [])] }, 0, 7, 1, 2, [], [],
   by decide +kernel⟩,
   ⟨{ wXw { wLinkUp with peer := 8 } with xwIn := [(0, .pair 7 1 2 [] [])] }, 0, 7, 1, 2, [], [],
   by decide +kernel⟩,
   ⟨wXw wLinkUp, 0,
   by decide +kernel⟩⟩

/-- The hypotheses of every clause of `Obligations.PinStepsComputeAndGoOn` are met. -/
theorem test_meets_PinStepsComputeAndGoOn :
    (∃ (s : State) (e : Nat) (w : Nat) (o : Nat) (g : Engine), runsAt s e 0x0 w g ∧ ((opdOf w = 0 ∧ o = immOf w) ∨ (opdOf w = 1
    ∧ o = g.out ||| immOf w) ∨ (opdOf w = 2 ∧ o = g.out &&& (0xFFFF ^^^ immOf w)) ∨ (opdOf w = 3 ∧ o = g.out ^^^ immOf w) ∨
    (opdOf w = 4 ∧ o = g.x % 65536))) ∧
    (∃ (s : State) (e : Nat) (w : Nat) (g : Engine), runsAt s e 0x1 w g) ∧
    (∃ (s : State) (e : Nat) (w : Nat) (g : Engine), runsAt s e 0xA w g ∧ progBase s e + immOf w % 2048 ≤ progLimit s e) ∧
    (∃ (s : State) (e : Nat) (w : Nat) (g : Engine), standsAt s e 0xA w g ∧ progBase s e + immOf w % 2048 ≤ progLimit s e) ∧
    (∃ (s : State) (e : Nat) (w : Nat), atStep s e 0xD = true ∧ w = curWord s e ∧ progLimit s e < progBase s e + (eng s e).pc +
    1 ∧ eventsTaken s = true) ∧
    (∃ (s : State) (e : Nat) (g : Engine), atStep s e 0xE = true ∧ g = eng s e ∧ eventsTaken s = true) :=
  ⟨⟨wEng 0x01000003 { wGo with out := 1 }, 0, 0x01000003, 3, { wGo with out := 1 },
   by unfold runsAt; decide +kernel⟩,
   ⟨wEng 0x10000000 wGo, 0, 0x10000000, wGo,
   by unfold runsAt; decide +kernel⟩,
   ⟨wEng 0xA2000001 wGo, 0, 0xA2000001, wGo,
   by unfold runsAt; decide +kernel⟩,
   ⟨wReg Reg.PEN_ENG_PROG 0 (wEng 0xA2000000 { wGo with c0 := 5 }), 0, 0xA2000000, { wGo with c0 := 5 },
   by unfold standsAt; decide +kernel⟩,
   ⟨wReg Reg.PEN_ENG_PROG 0 (wEng 0xD0000005 wGo), 0, 0xD0000005,
   by decide +kernel⟩,
   ⟨wEng 0xE0000000 wGo, 0, wGo,
   by decide +kernel⟩⟩

/-- The hypotheses of every clause of `Obligations.BranchAndConstFollowTheirTable` are met. -/
theorem test_meets_BranchAndConstFollowTheirTable :
    (∃ (s : State) (e : Nat) (w : Nat) (n : Nat) (g : Engine) (c : Prop), standsAt s e 0x9 w g ∧ progBase s e + immOf w % 2048 ≤
    progLimit s e ∧ n = immOf w / 2048 ∧ ((opdOf w = 0x0 ∧ (c ↔ True)) ∨ (opdOf w = 0x1 ∧ (c ↔ g.inF = [])) ∨ (opdOf w = 0x2 ∧
    (c ↔ g.inF ≠ [])) ∨ (opdOf w = 0x3 ∧ (c ↔ 8 ≤ g.outF.length)) ∨ (opdOf w = 0x4 ∧ (c ↔ toSigned 32 (g.x + 2 ^ 32 - g.y) < 0))
    ∨ (opdOf w = 0x5 ∧ (c ↔ 0 ≤ toSigned 32 (g.x + 2 ^ 32 - g.y))) ∨ (opdOf w = 0x6 ∧ (c ↔ g.x = g.y)) ∨ (opdOf w = 0x7 ∧ (c ↔
    g.x ≠ g.y)) ∨ (opdOf w = 0x8 ∧ (c ↔ bit (inputs s e) n = true)) ∨ (opdOf w = 0x9 ∧ (c ↔ bit (inputs s e) n = false)) ∨
    (opdOf w = 0xA ∧ (c ↔ bit (sigSeen s) n = true)) ∨ (opdOf w = 0xB ∧ (c ↔ bit (sigSeen s) n = false)) ∨ (opdOf w = 0xC ∧ (c ↔
    0 ≤ diffMod 32 (s.t % 2 ^ 32) g.x)) ∨ (opdOf w = 0xD ∧ (c ↔ g.c0 = 0)))) ∧
    (∃ (s : State) (e : Nat) (w : Nat) (i : Nat) (x : Nat) (y : Nat) (o : Nat) (r : Nat) (g : Engine), standsAt s e 0xD w g ∧ i
    = immOf w ∧ ((opdOf w = 0x0 ∧ x = i ∧ y = g.y ∧ o = g.osr ∧ r = g.isr) ∨ (opdOf w = 0x1 ∧ x = setBits g.x 31 16 i ∧ y = g.y
    ∧ o = g.osr ∧ r = g.isr) ∨ (opdOf w = 0x2 ∧ x = (g.x + ofSigned 32 (toSigned 16 i)) % 2 ^ 32 ∧ y = g.y ∧ o = g.osr ∧ r =
    g.isr) ∨ (opdOf w = 0x3 ∧ x = g.x ∧ y = i ∧ o = g.osr ∧ r = g.isr) ∨ (opdOf w = 0x4 ∧ x = g.x ∧ y = setBits g.y 31 16 i ∧ o
    = g.osr ∧ r = g.isr) ∨ (opdOf w = 0x5 ∧ x = g.x ∧ y = (g.y + ofSigned 32 (toSigned 16 i)) % 2 ^ 32 ∧ o = g.osr ∧ r = g.isr)
    ∨ (opdOf w = 0x6 ∧ x = (g.x + g.y) % 2 ^ 32 ∧ y = g.y ∧ o = g.osr ∧ r = g.isr) ∨ (opdOf w = 0x7 ∧ x = g.x ∧ y = g.x ∧ o =
    g.osr ∧ r = g.isr) ∨ (opdOf w = 0x8 ∧ x = g.y ∧ y = g.y ∧ o = g.osr ∧ r = g.isr) ∨ (opdOf w = 0x9 ∧ x = g.x ∧ y = g.y ∧ o =
    g.x ∧ r = g.isr) ∨ (opdOf w = 0xA ∧ x = g.x ∧ y = g.y ∧ o = i ∧ r = g.isr) ∨ (opdOf w = 0xB ∧ x = g.isr ∧ y = g.y ∧ o =
    g.osr ∧ r = 0) ∨ (opdOf w = 0xC ∧ x = g.x ^^^ g.y ∧ y = g.y ∧ o = g.osr ∧ r = g.isr))) ∧
    (∃ (w : Nat), (opOf w = 0x9 ∧ 0xE ≤ opdOf w) ∨ (opOf w = 0xD ∧ 0xD ≤ opdOf w)) :=
  ⟨⟨wEng 0x90000001 wGo, 0, 0x90000001, 0, wGo, True,
   by unfold standsAt; decide +kernel⟩,
   ⟨wEng 0xD0000005 wGo, 0, 0xD0000005, 5, 5, 0, 0, 0, wGo,
   by unfold standsAt; decide +kernel, rfl, Or.inl (by decide +kernel)⟩,
   ⟨0x9E000000,
   by decide +kernel⟩⟩

/-- The hypotheses of every clause of `Obligations.ShiftMovesItsBits` are met. -/
theorem test_meets_ShiftMovesItsBits :
    (∃ (s : State) (e : Nat) (w : Nat) (n : Nat) (phases : Nat) (b : Nat) (g : Engine), runsAt s e 0x2 w g ∧ g.shift = none ∧ n
    = immOf w % 64 ∧ 1 ≤ n ∧ n ≤ 32 ∧ opdOf w / 4 ≤ 2 ∧ n * (1 + opdOf w % 2) ≤ phases ∧ b = b2n (bit (inputs s e) (efld s
    Reg.PEN_ENG_CFG e 7 4))) ∧
    (∃ (s : State) (e : Nat) (w : Nat) (g : Engine), runsAt s e 0x2 w g ∧ g.shift = none ∧ immOf w % 64 = 1 ∧ opdOf w % 2 = 0) ∧
    (∃ (s : State) (e : Nat) (w : Nat) (n : Nat) (k : Nat) (b : Nat) (g : Engine), standsAt s e 0x2 w g ∧ g.shift = none ∧ n =
    immOf w % 64 ∧ opdOf w % 2 = 0 ∧ opdOf w / 4 ≤ 2 ∧ 0 < k ∧ k < n ∧ n ≤ 32 ∧ b = b2n (bit (inputs s e) (efld s
    Reg.PEN_ENG_CFG e 7 4))) ∧
    (∃ (s : State) (e : Nat) (w : Nat) (n : Nat) (k : Nat) (b : Nat) (g : Engine), standsAt s e 0x2 w g ∧ g.shift = none ∧ n =
    immOf w % 64 ∧ opdOf w % 2 = 1 ∧ opdOf w / 4 ≤ 2 ∧ 0 < k ∧ k < 2 * n ∧ n ≤ 32 ∧ b = b2n (bit (inputs s e) (efld s
    Reg.PEN_ENG_CFG e 7 4))) :=
  ⟨⟨wEng 0x20000008 { wGo with osr := 5 }, 0, 0x20000008, 8, 8, 0, { wGo with osr := 5 },
   by unfold runsAt; decide +kernel⟩,
   ⟨wEng 0x20000001 wGo, 0, 0x20000001, wGo,
   by unfold runsAt; decide +kernel⟩,
   ⟨wEng 0x20000008 { wGo with osr := 0xA0000000 }, 0, 0x20000008, 8, 3, 0, { wGo with osr := 0xA0000000 },
   by unfold standsAt; decide +kernel⟩,
   ⟨wEng 0x21000008 { wGo with osr := 0xA0000000 }, 0, 0x21000008, 8, 3, 0, { wGo with osr := 0xA0000000 },
   by unfold standsAt; decide +kernel⟩⟩

/-- The hypotheses of every clause of `Obligations.PinStepsWaitOrMissTheirDeadline` are met. -/
theorem test_meets_PinStepsWaitOrMissTheirDeadline :
    (∃ (s : State) (e : Nat) (w : Nat) (i : Nat) (n : Nat) (g : Engine), runsAt s e 0x3 w g ∧ deadlineHit s e = none ∧ i =
    inputs s e ∧ n = immOf w % 32 ∧ opdOf w ≤ 4) ∧
    (∃ (s : State) (e : Nat) (w : Nat) (v : Nat) (g : Engine), runsAt s e 0x4 w g ∧ deadlineHit s e = none ∧ ((opdOf w = 0 ∧ v =
    g.x) ∨ (opdOf w = 1 ∧ v = g.y))) ∧
    (∃ (s : State) (e : Nat) (w : Nat) (t0 : Nat) (g : Engine), runsAt s e 0x4 w g ∧ deadlineHit s e = none ∧ opdOf w = 5 ∧ t0 =
    (if g.begun then g.from0 else s.t)) ∧
    (∃ (s : State) (e : Nat) (w : Nat) (g : Engine), runsAt s e 0x4 w g) ∧
    (∃ (s : State) (e : Nat) (w : Nat) (g : Engine), runsAt s e 0x4 w g ∧ deadlineHit s e = none ∧ opdOf w = 8) ∧
    (∃ (s : State) (e : Nat) (w : Nat) (g : Engine), runsAt s e 0x4 w g ∧ deadlineHit s e = none ∧ opdOf w = 9) ∧
    (∃ (s : State) (e : Nat) (w : Nat) (m : Nat) (g : Engine), runsAt s e 0xC w g ∧ deadlineHit s e = none ∧ m = sigSeen s &&&
    immOf w ∧ opdOf w ≤ 2) ∧
    (∃ (s : State) (e : Nat) (target : Nat), deadlineHit s e = some target ∧ e < 16 ∧ engHalted s e = false ∧ up s (engFid e) =
    true ∧ s.pen.clockBad = false ∧ blockingStep s e = true ∧ progBase s e + target ≤ progLimit s e ∧ eventsTaken s = true) :=
  ⟨⟨wEng 0x30000001 wGo, 0, 0x30000001, 0, 1, wGo,
   by unfold runsAt; decide +kernel⟩,
   ⟨wEng 0x40000000 { wGo with x := 100 }, 0, 0x40000000, 100, { wGo with x := 100 },
   by unfold runsAt; decide +kernel⟩,
   ⟨wEng 0x45000009 wGo, 0, 0x45000009, 0, wGo,
   by unfold runsAt; decide +kernel⟩,
   ⟨wEng 0x42000001 wGo, 0, 0x42000001, wGo,
   by unfold runsAt; decide +kernel⟩,
   ⟨wEng 0x48000000 wGo, 0, 0x48000000, wGo,
   by unfold runsAt; decide +kernel⟩,
   ⟨wEng 0x49000000 wGo, 0, 0x49000000, wGo,
   by unfold runsAt; decide +kernel⟩,
   ⟨wEng 0xC0000003 wGo, 0, 0xC0000003, 0, wGo,
   by unfold runsAt; decide +kernel⟩,
   ⟨wEng 0x30000001 { wGo with dl := some (0, 2) }, 0, 2,
   by decide +kernel⟩⟩

/-- The hypotheses of every clause of `Obligations.PinFifosMoveWords` are met. -/
theorem test_meets_PinFifosMoveWords :
    (∃ (s : State) (e : Nat) (w : Nat) (v : Nat) (rest : List Nat) (g : Engine), runsAt s e 0x5 w g ∧ deadlineHit s e = none ∧
    g.inF = v :: rest) ∧
    (∃ (s : State) (e : Nat) (w : Nat) (g : Engine), runsAt s e 0x5 w g ∧ deadlineHit s e = none ∧ g.inF = []) ∧
    (∃ (s : State) (e : Nat) (w : Nat) (v : Nat) (rest : List Nat) (g : Engine), runsAt s e 0x6 w g ∧ g.inF = v :: rest) ∧
    (∃ (s : State) (e : Nat) (w : Nat) (g : Engine), runsAt s e 0x6 w g ∧ g.inF = [] ∧ eventsTaken s = true) ∧
    (∃ (s : State) (e : Nat) (w : Nat) (g : Engine), runsAt s e 0x7 w g ∧ deadlineHit s e = none) ∧
    (∃ (s : State) (e : Nat) (w : Nat) (g : Engine), runsAt s e 0x8 w g ∧ g.outF.length < 8) ∧
    (∃ (s : State) (e : Nat) (w : Nat) (g : Engine), runsAt s e 0x8 w g ∧ 8 ≤ g.outF.length ∧ eventsTaken s = true) ∧
    (∃ (s : State) (e : Nat), e = rfld s Reg.PEN_SEL 3 0 ∧ up s (engFid e) = true ∧ isFramer s e = false ∧ (eng s e).inF.length
    < 8) ∧
    (∃ (s : State) (e : Nat), e = rfld s Reg.PEN_SEL 3 0 ∧ up s (engFid e) = true ∧ eventsTaken s = true ∧ (isFramer s e = true
    ∨ 8 ≤ (eng s e).inF.length)) ∧
    (∃ (s : State) (e : Nat) (v : Nat) (rest : List Nat), e = rfld s Reg.PEN_SEL 3 0 ∧ (eng s e).outF = v :: rest) :=
  ⟨⟨wEng 0x50000000 { wGo with inF := [7] }, 0, 0x50000000, 7, [], { wGo with inF := [7] },
   by unfold runsAt; decide +kernel⟩,
   ⟨wEng 0x50000000 wGo, 0, 0x50000000, wGo,
   by unfold runsAt; decide +kernel⟩,
   ⟨wEng 0x60000000 { wGo with inF := [7] }, 0, 0x60000000, 7, [], { wGo with inF := [7] },
   by unfold runsAt; decide +kernel⟩,
   ⟨wEng 0x60000000 wGo, 0, 0x60000000, wGo,
   by unfold runsAt; decide +kernel⟩,
   ⟨wEng 0x70000000 { wGo with x := 9 }, 0, 0x70000000, { wGo with x := 9 },
   by unfold runsAt; decide +kernel⟩,
   ⟨wEng 0x80000000 { wGo with x := 9 }, 0, 0x80000000, { wGo with x := 9 },
   by unfold runsAt; decide +kernel⟩,
   ⟨wEng 0x80000000 { wGo with outF := List.replicate 8 1 }, 0, 0x80000000, { wGo with outF := List.replicate 8 1 },
   by unfold runsAt; decide +kernel⟩,
   ⟨wRun, 0,
   by decide +kernel⟩,
   ⟨{ wRun with pen.eng := [(0, { Engine.reset with inF := List.replicate 8 1 })] }, 0,
   by decide +kernel⟩,
   ⟨{ wRun with pen.eng := [(0, { Engine.reset with outF := [4] })] }, 0, 4, [],
   by decide +kernel⟩⟩

/-- The hypotheses of every clause of `Obligations.EnginesStartHaltAndSignal` are met. -/
theorem test_meets_EnginesStartHaltAndSignal :
    (∃ (s : State) (e : Nat) (w : Nat) (g : Engine), runsAt s e 0xB w g ∧ opdOf w ≤ 1 ∧ s.pen.sigCyc.at? ≠ some s.t) ∧
    (∃ (s : State) (e : Nat) (w : Nat) (g : Engine) (c : SigCycle), runsAt s e 0xB w g ∧ opdOf w ≤ 1 ∧ c = s.pen.sigCyc ∧ c.at?
    = some s.t) ∧
    (∃ (s : State) (e : Nat) (w : Nat) (g : Engine), runsAt s e 0xB w g ∧ (opdOf w = 3 ∨ opdOf w = 4) ∧ rfld s Reg.TBS_SRC_CFG 1
    0 = 0 ∧ rfld s Reg.TBS_SRC_CFG 19 16 = e) ∧
    (∃ (s : State) (e : Nat) (w : Nat) (g : Engine), runsAt s e 0xB w g ∧ (opdOf w = 3 ∨ opdOf w = 4) ∧ (rfld s Reg.TBS_SRC_CFG
    1 0 ≠ 0 ∨ rfld s Reg.TBS_SRC_CFG 19 16 ≠ e) ∧ eventsTaken s = true) ∧
    (∃ (s : State) (e : Nat) (w : Nat) (g : Engine), runsAt s e 0xB w g ∧ opdOf w = 5 ∧ eventsTaken s = true) ∧
    (∃ (s : State) (e : Nat) (w : Nat) (g : Engine), runsAt s e 0xB w g ∧ opdOf w = 2 ∧ bits g.x 3 2 ^^^ bits g.x 1 0 = 3 ∧
    eventsTaken s = true) ∧
    (∃ (s : State), works s = true ∧ s.pen.sigCyc.at? ≠ some s.t) ∧
    (∃ (s : State), works s = true ∧ s.pen.sigCyc.at? = some s.t) ∧
    (∃ (s : State) (v : Nat), works s = true ∧ inReset s 0x80300 = false ∧ 0 < v ∧ v < 65536 ∧ eventsTaken s = true ∧ (∀ e, e ∈
    maskEngines v → engHalted s e = true ∧ inReset s (engFid e) = false ∧ progBad s e = none ∧ ((eng s e).dirty = true ∨
    progBase s e + (eng s e).pc ≤ progLimit s e))) ∧
    (∃ (s : State) (v : Nat) (e : Nat), works s = true ∧ inReset s 0x80300 = false ∧ v < 65536 ∧ e ∈ maskEngines v ∧ engHalted s
    e = false ∧ eventsTaken s = true) ∧
    (∃ (s : State) (v : Nat) (e : Nat), works s = true ∧ inReset s 0x80300 = false ∧ v < 65536 ∧ e ∈ maskEngines v ∧ (∀ k, k ∈
    maskEngines v → engHalted s k = true ∧ inReset s (engFid k) = false) ∧ (progBad s e).isSome = true ∧ eventsTaken s = true) ∧
    (∃ (s : State) (v : Nat), works s = true ∧ v < 65536 ∧ eventsTaken s = true) ∧
    (∃ (s : State) (i : Nat), works s = true ∧ inReset s 0x80300 = false ∧ i = rfld s Reg.PEN_PMEM_ADDR 10 0 ∧ (∀ e, e ∈
    covering s i → engHalted s e = true)) ∧
    (∃ (s : State) (e : Nat), works s = true ∧ inReset s 0x80300 = false ∧ e ∈ covering s (rfld s Reg.PEN_PMEM_ADDR 10 0) ∧
    engHalted s e = false ∧ eventsTaken s = true) :=
  ⟨⟨wEng 0xB0000003 wGo, 0, 0xB0000003, wGo,
   by unfold runsAt; decide +kernel⟩,
   ⟨{ wEng 0xB0000003 wGo with pen.sigCyc := ⟨some 0, 0, none, 1, 4⟩ }, 0, 0xB0000003, wGo, ⟨some 0, 0, none, 1, 4⟩,
   by unfold runsAt; decide +kernel⟩,
   ⟨wEng 0xB3000000 wGo, 0, 0xB3000000, wGo,
   by unfold runsAt; decide +kernel⟩,
   ⟨wReg Reg.TBS_SRC_CFG 0x10000 (wEng 0xB3000000 wGo), 0, 0xB3000000, wGo,
   by unfold runsAt; decide +kernel⟩,
   ⟨wEng 0xB5000007 wGo, 0, 0xB5000007, wGo,
   by unfold runsAt; decide +kernel⟩,
   ⟨wEng 0xB2000000 { wGo with x := 3 }, 0, 0xB2000000, { wGo with x := 3 },
   by unfold runsAt; decide +kernel⟩,
   ⟨wRun,
   by decide +kernel⟩,
   ⟨{ wRun with pen.sigCyc := ⟨some 0, 0, none, 1, 4⟩ },
   by decide +kernel⟩,
   ⟨wReg Reg.PEN_ENG_PINS 0x200020 { wRun with pen.pmem := [(0, 0xE0000000#32)] }, 1,
   by decide +kernel⟩,
   ⟨wEng 0xE0000000 wGo, 1, 0,
   by decide +kernel⟩,
   ⟨{ wRun with pen.pmem := [(0, 0xF0000000#32)] }, 1, 0,
   by decide +kernel⟩,
   ⟨wRun, 0,
   by decide +kernel⟩,
   ⟨wRun, 0,
   by decide +kernel⟩,
   ⟨wEng 0xE0000000 wGo, 0,
   by decide +kernel⟩⟩

/-- The hypotheses of every clause of `Obligations.PinLevelsStrobesAndClock` are met. -/
theorem test_meets_PinLevelsStrobesAndClock :
    (∃ (s : State) (p : Nat) (v : Bool), p < 80 ∧ bit s.pen.level p ≠ v ∧ up s 0x80100 = true) ∧
    (∃ (s : State) (p : Nat) (mx : Nat) (v : Bool), p < 80 ∧ bit s.pen.level p ≠ v ∧ up s 0x80100 = true ∧ rateMax s p = some mx
    ∧ mx ≤ (monOf s p).count ∧ (monOf s p).overrate = false ∧ eventsTaken s = true) ∧
    (∃ (s : State) (p : Nat) (mx : Nat), p < 80 ∧ up s 0x80100 = true ∧ rateMax s p = some mx ∧ eventsTaken s = true) ∧
    (∃ (s : State) (p : Nat), p < 80 ∧ up s 0x80100 = true ∧ stuckOn s p = true ∧ (monOf s p).expect = true ∧ (monOf s p).stuck
    = false ∧ eventsTaken s = true) ∧
    (∃ (s : State) (p : Nat), p < 80 ∧ up s 0x80101 = true ∧ eventsTaken s = true) ∧
    (∃ (s : State) (n : Nat) (cfg : Nat), n < 16 ∧ cfg = rnat s (Reg.PEN_ST_CFG + 4 * n) ∧ strobesOk s = true ∧ bit cfg 31 =
    true ∧ slotLit s n (bits cfg 30 29) = true ∧ (strobe s n).on = false ∧ (strobeWin s n).capped = false) ∧
    (∃ (s : State) (n : Nat), (strobe s n).on = true) ∧
    (∃ (s : State) (n : Nat), n < 16 ∧ (strobe s n).on = true ∧ eventsTaken s = true) ∧
    (∃ (s : State), s.pen.clockBad = false ∧ works s = true ∧ eventsTaken s = true) :=
  ⟨⟨wRun, 0, true,
   by decide +kernel⟩,
   ⟨wReg Reg.PEN_PIN_CFG 0x300 (wReg Reg.PEN_MON 0x1400 { wRun with pen.mons := [(0, { PinMon.reset with count := 5 })] }), 0,
   5, true,
   by decide +kernel⟩,
   ⟨wReg Reg.PEN_PIN_CFG 0x300 (wReg Reg.PEN_MON 0x1400 wRun), 0, 5,
   by decide +kernel⟩,
   ⟨wReg Reg.PEN_PIN_CFG 0x280 { wRun with pen.mons := [(0, { PinMon.reset with expect := true })] }, 0,
   by decide +kernel⟩,
   ⟨wRun, 0,
   by decide +kernel⟩,
   ⟨wReg Reg.PEN_ST_CFG 0x90000000 { wRun with ary.snapBusy := true, ary.snapCfg := 100, pen.hiz := false }, 0, 0x90000000,
   by decide +kernel⟩,
   ⟨{ wRun with pen.strobes := [(0, { Strobe.reset with on := true })] }, 0,
   by decide +kernel⟩,
   ⟨{ wRun with pen.strobes := [(0, { Strobe.reset with on := true })] }, 0,
   by decide +kernel⟩,
   ⟨wRun,
   by decide +kernel⟩⟩

/-- The hypotheses of every clause of `Obligations.InputIsMeteredAndLedgered` are met. -/
theorem test_meets_InputIsMeteredAndLedgered :
    (∃ (s : State) (v : Nat) (i : Nat), v < 65536 ∧ i < 65536 ∧ domainRuns s 9 = true ∧ inReset s 0x90000 = false) ∧
    (∃ (s : State), domainRuns s 9 = true ∧ eventsTaken s = true) ∧
    (∃ (s : State) (dt : Nat) (gap : Bool) (stand : Bool), works s = true ∧ inReset s 0x90100 = false ∧ dt = s.t - s.nrg.closeT
    ∧ stand = s.tbs.standstill ∧ gap = ((s.tbs.hist.find? (fun h => decide (h.tl < s.t))).map (·.gap)).getD true) ∧
    (∃ (s : State) (p : Nat) (g : Nat), works s = true ∧ s.tbs.standstill = false ∧ s.nrg.recheck = false ∧ s.nrg.cutNow =
    s.thm.envCut ∧ s.nrg.tb4Now = s.thm.bothBad ∧ p = s.nrg.planNext.getD s.nrg.planShed ∧ g = s.nrg.guardNext.getD
    s.nrg.guardShed ∧ eventsTaken s = true) ∧
    (∃ (s : State), works s = true ∧ s.tbs.standstill = false ∧ (s.nrg.recheck = true ∨ s.nrg.cutNow ≠ s.thm.envCut ∨
    s.nrg.tb4Now ≠ s.thm.bothBad)) ∧
    (∃ (s : State), works s = true ∧ s.tbs.standstill = true) :=
  ⟨⟨wRun, 0, 0,
   by decide +kernel⟩,
   ⟨wRun,
   by decide +kernel⟩,
   ⟨wRun, 0, true, false,
   by decide +kernel⟩,
   ⟨wRun, 0, 0,
   by decide +kernel⟩,
   ⟨{ wRun with nrg.recheck := true },
   by decide +kernel⟩,
   ⟨{ wRun with tbs.standstill := true },
   by decide +kernel⟩⟩

/-- The hypotheses of every clause of `Obligations.EnvelopeIsKept` are met. -/
theorem test_meets_EnvelopeIsKept :
    (∃ (s : State) (v : Nat), 4000 ≤ v ∧ v ≤ 15000 ∧ s.nrg.admitted = true ∧ inReset s 0x90101 = false) ∧
    (∃ (s : State) (v : Nat), (v < 4000 ∨ 15000 < v) ∧ v < 65536 ∧ eventsTaken s = true) ∧
    (∃ (s : State) (p : Nat), p = max (s.nrg.planNext.getD s.nrg.planShed) (s.nrg.guardNext.getD s.nrg.guardShed) ∧ guardOn s =
    true ∧ envMw s < p100 s ∧ p < 4) ∧
    (∃ (s : State), p100 s ≤ envMw s) ∧
    (∃ (s : State) (g : Nat), g + 1 = s.nrg.guardShed ∧ guardOn s = true ∧ s.nrg.guardNext = none ∧ 11 * (p1000 s *
    1000000000000 * 100 + stepPower100 s (g + 1)) ≤ 10 * (envMw s * 1000000000000 * 100)) ∧
    (∃ (s : State), works s = true ∧ s.nrg.breach = false ∧ eventsTaken s = true ∧ (s.nrg.planBad = true ∨ (guardOn s = true ∧
    s.nrg.guardShed = 4 ∧ envMw s < p1000 s))) ∧
    (∃ (s : State), works s = true ∧ s.nrg.breach = true ∧ s.nrg.planBad = false ∧ s.nrg.guardShed ≠ 4 ∧ eventsTaken s = true) :=
  ⟨⟨{ wRun with nrg.admitted := true }, 6000,
   by decide +kernel⟩,
   ⟨wRun, 0,
   by decide +kernel⟩,
   ⟨wReg Reg.NRG_GUARD_CFG 0x80000000 (wReg Reg.NRG_ENV 0
   { wRun with nrg.admitted := true, nrg.meterOk := true, nrg.samples := [2 ^ 60] }), 0,
   by decide +kernel⟩,
   ⟨wRun,
   by decide +kernel⟩,
   ⟨wGuard, 3, rfl, by decide +kernel, rfl, by rw [guard_step_saves_nothing]; decide +kernel⟩,
   ⟨{ wRun with nrg.planBad := true },
   by decide +kernel⟩,
   ⟨{ wRun with nrg.breach := true },
   by decide +kernel⟩⟩

/-- The hypotheses of every clause of `Obligations.GrantsAreAskedGivenAndForced` are met. -/
theorem test_meets_GrantsAreAskedGivenAndForced :
    (∃ (s : State) (o : Nat) (w : Nat), wantsGrant s o w = true ∧ grantKnown s o w = false ∧ inReset s 0x90101 = false) ∧
    (∃ (s : State) (g : Grant), inReset s 0x90101 = false ∧ s.nrg.waiting = [g] ∧ 1 ≤ g.order ∧ g.order ≤ 5 ∧ orderOpen s
    g.order = true ∧ wantsGrant s g.order g.who = true ∧ grantFits s g.order = true) ∧
    (∃ (s : State), (∀ g, g ∈ s.nrg.waiting → grantFits s g.order = false)) ∧
    (∃ (s : State) (g : Grant), s.nrg.waiting.find? (fun x => x.order == g.order && x.who == g.who) = some g ∧ (g.order = 1 ∨
    g.order = 2 ∨ (g.order = 5 ∧ orderOpen s 5 = true)) ∧ eventsTaken s = true) ∧
    (∃ (s : State) (g : Grant), s.nrg.waiting.find? (fun x => x.order == g.order && x.who == g.who) = some g ∧ g.order = 3 ∧
    g.long = false ∧ eventsTaken s = true) :=
  ⟨⟨{ wRun with ary.snapPend := true }, 4, 0,
   by decide +kernel⟩,
   ⟨{ wRun with ary.snapPend := true, nrg.waiting := [⟨4, 0, 0, false⟩] }, ⟨4, 0, 0, false⟩,
   by decide +kernel⟩,
   ⟨wRun,
   by decide +kernel⟩,
   ⟨{ wRun with mgt.attBusy := true, nrg.waiting := [⟨5, 0, 0, false⟩] }, ⟨5, 0, 0, false⟩,
   by decide +kernel⟩,
   ⟨{ wRun with xw := [(1, { XwLane.reset with wantAdapt := true })], nrg.waiting := [⟨3, 1, 0, false⟩] }, ⟨3, 1, 0, false⟩,
   by decide +kernel⟩⟩

/-- The hypotheses of every clause of `Obligations.PowerFailSealsAndRestarts` are met. -/
theorem test_meets_PowerFailSealsAndRestarts :
    (∃ (s : State), s.nrg.pf = 0 ∧ s.thm.trip ≠ 2 ∧ 0 ∉ s.mgt.downBy) ∧
    (∃ (s : State), s.nrg.pf = 1 ∧ alive s = true ∧ eventsTaken s = true) ∧
    (∃ (s : State), s.nrg.pf = 1 ∧ alive s = false) ∧
    (∃ (s : State), s.nrg.pf = 1 ∧ s.thm.trip ≠ 2) ∧
    (∃ (s : State) (v : Nat), s.nrg.pf = 2 ∧ 75 ≤ v ∧ s.thm.trip ≠ 1 ∧ (sealPlace (programDone s)).isSome = true) ∧
    (∃ (s : State) (v : Nat), s.nrg.pf = 2 ∧ (v < 75 ∨ sealPlace (programDone s) = none)) ∧
    (∃ (s : State), s.nrg.pf = 3) ∧
    (∃ (s : State), s.nrg.pf = 4) ∧
    (∃ (s : State), s.nrg.pf = 4 ∧ (∀ x, x ∈ s.mgt.downBy → x = 0) ∧ s.thm.trip = 0) :=
  ⟨⟨wRun,
   by decide +kernel⟩,
   ⟨{ wRun with nrg.pf := 1 },
   by decide +kernel⟩,
   ⟨{ State.reset with nrg.pf := 1, mgt.step := 0 },
   by decide +kernel⟩,
   ⟨{ wRun with nrg.pf := 1 },
   by decide +kernel⟩,
   ⟨{ wRun with nrg.pf := 2, evt.rcd := wRcd }, 75,
   by decide +kernel⟩,
   ⟨{ wRun with nrg.pf := 2 }, 74,
   by decide +kernel⟩,
   ⟨{ wRun with nrg.pf := 3 },
   by decide +kernel⟩,
   ⟨{ wRun with nrg.pf := 4 },
   by decide +kernel⟩,
   ⟨{ wRun with nrg.pf := 4 },
   by decide +kernel⟩⟩

/-- The hypotheses of every clause of `Obligations.ResetLinesAndPowerOn` are met. -/
theorem test_meets_ResetLinesAndPowerOn :
    (∃ (s : State), alive s = true) ∧
    (∃ (s : State), s.mgt.downBy = [1] ∧ s.nrg.pf ≤ 1 ∧ s.thm.trip = 0) ∧
    (∃ (s : State), alive s = true) ∧
    (∃ (s : State), s.mgt.downBy = [2] ∧ s.nrg.pf ≤ 1 ∧ s.thm.trip = 0) ∧
    (∃ (s : State) (x : Nat), x ∈ s.mgt.downBy ∧ x ≠ 0) ∧
    (∃ (s : State), (∀ x, x ∈ s.mgt.downBy → x = 0)) :=
  ⟨⟨wRun,
   by decide +kernel⟩,
   ⟨{ State.reset with mgt.step := 0, mgt.downBy := [1] },
   by decide +kernel⟩,
   ⟨wRun,
   by decide +kernel⟩,
   ⟨{ State.reset with mgt.step := 0, mgt.downBy := [2] },
   by decide +kernel⟩,
   ⟨{ State.reset with mgt.step := 0, mgt.downBy := [1] }, 1,
   by decide +kernel⟩,
   ⟨wRun,
   by decide +kernel⟩⟩

/-- The hypotheses of every clause of `Obligations.RoundsAndUrgentVisits` are met. -/
theorem test_meets_RoundsAndUrgentVisits :
    (∃ (s : State), s.thm.running = false ∧ domainRuns s 10 = true ∧ inReset s 0xA0100 = false ∧ convServes s 0 = true ∧
    convServes s 1 = true ∧ s.thm.conv.length = 2) ∧
    (∃ (s : State) (c : Nat) (chan : Nat) (rest : List Nat), c < 2 ∧ s.thm.conv.length = 2 ∧ domainRuns s 10 = true ∧ (convAt s
    c).serving = none ∧ (convAt s c).visits = chan :: rest ∧ 0 < (convAt s c).settle) ∧
    (∃ (s : State) (c : Nat) (chan : Nat) (rest : List Nat), c < 2 ∧ s.thm.conv.length = 2 ∧ domainRuns s 10 = true ∧ (convAt s
    c).serving = none ∧ (convAt s c).visits = chan :: rest ∧ (convAt s c).settle = 0 ∧ (convAt s c).queue = []) ∧
    (∃ (s : State) (c : Nat) (u : Urgent), c < 2 ∧ s.thm.conv.length = 2 ∧ domainRuns s 10 = true ∧ (convAt s c).serving = some
    (u, false)) ∧
    (∃ (s : State), s.thm.running = true ∧ s.thm.late = false ∧ (inReset s 0xA0000 && inReset s 0xA0001) = false ∧ inReset s
    0xA0100 = false ∧ inReset s 0x30200 = false ∧ eventsTaken s = true) ∧
    (∃ (s : State) (u : Urgent) (c : Nat), domainRuns s 10 = true ∧ nextAsked s = some u ∧ serverOf s (u.chan / 32) = some c ∧ c
    < 2 ∧ s.thm.conv.length = 2 ∧ (convAt s c).serving = none ∧ ((convAt s c).visits = [] ∨ (convAt s c).aborts < 2)) ∧
    (∃ (s : State) (u : Urgent) (c : Nat), domainRuns s 10 = true ∧ nextAsked s = some u ∧ serverOf s (u.chan / 32) = some c ∧ c
    < 2 ∧ s.thm.conv.length = 2 ∧ (convAt s c).serving = none ∧ (convAt s c).visits ≠ [] ∧ 2 ≤ (convAt s c).aborts ∧ (convAt s
    c).queue.length < 8 ∧ eventsTaken s = true) ∧
    (∃ (s : State) (c : Nat) (u : Urgent), c < 2 ∧ s.thm.conv.length = 2 ∧ domainRuns s 10 = true ∧ (convAt s c).serving = some
    (u, true) ∧ eventsTaken s = true) :=
  ⟨⟨wRun,
   by decide +kernel⟩,
   ⟨{ wRun with thm.running := true, thm.conv := [{ Conv.reset with visits := [3], settle := 1 }, Conv.reset] }, 0, 3, [],
   by decide +kernel⟩,
   ⟨{ wRun with thm.running := true, thm.conv := [{ Conv.reset with visits := [3] }, Conv.reset] }, 0, 3, [],
   by decide +kernel⟩,
   ⟨{ wRun with thm.conv := [{ Conv.reset with serving := some (⟨1, 3, 3⟩, false) }, Conv.reset] }, 0, ⟨1, 3, 3⟩,
   by decide +kernel⟩,
   ⟨{ wRun with thm.running := true },
   by decide +kernel⟩,
   ⟨{ wRun with thm.asked := [⟨1, 3, 3⟩] }, ⟨1, 3, 3⟩, 0,
   by decide +kernel⟩,
   ⟨{ wRun with thm.asked := [⟨1, 3, 3⟩], thm.conv := [{ Conv.reset with visits := [5], aborts := 2 }, Conv.reset] }, ⟨1, 3, 3⟩,
   0,
   by decide +kernel⟩,
   ⟨{ wRun with thm.conv := [{ Conv.reset with serving := some (⟨1, 3, 3⟩, true) }, Conv.reset] }, 0, ⟨1, 3, 3⟩,
   by decide +kernel⟩⟩

/-- The hypotheses of every clause of `Obligations.RoundEndJudgesTemperature` are met. -/
theorem test_meets_RoundEndJudgesTemperature :
    (∃ (s : State), roundDelivered s = true) ∧
    (∃ (s : State), roundDelivered s = true ∧ inReset s 0xA0200 = false ∧ s.mgt.step ≠ 4) ∧
    (∃ (s : State), roundDelivered s = false) :=
  ⟨⟨wRound,
   by decide +kernel⟩,
   ⟨wRound,
   by decide +kernel⟩,
   ⟨wRun,
   by decide +kernel⟩⟩

/-- The hypotheses of every clause of `Obligations.OrderlyStopReachesCalm` are met. -/
theorem test_meets_OrderlyStopReachesCalm :
    (∃ (s : State) (v : Int) (m : Int), s.thm.stop = 1 ∧ s.thm.bothBad = false ∧ s.nrg.pf = 0 ∧ s.thm.trip = 0 ∧ mget
    s.thm.reconv s.thm.hot = some v ∧ m = (tMaxOf (s.thm.ts.set s.thm.hot v) s.thm.excl).1 ∧ eventsTaken s = true) ∧
    (∃ (s : State) (v : Int), s.thm.stop = 1 ∧ (s.thm.bothBad = true ∨ s.nrg.pf ≠ 0 ∨ s.thm.trip ≠ 0) ∧ mget s.thm.reconv
    s.thm.hot = some v) ∧
    (∃ (s : State), s.thm.stop = 2 ∧ eventsTaken s = true) ∧
    (∃ (s : State), s.thm.stop = 3 ∧ privMirrored s = true ∧ (∀ n, n < 4 → (laneSet s n).down = true ∨ p0Empty s n = true) ∧
    eventsTaken s = true) ∧
    (∃ (s : State), s.mgt.state = .calm ∧ rbit s Reg.THM_CFG 31 = true ∧ s.thm.coolT.isSome = true ∧ nothingHolds s) ∧
    (∃ (s : State) (k : Nat), k ≠ 0xC3 ∧ eventsTaken s = true) ∧
    (∃ (s : State), s.mgt.state = .calm ∧ nothingHolds s) ∧
    (∃ (s : State), s.mgt.state = .tripLatch ∧ nothingHolds s) :=
  ⟨⟨{ wRun with thm.stop := 1, thm.hot := 2, thm.reconv := [(2, 900)] }, 900, 900,
   by decide +kernel⟩,
   ⟨{ wRun with thm.stop := 1, thm.hot := 2, thm.reconv := [(2, 900)], thm.trip := 1 }, 900,
   by decide +kernel⟩,
   ⟨{ wRun with thm.stop := 2 },
   by decide +kernel⟩,
   ⟨{ wRun with thm.stop := 3 },
   by decide +kernel⟩,
   ⟨wReg Reg.THM_CFG 0x80000000 { wRun with mgt.state := .calm, thm.coolT := some 0 },
   by unfold nothingHolds; decide +kernel⟩,
   ⟨wRun, 0,
   by decide +kernel⟩,
   ⟨{ wRun with mgt.state := .calm },
   by unfold nothingHolds; decide +kernel⟩,
   ⟨{ wRun with mgt.state := .tripLatch },
   by unfold nothingHolds; decide +kernel⟩⟩

/-- The hypotheses of every clause of `Obligations.TripCutsAndRestarts` are met. -/
theorem test_meets_TripCutsAndRestarts :
    (∃ (s : State), s.thm.trip = 0 ∧ 0 ∉ s.mgt.downBy ∧ s.nrg.pf ≤ 1) ∧
    (∃ (s : State), s.thm.trip = 1 ∧ s.nrg.pf ≤ 1) ∧
    (∃ (s : State), s.thm.trip = 2 ∧ s.nrg.pf ≤ 1 ∧ s.mgt.downBy = []) :=
  ⟨⟨wRun,
   by decide +kernel⟩,
   ⟨{ wRun with thm.trip := 1 },
   by decide +kernel⟩,
   ⟨{ wRun with thm.trip := 2 },
   by decide +kernel⟩⟩

/-- The hypotheses of every clause of `Obligations.StartupRunsItsSteps` are met. -/
theorem test_meets_StartupRunsItsSteps :
    (∃ (s : State), s.mgt.state = .boot ∧ s.mgt.step = 1) ∧
    (∃ (s : State), s.mgt.state = .boot ∧ s.mgt.step = 2 ∧ eventsTaken s = true) ∧
    (∃ (s : State), s.mgt.state = .starting ∧ s.mgt.step = 3 ∧ nvTurn s 0 = true) ∧
    (∃ (s : State), s.mgt.state = .starting ∧ s.mgt.step = 3 ∧ nvTurn s 0 = true ∧ s.mgt.tried = [] ∧ eventsTaken s = true ∧ (∀
    sl, sl < 2 → rfld s (Reg.MGT_SLOT_STATUS + 4 * sl) 31 28 ≤ 2) ∧ (∀ sl, sl < 2 → imgBytes s sl 0 4 ≠ [0x42#8, 0x50#8, 0x43#8,
    0x46#8])) ∧
    (∃ (s : State), s.mgt.state = .starting ∧ s.mgt.step = 4 ∧ 40 ∈ s.mgt.stepsDone ∧ eventsTaken s = true) ∧
    (∃ (s : State) (u : State), s.mgt.state = .starting ∧ s.mgt.step = 4 ∧ 40 ∈ s.mgt.stepsDone ∧ eventsTaken s = true ∧ u =
    startBand { s with thm := { s.thm with cmpTest := 0 } }) ∧
    (∃ (s : State), s.mgt.state = .starting ∧ s.mgt.step = 5 ∧ s.col.calibrated = true) ∧
    (∃ (s : State), s.mgt.state = .starting ∧ (s.mgt.step = 5 ∨ s.mgt.step = 6) ∧ linksTrained s = true ∧ discovered s = true ∧
    6 ∉ s.mgt.stepsDone) ∧
    (∃ (s : State) (n : Nat), s.mgt.state = .starting ∧ s.mgt.step = 6 ∧ 5 ∈ s.mgt.stepsDone ∧ 6 ∈ s.mgt.stepsDone ∧ n < 4 ∧
    setEn s n = true ∧ inReset s (setFid n) = false ∧ (laneSet s n).failed = [] ∧ (cfgSlots s n).1 ≠ []) ∧
    (∃ (s : State), s.mgt.state = .starting ∧ s.mgt.step = 7 ∧ allSetsUp s = true ∧ s.mgt.autoCommit = false ∧ s.mgt.captured <
    2048 ∧ eventsTaken s = true) ∧
    (∃ (s : State), s.mgt.stepsDone.contains 5 = true ∧ works s = true ∧ s.mgt.capturing = false ∧ s.grp.role ≠ 2 ∧ s.thm.stop <
    3) ∧
    (∃ (s : State), s.mgt.state = .ready ∧ 2048 ≤ s.mgt.captured ∧ eventsTaken s = true) ∧
    (∃ (s : State), alive s = true ∧ nothingHolds s) :=
  ⟨⟨State.reset,
   by decide +kernel⟩,
   ⟨{ State.reset with mgt.step := 2 },
   by decide +kernel⟩,
   ⟨wStart 3 [],
   by decide +kernel⟩,
   ⟨wStart 3 [],
   by decide +kernel⟩,
   ⟨wStart 4 [40],
   by decide +kernel⟩,
   ⟨wStart 4 [40], startBand { (wStart 4 [40]) with thm := { (wStart 4 [40]).thm with cmpTest := 0 } },
   by decide +kernel⟩,
   ⟨{ wStart 5 [] with col.calibrated := true },
   by decide +kernel⟩,
   ⟨wStart 6 [5],
   by decide +kernel⟩,
   ⟨wReg Reg.LNK_SET_CFG 0x80200000 (wStart 6 [5, 6]), 0,
   by decide +kernel⟩,
   ⟨wStart 7 [5, 6],
   by decide +kernel⟩,
   ⟨wRun,
   by decide +kernel⟩,
   ⟨{ wRun with mgt.state := .ready, mgt.captured := 2048 },
   by decide +kernel⟩,
   ⟨wRun,
   by unfold nothingHolds; decide +kernel⟩⟩

/-- The hypotheses of every clause of `Obligations.ImagesAreVerifiedAndCommitted` are met. -/
theorem test_meets_ImagesAreVerifiedAndCommitted :
    (∃ (s : State), s.mgt.verify = none ∧ alive s = true ∧ inReset s 0xB0000 = false ∧ s.mgt.state ≠ .boot) ∧
    (∃ (s : State) (sl : Nat), s.mgt.verify = some sl ∧ nvTurn s 7 = true ∧ eventsTaken s = true) ∧
    (∃ (s : State), alive s = true ∧ inReset s 0xB0000 = false ∧ s.mgt.loaded = true ∧ rbTotal s < s.mgt.roll ∧ eventsTaken s =
    true) ∧
    (∃ (s : State), s.mgt.loaded = false) :=
  ⟨⟨wRun,
   by decide +kernel⟩,
   ⟨{ wRun with mgt.verify := some 1 }, 1,
   by decide +kernel⟩,
   ⟨{ wRun with mgt.roll := max (min 64 Config.rbCount.toNat) 0 + 1 }, by decide +kernel, by decide +kernel, rfl,
   Nat.lt_succ_self _, by decide +kernel⟩,
   ⟨State.reset,
   by decide +kernel⟩⟩

/-- The hypotheses of every clause of `Obligations.FlashOperationsAndAttestation` are met. -/
theorem test_meets_FlashOperationsAndAttestation :
    (∃ (s : State) (a : Nat), a = rfld s Reg.MGT_NV_ADDR 24 0 ∧ inReset s 0xB0001 = false ∧ alive s = true ∧ nvFree s = true ∧ a
    + 256 ≤ 0x1500000) ∧
    (∃ (s : State) (a : Nat), a = rfld s Reg.MGT_NV_ADDR 24 0 ∧ inReset s 0xB0001 = false ∧ alive s = true ∧ nvFree s = true ∧ a
    % 256 = 0 ∧ nvWritable s a = true) ∧
    (∃ (s : State) (a : Nat), a = rfld s Reg.MGT_NV_ADDR 24 0 ∧ inReset s 0xB0001 = false ∧ alive s = true ∧ nvFree s = true ∧
    nvWritable s a = true) ∧
    (∃ (s : State), inReset s 0xB0001 = false ∧ alive s = true ∧ nvFree s = true ∧ nvWritable s (rfld s Reg.MGT_NV_ADDR 24 0) =
    false) ∧
    (∃ (s : State), inReset s 0xB0001 = false ∧ alive s = true ∧ nvFree s = false) ∧
    (∃ (s : State) (o : NvOp), s.mgt.nvOp = some o ∧ nvTurn s 6 = true) ∧
    (∃ (s : State) (o : NvOp), s.mgt.nvOp = some o ∧ nvTurn s 6 = true) ∧
    (∃ (s : State), s.mgt.attBusy = false ∧ inReset s 0xB0002 = false ∧ alive s = true) ∧
    (∃ (s : State), s.mgt.attBusy = true ∧ s.mgt.attGranted = true) ∧
    (∃ (s : State), alive s = true ∧ nothingHolds s ∧ s.mgt.attBusy = true) :=
  ⟨⟨wRun, 0,
   by decide +kernel⟩,
   ⟨wReg Reg.MGT_NV_ADDR 0x1410000 wRun, 0x1410000,
   by decide +kernel⟩,
   ⟨wReg Reg.MGT_NV_ADDR 0x1410000 wRun, 0x1410000,
   by decide +kernel⟩,
   ⟨wRun,
   by decide +kernel⟩,
   ⟨State.reset,
   by decide +kernel⟩,
   ⟨{ wRun with mgt.nvOp := some ⟨0, 0x1410000, [5], true⟩ }, ⟨0, 0x1410000, [5], true⟩,
   by decide +kernel⟩,
   ⟨{ wRun with mgt.nvOp := some ⟨0, 0x1410000, [5], true⟩ }, ⟨0, 0x1410000, [5], true⟩,
   by decide +kernel⟩,
   ⟨wRun,
   by decide +kernel⟩,
   ⟨{ wRun with mgt.attBusy := true, mgt.attGranted := true },
   by decide +kernel⟩,
   ⟨{ wRun with mgt.attBusy := true },
   by unfold nothingHolds; decide +kernel⟩⟩

/-- The hypotheses of every clause of `Obligations.BusAnswersAndRequests` are met. -/
theorem test_meets_BusAnswersAndRequests :
    (∃ (s : State) (addr : Nat), answersOwn s addr) ∧
    (∃ (s : State) (addr : Nat), answersOwn s addr) ∧
    (∃ (s : State) (addr : Nat), answersOwn s addr) ∧
    (∃ (s : State) (addr : Nat), answersOwn s addr) ∧
    (∃ (s : State) (addr : Nat), answersOwn s addr) ∧
    (∃ (s : State) (addr : Nat), mbAnswers s = true ∧ addr ≠ ownAddr s ∧ groupHit s addr = true ∧ s.mb.lull = false) ∧
    (∃ (s : State), mbAnswers s = true ∧ s.mb.lull = true) ∧
    (∃ (s : State) (addr : Nat) (code : Nat) (cnt : Nat), answersOwn s addr ∧ codeRefused code cnt = true ∧ eventsTaken s =
    true) ∧
    (∃ (s : State), mbAnswers s = true ∧ s.mb.hung = true ∧ s.mb.lull = false ∧ eventsTaken s = true) ∧
    (∃ (s : State) (a : Byte) (b : Byte), ibrReady s = true ∧ a = addrByte (ownAddr s) true ∧ b = BitVec.ofNat 8 (attnByte s)) ∧
    (∃ (s : State), ibrReady s = true ∧ eventsTaken s = true) ∧
    (∃ (s : State), ibrReady s = true ∧ eventsTaken s = true) ∧
    (∃ (s : State) (idle : Nat), mbAnswers s = true ∧ idle = rfld s Reg.MGT_MB_CFG 15 0 ∧ idle ≠ 0 ∧ lullAsked s = true ∧
    s.mb.lull = false ∧ s.mb.lastAddr + idle * 200000 ≤ s.t) ∧
    (∃ (s : State), s.mb.lull = true ∧ mbAnswers s = true ∧ s.evt.rise = true) :=
  ⟨⟨wRun, 0x5C,
   by unfold answersOwn; decide +kernel⟩,
   ⟨wRun, 0x5C,
   by unfold answersOwn; decide +kernel⟩,
   ⟨wRun, 0x5C,
   by unfold answersOwn; decide +kernel⟩,
   ⟨wRun, 0x5C,
   by unfold answersOwn; decide +kernel⟩,
   ⟨wRun, 0x5C,
   by unfold answersOwn; decide +kernel⟩,
   ⟨wReg Reg.MGT_MB_CFG 0x10000000 wRun, 0x20,
   by decide +kernel⟩,
   ⟨{ wRun with mb.lull := true },
   by decide +kernel⟩,
   ⟨wRun, 0x5C, 0x40, 5,
   by unfold answersOwn; decide +kernel⟩,
   ⟨{ wRun with mb.hung := true },
   by decide +kernel⟩,
   ⟨{ wRun with evt.ibrDue := true }, 0xB9#8, 1#8,
   by decide +kernel⟩,
   ⟨{ wRun with evt.ibrDue := true },
   by decide +kernel⟩,
   ⟨{ wRun with evt.ibrDue := true },
   by decide +kernel⟩,
   ⟨wReg Reg.MGT_MB_CFG 5 { wRun with t := 1000000, nrg.planShed := 1 }, 5,
   by decide +kernel⟩,
   ⟨{ wRun with mb.lull := true, evt.rise := true },
   by decide +kernel⟩⟩

/-- The hypotheses of every clause of `Obligations.BusReadsAndWritesRegisters` are met. -/
theorem test_meets_BusReadsAndWritesRegisters :
    (∃ (s : State) (u : State) (addr : Nat) (p : Nat) (v : Nat), answersOwn s addr ∧ pecOn s = false ∧ p = s.mb.ptr ∧ v < 2 ^ 32
    ∧ u = writeReg p v (addressedAt s (nextPtr p))) ∧
    (∃ (s : State) (u : State) (addr : Nat) (p : Nat) (v : Nat), answersOwn s addr ∧ pecOn s = false ∧ p = s.mb.ptr ∧ v < 2 ^ 32
    ∧ u = writeReg p v (addressedAt s (nextPtr p))) ∧
    (∃ (s : State) (u : State) (addr : Nat) (p : Nat) (v : Nat), answersOwn s addr ∧ pecOn s = false ∧ p % 4 = 0 ∧ p < 2 ^ 24 ∧
    v < 2 ^ 32 ∧ u = writeReg p v (addressedAt s (nextPtr p))) ∧
    (∃ (s : State) (addr : Nat), answersOwn s addr ∧ pecOn s = false) ∧
    (∃ (s : State) (addr : Nat) (p : Nat), answersOwn s addr ∧ pecOn s = false ∧ p = s.mb.ptr ∧ p ≠ Reg.MGT_REC_WIN ∧ isLatched
    p = false) ∧
    (∃ (s : State) (addr : Nat) (p : Nat), answersOwn s addr ∧ pecOn s = false ∧ p = s.mb.ptr ∧ p ≠ Reg.MGT_REC_WIN ∧ isLatched
    p = false) ∧
    (∃ (s : State) (addr : Nat) (p : Nat), answersOwn s addr ∧ pecOn s = false ∧ p % 4 = 0 ∧ p < 2 ^ 24 ∧ p ≠ Reg.MGT_REC_WIN ∧
    isLatched p = false) ∧
    (∃ (s : State) (addr : Nat) (v : Nat) (c : Byte), answersOwn s addr ∧ pecOn s = true ∧ eventsTaken s = true ∧ c ≠ pec
    ([addrByte addr false, 0x40#8, 4#8] ++ leBytes 4 v)) ∧
    (∃ (s : State) (addr : Nat) (p : Nat) (v : Nat), answersOwn s addr ∧ pecOn s = false ∧ p = s.mb.ptr ∧ takesWord p v ∧ v < 2
    ^ 32) ∧
    (∃ (s : State) (addr : Nat) (p : Nat) (v : Nat) (w : Nat), answersOwn s addr ∧ pecOn s = false ∧ p = s.mb.ptr ∧ takesWord p
    v ∧ takesWord (nextPtr p) w ∧ v < 2 ^ 32 ∧ w < 2 ^ 32) ∧
    (∃ (s : State) (addr : Nat) (p : Nat) (v : Nat) (c : Byte), answersOwn s addr ∧ pecOn s = true ∧ p = s.mb.ptr ∧ takesWord p
    v ∧ v < 2 ^ 32 ∧ c = pec ([addrByte addr false, 0x40#8, 4#8] ++ leBytes 4 v)) ∧
    (∃ (s : State) (addr : Nat) (cnt : Nat), answersOwn s addr ∧ countOk cnt = false ∧ eventsTaken s = true) :=
  ⟨⟨{ wRun with mb.ptr := 0x900030 }, writeReg 0x900030 7 (addressedAt { wRun with mb.ptr := 0x900030 } (nextPtr 0x900030)),
   0x5C, 0x900030, 7,
   by unfold answersOwn; decide +kernel⟩,
   ⟨{ wRun with mb.ptr := 0x900030 }, writeReg 0x900030 7 (addressedAt { wRun with mb.ptr := 0x900030 } (nextPtr 0x900030)),
   0x5C, 0x900030, 7,
   by unfold answersOwn; decide +kernel⟩,
   ⟨{ wRun with mb.ptr := 0x900030 }, writeReg 0x900030 7 (addressedAt { wRun with mb.ptr := 0x900030 } (nextPtr 0x900030)),
   0x5C, 0x900030, 7,
   by unfold answersOwn; decide +kernel⟩,
   ⟨wRun, 0x5C,
   by unfold answersOwn; decide +kernel⟩,
   ⟨{ wRun with mb.ptr := 0x900030 }, 0x5C, 0x900030,
   by unfold answersOwn; decide +kernel⟩,
   ⟨{ wRun with mb.ptr := 0x900030 }, 0x5C, 0x900030,
   by unfold answersOwn; decide +kernel⟩,
   ⟨wRun, 0x5C, 0x900030,
   by unfold answersOwn; decide +kernel⟩,
   ⟨{ wRun with mb.pecStrap := true }, 0x5C, 7, 0#8,
   by unfold answersOwn; decide +kernel⟩,
   ⟨{ wRun with mb.ptr := 0xB00300 }, 0x5C, 0xB00300, 7, by unfold answersOwn; decide +kernel, by decide +kernel, rfl,
   page_buffer_takes_word _ _ (Or.inl ⟨rfl, rfl⟩), by decide⟩,
   ⟨{ wRun with mb.ptr := 0xB00300 }, 0x5C, 0xB00300, 7, 8, by unfold answersOwn; decide +kernel, by decide +kernel, rfl,
   page_buffer_takes_word _ _ (Or.inl ⟨rfl, rfl⟩), page_buffer_takes_word _ _ (Or.inr ⟨rfl, rfl⟩), by decide, by decide⟩,
   ⟨{ wRun with mb.ptr := 0xB00300, mb.pecStrap := true }, 0x5C, 0xB00300, 7, _, by unfold answersOwn; decide +kernel,
   by decide +kernel, rfl, page_buffer_takes_word _ _ (Or.inl ⟨rfl, rfl⟩), by decide, rfl⟩,
   ⟨wRun, 0x5C, 5,
   by unfold answersOwn; decide +kernel⟩⟩

/-- The hypotheses of every clause of `Obligations.EventsArePendingUntilCleared` are met. -/
theorem test_meets_EventsArePendingUntilCleared :
    (∃ (s : State), eventsTaken s = true) ∧
    (∃ (s : State) (code : Nat), eventsTaken s = true ∧ bit (evtCfg s code) 28 = true ∧ bit (evtCfg s code) 29 = true ∧
    s.evt.rcd.taking = true ∧ s.evt.rcd.intake.length < 8) ∧
    (∃ (s : State) (code : Nat), eventsTaken s = true ∧ bit (evtCfg s code) 28 = false) ∧
    (∃ (s : State), eventsTaken s = false) :=
  ⟨⟨wRun,
   by decide +kernel⟩,
   ⟨wReg (cfgAddr 0x609) 0x30000000 { wRun with evt.rcd.taking := true }, 0x609,
   by decide +kernel⟩,
   ⟨wRun, 0,
   by decide +kernel⟩,
   ⟨{ wRun with rst.held := [0xB0200] },
   by decide +kernel⟩⟩

/-- The hypotheses of every clause of `Obligations.RecorderWritesAndIsRead` are met. -/
theorem test_meets_RecorderWritesAndIsRead :
    (∃ (s : State) (x : Rec) (rest : List Rec), s.evt.rcd.intake = x :: rest ∧ (x.priv = false ∨ repeatOf x s.evt.rcd = none)) ∧
    (∃ (s : State) (x : Rec) (rest : List Rec) (y : RingRec) (g0 : Nat) (g3 : Nat), s.evt.rcd.intake = x :: rest ∧ x.priv = true
    ∧ repeatOf x s.evt.rcd = some y ∧ g0 = (mgetD s.evt.rcd.ring y.pos 0#128).toNat ∧ g3 = (mgetD s.evt.rcd.ring (y.pos + 3)
    0#128).toNat) ∧
    (∃ (s : State) (x : RingRec), latchPick (rnat s Reg.MGT_REC_CURSOR) s.evt.rcd.recs = some x) ∧
    (∃ (s : State), latchPick (rnat s Reg.MGT_REC_CURSOR) s.evt.rcd.recs = none) ∧
    (∃ (s : State) (g : Nat), g < 16384 ∧ eventsTaken s = true) ∧
    (∃ (s : State), s.evt.rcd.taking = false ∧ inReset s 0xB0201 = false ∧ alive s = true) :=
  ⟨⟨{ wRun with evt.rcd.intake := [⟨0x609, 0, 5, 6, 7, 0, 0, [1], false, true, 0⟩] }, ⟨0x609, 0, 5, 6, 7, 0, 0, [1], false,
   true, 0⟩, [],
   by decide +kernel⟩,
   ⟨{ wRun with evt.rcd.intake := [⟨0x607, 0, 5, 6, 7, 0, 0, [1], true, true, 0⟩], evt.rcd.table := [3], evt.rcd.recs := [⟨0, 4, 3, 0x607, 0, 0, 0, 1, true, true, false, none⟩] },
   ⟨0x607, 0, 5, 6, 7, 0, 0, [1], true, true, 0⟩, [], ⟨0, 4, 3, 0x607, 0, 0, 0, 1, true, true, false, none⟩, 0, 0,
   by decide +kernel⟩,
   ⟨{ wRun with evt.rcd.recs := [⟨0, 3, 0, 0x609, 0, 0, 0, 0, false, true, false, none⟩] }, ⟨0, 3, 0, 0x609, 0, 0, 0, 0, false,
   true, false, none⟩,
   by decide +kernel⟩,
   ⟨wRun,
   by decide +kernel⟩,
   ⟨wRun, 0,
   by decide +kernel⟩,
   ⟨wRun,
   by decide +kernel⟩⟩

/-- The hypotheses of every clause of `Obligations.MirrorProgramsAndErases` are met. -/
theorem test_meets_MirrorProgramsAndErases :
    (∃ (s : State) (r : Recorder) (fit : List (Nat × List (BitVec 128))), r = s.evt.rcd ∧ r.mBusy = false ∧ inReset s 0xB0202 =
    false ∧ s.nrg.running.any (fun g => g.order == 1 && g.who == 0) = true ∧ r.mProg = none ∧ fit = fitRecs (pageRoom r.mGran)
    (mirrorWaiting s) ∧ fit ≠ [] ∧ (r.mGran ≠ 0 ∨ r.mErased = true) ∧ r.mGran < 256) ∧
    (∃ (s : State), s.evt.rcd.mBusy = false ∧ inReset s 0xB0202 = false ∧ s.nrg.running.any (fun g => g.order == 1 && g.who ==
    0) = true ∧ s.evt.rcd.mProg.isSome = true) ∧
    (∃ (s : State), s.evt.rcd.mErased = false ∧ s.evt.rcd.mErasing = none ∧ inReset s 0xB0202 = false ∧ s.nrg.running.any (fun g
    => g.order == 2 && g.who == 0) = true) ∧
    (∃ (s : State) (g : Nat) (recs : List (Nat × List (BitVec 128))) (marks : Bool), s.evt.rcd.mProg = some (g, recs, marks) ∧
    nvTurn s 3 = true ∧ eventsTaken s = true) ∧
    (∃ (s : State) (g : Nat) (recs : List (Nat × List (BitVec 128))), s.evt.rcd.mProg = some (g, recs, false) ∧ nvTurn s 3 =
    true) ∧
    (∃ (s : State) (g : Nat) (recs : List (Nat × List (BitVec 128))), s.evt.rcd.mProg = some (g, recs, true) ∧ nvTurn s 3 =
    true) ∧
    (∃ (s : State) (i : Nat), s.evt.rcd.mErasing = some i ∧ nvTurn s 4 = true) ∧
    (∃ (s : State) (o : NvOp) (rest : List NvOp), s.mgt.devOps = o :: rest ∧ nvTurn s 5 = true ∧ 4 ≤ o.kind ∧ o.kind ≤ 9 ∧
    o.kind ≠ 8) ∧
    (∃ (s : State) (o : NvOp) (rest : List NvOp), s.mgt.devOps = o :: rest ∧ nvTurn s 5 = true ∧ eventsTaken s = true) ∧
    (∃ (s : State) (x : RingRec) (t0 : Nat), x ∈ s.evt.rcd.recs ∧ x.priv = true ∧ x.mirrored = false ∧ x.mirT = some t0 ∧ t0 +
    2000000000 ≤ s.t ∧ x.seq ∉ s.evt.rcd.queue) ∧
    (∃ (s : State), s.evt.rcd.suspended = true ∧ 0x10000 ≤ creditNow s) :=
  ⟨⟨{ wRun with evt.rcd := { wRcd with hold := [(0, [1#128])] }, nrg.running := [⟨1, 0, 0, false⟩] },
   { wRcd with hold := [(0, [1#128])] }, [(0, [1#128])],
   by decide +kernel⟩,
   ⟨{ wRun with evt.rcd := { wRcd with mProg := some (0, [], false) }, nrg.running := [⟨1, 0, 0, false⟩] },
   by decide +kernel⟩,
   ⟨{ wRun with nrg.running := [⟨2, 0, 0, false⟩] },
   by decide +kernel⟩,
   ⟨{ wRun with evt.rcd := { wRcd with mProg := some (0, [(0, [1#128])], false), mBusy := true } }, 0, [(0, [1#128])], false,
   by decide +kernel⟩,
   ⟨{ wRun with evt.rcd := { wRcd with mProg := some (0, [(0, [1#128])], false), mBusy := true } }, 0, [(0, [1#128])],
   by decide +kernel⟩,
   ⟨{ wRun with evt.rcd := { wRcd with mProg := some (0, [(0, [1#128])], true), mBusy := true } }, 0, [(0, [1#128])],
   by decide +kernel⟩,
   ⟨{ wRun with evt.rcd := { wRcd with mErased := false, mErasing := some 2 } }, 2,
   by decide +kernel⟩,
   ⟨{ wRun with mgt.devOps := [⟨4, 0x1400000, [0], true⟩] }, ⟨4, 0x1400000, [0], true⟩, [],
   by decide +kernel⟩,
   ⟨{ wRun with mgt.devOps := [⟨4, 0x1400000, [0], true⟩] }, ⟨4, 0x1400000, [0], true⟩, [],
   by decide +kernel⟩,
   ⟨{ wRun with t := 2000000000, evt.rcd.recs := [⟨0, 3, 0, 0x609, 0, 0, 0, 0, true, true, false, some 0⟩] }, ⟨0, 3, 0, 0x609,
   0, 0, 0, 0, true, true, false, some 0⟩, 0,
   by decide +kernel⟩,
   ⟨{ wRun with evt.rcd.suspended := true, evt.rcd.credit := 0x10000 },
   by decide +kernel⟩⟩

/-- The hypotheses of every clause of `Obligations.FunctionsAreReset` are met. -/
theorem test_meets_FunctionsAreReset :
    (∃ (s : State) (f : Nat), alive s = true ∧ f < 2 ^ 20) ∧
    (∃ (s : State) (f : Nat) (t0 : Nat), alive s = true ∧ s.rst.armed = some (f, t0) ∧ f < 2 ^ 20 ∧ s.t ≤ t0 + 2000000 ∧
    isFunction f = true ∧ stateRefuses s f = false ∧ (∀ r, r ∈ s.rst.runs → r.host = false) ∧ beingReset s f = false) ∧
    (∃ (s : State), alive s = true ∧ s.rst.armed = none ∧ eventsTaken s = true) ∧
    (∃ (s : State) (f : Nat) (r : RstRun), runOf s f = some r ∧ r.phase = .fired ∧ r.cause ≠ 3) ∧
    (∃ (s : State) (f : Nat) (a : Nat) (n : Nat) (r : RstRun) (d : RegDef) (x : Fld), runOf s f = some r ∧ r.phase = .fired ∧
    r.cause ≠ 3 ∧ fieldFid a x.hi = f ∧ findEvt a = none ∧ a ≠ Reg.MGT_MB_CFG ∧ findReg a = some (d, n) ∧ fieldsApart d.flds ∧ x
    ∈ d.flds ∧ (x.acc = .rw ∨ x.acc = .rwh)) ∧
    (∃ (s : State) (f : Nat) (r : RstRun), runOf s f = some r ∧ r.phase = .fired ∧ r.cause = 3) ∧
    (∃ (s : State) (u : State) (f : Nat) (errs : Nat) (r : RstRun), runOf s f = some r ∧ r.phase = .quiesced ∧ (s.mgt.toc.any
    (fun e => e.typ == 1 && e.target == f) = true → nvTurn s 1 = true) ∧ errs < 2 ∧ reloadSections f s = some u) ∧
    (∃ (s : State) (f : Nat) (errs : Nat) (r : RstRun), runOf s f = some r ∧ r.phase = .quiesced ∧ (s.mgt.toc.any (fun e =>
    e.typ == 1 && e.target == f) = true → nvTurn s 1 = true) ∧ 2 ≤ errs ∧ eventsTaken s = true) ∧
    (∃ (s : State) (f : Nat) (r : RstRun), runOf s f = some r ∧ r.phase = .reloaded ∧ eventsTaken s = true) ∧
    (∃ (s : State) (f : Nat) (c : Nat), isFunction f = true ∧ domainRuns s (f / 0x10000) = true ∧ inReset s f = false ∧
    beingReset s f = false ∧ rbit s Reg.MGT_RST_CFG 31 = true ∧ watchdogCode f = some c ∧ f ≠ 0xB0003 ∧ f ≠ 0xB0203 ∧
    eventsTaken s = true ∧ (s.tbs.standstill = false ∨ lineTied f = false)) ∧
    (∃ (s : State) (f : Nat), s.tbs.standstill = true ∧ lineTied f = true) ∧
    (∃ (s : State), alive s = true ∧ inReset s 0xB0203 = false ∧ nothingHolds s) ∧
    (∃ (s : State), alive s = true ∧ eventsTaken s = true ∧ inReset s 0x60C00 = false ∧ beingReset s 0x60C00 = false) ∧
    (∃ (s : State), alive s = true ∧ eventsTaken s = true) ∧
    (∃ (s : State), alive s = true) :=
  ⟨⟨wRun, 0,
   by decide +kernel⟩,
   ⟨{ wRun with rst.armed := some (0x80300, 0) }, 0x80300, 0,
   by decide +kernel⟩,
   ⟨wRun,
   by decide +kernel⟩,
   ⟨wReset .fired 2, 0x80300, ⟨0x80300, 2, .fired, 0, 0, false⟩,
   by decide +kernel⟩,
   ⟨wReset .fired 2, 0x80300, 0x800018, 0, ⟨0x80300, 2, .fired, 0, 0, false⟩, ⟨"PEN_SEL", 0x800018, [], [0x0], [⟨3, 0, .rw, 0,
   15⟩]⟩, ⟨3, 0, .rw, 0, 15⟩,
   by unfold fieldsApart; decide +kernel⟩,
   ⟨wReset .fired 3, 0x80300, ⟨0x80300, 3, .fired, 0, 0, false⟩,
   by decide +kernel⟩,
   ⟨wReset .quiesced 2, clearTables 0x80300 (clearOwned 0x80300 (wReset .quiesced 2)), 0x80300, 0, ⟨0x80300, 2, .quiesced, 0, 0,
   false⟩,
   by decide +kernel⟩,
   ⟨wReset .quiesced 2, 0x80300, 2, ⟨0x80300, 2, .quiesced, 0, 0, false⟩,
   by decide +kernel⟩,
   ⟨wReset .reloaded 2, 0x80300, ⟨0x80300, 2, .reloaded, 0, 0, false⟩,
   by decide +kernel⟩,
   ⟨wReg Reg.MGT_RST_CFG 0x80000000 wRun, 0x60C02, 0x611,
   by decide +kernel⟩,
   ⟨{ wRun with tbs.standstill := true }, 0x30001,
   by decide +kernel⟩,
   ⟨wRun,
   by unfold nothingHolds; decide +kernel⟩,
   ⟨wRun,
   by decide +kernel⟩,
   ⟨wRun,
   by decide +kernel⟩,
   ⟨wRun,
   by decide +kernel⟩⟩

/-- The hypotheses of every clause of `Obligations.RegistersAreReadWrittenAndCleared` are met. -/
theorem test_meets_RegistersAreReadWrittenAndCleared :
    (∃ (a : Nat) (b : Nat) (g : List Nat), groupOfLead a = some g ∧ b ∈ g.tail ∧ a ≠ Reg.MGT_REC_WIN ∧ isLatched a = false) ∧
    (∃ (a : Nat) (f : Fld), f ∈ rcFields a ∧ fieldsApart (rcFields a) ∧ isLatched a = false ∧ a ≠ Reg.MGT_REC_WIN ∧ a ≠
    Reg.LNK_BUF ∧ a ≠ Reg.MGT_REC_STATUS ∧ a ≠ Reg.PEN_FIFO_OUT ∧ groupOfLead a = none) ∧
    (∃ (s : State) (a : Nat) (v : Nat) (n : Nat) (d : RegDef), findEvt a = none ∧ findReg a = some (d, n) ∧ d.flds ≠ [] ∧ (∀ f,
    f ∈ d.flds → f.acc = .rw ∧ fldRefused v f = false) ∧ fieldsApart d.flds ∧ crossRefused s a v = false ∧ (a = Reg.MGT_MB_CFG →
    groupBad v = false) ∧ mixedFields a = none ∧ a ≠ Reg.PEN_PMEM_DATA ∧ a ≠ Reg.NRG_ENV ∧ a ≠ Reg.PEN_SIG ∧ (a <
    Reg.LNK_DT_TEST ∨ Reg.LNK_DT_TEST + 0x300 ≤ a ∨ (a - Reg.LNK_DT_TEST) % 0x20 ≠ 0)) ∧
    (∃ (s : State) (a : Nat), findEvt a = none ∧ findReg a = none ∧ eventsTaken s = true) ∧
    (∃ (v : Nat), bit v 0 = true) ∧
    (∃ (v : Nat), bit v 0 = true) :=
  ⟨⟨Reg.NRG_E_TOTAL_LO, Reg.NRG_E_TOTAL_HI, regRun Reg.NRG_E_TOTAL_LO 2,
   by decide +kernel⟩,
   ⟨Reg.PIP_OUT_LAT, ⟨15, 0, .rc, 0, 65535⟩,
   by unfold fieldsApart; decide +kernel⟩,
   ⟨wRun, 0x900030, 5, 0, ⟨"NRG_LEDGER_SEL", 0x900030, [], [0x0], [⟨9, 0, .rw, 0, 1023⟩]⟩,
   by unfold fieldsApart; decide +kernel⟩,
   ⟨wRun, 1,
   by decide +kernel⟩,
   ⟨1,
   by decide +kernel⟩,
   ⟨1,
   by decide +kernel⟩⟩

end Sys2Proof.Tests
end

section
/-! PROOFS. The register file under reads, writes and clears (R17, R529-R533): fields as bits, the word that a register takes, the latches
and clears of a read, the counters of an ignored write, and the clear commands. -/

namespace Sys2Proof.Proofs

open Sys2Proof Sys2Proof.Machine

/-! ### Fields as bits -/

theorem testBit_bits (v hi lo i : Nat) : (bits v hi lo).testBit i = (decide (i < hi - lo + 1) && v.testBit (lo + i)) := by
  rw [bits, Nat.testBit_mod_two_pow, Nat.testBit_div_two_pow, Nat.add_comm i lo]

/-- The number under `setBits` cut into the part above the field, the field and the part below. -/
theorem setBits_eq (v hi lo x : Nat) : setBits v hi lo x =
    2 ^ lo * (2 ^ (hi - lo + 1) * (v / 2 ^ lo / 2 ^ (hi - lo + 1)) + x % 2 ^ (hi - lo + 1)) + v % 2 ^ lo := by
  have below : 2 ^ lo * (v / 2 ^ lo) + v % 2 ^ lo = v := Nat.div_add_mod v (2 ^ lo)
  have field : 2 ^ lo * (v / 2 ^ lo) =
      2 ^ lo * (2 ^ (hi - lo + 1) * (v / 2 ^ lo / 2 ^ (hi - lo + 1))) + bits v hi lo * 2 ^ lo := by
    rw [Nat.mul_comm (bits v hi lo), ← Nat.mul_add, bits, Nat.div_add_mod]
  rw [setBits, Nat.mul_add, Nat.mul_comm (x % 2 ^ (hi - lo + 1))]
  omega

theorem testBit_setBits (v hi lo x i : Nat) : (setBits v hi lo x).testBit i =
    if lo ≤ i ∧ i < lo + (hi - lo + 1) then x.testBit (i - lo) else v.testBit i := by
  have hlow : v % 2 ^ lo < 2 ^ lo := Nat.mod_lt _ (by positivity)
  have hx : x % 2 ^ (hi - lo + 1) < 2 ^ (hi - lo + 1) := Nat.mod_lt _ (by positivity)
  rw [setBits_eq, Nat.testBit_two_pow_mul_add _ hlow, Nat.testBit_two_pow_mul_add _ hx]
  by_cases hb : i < lo
  · rw [if_pos hb, if_neg (by omega), Nat.testBit_mod_two_pow, decide_eq_true hb, Bool.true_and]
  · rw [if_neg hb]
    by_cases hf : i - lo < hi - lo + 1
    · rw [if_pos hf, if_pos (by omega), Nat.testBit_mod_two_pow, decide_eq_true hf, Bool.true_and]
    · rw [if_neg hf, if_neg (by omega), Nat.testBit_div_two_pow, Nat.testBit_div_two_pow]
      congr 1
      omega

/-- A field of the low 32 bits does not see the rest. -/
theorem bits_mod_word (v : Nat) {hi lo : Nat} (h : lo ≤ hi) (hw : hi < 32) : bits (v % 2 ^ 32) hi lo = bits v hi lo := by
  refine Nat.eq_of_testBit_eq (fun i => ?_)
  rw [testBit_bits, testBit_bits, Nat.testBit_mod_two_pow]
  by_cases hi' : i < hi - lo + 1
  · have : lo + i < 32 := by omega
    simp [this]
  · simp [hi']

theorem bits_setBits_same (v hi lo x : Nat) : bits (setBits v hi lo x) hi lo = x % 2 ^ (hi - lo + 1) := by
  refine Nat.eq_of_testBit_eq (fun i => ?_)
  rw [testBit_bits, testBit_setBits, Nat.testBit_mod_two_pow]
  by_cases hi' : i < hi - lo + 1
  · rw [if_pos (by omega), Nat.add_sub_cancel_left]
  · simp [hi']

theorem bits_setBits_apart (v x : Nat) {hi lo hi' lo' : Nat} (h : lo ≤ hi) (h' : lo' ≤ hi') (ha : hi < lo' ∨ hi' < lo) :
    bits (setBits v hi lo x) hi' lo' = bits v hi' lo' := by
  refine Nat.eq_of_testBit_eq (fun i => ?_)
  rw [testBit_bits, testBit_bits, testBit_setBits]
  by_cases hi'' : i < hi' - lo' + 1
  · rw [if_neg (by omega)]
  · simp [hi'']

theorem rfld_rfset_same (s : State) (a x : Nat) {hi lo : Nat} (h : lo ≤ hi) (hw : hi < 32) :
    rfld (rfset s a hi lo x) a hi lo = x % 2 ^ (hi - lo + 1) := by
  rw [rfld, rfset, rnat_rset_same, bits_mod_word _ h hw, bits_setBits_same]

theorem rfld_rfset_apart (s : State) (a x : Nat) {hi lo hi' lo' : Nat} (h : lo ≤ hi) (h' : lo' ≤ hi') (hw : hi' < 32)
    (ha : hi < lo' ∨ hi' < lo) : rfld (rfset s a hi lo x) a hi' lo' = rfld s a hi' lo' := by
  rw [rfld, rfset, rnat_rset_same, bits_mod_word _ h' hw, bits_setBits_apart _ _ h h' ha, rfld]

theorem rget_congr {s t : State} (h : t.regs = s.regs) (a : Nat) : rget t a = rget s a := by rw [rget, rget, h]

theorem rfld_congr {s t : State} (h : t.regs = s.regs) (a hi lo : Nat) : rfld t a hi lo = rfld s a hi lo := by
  rw [rfld, rfld, rnat, rnat, rget_congr h]

/-! ### A register takes a word, field by field -/

/-- Each field in `l` of the register at `a` takes its part of the word `w`. -/
def putWord (a w : Nat) (l : List Fld) (s : State) : State := l.foldl (fun s f => rfset s a f.hi f.lo (bits w f.hi f.lo)) s

theorem rget_putWord_other (a w : Nat) (l : List Fld) (s : State) {b : Nat} (h : b ≠ a) : rget (putWord a w l s) b = rget s b := by
  induction l generalizing s with
  | nil => rfl
  | cons f l ih => exact (ih _).trans (rget_rfset_other s _ _ _ h)

/-- A field apart from those that are written keeps its value. -/
theorem rfld_putWord_apart (a w : Nat) {l : List Fld} (s : State) {f : Fld} (hf : f.lo ≤ f.hi ∧ f.hi < 32)
    (hl : ∀ g ∈ l, g.lo ≤ g.hi ∧ g.hi < 32) (ha : ∀ g ∈ l, g.hi < f.lo ∨ f.hi < g.lo) :
    rfld (putWord a w l s) a f.hi f.lo = rfld s a f.hi f.lo := by
  induction l generalizing s with
  | nil => rfl
  | cons g l ih =>
    have hg := hl g (by simp)
    refine (ih (s := rfset s a g.hi g.lo (bits w g.hi g.lo)) (fun k hk => hl k (by simp [hk])) (fun k hk => ha k (by simp [hk]))).trans ?_
    exact rfld_rfset_apart s a _ hg.1 hf.1 hf.2 (ha g (by simp))

theorem rfld_putWord (a w : Nat) {l : List Fld} (s : State) (hl : fieldsApart l) {f : Fld} (hf : f ∈ l) :
    rfld (putWord a w l s) a f.hi f.lo = bits w f.hi f.lo := by
  obtain ⟨hin, hpair⟩ := hl
  induction l generalizing s with
  | nil => cases hf
  | cons g l ih =>
    obtain ⟨hg, hrest⟩ := List.pairwise_cons.mp hpair
    have hin' : ∀ k ∈ l, k.lo ≤ k.hi ∧ k.hi < 32 := fun k hk => hin k (by simp [hk])
    rcases List.mem_cons.mp hf with rfl | hf
    · have hfw := hin f (by simp)
      have hap : ∀ k ∈ l, k.hi < f.lo ∨ f.hi < k.lo := fun k hk => (hg k hk).symm
      refine (rfld_putWord_apart a w _ hfw hin' hap).trans ?_
      rw [rfld_rfset_same s a _ hfw.1 hfw.2, bits, Nat.mod_mod]
    · exact ih _ hf hin' hrest

/-! ### Reads (R17, R481, R530) -/

theorem viewReg_lt (s : State) (a : Nat) : viewReg s a < 2 ^ 32 := by
  unfold viewReg
  split
  · exact Nat.mod_lt _ (by decide)
  · exact Nat.mod_lt _ (by decide)

/-- The read of a register that is no FIFO, program word or counter outside the register file: its RC fields take the reset value. -/
theorem readDone_regs {a : Nat} (s : State) (hfifo : a ≠ Reg.PEN_FIFO_OUT) (hpmem : a ≠ Reg.PEN_PMEM_DATA) (hbuf : a ≠ Reg.LNK_BUF)
    (hrec : a ≠ Reg.MGT_REC_STATUS) : (readDone a s).regs = (putWord a (resetOf a).toNat (rcFields a) s).regs := by
  simp only [readDone, if_neg hfifo, if_neg hpmem, if_neg hbuf, if_neg hrec]
  split <;> rfl

theorem readDone_latched (a : Nat) (s : State) : (readDone a s).latched = s.latched := (Laws.within_readDone a s).latched rfl

theorem readLatch_plain {a : Nat} (s : State) (hwin : a ≠ Reg.MGT_REC_WIN) (hl : isLatched a = false) (hg : groupOfLead a = none) :
    readLatch a s = (viewReg s a, s) := by
  simp [readLatch, hwin, hl, hg]

/-- The latches after the registers of `l` have been latched. -/
def latchAll (s : State) (l : List Nat) : Map Word := l.foldl (fun m b => mput m b (BitVec.ofNat 32 (viewReg s b))) s.latched

theorem readLatch_lead {a : Nat} (s : State) {g : List Nat} (hwin : a ≠ Reg.MGT_REC_WIN) (hl : isLatched a = false)
    (hg : groupOfLead a = some g) : readLatch a s = (viewReg s a, { s with latched := latchAll s g.tail }) := by
  simp [readLatch, hwin, hl, hg, latchAll]

theorem mget_foldl_mput {α : Type} (x : Nat → α) (l : List Nat) (m : Map α) (b : Nat) :
    mget (l.foldl (fun m k => mput m k (x k)) m) b = if b ∈ l then some (x b) else mget m b := by
  induction l generalizing m with
  | nil => simp
  | cons k l ih =>
    rw [List.foldl_cons, ih]
    by_cases hb : b ∈ l
    · simp [hb]
    · by_cases hk : b = k
      · subst hk
        simp [hb, Laws.mget_mput_same]
      · simp [hb, hk, Laws.mget_mput_other]

theorem latchAll_holds (s : State) {l : List Nat} {b : Nat} (h : b ∈ l) :
    (mget (latchAll s l) b).map BitVec.toNat = some (viewReg s b) := by
  rw [latchAll, mget_foldl_mput (fun k => BitVec.ofNat 32 (viewReg s k)), if_pos h, Option.map_some, BitVec.toNat_ofNat,
    Nat.mod_eq_of_lt (viewReg_lt s b)]

theorem exec_leadRegisterRead (a : Nat) (s : State) : exec (.leadRegisterRead a) s = .next (leadRead a s) := rfl

theorem exec_rcRegisterRead (a : Nat) (s : State) : exec (.rcRegisterRead a) s = .next (rcRead a s) := rfl

theorem leadRead_eq {a : Nat} (s : State) {g : List Nat} (hwin : a ≠ Reg.MGT_REC_WIN) (hl : isLatched a = false)
    (hg : groupOfLead a = some g) : leadRead a s =
      mbShow true (leBytes 4 (viewReg s a)) (readDone a { s with latched := latchAll s g.tail }) := by
  simp [leadRead, readReg, hg, readLatch_lead s hwin hl hg]

theorem rcRead_eq {a : Nat} (s : State) (hrc : rcFields a ≠ []) (hwin : a ≠ Reg.MGT_REC_WIN) (hl : isLatched a = false)
    (hg : groupOfLead a = none) : rcRead a s = mbShow true (leBytes 4 (viewReg s a)) (readDone a s) := by
  simp [rcRead, readReg, hrc, readLatch_plain s hwin hl hg]

theorem leadRead_shows_and_latches (s : State) (a b : Nat) (g : List Nat) (hg : groupOfLead a = some g) (hb : b ∈ g.tail)
    (hwin : a ≠ Reg.MGT_REC_WIN) (hl : isLatched a = false) :
    completes (.leadRegisterRead a) s (fun t => t.mb.resp = leBytes 4 (viewReg s a) ∧
      (mget t.latched b).map BitVec.toNat = some (viewReg s b)) := by
  refine ⟨_, exec_leadRegisterRead a s, ?_⟩
  rw [leadRead_eq s hwin hl hg]
  refine ⟨rfl, ?_⟩
  show (mget (readDone a _).latched b).map _ = _
  rw [readDone_latched]
  exact latchAll_holds s hb

/-- The program memory's data register has no RC field, so that no read of RC fields moves the program memory's address. -/
theorem rcFields_PEN_PMEM_DATA : rcFields Reg.PEN_PMEM_DATA = [] := by decide +kernel

theorem rcRead_shows_and_resets (s : State) (a : Nat) (f : Fld) (hf : f ∈ rcFields a) (hap : fieldsApart (rcFields a))
    (hl : isLatched a = false) (hwin : a ≠ Reg.MGT_REC_WIN) (hbuf : a ≠ Reg.LNK_BUF) (hrec : a ≠ Reg.MGT_REC_STATUS)
    (hfifo : a ≠ Reg.PEN_FIFO_OUT) (hg : groupOfLead a = none) :
    completes (.rcRegisterRead a) s (fun t => t.mb.resp = leBytes 4 (viewReg s a) ∧
      rfld t a f.hi f.lo = bits (resetOf a).toNat f.hi f.lo ∧ ∀ b, b ≠ a → rget t b = rget s b) := by
  have hpmem : a ≠ Reg.PEN_PMEM_DATA := by
    rintro rfl
    simp [rcFields_PEN_PMEM_DATA] at hf
  have hregs := readDone_regs s hfifo hpmem hbuf hrec
  refine ⟨_, exec_rcRegisterRead a s, ?_⟩
  rw [rcRead_eq s (List.ne_nil_of_mem hf) hwin hl hg]
  refine ⟨rfl, ?_, fun b hb => ?_⟩
  · exact (rfld_congr hregs a _ _).trans (rfld_putWord a _ s hap hf)
  · exact (rget_congr hregs b).trans (rget_putWord_other a _ _ s hb)

/-- A read of LNK_BUF clears the maximum fill, which the link keeps. -/
theorem rcRead_LNK_BUF (s : State) : completes (.rcRegisterRead Reg.LNK_BUF) s (fun t =>
    t.mb.resp = leBytes 4 (viewReg s Reg.LNK_BUF) ∧ t.lnk = { s.lnk with maxFill := 0 }) := by
  refine ⟨_, exec_rcRegisterRead _ s, ?_⟩
  rw [rcRead_eq s (by decide +kernel) (by decide) (by decide +kernel) (by decide +kernel)]
  exact ⟨rfl, rfl⟩

/-- A read of MGT_REC_STATUS clears the count of corrected errors, which the recorder keeps. -/
theorem rcRead_MGT_REC_STATUS (s : State) : completes (.rcRegisterRead Reg.MGT_REC_STATUS) s (fun t =>
    t.mb.resp = leBytes 4 (viewReg s Reg.MGT_REC_STATUS) ∧ t.evt = { s.evt with rcd := { s.evt.rcd with corr := 0 } }) := by
  refine ⟨_, exec_rcRegisterRead _ s, ?_⟩
  rw [rcRead_eq s (by decide +kernel) (by decide) (by decide +kernel) (by decide +kernel)]
  exact ⟨rfl, rfl⟩

/-! ### Writes (R530, R531) -/

/-- Only the envelope and the signal bus do more to the register file than take the written word. -/
theorem afterWrite_regs {a : Nat} (v : Nat) (s : State) (henv : a ≠ Reg.NRG_ENV) (hsig : a ≠ Reg.PEN_SIG) :
    (afterWrite a v s).regs = s.regs := by
  have hprog : (progWritten a s).regs = s.regs := (Laws.within_progWritten a s).regs rfl
  simp only [afterWrite, if_neg henv, if_neg hsig]
  split
  · rfl
  · split
    · split
      · exact ((Laws.within_refreshMotions _).regs rfl).trans hprog
      · exact hprog
    · rfl

/-- No motion-monitor register has read-write fields only: they are writable while their pins are halted (R383). -/
theorem monitor_fields_not_rw : ∀ i < 16, ∀ r ∈ findReg (Reg.PEN_MON + i), ∃ f ∈ r.1.flds, f.acc ≠ .rw := by
  decide +kernel

theorem not_monitor_of_rw {a n : Nat} {d : RegDef} (hd : findReg a = some (d, n)) (hrw : ∀ f ∈ d.flds, f.acc = .rw) :
    ¬ (Reg.PEN_MON ≤ a ∧ a < Reg.PEN_MON + 16) := by
  rintro ⟨hlo, hhi⟩
  obtain ⟨i, rfl⟩ := Nat.exists_eq_add_of_le hlo
  obtain ⟨f, hf, hne⟩ := monitor_fields_not_rw i (by omega) (d, n) hd
  exact hne (hrw f hf)

/-- A write that no check refuses, of a register whose fields are all read-write: each field takes its part of the word. -/
theorem fieldsWrite_rw {fs : List Fld} {a v : Nat} {s : State} (hne : fs ≠ []) (hrw : ∀ f ∈ fs, f.acc = .rw)
    (hok : ∀ f ∈ fs, fldRefused v f = false) (hcross : crossRefused s a v = false) (hgroup : a = Reg.MGT_MB_CFG → groupBad v = false)
    (hmix : mixedFields a = none) (hmon : ¬ (Reg.PEN_MON ≤ a ∧ a < Reg.PEN_MON + 16)) (henv : a ≠ Reg.NRG_ENV) (hsig : a ≠ Reg.PEN_SIG) :
    fieldsWrite fs a v s = afterWrite a v (putWord a v fs (if a = Reg.MGT_REC_CFG then creditSettle s else s)) := by
  have hkept : ∀ f ∈ fs, fldKept a s f = false := fun f hf => by simp [fldKept, hrw f hf]
  have htaken : fs.filter (fun f => !fldKept a s f) = fs := List.filter_eq_self.mpr (fun f hf => by simp [hkept f hf])
  have hnone : fs.filter (fldKept a s) = [] := List.filter_eq_nil_iff.mpr (fun f hf => by simp [hkept f hf])
  have hrefused : fs.any (fldRefused v) = false := List.any_eq_false.mpr (fun f hf => by simp [hok f hf])
  have hgroup' : (a == Reg.MGT_MB_CFG && groupBad v) = false := by
    by_cases h : a = Reg.MGT_MB_CFG
    · simp [hgroup h]
    · simp [h]
  have hmon' : (decide (Reg.PEN_MON ≤ a) && decide (a < Reg.PEN_MON + 16)) = false := by
    simpa using hmon
  have hput : ∀ u : State, fs.foldl (fun s f => if f.acc = .rw ∨ f.acc = .rwh then rfset s a f.hi f.lo (bits v f.hi f.lo) else s) u =
      putWord a v fs u := fun u => List.foldl_ext _ _ u (fun s f hf => if_pos (.inl (hrw f hf)))
  simp only [fieldsWrite, htaken, hnone, hput, hrefused, hcross, hgroup', hmon', hmix]
  simp [hne, henv, hsig]

theorem exec_registerWrite (a v : Nat) (s : State) : exec (.registerWrite a v) s = .next (writeReg a v s) := rfl

/-- A write of a register with stored read-write fields goes to its fields. -/
theorem writeReg_rw {a v n : Nat} {d : RegDef} (s : State) (hevt : findEvt a = none) (hd : findReg a = some (d, n)) (hne : d.flds ≠ [])
    (hrw : ∀ f ∈ d.flds, f.acc = .rw) (hpmem : a ≠ Reg.PEN_PMEM_DATA)
    (htest : a < Reg.LNK_DT_TEST ∨ Reg.LNK_DT_TEST + 0x300 ≤ a ∨ (a - Reg.LNK_DT_TEST) % 0x20 ≠ 0) :
    writeReg a v s = fieldsWrite d.flds a v s := by
  have htest' : ¬ (Reg.LNK_DT_TEST ≤ a ∧ a < Reg.LNK_DT_TEST + 0x300 ∧ (a - Reg.LNK_DT_TEST) % 0x20 = 0) := by omega
  obtain ⟨f, hf⟩ := List.exists_mem_of_ne_nil _ hne
  have hcmd : d.flds.all (fun f => f.acc == .wo) = false :=
    List.all_eq_false.mpr ⟨f, hf, by simp [hrw f hf]⟩
  simp only [writeReg, hevt, hd, if_neg hpmem, if_neg htest', hcmd, Bool.and_false, Bool.false_eq_true, if_false]

theorem registerWrite_gives_each_field_its_part (s : State) (a v n : Nat) (d : RegDef) (hevt : findEvt a = none)
    (hd : findReg a = some (d, n)) (hne : d.flds ≠ []) (hf : ∀ f, f ∈ d.flds → f.acc = .rw ∧ fldRefused v f = false)
    (hap : fieldsApart d.flds) (hcross : crossRefused s a v = false) (hgroup : a = Reg.MGT_MB_CFG → groupBad v = false)
    (hmix : mixedFields a = none) (hpmem : a ≠ Reg.PEN_PMEM_DATA) (henv : a ≠ Reg.NRG_ENV) (hsig : a ≠ Reg.PEN_SIG)
    (htest : a < Reg.LNK_DT_TEST ∨ Reg.LNK_DT_TEST + 0x300 ≤ a ∨ (a - Reg.LNK_DT_TEST) % 0x20 ≠ 0) :
    completes (.registerWrite a v) s (fun t => (∀ f, f ∈ d.flds → rfld t a f.hi f.lo = bits v f.hi f.lo) ∧
      ∀ b, b ≠ a → rget t b = rget s b) := by
  have hrw : ∀ f ∈ d.flds, f.acc = .rw := fun f h => (hf f h).1
  refine ⟨_, exec_registerWrite a v s, ?_⟩
  rw [writeReg_rw s hevt hd hne hrw hpmem htest,
    fieldsWrite_rw hne hrw (fun f h => (hf f h).2) hcross hgroup hmix (not_monitor_of_rw hd hrw) henv hsig]
  have hregs := afterWrite_regs v (putWord a v d.flds (if a = Reg.MGT_REC_CFG then creditSettle s else s)) henv hsig
  have hsettle : (if a = Reg.MGT_REC_CFG then creditSettle s else s).regs = s.regs := by split <;> rfl
  refine ⟨fun f h => ?_, fun b hb => ?_⟩
  · exact (rfld_congr hregs a _ _).trans (rfld_putWord a v _ hap h)
  · exact ((rget_congr hregs b).trans (rget_putWord_other a v _ _ hb)).trans (rget_congr hsettle b)

/-! ### Ignored writes (R500, R502, R529) -/

theorem mgetD_mput {α : Type} (m : Map α) (k j : Nat) (v e : α) : mgetD (mput m k v) j e = if j = k then v else mgetD m j e := by
  by_cases h : j = k
  · subst h
    simp [mgetD, Laws.mget_mput_same]
  · simp [mgetD, h, Laws.mget_mput_other]

/-- A source that changes in all but its pending bit leaves every pending bit as it was. -/
theorem pend_of_src_mput {e u : Evt} {k : Nat} {x : Src} (hu : u.src = mput e.src k x) (hx : x.pend = (srcOf e k).pend) (code : Nat) :
    (srcOf u code).pend = (srcOf e code).pend := by
  rw [srcOf, hu, mgetD_mput]
  split
  · next hk => rw [hx, hk]
  · rfl

theorem dropAtIntake_pend (c t : Nat) (e : Evt) (code : Nat) : (srcOf (dropAtIntake c t e) code).pend = (srcOf e code).pend :=
  pend_of_src_mput (by rfl) (by rfl) code

theorem offerIntake_pend (r : Rec) (e : Evt) (code : Nat) : (srcOf (offerIntake r e) code).pend = (srcOf e code).pend := by
  unfold offerIntake
  dsimp only
  split
  · split
    · exact pend_of_src_mput (by rfl) (by rfl) code
    · split
      · exact pend_of_src_mput (by rfl) (by rfl) code
      · exact dropAtIntake_pend _ _ e code
  · split
    · rfl
    · split
      · split
        · exact dropAtIntake_pend _ r.t e code
        · exact pend_of_src_mput (by rfl) (by rfl) code
      · exact dropAtIntake_pend _ _ e code

theorem squall_pend (cfg : Nat) (r : Rec) (e : Evt) (code : Nat) : (srcOf (squall cfg r e) code).pend = (srcOf e code).pend := by
  unfold squall
  dsimp only
  split
  · exact (offerIntake_pend _ _ code).trans (pend_of_src_mput (by rfl) (by rfl) code)
  · exact pend_of_src_mput (by rfl) (by rfl) code

theorem occurred_pend (s : State) (o : Rec) : (srcOf (occurred s o) o.code).pend = true := by
  simp [occurred, srcOf, mgetD_mput]

theorem evtAfter_pend (s : State) (o : Rec) : (srcOf (evtAfter s o) o.code).pend = true := by
  unfold evtAfter
  dsimp only
  split
  · split
    · exact (offerIntake_pend _ _ _).trans (occurred_pend s o)
    · exact (squall_pend _ _ _ _).trans (occurred_pend s o)
  · exact occurred_pend s o

/-- An event that is raised while the event tree takes occurrences is pending (R502). -/
theorem raise0_eventPending (code fid : Nat) (args : List Nat) {s : State} (h : eventsTaken s = true) :
    eventPending (raise0 code fid args s) code = true := by
  have hin : inReset s 0xB0200 = false := by simpa [eventsTaken] using h
  simp only [eventPending, raise0, raise, hin, Bool.false_eq_true, if_false]
  exact evtAfter_pend s _

theorem writeReg_unassigned {a : Nat} (v : Nat) (s : State) (hevt : findEvt a = none) (hd : findReg a = none) :
    writeReg a v s = ignoredWrite s := by
  simp only [writeReg, hevt, hd]

theorem registerWrite_unassigned_is_ignored (s : State) (a v : Nat) (hevt : findEvt a = none) (hd : findReg a = none)
    (hev : eventsTaken s = true) : completes (.registerWrite a v) s (fun t => countedMore s t (Reg.MGT_MB_COUNT + 12) 15 0 1 ∧
      (∀ b, b ≠ Reg.MGT_MB_COUNT + 12 → rget t b = rget s b) ∧ eventPending t 0xB0D = true) := by
  have hregs : (ignoredWrite s).regs = (rsat s (Reg.MGT_MB_COUNT + 12) 15 0 1).regs := raise0_regs _ _ _ _
  refine ⟨_, exec_registerWrite a v s, ?_⟩
  rw [writeReg_unassigned v s hevt hd]
  refine ⟨?_, fun b hb => ?_, raise0_eventPending _ _ _ hev⟩
  · rw [countedMore, rfld_congr hregs, rsat, rfld_rfset_same s _ _ (by omega) (by omega)]
    exact Nat.mod_eq_of_lt (lt_of_le_of_lt (min_le_right _ _) (by decide))
  · exact (rget_congr hregs b).trans (rget_rfset_other s _ _ _ hb)

/-! ### Clears (R533) -/

theorem mget_foldl_mdel {α : Type} (as : List Nat) (m : Map α) (k : Nat) :
    mget (as.foldl mdel m) k = if k ∈ as then none else mget m k := by
  induction as generalizing m with
  | nil => simp
  | cons a as ih =>
    rw [List.foldl_cons, ih]
    by_cases hk : k = a
    · subst hk
      simp [Laws.mget_mdel_same]
    · simp [hk, Laws.mget_mdel_other]

theorem rget_rclear (s : State) (as : List Nat) (a : Nat) : rget (rclear s as) a = if a ∈ as then resetOf a else rget s a := by
  simp only [rget, mgetD, rclear, mget_foldl_mdel]
  split <;> rfl

theorem mem_regRun {a n b : Nat} : b ∈ regRun a n ↔ ∃ i < n, b = a + 4 * i := by
  simp [regRun, eq_comm]

theorem exec_counterClear (a v : Nat) (s : State) : exec (.counterClear a v) s = .next (clearCounters a v s) := rfl

theorem exec_dlClear (v : Nat) (s : State) : exec (.dlClear v) s = .next (dlClear v s) := rfl

theorem clearCounters_MGT_MB_CLEAR {v : Nat} (s : State) (h : bit v 0 = true) :
    clearCounters Reg.MGT_MB_CLEAR v s = rclear s (regRun Reg.MGT_MB_COUNT 4) := by
  simp [clearCounters, h]

theorem clearCounters_PEN_CLEAR (v : Nat) (s : State) : clearCounters Reg.PEN_CLEAR v s = penClear v s := by
  simp [clearCounters]

theorem counterClear_MGT_MB_CLEAR (s : State) (v : Nat) (h : bit v 0 = true) :
    completes (.counterClear Reg.MGT_MB_CLEAR v) s (fun t =>
      (∀ i, i < 4 → rget t (Reg.MGT_MB_COUNT + 4 * i) = resetOf (Reg.MGT_MB_COUNT + 4 * i)) ∧
      ∀ a, (∀ i, i < 4 → a ≠ Reg.MGT_MB_COUNT + 4 * i) → rget t a = rget s a) := by
  refine ⟨_, exec_counterClear _ v s, ?_⟩
  rw [clearCounters_MGT_MB_CLEAR s h]
  refine ⟨fun i hi => ?_, fun a ha => ?_⟩
  · rw [rget_rclear, if_pos (mem_regRun.mpr ⟨i, hi, rfl⟩)]
  · rw [rget_rclear, if_neg]
    intro hm
    obtain ⟨i, hi, rfl⟩ := mem_regRun.mp hm
    exact ha i hi rfl

/-- The counters that PEN_CLEAR names: those of the engines and of the strobes. -/
def penCounters : List Nat :=
  (List.range 16).map (fun e => Reg.PEN_ENG_COUNT + 0x20 * e) ++ (List.range 4).map (fun i => Reg.PEN_ST_COUNT + 4 * i)

/-- PEN_CLEAR in two parts: bit 0 for the counters, bit 1 for the marks of the engines. -/
theorem penClear_eq (v : Nat) (s : State) : penClear v s =
    let s1 := if bit v 0 then rclear s penCounters else s
    if bit v 1 then penMod (fun p => { p with eng := p.eng.map (fun x => (x.1, { x.2 with changed := false })) }) s1 else s1 := rfl

theorem penClear_regs {v : Nat} (s : State) (h : bit v 0 = true) : (penClear v s).regs = (rclear s penCounters).regs := by
  rw [penClear_eq, if_pos h]
  split
  · exact penMod_regs _ _
  · rfl

theorem mget_map {α β : Type} (f : α → β) (m : Map α) (k : Nat) : mget (m.map (fun x => (x.1, f x.2))) k = (mget m k).map f := by
  induction m with
  | nil => rfl
  | cons p m ih =>
    obtain ⟨a, w⟩ := p
    by_cases h : a = k
    · simp [mget, h]
    · simp [mget, h, ih]

/-- Bit 1 of PEN_CLEAR clears the CHANGED mark of every engine; an engine at its reset state has none. -/
theorem penClear_changed (v : Nat) (s : State) (e : Nat) : (eng (penClear v s) e).changed = ((eng s e).changed && !bit v 1) := by
  have hpen : (penClear v s).pen =
      if bit v 1 then { s.pen with eng := s.pen.eng.map (fun x => (x.1, { x.2 with changed := false })) } else s.pen := by
    have hclear : (if bit v 0 then rclear s penCounters else s).pen = s.pen := by
      split
      · exact rclear_pen _ _
      · rfl
    simp only [penClear_eq]
    split
    · rw [penMod_pen, hclear]
    · exact hclear
  rw [eng, hpen]
  cases bit v 1
  · simp [eng]
  · simp only [if_true, Bool.not_true, Bool.and_false, mgetD, mget_map (fun g : Engine => { g with changed := false })]
    cases mget s.pen.eng e <;> rfl

theorem counterClear_PEN_CLEAR (s : State) (v : Nat) (h : bit v 0 = true) :
    completes (.counterClear Reg.PEN_CLEAR v) s (fun t =>
      (∀ e, e < 16 → rget t (Reg.PEN_ENG_COUNT + 0x20 * e) = resetOf (Reg.PEN_ENG_COUNT + 0x20 * e)) ∧
      (∀ i, i < 4 → rget t (Reg.PEN_ST_COUNT + 4 * i) = resetOf (Reg.PEN_ST_COUNT + 4 * i)) ∧
      ∀ e, (eng t e).changed = ((eng s e).changed && !bit v 1)) := by
  have hcleared : ∀ a ∈ penCounters, rget (penClear v s) a = resetOf a := fun a ha => by
    rw [rget_congr (penClear_regs s h), rget_rclear, if_pos ha]
  refine ⟨_, exec_counterClear _ v s, ?_⟩
  rw [clearCounters_PEN_CLEAR]
  refine ⟨fun e he => hcleared _ ?_, fun i hi => hcleared _ ?_, penClear_changed v s⟩
  · exact List.mem_append_left _ (List.mem_map.mpr ⟨e, List.mem_range.mpr he, rfl⟩)
  · exact List.mem_append_right _ (List.mem_map.mpr ⟨i, List.mem_range.mpr hi, rfl⟩)

/-- The registers that DL_CLEAR with value `v` names. -/
def dlCounters (v : Nat) : List Nat :=
  (List.range 10).flatMap (fun n => if bit v n then [Reg.TBS_DL_COUNT + 4 * n, Reg.TBS_DL_LAST + 4 * n] else [])

theorem dlClear_eq (v : Nat) (s : State) : dlClear v s = rclear s (dlCounters v) := rfl

theorem mem_dlCounters {v a : Nat} : a ∈ dlCounters v ↔
    ∃ n < 10, bit v n = true ∧ (a = Reg.TBS_DL_COUNT + 4 * n ∨ a = Reg.TBS_DL_LAST + 4 * n) := by
  simp only [dlCounters, List.mem_flatMap, List.mem_range]
  refine exists_congr (fun n => and_congr_right (fun _ => ?_))
  cases bit v n <;> simp

theorem dlClear_clears_named (s : State) (v : Nat) : completes (.dlClear v) s (fun t =>
    (∀ n, n < 10 → bit v n = true → rget t (Reg.TBS_DL_COUNT + 4 * n) = resetOf (Reg.TBS_DL_COUNT + 4 * n) ∧
      rget t (Reg.TBS_DL_LAST + 4 * n) = resetOf (Reg.TBS_DL_LAST + 4 * n)) ∧
    ∀ a, (∀ n, n < 10 → bit v n = true → a ≠ Reg.TBS_DL_COUNT + 4 * n ∧ a ≠ Reg.TBS_DL_LAST + 4 * n) → rget t a = rget s a) := by
  have hread : ∀ a, rget (dlClear v s) a = if a ∈ dlCounters v then resetOf a else rget s a := fun a => by
    rw [dlClear_eq, rget_rclear]
  refine ⟨_, exec_dlClear v s, fun n hn hv => ⟨?_, ?_⟩, fun a ha => ?_⟩
  · rw [hread, if_pos (mem_dlCounters.mpr ⟨n, hn, hv, .inl rfl⟩)]
  · rw [hread, if_pos (mem_dlCounters.mpr ⟨n, hn, hv, .inr rfl⟩)]
  · rw [hread, if_neg]
    intro hm
    obtain ⟨n, hn, hv, h⟩ := mem_dlCounters.mp hm
    exact h.elim (ha n hn hv).1 (ha n hn hv).2

/-- Settles O60: the clauses, each proved above, in their order. -/
theorem registersAreReadWrittenAndCleared : Obligations.RegistersAreReadWrittenAndCleared :=
  ⟨leadRead_shows_and_latches, rcRead_shows_and_resets, rcRead_LNK_BUF, rcRead_MGT_REC_STATUS,
    registerWrite_gives_each_field_its_part, registerWrite_unassigned_is_ignored, counterClear_MGT_MB_CLEAR,
    counterClear_PEN_CLEAR, dlClear_clears_named⟩

end Sys2Proof.Proofs
end

section
/-! PROOFS. Steps, boundaries and edges of the position timebase (R41-R45, R49, R51, R53, R71), and the idle cycle (R40, R63). -/

namespace Sys2Proof.Proofs

open Sys2Proof Sys2Proof.Machine

/-! ### What reads of the state depend on -/

theorem lineSteps_congr {s t : State} (h : t.regs = s.regs) : lineSteps t = lineSteps s := rfld_congr h _ _ _

theorem captureMode_congr {s t : State} (h : t.regs = s.regs) : captureMode t = captureMode s := rfld_congr h _ _ _

/-- Lines are held back only while a policy is in force (R66). -/
theorem holdsLines_of_not_failed {s : State} (h : s.tbs.failed = none) : holdsLines s = false := by
  simp [holdsLines, h]

/-- FREERUN starts its lines whatever the source (R54). -/
theorem holdsLines_of_freerun {s : State} (h : captureMode s = 2) : holdsLines s = false := by
  simp [holdsLines, h]

theorem counting_iff {s : State} : counting s = true ↔
    s.tbs.inService = true ∧ s.tbs.failed = none ∧ up s 0x30000 = true ∧ captureMode s ≠ 2 := by
  simp [counting, and_assoc]

theorem not_failed_of_counting {s : State} (h : counting s = true) : s.tbs.failed = none := (counting_iff.mp h).2.1

/-! ### Boundaries and steps in the timebase (R42, R49) -/

/-- The timebase `b` after a boundary at `t` whose line is not held back (R49). -/
def lineCrossed (t : Nat) (b : Tbs) : Tbs :=
  { b with
    l := (b.l + 1) % 2 ^ 32, lastBoundary := some t, due := b.due ++ [⟨(b.l + 1) % 2 ^ 32, b.p, t, none, false⟩]
    standstill := false }

/-- The timebase `b` after P has advanced to `p` at `t`, Q not. -/
def movedTo (p t : Nat) (b : Tbs) : Tbs := { b with p := p, steps := addStamp t p b.steps }

/-- The timebase `b` after one step at `t`, with `ls` steps to a line, where no line is held back (R42, R49). -/
def stepped (ls t : Nat) (b : Tbs) : Tbs :=
  if b.q + 1 < ls then { movedTo ((b.p + 1) % 2 ^ 40) t b with q := b.q + 1 }
  else lineCrossed t { movedTo ((b.p + 1) % 2 ^ 40) t b with q := 0 }

theorem boundary_tbs {s : State} (h : holdsLines s = false) : (boundary s).tbs = lineCrossed s.t s.tbs := by
  have hswitch : ∀ u : State, (if works u then dsnuSwitch u else u).tbs = u.tbs := fun u => by
    split
    · exact (Laws.within_dsnuSwitch u).tbs rfl
    · rfl
  simp only [boundary, h, Bool.false_eq_true, if_false]
  split
  · rw [grpMod_tbs, (Laws.within_xwSendMask ..).tbs rfl, raiseIf_tbs, hswitch]
    rfl
  · rw [raiseIf_tbs, hswitch]
    rfl

theorem oneStep_tbs {s : State} (h : holdsLines s = false) : (oneStep s).tbs = stepped (lineSteps s) s.t s.tbs := by
  unfold oneStep stepped
  by_cases hq : s.tbs.q + 1 < lineSteps s
  · simp only [if_pos hq]
    rfl
  · simp only [if_neg hq]
    exact boundary_tbs h

theorem jumpLine_tbs {s : State} (h : holdsLines s = false) :
    (jumpLine s).tbs = lineCrossed s.t (movedTo ((s.tbs.p + lineSteps s) % 2 ^ 40) s.t s.tbs) := boundary_tbs h

theorem stepped_failed (ls t : Nat) (b : Tbs) : (stepped ls t b).failed = b.failed := by
  unfold stepped
  split <;> rfl

theorem nSteps_tbs (n : Nat) {s : State} (h : s.tbs.failed = none) :
    (nSteps n s).tbs = (stepped (lineSteps s) s.t)^[n] s.tbs := by
  induction n generalizing s with
  | zero => rfl
  | succ n ih =>
    have hstep := oneStep_tbs (holdsLines_of_not_failed h)
    have hw := Laws.within_oneStep s
    rw [nSteps, ih (by rw [hstep, stepped_failed, h]), hstep, lineSteps_congr (hw.regs rfl), hw.t rfl,
      Function.iterate_succ_apply]

/-- What a step keeps, any number of steps keep. -/
theorem iterate_stepped_keeps {α : Type} {f : Tbs → α} {ls t : Nat} (h : ∀ b, f (stepped ls t b) = f b) (n : Nat) (b : Tbs) :
    f ((stepped ls t)^[n] b) = f b := by
  induction n generalizing b with
  | zero => rfl
  | succ n ih => rw [Function.iterate_succ_apply, ih, h]

theorem stepped_p (ls t : Nat) (b : Tbs) : (stepped ls t b).p = (b.p + 1) % 2 ^ 40 := by
  unfold stepped
  split <;> rfl

theorem stepped_acc (ls t : Nat) (b : Tbs) : (stepped ls t b).acc = b.acc := by
  unfold stepped
  split <;> rfl

theorem stepped_deficit (ls t : Nat) (b : Tbs) : (stepped ls t b).deficit = b.deficit := by
  unfold stepped
  split <;> rfl

theorem stepped_encT (ls t : Nat) (b : Tbs) : (stepped ls t b).encT = b.encT := by
  unfold stepped
  split <;> rfl

theorem stepped_syncT (ls t : Nat) (b : Tbs) : (stepped ls t b).syncT = b.syncT := by
  unfold stepped
  split <;> rfl

theorem stepped_rateAcc (ls t : Nat) (b : Tbs) : (stepped ls t b).rateAcc = b.rateAcc := by
  unfold stepped
  split <;> rfl

theorem iterate_stepped_p (ls t n : Nat) (b : Tbs) : ((stepped ls t)^[n] b).p % 2 ^ 40 = (b.p + n) % 2 ^ 40 := by
  induction n with
  | zero => rfl
  | succ n ih =>
    rw [Function.iterate_succ_apply', stepped_p]
    omega

/-- The lines that become due when `k` boundaries are crossed from `b` on at `t`, with `ls` steps to a line (R49, R51). -/
def dueLines (ls t : Nat) (b : Tbs) (k : Nat) : List DueLine :=
  (List.range k).map (fun i => ⟨(b.l + i + 1) % 2 ^ 32, (b.p + ((i + 1) * ls - b.q)) % 2 ^ 40, t, none, false⟩)

/-- Q, L and the due lines after `n` steps: the boundaries crossed are the quotient, Q is the remainder (R49, R51). -/
theorem iterate_stepped_lines {ls : Nat} (t n : Nat) {b : Tbs} (hq : b.q < ls) :
    ((stepped ls t)^[n] b).q = (b.q + n) % ls ∧
      ((stepped ls t)^[n] b).l % 2 ^ 32 = (b.l + (b.q + n) / ls) % 2 ^ 32 ∧
      ((stepped ls t)^[n] b).due = b.due ++ dueLines ls t b ((b.q + n) / ls) := by
  have hls : 0 < ls := by omega
  induction n with
  | zero => simp [Nat.mod_eq_of_lt hq, Nat.div_eq_of_lt hq, dueLines]
  | succ n ih =>
    obtain ⟨ihq, ihl, ihd⟩ := ih
    have hp := iterate_stepped_p ls t n b
    rw [Function.iterate_succ_apply']
    generalize (stepped ls t)^[n] b = c at *
    have hsum : ls * ((b.q + n) / ls) + (b.q + n) % ls = b.q + n := Nat.div_add_mod _ _
    generalize (b.q + n) / ls = k at *
    by_cases hc : c.q + 1 < ls
    · have hdm := (Nat.div_mod_unique (a := b.q + (n + 1)) (c := c.q + 1) (d := k) hls).mpr ⟨by omega, hc⟩
      rw [stepped, if_pos hc, hdm.1, hdm.2]
      exact ⟨rfl, ihl, ihd⟩
    · have hcq : c.q + 1 = ls := by
        have := Nat.mod_lt (b.q + n) hls
        omega
      have hend : ls * (k + 1) = b.q + (n + 1) := by
        rw [Nat.mul_succ]
        omega
      have hdm := (Nat.div_mod_unique (a := b.q + (n + 1)) (c := 0) (d := k + 1) hls).mpr ⟨by omega, hls⟩
      rw [stepped, if_neg hc, hdm.1, hdm.2]
      refine ⟨rfl, ?_, ?_⟩
      · show (c.l + 1) % 2 ^ 32 % 2 ^ 32 = _
        omega
      · have hl : (c.l + 1) % 2 ^ 32 = (b.l + k + 1) % 2 ^ 32 := by omega
        have hp' : (c.p + 1) % 2 ^ 40 = (b.p + ((k + 1) * ls - b.q)) % 2 ^ 40 := by
          rw [Nat.mul_comm, hend]
          omega
        show c.due ++ [⟨(c.l + 1) % 2 ^ 32, (c.p + 1) % 2 ^ 40, t, none, false⟩] = _
        rw [ihd, hl, hp', dueLines, dueLines, List.range_succ, List.map_append, List.append_assoc]
        rfl

/-- Steps counted in a state that agrees with `s` in what steps read have made their boundaries in `s`. -/
theorem nSteps_stepsMade {s u : State} (n : Nat) (hf : u.tbs.failed = none) (hregs : u.regs = s.regs) (ht : u.t = s.t)
    (hb : u.tbs.q = s.tbs.q ∧ u.tbs.l = s.tbs.l ∧ u.tbs.p = s.tbs.p ∧ u.tbs.due = s.tbs.due) (hq : s.tbs.q < lineSteps s) :
    stepsMade s (nSteps n u) n := by
  obtain ⟨hbq, hbl, hbp, hbd⟩ := hb
  have h := iterate_stepped_lines (ls := lineSteps s) s.t n (b := u.tbs) (by omega)
  unfold dueLines at h
  rw [hbq, hbl, hbp, hbd] at h
  rw [stepsMade, nSteps_tbs n hf, lineSteps_congr hregs, ht]
  exact h

/-! ### Encoder edges (R42-R44) -/

/-- The state in which an encoder edge that is accepted is counted: taken from the queue of edges, its T kept (R44). -/
def edgeTaken (rest : List Bool) (s : State) : State :=
  tbsMod (fun b => { b with encT := some s.t }) (penMod (fun p => { p with posted := rest }) s)

theorem encoderPosted_accepted {s : State} {d : Bool} {rest : List Bool} (hp : s.pen.posted = d :: rest) (hc : counting s = true)
    (hs : source s = 0) (ht : ∀ t0, s.tbs.encT = some t0 → t0 + 8 ≤ s.t) :
    encoderPosted s = if d then forwardEdge (edgeTaken rest s) else reverseEdge (edgeTaken rest s) := by
  have hc' : counting (penMod (fun p => { p with posted := rest }) s) = true := hc
  have hs' : source (penMod (fun p => { p with posted := rest }) s) = 0 := hs
  cases he : s.tbs.encT with
  | none => simp [encoderPosted, hp, encoderEdge, hc', hs', he, edgeTaken]
  | some t0 => simp [encoderPosted, hp, encoderEdge, hc', hs', he, ht t0 he, edgeTaken]

theorem encoderPosted_tooClose {s : State} {d : Bool} {rest : List Bool} {t0 : Nat} (hp : s.pen.posted = d :: rest)
    (he : s.tbs.encT = some t0) (ht : s.t < t0 + 8) : encoderPosted s = penMod (fun p => { p with posted := rest }) s := by
  have hclose : ¬ t0 + 8 ≤ s.t := by omega
  simp [encoderPosted, hp, encoderEdge, he, hclose]

/-- The steps that a forward edge without a deficit gives, and what they start from (R42). -/
theorem forwardEdge_counts {s : State} (h : s.tbs.deficit = 0) : forwardEdge s =
    nSteps ((s.tbs.acc + rfld s Reg.TBS_SCALE 31 16) / rfld s Reg.TBS_SCALE 15 0)
      (tbsMod (fun b => { b with acc := (s.tbs.acc + rfld s Reg.TBS_SCALE 31 16) % rfld s Reg.TBS_SCALE 15 0 }) s) := by
  simp [forwardEdge, h]

theorem forwardEdge_pays {s : State} (h : s.tbs.deficit ≠ 0) : forwardEdge s =
    tbsMod (fun b => { b with deficit := b.deficit - 1, revRun := if b.deficit = 1 then false else b.revRun }) s := by
  simp [forwardEdge, h]

theorem forwardEdge_pen (s : State) : (forwardEdge s).pen = s.pen := (Laws.within_forwardEdge s).pen rfl

section
variable {s : State} {rest : List Bool} (hc : counting s = true) (hs : source s = 0)
  (ht : ∀ t0, s.tbs.encT = some t0 → t0 + 8 ≤ s.t)
include hc hs ht

theorem encoderEdge_forward_pays_deficit (hp : s.pen.posted = true :: rest) (hd : s.tbs.deficit ≠ 0) :
    completes .encoderEdge s (fun t => t.tbs.deficit = s.tbs.deficit - 1 ∧ t.tbs.p = s.tbs.p ∧ t.tbs.acc = s.tbs.acc ∧
      t.tbs.encT = some s.t ∧ t.pen.posted = rest) := by
  refine ⟨encoderPosted s, rfl, ?_⟩
  rw [encoderPosted_accepted hp hc hs ht, if_pos rfl, forwardEdge_pays (s := edgeTaken rest s) hd]
  exact ⟨rfl, rfl, rfl, rfl, rfl⟩

theorem encoderEdge_forward_counts (hp : s.pen.posted = true :: rest) (hd : s.tbs.deficit = 0) :
    completes .encoderEdge s (fun t =>
      t.tbs.p % 2 ^ 40 = (s.tbs.p + (s.tbs.acc + rfld s Reg.TBS_SCALE 31 16) / rfld s Reg.TBS_SCALE 15 0) % 2 ^ 40 ∧
      t.tbs.acc = (s.tbs.acc + rfld s Reg.TBS_SCALE 31 16) % rfld s Reg.TBS_SCALE 15 0 ∧
      t.tbs.deficit = 0 ∧ t.tbs.encT = some s.t ∧ t.pen.posted = rest) := by
  have hedge : encoderPosted s = forwardEdge (edgeTaken rest s) := encoderPosted_accepted hp hc hs ht
  have htbs : (encoderPosted s).tbs = (stepped (lineSteps s) s.t)^[(s.tbs.acc + rfld s Reg.TBS_SCALE 31 16) / rfld s Reg.TBS_SCALE 15 0]
      { s.tbs with encT := some s.t, acc := (s.tbs.acc + rfld s Reg.TBS_SCALE 31 16) % rfld s Reg.TBS_SCALE 15 0 } := by
    rw [hedge, forwardEdge_counts (s := edgeTaken rest s) hd]
    exact nSteps_tbs _ (not_failed_of_counting hc)
  have hpen : (encoderPosted s).pen = { s.pen with posted := rest } := by
    rw [hedge]
    exact forwardEdge_pen _
  refine ⟨encoderPosted s, rfl, ?_⟩
  beta_reduce
  rw [htbs, hpen]
  exact ⟨iterate_stepped_p _ _ _ _, iterate_stepped_keeps (stepped_acc _ _) _ _,
    (iterate_stepped_keeps (stepped_deficit _ _) _ _).trans hd, iterate_stepped_keeps (stepped_encT _ _) _ _, rfl⟩

theorem encoderEdge_forward_makes_steps (hp : s.pen.posted = true :: rest) (hd : s.tbs.deficit = 0)
    (hq : s.tbs.q < lineSteps s) :
    completes .encoderEdge s (fun t =>
      stepsMade s t ((s.tbs.acc + rfld s Reg.TBS_SCALE 31 16) / rfld s Reg.TBS_SCALE 15 0)) := by
  refine ⟨encoderPosted s, rfl, ?_⟩
  rw [encoderPosted_accepted hp hc hs ht, if_pos rfl, forwardEdge_counts (s := edgeTaken rest s) hd]
  exact nSteps_stepsMade _ (not_failed_of_counting hc) rfl rfl ⟨rfl, rfl, rfl, rfl⟩ hq

theorem encoderEdge_reverse_adds_deficit (hp : s.pen.posted = false :: rest) :
    completes .encoderEdge s (fun t => t.tbs.deficit = min (s.tbs.deficit + 1) 0xFFFFF ∧ t.tbs.p = s.tbs.p ∧
      t.tbs.l = s.tbs.l ∧ t.tbs.acc = s.tbs.acc ∧ t.tbs.encT = some s.t ∧ t.pen.posted = rest) := by
  have hedge : encoderPosted s = reverseEdge (edgeTaken rest s) := encoderPosted_accepted hp hc hs ht
  refine ⟨encoderPosted s, rfl, ?_⟩
  beta_reduce
  rw [hedge, reverseEdge]
  refine ⟨?_, ?_, ?_, ?_, ?_, ?_⟩ <;> simp only [raiseIf_tbs, raiseIf_pen] <;> rfl

end

theorem encoderEdge_tooClose_is_not_counted (s : State) (d : Bool) (rest : List Bool) (t0 : Nat) (hp : s.pen.posted = d :: rest)
    (he : s.tbs.encT = some t0) (ht : s.t < t0 + 8) :
    completes .encoderEdge s (fun t => t.tbs = s.tbs ∧ t.grp = s.grp ∧ t.evt = s.evt ∧ t.xw = s.xw) := by
  refine ⟨encoderPosted s, rfl, ?_⟩
  rw [encoderPosted_tooClose hp he ht]
  exact ⟨rfl, rfl, rfl, rfl⟩

/-! ### Edges of SYNC_IN (R44, R53, R71) -/

/-- A SYNC_IN edge that is taken, and comes neither within 40 ns of the last one nor from a pulse shorter than IN_FILT. -/
theorem syncInEdge_accepted {s : State} {rising : Bool} {width : Nat} (hc : counting s = true) (hs : source s = 1)
    (he : edgeSelected rising s = true) (ht : ∀ t0, s.tbs.syncT = some t0 → t0 + 8 ≤ s.t)
    (hw : rfld s Reg.TBS_SYNC_CFG 29 20 ≤ width) :
    syncInEdge rising width s =
      if captureMode s = 1 then jumpLine (tbsMod (fun b => { b with syncT := some s.t }) s)
      else oneStep (tbsMod (fun b => { b with syncT := some s.t }) s) := by
  have hwide : ¬ width < rfld s Reg.TBS_SYNC_CFG 29 20 := by omega
  simp only [syncInEdge, hc, hs, he, decide_eq_false hwide]
  cases hy : s.tbs.syncT with
  | none => rfl
  | some t0 =>
    have hapart : ¬ s.t < t0 + 8 := by have := ht t0 hy; omega
    simp only [decide_eq_false hapart]
    rfl

/-- One that comes too soon or is too short (R44, R71). -/
theorem syncInEdge_refused {s : State} {rising : Bool} {width t0 : Nat} (hc : counting s = true) (hs : source s = 1)
    (he : edgeSelected rising s = true)
    (h : s.tbs.syncT = some t0 ∧ s.t < t0 + 8 ∨ width < rfld s Reg.TBS_SYNC_CFG 29 20) :
    syncInEdge rising width s = raise0 0x300 0x30000 [3] s := by
  rcases h with ⟨hy, ht⟩ | hw
  · simp [syncInEdge, hc, hs, he, hy, ht]
  · simp [syncInEdge, hc, hs, he, hw]

theorem syncInEdge_not_selected {s : State} {rising : Bool} (width : Nat) (he : edgeSelected rising s = false) :
    syncInEdge rising width s = s := by
  simp [syncInEdge, he]

section
variable {s : State} {rising : Bool} {width : Nat} (hc : counting s = true) (hs : source s = 1) (he : edgeSelected rising s = true)
include hc hs he

section
variable (ht : ∀ t0, s.tbs.syncT = some t0 → t0 + 8 ≤ s.t) (hw : rfld s Reg.TBS_SYNC_CFG 29 20 ≤ width)
include ht hw

theorem syncInEdge_gives_one_step (hm : captureMode s ≠ 1) :
    completes (.syncInEdge (rising, width)) s (fun t => t.tbs.p = (s.tbs.p + 1) % 2 ^ 40 ∧ t.tbs.syncT = some s.t) := by
  have htbs : (syncInEdge rising width s).tbs = stepped (lineSteps s) s.t { s.tbs with syncT := some s.t } := by
    rw [syncInEdge_accepted hc hs he ht hw, if_neg hm]
    exact oneStep_tbs (holdsLines_of_not_failed (not_failed_of_counting hc))
  refine ⟨syncInEdge rising width s, rfl, ?_⟩
  beta_reduce
  rw [htbs]
  exact ⟨stepped_p _ _ _, stepped_syncT _ _ _⟩

theorem syncInEdge_jumps (hm : captureMode s = 1) : (syncInEdge rising width s).tbs =
    lineCrossed s.t (movedTo ((s.tbs.p + lineSteps s) % 2 ^ 40) s.t { s.tbs with syncT := some s.t }) := by
  rw [syncInEdge_accepted hc hs he ht hw, if_pos hm]
  exact jumpLine_tbs (holdsLines_of_not_failed (not_failed_of_counting hc))

theorem syncInEdge_exttrig_gives_a_line (hm : captureMode s = 1) :
    completes (.syncInEdge (rising, width)) s (fun t => t.tbs.p = (s.tbs.p + lineSteps s) % 2 ^ 40 ∧
      t.tbs.l = (s.tbs.l + 1) % 2 ^ 32 ∧ t.tbs.syncT = some s.t) := by
  refine ⟨syncInEdge rising width s, rfl, ?_⟩
  beta_reduce
  rw [syncInEdge_jumps hc hs he ht hw hm]
  exact ⟨rfl, rfl, rfl⟩

theorem syncInEdge_makes_its_line_due (hq : s.tbs.q < lineSteps s) :
    completes (.syncInEdge (rising, width)) s (fun t => (captureMode s ≠ 1 → stepsMade s t 1) ∧
      (captureMode s = 1 → t.tbs.q = s.tbs.q ∧ t.tbs.due = s.tbs.due ++
        [⟨(s.tbs.l + 1) % 2 ^ 32, (s.tbs.p + lineSteps s) % 2 ^ 40, s.t, none, false⟩])) := by
  refine ⟨syncInEdge rising width s, rfl, fun hm => ?_, fun hm => ?_⟩
  · rw [syncInEdge_accepted hc hs he ht hw, if_neg hm]
    exact nSteps_stepsMade 1 (not_failed_of_counting hc) rfl rfl ⟨rfl, rfl, rfl, rfl⟩ hq
  · rw [syncInEdge_jumps hc hs he ht hw hm]
    exact ⟨rfl, rfl⟩

end

theorem syncInEdge_ignored_raises {t0 : Nat} (hev : eventsTaken s = true)
    (h : s.tbs.syncT = some t0 ∧ s.t < t0 + 8 ∨ width < rfld s Reg.TBS_SYNC_CFG 29 20) :
    completes (.syncInEdge (rising, width)) s (fun t => t.tbs = s.tbs ∧ eventPending t 0x300 = true) := by
  refine ⟨syncInEdge rising width s, rfl, ?_⟩
  beta_reduce
  rw [syncInEdge_refused hc hs he h]
  exact ⟨raise0_tbs _ _ _ s, raise0_eventPending _ _ _ hev⟩

end

theorem syncInEdge_not_selected_does_nothing (s : State) (rising : Bool) (width : Nat) (he : edgeSelected rising s = false) :
    completes (.syncInEdge (rising, width)) s (fun t => t = s) :=
  ⟨syncInEdge rising width s, rfl, syncInEdge_not_selected width he⟩

/-! ### SYN (R45) -/

theorem synRateStep_syn {s : State} (hc : counting s = true) (hs : source s = 3) :
    synRateStep s = rateCycle (rnat s Reg.TBS_SYN_RATE) s := by
  simp [synRateStep, hc, hs]

theorem synRateStep_makes_steps (s : State) (hc : counting s = true) (hs : source s = 3) (hq : s.tbs.q < lineSteps s) :
    completes .synRateStep s (fun t => stepsMade s t ((s.tbs.rateAcc + rnat s Reg.TBS_SYN_RATE) / (200 * 2 ^ 22))) := by
  refine ⟨synRateStep s, rfl, ?_⟩
  rw [synRateStep_syn hc hs]
  exact nSteps_stepsMade _ (not_failed_of_counting hc) rfl rfl ⟨rfl, rfl, rfl, rfl⟩ hq

theorem synRateStep_gives_whole_steps (s : State) (hc : counting s = true) (hs : source s = 3) :
    completes .synRateStep s (fun t =>
      t.tbs.p % 2 ^ 40 = (s.tbs.p + (s.tbs.rateAcc + rnat s Reg.TBS_SYN_RATE) / (200 * 2 ^ 22)) % 2 ^ 40 ∧
      t.tbs.rateAcc = (s.tbs.rateAcc + rnat s Reg.TBS_SYN_RATE) % (200 * 2 ^ 22)) := by
  have htbs : (synRateStep s).tbs = (stepped (lineSteps s) s.t)^[(s.tbs.rateAcc + rnat s Reg.TBS_SYN_RATE) / (200 * 2 ^ 22)]
      { s.tbs with rateAcc := (s.tbs.rateAcc + rnat s Reg.TBS_SYN_RATE) % (200 * 2 ^ 22) } := by
    rw [synRateStep_syn hc hs]
    exact nSteps_tbs _ (not_failed_of_counting hc)
  refine ⟨synRateStep s, rfl, ?_⟩
  beta_reduce
  rw [htbs]
  exact ⟨iterate_stepped_p _ _ _ _, iterate_stepped_keeps (stepped_rateAcc _ _) _ _⟩

/-- Settles O7: the clauses, each proved above, in their order. -/
theorem sourceInputMovesPosition : Obligations.SourceInputMovesPosition :=
  ⟨fun _ _ hp hc hs ht hd => encoderEdge_forward_pays_deficit hc hs ht hp hd,
    fun _ _ hp hc hs ht hd => encoderEdge_forward_counts hc hs ht hp hd,
    fun _ _ hp hc hs ht => encoderEdge_reverse_adds_deficit hc hs ht hp,
    fun _ _ _ hc hs he ht hw hm => syncInEdge_gives_one_step hc hs he ht hw hm,
    fun _ _ _ hc hs he ht hw hm => syncInEdge_exttrig_gives_a_line hc hs he ht hw hm,
    fun _ _ hp hc hs ht hd hq => encoderEdge_forward_makes_steps hc hs ht hp hd hq,
    fun _ _ _ hc hs he ht hw hq => syncInEdge_makes_its_line_due hc hs he ht hw hq,
    synRateStep_makes_steps, synRateStep_gives_whole_steps, encoderEdge_tooClose_is_not_counted,
    fun _ _ _ _ hc hs he hev h => syncInEdge_ignored_raises hc hs he hev h, syncInEdge_not_selected_does_nothing⟩

/-! ### The idle cycle (R40, R63) -/

/-- A boundary leaves in the group timing no more than the T of the broadcast that the master sends (R61). -/
theorem boundary_grp (s : State) : ∃ x, (boundary s).grp = { s.grp with lastTx := x } := by
  have hswitch : ∀ u : State, (if works u then dsnuSwitch u else u).grp = u.grp := fun u => by
    split
    · exact (Laws.within_dsnuSwitch u).grp rfl
    · rfl
  unfold boundary
  split
  · exact ⟨s.grp.lastTx, rfl⟩
  · dsimp only
    split
    · refine ⟨some s.t, ?_⟩
      rw [grpMod_grp, (Laws.within_xwSendMask ..).grp rfl, raiseIf_grp, hswitch]
      rfl
    · refine ⟨s.grp.lastTx, ?_⟩
      rw [raiseIf_grp, hswitch]
      rfl

theorem nSteps_grp (n : Nat) (s : State) : ∃ x, (nSteps n s).grp = { s.grp with lastTx := x } := by
  induction n generalizing s with
  | zero => exact ⟨s.grp.lastTx, rfl⟩
  | succ n ih =>
    have hstep : ∃ x, (oneStep s).grp = { s.grp with lastTx := x } := by
      unfold oneStep
      dsimp only
      split
      · exact ⟨s.grp.lastTx, rfl⟩
      · exact boundary_grp _
    obtain ⟨x, hx⟩ := hstep
    obtain ⟨y, hy⟩ := ih (oneStep s)
    exact ⟨y, by rw [nSteps, hy, hx]⟩

theorem coastCycle_grp (s : State) : ∃ x, (coastCycle s).grp = { s.grp with lastTx := x } := by
  have hrate : ∀ r, ∃ x, (rateCycle r s).grp = { s.grp with lastTx := x } := fun r => nSteps_grp _ _
  unfold coastCycle
  split <;> split
  · exact hrate _
  · exact ⟨s.grp.lastTx, rfl⟩
  · exact hrate _
  · exact ⟨s.grp.lastTx, rfl⟩

/-- What a cycle of idle time makes of T and of the correction that is being paid off (R63). -/
theorem idleCycle_time (s : State) : (idleCycle s).t = (s.t + (payCycle s.grp.pay s.grp.cyc).1) % 2 ^ 64 ∧
    (idleCycle s).grp.pay = (payCycle s.grp.pay s.grp.cyc).2.1 ∧ (idleCycle s).grp.cyc = (payCycle s.grp.pay s.grp.cyc).2.2 := by
  have hdiv := Laws.within_dividers (coastCycle (timeCycle s))
  have ht : (idleCycle s).t = (timeCycle s).t := (hdiv.t rfl).trans ((Laws.within_coastCycle _).t rfl)
  have hg : (idleCycle s).grp = (coastCycle (timeCycle s)).grp := hdiv.grp rfl
  obtain ⟨x, hx⟩ := coastCycle_grp (timeCycle s)
  rw [ht, hg, hx]
  exact ⟨rfl, rfl, rfl⟩

/-- Settles O3: with an empty queue a step is the idle cycle, whose advance of T is that of `payCycle`, by the sign of e. -/
theorem idleStepIsOneCycle : Obligations.IdleStepIsOneCycle := by
  intro s hs
  have hstep : step s = .next (idleCycle s) := by rw [step, hs]
  have hw := Laws.within_idleCycle s
  obtain ⟨ht, hp, hc⟩ := idleCycle_time s
  refine ⟨idleCycle s, hstep, (hw.pending rfl).trans hs, hw.regs rfl, ?_, ?_, ?_, ?_, ?_⟩ <;> rw [ht]
  · intro h
    simp [payCycle, h]
  · intro h hcyc
    rw [hp, hc, payCycle, if_pos h, if_neg hcyc]
    exact ⟨rfl, rfl, rfl⟩
  · intro h hcyc
    rw [hp, hc, payCycle, if_pos h, if_pos hcyc]
    exact ⟨rfl, rfl, rfl⟩
  · intro h hcyc
    rw [hp, hc, payCycle, if_neg (by omega), if_pos h, if_neg hcyc]
    exact ⟨rfl, rfl, rfl⟩
  · intro h hcyc
    rw [hp, hc, payCycle, if_neg (by omega), if_pos h, if_pos hcyc]
    exact ⟨rfl, rfl, rfl⟩

end Sys2Proof.Proofs
end

section
/-! PROOFS. Free-run boundaries, line starts, the velocity estimate, standstill, RUN_EXPECT and the source policies (R46-R60). -/

namespace Sys2Proof.Proofs

open Sys2Proof Sys2Proof.Machine

/-! ### Boundaries of the free-run rate (R54) -/

theorem freerunBoundary_makes_a_line (s : State) (hin : s.tbs.inService = true) (hm : captureMode s = 2) (hw : works s = true) :
    completes .freerunBoundary s (fun t => t.tbs.p = (s.tbs.p + lineSteps s) % 2 ^ 40 ∧ t.tbs.l = (s.tbs.l + 1) % 2 ^ 32 ∧
      t.tbs.due = s.tbs.due ++ [⟨(s.tbs.l + 1) % 2 ^ 32, (s.tbs.p + lineSteps s) % 2 ^ 40, s.t, none, false⟩] ∧
      t.tbs.lastBoundary = some s.t ∧ t.tbs.standstill = false) := by
  have hjump : freerunBoundary s = jumpLine s := by simp [freerunBoundary, hin, hm, hw]
  refine ⟨freerunBoundary s, rfl, ?_⟩
  beta_reduce
  rw [hjump, jumpLine_tbs (holdsLines_of_freerun hm)]
  exact ⟨rfl, rfl, rfl, rfl, rfl⟩

/-! ### Line starts (R50-R53) -/

section
variable {s : State} {d : DueLine} {rest : List DueLine} (hd : s.tbs.due = d :: rest) (hw : works s = true)
  (hc : s.mgt.capturing = true) (hb : lineBlocked s = false)
include hd hw hc hb

theorem lineStart_captures (h : lineCause s d (d.tCross + lsDelay s) = none) :
    lineStart s = captureLine d.l (d.tCross + lsDelay s) (lineEntry d (d.tCross + lsDelay s) false s) := by
  simp [lineStart, hd, hw, hc, hb, h]

theorem lineStart_gap {c : Nat} (h : lineCause s d (d.tCross + lsDelay s) = some c) :
    lineStart s = gapLine d.l (some c) (lineEntry d (d.tCross + lsDelay s) true s) := by
  simp [lineStart, hd, hw, hc, hb, h]

end

theorem captureLine_ary (l tl : Nat) (s : State) : (captureLine l tl s).ary.lastCap = some (l, s.ary.epoch, tl) ∧
    (captureLine l tl s).ary.capSet = s.ary.set := by
  unfold captureLine
  dsimp only
  rw [pipMod_ary, (Laws.within_strobesAtLine ..).ary rfl]
  exact ⟨rfl, rfl⟩

theorem captureLine_captured (l tl : Nat) (s : State) : (captureLine l tl s).mgt.captured = s.mgt.captured + 1 := by
  unfold captureLine
  dsimp only
  rw [pipMod_mgt, (Laws.within_strobesAtLine ..).mgt rfl]
  rfl

/-- A miss leaves in the timebase no more than the miss that waits for the supervisor (R523). -/
theorem dlMissUnless_tbs (w : Bool) (n fid : Nat) (args : List Nat) (ctag coord : Nat) (s : State) :
    ∃ x, (dlMissUnless w n fid args ctag coord s).tbs = { s.tbs with dlHeld := x } := by
  unfold dlMissUnless dlMiss
  split
  · exact ⟨s.tbs.dlHeld, rfl⟩
  · split
    · exact ⟨s.tbs.dlHeld, rfl⟩
    · dsimp only
      split
      · refine ⟨s.tbs.dlHeld ++ [(n, s.tbs.l)], ?_⟩
        rw [raise_tbs]
      · refine ⟨s.tbs.dlHeld, ?_⟩
        rw [dlCount_tbs, raise_tbs]

/-- The passing of GAP lines keeps of the array all but the GAP lines that wait. -/
theorem gapsPass_ary (s : State) : ∃ x, (gapsPass s).ary = { s.ary with gapsDue := x } := by
  have hfold : ∀ (l : List (Nat × Nat)) (u : State), (l.foldl gapReadout u).ary = u.ary := fun l u =>
    (Laws.within_foldl (k := 6177) (fun x g h => h.trans (Laws.within_gapReadout x g)) (Laws.Within.refl _ _)).ary rfl
  unfold gapsPass
  extract_lets held
  exact ⟨s.ary.gapsDue.filter held, by rw [hfold, aryMod_ary]⟩

/-- GAP lines that pass, with the look at the checkpoints that follows, keep the timebase and the line captured last. -/
theorem cpPollAll_gapsPass_keeps (s : State) : (cpPollAll (gapsPass s)).tbs = s.tbs ∧
    (cpPollAll (gapsPass s)).ary.lastCap = s.ary.lastCap ∧ (cpPollAll (gapsPass s)).ary.capSet = s.ary.capSet := by
  obtain ⟨x, hgaps⟩ := gapsPass_ary s
  have hpoll := Laws.within_cpPollAll (gapsPass s)
  rw [hpoll.tbs rfl, hpoll.ary rfl, (Laws.within_gapsPass s).tbs rfl, hgaps]
  exact ⟨rfl, rfl, rfl⟩

/-- A GAP line keeps the line captured last, and of the timebase all but the misses that wait for the supervisor. -/
theorem gapLine_keeps (l c : Nat) (s : State) :
    (∃ x, (gapLine l (some c) s).tbs = { s.tbs with dlHeld := x }) ∧ (gapLine l (some c) s).ary.lastCap = s.ary.lastCap ∧
      (gapLine l (some c) s).ary.capSet = s.ary.capSet := by
  unfold gapLine
  extract_lets s1 s2 col s3
  obtain ⟨x, h1t⟩ : ∃ x, s1.tbs = { s.tbs with dlHeld := x } := dlMissUnless_tbs ..
  have h1a : s1.ary = s.ary := (Laws.within_dlMissUnless ..).ary rfl
  have h3 : s3.tbs = s1.tbs ∧ s3.ary.lastCap = s1.ary.lastCap ∧ s3.ary.capSet = s1.ary.capSet := by
    unfold s3 s2
    dsimp only
    split <;> exact ⟨rfl, rfl, rfl⟩
  clear_value s1 s3
  obtain ⟨h3t, h3l, h3c⟩ := h3
  obtain ⟨ht, hl, hc⟩ := cpPollAll_gapsPass_keeps
    (aryMod (fun a => { a with gapsDue := a.gapsDue ++ [(l, a.epoch)] }) (strobesAtLine true s3))
  have hstrobes := Laws.within_strobesAtLine true s3
  rw [ht, hl, hc, aryMod_tbs, aryMod_ary, hstrobes.tbs rfl, hstrobes.ary rfl, h3t]
  exact ⟨⟨x, h1t⟩, h3l.trans (congrArg Ary.lastCap h1a), h3c.trans (congrArg Ary.capSet h1a)⟩

section
variable (s : State) (d : DueLine) (rest : List DueLine) (c : Nat) (hd : s.tbs.due = d :: rest) (hw : works s = true)
  (hc : s.mgt.capturing = true) (hb : lineBlocked s = false)
include hd hw hc hb

theorem lineStart_without_cause_captures (h : lineCause s d (d.tCross + lsDelay s) = none) :
    completes .lineStart s (fun t => t.ary.lastCap = some (d.l, s.ary.epoch, d.tCross + lsDelay s) ∧
      t.ary.capSet = s.ary.set ∧ t.tbs.due = rest ∧ (d.skip = false → t.tbs.tl = some (d.tCross + lsDelay s)) ∧
      t.tbs.hist = (⟨d.l, d.p, d.tCross + lsDelay s, s.ary.epoch, false⟩ :: s.tbs.hist).take 4096 ∧
      t.mgt.captured = s.mgt.captured + 1) := by
  have hstart := lineStart_captures hd hw hc hb h
  have htbs : (lineStart s).tbs = (lineEntry d (d.tCross + lsDelay s) false s).tbs := by
    rw [hstart]
    exact (Laws.within_captureLine ..).tbs rfl
  have hary := captureLine_ary d.l (d.tCross + lsDelay s) (lineEntry d (d.tCross + lsDelay s) false s)
  refine ⟨epochsRetire (lineStart s), rfl, ?_, ?_, ?_, ?_, ?_, ?_⟩
  · exact (congrArg (fun u : State => u.ary.lastCap) hstart).trans hary.1
  · exact (congrArg (fun u : State => u.ary.capSet) hstart).trans hary.2
  · exact (congrArg Tbs.due htbs).trans (congrArg (List.drop 1) hd)
  · intro hskip
    exact (congrArg Tbs.tl htbs).trans (by rw [lineEntry, tbsMod_tbs, hskip]; rfl)
  · exact congrArg Tbs.hist htbs
  · exact (congrArg (fun u : State => u.mgt.captured) hstart).trans (captureLine_captured ..)

theorem lineStart_with_cause_is_gap (h : lineCause s d (d.tCross + lsDelay s) = some c) :
    completes .lineStart s (fun t => t.ary.lastCap = s.ary.lastCap ∧ t.ary.capSet = s.ary.capSet ∧ t.tbs.due = rest ∧
      t.tbs.hist = (⟨d.l, d.p, d.tCross + lsDelay s, s.ary.epoch, true⟩ :: s.tbs.hist).take 4096 ∧
      t.mgt.captured = s.mgt.captured) := by
  have hstart := lineStart_gap hd hw hc hb h
  obtain ⟨⟨x, htbs⟩, hcap, hset⟩ := gapLine_keeps d.l c (lineEntry d (d.tCross + lsDelay s) true s)
  rw [← hstart] at htbs hcap hset
  have hmgt : (lineStart s).mgt = s.mgt := by
    rw [hstart]
    exact (Laws.within_gapLine ..).mgt rfl
  refine ⟨epochsRetire (lineStart s), rfl, hcap, hset, ?_, ?_, congrArg Mgt.captured hmgt⟩
  · exact (congrArg Tbs.due htbs).trans (congrArg (List.drop 1) hd)
  · exact congrArg Tbs.hist htbs

end

/-! ### The velocity estimate (R55) -/

section
variable {s : State} (hc : counting s = true) (hs : source s ≤ 1) (hu : up s 0x30002 = true)
include hc hs hu

theorem velocityEstimate_still (h : s.tbs.standstill = true ∨ s.tbs.deficit ≠ 0) :
    velocityEstimate s = tbsMod (fun b => { b with v := 0 }) s := by
  simp [velocityEstimate, hc, hs, hu, h]

theorem velocityEstimate_enough (hm : s.tbs.standstill = false) (hd : s.tbs.deficit = 0)
    (h : enoughSteps (stampsKept s.t s.tbs.steps) = true) : velocityEstimate s =
      tbsMod (fun b => { b with
        keepV := false, v := velEstimate (rfld s Reg.TBS_VEL_CFG 3 0) s.t b.v (stampsKept s.t s.tbs.steps) }) s := by
  simp [velocityEstimate, hc, hs, hu, hm, hd, h]

theorem velocityEstimate_no_steps (h : s.tbs.steps = []) (hk : s.tbs.keepV = false) :
    velocityEstimate s = tbsMod (fun b => { b with v := 0 }) s := by
  simp [velocityEstimate, hc, hs, hu, h, hk, stampsKept, enoughSteps]

end

/-- The stamps that are kept of a list whose first stamp older than the window is kept: it is still the first (R55). -/
theorem find_stampsKept {now win : Nat} {a b : StepStamp} {l : List StepStamp}
    (hb : l.find? (fun x => decide (x.t + 2 ^ win * 200 ≤ a.t)) = some b) (hk : now ≤ b.t + 13107200) :
    (stampsKept now l).find? (fun x => decide (x.t + 2 ^ win * 200 ≤ a.t)) = some b := by
  obtain ⟨hold, as, bs, rfl, has⟩ := List.find?_eq_some_iff_append.mp hb
  rw [stampsKept, List.find?_filter, List.find?_eq_some_iff_append]
  refine ⟨by simpa [hk] using hold, as, bs, rfl, fun x hx => ?_⟩
  have := has x hx
  simp only [Bool.not_eq_true'] at this ⊢
  simp [this]

/-- The estimate over the window (R55): the steps to the first stamp older than it over the time between them, which the time since
the latest step bounds. -/
theorem velEstimate_window {win now keep : Nat} {a b : StepStamp} {rest : List StepStamp}
    (hb : rest.find? (fun x => decide (x.t + 2 ^ win * 200 ≤ a.t)) = some b) :
    velEstimate win now keep (a :: rest) = min (2 ^ 32 - 1)
      (if a.t < now then min ((a.p1 + 2 ^ 40 - b.p1) % 2 ^ 40 * 200 * 2 ^ 22 / (a.t - b.t)) (200 * 2 ^ 22 / (now - a.t))
        else (a.p1 + 2 ^ 40 - b.p1) % 2 ^ 40 * 200 * 2 ^ 22 / (a.t - b.t)) := by
  simp only [velEstimate, hb]
  rfl

theorem velocityEstimate_in_window (s : State) (a b : StepStamp) (rest : List StepStamp) (hc : counting s = true)
    (hs : source s ≤ 1) (hu : up s 0x30002 = true) (hm : s.tbs.standstill = false) (hd : s.tbs.deficit = 0)
    (hsteps : s.tbs.steps = a :: rest) (_ : a.t ≤ s.t)
    (hb : rest.find? (fun x => decide (x.t + 2 ^ rfld s Reg.TBS_VEL_CFG 3 0 * 200 ≤ a.t)) = some b)
    (hk : s.t ≤ b.t + 13107200) :
    completes .velocityEstimate s (fun t =>
      (a.t = s.t → t.tbs = { s.tbs with
        keepV := false, v := min (2 ^ 32 - 1) ((a.p1 + 2 ^ 40 - b.p1) % 2 ^ 40 * 200 * 2 ^ 22 / (a.t - b.t)) }) ∧
      (a.t < s.t → t.tbs = { s.tbs with
        keepV := false, v := min (2 ^ 32 - 1) (min ((a.p1 + 2 ^ 40 - b.p1) % 2 ^ 40 * 200 * 2 ^ 22 / (a.t - b.t))
          (200 * 2 ^ 22 / (s.t - a.t))) })) := by
  have hold : b.t + 2 ^ rfld s Reg.TBS_VEL_CFG 3 0 * 200 ≤ a.t := by simpa using List.find?_some hb
  have hka : s.t ≤ a.t + 13107200 := by omega
  have hkept : stampsKept s.t s.tbs.steps = a :: stampsKept s.t rest := by simp [hsteps, stampsKept, hka]
  have hfind := find_stampsKept hb hk
  have henough : enoughSteps (stampsKept s.t s.tbs.steps) = true := by
    obtain ⟨c, l, hl⟩ := List.exists_cons_of_ne_nil (List.ne_nil_of_mem (List.mem_of_find?_eq_some hfind))
    rw [hkept, hl]
    rfl
  refine ⟨velocityEstimate s, rfl, fun ha => ?_, fun ha => ?_⟩ <;>
    rw [velocityEstimate_enough hc hs hu hm hd henough, hkept, tbsMod_tbs, velEstimate_window hfind]
  · rw [if_neg (by omega)]
  · rw [if_pos ha]

theorem velocityEstimate_is_zero_when_still (s : State) (hc : counting s = true) (hs : source s ≤ 1) (hu : up s 0x30002 = true)
    (h : s.tbs.standstill = true ∨ s.tbs.deficit ≠ 0) :
    completes .velocityEstimate s (fun t => t.tbs = { s.tbs with v := 0 }) :=
  ⟨velocityEstimate s, rfl, congrArg State.tbs (velocityEstimate_still hc hs hu h)⟩

theorem velocityEstimate_is_zero_without_steps (s : State) (hc : counting s = true) (hs : source s ≤ 1)
    (hu : up s 0x30002 = true) (h : s.tbs.steps = []) (hk : s.tbs.keepV = false) :
    completes .velocityEstimate s (fun t => t.tbs = { s.tbs with v := 0 }) :=
  ⟨velocityEstimate s, rfl, congrArg State.tbs (velocityEstimate_no_steps hc hs hu h hk)⟩

/-! ### Standstill (R58) -/

theorem velNow_standstill {s : State} (h : s.tbs.standstill = true) : velNow s = 0 := by
  simp [velNow, h]

theorem judgeStall_tbs (s : State) : (judgeStall s).tbs = { s.tbs with
    stall := if s.tbs.runExpect then
      s.tbs.stall || (rbit s Reg.TBS_MOTION_CFG 31 && s.tbs.standstill && s.tbs.runExpect) else false } := by
  unfold judgeStall
  dsimp only
  rw [raiseIf_tbs]
  rfl

theorem declareStandstill_tbs {s : State} (hin : s.tbs.inService = true) (hm : s.tbs.standstill = false) :
    (declareStandstill s).tbs.standstill = true ∧ (declareStandstill s).tbs.syncOut = false := by
  simp [declareStandstill, hin, hm, judgeStall_tbs]

theorem standstillDeclared_stops (s : State) (hin : s.tbs.inService = true) (hm : s.tbs.standstill = false)
    (_ : eventsTaken s = true) :
    completes .standstillDeclared s (fun t => t.tbs.standstill = true ∧ t.tbs.syncOut = false ∧ velNow t = 0) := by
  have htbs : (standstillDeclared s).tbs = (declareStandstill s).tbs := by
    have hflush : ∀ u : State, (if images s then formatterFlush u else u).tbs = u.tbs := fun u => by
      split
      · exact (Laws.within_formatterFlush u).tbs rfl
      · rfl
    simp only [standstillDeclared, hin, hm, Bool.not_false, Bool.and_self, if_true]
    exact ((Laws.within_standstillFlags _).tbs rfl).trans (hflush _)
  obtain ⟨hs, ho⟩ := declareStandstill_tbs hin hm
  rw [← htbs] at hs ho
  exact ⟨standstillDeclared s, rfl, hs, ho, velNow_standstill hs⟩

/-! ### RUN_EXPECT (R46, R59) -/

/-- What the position, RUN_EXPECT, STALL and the filtered levels of the pins are in `s`, they are in `u`. -/
def sameMotion (s u : State) : Prop :=
  u.tbs.p = s.tbs.p ∧ u.tbs.runExpect = s.tbs.runExpect ∧ u.tbs.stall = s.tbs.stall ∧ u.pen.level = s.pen.level

theorem sameMotion.refl (s : State) : sameMotion s s := ⟨rfl, rfl, rfl, rfl⟩

theorem sameMotion.trans {s u v : State} (h : sameMotion s u) (h' : sameMotion u v) : sameMotion s v := by
  obtain ⟨hp, hr, hs, hl⟩ := h
  obtain ⟨hp', hr', hs', hl'⟩ := h'
  exact ⟨hp'.trans hp, hr'.trans hr, hs'.trans hs, hl'.trans hl⟩

theorem sameMotion_of_eq {s u : State} (ht : u.tbs = s.tbs) (hp : u.pen.level = s.pen.level) : sameMotion s u :=
  ⟨congrArg Tbs.p ht, congrArg Tbs.runExpect ht, congrArg Tbs.stall ht, hp⟩

theorem sameMotion_foldl {α : Type} {f : State → α → State} (hf : ∀ u a, sameMotion u (f u a)) (l : List α) (s : State) :
    sameMotion s (l.foldl f s) := by
  induction l generalizing s with
  | nil => exact sameMotion.refl s
  | cons a l ih => exact (hf s a).trans (ih _)

theorem raise_sameMotion (code fid : Nat) (args : List Nat) (ctag coord : Nat) (s : State) :
    sameMotion s (raise code fid args ctag coord s) :=
  sameMotion_of_eq (raise_tbs ..) (congrArg Pen.level (raise_pen ..))

theorem encoderState_sameMotion (s : State) : sameMotion s (encoderState s) := ⟨rfl, rfl, rfl, rfl⟩

theorem monMod_sameMotion (p : Nat) (f : PinMon → PinMon) (s : State) : sameMotion s (monMod p f s) := ⟨rfl, rfl, rfl, rfl⟩

theorem srcFail_sameMotion (cause : Nat) (s : State) : sameMotion s (srcFail cause s) := by
  have hfail : ∀ (v : Nat) (u : State), sameMotion u (applyOnFail v u) := fun v u => by
    unfold applyOnFail
    split <;> exact ⟨rfl, rfl, rfl, rfl⟩
  unfold srcFail
  split
  · exact (raise_sameMotion ..).trans (hfail _ _)
  · exact sameMotion.refl s

theorem noteEdge_sameMotion (p : Nat) (v : Bool) (s : State) : sameMotion s (noteEdge p v s) := by
  have hnote : ∀ (c : Bool) (e : Nat) (u : State), sameMotion u (if c then engMod e (fun g => { g with edge := true }) u else u) := by
    intro c e u
    cases c
    · exact sameMotion.refl u
    · exact ⟨rfl, rfl, rfl, rfl⟩
  exact sameMotion_foldl (fun u e => hnote _ e u) _ s

theorem stuckEnd_sameMotion (p : Nat) (s : State) : sameMotion s (stuckEnd p s) := by
  unfold stuckEnd
  split
  · exact ((monMod_sameMotion p _ s).trans (raise_sameMotion ..)).trans (encoderState_sameMotion _)
  · exact sameMotion.refl s

theorem countEdge_sameMotion (p : Nat) (s : State) : sameMotion s (countEdge p s) := by
  unfold countEdge
  split
  · exact sameMotion.refl s
  · extract_lets m rise s1 s2
    have h1 : sameMotion s s1 := monMod_sameMotion p _ s
    have h2 : sameMotion s s2 := (h1.trans (raise_sameMotion ..)).trans (encoderState_sameMotion _)
    split
    · split
      · exact h2.trans (srcFail_sameMotion 1 s2)
      · exact h2
    · exact h1

theorem refreshMotion_sameMotion (s : State) (p : Nat) : sameMotion s (refreshMotion s p) := by
  unfold refreshMotion
  extract_lets e s1
  have h1 : sameMotion s s1 := (monMod_sameMotion p _ s).trans (raise_sameMotion ..)
  split
  · exact sameMotion.refl s
  · split
    · exact h1
    · exact h1.trans (stuckEnd_sameMotion p s1)

theorem refreshMotions_sameMotion (s : State) : sameMotion (runExpectLevel s) (refreshMotions s) := by
  unfold refreshMotions
  dsimp only
  split
  · exact sameMotion.refl _
  · exact sameMotion_foldl refreshMotion_sameMotion _ _

/-- RUN_EXPECT and STALL follow the pin (R46, R59). -/
theorem runExpectLevel_tbs (s : State) : (runExpectLevel s).tbs.runExpect = runExpectPin s ∧
    (runExpectPin s = false → (runExpectLevel s).tbs.stall = false) ∧ (runExpectLevel s).tbs.p = s.tbs.p := by
  rw [runExpectLevel, judgeStall_tbs]
  refine ⟨rfl, fun h => ?_, rfl⟩
  simp [h]

theorem bit_setBits_same (x p : Nat) (v : Bool) : bit (setBits x p p (b2n v)) p = v := by
  have hbit : ∀ y, bit y p = (bits y p p == 1) := fun y => by simp [bit, bits]
  rw [hbit, bits_setBits_same]
  cases v <;> simp [b2n]

/-- The state in which the engines and the monitors have seen that the filtered level of pin `p` is `v` (R372). -/
def levelSeen (p : Nat) (v : Bool) (s : State) : State :=
  let s2 := countEdge p (noteEdge p v (penMod (fun x => { x with level := setBits x.level p p (b2n v) }) s))
  if stuckOn s p then stuckEnd p (monMod p (fun m => { m with edgeT := s.t }) s2) else s2

theorem levelSeen_regs (p : Nat) (v : Bool) (s : State) : (levelSeen p v s).regs = s.regs := by
  have h2 : ∀ u : State, (countEdge p (noteEdge p v u)).regs = u.regs := fun u =>
    ((Laws.within_countEdge ..).regs rfl).trans ((Laws.within_noteEdge ..).regs rfl)
  unfold levelSeen
  dsimp only
  split
  · exact ((Laws.within_stuckEnd ..).regs rfl).trans (h2 _)
  · exact h2 _

theorem levelSeen_sameMotion (p : Nat) (v : Bool) (s : State) :
    sameMotion (penMod (fun x => { x with level := setBits x.level p p (b2n v) }) s) (levelSeen p v s) := by
  have h2 : ∀ u : State, sameMotion u (countEdge p (noteEdge p v u)) := fun u =>
    (noteEdge_sameMotion p v u).trans (countEdge_sameMotion p _)
  unfold levelSeen
  dsimp only
  split
  · exact ((h2 _).trans (monMod_sameMotion p _ _)).trans (stuckEnd_sameMotion p _)
  · exact h2 _

/-- A change of the filtered level of the RUN_EXPECT pin has RUN_EXPECT judged anew once the level is seen (R46, R372). -/
theorem runExpectChange_judges {s : State} {v : Bool} (hrx : rbit s Reg.TBS_MOTION_CFG 31 = true)
    (hpin : rfld s Reg.TBS_MOTION_CFG 29 23 < 80) (hlev : bit s.pen.level (rfld s Reg.TBS_MOTION_CFG 29 23) = !v)
    (hup : up s 0x80100 = true) :
    runExpectChange v s = refreshMotions (levelSeen (rfld s Reg.TBS_MOTION_CFG 29 23) v s) := by
  have hgo : ¬ (80 ≤ rfld s Reg.TBS_MOTION_CFG 29 23 ∨ bit s.pen.level (rfld s Reg.TBS_MOTION_CFG 29 23) = v ∨
      (!up s 0x80100) = true) := by
    simp [hpin, hlev, hup]
  rw [runExpectChange, pinLevelChange, if_neg hgo, hrx, beq_self_eq_true, Bool.and_self, if_pos rfl]
  rfl

theorem runExpectChange_follows_level (s : State) (level : Bool) (hrx : rbit s Reg.TBS_MOTION_CFG 31 = true)
    (hpin : rfld s Reg.TBS_MOTION_CFG 29 23 < 80) (hlev : bit s.pen.level (rfld s Reg.TBS_MOTION_CFG 29 23) = !level)
    (hup : up s 0x80100 = true) :
    completes (.runExpectChange level) s (fun t => t.tbs.runExpect = (level == rbit s Reg.TBS_MOTION_CFG 30) ∧
      (t.tbs.runExpect = false → t.tbs.stall = false) ∧ t.tbs.p = s.tbs.p) := by
  have hjudge := runExpectChange_judges hrx hpin hlev hup
  have hregs := levelSeen_regs (rfld s Reg.TBS_MOTION_CFG 29 23) level s
  obtain ⟨hpos, -, -, hul⟩ := levelSeen_sameMotion (rfld s Reg.TBS_MOTION_CFG 29 23) level s
  generalize levelSeen (rfld s Reg.TBS_MOTION_CFG 29 23) level s = u at *
  have hbit : ∀ i, rbit u Reg.TBS_MOTION_CFG i = rbit s Reg.TBS_MOTION_CFG i := fun i => by
    rw [rbit, rbit, rnat, rnat, rget_congr hregs]
  have hexp : runExpectPin u = (level == rbit s Reg.TBS_MOTION_CFG 30) := by
    rw [runExpectPin, hbit, hbit, hrx, rfld_congr hregs, hul, penMod_pen, bit_setBits_same, Bool.true_and]
  obtain ⟨hr, hst, hp⟩ := runExpectLevel_tbs u
  obtain ⟨hp', hr', hst', -⟩ := refreshMotions_sameMotion u
  rw [← hjudge] at hp' hr' hst'
  refine ⟨runExpectChange level s, rfl, hr'.trans (hr.trans hexp), fun h => ?_, hp'.trans (hp.trans hpos)⟩
  exact hst'.trans (hst (hr.symm.trans (hr'.symm.trans h)))

/-- Settles O8: the clauses, each proved above, in their order. -/
theorem boundariesLineStartsAndMotion : Obligations.BoundariesLineStartsAndMotion :=
  ⟨freerunBoundary_makes_a_line, lineStart_without_cause_captures, lineStart_with_cause_is_gap, fun s => ⟨syncOutEnd s, rfl, rfl⟩,
    velocityEstimate_is_zero_when_still, velocityEstimate_in_window, velocityEstimate_is_zero_without_steps,
    standstillDeclared_stops, runExpectChange_follows_level⟩

/-! ### Source policies (R47, R48) -/

theorem velNow_hold {s : State} {f : SrcFailed} (hm : captureMode s ≠ 2) (hf : s.tbs.failed = some f) (hp : f.pol = 0) :
    velNow s = 0 := by
  simp [velNow, hm, hf, hp]

theorem coastEnd_holds (s : State) (f : SrcFailed) (hf : s.tbs.failed = some f) (hp : f.pol = 1) (hm : captureMode s ≠ 2)
    (hev : eventsTaken s = true) :
    completes .coastEnd s (fun t => t.tbs = { s.tbs with failed := some ⟨0, f.vBefore, f.since⟩ } ∧ velNow t = 0 ∧
      eventPending t 0x300 = true) := by
  have hend : coastEnd s = raise0 0x300 0x30000 [2] (tbsMod (fun b => { b with failed := some { f with pol := 0 } }) s) := by
    simp [coastEnd, hf, hp]
  have htbs : (coastEnd s).tbs = { s.tbs with failed := some ⟨0, f.vBefore, f.since⟩ } := by
    rw [hend, raise0_tbs]
    rfl
  have hregs : (coastEnd s).regs = s.regs := (Laws.within_coastEnd s).regs rfl
  refine ⟨coastEnd s, rfl, htbs, ?_, ?_⟩
  · exact velNow_hold (by rwa [captureMode_congr hregs]) (by rw [htbs]) rfl
  · rw [hend]
    exact raise0_eventPending _ _ _ hev

theorem srcResume_returns (s : State) (f : SrcFailed) (hf : s.tbs.failed = some f) (hst : s.tbs.stuck = false)
    (hov : s.tbs.overrate = false) (hml : s.grp.masterLost = false) (hev : eventsTaken s = true) :
    completes .srcResume s (fun t => t.tbs.failed = none ∧ t.tbs.acc = 0 ∧ t.tbs.p = s.tbs.p ∧ t.tbs.v = velNow s ∧
      t.tbs.steps = [] ∧ eventPending t 0x301 = true) := by
  have hback : srcResume s = raise0 0x301 0x30000 [] (tbsMod (fun b => { b with
      failed := none, acc := 0, rateAcc := 0, v := velNow s, steps := [], keepV := true }) s) := by
    simp [srcResume, hf, hst, hov, hml]
  have htbs : (srcResume s).tbs = { s.tbs with
      failed := none, acc := 0, rateAcc := 0, v := velNow s, steps := [], keepV := true } := by
    rw [hback, raise0_tbs]
    rfl
  refine ⟨srcResume s, rfl, ?_⟩
  beta_reduce
  rw [htbs]
  refine ⟨rfl, rfl, rfl, rfl, rfl, ?_⟩
  rw [hback]
  exact raise0_eventPending _ _ _ hev

/-- Settles O9: the clauses, each proved above. -/
theorem sourcePolicyEndsAndSourceReturns : Obligations.SourcePolicyEndsAndSourceReturns := ⟨coastEnd_holds, srcResume_returns⟩

end Sys2Proof.Proofs
end

section
/-! PROOFS. Group timing: the messages of a master, their relay, and what a follower takes from them (R61-R66). -/

namespace Sys2Proof.Proofs

open Sys2Proof Sys2Proof.Machine

/-! ### Masks of links -/

theorem bit_eq_testBit (v i : Nat) : bit v i = v.testBit i := by
  rw [Nat.testBit_eq_decide_div_mod_eq]
  rfl

/-- TX_MASK as bits of its register. -/
theorem bit_txMask (s : State) {n : Nat} (h : n < 4) : bit (rfld s Reg.TBS_XW_CFG 7 4) n = rbit s Reg.TBS_XW_CFG (4 + n) := by
  rw [bit_eq_testBit, rfld, testBit_bits, rbit, bit_eq_testBit, decide_eq_true (by omega), Bool.true_and]

/-- The mask without link `n` has the other links as they were. -/
theorem bit_maskWithout (m : Nat) {n k : Nat} (hn : n < 4) (hk : k < 4) :
    bit (m &&& (15 - 2 ^ n)) k = (bit m k && decide (k ≠ n)) := by
  have hmask : ∀ n < 4, ∀ k < 4, (15 - 2 ^ n).testBit k = decide (k ≠ n) := by decide
  rw [bit_eq_testBit, Nat.testBit_and, hmask n hn k hk, bit_eq_testBit]

/-! ### Messages to links (R342, R347, R461) -/

theorem xwLane_setXw (s : State) (n k : Nat) (x : XwLane) : xwLane (setXw s n x) k = if k = n then x else xwLane s k :=
  mgetD_mput s.xw n k x XwLane.reset

/-- Lane `x` after a message of the timebase for it: a link that is not up, or whose pair is refused, takes none. -/
def laneTook (m : XwMsg) (x : XwLane) : XwLane := if x.st = 2 ∧ x.accepted = true then { x with q0 := x.q0 ++ [m] } else x

theorem laneTook_up {m : XwMsg} {x : XwLane} (hup : x.st = 2) (ha : x.accepted = true) : (laneTook m x).q0 = x.q0 ++ [m] := by
  rw [laneTook, if_pos ⟨hup, ha⟩]

theorem xwLane_xwSend {m : XwMsg} (hm : vcOf m = 0) (s : State) (n k : Nat) :
    xwLane (xwSend n m s) k = if k = n then laneTook m (xwLane s n) else xwLane s k := by
  have hsame : xwLane s k = if k = n then xwLane s n else xwLane s k := by
    split
    · next h => rw [h]
    · rfl
  unfold xwSend laneTook
  by_cases hst : (xwLane s n).st = 2
  · cases ha : (xwLane s n).accepted <;> simp [hm, hst, ha, xwLane_setXw, ← hsame]
  · simp [hst, ← hsame]

theorem xwLane_foldl_xwSend {m : XwMsg} (hm : vcOf m = 0) (mask : Nat) {l : List Nat} (hl : l.Nodup) (s : State) (k : Nat) :
    xwLane (l.foldl (fun s n => if bit mask n then xwSend n m s else s) s) k =
      if k ∈ l ∧ bit mask k = true then laneTook m (xwLane s k) else xwLane s k := by
  induction l generalizing s with
  | nil => simp
  | cons n l ih =>
    obtain ⟨hn, hl⟩ := List.nodup_cons.mp hl
    rw [List.foldl_cons, ih hl]
    by_cases hb : bit mask n = true
    · by_cases hk : k = n
      · subst hk
        simp [hn, hb, xwLane_xwSend hm]
      · simp [hk, hb, xwLane_xwSend hm]
    · by_cases hk : k = n
      · subst hk
        simp [hn, hb]
      · simp [hk, hb]

theorem xwLane_xwSendMask {m : XwMsg} (hm : vcOf m = 0) (mask : Nat) (s : State) {k : Nat} (hk : k < 4) :
    xwLane (xwSendMask mask m s) k = if bit mask k then laneTook m (xwLane s k) else xwLane s k := by
  rw [xwSendMask, xwLane_foldl_xwSend hm mask List.nodup_range]
  simp [hk]

theorem xwLane_congr {s t : State} (h : t.xw = s.xw) (n : Nat) : xwLane t n = xwLane s n := by rw [xwLane, xwLane, h]

/-- A message on every link of TX_MASK reaches each that is up and accepted. -/
theorem xwSendMask_txMask {m : XwMsg} (hm : vcOf m = 0) (s : State) {n : Nat} (hn : n < 4)
    (hb : rbit s Reg.TBS_XW_CFG (4 + n) = true) (hup : (xwLane s n).st = 2) (ha : (xwLane s n).accepted = true) :
    (xwLane (xwSendMask (rfld s Reg.TBS_XW_CFG 7 4) m s) n).q0 = (xwLane s n).q0 ++ [m] := by
  rw [xwLane_xwSendMask hm _ _ hn, bit_txMask s hn, if_pos hb, laneTook_up hup ha]

/-! ### The master (R61, R65) -/

theorem beaconSend_reaches_links (s : State) (hr : s.grp.role = 1) (hu : up s 0x30101 = true) :
    completes .beaconSend s (fun t => t.grp = { s.grp with lastTx := some s.t } ∧
      ∀ n, n < 4 → rbit s Reg.TBS_XW_CFG (4 + n) = true → (xwLane s n).st = 2 → (xwLane s n).accepted = true →
        (xwLane t n).q0 = (xwLane s n).q0 ++ [.beacon (s.t % 2 ^ 40) 0 0 Config.deviceId.toNat s.t]) := by
  have hsend : beaconSend s = grpMod (fun g => { g with lastTx := some s.t })
      (xwSendMask (rfld s Reg.TBS_XW_CFG 7 4) (.beacon (s.t % 2 ^ 40) 0 0 Config.deviceId.toNat s.t) s) := by
    simp [beaconSend, hr, hu]
  refine ⟨beaconSend s, rfl, ?_, fun n hn hb hup ha => ?_⟩ <;> rw [hsend]
  · rw [grpMod_grp, (Laws.within_xwSendMask ..).grp rfl]
  · exact xwSendMask_txMask rfl s hn hb hup ha

theorem announceSend_reaches_links (s : State) (hr : s.grp.role = 1) (ht : s.grp.trained = true) (hu : up s 0x30101 = true) :
    completes .announceSend s (fun t =>
      ∀ n, n < 4 → rbit s Reg.TBS_XW_CFG (4 + n) = true → (xwLane s n).st = 2 → (xwLane s n).accepted = true →
        (xwLane t n).q0 = (xwLane s n).q0 ++ [.announce (s.t % 2 ^ 40) 0 0 Config.deviceId.toNat s.t (lsDelay s)]) := by
  have hsend : announceSend s = xwSendMask (rfld s Reg.TBS_XW_CFG 7 4)
      (.announce (s.t % 2 ^ 40) 0 0 Config.deviceId.toNat s.t (lsDelay s)) s := by
    simp [announceSend, hr, ht, hu]
  refine ⟨announceSend s, rfl, fun n hn hb hup ha => ?_⟩
  rw [hsend]
  exact xwSendMask_txMask rfl s hn hb hup ha

/-! ### Pending events stay pending (R502) -/

theorem occurred_keeps_pend (s : State) (o : Rec) {code : Nat} (h : (srcOf s.evt code).pend = true) :
    (srcOf (occurred s o) code).pend = true := by
  by_cases hc : code = o.code
  · rw [hc]
    exact occurred_pend s o
  · rw [← h, srcOf, occurred, mgetD_mput, if_neg hc, srcOf]

theorem evtAfter_keeps_pend (s : State) (o : Rec) {code : Nat} (h : (srcOf s.evt code).pend = true) :
    (srcOf (evtAfter s o) code).pend = true := by
  have hocc := occurred_keeps_pend s o h
  unfold evtAfter
  dsimp only
  split
  · split
    · rwa [offerIntake_pend]
    · rwa [squall_pend]
  · exact hocc

theorem raise_keeps_pending (code fid : Nat) (args : List Nat) (ctag coord : Nat) {s : State} {c : Nat}
    (h : eventPending s c = true) : eventPending (raise code fid args ctag coord s) c = true := by
  unfold raise
  dsimp only
  split
  · exact h
  · exact evtAfter_keeps_pend s _ h

theorem raiseIf_keeps_pending (b : Bool) (code fid : Nat) (args : List Nat) (ctag coord : Nat) {s : State} {c : Nat}
    (h : eventPending s c = true) : eventPending (raiseIf b code fid args ctag coord s) c = true := by
  unfold raiseIf
  split
  · exact raise_keeps_pending _ _ _ _ _ h
  · exact h

theorem dsnuSwitch_keeps_pending {s : State} {c : Nat} (h : eventPending s c = true) : eventPending (dsnuSwitch s) c = true := by
  unfold dsnuSwitch
  split
  · split
    · exact h
    · exact raise_keeps_pending _ _ _ _ _ h
  · exact h

theorem takeBroadcast_keeps_pending (l p tc v : Nat) (st : Bool) {s : State} {c : Nat} (h : eventPending s c = true) :
    eventPending (takeBroadcast l p tc v st s) c = true := by
  have hswitch : ∀ u : State, eventPending u c = true → eventPending (if works u then dsnuSwitch u else u) c = true :=
    fun u hu => by
      split
      · exact dsnuSwitch_keeps_pending hu
      · exact hu
  unfold takeBroadcast
  split
  · exact h
  · split
    · exact raiseIf_keeps_pending _ _ _ _ _ _ (hswitch _ h)
    · exact h

/-! ### Discipline of T (R63) -/

/-- Arrivals in a row within 20 ns, after one that is `e` off (R63). -/
def okAfter (e : Int) (g : Grp) : Nat := if e.natAbs ≤ 4 then min 8 (g.okRun + 1) else 0

/-- Arrivals in a row beyond 50 ns, after one that is `e` off (R63). -/
def badAfter (e : Int) (g : Grp) : Nat := if 10 < e.natAbs then min 4 (g.badRun + 1) else 0

/-- LOCKED after an arrival that is `e` off (R63). -/
def lockedAfter (e : Int) (g : Grp) : Bool := if g.locked then !(badAfter e g == 4) else okAfter e g == 8

/-- The state with `e` to be paid off (R63). -/
def owing (e : Int) (s : State) : State :=
  rset (grpMod (fun g => { g with
    pay := e, cyc := 0, okRun := okAfter e g, badRun := badAfter e g, locked := lockedAfter e g }) s)
    Reg.TBS_XW_OFFSET (ofSigned 32 e)

theorem discipline_eq (e : Int) (s : State) : discipline e s =
    if lockedAfter e s.grp != s.grp.locked then raise0 0x305 0x30101 [b2n (!lockedAfter e s.grp)] (owing e s) else owing e s := by
  simp only [discipline, owing, lockedAfter, okAfter, badAfter, decide_eq_true_eq]
  rfl

theorem discipline_grp (e : Int) (s : State) : (discipline e s).grp = { s.grp with
    pay := e, cyc := 0, okRun := okAfter e s.grp, badRun := badAfter e s.grp, locked := lockedAfter e s.grp } := by
  have h : (owing e s).grp = { s.grp with
      pay := e, cyc := 0, okRun := okAfter e s.grp, badRun := badAfter e s.grp, locked := lockedAfter e s.grp } := rset_grp ..
  rw [discipline_eq]
  split
  · exact (raise0_grp ..).trans h
  · exact h

/-- A change of LOCKED raises 0x305 (R63). -/
theorem discipline_eventPending (e : Int) {s : State} (hev : eventsTaken s = true) (h : lockedAfter e s.grp ≠ s.grp.locked) :
    eventPending (discipline e s) 0x305 = true := by
  rw [discipline_eq, if_pos (bne_iff_ne.mpr h)]
  exact raise0_eventPending _ _ _ hev

theorem discipline_rget (e : Int) (s : State) {a : Nat} (h : a ≠ Reg.TBS_XW_OFFSET) : rget (discipline e s) a = rget s a := by
  have h1 : rget (owing e s) a = rget s a := rget_rset_other _ _ h
  rw [discipline_eq]
  split
  · exact (rget_congr (raise0_regs ..) a).trans h1
  · exact h1

/-! ### Broadcasts and beacons at a follower (R62, R63, R66) -/

/-- λ of message `m` on link `n`: the path latency that it carries and that of the link (R62). -/
def pathOf (s : State) (n : Nat) (m : XwMsg) : Nat := (tbHead m).2.2 + rfld s (Reg.TBS_XW_LAT + 4 * n) 15 0

/-- The follower has heard message `m` on link `n` and uses it (R62, R66). -/
def heard (n : Nat) (m : XwMsg) (s : State) : State :=
  grpMod (fun g => { g with
    copies := ⟨((tbHead m).1, tbKind m), (tbHead m).2.1, pathOf s n m, s.t⟩ ::
      (copiesKept s.t g.copies).filter (fun x => x.key != ((tbHead m).1, tbKind m))
    lastKey := some ((tbHead m).1, tbKind m), hops := (tbHead m).2.1, pathLat := pathOf s n m
    lastRx := some s.t, masterLost := false }) (grpMod (fun g => { g with rxT := mput g.rxT n s.t }) s)

/-- The message that the follower has heard, with one hop more, on its way to the other links (R62). -/
def relayOn (n : Nat) (m : XwMsg) (s : State) : State :=
  xwSendMask ((rfld s Reg.TBS_XW_CFG 7 4) &&& (15 - 2 ^ n)) (relayed (rfld s (Reg.TBS_XW_LAT + 4 * n) 15 0) m) (heard n m s)

/-- The follower has heard message `m` on link `n`, relayed it, and disciplined T by it (R62, R63). -/
def disciplined (n : Nat) (m : XwMsg) (s : State) : State :=
  discipline (offsetE (tbHead m).1 (pathOf s n m) s.t) (relayOn n m s)

/-- A message of which no copy came before is not the worse one (R62). -/
theorem copyWorse_of_new {key : Nat × Nat} (hops lat now : Nat) {l : List CopySeen} (h : ∀ x ∈ l, x.key ≠ key) :
    copyWorse key hops lat (copiesKept now l) = false := by
  refine List.any_eq_false.mpr (fun x hx => ?_)
  have hne : x.key ≠ key := h x (List.mem_of_mem_filter hx)
  simp [hne]

/-- The conditions under which a follower accepts message `m` on link `n` (R62). -/
structure Accepts (n : Nat) (m : XwMsg) (s : State) : Prop where
  role : s.grp.role = 2
  works : up s 0x30101 = true
  rxMask : rbit s Reg.TBS_XW_CFG n = true
  pair : (xwLane s n).accepted = true
  loaded : s.grp.tLoaded = true
  kind : tbKind m ≠ 2
  fresh : ∀ x ∈ s.grp.copies, x.key ≠ ((tbHead m).1, tbKind m)

theorem Accepts.all {n : Nat} {m : XwMsg} {s : State} (h : Accepts n m s) : s.grp.role = 2 ∧ up s 0x30101 = true ∧
    rbit s Reg.TBS_XW_CFG n = true ∧ (xwLane s n).accepted = true ∧ s.grp.tLoaded = true ∧ tbKind m ≠ 2 :=
  ⟨h.role, h.works, h.rxMask, h.pair, h.loaded, h.kind⟩

/-- A broadcast, disciplined by, brings P, L and V of the master; a beacon brings no more (R61). -/
def tookBroadcast (m : XwMsg) (s : State) : State :=
  match m with
  | .bcast _ _ _ tc l v p _ st _ _ => takeBroadcast l p tc v st (grpMod (fun g => { g with masterV := v }) s)
  | _ => s

theorem broadcastReceived_accepted {n : Nat} {m : XwMsg} {s : State} (h : Accepts n m s) :
    broadcastReceived n m s = tookBroadcast m (disciplined n m s) := by
  have hnew := copyWorse_of_new (tbHead m).2.1 (pathOf s n m) s.t h.fresh
  unfold broadcastReceived
  dsimp only
  rw [if_pos h.all, if_neg]
  · rfl
  · exact ne_true_of_eq_false hnew

theorem takeBroadcastIn_of_find {s : State} {n : Nat} {m : XwMsg} (h : s.xwIn.find? (fun x => isBroadcast x.2) = some (n, m)) :
    takeBroadcastIn s = broadcastReceived n m { s with xwIn := s.xwIn.erase (n, m) } := by
  simp [takeBroadcastIn, takeIn, h]

theorem relayOn_grp (n : Nat) (m : XwMsg) (s : State) : (relayOn n m s).grp = (heard n m s).grp :=
  (Laws.within_xwSendMask ..).grp rfl

/-- The offset e of message `m` that arrives on link `n` (R63). -/
def offsetOf (n : Nat) (m : XwMsg) (s : State) : Int := offsetE (tbHead m).1 (pathOf s n m) s.t

theorem disciplined_grp (n : Nat) (m : XwMsg) (s : State) : (disciplined n m s).grp = { (heard n m s).grp with
    pay := offsetOf n m s, cyc := 0, okRun := okAfter (offsetOf n m s) s.grp, badRun := badAfter (offsetOf n m s) s.grp
    locked := lockedAfter (offsetOf n m s) s.grp } := by
  rw [disciplined, discipline_grp, relayOn_grp]
  rfl

/-- The discipline of T leaves the timebase, T and the packets that wait. -/
theorem disciplined_keeps (n : Nat) (m : XwMsg) (s : State) : (disciplined n m s).tbs = s.tbs ∧ (disciplined n m s).t = s.t ∧
    (disciplined n m s).xwIn = s.xwIn ∧ (disciplined n m s).rst = s.rst ∧ (disciplined n m s).mgt = s.mgt := by
  have hd := Laws.within_discipline (offsetE (tbHead m).1 (pathOf s n m) s.t) (relayOn n m s)
  have hx : Laws.Within 512 (heard n m s) (relayOn n m s) := Laws.within_xwSendMask ..
  exact ⟨(hd.tbs rfl).trans (hx.tbs rfl), (hd.t rfl).trans (hx.t rfl), (hd.xwIn rfl).trans (hx.xwIn rfl),
    (hd.rst rfl).trans (hx.rst rfl), (hd.mgt rfl).trans (hx.mgt rfl)⟩

theorem disciplined_captureMode (n : Nat) (m : XwMsg) (s : State) : captureMode (disciplined n m s) = captureMode s := by
  have hx : (relayOn n m s).regs = s.regs := (Laws.within_xwSendMask ..).regs rfl
  rw [captureMode, rfld, rnat, disciplined, discipline_rget _ _ (by decide), rget_congr hx]
  rfl

theorem disciplined_lane (n : Nat) (m : XwMsg) (s : State) (hm : vcOf (relayed (rfld s (Reg.TBS_XW_LAT + 4 * n) 15 0) m) = 0)
    (hn : n < 4) {k : Nat} (hk : k < 4) :
    xwLane (disciplined n m s) k = if rbit s Reg.TBS_XW_CFG (4 + k) && decide (k ≠ n) then
      laneTook (relayed (rfld s (Reg.TBS_XW_LAT + 4 * n) 15 0) m) (xwLane s k) else xwLane s k := by
  have hd : (disciplined n m s).xw = (relayOn n m s).xw := (Laws.within_discipline ..).xw rfl
  rw [xwLane_congr hd, relayOn, xwLane_xwSendMask hm _ _ hk, bit_maskWithout _ hn hk, bit_txMask s hk]
  rfl

theorem tookBroadcast_keeps (m : XwMsg) (s : State) : (tookBroadcast m s).xw = s.xw ∧ (tookBroadcast m s).xwIn = s.xwIn ∧
    ∃ x, (tookBroadcast m s).grp = { s.grp with masterV := x } := by
  unfold tookBroadcast
  split
  · next v _ _ _ _ _ =>
    have hw := Laws.within_takeBroadcast
    exact ⟨(hw ..).xw rfl, (hw ..).xwIn rfl, v, (hw ..).grp rfl⟩
  · exact ⟨rfl, rfl, s.grp.masterV, rfl⟩

theorem tookBroadcast_keeps_pending (m : XwMsg) {s : State} {c : Nat} (h : eventPending s c = true) :
    eventPending (tookBroadcast m s) c = true := by
  unfold tookBroadcast
  split
  · exact takeBroadcast_keeps_pending _ _ _ _ _ h
  · exact h

/-- A follower takes P, L and V of a broadcast of a later line (R61, R66). -/
theorem takeBroadcast_later {l p v : Nat} (tc : Nat) (st : Bool) {s : State} (hm : captureMode s ≠ 2) (hf : s.tbs.failed = none)
    (hl : laterL l s.tbs.l = true) : (takeBroadcast l p tc v st s).tbs.l = l ∧ (takeBroadcast l p tc v st s).tbs.p = p ∧
      (takeBroadcast l p tc v st s).tbs.v = v := by
  have hswitch : ∀ u : State, (if works u then dsnuSwitch u else u).tbs = u.tbs := fun u => by
    split
    · exact (Laws.within_dsnuSwitch u).tbs rfl
    · rfl
  have htake : ¬ ((decide (captureMode s = 2) || s.tbs.failed.isSome) = true) := by simp [hm, hf]
  have hlater : (laterL l s.tbs.l || s.tbs.lastBoundary.isNone) = true := by simp [hl]
  unfold takeBroadcast
  rw [if_neg (by simpa using htake), if_pos hlater]
  dsimp only
  rw [raiseIf_tbs, hswitch]
  exact ⟨rfl, rfl, rfl⟩

/-- What a follower takes from an accepted broadcast of a later line (R61, R62, R66). -/
theorem accepted_takes_position {n ts h pl tc l v p ls dev : Nat} {st fl : Bool} {m : XwMsg} {s t : State}
    (hmsg : m = .bcast ts h pl tc l v p ls st fl dev) (hacc : Accepts n m s) (ht : broadcastReceived n m s = t)
    (hm : captureMode s ≠ 2) (hf : s.tbs.failed = none) (hl : laterL l s.tbs.l = true) :
    t.tbs.l = l ∧ t.tbs.p = p ∧ t.tbs.v = v ∧ t.grp.hops = h ∧ t.grp.pathLat = pl + rfld s (Reg.TBS_XW_LAT + 4 * n) 15 0 ∧
      t.grp.lastRx = some s.t ∧ t.grp.masterLost = false ∧ t.xwIn = s.xwIn := by
  obtain ⟨htbs, -, hin, -, -⟩ := disciplined_keeps n m s
  have hmode := disciplined_captureMode n m s
  have hgrp := disciplined_grp n m s
  rw [broadcastReceived_accepted hacc] at ht
  generalize disciplined n m s = u at *
  obtain ⟨-, hin', x, hg⟩ := tookBroadcast_keeps m u
  rw [ht] at hin' hg
  have hpos : t.tbs.l = l ∧ t.tbs.p = p ∧ t.tbs.v = v := by
    subst hmsg ht
    exact takeBroadcast_later tc st (s := grpMod (fun g => { g with masterV := v }) u) (by rw [← hmode] at hm; exact hm)
      (by rw [grpMod_tbs, htbs]; exact hf) (by rw [grpMod_tbs, htbs]; exact hl)
  obtain ⟨htl, htp, htv⟩ := hpos
  rw [hg, hgrp, hin', hin]
  subst hmsg
  exact ⟨htl, htp, htv, rfl, rfl, rfl, rfl, rfl⟩

theorem broadcastReceived_brings_position (s : State) (n ts h pl tc l v p ls dev : Nat) (fl : Bool)
    (hx : s.xwIn.find? (fun x => isBroadcast x.2) = some (n, .bcast ts h pl tc l v p ls false fl dev)) (hr : s.grp.role = 2)
    (hu : up s 0x30101 = true) (hb : rbit s Reg.TBS_XW_CFG n = true) (ha : (xwLane s n).accepted = true)
    (ht : s.grp.tLoaded = true) (hc : ∀ x, x ∈ s.grp.copies → x.key ≠ (ts, 0)) (hm : captureMode s ≠ 2)
    (hf : s.tbs.failed = none) (hl : laterL l s.tbs.l = true) :
    completes .broadcastReceived s (fun t => t.tbs.l = l ∧ t.tbs.p = p ∧ t.tbs.v = v ∧ t.grp.hops = h ∧
      t.grp.pathLat = pl + rfld s (Reg.TBS_XW_LAT + 4 * n) 15 0 ∧ t.grp.lastRx = some s.t ∧ t.grp.masterLost = false ∧
      t.xwIn = s.xwIn.erase (n, .bcast ts h pl tc l v p ls false fl dev)) := by
  have hacc : Accepts n (.bcast ts h pl tc l v p ls false fl dev)
      { s with xwIn := s.xwIn.erase (n, .bcast ts h pl tc l v p ls false fl dev) } :=
    ⟨hr, hu, hb, ha, ht, Nat.zero_ne_add_one 1, hc⟩
  exact ⟨takeBroadcastIn s, rfl, accepted_takes_position rfl hacc (takeBroadcastIn_of_find hx).symm hm hf hl⟩

/-- An accepted message goes on over every other link of TX_MASK, and not back over the one it came by (R62). -/
theorem accepted_relays {n : Nat} {m : XwMsg} {s : State} (hacc : Accepts n m s)
    (hvc : vcOf (relayed (rfld s (Reg.TBS_XW_LAT + 4 * n) 15 0) m) = 0) (hn : n < 4) :
    (∀ k, k < 4 → k ≠ n → rbit s Reg.TBS_XW_CFG (4 + k) = true → (xwLane s k).st = 2 → (xwLane s k).accepted = true →
      (xwLane (broadcastReceived n m s) k).q0 =
        (xwLane s k).q0 ++ [relayed (rfld s (Reg.TBS_XW_LAT + 4 * n) 15 0) m]) ∧
    (xwLane (broadcastReceived n m s) n).q0 = (xwLane s n).q0 := by
  have hlane : ∀ k, xwLane (broadcastReceived n m s) k = xwLane (disciplined n m s) k := fun k => by
    rw [broadcastReceived_accepted hacc]
    exact xwLane_congr (tookBroadcast_keeps _ _).1 k
  refine ⟨fun k hk hne hb hup ha => ?_, ?_⟩
  · rw [hlane, disciplined_lane n m s hvc hn hk, hb, decide_eq_true hne, if_pos (by rfl), laneTook_up hup ha]
  · rw [hlane, disciplined_lane n m s hvc hn hn, decide_eq_false (not_not.mpr rfl), Bool.and_false, if_neg Bool.false_ne_true]

theorem accepted_grp {n : Nat} {m : XwMsg} {s : State} (hacc : Accepts n m s) : ∃ x, (broadcastReceived n m s).grp =
    { (disciplined n m s).grp with masterV := x } := by
  rw [broadcastReceived_accepted hacc]
  exact (tookBroadcast_keeps m _).2.2

/-- A change of LOCKED by an accepted message raises 0x305 (R63). -/
theorem accepted_eventPending {n : Nat} {m : XwMsg} {s : State} (hacc : Accepts n m s) (hev : eventsTaken s = true)
    (h : lockedAfter (offsetOf n m s) s.grp ≠ s.grp.locked) : eventPending (broadcastReceived n m s) 0x305 = true := by
  have hrst : (relayOn n m s).rst = s.rst := (Laws.within_xwSendMask ..).rst rfl
  rw [broadcastReceived_accepted hacc]
  refine tookBroadcast_keeps_pending m (discipline_eventPending _ ?_ ?_)
  · rw [← hev, eventsTaken, inReset, hrst, eventsTaken, inReset]
  · rw [relayOn_grp]
    exact h

/-- What an accepted message makes of the correction of T, of the runs of good and bad arrivals, and of LOCKED (R63). -/
theorem accepted_disciplines {n : Nat} {m : XwMsg} {s : State} (hacc : Accepts n m s) (hev : eventsTaken s = true) :
    (broadcastReceived n m s).grp.pay = offsetOf n m s ∧
    (broadcastReceived n m s).grp.okRun = okAfter (offsetOf n m s) s.grp ∧
    (broadcastReceived n m s).grp.badRun = badAfter (offsetOf n m s) s.grp ∧
    (s.grp.locked = false → ((broadcastReceived n m s).grp.locked = true ↔ (broadcastReceived n m s).grp.okRun = 8)) ∧
    (s.grp.locked = true → ((broadcastReceived n m s).grp.locked = false ↔ (broadcastReceived n m s).grp.badRun = 4) ∧
      ((broadcastReceived n m s).grp.locked = false → eventPending (broadcastReceived n m s) 0x305 = true)) := by
  obtain ⟨x, hg⟩ := accepted_grp hacc
  rw [hg, disciplined_grp]
  refine ⟨rfl, rfl, rfl, fun hl => ?_, fun hl => ⟨?_, fun hno => ?_⟩⟩
  · simp [lockedAfter, hl]
  · simp [lockedAfter, hl]
  · refine accepted_eventPending hacc hev ?_
    rw [hl]
    exact ne_true_of_eq_false hno

theorem broadcastReceived_relays_and_disciplines (s : State) (n ts h pl kind tc l v p ls dev tm : Nat) (st fl : Bool)
    (m r : XwMsg) (e : Int) (hx : s.xwIn.find? (fun x => isBroadcast x.2) = some (n, m))
    (hmsg : (m = .bcast ts h pl tc l v p ls st fl dev ∧ kind = 0 ∧
        r = .bcast ts (h + 1) (pl + rfld s (Reg.TBS_XW_LAT + 4 * n) 15 0) tc l v p ls st fl dev) ∨
      (m = .beacon ts h pl dev tm ∧ kind = 1 ∧ r = .beacon ts (h + 1) (pl + rfld s (Reg.TBS_XW_LAT + 4 * n) 15 0) dev tm))
    (hn : n < 4) (hr : s.grp.role = 2) (hu : up s 0x30101 = true) (hb : rbit s Reg.TBS_XW_CFG n = true)
    (ha : (xwLane s n).accepted = true) (ht : s.grp.tLoaded = true) (hc : ∀ x, x ∈ s.grp.copies → x.key ≠ (ts, kind))
    (hev : eventsTaken s = true) (he : e = diffMod 40 (ts + (pl + rfld s (Reg.TBS_XW_LAT + 4 * n) 15 0)) s.t) :
    completes .broadcastReceived s (fun t =>
      (∀ k, k < 4 → k ≠ n → rbit s Reg.TBS_XW_CFG (4 + k) = true → (xwLane s k).st = 2 → (xwLane s k).accepted = true →
        (xwLane t k).q0 = (xwLane s k).q0 ++ [r]) ∧
      (xwLane t n).q0 = (xwLane s n).q0 ∧ t.grp.pay = e ∧
      t.grp.okRun = (if e.natAbs ≤ 4 then min 8 (s.grp.okRun + 1) else 0) ∧
      t.grp.badRun = (if 10 < e.natAbs then min 4 (s.grp.badRun + 1) else 0) ∧
      (s.grp.locked = false → (t.grp.locked = true ↔ t.grp.okRun = 8)) ∧
      (s.grp.locked = true → (t.grp.locked = false ↔ t.grp.badRun = 4) ∧
        (t.grp.locked = false → eventPending t 0x305 = true))) := by
  refine ⟨takeBroadcastIn s, rfl, ?_⟩
  beta_reduce
  rw [takeBroadcastIn_of_find hx, he]
  rcases hmsg with ⟨rfl, rfl, rfl⟩ | ⟨rfl, rfl, rfl⟩
  · have hacc : Accepts n (.bcast ts h pl tc l v p ls st fl dev)
        { s with xwIn := s.xwIn.erase (n, .bcast ts h pl tc l v p ls st fl dev) } :=
      ⟨hr, hu, hb, ha, ht, Nat.zero_ne_add_one 1, hc⟩
    obtain ⟨hrel, hown⟩ := accepted_relays hacc rfl hn
    exact ⟨hrel, hown, accepted_disciplines hacc hev⟩
  · have hacc : Accepts n (.beacon ts h pl dev tm) { s with xwIn := s.xwIn.erase (n, .beacon ts h pl dev tm) } :=
      ⟨hr, hu, hb, ha, ht, Nat.succ_ne_succ_iff.mpr Nat.zero_ne_one, hc⟩
    obtain ⟨hrel, hown⟩ := accepted_relays hacc rfl hn
    exact ⟨hrel, hown, accepted_disciplines hacc hev⟩

/-! ### The load of T (R64, R65) -/

/-- The stamps that move with T are no part of what is in reset. -/
theorem inReset_elapsedKept (d : Int) (s : State) (fid : Nat) : inReset (elapsedKept d s) fid = inReset s fid := by
  simp only [inReset, elapsedKept, List.any_map]
  rfl

theorem inReset_abandonJumped (t : Nat) (s : State) (fid : Nat) : inReset (abandonJumped t s) fid = inReset s fid := by
  rw [inReset, inReset, (Laws.within_abandonJumped t s).rst rfl]

theorem loadT_t (t : Nat) (s : State) : (loadT t s).t = t % 2 ^ 64 := by
  unfold loadT
  dsimp only
  rw [raise0_t, grpMod_t]

theorem loadT_grp (t : Nat) (s : State) :
    (loadT t s).grp = { s.grp with tLoaded := true, okRun := 0, badRun := 0, pay := 0 } := by
  have h : ∀ d, (elapsedKept d (abandonJumped (t % 2 ^ 64) s)).grp = s.grp := fun d =>
    ((Laws.within_elapsedKept d _).grp rfl).trans ((Laws.within_abandonJumped _ s).grp rfl)
  unfold loadT
  dsimp only
  rw [raise0_grp, grpMod_grp, h]

theorem loadT_eventPending (t : Nat) {s : State} (hev : eventsTaken s = true) : eventPending (loadT t s) 0x309 = true := by
  unfold loadT
  refine raise0_eventPending _ _ _ ?_
  rw [← hev]
  exact congrArg Bool.not ((inReset_elapsedKept _ _ _).trans (inReset_abandonJumped _ s _))

theorem takeAnnounceIn_of_find {s : State} {n : Nat} {m : XwMsg} (h : s.xwIn.find? (fun x => isAnnounce x.2) = some (n, m)) :
    takeAnnounceIn s = announceTaken n m { s with xwIn := s.xwIn.erase (n, m) } := by
  simp [takeAnnounceIn, takeIn, h]

/-- A follower that has accepted an announcement on link `n`, and relayed it (R65). -/
def announced (n : Nat) (m : XwMsg) (s : State) : State :=
  grpMod (fun g => { g with accepted := true, noMaster := false, lastRx := some s.t })
    (xwSendMask ((rfld s Reg.TBS_XW_CFG 7 4) &&& (15 - 2 ^ n)) (relayed (rfld s (Reg.TBS_XW_LAT + 4 * n) 15 0) m) s)

/-- A follower without T loads it from an announcement of a master with its own LS_DELAY (R65). -/
theorem announceTaken_loads {s : State} {n ts h pl dev tm ls : Nat} (hr : s.grp.role = 2) (hu : up s 0x30101 = true)
    (hb : rbit s Reg.TBS_XW_CFG n = true) (ha : (xwLane s n).accepted = true) (ht : s.grp.tLoaded = false) (hls : ls = lsDelay s) :
    announceTaken n (.announce ts h pl dev tm ls) s =
      loadT (tm + pl + rfld s (Reg.TBS_XW_LAT + 4 * n) 15 0) (announced n (.announce ts h pl dev tm ls) s) := by
  simp [announceTaken, hu, hb, ha, hr, hls, ht, announced]

theorem announceReceived_loads_time (s : State) (n ts h pl dev tm ls : Nat)
    (hx : s.xwIn.find? (fun x => isAnnounce x.2) = some (n, .announce ts h pl dev tm ls)) (hr : s.grp.role = 2)
    (hu : up s 0x30101 = true) (hb : rbit s Reg.TBS_XW_CFG n = true) (ha : (xwLane s n).accepted = true)
    (ht : s.grp.tLoaded = false) (hls : ls = lsDelay s) (hev : eventsTaken s = true) :
    completes .announceReceived s (fun t => t.t = (tm + pl + rfld s (Reg.TBS_XW_LAT + 4 * n) 15 0) % 2 ^ 64 ∧
      t.grp.tLoaded = true ∧ t.grp.accepted = true ∧ t.grp.noMaster = false ∧ eventPending t 0x309 = true) := by
  have htake : takeAnnounceIn s = _ := (takeAnnounceIn_of_find hx).trans (announceTaken_loads hr hu hb ha ht hls)
  refine ⟨takeAnnounceIn s, rfl, ?_⟩
  beta_reduce
  rw [htake, loadT_t, loadT_grp]
  refine ⟨rfl, rfl, rfl, rfl, loadT_eventPending _ ?_⟩
  rw [← hev, eventsTaken, inReset, announced, grpMod_rst, (Laws.within_xwSendMask ..).rst rfl]
  rfl

/-! ### A follower without a master (R65, R66) -/

theorem noMaster_raises (s : State) (hr : s.grp.role = 2) (ha : s.grp.accepted = false) (hn : s.grp.noMaster = false)
    (hev : eventsTaken s = true) :
    completes .noMaster s (fun t => t.grp = { s.grp with noMaster := true } ∧ eventPending t 0x307 = true) := by
  have hcmd : noMasterCmd s = raise0 0x307 0x30101 [] (grpMod (fun g => { g with noMaster := true }) s) := by
    simp [noMasterCmd, hr, ha, hn]
  refine ⟨noMasterCmd s, rfl, ?_, ?_⟩ <;> rw [hcmd]
  · rw [raise0_grp, grpMod_grp]
  · exact raise0_eventPending _ _ _ hev

theorem applyOnFail_of_not_failed (v : Nat) {s : State} (h : s.tbs.failed = none) :
    applyOnFail v s = tbsMod (fun b => { b with failed := some ⟨onFail s, v, s.t⟩, rateAcc := 0 }) s := by
  simp [applyOnFail, h]

theorem masterLost_applies_policy (s : State) (hr : s.grp.role = 2) (ha : s.grp.accepted = true) (hl : s.grp.masterLost = false)
    (hf : s.tbs.failed = none) (hev : eventsTaken s = true) :
    completes .masterLost s (fun t => t.grp = { s.grp with masterLost := true } ∧
      t.tbs.failed = some ⟨onFail s, s.grp.masterV, s.t⟩ ∧ t.tbs.p = s.tbs.p ∧ eventPending t 0x306 = true) := by
  have hcmd : masterLostCmd s = applyOnFail s.grp.masterV
      (raise0 0x306 0x30101 [] (grpMod (fun g => { g with masterLost := true }) s)) := by
    simp [masterLostCmd, hr, ha, hl]
  have hevent := raise0_eventPending 0x306 0x30101 [] (s := grpMod (fun g => { g with masterLost := true }) s) hev
  refine ⟨masterLostCmd s, rfl, ?_⟩
  beta_reduce
  rw [hcmd, applyOnFail_of_not_failed _ (by rw [raise0_tbs]; exact hf)]
  refine ⟨?_, ?_, ?_, hevent⟩
  · rw [tbsMod_grp, raise0_grp, grpMod_grp]
  · rw [tbsMod_tbs, raise0_t, onFail, rfld_congr (raise0_regs ..)]
    rfl
  · rw [tbsMod_tbs, raise0_tbs, grpMod_tbs]

/-- Settles O10: the clauses, each proved above, in their order. -/
theorem masterAndFollowersShareTime : Obligations.MasterAndFollowersShareTime :=
  ⟨beaconSend_reaches_links, announceSend_reaches_links, broadcastReceived_brings_position,
    broadcastReceived_relays_and_disciplines, announceReceived_loads_time, noMaster_raises, masterLost_applies_policy⟩

end Sys2Proof.Proofs
end

section
/-! PROOFS. Two statements that fail: a neighbour's fragment that has found its object outlives the end of its window (R237), and a late
sector that is the last to draw a line has the background tracker change what the other sectors keep (R156, R171). Each with a state
that the model evaluates. -/

namespace Sys2Proof.Proofs

open Sys2Proof Sys2Proof.Machine

/-- A device in RUN with its timebase in service. -/
def runningDevice : State :=
  { State.reset with mgt.state := .run, mgt.step := 8, mgt.loaded := true, tbs.inService := true }

/-- A device with the register at `a` at the value `v`. -/
def withRegister (a v : Nat) (s : State) : State := { s with regs := mput s.regs a (BitVec.ofNat 32 v) }

/-- An answer of a command is the one that `exec` gives. -/
theorem completes_next {c : Instr} {s u : State} {P : State → Prop} (h : completes c s P) (hu : exec c s = .next u) : P u := by
  obtain ⟨t, ht, hP⟩ := h
  obtain rfl : u = t := by
    rw [hu] at ht
    exact Host.Outcome.next.inj ht
  exact hP

/-! ### Fragments of neighbours (R237) -/

/-- While every neighbour fragment matches an object that waits, the end of the window discards none. -/
theorem fragmentExpire_of_all_matched {s : State}
    (h : ∀ q ∈ s.vdt.frags, (waiting s).any (fun p => fragMatch s p.2 q) = true) : fragmentExpire s = s := by
  have hnone : s.vdt.frags.find? (fun q => !(waiting s).any (fun p => fragMatch s p.2 q)) = none :=
    List.find?_eq_none.mpr (fun q hq => by simp [h q hq])
  simp only [fragmentExpire, hnone]

/-- The fragment of a neighbour on link 0 that touches the edge on line 0. -/
def neighbourFragment : XwRec := ⟨0, 0, 0, 0, [], (0, 0)⟩

/-- An object that touches both edges on line 0 and waits for a fragment on either link; that on link 0 has come. -/
def waitsForSecondLink : State :=
  withRegister Reg.VDT_XW_CFG 0xC0000000 { runningDevice with
    vdt.objs := [(0, { Obj.reset with st := 4, flags := 2 ^ 7 + 2 ^ 8, edgeLo := some (0, 0), edgeHi := some (0, 0) })]
    vdt.frags := [neighbourFragment] }

theorem waitsForSecondLink_matched : ∀ q ∈ waitsForSecondLink.vdt.frags,
    (waiting waitsForSecondLink).any (fun p => fragMatch waitsForSecondLink p.2 q) = true := by decide +kernel

/-- Refutes O19: NEIGHBOUR_FRAGMENT_EXPIRE discards the oldest fragment that matches no own object, where the statement says of every
state that the oldest fragment goes. In `waitsForSecondLink` the one fragment has found its object, which still waits for the
other link, and stays. -/
theorem not_fragmentsAndPartnerRecordsAreMatched : ¬ Obligations.FragmentsAndPartnerRecordsAreMatched := by
  rintro ⟨-, -, -, -, hexpire, -⟩
  have h := completes_next (hexpire waitsForSecondLink) (u := fragmentExpire waitsForSecondLink) rfl
  rw [fragmentExpire_of_all_matched waitsForSecondLink_matched] at h
  have hgone : waitsForSecondLink.vdt.frags = [] := congrArg (fun s : State => s.vdt.frags) h
  cases hgone

/-! ### A late sector (R171) -/

/-- A set that captures row 0 of band 0, in the eight columns from 1536 on, which lie in sector 1. -/
def firstColumnsOfSectorOne : CapSet :=
  ⟨List.replicate 8 0 ++ 0x10000 :: List.replicate 19 0 ++ [192 * 2 ^ 16 + 1], []⟩

/-- Registered line 0 that every sector but sector 0 has drawn, with one background sample in sector 1. -/
def drawnButForSectorZero : RegPart where
  line := {
    l := 0, p := 0, epoch := 0, gap := false, invalid := 0, absent := 0x1FE, settle := 0, blk := 0, short := [], capEpoch := []
    set := firstColumnsOfSectorOne, codes := [(1536, 100)], labels := [], cls := [], accLeft := [], emitted := false, shed := 0
    ports := 0, trigT := 0, own := [], mosB := 0 }
  done := [1, 2, 3, 4, 5, 6, 7, 8, 9, 10, 11]
  lack := []
  inv := []
  late := []

/-- Line 4 has come, and in sector 0 a segment of line 0 still waits for the band store and registered line 0 for REG, while sector 1 has
taken conversions of line 4; the background tracker runs on band 0. -/
def lateSectorDrawsLast : State :=
  withRegister Reg.PIP_BG_CFG 0x80000064 { runningDevice with
    tbs.l := 4
    pip.parts := [drawnButForSectorZero]
    pip.sec := [(0, { Sec.reset with wq := [⟨0, 1, 0, 0, [], false, false, false, false, false⟩], due := [0] }),
      (1, { Sec.reset with entered := some 4 })] }

/-- The tracker keeps, for the lines that have entered sector 1, the gain that it had (R156). -/
theorem sectorCheck_changes_other_sector :
    (secOf (sectorCheck 0 lateSectorDrawsLast) 1).bgOld ≠ (secOf lateSectorDrawsLast 1).bgOld := by decide +kernel

/-- Refutes O16: the statement says that DL_SECTOR_CHECK leaves every other sector unit as it was. In `lateSectorDrawsLast` the late
sector is the last to draw registered line 0, so that the background tracker takes the line at once, and sector 1 keeps the gain in
force for the lines that have entered it. -/
theorem not_lateSectorsDsnuAndLineUnits : ¬ Obligations.LateSectorsDsnuAndLineUnits := by
  rintro ⟨hlate, -⟩
  have h := hlate lateSectorDrawsLast 0 (by decide) (by decide +kernel) (by decide +kernel) (by decide +kernel) (by decide +kernel)
  obtain ⟨-, -, hothers, -⟩ := completes_next h (u := sectorCheck 0 lateSectorDrawsLast) rfl
  exact sectorCheck_changes_other_sector (congrArg Sec.bgOld (hothers 1 (by decide)))

end Sys2Proof.Proofs
end

section
/-! PROOFS. Commits of the staged set: refused, pending, withdrawn, frozen and applied (R96-R99), and the reset of capture control that
cancels a pending commit (R98, R521). -/

namespace Sys2Proof.Proofs

open Sys2Proof Sys2Proof.Machine

/-! ### Registers and events that an operation leaves -/

theorem rfld_of_rget {s t : State} {a : Nat} (h : rget t a = rget s a) (hi lo : Nat) : rfld t a hi lo = rfld s a hi lo := by
  rw [rfld, rfld, rnat, rnat, h]

theorem rget_rsets_other (s : State) {l : List (Nat × Nat)} {a : Nat} (h : ∀ p ∈ l, a ≠ p.1) : rget (rsets s l) a = rget s a := by
  induction l generalizing s with
  | nil => rfl
  | cons p l ih =>
    obtain ⟨hp, hl⟩ := List.forall_mem_cons.mp h
    exact (ih _ hl).trans (rget_rset_other s _ hp)

/-- A register that is written once in a list of writes takes its word. -/
theorem rnat_rsets_of_mem (s : State) {l : List (Nat × Nat)} {a v : Nat} (hl : (l.map (·.1)).Nodup) (h : (a, v) ∈ l) :
    rnat (rsets s l) a = v % 2 ^ 32 := by
  induction l generalizing s with
  | nil => cases h
  | cons p l ih =>
    obtain ⟨hp, hl'⟩ := List.nodup_cons.mp hl
    rcases List.mem_cons.mp h with rfl | h
    · have hother : ∀ q ∈ l, a ≠ q.1 := fun q hq e => hp (List.mem_map.mpr ⟨q, hq, e.symm⟩)
      exact (congrArg BitVec.toNat (rget_rsets_other _ hother)).trans (rnat_rset_same s a v)
    · exact ih _ hl' h

/-- A fold of operations that keep `g` keeps it. -/
theorem foldl_keeps {α β : Type} {g : State → β} {f : State → α → State} (h : ∀ u a, g (f u a) = g u) (l : List α) (s : State) :
    g (l.foldl f s) = g s := by
  induction l generalizing s with
  | nil => rfl
  | cons a l ih => exact (ih _).trans (h s a)

theorem eventPending_of_evt {s t : State} (h : t.evt = s.evt) (code : Nat) : eventPending t code = eventPending s code := by
  rw [eventPending, eventPending, h]

theorem eventsTaken_of_rst {s t : State} (h : t.rst = s.rst) : eventsTaken t = eventsTaken s := by
  rw [eventsTaken, eventsTaken, inReset, inReset, h]

/-! ### What a commit makes of the array (R96, R97) -/

@[simp] theorem applyResult_ary (r : Nat) (s : State) : (applyResult r s).ary = s.ary := rfset_ary ..
@[simp] theorem applyResult_evt (r : Nat) (s : State) : (applyResult r s).evt = s.evt := rfset_evt ..
@[simp] theorem applyResult_rst (r : Nat) (s : State) : (applyResult r s).rst = s.rst := rfset_rst ..
@[simp] theorem applyResult_aux (r : Nat) (s : State) : (applyResult r s).aux = s.aux := rfset_aux ..

theorem applyResult_result (r : Nat) (s : State) : rfld (applyResult r s) Reg.ARY_APPLY_STATUS 23 20 = r % 16 :=
  rfld_rfset_same s _ r (by omega) (by omega)

/-- The array with the staged set pending for line `l` (R96, R98). -/
def staged (l : Nat) (s : State) : Ary := { s.ary with
  pend := some ⟨stagedSet s, l, (s.ary.epoch + 1) % 256, false⟩
  epochs := s.ary.epochs ++ [⟨(s.ary.epoch + 1) % 256, stagedSet s, false, none⟩] }

/-- The companion values that a commit takes with it are all that it changes beyond the array. -/
theorem withAux_of_same_ary {s u : State} (h : u.ary = s.ary) : withAux s u = u := by
  unfold withAux
  rw [h]
  cases hp : s.ary.pend <;> rfl

theorem commitAt_of_domain_stopped {chk : CapSet → Option Nat} {l : Nat} {s : State} (h : domainRuns s 1 = false) :
    commitAt chk l s = s := by
  simp [commitAt, h]

section
variable {s : State} (hload : s.ary.loaded = true) (hrun : domainRuns s 1 = true) (hres : inReset s 0x10000 = false)
include hload hrun hres

theorem commitAt_pending {chk : CapSet → Option Nat} {l : Nat} (h : commitRefusal chk l s = none) :
    commitAt chk l s = applyResult 1 (rfset { s with ary := staged l s } Reg.ARY_APPLY_STATUS 31 24 ((s.ary.epoch + 1) % 256)) := by
  simp only [commitAt, hload, hrun, hres, h, Bool.not_true, Bool.or_false, Bool.false_eq_true, if_false]
  rfl

theorem commitAt_refused {chk : CapSet → Option Nat} {l r : Nat} (h : commitRefusal chk l s = some r) :
    commitAt chk l s = refuseCommit r s := by
  simp only [commitAt, hload, hrun, hres, h, Bool.not_true, Bool.or_false, Bool.false_eq_true, if_false]

/-- A commit that passes every check is pending, with RESULT 1 and the epoch that it will receive. -/
theorem withAux_commitAt_pending {l : Nat} (h : commitRefusal (stagedCheck s) l s = none) :
    (withAux s (commitAt (stagedCheck s) l s)).ary = staged l s ∧
      rfld (withAux s (commitAt (stagedCheck s) l s)) Reg.ARY_APPLY_STATUS 23 20 = 1 ∧
      rfld (withAux s (commitAt (stagedCheck s) l s)) Reg.ARY_APPLY_STATUS 31 24 = (s.ary.epoch + 1) % 256 := by
  have haux := Laws.within_withAux s (commitAt (stagedCheck s) l s)
  rw [haux.ary rfl, rfld_congr (haux.regs rfl), rfld_congr (haux.regs rfl), commitAt_pending hload hrun hres h]
  refine ⟨rfl, applyResult_result 1 _, ?_⟩
  rw [applyResult, rfld_rfset_apart _ _ _ (by omega) (by omega) (by omega) (by omega),
    rfld_rfset_same _ _ _ (by omega) (by omega)]
  exact Nat.mod_mod _ _

end

theorem refuseCommit_regs (r : Nat) (s : State) : (refuseCommit r s).regs = (applyResult r s).regs := by
  unfold refuseCommit
  dsimp only
  split <;> simp only [raise0_regs]

theorem refuseCommit_eventPending (r : Nat) {s : State} (h : eventsTaken s = true) : eventPending (refuseCommit r s) 0x101 = true := by
  have hraised := raise0_eventPending 0x101 0x10000 [r] (s := applyResult r s)
    ((eventsTaken_of_rst (applyResult_rst r s)).trans h)
  unfold refuseCommit
  dsimp only
  split
  · exact raise_keeps_pending _ _ _ _ _ hraised
  · exact hraised

/-- A commit that fails a check leaves the array and the companion values, with the RESULT of the check and event 0x101. -/
theorem withAux_commitAt_refused {s : State} {l r : Nat} (hload : s.ary.loaded = true) (hrun : domainRuns s 1 = true)
    (hres : inReset s 0x10000 = false) (hev : eventsTaken s = true) (h : commitRefusal (stagedCheck s) l s = some r) :
    (withAux s (commitAt (stagedCheck s) l s)).ary = s.ary ∧ (withAux s (commitAt (stagedCheck s) l s)).aux = s.aux ∧
      rfld (withAux s (commitAt (stagedCheck s) l s)) Reg.ARY_APPLY_STATUS 23 20 = r % 16 ∧
      eventPending (withAux s (commitAt (stagedCheck s) l s)) 0x101 = true := by
  have hary : (refuseCommit r s).ary = s.ary := (Laws.within_refuseCommit r s).ary rfl
  rw [commitAt_refused hload hrun hres h, withAux_of_same_ary hary, rfld_congr (refuseCommit_regs r s)]
  exact ⟨hary, (Laws.within_refuseCommit r s).aux rfl, applyResult_result r s, refuseCommit_eventPending r hev⟩

theorem withAux_commitAt_stopped {s : State} {l : Nat} (h : domainRuns s 1 = false) :
    withAux s (commitAt (stagedCheck s) l s) = s := by
  rw [commitAt_of_domain_stopped h, withAux_of_same_ary rfl]

theorem commit_ignored_when_stopped (s : State) (h : domainRuns s 1 = false) :
    completes .commit s (fun t => t.ary = s.ary ∧ t.regs = s.regs ∧ t.evt = s.evt) := by
  have hsame : commitStaged s = s := withAux_commitAt_stopped h
  refine ⟨commitStaged s, rfl, ?_⟩
  rw [hsame]
  exact ⟨rfl, rfl, rfl⟩

/-! ### A commit that is withdrawn or frozen (R98) -/

/-- The array without its pending commit `p`, whose epoch is no longer live (R98). -/
def withdrawn (p : PendingCommit) (a : Ary) : Ary :=
  { a with pend := none, epochs := a.epochs.filter (fun x => x.applied || x.e != p.epoch) }

theorem withdrawCommit_ary (r : Nat) (p : PendingCommit) (s : State) : (withdrawCommit r p s).ary = withdrawn p s.ary := by
  rw [withdrawCommit, raise0_ary, applyResult_ary, rfset_ary, aryMod_ary]
  rfl

theorem withdrawCommit_result (r : Nat) (p : PendingCommit) (s : State) :
    rfld (withdrawCommit r p s) Reg.ARY_APPLY_STATUS 23 20 = r % 16 :=
  (rfld_congr (raise0_regs ..) _ _ _).trans (applyResult_result r _)

theorem withdrawCommit_eventPending (r : Nat) (p : PendingCommit) {s : State} (h : eventsTaken s = true) :
    eventPending (withdrawCommit r p s) 0x102 = true :=
  raise0_eventPending _ _ _ ((eventsTaken_of_rst (by rw [applyResult_rst, rfset_rst, aryMod_rst])).trans h)

theorem cancelStaged_unfrozen {s : State} {p : PendingCommit} (hp : s.ary.pend = some p) (hf : p.frozen = false) :
    cancelStaged s = auxUncommit (withdrawCommit 3 p s) := by
  have hcancel : cancel s = withdrawCommit 3 p s := by simp [cancel, hp, hf]
  simp [cancelStaged, hcancel, withdrawCommit_ary, withdrawn, hp]

theorem cancelStaged_frozen {s : State} {p : PendingCommit} (hp : s.ary.pend = some p) (hf : p.frozen = true) :
    cancelStaged s = applyResult 10 s := by
  have hcancel : cancel s = applyResult 10 s := by simp [cancel, hp, hf]
  simp [cancelStaged, hcancel, hp]

theorem cancel_withdraws_pending_commit (s : State) (p : PendingCommit) (hp : s.ary.pend = some p) (hf : p.frozen = false)
    (hev : eventsTaken s = true) :
    completes .cancel s (fun t => t.ary = withdrawn p s.ary ∧ rfld t Reg.ARY_APPLY_STATUS 23 20 = 3 ∧
      eventPending t 0x102 = true) := by
  refine ⟨cancelStaged s, rfl, ?_⟩
  beta_reduce
  have haux := Laws.within_auxUncommit (withdrawCommit 3 p s)
  rw [cancelStaged_unfrozen hp hf, haux.ary rfl, rfld_congr (haux.regs rfl), eventPending_of_evt (haux.evt rfl)]
  exact ⟨withdrawCommit_ary 3 p s, withdrawCommit_result 3 p s, withdrawCommit_eventPending 3 p hev⟩

theorem epochFreeze_freezes (s : State) (p : PendingCommit) (hp : s.ary.pend = some p) (hl : diffMod 32 p.lApply s.tbs.l ≤ 1) :
    completes .epochFreeze s (fun t => t = { s with ary := { s.ary with pend := some { p with frozen := true } } }) := by
  refine ⟨epochFreeze s, rfl, ?_⟩
  simp only [epochFreeze, hp, hl, if_true]
  rfl

theorem cancel_of_frozen_is_refused (s : State) (p : PendingCommit) (hp : s.ary.pend = some p) (hf : p.frozen = true) :
    completes .cancel s (fun t => t.ary = s.ary ∧ t.aux = s.aux ∧ t.evt = s.evt ∧
      rfld t Reg.ARY_APPLY_STATUS 23 20 = 10) := by
  refine ⟨cancelStaged s, rfl, ?_⟩
  beta_reduce
  rw [cancelStaged_frozen hp hf]
  exact ⟨applyResult_ary 10 s, applyResult_aux 10 s, applyResult_evt 10 s, applyResult_result 10 s⟩

/-! ### The reset of capture control (R98, R521) -/

/-- A register none of whose fields a reset of `f` clears keeps its word through it (R521). -/
theorem rget_clearOwned {f a : Nat} (s : State) (hf : f ≠ 0xB0201) (h : ∀ w, clearedWord f a w = w) :
    rget (clearOwned f s) a = rget s a := by
  rw [clearOwned, if_neg hf]
  refine foldl_keeps (g := fun u => rget u a) (fun u b => ?_) _ s
  by_cases hb : a = b
  · rw [← hb, rget_rset_same, h, rnat, BitVec.ofNat_toNat, BitVec.setWidth_eq]
  · exact rget_rset_other u _ hb

/-- Status fields stay (R521): ARY_APPLY_STATUS has no other. -/
theorem clearedWord_ARY_APPLY_STATUS (w : Nat) : clearedWord 0x10000 Reg.ARY_APPLY_STATUS w = w := by
  have hfields : ((findReg Reg.ARY_APPLY_STATUS).map (fun d => d.1.flds.filter (fun g =>
      (g.acc == .rw || g.acc == .rwh) && fieldFid Reg.ARY_APPLY_STATUS g.hi == 0x10000))) = some [] := by decide +kernel
  obtain ⟨⟨d, n⟩, hd, hnone⟩ := Option.map_eq_some_iff.mp hfields
  simp [clearedWord, hd, hnone]

theorem rget_holdFunction {a : Nat} (r : RstRun) (s : State) (h : a ≠ Reg.MGT_RST_LAST) : rget (holdFunction r s) a = rget s a := by
  unfold holdFunction
  rw [rget_congr ((Laws.within_endRun ..).regs rfl), funcReset, raiseAbout, rget_congr (raise_regs ..)]
  exact rget_rset_other s _ h

section
variable {f : Nat} {s : State} {r : RstRun} (hr : runOf s f = some r) (hp : r.phase = .fired)
include hr hp

/-- What a reset does at its quiesce, past its scope and the registers that it clears, leaves the array, and of the registers all but
MGT_RST_LAST (R521, R522). -/
theorem resetQuiesce_keeps {a : Nat} (ha : a ≠ Reg.MGT_RST_LAST) : (resetQuiesce f s).ary = (resetScope f s).ary ∧
    rget (resetQuiesce f s) a = rget (clearOwned f (resetScope f s)) a := by
  have hclear : (clearOwned f (resetScope f s)).ary = (resetScope f s).ary := (Laws.within_clearOwned ..).ary rfl
  simp only [resetQuiesce, hr, hp, ne_eq, not_true_eq_false, if_false]
  generalize clearOwned f (resetScope f s) = u at hclear ⊢
  split
  · have hsettle := Laws.within_nvSettle
    rw [(hsettle _).ary rfl, (Laws.within_holdFunction ..).ary rfl, (hsettle _).ary rfl, rget_congr ((hsettle _).regs rfl),
      rget_holdFunction _ _ ha, rget_congr ((hsettle _).regs rfl)]
    exact ⟨hclear, rfl⟩
  · exact ⟨hclear, rfl⟩

theorem quiesceReset_fired : quiesceReset f s = dropLatches f (resetQuiesce f s) := by
  simp [quiesceReset, hr, hp]

end

theorem resetScope_capture_control {s : State} {p : PendingCommit} (hp : s.ary.pend = some p) :
    resetScope 0x10000 s = withdrawCommit 9 p s := by
  have hscope : resetScope 0x10000 s = aryResetScope 0x10000 s := rfl
  rw [hscope, aryResetScope, if_pos rfl, hp]

theorem resetQuiesce_of_capture_control_cancels (s : State) (p : PendingCommit) (r : RstRun) (hp : s.ary.pend = some p)
    (hr : runOf s 0x10000 = some r) (hph : r.phase = .fired) :
    completes (.resetQuiesce 0x10000) s (fun t => t.ary = withdrawn p s.ary ∧ rfld t Reg.ARY_APPLY_STATUS 23 20 = 9) := by
  obtain ⟨hary, hget⟩ := resetQuiesce_keeps (a := Reg.ARY_APPLY_STATUS) hr hph (by decide)
  have hdrop := Laws.within_dropLatches 0x10000 (resetQuiesce 0x10000 s)
  rw [rget_clearOwned _ (by decide) clearedWord_ARY_APPLY_STATUS, resetScope_capture_control hp] at hget
  rw [resetScope_capture_control hp] at hary
  refine ⟨quiesceReset 0x10000 s, rfl, ?_⟩
  beta_reduce
  rw [quiesceReset_fired hr hph, hdrop.ary rfl, rfld_congr (hdrop.regs rfl), rfld_of_rget hget]
  exact ⟨hary.trans (withdrawCommit_ary 9 p s), withdrawCommit_result 9 p s⟩

/-- Settles O12: the clauses, each proved above, in their order. -/
theorem pendingCommitIsCancelledUntilFrozen : Obligations.PendingCommitIsCancelledUntilFrozen :=
  ⟨cancel_withdraws_pending_commit, epochFreeze_freezes, cancel_of_frozen_is_refused, resetQuiesce_of_capture_control_cancels⟩

/-! ### The boundary of L_apply (R99) -/

/-- The array with the committed set `p` in force (R99). -/
def inForce (p : PendingCommit) (a : Ary) : Ary := { a with
  pend := none, set := p.set, epoch := p.epoch
  epochs := a.epochs.map (fun x => if x.e = p.epoch ∧ !x.applied then { x with applied := true } else x) }

theorem applyEpoch_due {s : State} {p : PendingCommit} (hp : s.ary.pend = some p) (hl : diffMod 32 p.lApply s.tbs.l ≤ 0) :
    applyEpoch s = raise0 0x100 0x10000 [p.epoch, p.lApply] (applyResult 2 (showSet p.set { s with ary := inForce p s.ary })) := by
  simp only [applyEpoch, hp, Int.not_lt.mpr hl, if_false]
  rfl

/-- The active registers show the words of the set (R99, R105). -/
theorem rnat_showSet (c : CapSet) (s : State) {i : Nat} (h : i < 67) :
    rnat (showSet c s) (0x100200 + 4 * i) = c.w.getD i 0 % 2 ^ 32 := by
  have hkeys : (((List.range 67).map (fun i => (0x100200 + 4 * i, c.w.getD i 0))).map (·.1)).Nodup := by
    rw [List.map_map]
    exact List.nodup_range.map (fun a b hab => by simpa using hab)
  have hmem : (0x100200 + 4 * i, c.w.getD i 0) ∈ (List.range 67).map (fun i => (0x100200 + 4 * i, c.w.getD i 0)) :=
    List.mem_map.mpr ⟨i, List.mem_range.mpr h, rfl⟩
  have hgains : ∀ q ∈ (List.range 9).map (fun k => (Reg.COL_CAG + 4 * k, c.cag.getD k 0)), 0x100200 + 4 * i ≠ q.1 := by
    intro q hq
    obtain ⟨k, -, rfl⟩ := List.mem_map.mp hq
    simp only [Reg.COL_CAG]
    omega
  have happly : 0x100200 + 4 * i ≠ Reg.ARY_STATUS ∧ 0x100200 + 4 * i ≠ Reg.ARY_TOCC := by
    simp only [Reg.ARY_STATUS, Reg.ARY_TOCC]
    omega
  obtain ⟨hstatus, htocc⟩ := happly
  rw [← rnat_rsets_of_mem s hkeys hmem, showSet, rnat, rget_rfset_other _ _ _ _ hstatus, rget_rset_other _ _ htocc,
    rget_rsets_other _ hgains, rnat]

theorem rget_auxApply (s : State) {a : Nat} (h : a < Reg.AUX_EXPL) : rget (auxApply s) a = rget s a := by
  unfold auxApply
  refine foldl_keeps (g := fun u => rget u a) (fun u p => ?_) _ s
  dsimp only
  split
  · rfl
  · refine rget_rsets_other _ (fun q hq => ?_)
    simp only [List.mem_cons, List.not_mem_nil, or_false, preg, Reg.AUX_EXPL, Reg.AUX_EXPS, Reg.AUX_GAIN, Reg.AUX_K] at h hq
    rcases hq with rfl | rfl | rfl | rfl <;> simp only <;> omega

theorem idleChange_keeps_pending (before : State) {s : State} {c : Nat} (h : eventPending s c = true) :
    eventPending (idleChange before s) c = true := by
  unfold idleChange
  exact List.foldlRecOn (motive := fun u => eventPending u c = true) _ _ h
    (fun u hu n _ => raiseIf_keeps_pending _ _ _ _ _ _ hu)

theorem breachOn_keeps_pending {s : State} {c : Nat} (h : eventPending s c = true) : eventPending (breachOn s) c = true := by
  unfold breachOn
  split
  · exact h
  · exact raise_keeps_pending _ _ _ _ _ h

theorem setBudget_evt (p : Nat) (s : State) : (setBudget p s).evt = s.evt := (Laws.within_setBudget p s).evt rfl

theorem planRecheck_keeps_pending {s : State} {c : Nat} (h : eventPending s c = true) : eventPending (planRecheck s) c = true := by
  have hbudget : ∀ p f, eventPending (setBudget p (nrgMod f s)) c = true := fun p f => by
    rwa [eventPending_of_evt ((setBudget_evt ..).trans (nrgMod_evt ..))]
  unfold planRecheck
  dsimp only
  split
  · exact h
  · split
    · exact breachOn_keeps_pending (hbudget _ _)
    · split
      · rw [eventPending_of_evt (nrgMod_evt ..)]
        exact hbudget _ _
      · exact hbudget _ _

theorem rget_planRecheck (s : State) {a : Nat} (h : a ≠ Reg.MGT_BUDGET_NRG) : rget (planRecheck s) a = rget s a := by
  have hbudget : ∀ p f, rget (setBudget p (nrgMod f s)) a = rget s a := fun p f => by
    rw [setBudget, rget_congr (nrgMod_regs ..), rget_rset_other _ _ h, rget_congr (nrgMod_regs ..)]
  unfold planRecheck
  dsimp only
  split
  · rfl
  · split
    · exact (rget_congr ((Laws.within_breachOn _).regs rfl) a).trans (hbudget _ _)
    · split
      · rw [rget_congr (nrgMod_regs ..)]
        exact hbudget _ _
      · exact hbudget _ _

/-- What follows the change of epoch, in the companion values, the gains, the idle slices and the plan, leaves the array, the
registers below those of the companion values, and every event that is pending (R99). -/
theorem epochApplied_keeps (s : State) : (epochApplied s).ary = (applyEpoch s).ary ∧
    (∀ a, a < Reg.AUX_EXPL → rget (epochApplied s) a = rget (applyEpoch s) a) ∧
    (∀ c, eventPending (applyEpoch s) c = true → eventPending (epochApplied s) c = true) := by
  unfold epochApplied
  dsimp only
  split
  · have haux := Laws.within_auxApply (applyEpoch s)
    refine ⟨?_, fun a ha => ?_, fun c hc => ?_⟩
    · rw [(Laws.within_planRecheck _).ary rfl, (Laws.within_idleChange ..).ary rfl, raiseIf_ary, haux.ary rfl]
    · rw [rget_planRecheck _ (ne_of_lt (ha.trans (by decide))), rget_congr ((Laws.within_idleChange ..).regs rfl),
        rget_congr (raiseIf_regs ..), rget_auxApply _ ha]
    · refine planRecheck_keeps_pending (idleChange_keeps_pending _ (raiseIf_keeps_pending _ _ _ _ _ _ ?_))
      rwa [eventPending_of_evt (haux.evt rfl)]
  · exact ⟨rfl, fun _ _ => rfl, fun _ => id⟩

/-- The set, its epoch and RESULT 2 at the boundary of L_apply (R99). -/
theorem applyEpoch_shows {s : State} {p : PendingCommit} (hp : s.ary.pend = some p) (hl : diffMod 32 p.lApply s.tbs.l ≤ 0) :
    (applyEpoch s).ary = inForce p s.ary ∧ rfld (applyEpoch s) Reg.ARY_APPLY_STATUS 23 20 = 2 ∧
      ∀ i, i < 67 → rnat (applyEpoch s) (0x100200 + 4 * i) = p.set.w.getD i 0 % 2 ^ 32 := by
  have hshow := Laws.within_showSet p.set { s with ary := inForce p s.ary }
  rw [applyEpoch_due hp hl, raise0_ary, applyResult_ary, hshow.ary rfl, rfld_congr (raise0_regs ..)]
  refine ⟨rfl, applyResult_result 2 _, fun i hi => ?_⟩
  have hstatus : 0x100200 + 4 * i ≠ Reg.ARY_APPLY_STATUS := by
    simp only [Reg.ARY_APPLY_STATUS]
    omega
  rw [rnat, rget_congr (raise0_regs ..), applyResult, rget_rfset_other _ _ _ _ hstatus]
  exact rnat_showSet p.set _ hi

theorem applyEpoch_eventPending {s : State} {p : PendingCommit} (hp : s.ary.pend = some p)
    (hl : diffMod 32 p.lApply s.tbs.l ≤ 0) (hev : eventsTaken s = true) : eventPending (applyEpoch s) 0x100 = true := by
  have hrst : (showSet p.set { s with ary := inForce p s.ary }).rst = s.rst := (Laws.within_showSet ..).rst rfl
  rw [applyEpoch_due hp hl]
  exact raise0_eventPending _ _ _ ((eventsTaken_of_rst ((applyResult_rst ..).trans hrst)).trans hev)

theorem epochApplied_brings_set_into_force (s : State) (p : PendingCommit) (hp : s.ary.pend = some p)
    (hl : diffMod 32 p.lApply s.tbs.l ≤ 0) (hev : eventsTaken s = true) :
    completes .epochApplied s (fun t => t.ary.set = p.set ∧ t.ary.epoch = p.epoch ∧ t.ary.pend = none ∧
      t.ary.lastCap = s.ary.lastCap ∧ t.ary.capSet = s.ary.capSet ∧ rfld t Reg.ARY_APPLY_STATUS 23 20 = 2 ∧
      (∀ i, i < 67 → rnat t (0x100200 + 4 * i) = p.set.w.getD i 0 % 2 ^ 32) ∧ eventPending t 0x100 = true) := by
  obtain ⟨hary, hget, hpending⟩ := epochApplied_keeps s
  obtain ⟨hforce, hresult, hwords⟩ := applyEpoch_shows hp hl
  have hretire := Laws.within_epochsRetire (epochApplied s)
  have hretired : ∃ x, (epochsRetire (epochApplied s)).ary = { inForce p s.ary with epochs := x } :=
    ⟨_, by rw [← hforce, ← hary]; rfl⟩
  obtain ⟨x, hx⟩ := hretired
  refine ⟨epochsRetire (epochApplied s), rfl, ?_⟩
  beta_reduce
  rw [hx, rfld_congr (hretire.regs rfl), rfld_of_rget (hget _ (by decide)), eventPending_of_evt (hretire.evt rfl)]
  refine ⟨rfl, rfl, rfl, rfl, rfl, hresult, fun i hi => ?_, hpending _ (applyEpoch_eventPending hp hl hev)⟩
  have hlow : 0x100200 + 4 * i < Reg.AUX_EXPL := by
    simp only [Reg.AUX_EXPL]
    omega
  rw [rnat, rget_congr (hretire.regs rfl), hget _ hlow]
  exact hwords i hi

/-- Settles O11: the four answers to COMMIT and COMMIT_ASAP, which differ in the line alone, the domain that is stopped, and the
boundary of L_apply. -/
theorem commitsAreCheckedAndApplied : Obligations.CommitsAreCheckedAndApplied :=
  ⟨fun s hl hd hr h => ⟨commitStaged s, rfl, withAux_commitAt_pending hl hd hr h⟩,
    fun s hl hd hr h => ⟨commitStagedAsap s, rfl, withAux_commitAt_pending hl hd hr h⟩,
    fun s _ hl hd hr hev h => ⟨commitStaged s, rfl, withAux_commitAt_refused hl hd hr hev h⟩,
    fun s _ hl hd hr hev h => ⟨commitStagedAsap s, rfl, withAux_commitAt_refused hl hd hr hev h⟩,
    commit_ignored_when_stopped, epochApplied_brings_set_into_force⟩

end Sys2Proof.Proofs
end

section
/-! PROOFS. The area snapshot (R94, R102), exposures and slots (R81, R82), and the transfer of bands with its readbacks (R82, R102, R522). -/

namespace Sys2Proof.Proofs

open Sys2Proof Sys2Proof.Machine

theorem raise_eventPending (code fid : Nat) (args : List Nat) (ctag coord : Nat) {s : State} (h : eventsTaken s = true) :
    eventPending (raise code fid args ctag coord s) code = true := by
  have hin : inReset s 0xB0200 = false := by simpa [eventsTaken] using h
  simp only [eventPending, raise, hin, Bool.false_eq_true, if_false]
  exact evtAfter_pend s _

/-! ### The area snapshot (R94, R102) -/

theorem snapGo_requests (s : State) (hp : s.ary.snapPend = false) (hb : s.ary.snapBusy = false) (hu : up s 0x10001 = true) :
    completes .snapGo s (fun t => t.ary = { s.ary with
      snapPend := true, snapReqT := s.t, snapCfg := rnat s Reg.ARY_SNAP_CFG } ∧ rfld t Reg.ARY_SNAP_STATUS 1 1 = 1) := by
  have hgo : snapGo s = rfset (aryMod (fun a => { a with
      snapPend := true, snapReqT := s.t, snapCfg := rnat s Reg.ARY_SNAP_CFG }) s) Reg.ARY_SNAP_STATUS 1 1 1 := by
    simp [snapGo, hp, hb, hu]
  refine ⟨snapGo s, rfl, ?_⟩
  beta_reduce
  rw [hgo, rfset_ary]
  exact ⟨rfl, rfld_rfset_same _ _ 1 (by omega) (by omega)⟩

theorem snapGo_refused_while_open (s : State) (h : (s.ary.snapPend || s.ary.snapBusy) = true) (hev : eventsTaken s = true) :
    completes .snapGo s (fun t => t.ary = s.ary ∧ rfld t Reg.ARY_SNAP_STATUS 3 2 = 2 ∧ eventPending t 0x105 = true) := by
  have hgo : snapGo s = raise0 0x105 0x10001 [] (rfset s Reg.ARY_SNAP_STATUS 3 2 2) := by simp only [snapGo, h, if_true]
  refine ⟨snapGo s, rfl, ?_⟩
  beta_reduce
  rw [hgo, raise0_ary, rfset_ary, rfld_congr (raise0_regs ..)]
  exact ⟨rfl, rfld_rfset_same _ _ 2 (by omega) (by omega), raise0_eventPending _ _ _ ((eventsTaken_of_rst (rfset_rst ..)).trans hev)⟩

theorem snapExposureStart_begins_exposure (s : State) (hb : s.ary.snapBusy = true) (hs : s.ary.snapStage = 0) :
    completes .snapExposureStart s (fun t => t = { s with ary := { s.ary with snapStage := 1 } }) := by
  refine ⟨snapExposure s, rfl, if_pos ?_⟩
  simp [hb, hs]

theorem snapTransfer_begins_readout (s : State) (hb : s.ary.snapBusy = true) (hs : s.ary.snapStage = 1) :
    completes .snapTransfer s (fun t => t = { s with ary := { s.ary with
      snapStage := 2, reads := s.ary.reads ++ [⟨s.tbs.l, s.ary.epoch, s.t, 0, s.ary.tb, 0, 0, true⟩] } }) := by
  refine ⟨snapTransfer s, rfl, if_pos ?_⟩
  simp [hb, hs]

/-- The end of a snapshot (R94 step 6) writes ARY_SNAP_STATUS alone. -/
theorem snapEnd_regs (s : State) : (snapEnd s).regs = (rwrap (rfset (rfset s Reg.ARY_SNAP_STATUS 0 0 0) Reg.ARY_SNAP_STATUS 3 2 1)
    Reg.ARY_SNAP_STATUS 31 16 1).regs := (raiseIf_regs ..).trans (raise0_regs ..)

theorem snapEnd_ary (s : State) : (snapEnd s).ary =
    { s.ary with snapBusy := false, snapStage := 0, reads := s.ary.reads.filter (fun r => !r.snap) } := by
  rw [snapEnd, raiseIf_ary, raise0_ary, rwrap_ary, rfset_ary, rfset_ary, aryMod_ary]

theorem snapEnd_eventPending {s : State} (hev : eventsTaken s = true) : eventPending (snapEnd s) 0x104 = true := by
  refine raiseIf_keeps_pending _ _ _ _ _ _ (raise0_eventPending _ _ _ ?_)
  rw [eventsTaken_of_rst (rwrap_rst ..), eventsTaken_of_rst (rfset_rst ..), eventsTaken_of_rst (rfset_rst ..),
    eventsTaken_of_rst (aryMod_rst ..), hev]

theorem snapEnd_status (s : State) : rfld (snapEnd s) Reg.ARY_SNAP_STATUS 0 0 = 0 ∧ rfld (snapEnd s) Reg.ARY_SNAP_STATUS 3 2 = 1 ∧
    rfld (snapEnd s) Reg.ARY_SNAP_STATUS 31 16 = (rfld s Reg.ARY_SNAP_STATUS 31 16 + 1) % 2 ^ 16 := by
  rw [rfld_congr (snapEnd_regs s), rfld_congr (snapEnd_regs s), rfld_congr (snapEnd_regs s), rwrap]
  refine ⟨?_, ?_, ?_⟩
  · rw [rfld_rfset_apart _ _ _ (by omega) (by omega) (by omega) (by omega),
      rfld_rfset_apart _ _ _ (by omega) (by omega) (by omega) (by omega), rfld_rfset_same _ _ _ (by omega) (by omega), Nat.zero_mod]
  · rw [rfld_rfset_apart _ _ _ (by omega) (by omega) (by omega) (by omega), rfld_rfset_same _ _ _ (by omega) (by omega)]
    rfl
  · rw [rfld_rfset_same _ _ _ (by omega) (by omega), rfld_rfset_apart _ _ _ (by omega) (by omega) (by omega) (by omega),
      rfld_rfset_apart _ _ _ (by omega) (by omega) (by omega) (by omega)]

/-- What the units of the snapshot that are handed over leave: the array, the events and the registers below those of the outputs. -/
theorem pushUnits_keep (mk : RawRow → LineUnit) (rows : List RawRow) (s : State) :
    (rows.foldl (fun u x => pushUnit 19 (mk x) u) s).ary = s.ary ∧ (rows.foldl (fun u x => pushUnit 19 (mk x) u) s).evt = s.evt ∧
      ∀ a, a < Reg.PIP_OUT_COUNT → rget (rows.foldl (fun u x => pushUnit 19 (mk x) u) s) a = rget s a := by
  refine ⟨foldl_keeps (g := State.ary) (fun u x => (Laws.within_pushUnit ..).ary rfl) _ s,
    foldl_keeps (g := State.evt) (fun u x => (Laws.within_pushUnit ..).evt rfl) _ s,
    fun a ha => foldl_keeps (g := fun u => rget u a) (fun u x => ?_) _ s⟩
  rw [pushUnit, rwrap, rget_rfset_other _ _ _ _ (ne_of_lt (Nat.lt_add_right _ ha)), rget_congr (pipMod_regs ..)]

/-- The delivery of the units of a snapshot (R196) leaves the array, the events and every register below those of the outputs. -/
theorem snapDone_keeps {s : State} (hb : s.ary.snapBusy = true) (hs : s.ary.snapStage = 2) :
    (snapDone s).ary = (snapEnd s).ary ∧ (snapDone s).evt = (snapEnd s).evt ∧ (snapDone s).pip.snapRows = [] ∧
      ∀ a, a < Reg.PIP_SNAP_OUT → rget (snapDone s) a = rget (snapEnd s) a := by
  simp only [snapDone, hb, hs, beq_self_eq_true, Bool.and_self, if_true]
  generalize snapEnd s = u
  split
  · exact ⟨rfl, rfl, rfl, fun _ _ => rget_congr (pipMod_regs ..) _⟩
  · obtain ⟨hary, hevt, hget⟩ := pushUnits_keep _ s.pip.snapRows u
    refine ⟨hary, hevt, rfl, fun a ha => ?_⟩
    rw [rwrap, rget_rfset_other _ _ _ _ (ne_of_lt ha), rget_congr (pipMod_regs ..)]
    exact hget a (ha.trans (by decide))

theorem snapDone_ends_snapshot (s : State) (hb : s.ary.snapBusy = true) (hs : s.ary.snapStage = 2) (hev : eventsTaken s = true) :
    completes .snapDone s (fun t => t.ary = { s.ary with
        snapBusy := false, snapStage := 0, reads := s.ary.reads.filter (fun r => !r.snap) } ∧
      t.pip.snapRows = [] ∧ rfld t Reg.ARY_SNAP_STATUS 0 0 = 0 ∧ rfld t Reg.ARY_SNAP_STATUS 3 2 = 1 ∧
      rfld t Reg.ARY_SNAP_STATUS 31 16 = (rfld s Reg.ARY_SNAP_STATUS 31 16 + 1) % 2 ^ 16 ∧ eventPending t 0x104 = true) := by
  have hover : snapOver s = grantEnd 4 0 (snapDone s) := by simp [snapOver, hb, hs]
  have hgrant := Laws.within_grantEnd 4 0 (snapDone s)
  obtain ⟨hary, hevt, hrows, hget⟩ := snapDone_keeps hb hs
  obtain ⟨hbusy, hresult, hcount⟩ := snapEnd_status s
  have hfld : ∀ hi lo, rfld (grantEnd 4 0 (snapDone s)) Reg.ARY_SNAP_STATUS hi lo = rfld (snapEnd s) Reg.ARY_SNAP_STATUS hi lo :=
    fun hi lo => (rfld_congr (hgrant.regs rfl) _ _ _).trans (rfld_of_rget (hget _ (by decide)) hi lo)
  refine ⟨snapOver s, rfl, ?_⟩
  beta_reduce
  rw [hover, hgrant.ary rfl, hgrant.pip rfl, eventPending_of_evt (hgrant.evt rfl), eventPending_of_evt hevt, hfld, hfld, hfld]
  exact ⟨hary.trans (snapEnd_ary s), hrows, hbusy, hresult, hcount, snapEnd_eventPending hev⟩

theorem snapNoGrant_withdraws (s : State) (hp : s.ary.snapPend = true) (hev : eventsTaken s = true) :
    completes .snapNoGrant s (fun t => t.ary = { s.ary with snapPend := false } ∧ rfld t Reg.ARY_SNAP_STATUS 1 1 = 0 ∧
      rfld t Reg.ARY_SNAP_STATUS 3 2 = 3 ∧ t.nrg.waiting = s.nrg.waiting.filter (fun g => g.order != 4) ∧
      eventPending t 0x105 = true) := by
  have hno : snapNoGrant s = raise0 0x105 0x10001 [] (rfset (rfset (aryMod (fun a => { a with snapPend := false }) s)
      Reg.ARY_SNAP_STATUS 1 1 0) Reg.ARY_SNAP_STATUS 3 2 3) := if_pos hp
  refine ⟨snapWithdraw s, rfl, ?_⟩
  beta_reduce
  rw [snapWithdraw, hno, nrgMod_ary, nrgMod_nrg, raise0_ary, raise0_nrg, rfset_ary, rfset_ary, rfset_nrg, rfset_nrg,
    rfld_congr ((nrgMod_regs ..).trans (raise0_regs ..)), rfld_congr ((nrgMod_regs ..).trans (raise0_regs ..)),
    eventPending_of_evt (nrgMod_evt ..)]
  refine ⟨rfl, ?_, rfld_rfset_same _ _ 3 (by omega) (by omega), rfl, raise0_eventPending _ _ _ ?_⟩
  · rw [rfld_rfset_apart _ _ _ (by omega) (by omega) (by omega) (by omega), rfld_rfset_same _ _ _ (by omega) (by omega), Nat.zero_mod]
  · rw [eventsTaken_of_rst (rfset_rst ..), eventsTaken_of_rst (rfset_rst ..), eventsTaken_of_rst (aryMod_rst ..), hev]

/-! ### Exposures and slots (R81, R82) -/

theorem exposureStart_begins_class (s : State) (k c : Nat) (hx : (lineExposing s k c).isSome = true)
    (hu : up s (0x10200 + k) = true) :
    completes (.exposureStart k c) s (fun t => 4 * k + c ∈ t.ary.exposing ∧
      (∀ x, x ≠ 4 * k + c → (x ∈ t.ary.exposing ↔ x ∈ s.ary.exposing)) ∧ t.ary.capSet = s.ary.capSet) := by
  refine ⟨exposureStart k c s, rfl, ?_⟩
  simp only [exposureStart, hx, hu, Bool.and_self, if_true, aryMod_ary, List.contains_iff_mem]
  split
  · next hin => exact ⟨hin, fun _ _ => Iff.rfl, trivial⟩
  · exact ⟨List.mem_cons_self, fun x hx => by simp [hx], trivial⟩

section
variable {s : State} {i late : Nat} {x : CapLine} (hu : up s 0x10100 = true) (hev : eventsTaken s = true)
include hu hev

/-- An edge of a slot opens or closes it, and raises 0x10D where it comes more than 5 ns late (R81, R102). -/
theorem slotEdge_edges (opens : Bool) (hx : (if opens then lineInSlot s 0 i else lineEnding s i) = some x) :
    (slotEdge i opens late s).ary.slotOpen = (if opens then (if s.ary.slotOpen.contains i then s.ary.slotOpen else i :: s.ary.slotOpen)
        else s.ary.slotOpen.filter (· != i)) ∧
      (slotEdge i opens late s).ary.slotLine = (if opens then mput s.ary.slotLine i x.l else s.ary.slotLine) ∧
      (1 < late → eventPending (slotEdge i opens late s) 0x10D = true) := by
  simp only [slotEdge, hx, hu, Bool.not_true, Bool.false_eq_true, if_false, raiseIf_ary, aryMod_ary, true_and]
  intro hlate
  rw [decide_eq_true hlate]
  exact raise_eventPending _ _ _ _ _ hev

theorem slotEdge_opens (hx : lineInSlot s 0 i = some x) :
    completes (.slotEdge i true late) s (fun t => i ∈ t.ary.slotOpen ∧
      (∀ j, j ≠ i → (j ∈ t.ary.slotOpen ↔ j ∈ s.ary.slotOpen)) ∧ mget t.ary.slotLine i = some x.l ∧
      (1 < late → eventPending t 0x10D = true)) := by
  obtain ⟨hopen, hline, hlate⟩ := slotEdge_edges (late := late) hu hev true hx
  refine ⟨slotEdge i true late s, rfl, ?_⟩
  simp only [hopen, hline, if_true, Laws.mget_mput_same, List.contains_iff_mem]
  split
  · next hin => exact ⟨hin, fun _ _ => Iff.rfl, trivial, hlate⟩
  · exact ⟨List.mem_cons_self, fun j hj => by simp [hj], trivial, hlate⟩

theorem slotEdge_closes (hx : lineEnding s i = some x) :
    completes (.slotEdge i false late) s (fun t => i ∉ t.ary.slotOpen ∧
      (∀ j, j ≠ i → (j ∈ t.ary.slotOpen ↔ j ∈ s.ary.slotOpen)) ∧ (1 < late → eventPending t 0x10D = true)) := by
  obtain ⟨hopen, -, hlate⟩ := slotEdge_edges (late := late) hu hev false hx
  refine ⟨slotEdge i false late s, rfl, ?_⟩
  simp only [hopen, Bool.false_eq_true, if_false]
  exact ⟨by simp, fun j hj => by simp [hj], hlate⟩

end

/-! ### Automatic resets (R521, R522) -/

/-- A reset that starts is a run that is fired or waits (R521). -/
theorem startReset_rst (fid cause : Nat) (host : Bool) (s : State) : ∃ r : RstRun, r.fid = fid ∧
    (r.phase == .quiesced || r.phase == .reloaded) = false ∧
    (startReset fid cause host s).rst = { s.rst with runs := s.rst.runs ++ [r] } := by
  refine ⟨_, ?_, ?_, rset_rst ..⟩
  · rfl
  · dsimp only
    split <;> rfl

/-- An automatic reset joins one that stands, or begins (R521, R522). -/
theorem autoReset_runs (fid cause : Nat) (s : State) : (autoReset fid cause s).rst.held = s.rst.held ∧
    ((autoReset fid cause s).rst.runs = s.rst.runs ∧ (beingReset s fid = true ∨ fid ∈ s.rst.held) ∨
      ∃ r : RstRun, r.fid = fid ∧ (r.phase == .quiesced || r.phase == .reloaded) = false ∧
        (autoReset fid cause s).rst.runs = s.rst.runs ++ [r]) := by
  unfold autoReset
  split
  · next h => exact ⟨rfl, .inl ⟨rfl, by simpa [beingReset] using h⟩⟩
  · extract_lets recent c
    obtain ⟨r, hfid, hphase, hrst⟩ := startReset_rst fid c false { s with rst := { s.rst with hist := recent ++ [(fid, s.t)] } }
    rw [rsat_rst, hrst]
    exact ⟨rfl, .inr ⟨r, hfid, hphase, rfl⟩⟩

/-- A reset that begins has not yet quiesced its function. -/
theorem inReset_autoReset (fid cause : Nat) (s : State) (g : Nat) : inReset (autoReset fid cause s) g = inReset s g := by
  obtain ⟨hheld, ⟨hruns, -⟩ | ⟨r, -, hphase, hruns⟩⟩ := autoReset_runs fid cause s
  · rw [inReset, inReset, hheld, hruns]
  · rw [inReset, inReset, hheld, hruns, List.any_append]
    simp [hphase]

theorem autoReset_held (fid cause : Nat) (s : State) : (autoReset fid cause s).rst.held = s.rst.held :=
  (autoReset_runs fid cause s).1

theorem autoReset_begins {fid : Nat} (cause : Nat) {s : State} (h : fid ∉ s.rst.held) :
    beingReset (autoReset fid cause s) fid = true := by
  obtain ⟨-, ⟨hruns, hstands⟩ | ⟨r, hfid, -, hruns⟩⟩ := autoReset_runs fid cause s
  · rw [beingReset, hruns]
    exact hstands.resolve_right h
  · simp [beingReset, hruns, hfid]

theorem autoReset_keeps_running (fid cause : Nat) {s : State} {g : Nat} (h : beingReset s g = true) :
    beingReset (autoReset fid cause s) g = true := by
  obtain ⟨-, ⟨hruns, -⟩ | ⟨r, -, -, hruns⟩⟩ := autoReset_runs fid cause s <;> rw [beingReset, hruns]
  · exact h
  · rw [List.any_append]
    exact Bool.or_eq_true_iff.mpr (.inl h)

theorem rget_autoReset_MGT_RST_CFG (fid cause : Nat) (s : State) :
    rget (autoReset fid cause s) Reg.MGT_RST_CFG = rget s Reg.MGT_RST_CFG := by
  unfold autoReset
  split
  · rfl
  · exact (rget_rfset_other _ _ _ _ (by decide)).trans (rget_rset_other _ _ (by decide))

/-! ### The transfer of bands (R82, R102) -/

/-- What a readback of band `k` does that differs in the bits of `rowBad` or `pulseBad` (R102). -/
def bandFault (rowBad pulseBad l : Nat) (s : State) (k : Nat) : State :=
  if bit rowBad k then rowDrvFault 0x107 k l s else if bit pulseBad k then rowDrvFault 0x109 k l s else s

theorem bandTransfer_of_ending {s : State} {i : Nat} {x : CapLine} (rowBad pulseBad : Nat) (hx : lineEnding s i = some x)
    (him : images s = true) :
    bandTransfer i rowBad pulseBad s = (slotBands x i s).foldl (bandFault rowBad pulseBad x.l) (transferBands x i s) := by
  simp only [bandTransfer, hx, him]
  rfl

theorem mem_slotBands {x : CapLine} {i k : Nat} {s : State} (hk : k < 9) (hc : x.set.captured k = true) (hb : x.set.bandSlot k = i)
    (hu : up s (0x10200 + k) = true) : k ∈ slotBands x i s := by
  simp [slotBands, CapSet.bands, hk, hc, hb, hu]

/-- A band of the slot holds the line in its storage nodes, and its exposures have ended (R82). -/
theorem transferBands_holds {x : CapLine} {i k : Nat} {s : State} (h : k ∈ slotBands x i s) :
    mget (transferBands x i s).ary.nodes k = some x.l ∧ ∀ y ∈ (transferBands x i s).ary.exposing, y / 4 ≠ k := by
  refine ⟨(mget_foldl_mput (fun _ => x.l) _ _ k).trans (if_pos h), fun y hy e => ?_⟩
  have hy' := (List.mem_filter.mp hy).2
  rw [e] at hy'
  simp [h] at hy'

theorem bandTransfer_moves_line (s : State) (i : Nat) (x : CapLine) (hx : lineEnding s i = some x) (him : images s = true) :
    completes (.bandTransfer i 0 0) s (fun t => t.regs = s.regs ∧ t.ary.capSet = s.ary.capSet ∧ t.ary.txPw = x.txPw ∧
      ∀ k, k < 9 → x.set.captured k = true → x.set.bandSlot k = i → up s (0x10200 + k) = true →
        mget t.ary.nodes k = some x.l ∧ ∀ y, y ∈ t.ary.exposing → y / 4 ≠ k) := by
  have hnone : ∀ u k, bandFault 0 0 x.l u k = u := fun u k => by simp [bandFault, bit]
  have hmove : bandTransfer i 0 0 s = transferBands x i s :=
    (bandTransfer_of_ending 0 0 hx him).trans (foldl_keeps (g := id) hnone _ _)
  refine ⟨bandTransfer i 0 0 s, rfl, ?_⟩
  rw [hmove]
  exact ⟨rfl, rfl, rfl, fun k hk hc hb hu => transferBands_holds (mem_slotBands hk hc hb hu)⟩

/-- The state in which the fault of a band has been noted and its event raised (R102). -/
def faultNoted (code k l : Nat) (s : State) : State :=
  raise code (0x10200 + k) [] 2 (coSector 15 k l)
    (aryMod (fun a => { a with rowDrvBad := if a.rowDrvBad.contains k then a.rowDrvBad else k :: a.rowDrvBad }) s)

theorem rowDrvFault_eq (code k l : Nat) (s : State) : rowDrvFault code k l s =
    if rbit s Reg.MGT_RST_CFG 31 then autoReset (0x10200 + k) 2 (faultNoted code k l s) else faultNoted code k l s := by
  have hcfg : rbit (faultNoted code k l s) Reg.MGT_RST_CFG 31 = rbit s Reg.MGT_RST_CFG 31 := by
    rw [rbit, rnat, faultNoted, rget_congr (raise_regs ..), rget_congr (aryMod_regs ..), rbit, rnat]
  rw [← hcfg]
  rfl

theorem rowDrvFault_ary (code k l : Nat) (s : State) : (rowDrvFault code k l s).ary =
    { s.ary with rowDrvBad := if s.ary.rowDrvBad.contains k then s.ary.rowDrvBad else k :: s.ary.rowDrvBad } := by
  rw [rowDrvFault, (Laws.within_autoRecover ..).ary rfl, raise_ary]
  rfl

/-- The fault of band `k` can still be handled: its row drivers are not held, and events and AUTO_RECOVER are as in `s`. -/
def FaultOpen (s : State) (k : Nat) (u : State) : Prop :=
  eventsTaken u = true ∧ 0x10200 + k ∉ u.rst.held ∧ rbit u Reg.MGT_RST_CFG 31 = rbit s Reg.MGT_RST_CFG 31

theorem FaultOpen.refl {s : State} {k : Nat} (hev : eventsTaken s = true) (hu : up s (0x10200 + k) = true) : FaultOpen s k s := by
  refine ⟨hev, fun hheld => ?_, rfl⟩
  simp [up, inReset, hheld] at hu

/-- The fault of band `k` with event `code` has been handled (R102, R522). -/
def FaultSeen (s : State) (code k : Nat) (u : State) : Prop :=
  k ∈ u.ary.rowDrvBad ∧ eventPending u code = true ∧ (rbit s Reg.MGT_RST_CFG 31 = true → beingReset u (0x10200 + k) = true)

theorem faultNoted_rst (code k l : Nat) (s : State) : (faultNoted code k l s).rst = s.rst := raise_rst ..

theorem mem_faultNoted_rowDrvBad (code k l : Nat) (s : State) : k ∈ (faultNoted code k l s).ary.rowDrvBad := by
  rw [faultNoted, raise_ary, aryMod_ary]
  dsimp only
  split
  · next h => exact List.contains_iff_mem.mp h
  · exact List.mem_cons_self

/-- A readback of one band leaves open the fault of another. -/
theorem FaultOpen.kept {s u : State} {k : Nat} (h : FaultOpen s k u) (code j l : Nat) :
    FaultOpen s k (rowDrvFault code j l u) := by
  obtain ⟨hev, hheld, hcfg⟩ := h
  have hnoted : FaultOpen s k (faultNoted code j l u) := by
    refine ⟨(eventsTaken_of_rst (faultNoted_rst ..)).trans hev, by rwa [faultNoted_rst], ?_⟩
    rw [rbit, rnat, faultNoted, rget_congr (raise_regs ..), rget_congr (aryMod_regs ..)]
    exact hcfg
  obtain ⟨hev', hheld', hcfg'⟩ := hnoted
  rw [rowDrvFault_eq]
  split
  · refine ⟨?_, by rwa [autoReset_held], ?_⟩
    · rw [eventsTaken, inReset_autoReset]
      exact hev'
    · rw [rbit, rnat, rget_autoReset_MGT_RST_CFG]
      exact hcfg'
  · exact ⟨hev', hheld', hcfg'⟩

/-- The readback of band `k` has its fault handled. -/
theorem FaultOpen.seen {s u : State} {k : Nat} (h : FaultOpen s k u) (code l : Nat) :
    FaultSeen s code k (rowDrvFault code k l u) := by
  obtain ⟨hev, hheld, hcfg⟩ := h
  have hpending : eventPending (faultNoted code k l u) code = true :=
    raise_eventPending _ _ _ _ _ ((eventsTaken_of_rst (aryMod_rst ..)).trans hev)
  rw [rowDrvFault_eq, FaultSeen, ← hcfg]
  split
  · have hauto := Laws.within_autoReset (0x10200 + k) 2 (faultNoted code k l u)
    rw [hauto.ary rfl, eventPending_of_evt (hauto.evt rfl)]
    exact ⟨mem_faultNoted_rowDrvBad code k l u, hpending, fun _ => autoReset_begins 2 (by rwa [faultNoted_rst])⟩
  · next hoff => exact ⟨mem_faultNoted_rowDrvBad code k l u, hpending, fun hon => absurd hon hoff⟩

/-- A readback of another band leaves what has been handled. -/
theorem FaultSeen.kept {s u : State} {code k : Nat} (h : FaultSeen s code k u) (code' j l : Nat) :
    FaultSeen s code k (rowDrvFault code' j l u) := by
  obtain ⟨hbad, hpending, hreset⟩ := h
  have hkept : k ∈ (rowDrvFault code' j l u).ary.rowDrvBad := by
    rw [rowDrvFault_ary]
    dsimp only
    split
    · exact hbad
    · exact List.mem_cons_of_mem _ hbad
  have hnoted : eventPending (faultNoted code' j l u) code = true :=
    raise_keeps_pending _ _ _ _ _ ((eventPending_of_evt (aryMod_evt ..) _).trans hpending)
  have hrun : beingReset u (0x10200 + k) = true → beingReset (faultNoted code' j l u) (0x10200 + k) = true := by
    rw [beingReset, beingReset, faultNoted_rst]
    exact id
  refine ⟨hkept, ?_, fun hon => ?_⟩ <;> rw [rowDrvFault_eq] <;> split
  · rwa [eventPending_of_evt ((Laws.within_autoReset ..).evt rfl)]
  · exact hnoted
  · exact autoReset_keeps_running _ 2 (hrun (hreset hon))
  · exact hrun (hreset hon)

/-- What an operation in a fold establishes for one element stays to the end of the fold. -/
theorem foldl_establishes {α : Type} {P Q : State → Prop} {f : State → α → State} {k : α} (hP : ∀ u a, P u → P (f u a))
    (hk : ∀ u, P u → Q (f u k)) (hQ : ∀ u a, Q u → Q (f u a)) {l : List α} (h : k ∈ l) {s : State} (hs : P s) :
    Q (l.foldl f s) := by
  induction l generalizing s with
  | nil => cases h
  | cons a l ih =>
    rw [List.foldl_cons]
    rcases List.mem_cons.mp h with rfl | h
    · exact List.foldlRecOn (motive := Q) _ _ (hk s hs) (fun u hu a _ => hQ u a hu)
    · exact ih h (hP s a hs)

/-- A property that every readback fault keeps, the check of a band keeps. -/
theorem bandFault_keeps {P : State → Prop} (h : ∀ code j l u, P u → P (rowDrvFault code j l u)) {rowBad pulseBad l : Nat}
    (u : State) (j : Nat) (hu : P u) : P (bandFault rowBad pulseBad l u j) := by
  unfold bandFault
  split
  · exact h _ _ _ _ hu
  · split
    · exact h _ _ _ _ hu
    · exact hu

/-- The event of a readback of band `k` that differs: the row pulse goes before the transfer pulse (R102). -/
def readbackCode (rowBad k : Nat) : Nat := if bit rowBad k then 0x107 else 0x109

theorem bandFault_of_bad {rowBad pulseBad k : Nat} (h : bit rowBad k = true ∨ bit pulseBad k = true) (l : Nat) (u : State) :
    bandFault rowBad pulseBad l u k = rowDrvFault (readbackCode rowBad k) k l u := by
  unfold bandFault readbackCode
  by_cases hrow : bit rowBad k = true
  · simp [hrow]
  · simp [hrow, h.resolve_left hrow]

theorem bandTransfer_handles_fault (s : State) (i rowBad pulseBad k : Nat) (x : CapLine) (hx : lineEnding s i = some x)
    (him : images s = true) (hev : eventsTaken s = true) (hk : k < 9) (hc : x.set.captured k = true) (hb : x.set.bandSlot k = i)
    (hu : up s (0x10200 + k) = true) (hbad : bit rowBad k = true ∨ bit pulseBad k = true) :
    completes (.bandTransfer i rowBad pulseBad) s (fun t => mget t.ary.nodes k = some x.l ∧ k ∈ t.ary.rowDrvBad ∧
      (bit rowBad k = true → eventPending t 0x107 = true) ∧
      (bit rowBad k = false → eventPending t 0x109 = true) ∧
      (rbit s Reg.MGT_RST_CFG 31 = true → beingReset t (0x10200 + k) = true)) := by
  have hmem := mem_slotBands hk hc hb hu
  have hnodes : (bandTransfer i rowBad pulseBad s).ary.nodes = (transferBands x i s).ary.nodes := by
    rw [bandTransfer_of_ending _ _ hx him]
    refine foldl_keeps (g := fun u => u.ary.nodes) (fun u j => ?_) _ _
    exact bandFault_keeps (P := fun v => v.ary.nodes = u.ary.nodes)
      (fun code j l v hv => (congrArg Ary.nodes (rowDrvFault_ary code j l v)).trans hv) u j rfl
  have hopen : FaultOpen s k (transferBands x i s) := FaultOpen.refl hev hu
  have hseen : FaultSeen s (readbackCode rowBad k) k (bandTransfer i rowBad pulseBad s) := by
    rw [bandTransfer_of_ending _ _ hx him]
    refine foldl_establishes (P := FaultOpen s k) (Q := FaultSeen s (readbackCode rowBad k) k)
      (bandFault_keeps (fun code j l u hP => hP.kept code j l)) (fun u hP => ?_)
      (bandFault_keeps (fun code j l u hQ => hQ.kept code j l)) hmem hopen
    rw [bandFault_of_bad hbad]
    exact hP.seen _ _
  obtain ⟨hdrv, hpending, hreset⟩ := hseen
  refine ⟨bandTransfer i rowBad pulseBad s, rfl, ?_, hdrv, fun hrow => ?_, fun hrow => ?_, hreset⟩
  · rw [hnodes]
    exact (transferBands_holds hmem).1
  · rwa [readbackCode, if_pos hrow] at hpending
  · rwa [readbackCode, hrow] at hpending

/-- Settles O13: the clauses, each proved above, in their order. -/
theorem snapshotsAndExposuresRun : Obligations.SnapshotsAndExposuresRun :=
  ⟨snapGo_requests, snapGo_refused_while_open, snapExposureStart_begins_exposure, snapTransfer_begins_readout,
    snapDone_ends_snapshot, snapNoGrant_withdraws, exposureStart_begins_class,
    fun _ _ _ _ hx hu hev => slotEdge_opens hu hev hx, fun _ _ _ _ hx hu hev => slotEdge_closes hu hev hx,
    bandTransfer_moves_line, bandTransfer_handles_fault⟩

end Sys2Proof.Proofs
end

section
/-! PROOFS. A statement that fails: the offset conversion of a snapshot with ROW-RAW in reset (R84, R195, R523). -/

namespace Sys2Proof.Proofs

open Sys2Proof Sys2Proof.Machine

/-- While ROW-RAW is in reset it takes no conversion of a snapshot, and the rows that it holds stay (R523). -/
theorem keepRaw_snapshot_in_reset {d : Delivery} (last : Bool) {s : State} (hsnap : d.seq.snap = true)
    (hres : inReset s 0x40D04 = true) : keepRaw d last s = s := by
  simp only [keepRaw, hsnap, hres, if_true]

/-- The offset conversion of a snapshot on the column side: the codes are kept, and the sequence stands at conversion 1. -/
theorem colConvert_snapshot_offset {s : State} {r : ReadSeq} {rest : List ReadSeq} (codes : Codes) (hr : s.ary.reads = r :: rest)
    (hsnap : r.snap = true) (hj : r.j = 0) : ∃ d u, colConvert codes s = some (d, false, u) ∧ d.seq = r ∧
      u = { s with ary := { s.ary with reads := { r with j := 1 } :: rest }, col := { s.col with offs := codes } } := by
  have hplan : convPlan s = some (r, none, false) := by simp [convPlan, hr, hsnap, hj]
  refine ⟨_, _, by rw [colConvert, hplan], rfl, ?_⟩
  simp [convOffset, hsnap, aryMod, hr, hj]

/-- A snapshot that has been transferred and whose readout begins, with ROW-RAW held in reset and one row of a snapshot still in it. -/
def rowHeldThroughReset : State := { runningDevice with
  rst.held := [0x40D04], ary.reads := [⟨0, 0, 0, 0, 0, 0, 0, true⟩], pip.snapRows := [⟨0, 0, 0, 0, 0, false, 0, []⟩] }

theorem conversion_keeps_rowHeldThroughReset :
    (conversion ⟨[], 0⟩ rowHeldThroughReset).pip.snapRows = [⟨0, 0, 0, 0, 0, false, 0, []⟩] := by
  have hruns : (!images rowHeldThroughReset || inReset rowHeldThroughReset 0x10300) = false := by decide +kernel
  obtain ⟨d, u, hconv, hseq, hu⟩ := colConvert_snapshot_offset (s := rowHeldThroughReset) ⟨[], 0⟩ rfl rfl rfl
  have hsnap : d.seq.snap = true := congrArg ReadSeq.snap hseq
  have hres : inReset u 0x40D04 = true := by
    rw [hu]
    rfl
  have hkeep : conversion ⟨[], 0⟩ rowHeldThroughReset = u := by
    simp only [conversion, hruns, hconv, hsnap, Bool.false_eq_true, if_false, if_true]
    exact keepRaw_snapshot_in_reset false hsnap hres
  rw [hkeep, hu]
  rfl

/-- Refutes O14: its second clause says of every state with a snapshot in front that the offset conversion leaves no snapshot row,
without the premise that ROW-RAW (0x4_0D_04) is not in reset. In `rowHeldThroughReset` it is, and the row that stands there stays.
The quiesce of ROW-RAW would have emptied it (R523); the clause does not presuppose that. -/
theorem not_convertersConvertCalibrateAndAreReplaced : ¬ Obligations.ConvertersConvertCalibrateAndAreReplaced := by
  rintro ⟨-, hsnapshot, -⟩
  have h := hsnapshot rowHeldThroughReset [] 0 ⟨0, 0, 0, 0, 0, 0, 0, true⟩ [] (by decide +kernel) (by decide +kernel) rfl rfl
  obtain ⟨-, hrows, -⟩ := completes_next h (u := epochsRetire (conversion ⟨[], 0⟩ rowHeldThroughReset)) rfl
  have hrows' : (conversion ⟨[], 0⟩ rowHeldThroughReset).pip.snapRows = [] :=
    (congrArg Pip.snapRows ((Laws.within_epochsRetire _).pip rfl)).symm.trans (hrows rfl)
  rw [conversion_keeps_rowHeldThroughReset] at hrows'
  cases hrows'

end Sys2Proof.Proofs
end

section
/-! PROOFS. A statement that fails: the last sector to draw a line has the background tracker change what the other sectors keep (R156,
R165). -/

namespace Sys2Proof.Proofs

open Sys2Proof Sys2Proof.Machine

/-- Registered line 0 waits for REG of sector 0 alone, which has nothing left for the band store, while sector 1 has taken conversions of
line 4; the background tracker runs on band 0. -/
def lastSectorDraws : State :=
  withRegister Reg.PIP_BG_CFG 0x80000064 { runningDevice with
    pip.parts := [drawnButForSectorZero]
    pip.sec := [(0, { Sec.reset with due := [0] }), (1, { Sec.reset with entered := some 4 })] }

/-- In `lastSectorDraws` no sector but sector 0 has a line to draw. -/
theorem lastSectorDraws_no_other_due : ∀ m < 12, m ≠ 0 → (secOf lastSectorDraws m).due = [] := by decide +kernel

/-- Every sector but sector 0 has its part in the line that waits. -/
theorem drawnButForSectorZero_done : ∀ i < 12, i ≠ 0 → i ∈ drawnButForSectorZero.done := by decide

/-- The line made whole goes to the tracker, which steps the gain of column 1536 and keeps, for the lines that have entered sector 1, the
gain 0x4000 that it had (R156). -/
theorem registrationDraw_keeps_old_gain_in_other_sector :
    (secOf (registrationDraw lastSectorDraws) 1).bgOld = [(4, 0x250000 + 2 * 1536, 0x4000)] := by decide +kernel

/-- Refutes O15: its third clause says that the last sector of a line leaves every other sector unit as it was. In `lastSectorDraws` sector
0 makes registered line 0 whole, the background tracker takes the line in the same step, and sector 1, which kept no gain before, keeps
the one in force for the lines that have entered it. -/
theorem not_segmentsAreStoredAndLinesDrawn : ¬ Obligations.SegmentsAreStoredAndLinesDrawn := by
  rintro ⟨-, -, hlast, -⟩
  have h := hlast lastSectorDraws 0 0 drawnButForSectorZero (by decide) (by decide +kernel) (by decide +kernel) rfl rfl
    (by decide +kernel) lastSectorDraws_no_other_due rfl drawnButForSectorZero_done
  obtain ⟨-, -, -, -, hothers⟩ := completes_next h (u := registrationDraw lastSectorDraws) rfl
  have hgains : (secOf (registrationDraw lastSectorDraws) 1).bgOld = [] := congrArg Sec.bgOld (hothers 1 (by decide))
  rw [registrationDraw_keeps_old_gain_in_other_sector] at hgains
  cases hgains

end Sys2Proof.Proofs
end

section
/-! PROOFS. What the operations on objects leave of the lines that the object table works through (R203, R204), of the band store and of the
geometry of its rings (R162). -/

namespace Sys2Proof.Proofs

open Sys2Proof Sys2Proof.Machine

/-! ### The lines of the object table and the geometry of the band store -/

/-- What the object table keeps of its lines (R204), and the parts of the device that tell where the band store has its slots (R162). -/
structure TableView where
  lead : List LeadIn
  missing : Nat
  prevB : Option Nat
  rings : List Word
  pip : Pip
  rst : Rst

/-- The registers that lay out the rings of the band store: PIP_BS_DEPTH[0] to [8] and PIP_BS_LABEL. -/
def ringRegs (s : State) : List Word := (List.range 10).map (fun i => rget s (Reg.PIP_BS_DEPTH + 4 * i))

/-- The view that the operations on objects leave as it is. -/
def tableView (s : State) : TableView := ⟨s.vdt.lead, s.vdt.missing, s.vdt.prevB, ringRegs s, s.pip, s.rst⟩

theorem tableView_congr {s t : State} (hv : t.vdt = s.vdt) (hr : t.regs = s.regs) (hp : t.pip = s.pip) (hs : t.rst = s.rst) :
    tableView t = tableView s := by
  simp only [tableView, ringRegs, rget, hv, hr, hp, hs]

/-- A register outside those of the rings does not show. -/
theorem tableView_rset (s : State) {a : Nat} (v : Nat) (h : a < Reg.PIP_BS_DEPTH ∨ Reg.PIP_BS_LABEL < a) :
    tableView (rset s a v) = tableView s := by
  have hregs : ∀ i ∈ List.range 10, rget (rset s a v) (Reg.PIP_BS_DEPTH + 4 * i) = rget s (Reg.PIP_BS_DEPTH + 4 * i) := by
    intro i hi
    have hi' := List.mem_range.mp hi
    refine rget_rset_other s v (fun e => ?_)
    simp only [Reg.PIP_BS_DEPTH, Reg.PIP_BS_LABEL] at h e
    omega
  simp only [tableView, ringRegs, List.map_congr_left hregs, rset_vdt, rset_pip, rset_rst]

@[simp] theorem tableView_rfset (s : State) {a : Nat} (hi lo v : Nat) (h : a < Reg.PIP_BS_DEPTH ∨ Reg.PIP_BS_LABEL < a) :
    tableView (rfset s a hi lo v) = tableView s := tableView_rset s _ h

@[simp] theorem tableView_rsat (s : State) {a : Nat} (hi lo n : Nat) (h : a < Reg.PIP_BS_DEPTH ∨ Reg.PIP_BS_LABEL < a) :
    tableView (rsat s a hi lo n) = tableView s := tableView_rset s _ h

@[simp] theorem tableView_rwrap (s : State) {a : Nat} (hi lo n : Nat) (h : a < Reg.PIP_BS_DEPTH ∨ Reg.PIP_BS_LABEL < a) :
    tableView (rwrap s a hi lo n) = tableView s := tableView_rset s _ h

@[simp] theorem tableView_rmax (s : State) {a : Nat} (hi lo v : Nat) (h : a < Reg.PIP_BS_DEPTH ∨ Reg.PIP_BS_LABEL < a) :
    tableView (rmax s a hi lo v) = tableView s := tableView_rset s _ h

@[simp] theorem tableView_raise (code fid : Nat) (args : List Nat) (ctag coord : Nat) (s : State) :
    tableView (raise code fid args ctag coord s) = tableView s := tableView_congr (raise_vdt ..) (raise_regs ..) (raise_pip ..) (raise_rst ..)

@[simp] theorem tableView_raiseIf (c : Bool) (code fid : Nat) (args : List Nat) (ctag coord : Nat) (s : State) :
    tableView (raiseIf c code fid args ctag coord s) = tableView s :=
    tableView_congr (raiseIf_vdt ..) (raiseIf_regs ..) (raiseIf_pip ..) (raiseIf_rst ..)

theorem tableView_vdtMod {f : Vdt → Vdt} {s : State} (hl : (f s.vdt).lead = s.vdt.lead) (hm : (f s.vdt).missing = s.vdt.missing)
    (hb : (f s.vdt).prevB = s.vdt.prevB) : tableView (vdtMod f s) = tableView s := by
  simp only [tableView, vdtMod, hl, hm, hb]
  rfl

theorem tableView_xwSend (n : Nat) (m : XwMsg) (s : State) : tableView (xwSend n m s) = tableView s :=
  have h := Laws.within_xwSend n m s
  tableView_congr (h.vdt rfl) (h.regs rfl) (h.pip rfl) (h.rst rfl)

@[simp] theorem tableView_dlMissUnless (w : Bool) (n fid : Nat) (args : List Nat) (ctag coord : Nat) (s : State)
    (h : Reg.TBS_DL_LAST + 4 * n < Reg.PIP_BS_DEPTH) : tableView (dlMissUnless w n fid args ctag coord s) = tableView s := by
  have hcount : ∀ (l : Nat) (u : State), tableView (dlCount n l u) = tableView u := fun l u =>
    (tableView_rset _ _ (.inl h)).trans (tableView_rsat _ _ _ _ (.inl (lt_of_le_of_lt (Nat.add_le_add_right (by decide) _) h)))
  unfold dlMissUnless dlMiss
  split
  · rfl
  · split
    · rfl
    · dsimp only
      split
      · exact tableView_raise ..
      · exact (hcount _ _).trans (tableView_raise ..)

/-! ### Objects, records and reservations -/

@[simp] theorem tableView_setObj (k : Nat) (o : Obj) (s : State) : tableView (setObj k o s) = tableView s := tableView_vdtMod rfl rfl rfl

@[simp] theorem tableView_modObj (k : Nat) (f : Obj → Obj) (s : State) : tableView (modObj k f s) = tableView s := tableView_vdtMod rfl rfl rfl

@[simp] theorem tableView_freeObj (k : Nat) (s : State) : tableView (freeObj k s) = tableView s := tableView_vdtMod rfl rfl rfl

@[simp] theorem tableView_emitRecord (ws : List (BitVec 128)) (s : State) : tableView (emitRecord ws s) = tableView s :=
  tableView_vdtMod rfl rfl rfl

@[simp] theorem tableView_releaseResv (obj st : Nat) (f : Resv → Bool) (s : State) : tableView (releaseResv obj st f s) = tableView s :=
  tableView_vdtMod rfl rfl rfl

@[simp] theorem tableView_consumeArm (obj st b : Nat) (n : Int) (s : State) : tableView (consumeArm obj st b n s) = tableView s :=
  tableView_vdtMod rfl rfl rfl

@[simp] theorem tableView_narrowArms (obj b : Nat) (pos : List Nat) (s : State) : tableView (narrowArms obj b pos s) = tableView s :=
  tableView_vdtMod rfl rfl rfl

@[simp] theorem tableView_releaseOutside (o : Obj) (bs : List (Nat × List Nat)) (s : State) : tableView (releaseOutside o bs s) = tableView s :=
  tableView_vdtMod rfl rfl rfl

theorem tableView_placeResv {r : Resv} {s t : State} (h : placeResv r s = some t) : tableView t = tableView s := by
  unfold placeResv at h
  split at h
  · cases h
  · obtain rfl := Option.some.inj h
    exact (tableView_rmax _ _ _ _ (by decide)).trans (tableView_vdtMod rfl rfl rfl)

@[simp] theorem tableView_placeOpen (o : Obj) (src : Nat) (w : Nat × Int × Int × List Nat) (s : State) :
    tableView (placeOpen o src w s) = tableView s := by
  unfold placeOpen
  split
  · next h => exact (tableView_consumeArm ..).trans (tableView_placeResv h)
  · exact tableView_raiseIf ..

@[simp] theorem tableView_placeArm (o : Obj) (b : Nat) (pos : List Nat) (lo hi : Int) (s : State) :
    tableView (placeArm o b pos lo hi s) = tableView s := by
  unfold placeArm
  split
  · next h => exact tableView_placeResv h
  · exact tableView_rsat _ _ _ _ (by decide)

@[simp] theorem tableView_placeConfirmed (o : Obj) (w : Nat × Int × Int × List Nat) (s : State) :
    tableView (placeConfirmed o w s) = tableView s := by
  unfold placeConfirmed
  dsimp only
  rw [tableView_placeOpen, foldl_keeps (g := tableView) (fun u r => tableView_placeArm ..), tableView_raiseIf, tableView_narrowArms]

@[simp] theorem tableView_cancelGust (k cause conf : Nat) (s : State) : tableView (cancelGust k cause conf s) = tableView s := by
  unfold cancelGust
  split
  · rfl
  · split
    · rfl
    · split
      · rfl
      · simp (disch := decide)

/-! ### Confirmation (R265-R267) -/

@[simp] theorem tableView_noteMargin (o : Obj) (s : State) : tableView (noteMargin o s) = tableView s := by
  unfold noteMargin
  split
  · rfl
  · dsimp only
    split
    · rw [tableView_rset _ _ (by decide), tableView_rset _ _ (by decide)]
    · rfl

@[simp] theorem tableView_schedule (o : Obj) (v : Nat) (s : State) : tableView (schedule o v s) = tableView s := by
  have hpartner : ∀ (p : Option (Nat × Nat × Nat)) (u : State), tableView (match p with
      | some p => releaseResv p.1 p.2.1 (fun r => r.src == 2) u
      | none => u) = tableView u := fun p u => by cases p <;> simp
  have hplace : tableView (o.wins.foldl (fun s w => placeConfirmed o w s)
      (releaseOutside o (bankSets (valveSet s o.own.1 o.own.2)) s)) = tableView s :=
    (foldl_keeps (g := tableView) (fun u w => tableView_placeConfirmed ..) _ _).trans (tableView_releaseOutside ..)
  have hlate : ∀ f : List Resv → List Resv, tableView (vdtMod (fun x => { x with resv := f x.resv })
      (releaseOutside o (bankSets (valveSet s o.own.1 o.own.2)) s)) = tableView s :=
    fun f => (tableView_vdtMod rfl rfl rfl).trans (tableView_releaseOutside ..)
  unfold schedule
  extract_lets st partner relPartner s0 s1 s1'
  have hs1 : tableView s1 = tableView s := by
    unfold s1
    split
    · exact hlate _
    · exact hplace
  split
  · rfl
  · split
    · split
      · rfl
      · split
        · exact (hpartner _ _).trans hs1
        · exact hs1
    · split
      · exact hpartner _ _
      · have hs1' : tableView s1' = tableView s := (hpartner _ _).trans (tableView_releaseResv ..)
        split
        · exact (tableView_raise ..).trans hs1'
        · exact hs1'

@[simp] theorem tableView_emitConfirmed (k : Nat) (o : Obj) (v : Nat × Nat × Nat) (s : State) :
    tableView (emitConfirmed k o v s) = tableView s := by
  unfold emitConfirmed
  extract_lets open' s1 s2
  have hs1 : tableView s1 = tableView s := by
    unfold s1
    split
    · split <;> simp (disch := decide)
    · rfl
  rw [tableView_rsat _ _ _ _ (.inr (Nat.lt_add_right _ (by decide))), tableView_rwrap _ _ _ _ (.inr (Nat.lt_add_right _ (by decide))),
    tableView_rwrap _ _ _ _ (by decide)]
  exact (tableView_emitRecord ..).trans hs1

@[simp] theorem tableView_confirm (k : Nat) (v : Nat × Nat × Nat) (s : State) : tableView (confirm k v s) = tableView s := by
  unfold confirm
  split
  · rfl
  · dsimp only
    split <;> simp

/-! ### Partner merge and stitching (R236-R239) -/

@[simp] theorem tableView_partnerMatch (k : Nat) (q : XwRec) (s : State) : tableView (partnerMatch k q s) = tableView s := by
  unfold partnerMatch
  split
  · rfl
  · dsimp only
    rw [tableView_confirm, tableView_rsat _ _ _ _ (by decide), tableView_setObj]
    exact tableView_vdtMod rfl rfl rfl

@[simp] theorem tableView_partnerWait (k : Nat) (s : State) : tableView (partnerWait k s) = tableView s := by
  unfold partnerWait
  split
  · rfl
  · dsimp only
    split <;> simp

@[simp] theorem tableView_verdictEmitted (k : Nat) (v : Nat × Nat × Nat) (s : State) : tableView (verdictEmitted k v s) = tableView s := by
  unfold verdictEmitted
  split
  · rfl
  · extract_lets o1 s1 ls s2
    have hs1 : tableView s1 = tableView s := tableView_setObj ..
    have hs2 : tableView s2 = tableView s := (foldl_keeps (g := tableView) (fun u n => tableView_xwSend ..) _ _).trans hs1
    split
    · exact (tableView_confirm ..).trans hs1
    · split
      · exact (tableView_partnerWait ..).trans hs2
      · exact (tableView_confirm ..).trans hs2

theorem tableView_pushEval {e : QEnt} {s t : State} (h : pushEval e s = some t) : tableView t = tableView s := by
  unfold pushEval at h
  split at h
  · cases h
  · obtain rfl := Option.some.inj h
    exact (tableView_rmax _ _ _ _ (by decide)).trans (tableView_vdtMod rfl rfl rfl)

@[simp] theorem tableView_queueConfirmed (k : Nat) (s : State) : tableView (queueConfirmed k s) = tableView s := by
  unfold queueConfirmed
  split
  · rfl
  · dsimp only
    split
    · exact tableView_setObj ..
    · split
      · next h => exact (tableView_pushEval h).trans (tableView_setObj ..)
      · simp

@[simp] theorem tableView_skipCps (k : Nat) (s : State) : tableView (skipCps k s) = tableView s := by
  unfold skipCps
  split
  · rfl
  · dsimp only
    split
    · rw [tableView_rsat _ _ _ _ (by decide), tableView_modObj]
    · exact tableView_modObj ..

@[simp] theorem tableView_absorb (r k : Nat) (s : State) : tableView (absorb r k s) = tableView s := by
  unfold absorb
  split
  · extract_lets s1 s2
    exact (tableView_vdtMod rfl rfl rfl).trans (by simp [s2, s1])
  · rfl

@[simp] theorem tableView_fireOnGust (o : Obj) (g : GustRec) (n : Int) (w : Nat × Int × List Nat) (s : State) :
    tableView (fireOnGust o g n w s) = tableView s := by
  unfold fireOnGust
  split
  · dsimp only
    split <;> simp
  · exact tableView_raise ..

@[simp] theorem tableView_commitMiss (k : Nat) (n : Int) (s : State) : tableView (commitMiss k n s) = tableView s := by
  unfold commitMiss
  split
  · rfl
  · extract_lets s1 fire
    have hs1 : tableView s1 = tableView s := tableView_dlMissUnless _ _ _ _ _ _ _ (by decide)
    clear_value fire
    cases fire
    case some g =>
      dsimp only
      rw [tableView_raise, tableView_rsat _ _ _ _ (by decide), tableView_modObj,
        foldl_keeps (g := tableView) (fun u w => tableView_fireOnGust ..), hs1]
    case none =>
      dsimp only
      rw [tableView_raise, tableView_modObj, hs1]

@[simp] theorem tableView_computeWindows (k : Nat) (s : State) : tableView (computeWindows k s) = tableView s := by
  unfold computeWindows
  split
  · rfl
  · split
    · rfl
    · extract_lets vs lc w s1 s2 s3 built
      have hs1 : tableView s1 = tableView s := foldl_keeps (g := tableView) (fun u b => tableView_raise ..) _ _
      have hs2 : tableView s2 = tableView s := (foldl_keeps (g := tableView) (fun u b => tableView_raise ..) _ _).trans hs1
      have hs3 : tableView s3 = tableView s := (tableView_modObj ..).trans hs2
      split
      · split
        · exact (tableView_commitMiss ..).trans hs3
        · exact hs3
      · exact hs3

@[simp] theorem tableView_stitchMerge (k : Nat) (s : State) : tableView (stitchMerge k s) = tableView s := by
  unfold stitchMerge
  extract_lets c mine
  split
  · extract_lets m x q own s1
    have hs1 : tableView s1 = tableView s :=
      (foldl_keeps (g := tableView) (fun u p => tableView_absorb ..) _ _).trans (tableView_vdtMod rfl rfl rfl)
    rw [tableView_queueConfirmed, tableView_computeWindows, tableView_rsat _ _ _ _ (by decide), tableView_modObj, hs1]
  · rfl

@[simp] theorem tableView_stitchWait (k : Nat) (s : State) : tableView (stitchWait k s) = tableView s := by
  have htry : ∀ u : State, tableView (stitchTry k u) = tableView u := fun u => by
    unfold stitchTry
    dsimp only
    split
    · exact tableView_stitchMerge ..
    · rfl
  unfold stitchWait
  split
  · rfl
  · dsimp only
    rw [htry, foldl_keeps (g := tableView) (fun u n => tableView_xwSend ..), tableView_setObj]

/-! ### Registered close and checkpoints (R211, R249) -/

@[simp] theorem tableView_fixVelocity (k : Nat) (s : State) : tableView (fixVelocity k s) = tableView s := by
  unfold fixVelocity
  split
  · rfl
  · split
    · exact (tableView_rfset _ _ _ _ (by decide)).trans (tableView_setObj ..)
    · simp

@[simp] theorem tableView_closeRegistered (k : Nat) (s : State) : tableView (closeRegistered k s) = tableView s := by
  unfold closeRegistered
  split
  · rfl
  · split
    · exact tableView_freeObj ..
    · extract_lets reg0 reg prog s1 s2 s3
      have hs3 : tableView s3 = tableView s := by simp [s3, s2, s1]
      clear_value s3
      split
      · split
        · exact (tableView_queueConfirmed ..).trans hs3
        · exact (tableView_stitchWait ..).trans hs3
      · exact hs3

@[simp] theorem tableView_closeDue (s : State) : tableView (closeDue s) = tableView s := by
  refine foldl_keeps (g := tableView) (fun u p => ?_) _ s
  split
  · exact tableView_closeRegistered ..
  · rfl

theorem tableView_cpFire (k cp n : Nat) (o : Obj) (s : State) : tableView (cpFire k cp n o s) = tableView s := by
  unfold cpFire
  extract_lets o1 p e
  split
  · next h =>
    split at h
    · cases h
    · exact (tableView_setObj ..).trans (tableView_pushEval h)
  · exact (tableView_rsat _ _ _ _ (by decide)).trans (tableView_setObj ..)

@[simp] theorem tableView_cpPollAll (s : State) : tableView (cpPollAll s) = tableView s := by
  have hpoll : ∀ (u : State) (k : Nat), tableView (cpPoll k u) = tableView u := fun u k => by
    unfold cpPoll
    split
    · rfl
    · dsimp only
      split
      · split
        · exact (tableView_rsat _ _ _ _ (by decide)).trans (tableView_setObj ..)
        · split
          · exact (tableView_rsat _ _ _ _ (by decide)).trans (tableView_setObj ..)
          · exact tableView_cpFire ..
      · rfl
  unfold cpPollAll
  split
  · exact foldl_keeps (g := tableView) hpoll _ s
  · rfl

/-! ### The runs of a line (R203, R207, R208, R211, R212) -/

theorem tableView_openObj {b : Nat} {head : Option Nat} {s : State} {r : Option Nat × State} (h : openObj b head s = r) :
    tableView r.2 = tableView s := by
  subst h
  unfold openObj
  split
  · rfl
  · exact (tableView_rmax _ _ _ _ (by decide)).trans (tableView_vdtMod rfl rfl rfl)

@[simp] theorem tableView_overflowRun (b lo : Nat) (s : State) : tableView (overflowRun b lo s) = tableView s :=
  (tableView_raise ..).trans (tableView_rsat _ _ _ _ (by decide))

@[simp] theorem tableView_closeLive (k : Nat) (s : State) : tableView (closeLive k s) = tableView s := by
  unfold closeLive
  split
  · rfl
  · split <;> simp (disch := decide)

@[simp] theorem tableView_splitHead (k : Nat) (s : State) : tableView (splitHead k s) = tableView s := by
  unfold splitHead
  split <;> simp

@[simp] theorem tableView_liveRun (b : Nat) (segs : List LeadIn) (lo hi k : Nat) (s : State) :
    tableView (liveRun b segs lo hi k s) = tableView s := tableView_modObj ..

@[simp] theorem tableView_markIncomplete (ks : List Nat) (s : State) : tableView (markIncomplete ks s) = tableView s :=
  foldl_keeps (g := tableView) (fun _ _ => tableView_modObj ..) _ s

@[simp] theorem tableView_connectRun (b : Nat) (shut : Bool) (conn : List PrevRun) (w : LineWork) :
    tableView (connectRun b shut conn w).work.s = tableView w.s := by
  unfold connectRun
  generalize ha : (⟨[], [], false, w⟩ : RunConn) = a
  have hw : w = a.work := congrArg RunConn.work ha
  rw [hw]
  clear ha hw w
  induction conn generalizing a with
  | nil => rfl
  | cons p conn ih =>
    rw [List.foldl_cons, ih]
    split
    · rfl
    · dsimp only
      split
      · rfl
      · split
        · rfl
        · split
          · rfl
          · split
            · next h =>
              split at h
              · cases h
              · exact tableView_openObj h
            · rfl

theorem tableView_takeRun (b : Nat) (shut bridged : Bool) (segs : List LeadIn) (w : LineWork) (r : Nat × Nat × Bool) :
    tableView (takeRun b shut bridged segs w r).s = tableView w.s := by
  unfold takeRun
  extract_lets lo hi conn untracked track c w1 first s1
  have htrack : ∀ (k : Nat) (w : LineWork), tableView (track k w).s = tableView w.s := fun k w =>
    (tableView_liveRun ..).trans (tableView_modObj ..)
  have hw1 : tableView w1.s = tableView w.s := tableView_connectRun ..
  have hs1 : tableView s1 = tableView w.s := (tableView_markIncomplete ..).trans hw1
  split
  · exact tableView_markIncomplete ..
  · split
    · extract_lets root s1 old
      refine (htrack _ _).trans ((tableView_modObj ..).trans ((foldl_keeps (g := tableView) (fun u k => ?_) _ _).trans hw1))
      split
      · rfl
      · exact tableView_absorb ..
    · split
      · exact hs1
      · split
        · next h =>
          split at h
          · exact (htrack _ _).trans ((tableView_openObj h).trans hs1)
          · cases h
        · next h =>
          refine (tableView_overflowRun ..).trans ?_
          split at h
          · exact (tableView_openObj h).trans hs1
          · obtain ⟨-, rfl⟩ := Prod.mk.inj h
            exact hs1

theorem tableView_takeRuns (b : Nat) (shut bridged : Bool) (segs : List LeadIn) (rs : List (Nat × Nat × Bool)) (w : LineWork) :
    tableView (rs.foldl (takeRun b shut bridged segs) w).s = tableView w.s := by
  induction rs generalizing w with
  | nil => rfl
  | cons r rs ih => exact (ih _).trans (tableView_takeRun ..)

@[simp] theorem tableView_finishLine (b miss : Nat) (segs : List LeadIn) (s : State) : tableView (finishLine b miss segs s) = tableView s := by
  refine foldl_keeps (g := tableView) (fun u p => ?_) _ s
  extract_lets k o m d1 s1
  have hs1 : tableView s1 = tableView u := by
    unfold s1
    split
    · exact tableView_modObj ..
    · split
      · exact tableView_modObj ..
      · rfl
  split
  · exact tableView_closeLive ..
  · split
    · exact (tableView_splitHead ..).trans hs1
    · exact hs1

end Sys2Proof.Proofs
end

section
/-! PROOFS. The sector units work through their input without touching the band store (R141-R161): what they close waits in the write queue
(R162). -/

namespace Sys2Proof.Proofs

open Sys2Proof Sys2Proof.Machine

/-- The descriptors and the samples of the band store (R162). -/
def bandView (s : State) : Map Desc × Map Nat := (s.pip.desc, s.pip.store)

theorem bandView_congr {s t : State} (h : t.pip = s.pip) : bandView t = bandView s := by rw [bandView, bandView, h]

theorem descAt_of_bandView {s t : State} (h : bandView t = bandView s) (pos : Nat) : descAt t pos = descAt s pos := by
  rw [descAt, descAt, show t.pip.desc = s.pip.desc from congrArg Prod.fst h]

@[simp] theorem bandView_setSec (n : Nat) (x : Sec) (s : State) : bandView (setSec n x s) = bandView s := rfl

@[simp] theorem bandView_rsat (s : State) (a hi lo n : Nat) : bandView (rsat s a hi lo n) = bandView s := rfl

@[simp] theorem bandView_raise (code fid : Nat) (args : List Nat) (ctag coord : Nat) (s : State) :
    bandView (raise code fid args ctag coord s) = bandView s := bandView_congr (raise_pip ..)

@[simp] theorem bandView_raiseIf (c : Bool) (code fid : Nat) (args : List Nat) (ctag coord : Nat) (s : State) :
    bandView (raiseIf c code fid args ctag coord s) = bandView s := bandView_congr (raiseIf_pip ..)

@[simp] theorem bandView_pushSeg (n : Nat) (g : Seg) (s : State) : bandView (pushSeg n g s) = bandView s := rfl

@[simp] theorem bandView_defLine (n l k b : Nat) (vals : Map Nat) (s : State) : bandView (defLine n l k b vals s).2 = bandView s := by
  unfold defLine
  dsimp only
  refine foldl_keeps (g := bandView) (fun u p => ?_) _ s
  split
  · rw [bandView_raise]
    exact (bandView_raiseIf ..).trans (bandView_raiseIf ..)
  · exact (bandView_raiseIf ..).trans (bandView_raiseIf ..)

@[simp] theorem bandView_throughComp (n l : Nat) (c : CapSet) (o : OpenBL) (s : State) :
    bandView (throughComp n l c o s).2.2 = bandView s := by
  unfold throughComp
  dsimp only
  rw [bandView_defLine, bandView_raiseIf]

@[simp] theorem bandView_closeLine (n : Nat) (x : SecIn) (k b : Nat) (s : State) : bandView (closeLine n x k b s) = bandView s := by
  unfold closeLine
  extract_lets u o c ep inv got s0 lead short s1 r
  have hlead : ∀ (m : Map Nat) (kind : Nat) (v : State), bandView (lead m kind v) = bandView v := fun m kind v => by
    unfold lead
    split <;> rfl
  have hs0 : bandView s0 = bandView s := rfl
  have hs1 : bandView s1 = bandView s := by
    unfold s1
    split
    · simpa using hs0
    · exact hs0
  split
  · exact (hlead ..).trans ((bandView_pushSeg ..).trans hs0)
  · split
    · have hr : bandView r.2.2 = bandView s := (bandView_throughComp ..).trans hs1
      exact (hlead ..).trans ((bandView_pushSeg ..).trans hr)
    · split
      · exact (hlead ..).trans ((bandView_raise ..).trans hs0)
      · exact (hlead ..).trans hs0

@[simp] theorem bandView_closeBand (n : Nat) (x : SecIn) (k : Nat) (s : State) : bandView (closeBand n x k s) = bandView s := by
  unfold closeBand
  split
  · rfl
  · exact foldl_keeps (g := bandView) (fun u i => bandView_closeLine ..) _ s

theorem bandView_closeBands (n : Nat) (x : SecIn) (ks : List Nat) (s : State) :
    bandView (ks.foldl (fun s k => closeBand n x k s) s) = bandView s := foldl_keeps (fun _ _ => bandView_closeBand ..) ks s

@[simp] theorem bandView_offsetLost (n : Nat) (x : SecIn) (s : State) : bandView (offsetLost n x s) = bandView s := by
  unfold offsetLost
  dsimp only
  split <;> rfl

@[simp] theorem bandView_linOffset (n : Nat) (x : SecIn) (s : State) : bandView (linOffset n x s) = bandView s :=
  (bandView_raiseIf ..).trans (bandView_setSec ..)

@[simp] theorem bandView_tdiRow (n : Nat) (x : SecIn) (k r : Nat) (s : State) : bandView (tdiRow n x k r s) = bandView s := by
  unfold tdiRow
  dsimp only
  split
  · rfl
  · split
    · rfl
    · split <;> rfl

@[simp] theorem bandView_tdiGap (n : Nat) (x : SecIn) (s : State) : bandView (tdiGap n x s) = bandView s := by
  refine foldl_keeps (g := bandView) (fun u q => ?_) _ s
  dsimp only
  split <;> rfl

@[simp] theorem bandView_secEntry (n : Nat) (x : SecIn) (s : State) : bandView (secEntry n x s) = bandView s := by
  unfold secEntry
  extract_lets c u s0 s1 s2 u'
  have hs0 : bandView s0 = bandView s := rfl
  have hs1 : bandView s1 = bandView s := by
    unfold s1
    split
    · split
      · exact (bandView_offsetLost ..).trans hs0
      · exact (bandView_linOffset ..).trans hs0
    · dsimp only
      split
      · exact (bandView_closeBand ..).trans ((bandView_tdiRow ..).trans hs0)
      · exact (bandView_tdiRow ..).trans hs0
  split
  · exact (bandView_closeBands ..).trans ((bandView_tdiGap ..).trans ((bandView_offsetLost ..).trans hs0))
  · split
    · exact (bandView_closeBands ..).trans hs1
    · exact hs1

theorem bandView_secPumpF (f n : Nat) (s : State) : bandView (secPumpF f n s) = bandView s := by
  induction f generalizing s with
  | zero => rfl
  | succ f ih =>
    unfold secPumpF
    dsimp only
    split
    · split
      · exact (ih _).trans ((bandView_secEntry ..).trans (bandView_setSec ..))
      · rfl
    · rfl

@[simp] theorem bandView_secPump (n : Nat) (s : State) : bandView (secPump n s) = bandView s := by
  unfold secPump
  split
  · exact bandView_secPumpF ..
  · rfl

end Sys2Proof.Proofs
end

section
/-! PROOFS. LEAD segments and the object table: runs of a sector, the next line of the table, missing lines and the label history (R201, R203,
R204, R206). -/

namespace Sys2Proof.Proofs

open Sys2Proof Sys2Proof.Machine

section
variable {s t : State} (h : tableView t = tableView s)
include h

theorem lead_of_tableView : t.vdt.lead = s.vdt.lead := congrArg TableView.lead h

theorem missing_of_tableView : t.vdt.missing = s.vdt.missing := congrArg TableView.missing h

theorem prevB_of_tableView : t.vdt.prevB = s.vdt.prevB := congrArg TableView.prevB h

theorem bandView_of_tableView : bandView t = bandView s := bandView_congr (congrArg TableView.pip h)

theorem inReset_of_tableView (fid : Nat) : inReset t fid = inReset s fid := by
  rw [inReset, inReset, show t.rst = s.rst from congrArg TableView.rst h]

end

/-- The slot of a label line depends on the registers of the rings alone (R162). -/
theorem slotPos_of_ringRegs {s t : State} (h : ringRegs t = ringRegs s) (b : Nat) : slotPos t 9 b = slotPos s 9 b := by
  have hreg : ∀ i < 10, rget t (Reg.PIP_BS_DEPTH + 4 * i) = rget s (Reg.PIP_BS_DEPTH + 4 * i) := fun i hi =>
    List.map_inj_left.mp h i (List.mem_range.mpr hi)
  have hbase : ringBase t 9 = ringBase s 9 := by
    refine congrArg nsum (List.map_congr_left (fun i hi => rfld_of_rget (hreg i ?_) 9 0))
    exact Nat.lt_succ_of_lt (List.mem_range.mp hi)
  have hdepth : ringDepth t 9 = ringDepth s 9 := rfld_of_rget (hreg 9 (by decide)) 7 0
  rw [slotPos, slotPos, hbase, hdepth]

/-! ### LEAD segments (R201, R523) -/

/-- The segment that unit `n` delivers of LEAD segment `g`, by its kind. -/
def deliveredSegment (s : State) (n : Nat) (g : LeadSeg) (kind : Nat) : LeadIn := ⟨n, g.b,
  if kind = 0 then runsOf ((g.samples.filter (fun p =>
    inWin (lineSet s g.b s.ary.epoch).gwin p.1 && foreground s 0 p.2)).map (·.1)) else [], g.samples, kind⟩

theorem leadSegmentReceived_delivers {s : State} {n : Nat} {g : LeadSeg} {rest : List LeadSeg} {kind : Nat} (hn : n < 12)
    (hw : works s = true) (hlead : (secOf s n).lead = g :: rest)
    (hkind : kind = if ((inReset s (0x60000 + 0x100 * n) || inReset s (0x60001 + 0x100 * n)) && g.kind = 0) = true then 1 else g.kind) :
    completes (.leadSegmentReceived n) s (fun t => t.vdt.lead = s.vdt.lead ++ [deliveredSegment s n g kind]) := by
  refine ⟨cpPollAll (leadSegment n s), rfl, ?_⟩
  beta_reduce
  rw [lead_of_tableView (tableView_cpPollAll _), leadSegment]
  dsimp only
  rw [hlead]
  dsimp only
  rw [if_neg (by simp [hw, hn]), ← hkind, (Laws.within_secPump ..).vdt rfl, vdtMod_vdt]
  rfl

/-! ### The label history (R162, R206) -/

theorem writeLabels_desc {b : Nat} (runs : List PrevRun) {s : State} (h : inReset s 0x40C00 = false) (pos : Nat) :
    ∃ ep, descAt (writeLabels b runs s) pos =
      if pos = slotPos s 9 b then { Desc.reset with index := b % 65536, epoch := ep, written := 0xFFF } else descAt s pos := by
  refine ⟨((tagOf s b).map (·.epoch)).getD s.ary.epoch, ?_⟩
  unfold writeLabels
  dsimp only
  rw [if_neg (by simp [h])]
  exact mgetD_mput ..

/-- Writing labels changes the band store alone. -/
theorem writeLabels_vdt (b : Nat) (runs : List PrevRun) (s : State) : (writeLabels b runs s).vdt = s.vdt :=
  (Laws.within_writeLabels b runs s).vdt rfl

/-! ### The next line of the object table (R203, R204) -/

/-- The state with the segments of line `b` taken from the queue. -/
def lineTaken (b : Nat) (s : State) : State := vdtMod (fun v => { v with lead := v.lead.filter (fun g => g.b != b) }) s

/-- What follows a line of the object table: the sectors take more input, and checkpoints and closes are looked at. -/
def afterLine (s : State) : State := closeDue (cpPollAll ((List.range 12).foldl (fun s n => secPump n s) s))

theorem objectTableLine_eq {s : State} {b : Nat} {segs : List LeadIn} (hw : works s = true) (hl : leadLine s = some (b, segs)) :
    objectTableLine s = afterLine
      (if segs.all (fun g => g.kind == 2) then missingLine b (lineTaken b s) else tableLine b segs (lineTaken b s)) := by
  unfold objectTableLine
  rw [hw, hl]
  rfl

section
variable (s : State)

theorem afterLine_vdt_lines : (afterLine s).vdt.lead = s.vdt.lead ∧ (afterLine s).vdt.missing = s.vdt.missing ∧
    (afterLine s).vdt.prevB = s.vdt.prevB := by
  have hpump : ((List.range 12).foldl (fun s n => secPump n s) s).vdt = s.vdt :=
    foldl_keeps (g := State.vdt) (fun u n => (Laws.within_secPump n u).vdt rfl) _ s
  have hview := (tableView_closeDue (cpPollAll ((List.range 12).foldl (fun s n => secPump n s) s))).trans (tableView_cpPollAll _)
  rw [afterLine, lead_of_tableView hview, missing_of_tableView hview, prevB_of_tableView hview, hpump]
  exact ⟨rfl, rfl, rfl⟩

theorem afterLine_bandView : bandView (afterLine s) = bandView s :=
  (bandView_of_tableView ((tableView_closeDue _).trans (tableView_cpPollAll _))).trans
    (foldl_keeps (fun u n => bandView_secPump n u) _ s)

end

/-- After the labels of a missing line only closes follow. -/
theorem tableView_missingLine (b : Nat) (s : State) : tableView (missingLine b s) =
    tableView (writeLabels b [] (vdtMod (fun v => { v with missing := s.vdt.missing + 1 }) s)) := by
  unfold missingLine
  extract_lets n s1 opened
  split
  · refine (tableView_vdtMod rfl rfl rfl).trans (foldl_keeps (g := tableView) (fun u k => ?_) _ _)
    rw [tableView_closeLive, tableView_modObj]
  · refine foldl_keeps (g := tableView) (fun u k => ?_) _ _
    split
    · split
      · exact tableView_splitHead ..
      · rfl
    · rfl

/-- A line written in some sector ends with its labels, and is then the previous processed one (R204). -/
theorem tableLine_ends_with_labels (b : Nat) (segs : List LeadIn) (s : State) : ∃ runs x, tableLine b segs s = writeLabels b runs x ∧
    tableView x = { tableView s with missing := 0, prevB := some b } := by
  unfold tableLine
  extract_lets miss s0 s1 rc s2 shut w runs s3
  refine ⟨runs, _, rfl, (tableView_finishLine ..).trans ?_⟩
  have hs0 : tableView s0 = tableView s := by
    refine foldl_keeps (g := tableView) (fun u g => ?_) _ s
    split
    · rfl
    · exact tableView_raise ..
  have hs1 : tableView s1 = tableView s := by
    refine (foldl_keeps (g := tableView) (fun u p => ?_) _ s0).trans hs0
    split
    · split
      · exact tableView_modObj ..
      · rfl
    · rfl
  have hs2 : tableView s2 = tableView s := by
    refine (foldl_keeps (g := tableView) (fun u n => ?_) _ s1).trans hs1
    have hmax := tableView_rmax u 31 24 (rc.2.getD n 0) (a := Reg.VDT_SEG_STATUS + 4 * n) (.inr (Nat.lt_add_right _ (by decide)))
    dsimp only
    split
    · exact hmax
    · rw [tableView_raise, tableView_rsat _ _ _ _ (.inr (Nat.lt_add_right _ (by decide))), hmax]
  have hw : tableView w.s = tableView s := (tableView_takeRuns ..).trans hs2
  exact congrArg (fun v : TableView => { v with missing := 0, prevB := some b }) hw

/-- The labels of a line of the object table, processed or missing, are the last thing written to the band store. -/
theorem lineStep_bandView (b : Nat) (segs : List LeadIn) (c : Bool) (s : State) : ∃ runs x,
    bandView (if c then missingLine b s else tableLine b segs s) = bandView (writeLabels b runs x) ∧
      ringRegs x = ringRegs s ∧ x.rst = s.rst ∧ x.pip = s.pip := by
  cases c with
  | true => exact ⟨[], _, bandView_of_tableView (tableView_missingLine b s), rfl, rfl, rfl⟩
  | false =>
    obtain ⟨runs, x, hline, hview⟩ := tableLine_ends_with_labels b segs s
    exact ⟨runs, x, congrArg bandView hline, congrArg TableView.rings hview, congrArg TableView.rst hview, congrArg TableView.pip hview⟩

section
variable {s : State} {b : Nat} {segs : List LeadIn} (hw : works s = true) (hl : leadLine s = some (b, segs))
include hw hl

theorem objectTableLine_writes_labels (hres : inReset s 0x40C00 = false) :
    completes .objectTableLine s (fun t => (descAt t (slotPos s 9 b)).index = b % 65536 ∧
      (descAt t (slotPos s 9 b)).written = 0xFFF ∧ ∀ pos, pos ≠ slotPos s 9 b → descAt t pos = descAt s pos) := by
  refine ⟨objectTableLine s, rfl, ?_⟩
  beta_reduce
  rw [objectTableLine_eq hw hl]
  obtain ⟨runs, x, hband, hrings, hrst, hpip⟩ := lineStep_bandView b segs (segs.all (fun g => g.kind == 2)) (lineTaken b s)
  have hslot : slotPos x 9 b = slotPos s 9 b := slotPos_of_ringRegs hrings b
  have hin : inReset x 0x40C00 = false := by
    rw [inReset, hrst]
    exact hres
  have hdesc := fun pos => descAt_of_bandView ((afterLine_bandView _).trans hband) pos
  obtain ⟨ep, hpos⟩ := writeLabels_desc runs hin (b := b) (slotPos s 9 b)
  rw [if_pos hslot.symm] at hpos
  rw [hdesc, hpos]
  refine ⟨rfl, rfl, fun pos hne => ?_⟩
  obtain ⟨ep, hother⟩ := writeLabels_desc runs hin (b := b) pos
  rw [hdesc, hother, if_neg (by rwa [hslot])]
  exact descAt_of_bandView (bandView_congr hpip) pos

theorem objectTableLine_counts_missing_line (hmiss : segs.all (fun g => g.kind == 2) = true) :
    completes .objectTableLine s (fun t => t.vdt.missing = s.vdt.missing + 1 ∧ t.vdt.prevB = s.vdt.prevB ∧
      t.vdt.lead = s.vdt.lead.filter (fun g => g.b != b)) := by
  refine ⟨objectTableLine s, rfl, ?_⟩
  beta_reduce
  rw [objectTableLine_eq hw hl, hmiss, if_pos rfl]
  obtain ⟨hlead, hcount, hprev⟩ := afterLine_vdt_lines (missingLine b (lineTaken b s))
  have hview := tableView_missingLine b (lineTaken b s)
  rw [hlead, hcount, hprev, lead_of_tableView hview, missing_of_tableView hview, prevB_of_tableView hview, writeLabels_vdt]
  exact ⟨rfl, rfl, rfl⟩

theorem objectTableLine_processes_line (hwritten : segs.all (fun g => g.kind == 2) = false) :
    completes .objectTableLine s (fun t => t.vdt.missing = 0 ∧ t.vdt.prevB = some b ∧
      t.vdt.lead = s.vdt.lead.filter (fun g => g.b != b)) := by
  refine ⟨objectTableLine s, rfl, ?_⟩
  beta_reduce
  rw [objectTableLine_eq hw hl, hwritten, if_neg (by decide)]
  obtain ⟨runs, x, hline, hview⟩ := tableLine_ends_with_labels b segs (lineTaken b s)
  obtain ⟨hlead, hcount, hprev⟩ := afterLine_vdt_lines (tableLine b segs (lineTaken b s))
  rw [hlead, hcount, hprev, hline, writeLabels_vdt]
  exact ⟨congrArg TableView.missing hview, congrArg TableView.prevB hview, congrArg TableView.lead hview⟩

end

theorem objectTableLine_waits (s : State) (hl : leadLine s = none) : completes .objectTableLine s (fun t => t = s) := by
  refine ⟨objectTableLine s, rfl, ?_⟩
  unfold objectTableLine
  rw [hl]
  exact ite_self _

end Sys2Proof.Proofs
end

section
/-! PROOFS. Accumulation by sectors (R211, R215-R218): what a sector takes from a registered line, and what it leaves. -/

namespace Sys2Proof.Proofs

open Sys2Proof Sys2Proof.Machine

/-! ### Entries of maps -/

theorem mem_of_mget {α : Type} {m : Map α} {k : Nat} {v : α} (h : mget m k = some v) : (k, v) ∈ m := by
  induction m with
  | nil => cases h
  | cons p m ih =>
    obtain ⟨a, w⟩ := p
    rw [mget] at h
    split at h
    · next hk => rw [hk, Option.some.inj h]; exact List.mem_cons_self
    · exact List.mem_cons_of_mem _ (ih h)

theorem mget_madj {α : Type} (m : Map α) (k : Nat) (f : α → α) (j : Nat) :
    mget (madj m k f) j = if j = k then (mget m j).map f else mget m j := by
  induction m with
  | nil => simp [madj]
  | cons p m ih =>
    obtain ⟨a, w⟩ := p
    have hcons : madj ((a, w) :: m) k f = (a, if a = k then f w else w) :: madj m k f := by
      rw [madj, List.map_cons, ← madj]
      split <;> rfl
    rw [hcons, mget, mget]
    by_cases haj : a = j
    · subst haj
      by_cases hak : a = k <;> simp [hak]
    · rw [if_neg haj, if_neg haj, ih]

/-! ### What accumulation is about -/

/-- STATE, AREA and SUM_C of an object. -/
def accFeatures (o : Obj) : Nat × Nat × Int := (o.st, o.reg.area, o.reg.sumC)

/-- STATE, AREA and SUM_C of the object in each slot. -/
def slotView (s : State) (k : Nat) : Option (Nat × Nat × Int) := (objOf s k).map accFeatures

/-- No object waits for its registered close. -/
def noneTrailing (s : State) : Prop := ∀ p ∈ s.vdt.objs, p.2.st ≠ 2 ∧ p.2.st ≠ 7

theorem slotView_congr {s t : State} (h : t.vdt.objs = s.vdt.objs) : slotView t = slotView s := by
  funext k
  rw [slotView, slotView, objOf, objOf, h]

theorem objOf_setObj (k : Nat) (o : Obj) (s : State) (j : Nat) : objOf (setObj k o s) j = if j = k then some o else objOf s j := by
  split
  · next h => exact h ▸ Laws.mget_mput_same _ _ _
  · next h => exact Laws.mget_mput_other _ _ h

theorem slotView_setObj_same {k : Nat} {o u : Obj} {s : State} (h : objOf s k = some o) (hf : accFeatures u = accFeatures o) :
    slotView (setObj k u s) = slotView s := by
  funext j
  rw [slotView, slotView, objOf_setObj]
  split
  · next hj => rw [hj, h]; exact congrArg some hf
  · rfl

theorem slotView_modObj {k : Nat} {f : Obj → Obj} (hf : ∀ o, accFeatures (f o) = accFeatures o) (s : State) :
    slotView (modObj k f s) = slotView s := by
  funext j
  rw [slotView, slotView, show objOf (modObj k f s) j = _ from mget_madj ..]
  split
  · rw [Option.map_map]
    exact congrArg (fun g => (objOf s j).map g) (funext hf)
  · rfl

theorem noneTrailing_setObj {k : Nat} {o : Obj} {s : State} (h : noneTrailing s) (ho : o.st ≠ 2 ∧ o.st ≠ 7) :
    noneTrailing (setObj k o s) := by
  intro p hp
  rcases Laws.mput_mem _ _ _ hp with rfl | hp
  · exact ho
  · exact h p hp

theorem noneTrailing_modObj {k : Nat} {f : Obj → Obj} (hf : ∀ o, (f o).st = o.st) {s : State} (h : noneTrailing s) :
    noneTrailing (modObj k f s) := by
  intro p hp
  obtain ⟨q, hq, rfl⟩ := List.mem_map.mp hp
  split
  · simpa [hf] using h q hq
  · exact h q hq

theorem noneTrailing_obj {k : Nat} {o : Obj} {s : State} (h : noneTrailing s) (ho : objOf s k = some o) : o.st ≠ 2 ∧ o.st ≠ 7 :=
  h (k, o) (mem_of_mget ho)

theorem closeDue_of_noneTrailing {s : State} (h : noneTrailing s) : closeDue s = s := by
  have hnone : s.vdt.objs.filter (fun p => p.2.st == 2 || p.2.st == 7) = [] :=
    List.filter_eq_nil_iff.mpr (fun p hp => by simp [h p hp])
  rw [closeDue, hnone]
  rfl

/-! ### The TRL watch and the edges below (R215, R218) -/

theorem watchLine_keeps (k : Nat) (r : RegLine) (s : State) :
    watchLine k r s = s ∨ ∃ o u, objOf s k = some o ∧ watchLine k r s = setObj k u s ∧ accFeatures u = accFeatures o := by
  unfold watchLine
  split
  · exact .inl rfl
  · next o ho =>
    dsimp only
    split
    · exact .inl rfl
    · split
      · exact .inr ⟨o, _, ho, rfl, rfl⟩
      · split
        · split
          · exact .inr ⟨o, _, ho, rfl, rfl⟩
          · exact .inl rfl
        · split
          · exact .inr ⟨o, _, ho, rfl, rfl⟩
          · exact .inl rfl

theorem watchLine_slotView (k : Nat) (r : RegLine) (s : State) : slotView (watchLine k r s) = slotView s := by
  rcases watchLine_keeps k r s with h | ⟨o, u, ho, h, hf⟩ <;> rw [h]
  exact slotView_setObj_same ho hf

theorem watchLine_noneTrailing (k : Nat) (r : RegLine) {s : State} (hs : noneTrailing s) : noneTrailing (watchLine k r s) := by
  rcases watchLine_keeps k r s with h | ⟨o, u, ho, h, hf⟩ <;> rw [h]
  · exact hs
  · have hst : u.st = o.st := congrArg Prod.fst hf
    exact noneTrailing_setObj hs (hst ▸ noneTrailing_obj hs ho)

/-- An object with `b` pixels more on the line before that have none below (R215). -/
def withBottoms (b : Nat) (o : Obj) : Obj := { o with reg := { o.reg with p4 := o.reg.p4 + 16000 * b } }

/-- What a sector does for an object before it takes the pixels of a line: the edges below the line before, and the TRL watch. -/
def beforePixels (n : Nat) (r : RegLine) (below : Nat → Nat) (s : State) (p : Nat × Obj) : State :=
  let u := if below p.1 = 0 then s else modObj p.1 (withBottoms (below p.1)) s
  if p.2.cStar / 1536 = n then watchLine p.1 r u else u

section
variable (n : Nat) (r : RegLine) (below : Nat → Nat)

theorem beforePixels_pip (s : State) (p : Nat × Obj) : (beforePixels n r below s p).pip = s.pip := by
  unfold beforePixels
  dsimp only
  split <;> split <;> simp only [(Laws.within_watchLine ..).pip rfl, (Laws.within_modObj ..).pip rfl]

theorem beforePixels_keeps (p : Nat × Obj) {s : State} (hs : noneTrailing s) :
    noneTrailing (beforePixels n r below s p) ∧ slotView (beforePixels n r below s p) = slotView s := by
  unfold beforePixels
  extract_lets u
  obtain ⟨hu, hv⟩ : noneTrailing u ∧ slotView u = slotView s := by
    unfold u
    split
    · exact ⟨hs, rfl⟩
    · exact ⟨noneTrailing_modObj (f := withBottoms (below p.1)) (fun _ => rfl) hs,
        slotView_modObj (f := withBottoms (below p.1)) (fun _ => rfl) s⟩
  split
  · exact ⟨watchLine_noneTrailing _ _ hu, (watchLine_slotView ..).trans hv⟩
  · exact ⟨hu, hv⟩

theorem foldl_beforePixels_keeps (l : List (Nat × Obj)) {s : State} (hs : noneTrailing s) :
    noneTrailing (l.foldl (beforePixels n r below) s) ∧ slotView (l.foldl (beforePixels n r below) s) = slotView s :=
  List.foldlRecOn (motive := fun u => noneTrailing u ∧ slotView u = slotView s) l _ ⟨hs, rfl⟩ (fun _ hu p _ =>
    have hstep := beforePixels_keeps n r below p hu.1
    ⟨hstep.1, hstep.2.trans hu.2⟩)

end

/-! ### Pixels of one object (R215) -/

theorem addPixels_area_sumC {cols : List Nat} (h : cols ≠ []) (dl : Int) (f : Feat) :
    (addPixels cols dl f).area = satN 24 (f.area + cols.length) ∧ (addPixels cols dl f).sumC = fitS 40 (f.sumC + nsum cols) := by
  cases cols with
  | nil => exact absurd rfl h
  | cons c cols => exact ⟨rfl, rfl⟩

/-- An object that takes pixels gains them in AREA and SUM_C and stays in its state. -/
theorem accumulate_gains {n k : Nat} {cols : List Nat} {r : RegLine} {s : State} {o : Obj} (ho : objOf s k = some o) (hc : cols ≠ []) :
    ∃ u, accumulate n k cols r s = setObj k u s ∧
      accFeatures u = (o.st, satN 24 (o.reg.area + cols.length), fitS 40 (o.reg.sumC + nsum cols)) := by
  have hflag : ∀ (c : Bool) (i : Nat) (x : Obj), accFeatures (flagIf c i x) = accFeatures x := fun c i x => by cases c <;> rfl
  unfold accumulate
  split
  · next h => cases h.symm.trans ho
  next o' h =>
  obtain rfl : o = o' := Option.some.inj (ho.symm.trans h)
  extract_lets c f0 f1 f2 f3 f4 marks first last lo hi
  refine ⟨_, rfl, ?_⟩
  iterate 7 rw [hflag]
  have h0 : (f0.area, f0.sumC) = (satN 24 (o.reg.area + cols.length), fitS 40 (o.reg.sumC + nsum cols)) :=
    Prod.ext (addPixels_area_sumC hc _ _).1 (addPixels_area_sumC hc _ _).2
  have h1 : (f1.area, f1.sumC) = (f0.area, f0.sumC) :=
    List.foldlRecOn (motive := fun f : Feat => (f.area, f.sumC) = (f0.area, f0.sumC)) _ _ rfl (fun f hf b _ => hf)
  have h2 : (f2.area, f2.sumC) = (f1.area, f1.sumC) :=
    List.foldlRecOn (motive := fun f : Feat => (f.area, f.sumC) = (f1.area, f1.sumC)) _ _ rfl (fun f hf j _ => hf)
  have h4 : (f4.area, f4.sumC) = (f2.area, f2.sumC) := by
    unfold f4
    split <;> rfl
  exact congrArg (Prod.mk o.st) (h4.trans (h2.trans (h1.trans h0)))

/-- With no object to close, a sector that has looked at edges and watches gives its pixels to one object, and the others stay. -/
theorem accumulate_after_edges {k : Nat} {o : Obj} {cols : List Nat} {s : State} (ho : objOf s k = some o) (hc : cols ≠ [])
    (hs : noneTrailing s) (n : Nat) (r : RegLine) (below : Nat → Nat) (l : List (Nat × Obj)) :
    noneTrailing (accumulate n k cols r (l.foldl (beforePixels n r below) s)) ∧
      ∀ j, slotView (accumulate n k cols r (l.foldl (beforePixels n r below) s)) j = if j = k then
        some (o.st, satN 24 (o.reg.area + cols.length), fitS 40 (o.reg.sumC + nsum cols)) else slotView s j := by
  obtain ⟨hs1, hv1⟩ := foldl_beforePixels_keeps n r below l hs
  generalize l.foldl (beforePixels n r below) s = s1 at hs1 hv1
  obtain ⟨o1, ho1, hf1⟩ : ∃ o1, objOf s1 k = some o1 ∧ accFeatures o1 = accFeatures o :=
    Option.map_eq_some_iff.mp ((congrFun hv1 k).trans (congrArg (Option.map accFeatures) ho))
  obtain ⟨hst, harea, hsum⟩ : o1.st = o.st ∧ o1.reg.area = o.reg.area ∧ o1.reg.sumC = o.reg.sumC := by
    simpa only [accFeatures, Prod.mk.injEq] using hf1
  obtain ⟨u, hu, hfu⟩ := accumulate_gains (n := n) (r := r) ho1 hc
  have hust : u.st = o1.st := congrArg Prod.fst hfu
  rw [hu]
  refine ⟨noneTrailing_setObj hs1 (hust ▸ noneTrailing_obj hs1 ho1), fun j => ?_⟩
  rw [slotView, objOf_setObj]
  split
  · rw [← hst, ← harea, ← hsum, ← hfu]
    rfl
  · exact congrFun hv1 j

/-- Every group of columns has an entry. -/
theorem byObject_nonempty (l : List (Nat × Nat)) : ∀ p ∈ byObject l, p.2 ≠ [] := by
  refine List.foldlRecOn (motive := fun m : Map (List Nat) => ∀ p ∈ m, p.2 ≠ []) l _ (by simp) (fun m hm q _ p hp => ?_)
  rcases Laws.mput_mem _ _ _ hp with rfl | hp
  · simp
  · exact hm p hp

/-! ### One sector on one registered line -/

theorem accumulateSegment_waits (s : State) (n : Nat) (h : nextAcc s n = none) :
    completes (.registeredSegmentAccumulate n) s (fun t => t = s) := by
  refine ⟨accumulateSegment n s, rfl, ?_⟩
  beta_reduce
  rw [accumulateSegment, h]

/-- The columns of sector `n` on registered line `r`, by the object whose label they carry. -/
def ownColumns (s : State) (n : Nat) (r : RegLine) : Map (List Nat) :=
  byObject ((r.labels.filter (fun p => p.1 / 1536 == n)).filterMap (fun p => (resolve s r.l p.2).map (fun i => (i, p.1))))

/-- An object without its marks of registered line `l` (R216). -/
def forgetLine (l : Nat) (o : Obj) : Obj := { o with seen := o.seen.filter (fun m => m / 32 != l) }

theorem slotView_mapObjs {s t : State} {f : Obj → Obj} (h : t.vdt.objs = s.vdt.objs.map (fun p => (p.1, f p.2)))
    (hf : ∀ o, accFeatures (f o) = accFeatures o) : slotView t = slotView s := by
  funext k
  rw [slotView, slotView, objOf, h, mget_map, Option.map_map]
  exact congrArg (fun g => (objOf s k).map g) (funext hf)

section
variable {s : State} {n : Nat} {r : RegLine} (hn : n < 12) (hw : works s = true) (hr : nextAcc s n = some r)
include hn hw hr

/-- The sector passes the line and leaves the band store; where it has the pixels of one object and none waits for its registered close, that
object alone gains. -/
theorem accumulateSegment_spec :
    ((∀ x ∈ (accumulateSegment n s).pip.lines, x.l = r.l → n ∉ x.accLeft) ∧ (accumulateSegment n s).pip.desc = s.pip.desc ∧
      (accumulateSegment n s).pip.store = s.pip.store) ∧
    ∀ (k : Nat) (o : Obj) (cols : List Nat), inReset s (0x60000 + 0x100 * n) = false → inReset s (0x60001 + 0x100 * n) = false →
      objOf s k = some o → noneTrailing s → ownColumns s n r = [(k, cols)] →
      ∀ j, slotView (accumulateSegment n s) j = if j = k then
        some (o.st, satN 24 (o.reg.area + cols.length), fitS 40 (o.reg.sumC + nsum cols)) else slotView s j := by
  unfold accumulateSegment
  split
  · next h => cases h.symm.trans hr
  next r0 h =>
  obtain rfl : r = r0 := Option.some.inj (hr.symm.trans h)
  rw [if_neg (by simp [hn, hw])]
  extract_lets off w cells cls q mine groups prev s1 s2 s3 done s4 s5
  constructor
  · have hs1 : s1.pip = s.pip := foldl_keeps (g := State.pip) (beforePixels_pip n q (bottoms s q.l q.labels prev)) _ s
    have hs3 : s3.pip = s.pip := (foldl_keeps (g := State.pip) (fun u g => (Laws.within_accumulate ..).pip rfl) groups s1).trans hs1
    have hs5 : s5.pip = s4.pip := (Laws.within_closeDue s4).pip rfl
    have hlines : ∀ x ∈ s5.pip.lines, x.l = r.l → n ∉ x.accLeft := by
      intro x hx hl
      rw [hs5] at hx
      obtain ⟨y, -, rfl⟩ := List.mem_map.mp hx
      split at hl
      · next hy => simp [hy, q]
      · next hy => exact absurd hl hy
    have hdesc3 : s3.pip.desc = s.pip.desc := congrArg Pip.desc hs3
    have hstore3 : s3.pip.store = s.pip.store := congrArg Pip.store hs3
    have hdesc : s5.pip.desc = s.pip.desc := (congrArg Pip.desc hs5).trans hdesc3
    have hstore : s5.pip.store = s.pip.store := (congrArg Pip.store hs5).trans hstore3
    split
    · exact ⟨fun x hx => hlines x (List.mem_of_mem_filter hx), hdesc, hstore⟩
    · exact ⟨hlines, hdesc, hstore⟩
  · intro k o cols h0 h1 ho hs hcols
    have hgroups : groups = [(k, cols)] := by
      rw [← hcols]
      simp [groups, mine, off, h0, h1, ownColumns, q]
    have hne : cols ≠ [] := byObject_nonempty _ (k, cols) (by rw [← ownColumns, hcols]; exact List.mem_singleton_self _)
    have hs2 : s2 = accumulate n k cols q s1 := by
      simp only [s2, hgroups, List.foldl_cons, List.foldl_nil]
    obtain ⟨hnone, hslot2⟩ := accumulate_after_edges ho hne hs n q (bottoms s q.l q.labels prev)
      (s.vdt.objs.filter (fun p => p.2.st == 1 || p.2.st == 2))
    have hs5 : s5 = s4 := closeDue_of_noneTrailing (show noneTrailing s2 from hs2 ▸ hnone)
    have hslot : ∀ j, slotView s5 j = if j = k then
        some (o.st, satN 24 (o.reg.area + cols.length), fitS 40 (o.reg.sumC + nsum cols)) else slotView s j := by
      intro j
      rw [hs5, show slotView s4 = slotView s2 from slotView_congr rfl, hs2]
      exact hslot2 j
    intro j
    split
    · exact (congrFun (slotView_mapObjs (s := s5) (f := forgetLine r.l) rfl (fun _ => rfl)) j).trans (hslot j)
    · exact hslot j

theorem registeredSegmentAccumulate_passes_line : completes (.registeredSegmentAccumulate n) s (fun t =>
    (∀ x, x ∈ t.pip.lines → x.l = r.l → n ∉ x.accLeft) ∧ t.pip.desc = s.pip.desc ∧ t.pip.store = s.pip.store) :=
  ⟨accumulateSegment n s, rfl, (accumulateSegment_spec hn hw hr).1⟩

theorem registeredSegmentAccumulate_adds_pixels {k : Nat} {o : Obj} {cols : List Nat} (h0 : inReset s (0x60000 + 0x100 * n) = false)
    (h1 : inReset s (0x60001 + 0x100 * n) = false) (ho : objOf s k = some o) (hs : noneTrailing s)
    (hcols : ownColumns s n r = [(k, cols)]) :
    completes (.registeredSegmentAccumulate n) s (fun t => (objOf t k).map (fun u => (u.st, u.reg.area, u.reg.sumC)) =
        some (o.st, satN 24 (o.reg.area + cols.length), fitS 40 (o.reg.sumC + nsum cols)) ∧
      ∀ j, j ≠ k → (objOf t j).map (·.reg.area) = (objOf s j).map (·.reg.area)) := by
  have hslot := (accumulateSegment_spec hn hw hr).2 k o cols h0 h1 ho hs hcols
  refine ⟨accumulateSegment n s, rfl, (hslot k).trans (if_pos rfl), fun j hj => ?_⟩
  have harea : ∀ u : State, (objOf u j).map (·.reg.area) = (slotView u j).map (·.2.1) := fun u => by
    rw [slotView, Option.map_map]
    rfl
  rw [harea, harea, hslot j, if_neg hj]

end

/-- Settles O17: a segmentation unit delivers its segment; each line of the object table ends with its labels, and what follows leaves the
lines; a sector takes its pixels into one object and leaves the band store. -/
theorem leadLinesAndSectorsMakeObjects : Obligations.LeadLinesAndSectorsMakeObjects := by
  refine ⟨fun s n g rest hn hw hl h0 h1 => ?_, fun s n g rest hn hw hl hoff => ?_, fun s b segs hw hl => objectTableLine_writes_labels hw hl,
    objectTableLine_waits, fun s b segs hw hl => objectTableLine_counts_missing_line hw hl,
    fun s b segs hw hl => objectTableLine_processes_line hw hl, fun s n r hn hw hr => registeredSegmentAccumulate_passes_line hn hw hr,
    fun s n k r o cols hn hw hr h0 h1 ho hs hcols => registeredSegmentAccumulate_adds_pixels hn hw hr h0 h1 ho hs hcols,
    accumulateSegment_waits⟩
  · exact leadSegmentReceived_delivers hn hw hl (by simp [h0, h1])
  · have hkind : (if g.kind = 0 then 1 else g.kind) ≠ 0 := by split <;> omega
    obtain ⟨t, ht, hlead⟩ := leadSegmentReceived_delivers (kind := if g.kind = 0 then 1 else g.kind) hn hw hl (by
      rcases hoff with h | h <;> simp [h])
    refine ⟨t, ht, hlead.trans ?_⟩
    rw [deliveredSegment, if_neg hkind]

end Sys2Proof.Proofs
end

section
/-! PROOFS. A statement that fails: a firing verdict that places its OPEN spans releases the spans of the partner's gust record with which its
object was matched (R268), where the statement says that every reservation stays. -/

namespace Sys2Proof.Proofs

open Sys2Proof Sys2Proof.Machine

/-- A closed object that a partner record of object 7 at site 1 has matched (FLAGS bit 10, R238), with a window on bank 0. -/
def matchedObject : Obj :=
  { Obj.reset with st := 3, flags := 2 ^ 10, peer := some (7, 1, 3), wins := [(0, 100, 110, [3])] }

/-- The ARM span on bank 0 that a gust record of the partner's object has placed (R268). -/
def partnerSpan : Resv := ⟨7, 1, 0, false, 2, [3], 90, 200⟩

/-- The matched object waits in slot 0 for its confirmed evaluation, program 0 emits verdict 3, and the partner's span is in the scheduler.
Partner merge is off, as where it has been disabled since the match. -/
def partnerSpanPlaced : State :=
  withRegister Reg.VDT_PROG_INFO 1 { runningDevice with
    pip.pmem := [(0x2B4000, 0x13), (0x2B4001, 0), (0x2B4002, 0), (0x2B4003, 0xA0)]
    vdt.objs := [(0, matchedObject)]
    vdt.queue := [⟨0, 0, 0, none, []⟩]
    vdt.resv := [partnerSpan] }

/-- The verdict fires: the object's own ARM and OPEN are placed, and the span of its partner goes, replaced by the OPEN span (R268). -/
theorem verdictEvaluation_releases_partnerSpan : (verdictEvaluation 0 partnerSpanPlaced).vdt.resv =
    [⟨0, 0, 0, false, 1, [3], 80, 100⟩, ⟨0, 0, 0, true, 1, [3], 100, 110⟩] := by decide +kernel

/-- Refutes O18: its fourth clause says that a firing verdict leaves every reservation of another object, without the premise that its object
was not matched with a partner record (FLAGS bit 10). In `partnerSpanPlaced` it was, and CONFIRMATION releases the partner's span (R268). -/
theorem not_confirmedEvaluationGivesVerdict : ¬ Obligations.ConfirmedEvaluationGivesVerdict := by
  rintro ⟨-, -, -, hfiring, -⟩
  have h := hfiring partnerSpanPlaced 0 ⟨0, 0, 0, none, []⟩ matchedObject 3 1 (by decide) (by decide +kernel) (by decide +kernel)
    (by decide +kernel) (by decide +kernel) (by decide +kernel) rfl rfl rfl rfl (by decide +kernel) (by decide +kernel)
    (by decide +kernel) (by decide +kernel) (by decide +kernel) rfl (by decide) (by decide +kernel) (by decide +kernel) (by decide +kernel)
  obtain ⟨hstay, -⟩ := completes_next h (u := verdictEvaluation 0 partnerSpanPlaced) rfl
  have hspan : partnerSpan ∈ (verdictEvaluation 0 partnerSpanPlaced).vdt.resv := hstay partnerSpan (by decide)
  rw [verdictEvaluation_releases_partnerSpan] at hspan
  exact absurd hspan (by decide)

end Sys2Proof.Proofs
end

section
/-! PROOFS. PAIR: checked against the geometry and the device ID, refused, and sent again (R240, R245, R347, R461). -/

namespace Sys2Proof.Proofs

open Sys2Proof Sys2Proof.Machine

/-! ### What a check of PAIR leaves in MGT_PAIR_STATUS (R461) -/

/-- MGT_PAIR_STATUS of a link, at address `a`, after a check of the peer at site `st` that ended with `r`. -/
def pairStatus (a st : Nat) (r : Option Nat) (s : State) : State :=
  let u := rfset (rfset s a 19 16 st) a 31 30 (if r.isNone then 1 else 2)
  match r with
  | some cause => rfset u a 23 20 (cause + 1)
  | none => u

theorem within_pairStatus (a st : Nat) (r : Option Nat) (s : State) : Laws.Within 1 s (pairStatus a st r s) := by
  have hset : Laws.Within 1 s (rfset (rfset s a 19 16 st) a 31 30 (if r.isNone then 1 else 2)) :=
    (Laws.within_rfset ..).trans (Laws.within_rfset ..)
  cases r with
  | none => exact hset
  | some cause => exact hset.trans (Laws.within_rfset ..)

theorem pairStatus_result (a st : Nat) (r : Option Nat) (s : State) :
    rfld (pairStatus a st r s) a 31 30 = if r.isNone then 1 else 2 := by
  cases r with
  | none => exact rfld_rfset_same _ _ _ (by omega) (by omega)
  | some cause =>
    exact (rfld_rfset_apart _ _ _ (by omega) (by omega) (by omega) (by omega)).trans (rfld_rfset_same _ _ _ (by omega) (by omega))

theorem pairStatus_cause (a st cause : Nat) (s : State) :
    rfld (pairStatus a st (some cause) s) a 23 20 = (cause + 1) % 16 :=
  rfld_rfset_same _ _ _ (by omega) (by omega)

theorem pairRefusal_le {s : State} {n dev st cause : Nat} {geom : List Byte} (h : pairRefusal s n dev st geom = some cause) :
    cause ≤ 2 := by
  unfold pairRefusal at h
  split_ifs at h <;> cases h <;> decide

/-! ### The events of a check (R240, R245, R461) -/

/-- The events of a check of PAIR on link `n` that ended with `r`: 0x60A where `noted` asks for it, 0xB07 for a refusal. -/
def pairEvents (n : Nat) (noted : Bool) (r : Option Nat) (s : State) : State :=
  let u := raiseIf noted 0x60A 0x60E01 [] 4 (coLink n) s
  match r with
  | some cause => raise 0xB07 0xB0003 [n, cause + 1] 4 (coLink n) u
  | none => u

theorem pairEvents_regs (n : Nat) (noted : Bool) (r : Option Nat) (s : State) : (pairEvents n noted r s).regs = s.regs := by
  cases r <;> simp [pairEvents]

theorem pairEvents_xw (n : Nat) (noted : Bool) (r : Option Nat) (s : State) : (pairEvents n noted r s).xw = s.xw := by
  cases r <;> simp [pairEvents]

theorem pairEvents_xwIn (n : Nat) (noted : Bool) (r : Option Nat) (s : State) : (pairEvents n noted r s).xwIn = s.xwIn := by
  cases r <;> simp [pairEvents]

theorem pairEvents_noted (n : Nat) (r : Option Nat) {s : State} (h : eventsTaken s = true) :
    eventPending (pairEvents n true r s) 0x60A = true := by
  have hnoted := raise_eventPending 0x60A 0x60E01 [] 4 (coLink n) h
  cases r with
  | none => exact hnoted
  | some cause => exact raise_keeps_pending _ _ _ _ _ hnoted

theorem pairEvents_refused (n cause : Nat) (noted : Bool) {s : State} (h : eventsTaken s = true) :
    eventPending (pairEvents n noted (some cause) s) 0xB07 = true :=
  raise_eventPending _ _ _ _ _ ((eventsTaken_of_rst (raiseIf_rst ..)).trans h)

/-! ### PAIR of the peer that was found at training (R461) -/

/-- Link lane `n` after a check of PAIR: a refused link discards its VC0 and VC1 traffic. -/
def pairedLane (s : State) (n dev st : Nat) (geom vdt : List Byte) : XwLane := { xwLane s n with
  peer := dev, accepted := (pairRefusal s n dev st geom).isNone, digestBad := decide (vdt ≠ s.mgt.vdtDigest)
  ownBad := decide (2 ≤ n) && rbit s Reg.VDT_XW_CFG 28 && geomByte s (geomSite (st % 8) + 13) == 1
  q0 := if (pairRefusal s n dev st geom).isNone then (xwLane s n).q0 else []
  q1 := if (pairRefusal s n dev st geom).isNone then (xwLane s n).q1 else [] }

/-- The state with PAIR `m` of link `n` taken in and counted. -/
def pairTaken (s : State) (n : Nat) (m : XwMsg) : State :=
  rwrap { s with xwIn := s.xwIn.erase (n, m) } (Reg.MGT_PAIR_STATUS + 4 * n) 15 0 1

section
variable {s : State} {n dev st lk : Nat} {geom vdt : List Byte}
  (hfind : s.xwIn.find? (fun p => vcOf p.2 == 2) = some (n, .pair dev st lk geom vdt)) (hup : (xwLane s n).st = 2)
include hfind hup

theorem pairReceived_same_peer (hpeer : (xwLane s n).peer = 0 ∨ (xwLane s n).peer = dev) :
    pairReceived s = pairEvents n
      ((decide (vdt ≠ s.mgt.vdtDigest) && !(xwLane s n).digestBad) || ((pairedLane s n dev st geom vdt).ownBad && !(xwLane s n).ownBad))
      (pairRefusal s n dev st geom) (pairStatus (Reg.MGT_PAIR_STATUS + 4 * n) st (pairRefusal s n dev st geom)
        (setXw (pairTaken s n (.pair dev st lk geom vdt)) n (pairedLane s n dev st geom vdt))) := by
  have hpeer' : ¬((xwLane s n).peer ≠ 0 ∧ (xwLane s n).peer ≠ dev) := by tauto
  unfold pairReceived
  rw [hfind]
  dsimp only
  refine (if_neg (not_not.mpr hup)).trans ((if_neg hpeer').trans ?_)
  cases hr : pairRefusal s n dev st geom <;> simp only [pairEvents, pairStatus, pairedLane, pairTaken, hr] <;> rfl

theorem pairReceived_other_peer (h0 : (xwLane s n).peer ≠ 0) (hdev : (xwLane s n).peer ≠ dev) :
    pairReceived s = partnerSingle n (pairTaken s n (.pair dev st lk geom vdt))
      (linkDown n (raise 0x71B (xwFid n) [] 4 (coLink n) (pairTaken s n (.pair dev st lk geom vdt)))) := by
  unfold pairReceived
  rw [hfind]
  dsimp only
  refine (if_neg (not_not.mpr hup)).trans ((if_pos ⟨h0, hdev⟩).trans ?_)
  rfl

end

theorem pairReceived_checks_peer (s : State) (n dev st lk : Nat) (geom vdt : List Byte)
    (hfind : s.xwIn.find? (fun p => vcOf p.2 == 2) = some (n, .pair dev st lk geom vdt)) (hup : (xwLane s n).st = 2)
    (hpeer : (xwLane s n).peer = 0 ∨ (xwLane s n).peer = dev) (hev : eventsTaken s = true) :
    completes .pairReceived s (fun t => t.xwIn = s.xwIn.erase (n, .pair dev st lk geom vdt) ∧
      xwLane t n = pairedLane s n dev st geom vdt ∧ (∀ k, k ≠ n → xwLane t k = xwLane s k) ∧
      (vdt ≠ s.mgt.vdtDigest → (xwLane s n).digestBad = false → inReset s 0x60E01 = false → eventPending t 0x60A = true) ∧
      (pairRefusal s n dev st geom = none → rfld t (Reg.MGT_PAIR_STATUS + 4 * n) 31 30 = 1) ∧
      (∀ cause, pairRefusal s n dev st geom = some cause → rfld t (Reg.MGT_PAIR_STATUS + 4 * n) 31 30 = 2 ∧
        rfld t (Reg.MGT_PAIR_STATUS + 4 * n) 23 20 = cause + 1 ∧ eventPending t 0xB07 = true)) := by
  refine ⟨pairReceived s, rfl, ?_⟩
  beta_reduce
  rw [pairReceived_same_peer hfind hup hpeer]
  set u := setXw (pairTaken s n (.pair dev st lk geom vdt)) n (pairedLane s n dev st geom vdt) with hu
  have hxw : ∀ b r k, xwLane (pairEvents n b r (pairStatus (Reg.MGT_PAIR_STATUS + 4 * n) st r u)) k = xwLane u k := fun b r k =>
    xwLane_congr ((pairEvents_xw n b r _).trans ((within_pairStatus _ st r u).xw rfl)) k
  have htaken : ∀ r, eventsTaken (pairStatus (Reg.MGT_PAIR_STATUS + 4 * n) st r u) = true := fun r =>
    (eventsTaken_of_rst ((within_pairStatus _ st r u).rst rfl)).trans hev
  refine ⟨?_, ?_, fun k hk => ?_, fun hvdt hbad _ => ?_, fun hr => ?_, fun cause hr => ⟨?_, ?_, ?_⟩⟩
  · rw [pairEvents_xwIn, (within_pairStatus ..).xwIn rfl]
    rfl
  · rw [hxw, hu, xwLane_setXw, if_pos rfl]
  · rw [hxw, hu, xwLane_setXw, if_neg hk]
    rfl
  · rw [decide_eq_true hvdt, hbad]
    exact pairEvents_noted n _ (htaken _)
  · rw [rfld_congr (pairEvents_regs ..), pairStatus_result, hr]
    rfl
  · rw [rfld_congr (pairEvents_regs ..), pairStatus_result, hr]
    rfl
  · rw [rfld_congr (pairEvents_regs ..), hr, pairStatus_cause, Nat.mod_eq_of_lt]
    have hcause := pairRefusal_le hr
    omega
  · rw [hr]
    exact pairEvents_refused n cause _ (htaken _)

/-! ### Another device on the link (R347) -/

theorem xwLane_linkDown_other (s : State) {n k : Nat} (h : k ≠ n) : xwLane (linkDown n s) k = xwLane s k :=
  (xwLane_setXw s n k _).trans (if_neg h)

theorem linkDown_is_down (n : Nat) (s : State) : (xwLane (linkDown n s) n).st = 3 ∧ (xwLane (linkDown n s) n).accepted = false := by
  have hlane : xwLane (linkDown n s) n = _ := (xwLane_setXw s n n _).trans (if_pos rfl)
  rw [hlane]
  exact ⟨rfl, rfl⟩

theorem pairReceived_other_device_takes_link_down (s : State) (n dev st lk : Nat) (geom vdt : List Byte)
    (hfind : s.xwIn.find? (fun p => vcOf p.2 == 2) = some (n, .pair dev st lk geom vdt)) (hup : (xwLane s n).st = 2)
    (h0 : (xwLane s n).peer ≠ 0) (hdev : (xwLane s n).peer ≠ dev) (hev : eventsTaken s = true) :
    completes .pairReceived s (fun t => t.xwIn = s.xwIn.erase (n, .pair dev st lk geom vdt) ∧ (xwLane t n).st = 3 ∧
      (xwLane t n).accepted = false ∧ (∀ k, k ≠ n → xwLane t k = xwLane s k) ∧ eventPending t 0x71B = true) := by
  refine ⟨pairReceived s, rfl, ?_⟩
  beta_reduce
  rw [pairReceived_other_peer hfind hup h0 hdev]
  set v := pairTaken s n (.pair dev st lk geom vdt)
  set u := raise 0x71B (xwFid n) [] 4 (coLink n) v with hu
  have hsingle := Laws.within_partnerSingle n v (linkDown n u)
  have hdown := Laws.within_linkDown n u
  rw [hsingle.xwIn rfl, hdown.xwIn rfl, xwLane_congr (hsingle.xw rfl), hu, raise_xwIn]
  obtain ⟨hst, hacc⟩ := linkDown_is_down n u
  refine ⟨rfl, hst, hacc, fun k hk => ?_, ?_⟩
  · rw [xwLane_congr (hsingle.xw rfl), xwLane_linkDown_other _ hk, xwLane_congr (raise_xw ..)]
    rfl
  · have hraised : eventPending u 0x71B = true := raise_eventPending _ _ _ _ _ hev
    exact raiseIf_keeps_pending _ _ _ _ _ _ ((eventPending_of_evt (hdown.evt rfl) _).trans hraised)

/-! ### PAIR sent again (R461) -/

theorem pairResend_queues_pair (s : State) (n : Nat) (hn : n < 4) (hup : (xwLane s n).st = 2) :
    completes (.pairResend n) s (fun t => xwLane t n = { xwLane s n with q2 := (xwLane s n).q2 ++ [pairMsg s n] } ∧
      (∀ k, k ≠ n → xwLane t k = xwLane s k)) := by
  have hsend : pairResend n s = setXw s n { xwLane s n with q2 := (xwLane s n).q2 ++ [pairMsg s n] } := by
    rw [pairResend, if_pos hn, xwSend]
    exact if_neg (not_not.mpr hup)
  refine ⟨pairResend n s, rfl, ?_⟩
  beta_reduce
  rw [hsend]
  exact ⟨(xwLane_setXw ..).trans (if_pos rfl), fun k hk => (xwLane_setXw ..).trans (if_neg hk)⟩

/-- Settles O34: PAIR_RECEIVED taken apart into its check, its events and the loss of the link, and PAIR_RESEND. -/
theorem pairsAreCheckedAndResent : Obligations.PairsAreCheckedAndResent :=
  ⟨fun s n dev st lk geom vdt hfind _ hup hpeer hev => pairReceived_checks_peer s n dev st lk geom vdt hfind hup hpeer hev,
    pairReceived_other_device_takes_link_down, pairResend_queues_pair⟩

end Sys2Proof.Proofs
end

section
/-! PROOFS. The FIFOs of a pin engine: what a step leaves of its engine and of the rest, FETCH and STORE in their two forms, and the
accesses of the host (R257, R360, R362, R363). -/

namespace Sys2Proof.Proofs

open Sys2Proof Sys2Proof.Machine

/-! ### One engine changes -/

theorem mput_mput {α : Type} (m : Map α) (k : Nat) (v w : α) : mput (mput m k v) k w = mput m k w := by
  induction m with
  | nil => simp [mput]
  | cons p m ih =>
    obtain ⟨a, x⟩ := p
    rcases Nat.lt_trichotomy k a with hk | rfl | hk
    · simp [mput, hk]
    · simp [mput]
    · simp [mput, Nat.not_lt_of_gt hk, Nat.ne_of_gt hk, ih]

theorem eng_setEng (e : Nat) (g : Engine) (s : State) (k : Nat) : eng (setEng e g s) k = if k = e then g else eng s k :=
  mgetD_mput s.pen.eng e k g Engine.reset

@[simp] theorem eng_setEng_same (e : Nat) (g : Engine) (s : State) : eng (setEng e g s) e = g := (eng_setEng e g s e).trans (if_pos rfl)

@[simp] theorem setEng_setEng (e : Nat) (g h : Engine) (s : State) : setEng e h (setEng e g s) = setEng e h s := by
  simp only [setEng, penMod, mput_mput]

theorem engMod_eq (e : Nat) (f : Engine → Engine) (s : State) : engMod e f s = setEng e (f (eng s e)) s := rfl

theorem onlyEngine_setEng (s : State) (e : Nat) (g : Engine) : onlyEngine s (setEng e g s) e g :=
  ⟨eng_setEng_same e g s, fun k hk => (eng_setEng e g s k).trans (if_neg hk), rfl⟩

/-- What `onlyEngine` says of a state depends on its pin engines alone. -/
theorem onlyEngine_congr {s t u : State} {e : Nat} {g : Engine} (h : u.pen = t.pen) (ht : onlyEngine s t e g) : onlyEngine s u e g := by
  rwa [onlyEngine, eng, h, show eng u = eng t by funext k; rw [eng, eng, h]]

/-! ### A step of an engine (R358-R360, R364, R367) -/

theorem progLimit_lt (s : State) (e : Nat) : progLimit s e < 2048 := Nat.mod_lt _ (by decide)

/-- A step that does not lie at LIMIT ends without a fault. -/
theorem nextStep_within_program {s : State} {e : Nat} (w : Nat) (h : progBase s e + (eng s e).pc + 1 ≤ progLimit s e) :
    nextStep e w s = setEng e (stepPast (eng s e) w) s := by
  have hpc : ((eng s e).pc + 1) % 2048 = (eng s e).pc + 1 := Nat.mod_eq_of_lt (by have := progLimit_lt s e; omega)
  rw [nextStep, stepEnd, if_neg (by omega), engMod_eq, stepPast, stepOver, hpc]

section
variable {s : State} {e op w : Nat} {g : Engine} (h : runsAt s e op w g)
include h

theorem eng_of_runsAt : eng s e = g := by
  obtain ⟨-, -, hg, -⟩ := h
  exact hg.symm

theorem runStep_of_runsAt (f : Nat → Engine → State → State) : runStep e op f s = f w g s := by
  obtain ⟨hat, rfl, rfl, -⟩ := h
  rw [runStep, if_pos hat]

theorem nextStep_of_runsAt : nextStep e w s = setEng e (stepPast g w) s := by
  obtain ⟨-, -, rfl, hlim⟩ := h
  exact nextStep_within_program w hlim

/-- A step that first makes `u` of its engine, at the same PC. -/
theorem nextStep_setEng_of_runsAt {u : Engine} (hpc : u.pc = g.pc) : nextStep e w (setEng e u s) = setEng e (stepPast u w) s := by
  obtain ⟨-, -, -, hlim⟩ := h
  have hend := nextStep_within_program (s := setEng e u s) w (by rw [eng_setEng_same, hpc]; exact hlim)
  rwa [eng_setEng_same, setEng_setEng] at hend

/-- A blocking step without an expired deadline waits in STATE 2 until it is ready. -/
theorem blocking_of_runsAt (hd : deadlineHit s e = none) (ready : Bool) (act : State → State) :
    blocking e ready act s = if ready then act s else setEng e { g with st := 2, begun := true } s := by
  obtain ⟨-, -, rfl, -⟩ := h
  rw [blocking, hd, engMod_eq]

end

/-! ### FETCH and FETCHN (R360, R362) -/

theorem loadIn_pc (d v : Nat) (g : Engine) : (loadIn d v g).pc = g.pc := by
  unfold loadIn
  dsimp only
  split <;> rfl

section
variable {s : State} {e w : Nat} {g : Engine}

theorem fetch_takes_oldest {v : Nat} {rest : List Nat} (h : runsAt s e 0x5 w g) (hd : deadlineHit s e = none) (hf : g.inF = v :: rest) :
    fetch e s = setEng e (stepPast (loadIn (opdOf w) v { g with inF := rest }) w) s := by
  rw [fetch, runStep_of_runsAt h, blocking_of_runsAt h hd, engMod_eq, eng_of_runsAt h, hf]
  exact nextStep_setEng_of_runsAt h (loadIn_pc ..)

theorem fetch_waits (h : runsAt s e 0x5 w g) (hd : deadlineHit s e = none) (hf : g.inF = []) :
    fetch e s = setEng e { g with st := 2, begun := true } s := by
  rw [fetch, runStep_of_runsAt h, blocking_of_runsAt h hd, hf]
  rfl

theorem fetchN_takes_oldest {v : Nat} {rest : List Nat} (h : runsAt s e 0x6 w g) (hf : g.inF = v :: rest) :
    fetchN e s = setEng e (stepPast (loadIn (opdOf w) v { g with inF := rest }) w) s := by
  rw [fetchN, runStep_of_runsAt h, hf]
  dsimp only
  rw [engMod_eq, eng_of_runsAt h]
  exact nextStep_setEng_of_runsAt h (loadIn_pc ..)

theorem fetchN_repeats_last (h : runsAt s e 0x6 w g) (hf : g.inF = []) :
    fetchN e s = raise 0x80B (engFid e) [] 5 (coEng e) (rsat
      (setEng e (stepPast (loadIn (opdOf w) g.lastIn g) w) s) (Reg.PEN_ENG_COUNT + 0x20 * e) 31 24 1) := by
  rw [fetchN, runStep_of_runsAt h, hf]
  dsimp only
  rw [engMod_eq, eng_of_runsAt h, nextStep_setEng_of_runsAt h (loadIn_pc ..)]

/-! ### STORE and STOREN (R360, R362) -/

theorem store_puts_or_waits (h : runsAt s e 0x7 w g) (hd : deadlineHit s e = none) :
    store e s = setEng e (if g.outF.length < 8 then stepPast { g with outF := g.outF ++ [storeVal w g] } w
      else { g with st := 2, begun := true }) s := by
  rw [store, runStep_of_runsAt h, blocking_of_runsAt h hd, engMod_eq, eng_of_runsAt h]
  by_cases hroom : g.outF.length < 8
  · rw [if_pos (decide_eq_true hroom), if_pos hroom]
    exact nextStep_setEng_of_runsAt h rfl
  · rw [if_neg (by simpa using hroom), if_neg hroom]

theorem storeN_puts (h : runsAt s e 0x8 w g) (hroom : g.outF.length < 8) :
    storeN e s = setEng e (stepPast { g with outF := g.outF ++ [storeVal w g] } w) s := by
  rw [storeN, runStep_of_runsAt h, if_pos hroom, engMod_eq, eng_of_runsAt h]
  exact nextStep_setEng_of_runsAt h rfl

theorem storeN_discards (h : runsAt s e 0x8 w g) (hfull : 8 ≤ g.outF.length) :
    storeN e s = raise 0x80C (engFid e) [] 5 (coEng e) (rsat (setEng e (stepPast g w) s) (Reg.PEN_ENG_COUNT + 0x20 * e) 23 16 1) := by
  rw [storeN, runStep_of_runsAt h, if_neg (by omega), nextStep_of_runsAt h]

end

/-! ### Accesses of the host (R257, R363) -/

section
variable {s : State} (v : Nat) (hup : up s (engFid (rfld s Reg.PEN_SEL 3 0)) = true)
include hup

theorem fifoInWrite_puts (hfr : isFramer s (rfld s Reg.PEN_SEL 3 0) = false) (hroom : (eng s (rfld s Reg.PEN_SEL 3 0)).inF.length < 8) :
    fifoInWrite v s = setEng (rfld s Reg.PEN_SEL 3 0)
      { eng s (rfld s Reg.PEN_SEL 3 0) with inF := (eng s (rfld s Reg.PEN_SEL 3 0)).inF ++ [v % 2 ^ 32] } s := by
  simp [fifoInWrite, hup, hfr, hroom, engMod_eq]

theorem fifoInWrite_refused (hno : isFramer s (rfld s Reg.PEN_SEL 3 0) = true ∨ 8 ≤ (eng s (rfld s Reg.PEN_SEL 3 0)).inF.length) :
    fifoInWrite v s = raise 0x80F (engFid (rfld s Reg.PEN_SEL 3 0)) [] 5 (coEng (rfld s Reg.PEN_SEL 3 0)) s := by
  simp [fifoInWrite, hup, hno]

end

/-- PEN_FIFO_OUT is no latched register, so that its read shows the oldest word and removes it. -/
theorem fifoOutShown_pen (s : State) : (fifoOutShown s).pen = (fifoOutRead s).2.pen := by
  have hplain := readLatch_plain (a := Reg.PEN_FIFO_OUT) s (by decide) (by decide +kernel) (by decide +kernel)
  rw [fifoOutShown, readReg, hplain]
  rfl

theorem fifoOutRead_removes {s : State} {v : Nat} {rest : List Nat} (h : (eng s (rfld s Reg.PEN_SEL 3 0)).outF = v :: rest) :
    (fifoOutRead s).2 = setEng (rfld s Reg.PEN_SEL 3 0) { eng s (rfld s Reg.PEN_SEL 3 0) with outF := rest } s := by
  simp only [fifoOutRead, h, engMod_eq]

/-! ### The statement -/

/-- A command that replaces one engine and does nothing else. -/
theorem completes_setEng {c : Instr} {s u : State} {e : Nat} {g : Engine} (hc : exec c s = .next u) (hu : u = setEng e g s) :
    completes c s (fun t => t.evt = s.evt ∧ onlyEngine s t e g) := by
  subst hu
  exact ⟨_, hc, rfl, onlyEngine_setEng s e g⟩

theorem countedMore_rsat (s : State) (a n : Nat) {hi lo : Nat} (h : lo ≤ hi) (hw : hi < 32) :
    countedMore s (rsat s a hi lo n) a hi lo n := by
  rw [countedMore, rsat, rfld_rfset_same s a _ h hw]
  exact Nat.mod_eq_of_lt (lt_of_le_of_lt (min_le_right _ _) (Nat.sub_lt (by positivity) one_pos))

/-- A command that replaces one engine, counts one more in a field of its PEN_ENG_COUNT and raises an event. -/
theorem completes_setEng_counted {c : Instr} {s u : State} {e a hi lo code fid ctag coord : Nat} {args : List Nat} {g : Engine}
    (hc : exec c s = .next u) (hu : u = raise code fid args ctag coord (rsat (setEng e g s) a hi lo 1)) (hlo : lo ≤ hi) (hw : hi < 32)
    (hev : eventsTaken s = true) :
    completes c s (fun t => onlyEngine s t e g ∧ countedMore s t a hi lo 1 ∧ eventPending t code = true) := by
  subst hu
  refine ⟨_, hc, onlyEngine_congr (raise_pen ..) (onlyEngine_setEng s e g), ?_, raise_eventPending _ _ _ _ _ hev⟩
  exact (rfld_congr (raise_regs ..) _ _ _).trans (countedMore_rsat (setEng e g s) a 1 hlo hw)

/-- Settles O39: each step and each access leaves one engine changed, by the equations above. -/
theorem pinFifosMoveWords : Obligations.PinFifosMoveWords := by
  refine ⟨fun s e w v rest g h hd hf => ?_, fun s e w g h hd hf => ?_, fun s e w v rest g h hf => ?_, fun s e w g h hf hev => ?_,
    fun s e w g h hd => ?_, fun s e w g h hroom => ?_, fun s e w g h hfull hev => ?_, ?_, ?_, ?_⟩
  · exact completes_setEng rfl (fetch_takes_oldest h hd hf)
  · exact completes_setEng rfl (fetch_waits h hd hf)
  · exact completes_setEng rfl (fetchN_takes_oldest h hf)
  · exact completes_setEng_counted rfl (fetchN_repeats_last h hf) (by decide) (by decide) hev
  · exact completes_setEng rfl (store_puts_or_waits h hd)
  · exact completes_setEng rfl (storeN_puts h hroom)
  · exact completes_setEng_counted rfl (storeN_discards h hfull) (by decide) (by decide) hev
  · rintro s e v rfl hup hfr hroom
    exact completes_setEng rfl (fifoInWrite_puts v hup hfr hroom)
  · rintro s e v rfl hup hev hno
    refine ⟨fifoInWrite v s, rfl, ?_⟩
    rw [fifoInWrite_refused v hup hno]
    exact ⟨raise_pen .., raise_eventPending _ _ _ _ _ hev⟩
  · rintro s e v rest rfl hout
    refine ⟨fifoOutShown s, rfl, onlyEngine_congr ((fifoOutShown_pen s).trans ?_) (onlyEngine_setEng s _ _)⟩
    exact congrArg State.pen (fifoOutRead_removes hout)

end Sys2Proof.Proofs
end

section
/-! PROOFS. Gust verdicts and their records (R252, R269), valve frames (R256, R257), and the ARM spans of gust verdicts (R259, R268). -/

namespace Sys2Proof.Proofs

open Sys2Proof Sys2Proof.Machine

/-! ### ARM spans of gust verdicts (R258, R259) -/

theorem placeResv_of_room {r : Resv} {s : State} (hroom : s.vdt.resv.length < 8192) (hin : inReset s 0x60F02 = false) :
    placeResv r s =
      some (rmax (vdtMod (fun v => { v with resv := v.resv ++ [r] }) s) Reg.VDT_EJ_STATUS 13 0 (s.vdt.resv.length + 1)) := by
  simp [placeResv, hroom, hin]

/-- Placing a reservation changes the scheduler alone. -/
theorem placeResv_vdt {r : Resv} {s t : State} (h : placeResv r s = some t) : t.vdt = { s.vdt with resv := t.vdt.resv } := by
  unfold placeResv at h
  split at h
  · cases h
  · obtain rfl := Option.some.inj h
    rfl

theorem placeArms_vdt (obj st src : Nat) (wins : List (Nat × Int × List Nat)) (s : State) :
    (placeArms obj st src wins s).vdt = { s.vdt with resv := (placeArms obj st src wins s).vdt.resv } := by
  refine foldl_keeps (g := fun u => { u.vdt with resv := (placeArms obj st src wins s).vdt.resv }) (fun u w => ?_) wins s
  split
  · next h => rw [placeResv_vdt h]
  · rfl

/-- The ARM span of a gust verdict on the bank of `w`, from ARM_LEAD before its tick and ARM_TTL long (R259). -/
def gustArm (s : State) (obj st src : Nat) (w : Nat × Int × List Nat) : Resv :=
  ⟨obj, st, w.1, false, src, w.2.2, w.2.1 - rfld s Reg.VDT_EJ_ARM 9 0,
    w.2.1 - rfld s Reg.VDT_EJ_ARM 9 0 + rfld s Reg.VDT_EJ_ARM 27 16⟩

/-- While the scheduler has room, every bank gets its span. -/
theorem placeArms_of_room (obj st src : Nat) (wins : List (Nat × Int × List Nat)) (s : State)
    (hroom : s.vdt.resv.length + wins.length ≤ 8192) (hin : inReset s 0x60F02 = false) :
    (placeArms obj st src wins s).vdt.resv = s.vdt.resv ++ wins.map (gustArm s obj st src) := by
  unfold placeArms gustArm
  dsimp only
  generalize (rfld s Reg.VDT_EJ_ARM 9 0 : Int) = lead, (rfld s Reg.VDT_EJ_ARM 27 16 : Int) = ttl
  induction wins generalizing s with
  | nil => exact (List.append_nil _).symm
  | cons w wins ih =>
    rw [List.length_cons] at hroom
    rw [List.foldl_cons, placeResv_of_room (by omega) hin, ih]
    · simp
    · simp only [rmax_vdt, vdtMod_vdt, List.length_append, List.length_singleton]
      omega
    · exact hin

/-! ### A gust verdict that fires (R252, R269) -/

theorem objOf_modObj (k : Nat) (f : Obj → Obj) (s : State) (j : Nat) :
    objOf (modObj k f s) j = if j = k then (objOf s j).map f else objOf s j := mget_madj ..

theorem skipCps_vdt {k : Nat} {o : Obj} {s : State} (h : objOf s k = some o) :
    (skipCps k s).vdt = (modObj k (fun o => { o with cpNext := 5 }) s).vdt := by
  rw [skipCps, h]
  dsimp only
  split <;> rfl

theorem foldl_xwSend_vdt (l : List Nat) (m : State → XwMsg) (s : State) : (l.foldl (fun s n => xwSend n (m s) s) s).vdt = s.vdt :=
  foldl_keeps (g := State.vdt) (fun u n => (Laws.within_xwSend n (m u) u).vdt rfl) l s

/-- The verdict engine after gust record `g` of object `o` in slot `k` has been issued as `ws`: no checkpoint follows. -/
def gustIssued (k : Nat) (o : Obj) (g : GustRec) (ws : List (BitVec 128)) (v : Vdt) : Vdt :=
  { v with objs := madj (mput v.objs k { o with gustRec := some g }) k (fun o => { o with cpNext := 5 }), out := v.out ++ [ws] }

theorem gustIssued_of_emit (k : Nat) (o : Obj) (g : GustRec) (ws : List (BitVec 128)) (s : State) :
    (emitRecord ws (skipCps k (setObj k { o with gustRec := some g } s))).vdt = gustIssued k o g ws s.vdt := by
  have hskip := skipCps_vdt (s := setObj k { o with gustRec := some g } s) ((objOf_setObj ..).trans (if_pos rfl))
  rw [emitRecord, vdtMod_vdt, hskip]
  rfl

theorem gustFires_issues {e : QEnt} {s : State} {o : Obj} (v reason : Nat) (ho : objOf s e.slot = some o) :
    ∃ g ws resv, (g.verdict, g.cp, g.closed) = (v, e.cp, false) ∧
      (gustFires e v reason s).vdt = { gustIssued e.slot o g ws s.vdt with resv := resv } := by
  unfold gustFires
  split
  · next hnone => cases ho.symm.trans hnone
  · next o' ho' =>
    obtain rfl : o = o' := Option.some.inj (ho.symm.trans ho')
    extract_lets p g lines atCp free opening ws s1 s2
    have hopen : opening.2.vdt = s.vdt := by
      unfold opening
      split <;> rfl
    have hissued : s1.vdt = gustIssued e.slot o g ws s.vdt := hopen ▸ gustIssued_of_emit e.slot o g ws opening.2
    have hsent : s2.vdt = gustIssued e.slot o g ws s.vdt := (foldl_xwSend_vdt ..).trans hissued
    refine ⟨g, ws, ?_⟩
    split
    · exact ⟨s.vdt.resv, rfl, hsent⟩
    · exact ⟨_, rfl, hsent ▸ placeArms_vdt o.id (site s) 0 g.wins s2⟩

/-! ### Gust evaluations (R252) -/

theorem fires_congr {s t : State} (h : rget t Reg.VDT_PROG_CFG = rget s Reg.VDT_PROG_CFG) (v : Nat) : fires t v = fires s v := by
  rw [fires, fires, rbit, rbit, rnat, rnat, h]

/-- What the program of the object under evaluation `e` answers, and the clocks that it takes. -/
def gustRun (s : State) (e : QEnt) : Option (Nat × Nat) × Nat :=
  runProgram s (((objOf s e.slot).bind (·.prog)).getD 0) (fun i => mgetD e.views i 0)

/-- The state in which core `c` has taken evaluation `e` from the queue, counted it and spent its clocks. -/
def gustTaken (s : State) (c : Nat) (e : QEnt) : State :=
  coreSpent c (gustRun s e).2
    (rsat (vdtMod (fun v => { v with queue := v.queue.erase e }) s) Reg.VDT_GUST_COUNT 31 0 1)

section
variable {s : State} {c : Nat} {e : QEnt} (hc : c < 4) (hup : up s (0x60D00 + c) = true) (hq : inReset s 0x60C02 = false)
  (hnext : nextEval s = some e) (hcp : e.cp ≠ 0)
include hc hup hq hnext hcp

theorem gustEvaluation_takes : gustEvaluation c s = gustResult e ((gustRun s e).1.getD (15, 0)) (gustTaken s c e) := by
  unfold gustEvaluation
  rw [if_neg (by simp [hc, hup, hq]), hnext]
  dsimp only
  rw [if_neg hcp]
  rfl

theorem gustEvaluation_fires {o : Obj} (ho : objOf s e.slot = some o) (hid : o.id = e.id) (hst : o.st = 1 ∨ o.st = 2)
    (hf : fires s ((gustRun s e).1.getD (15, 0)).1 = true) : ∃ g ws resv,
      (g.verdict, g.cp, g.closed) = (((gustRun s e).1.getD (15, 0)).1, e.cp, false) ∧
      (gustEvaluation c s).vdt = { gustIssued e.slot { o with cpBusy := false } g ws
        (modObj e.slot (fun o => { o with cpBusy := false }) (gustTaken s c e)).vdt with resv := resv } := by
  have htaken : objOf (gustTaken s c e) e.slot = some o := ho
  have hobj : objOf (modObj e.slot (fun o => { o with cpBusy := false }) (gustTaken s c e)) e.slot = some { o with cpBusy := false } := by
    rw [objOf_modObj, if_pos rfl, htaken, Option.map_some]
  have hfires : fires (gustTaken s c e) ((gustRun s e).1.getD (15, 0)).1 = true :=
    (fires_congr (rget_rfset_other _ _ _ _ (by decide)) _).trans hf
  have hstay : ¬(o.id ≠ e.id ∨ (o.st ≠ 1 ∧ o.st ≠ 2)) := by omega
  rw [gustEvaluation_takes hc hup hq hnext hcp, gustResult, htaken]
  dsimp only
  rw [if_neg hstay, if_pos hfires]
  exact gustFires_issues _ _ hobj

/-- The gust evaluation of an object that is gone is counted, and counted as not run. -/
theorem gustEvaluation_of_gone (ho : objOf s e.slot = none) :
    gustEvaluation c s = rsat (gustTaken s c e) (Reg.VDT_GUST_COUNT + 28) 31 0 1 := by
  rw [gustEvaluation_takes hc hup hq hnext hcp, gustResult, show objOf (gustTaken s c e) e.slot = none from ho]

end

theorem gustEvaluation_issues_record (s : State) (c : Nat) (e : QEnt) (o : Obj) (hc : c < 4) (hup : up s (0x60D00 + c) = true)
    (hq : inReset s 0x60C02 = false) (hnext : nextEval s = some e) (hcp : e.cp ≠ 0) (ho : objOf s e.slot = some o) (hid : o.id = e.id)
    (hst : o.st = 1 ∨ o.st = 2)
    (hf : fires s (((runProgram s (o.prog.getD 0) (fun i => mgetD e.views i 0)).1.getD (15, 0)).1) = true) :
    completes (.gustEvaluation c) s (fun t => (objOf t e.slot).bind (fun u => u.gustRec.map (fun g => (g.verdict, g.cp, g.closed))) =
        some (((runProgram s (o.prog.getD 0) (fun i => mgetD e.views i 0)).1.getD (15, 0)).1, e.cp, false) ∧
      (objOf t e.slot).map (·.cpNext) = some 5 ∧ (∃ ws, t.vdt.out = s.vdt.out ++ [ws]) ∧
      t.vdt.queue = s.vdt.queue.erase e) := by
  have hrun : gustRun s e = runProgram s (o.prog.getD 0) (fun i => mgetD e.views i 0) := by
    rw [gustRun, ho]
    rfl
  rw [← hrun] at hf ⊢
  obtain ⟨g, ws, resv, hg, hv⟩ := gustEvaluation_fires hc hup hq hnext hcp ho hid hst hf
  have hobj : objOf (gustEvaluation c s) e.slot = some { o with cpBusy := false, gustRec := some g, cpNext := 5 } := by
    rw [objOf, hv, gustIssued, mget_madj, if_pos rfl, Laws.mget_mput_same]
    rfl
  refine ⟨gustEvaluation c s, rfl, ?_⟩
  beta_reduce
  rw [hobj, hv]
  exact ⟨congrArg some hg, rfl, ⟨ws, rfl⟩, rfl⟩

theorem gustEvaluation_of_gone_leaves_queue (s : State) (c : Nat) (e : QEnt) (hc : c < 4) (hup : up s (0x60D00 + c) = true)
    (hq : inReset s 0x60C02 = false) (hnext : nextEval s = some e) (hcp : e.cp ≠ 0) (ho : objOf s e.slot = none) :
    completes (.gustEvaluation c) s (fun t => t.vdt.queue = s.vdt.queue.erase e ∧ t.vdt.objs = s.vdt.objs ∧
      t.vdt.out = s.vdt.out ∧ t.vdt.resv = s.vdt.resv ∧ countedMore s t Reg.VDT_GUST_COUNT 31 0 1) := by
  refine ⟨gustEvaluation c s, rfl, ?_⟩
  beta_reduce
  rw [gustEvaluation_of_gone hc hup hq hnext hcp ho]
  refine ⟨rfl, rfl, rfl, rfl, ?_⟩
  have hother : rget (rsat (gustTaken s c e) (Reg.VDT_GUST_COUNT + 28) 31 0 1) Reg.VDT_GUST_COUNT =
      rget (gustTaken s c e) Reg.VDT_GUST_COUNT := rget_rfset_other _ _ _ _ (by decide)
  rw [countedMore, rfld, rnat, hother]
  exact countedMore_rsat (vdtMod (fun v => { v with queue := v.queue.erase e }) s) Reg.VDT_GUST_COUNT 1 (by decide) (by decide)

/-! ### Valve frames (R256, R257) -/

theorem valveFrameBuild_queues_frame (s : State) (b : Nat) (hb : b < 8) (hw : works s = true)
    (hen : rbit s (Reg.VDT_VB_CFG + 4 * b) 31 = true) (htick : tickLen s ≠ 0)
    (hnew : ∀ m, (mgetD s.vdt.framers b Framer.reset).last = some m → m < (s.t + frameLat s) / tickLen s)
    (hin : inReset s (0x61000 + b) = false) :
    completes (.valveFrameBuild b) s (fun t => mgetD t.vdt.framers b Framer.reset =
      ⟨some ((s.t + frameLat s) / tickLen s), (mgetD s.vdt.framers b Framer.reset).q ++
        [((s.t + frameLat s) / tickLen s, false,
          frameWords (commitCheck ((s.t + frameLat s) / tickLen s) s) b ((s.t + frameLat s) / tickLen s))]⟩) := by
  refine ⟨frameBuild b s, rfl, ?_⟩
  unfold frameBuild
  extract_lets n fr new s1 s2
  have hnew' : new = true := by
    unfold new
    split
    · next m hm => exact decide_eq_true (hnew m hm)
    · rfl
  rw [if_neg (by simp [hb, hw, hen, htick, hnew'])]
  unfold s2
  rw [if_neg (by simp [hin])]
  exact (mgetD_mput ..).trans (if_pos rfl)

theorem frameWordPost_eq {s : State} {b e n w : Nat} {f : Bool} {ws : List Nat} {rest : List (Nat × Bool × List Nat)}
    (hframe : (mgetD s.vdt.framers b Framer.reset).q = (n, f, w :: ws) :: rest) (hpe : bankPe s b = some e)
    (hin : inReset s (0x61000 + b) = false) (hroom : (eng s e).inF.length < 8) :
    frameWordPost b s = setEng e { eng s e with inF := (eng s e).inF ++ [w % 2 ^ 32] }
      { s with vdt := { s.vdt with framers := mput s.vdt.framers b { mgetD s.vdt.framers b Framer.reset with
        q := if ws.isEmpty then rest else (n, true, ws) :: rest } } } := by
  have hopen : ¬(inReset s (0x61000 + b) = true ∨ 8 ≤ (eng s e).inF.length) := by simp [hin, hroom]
  unfold frameWordPost
  dsimp only
  rw [hframe, hpe]
  exact if_neg hopen

theorem frameWordPost_moves_word (s : State) (b e n w : Nat) (f : Bool) (ws : List Nat) (rest : List (Nat × Bool × List Nat))
    (hframe : (mgetD s.vdt.framers b Framer.reset).q = (n, f, w :: ws) :: rest) (hpe : bankPe s b = some e)
    (hin : inReset s (0x61000 + b) = false) (hroom : (eng s e).inF.length < 8) :
    completes (.frameWordPost b) s (fun t => (eng t e).inF = (eng s e).inF ++ [w % 2 ^ 32] ∧
      (mgetD t.vdt.framers b Framer.reset).q = (if ws = [] then rest else (n, true, ws) :: rest) ∧
      (∀ x, x ≠ e → eng t x = eng s x)) := by
  refine ⟨frameWordPost b s, rfl, ?_⟩
  beta_reduce
  rw [frameWordPost_eq hframe hpe hin hroom]
  refine ⟨by rw [eng_setEng_same], ?_, fun x hx => (eng_setEng ..).trans (if_neg hx)⟩
  refine (congrArg Framer.q ((mgetD_mput ..).trans (if_pos rfl))).trans ?_
  simp only [List.isEmpty_iff]

theorem frameAbandoned_drops_frame (s : State) (b : Nat) (f : Nat × Bool × List Nat)
    (hfind : (mgetD s.vdt.framers b Framer.reset).q.find? (fun f => !f.2.1) = some f) (hev : eventsTaken s = true) :
    completes (.frameAbandoned b) s (fun t =>
      (mgetD t.vdt.framers b Framer.reset).q = (mgetD s.vdt.framers b Framer.reset).q.erase f ∧ eventPending t 0x619 = true) := by
  refine ⟨frameAbandon b s, rfl, ?_⟩
  unfold frameAbandon
  dsimp only
  rw [hfind]
  refine ⟨?_, raise_eventPending _ _ _ _ _ hev⟩
  rw [raise_vdt]
  exact congrArg Framer.q ((mgetD_mput ..).trans (if_pos rfl))

/-! ### The end of an ARM span (R259) -/

theorem cancelGust_resv (k cause conf : Nat) (s : State) : (cancelGust k cause conf s).vdt.resv = s.vdt.resv := by
  unfold cancelGust
  split
  · rfl
  · split
    · rfl
    · split <;> rfl

/-- The cancel of a gust record counts in VDT_GUST_COUNT[3] alone. -/
theorem rget_cancelGust (k cause conf : Nat) (s : State) {a : Nat} (h : a ≠ Reg.VDT_GUST_COUNT + 12) :
    rget (cancelGust k cause conf s) a = rget s a := by
  unfold cancelGust
  split
  · rfl
  · split
    · rfl
    · split
      · rfl
      · exact rget_rfset_other _ _ _ _ h

theorem rfld_word (s : State) (a : Nat) : rfld s a 31 0 = rnat s a := by
  rw [rfld, bits, Nat.pow_zero, Nat.div_one]
  exact Nat.mod_eq_of_lt (rget s a).isLt

theorem armExpire_removes_span (s : State) (r : Resv) (hfind : s.vdt.resv.find? (fun r =>
      !r.opn && (r.src == 0 || r.src == 2) && decide (r.hi ≤ ((s.t / tickLen s : Nat) : Int))) = some r) :
    completes .armExpire s (fun t =>
      rnat t (Reg.VDT_GUST_COUNT + 16) = min (rnat s (Reg.VDT_GUST_COUNT + 16) + 1) (2 ^ 32 - 1) ∧
      t.vdt.resv = s.vdt.resv.erase r) := by
  rw [Int.natCast_ediv] at hfind
  refine ⟨armExpire s, rfl, ?_⟩
  unfold armExpire
  dsimp only
  rw [hfind]
  dsimp only
  set u := rsat (vdtMod (fun v => { v with resv := v.resv.erase r }) s) (Reg.VDT_GUST_COUNT + 16) 31 0 1
  have hcount : rnat u (Reg.VDT_GUST_COUNT + 16) = min (rnat s (Reg.VDT_GUST_COUNT + 16) + 1) (2 ^ 32 - 1) := by
    have hmore := countedMore_rsat (vdtMod (fun v => { v with resv := v.resv.erase r }) s) (Reg.VDT_GUST_COUNT + 16) 1 (hi := 31) (lo := 0)
      (by decide) (by decide)
    rwa [countedMore, rfld_word, rfld_word] at hmore
  split
  · split
    · refine ⟨?_, cancelGust_resv ..⟩
      rw [rnat, rget_cancelGust _ _ _ _ (by decide)]
      exact hcount
    · exact ⟨hcount, rfl⟩
  · exact ⟨hcount, rfl⟩

/-! ### Gust records of the partner (R268) -/

theorem partnerGust_places_arms {s : State} {st ob : Nat} {ws : List (BitVec 128)} (h29 : rbit s Reg.VDT_XW_CFG 29 = true)
    (h28 : rbit s Reg.VDT_XW_CFG 28 = true) (hm : captureMode s ≠ 2) (hf : fires s (recFld ws 0 47 44) = true) :
    partnerGust st ob ws s = placeArms ob st 2
      ((bankSets (valveSet s (min (localCol s (recFld ws 1 59 43)) (localCol s (recFld ws 1 42 26)))
        (max (localCol s (recFld ws 1 59 43)) (localCol s (recFld ws 1 42 26))))).map
          (fun p => (p.1, fullT s (recFld ws 1 127 80) / tickLen s, p.2))) s := by
  unfold partnerGust
  rw [if_neg (by simp [h29, h28, hm, hf])]

theorem partnerGustRecord_places_arms (s : State) (n ty st ob : Nat) (ws : List (BitVec 128)) (cn : Nat × Nat) (a b : Int)
    (vs : List (Nat × List Nat))
    (hfind : s.xwIn.find? (fun x => isRec 1 x.2 && decide (2 ≤ x.1)) = some (n, .record ty st ob ws cn))
    (hlink : (partnerLinks s).contains n = true) (hin : inReset s 0x60F02 = false) (h29 : rbit s Reg.VDT_XW_CFG 29 = true)
    (h28 : rbit s Reg.VDT_XW_CFG 28 = true) (hm : captureMode s ≠ 2) (hf : fires s (recFld ws 0 47 44) = true)
    (ha : a = localCol s (recFld ws 1 59 43)) (hb : b = localCol s (recFld ws 1 42 26))
    (hvs : vs = bankSets (valveSet s (min a b) (max a b))) (hroom : s.vdt.resv.length + vs.length ≤ 8192) :
    completes .partnerGustRecordReceived s (fun t => t.xwIn = s.xwIn.erase (n, .record ty st ob ws cn) ∧
      t.vdt.resv = s.vdt.resv ++ vs.map (fun p => ⟨ob, st, p.1, false, 2, p.2,
        fullT s (recFld ws 1 127 80) / tickLen s - rfld s Reg.VDT_EJ_ARM 9 0,
        fullT s (recFld ws 1 127 80) / tickLen s - rfld s Reg.VDT_EJ_ARM 9 0 + rfld s Reg.VDT_EJ_ARM 27 16⟩)) := by
  subst ha hb hvs
  set u : State := { s with xwIn := s.xwIn.erase (n, .record ty st ob ws cn) }
  have hplace := partnerGust_places_arms (s := u) (st := st) (ob := ob) h29 h28 hm hf
  have hreceived : partnerGustReceived s = partnerGust st ob ws u := by
    unfold partnerGustReceived takeIn
    rw [hfind]
    dsimp only
    rw [if_pos (by simp only [hlink, hin, Bool.not_false, Bool.and_self])]
  refine ⟨partnerGustReceived s, rfl, ?_⟩
  beta_reduce
  rw [hreceived, hplace]
  refine ⟨(Laws.within_placeArms ..).xwIn rfl, ?_⟩
  rw [placeArms_of_room _ _ _ _ u (by rw [List.length_map]; exact hroom) hin, List.map_map]
  rfl

/-- Settles O20: the clauses, each proved above, in their order. -/
theorem gustVerdictsFramesAndArmSpans : Obligations.GustVerdictsFramesAndArmSpans :=
  ⟨gustEvaluation_issues_record, gustEvaluation_of_gone_leaves_queue, valveFrameBuild_queues_frame, frameWordPost_moves_word,
    frameAbandoned_drops_frame, armExpire_removes_span, partnerGustRecord_places_arms⟩

end Sys2Proof.Proofs
end

section
/-! PROOFS. The companion ports (R276-R294): one port under the operations of the frame grabber and of its engine, what follows each
command of the companion inputs (R300, R306), and the frames and lines of a port. -/

namespace Sys2Proof.Proofs

open Sys2Proof Sys2Proof.Machine

/-- An event that is raised together with a count is pending. -/
theorem raiseAux_counted_eventPending {s u : State} (code fid p a hi lo n : Nat) (args : List Nat) (hrst : u.rst = s.rst)
    (hev : eventsTaken s = true) : eventPending (raiseAux code fid p args (rsat u a hi lo n)) code = true :=
  raise_eventPending _ _ _ _ _ ((eventsTaken_of_rst ((rsat_rst ..).trans hrst)).trans hev)

/-! ### One port changes -/

theorem portOf_setPort_same {p : Nat} (x : AuxPort) {s : State} (h : p < s.aux.ports.length) : portOf (setPort p x s) p = x := by
  simp [portOf, setPort, h]

theorem portOf_setPort_other {p q : Nat} (x : AuxPort) (s : State) (h : q ≠ p) : portOf (setPort p x s) q = portOf s q := by
  simp [portOf, setPort, h.symm]

theorem portOf_modPort_same {p : Nat} (f : AuxPort → AuxPort) {s : State} (h : p < s.aux.ports.length) :
    portOf (modPort p f s) p = f (portOf s p) := portOf_setPort_same _ h

theorem portOf_congr {s t : State} (h : t.aux = s.aux) (q : Nat) : portOf t q = portOf s q := by rw [portOf, portOf, h]

/-- From `s` to `u` an operation of port `p` has passed that leaves the other port, the view `g` of port `p`, the events that were pending
and the frame counts. -/
structure PortStep {α : Type} (g : AuxPort → α) (p : Nat) (s u : State) : Prop where
  length : u.aux.ports.length = s.aux.ports.length
  others : ∀ q, q ≠ p → portOf u q = portOf s q
  view : g (portOf u p) = g (portOf s p)
  pending : ∀ c, eventPending s c = true → eventPending u c = true
  counts : ∀ q, rget u (preg Reg.AUX_PORT_FRAMES q) = rget s (preg Reg.AUX_PORT_FRAMES q)

namespace PortStep

variable {α β : Type} {g : AuxPort → α} {p : Nat} {s u v : State}

theorem refl (g : AuxPort → α) (p : Nat) (s : State) : PortStep g p s s := ⟨rfl, fun _ _ => rfl, rfl, fun _ h => h, fun _ => rfl⟩

theorem trans (h : PortStep g p s u) (k : PortStep g p u v) : PortStep g p s v where
  length := k.length.trans h.length
  others q hq := (k.others q hq).trans (h.others q hq)
  view := k.view.trans h.view
  pending c hc := k.pending c (h.pending c hc)
  counts q := (k.counts q).trans (h.counts q)

/-- A view that another one determines is left too. -/
theorem mono {g' : AuxPort → β} (hg : ∀ x y, g x = g y → g' x = g' y) (h : PortStep g p s u) : PortStep g' p s u :=
  ⟨h.length, h.others, hg _ _ h.view, h.pending, h.counts⟩

theorem viewAt (h : PortStep g p s u) (q : Nat) : g (portOf u q) = g (portOf s q) := by
  by_cases hq : q = p
  · rw [hq, h.view]
  · rw [h.others q hq]

/-- An operation that leaves the companion inputs and their registers. -/
theorem of_keeps (haux : u.aux = s.aux) (hevt : u.evt = s.evt) (hregs : u.regs = s.regs) : PortStep g p s u where
  length := by rw [haux]
  others q _ := portOf_congr haux q
  view := by rw [portOf_congr haux]
  pending c hc := by rwa [eventPending_of_evt hevt]
  counts q := rget_congr hregs _

theorem rset {a : Nat} (v : Nat) (ha : ∀ q, preg Reg.AUX_PORT_FRAMES q ≠ a) (h : PortStep g p s u) :
    PortStep g p s (Machine.rset u a v) := h.trans {
  length := rfl
  others := fun _ _ => rfl
  view := rfl
  pending := fun _ hc => hc
  counts := fun q => rget_rset_other u v (ha q) }

theorem raise (code fid : Nat) (args : List Nat) (ctag coord : Nat) (h : PortStep g p s u) :
    PortStep g p s (Machine.raise code fid args ctag coord u) := h.trans {
  length := by rw [raise_aux]
  others := fun q _ => portOf_congr (raise_aux ..) q
  view := by rw [portOf_congr (raise_aux ..)]
  pending := fun _ hc => raise_keeps_pending _ _ _ _ _ hc
  counts := fun q => rget_congr (raise_regs ..) _ }

theorem setPort {x : AuxPort} (hx : g x = g (portOf u p)) (h : PortStep g p s u) : PortStep g p s (Machine.setPort p x u) := h.trans {
  length := by simp [Machine.setPort]
  others := fun q hq => portOf_setPort_other x u hq
  view := by
    by_cases hp : p < u.aux.ports.length
    · rw [portOf_setPort_same x hp, hx]
    · simp [Machine.setPort, portOf, List.set_eq_of_length_le (Nat.le_of_not_lt hp)]
  pending := fun _ hc => hc
  counts := fun _ => rfl }

theorem modPort {f : AuxPort → AuxPort} (hf : ∀ x, g (f x) = g x) (h : PortStep g p s u) : PortStep g p s (Machine.modPort p f u) :=
  h.setPort (hf _)

theorem ite {c : Prop} [Decidable c] (hu : PortStep g p s u) (hv : PortStep g p s v) : PortStep g p s (if c then u else v) := by
  split <;> assumption

theorem foldl {f : State → β → State} (hf : ∀ u b, PortStep g p u (f u b)) (l : List β) (h : PortStep g p s u) :
    PortStep g p s (l.foldl f u) := by
  induction l generalizing u with
  | nil => exact h
  | cons b l ih => exact ih (h.trans (hf u b))

end PortStep

/-! ### The engine's rows and the contexts of a port (R286-R290, R296, R303) -/

/-- What neither the engine's stages, nor the contexts, nor the exposure loop change of a port. -/
def lineSide (x : AuxPort) : AuxPort :=
  { x with
    carry := [], long := none, store := [], lastLam := none, acc := (0, 0, 0), sinceLoop := 0, loopDue := none, ctx := [], wait := [] }

/-- What a stripe that is dropped leaves of a port's frame: FVAL, the rows begun and the line in progress. -/
def frameSide (x : AuxPort) : Bool × Nat × Option AuxLine := (x.fval, x.rows, x.cur)

theorem frameSide_of_lineSide (x y : AuxPort) (h : lineSide x = lineSide y) : frameSide x = frameSide y := by
  simp only [lineSide, AuxPort.mk.injEq] at h
  simp [frameSide, h]

/-- The fields that the frames and lines of a port are about. -/
theorem fields_of_lineSide {x y : AuxPort} (h : lineSide x = lineSide y) : x.fval = y.fval ∧ x.frames = y.frames ∧ x.lvals = y.lvals ∧
    x.tF = y.tF ∧ x.rows = y.rows ∧ x.cur = y.cur ∧ x.ring = y.ring ∧ x.silent = y.silent := by
  simp only [lineSide, AuxPort.mk.injEq] at h
  simp only [h, and_self]

/-- No register of port `q` but AUX_PORT_FRAMES itself aliases the frame count of a port. -/
theorem frames_ne_preg {a : Nat} (h : a % 0x100 ≠ 0x88) (p q : Nat) : preg Reg.AUX_PORT_FRAMES q ≠ preg a p := by
  unfold preg Reg.AUX_PORT_FRAMES
  omega

theorem storeRow_step (p : Nat) (r : AuxRow) (s : State) : PortStep lineSide p s (storeRow p r s) := by
  unfold storeRow
  extract_lets _ _ _ _ _ _ _ _ _ s2
  have hstored : PortStep lineSide p s s2 :=
    ((PortStep.refl lineSide p s).setPort (by rfl)).rset _ (frames_ne_preg (by decide) p)
  refine .ite (.raise _ _ _ _ _ (.rset _ (frames_ne_preg (by decide) p) (.refl ..))) (.ite ?_ hstored)
  exact .raise _ _ _ _ _ (hstored.rset _ (frames_ne_preg (by decide) p))

theorem emitRows_step (p keep : Nat) (s : State) : PortStep lineSide p s (emitRows p keep s) := by
  unfold emitRows
  extract_lets rows n s1
  have hemitted : PortStep lineSide p s s1 := .foldl (fun u q => storeRow_step p _ u) _ (.refl ..)
  exact .ite (.modPort (fun _ => rfl) (.foldl (fun u r => storeRow_step p r u) rows (.refl ..))) (hemitted.modPort (fun _ => rfl))

theorem flushCarry_step (p : Nat) (s : State) : PortStep lineSide p s (flushCarry p s) := by
  unfold flushCarry
  extract_lets x s1
  have hlong : PortStep lineSide p s s1 := by
    unfold s1
    split
    · exact .setPort rfl (.refl ..)
    · exact .refl ..
  exact (hlong.trans (emitRows_step p 0 s1)).modPort (fun _ => rfl)

theorem dropStripe_step (p f j : Nat) (s : State) : PortStep frameSide p s (dropStripe p f j s) := by
  unfold dropStripe
  extract_lets s1 s2
  have hdropped : PortStep frameSide p s s1 := .modPort (fun _ => rfl) (.refl ..)
  have hflushed : PortStep frameSide p s s2 := .ite (hdropped.trans ((flushCarry_step p s1).mono frameSide_of_lineSide)) hdropped
  exact .raise _ _ _ _ _ (hflushed.rset _ (frames_ne_preg (by decide) p))

theorem showActive_step (p : Nat) (c : AuxCtx) (s : State) : PortStep id p s (showActive p c s) := by
  unfold showActive
  refine .ite (.refl ..) ?_
  exact .rset _ (frames_ne_preg (by decide) p) (.rset _ (frames_ne_preg (by decide) p) (.rset _ (frames_ne_preg (by decide) p)
    (.rset _ (frames_ne_preg (by decide) p) (.refl ..))))

theorem ctxApply_step (p : Nat) (s : State) : PortStep lineSide p s (ctxApply p s) := by
  unfold ctxApply
  extract_lets x
  split
  · exact .refl ..
  · refine .ite (.refl ..) (.raise _ _ _ _ _ ?_)
    exact (PortStep.setPort (by rfl) (.refl ..)).trans ((showActive_step p _ _).mono (fun _ _ h => congrArg lineSide h))

/-- Port `x` with the context of slot `i` current and the one that was current retiring (R303). -/
def withCurrent (i : Nat) (x : AuxPort) : AuxPort := { x with ctx := (List.range 4).map (fun j =>
  if j = i then { ctxAt x i with st := 1 } else if (ctxAt x j).st = 1 then { ctxAt x j with st := 3 } else ctxAt x j) }

theorem ctxAt_withCurrent {i : Nat} (x : AuxPort) (h : i < 4) : (ctxAt (withCurrent i x) i).st = 1 := by
  simp [ctxAt, withCurrent, List.getD_eq_getElem?_getD, h]

/-- The pending context is one of the four slots. -/
theorem ctxWith_lt {x : AuxPort} {st i : Nat} (h : ctxWith x st = some i) : i < 4 :=
  List.mem_range.mp (List.mem_of_find?_eq_some h)

/-- A pending context whose frame or line has come takes effect (R303). -/
theorem ctxApply_applies {p i : Nat} {s : State} (hp : p < s.aux.ports.length) (hev : eventsTaken s = true)
    (hi : ctxWith (portOf s p) 2 = some i)
    (hdue : (ctxAt (portOf s p) i).eff ≤ (if rbit s (preg Reg.AUX_BUS_CFG p) 17 then (portOf s p).lvals else (portOf s p).frames)) :
    (ctxAt (portOf (ctxApply p s) p) i).st = 1 ∧ eventPending (ctxApply p s) 0x50B = true := by
  set u := showActive p (ctxAt (portOf s p) i) (setPort p (withCurrent i (portOf s p)) s)
  have happly : ctxApply p s = raiseAux 0x50B (0x50300 + p) p [p, i, (ctxAt (portOf s p) i).eff] u := by
    simp only [ctxApply, hi]
    exact if_neg (Nat.not_lt.mpr hdue)
  have hport : portOf u p = withCurrent i (portOf s p) := (showActive_step ..).view.trans (portOf_setPort_same _ hp)
  have hrst : u.rst = s.rst := (Laws.within_showActive ..).rst rfl
  rw [happly, raiseAux, portOf_congr (raise_aux ..), hport]
  exact ⟨ctxAt_withCurrent _ (ctxWith_lt hi), raise_eventPending _ _ _ _ _ (by rwa [eventsTaken_of_rst hrst])⟩

/-! ### What follows each command of the companion inputs (R300, R306) -/

/-- What a turn of the exposure loop leaves of a port: all but the turn and the changes that wait. -/
def loopSide (x : AuxPort) : AuxPort := { x with loopDue := none, wait := [] }

theorem lineSide_loopSide (x : AuxPort) : lineSide (loopSide x) = lineSide x := rfl

theorem lineSide_ctxRetire (x : AuxPort) : lineSide (ctxRetire x) = lineSide x := rfl

theorem ctxRetire_reset : ctxRetire AuxPort.reset = AuxPort.reset := by decide

theorem portOf_contextsRetire (s : State) (q : Nat) : portOf (contextsRetire s) q = ctxRetire (portOf s q) := by
  conv_lhs => rw [portOf, contextsRetire, ← ctxRetire_reset]
  exact List.getD_map ..

/-- Retiring contexts are freed: a context in force stays as it is. -/
theorem ctxAt_ctxRetire {x : AuxPort} {i : Nat} (hi : i < 4) (h : (ctxAt x i).st ≠ 3) : ctxAt (ctxRetire x) i = ctxAt x i := by
  conv_lhs => rw [ctxAt, ctxRetire]
  simp [List.getD_eq_getElem?_getD, hi, h]

theorem exposureLoop_of_not_due {p : Nat} {s : State} (h : (portOf s p).loopDue = none) : exposureLoop p s = s := by
  simp only [exposureLoop, h]

theorem exposureLoop_step (p : Nat) (s : State) : PortStep loopSide p s (exposureLoop p s) := by
  unfold exposureLoop
  extract_lets _ s0
  split
  · exact .refl ..
  · refine .ite (.refl ..) (.ite (.setPort (by rfl) (.refl ..)) ?_)
    extract_lets acc s1 _ _ s2 f g
    have h0 : PortStep loopSide p s s0 := .setPort (by rfl) (.refl ..)
    have hfree : ∀ u : State, PortStep loopSide p u (takeFree Config.free32 u).2 := fun u => .of_keeps rfl rfl rfl
    have h1 : PortStep loopSide p s s1 := by
      unfold s1 acc
      split
      · exact h0
      · exact h0.trans (hfree s0)
    have h2 : PortStep loopSide p s s2 := .ite (.raise _ _ _ _ _ h1) h1
    have hf : PortStep loopSide p s f.2 := by
      unfold f
      split
      · exact h2.trans (hfree s2)
      · exact h2
    have hg : PortStep loopSide p s g.2 := by
      unfold g
      split
      · exact hf.trans (hfree f.2)
      · exact hf
    exact .ite h2 (.rset _ (frames_ne_preg (by decide) p) (hg.modPort (fun _ => rfl)))

/-- The state after the operation `u` of a command of the companion inputs has been settled. -/
def afterCompanion (u : State) : State := epochsRetire (auxSettle u)

section
variable (u : State) (q : Nat)

theorem portOf_afterCompanion : loopSide (portOf (afterCompanion u) q) = loopSide (ctxRetire (portOf u q)) := by
  have hepochs : portOf (afterCompanion u) q = portOf (auxSettle u) q := portOf_congr rfl q
  rw [hepochs, auxSettle, (exposureLoop_step 1 _).viewAt q, (exposureLoop_step 0 _).viewAt q, portOf_contextsRetire]

/-- The lines and frames of a port stay as the operation has left them. -/
theorem lineSide_afterCompanion : lineSide (portOf (afterCompanion u) q) = lineSide (portOf u q) := by
  rw [← lineSide_loopSide, portOf_afterCompanion, lineSide_loopSide, lineSide_ctxRetire]

theorem rget_frames_afterCompanion : rget (afterCompanion u) (preg Reg.AUX_PORT_FRAMES q) = rget u (preg Reg.AUX_PORT_FRAMES q) :=
  ((exposureLoop_step 1 _).counts q).trans ((exposureLoop_step 0 _).counts q)

end

theorem eventPending_afterCompanion {u : State} {c : Nat} (h : eventPending u c = true) : eventPending (afterCompanion u) c = true :=
  (exposureLoop_step 1 _).pending c ((exposureLoop_step 0 _).pending c h)

/-- A context in force stays in force. -/
theorem ctxAt_afterCompanion {u : State} {q i : Nat} (hi : i < 4) (h : (ctxAt (portOf u q) i).st ≠ 3) :
    ctxAt (portOf (afterCompanion u) q) i = ctxAt (portOf u q) i :=
  (congrArg (fun x : AuxPort => ctxAt x i) (portOf_afterCompanion u q)).trans (ctxAt_ctxRetire hi h)

theorem portSettled_iff {x : AuxPort} : portSettled x = true ↔ x.loopDue = none ∧ ctxRetire x = x := by
  simp [portSettled]

theorem portOf_exposureLoop {p q : Nat} {s : State} (h : (portOf s q).loopDue = none) : portOf (exposureLoop p s) q = portOf s q := by
  by_cases hq : q = p
  · rw [exposureLoop_of_not_due (hq ▸ h)]
  · exact (exposureLoop_step p s).others q hq

theorem portOf_afterCompanion_settled {u : State} {q : Nat} (h : portSettled (portOf u q) = true) :
    portOf (afterCompanion u) q = portOf u q := by
  obtain ⟨hdue, hretired⟩ := portSettled_iff.mp h
  have hport : portOf (contextsRetire u) q = portOf u q := (portOf_contextsRetire u q).trans hretired
  have hloop0 := portOf_exposureLoop (p := 0) (hport ▸ hdue)
  have hloop1 := portOf_exposureLoop (p := 1) ((hloop0.trans hport) ▸ hdue)
  exact hloop1.trans (hloop0.trans hport)

/-- The other port, where it is settled, is left by an operation of port `p` and what follows it. -/
theorem PortStep.other_port_kept {α : Type} {g : AuxPort → α} {p : Nat} {s u : State} (h : PortStep g p s u) :
    ∀ q, q ≠ p → portSettled (portOf s q) = true → portOf (afterCompanion u) q = portOf s q := fun q hq hsettled =>
  (portOf_afterCompanion_settled (by rwa [h.others q hq])).trans (h.others q hq)

/-- Where no turn of the exposure loop waits, nothing but contexts and epochs retires. -/
theorem afterCompanion_of_not_due {u : State} (h : ∀ q, q < 2 → (portOf u q).loopDue = none) :
    afterCompanion u = epochsRetire (contextsRetire u) := by
  have hdue : ∀ q, q < 2 → (portOf (contextsRetire u) q).loopDue = none := fun q hq => by
    rw [portOf_contextsRetire]
    exact h q hq
  rw [afterCompanion, auxSettle, exposureLoop_of_not_due (hdue 0 (by decide)), exposureLoop_of_not_due (hdue 1 (by decide))]

theorem aux_afterCompanion_settled {u : State} (hlen : u.aux.ports.length = 2) (h : ∀ q, q < 2 → portSettled (portOf u q) = true) :
    (afterCompanion u).aux = u.aux := by
  have hports : u.aux.ports.map ctxRetire = u.aux.ports := by
    refine (List.map_congr_left (fun x hx => ?_)).trans (List.map_id _)
    obtain ⟨q, hq, rfl⟩ := List.getElem_of_mem hx
    have hport : portOf u q = u.aux.ports[q] := List.getD_eq_getElem ..
    exact hport ▸ (portSettled_iff.mp (h q (hlen ▸ hq))).2
  rw [afterCompanion_of_not_due (fun q hq => (portSettled_iff.mp (h q hq)).1)]
  change { u.aux with ports := u.aux.ports.map ctxRetire } = u.aux
  rw [hports]

/-! ### The end of a line (R278-R280) -/

/-- Line `l` of port `p` as it enters the ring after the words `ws`, which no trailer and no word in excess follows. -/
def receivedLine (s : State) (p : Nat) (ws : List Nat) (l : AuxLine) : AuxLine := { l with
  words := ws.map (· % 2 ^ 20) ++ List.replicate (lineWords s p - ws.length) (2 ^ 20 + pfld s p Reg.AUX_PORT_FILL 19 0)
  marks := 2 * b2n (decide (ws.length < lineWords s p)), done := true
  short := pcfg s p 21 20 == 1 && l.row % 2 == 1 }

/-- No line is in progress on port `p`. -/
def lineTakenOff (p : Nat) (s : State) : State := setPort p { portOf s p with cur := none } s

/-- The line in progress has ended after the words `ws`: one that is short is counted and raises 0x503. -/
def lineJudged (p : Nat) (ws : List Nat) (s : State) : State :=
  if ws.length < lineWords s p then
    raiseAux 0x503 (0x50000 + p) p [] (rsat (lineTakenOff p s) (preg Reg.AUX_PORT_LINEERR p) 31 16 1)
  else lineTakenOff p s

theorem lineTakenOff_step (p : Nat) (s : State) : PortStep (fun x => (x.fval, x.rows)) p s (lineTakenOff p s) := .setPort rfl (.refl ..)

theorem lineJudged_step (p : Nat) (ws : List Nat) (s : State) : PortStep id p (lineTakenOff p s) (lineJudged p ws s) :=
  .ite (.raise _ _ _ _ _ (.rset _ (frames_ne_preg (by decide) p) (.refl ..))) (.refl ..)

theorem lineJudged_t (p : Nat) (ws : List Nat) (s : State) : (lineJudged p ws s).t = s.t := by
  unfold lineJudged raiseAux
  split
  · rw [raise_t, rsat_t]
    rfl
  · rfl

theorem ringLines_append_length (s : State) (x : AuxPort) (l : AuxLine) :
    (ringLines s { x with ring := x.ring ++ [l] }).length ≤ (ringLines s x).length + 1 := by
  simp only [ringLines, List.filter_append, List.length_append]
  exact Nat.add_le_add_left (List.length_filter_le ..) _

/-- Line `l` enters the ring of port `p`, whose input FIFO drops the stripe where it overflows (R294, R296): `s` configures the port. -/
def ringEntered (s : State) (p : Nat) (l : AuxLine) (u : State) : State :=
  let v := modPort p (fun x => { x with ring := x.ring ++ [l] }) u
  let fifo := nsum (((ringLines v (portOf v p)).drop 32).map (fun l => l.words.length + b2n (pcfg s p 23 23 == 1)))
  let noted := rmax v (preg Reg.AUX_PORT_RING p) 23 16 (min 255 (fifo * 255 / 26214))
  if fifo ≤ 26214 then noted else raiseAux 0x511 (0x50100 + halfOf s p) p [] (dropStripe p l.frame (l.row / 16) noted)

theorem ringEntered_step (s : State) (p : Nat) (l : AuxLine) (u : State) : PortStep frameSide p u (ringEntered s p l u) := by
  unfold ringEntered
  extract_lets v fifo noted
  have hnoted : PortStep frameSide p u noted :=
    .rset _ (frames_ne_preg (by decide) p) (.modPort (fun _ => rfl) (.refl ..))
  exact .ite hnoted (.raise _ _ _ _ _ (hnoted.trans (dropStripe_step ..)))

theorem ringEntered_of_room {s u : State} {p : Nat} (l : AuxLine) (hp : p < u.aux.ports.length)
    (hroom : (ringLines u (portOf u p)).length < 32) :
    ∃ v, ringEntered s p l u = rset (modPort p (fun x => { x with ring := x.ring ++ [l] }) u) (preg Reg.AUX_PORT_RING p) v := by
  have hport := portOf_modPort_same (fun x => { x with ring := x.ring ++ [l] }) hp
  have hwaits : (ringLines u { portOf u p with ring := (portOf u p).ring ++ [l] }).drop 32 = [] :=
    List.drop_eq_nil_of_le ((ringLines_append_length ..).trans hroom)
  unfold ringEntered
  extract_lets v fifo noted
  have hfifo : fifo = 0 := by
    unfold fifo
    rw [hport]
    exact congrArg (fun w : List AuxLine => nsum (w.map _)) hwaits
  rw [if_pos (hfifo ▸ Nat.zero_le _)]
  exact ⟨_, rfl⟩

/-- A line without a trailer to check and without a word in excess enters the ring. -/
theorem lineDone_enters_ring {s : State} {p : Nat} {ws : List Nat} {l : AuxLine} (hcur : (portOf s p).cur = some l)
    (hle : ws.length ≤ lineWords s p) (htrailer : ws.length < lineWords s p ∨ pcfg s p 23 23 = 0)
    (hdrop : (l.frame, l.row / 16) ∉ (portOf s p).drops) :
    lineDone p ws s = ringEntered s p (receivedLine s p ws l) (lineJudged p ws s) := by
  unfold lineDone
  extract_lets x n trailer short long pix tr bad fill exp alt s1 s2 s3 _ _ s4
  split
  · next h => cases h.symm.trans hcur
  · next l' h =>
    obtain rfl : l' = l := Option.some.inj (h.symm.trans hcur)
    extract_lets l1 s5 y waiting fifo s6
    have htr : tr = none := by
      unfold tr
      rcases htrailer with h | h <;> simp [trailer, short, n, h]
    have hbad : bad = false := by simp only [bad, htr]
    have hexp : exp = false := by simp only [exp, htr]
    have hlong : long = false := decide_eq_false (by omega)
    have hs4 : s4 = lineJudged p ws s := by
      simp only [s4, hbad, s3, hlong, Bool.false_eq_true, if_false, s2, short, decide_eq_true_eq]
      rfl
    have hl1 : l1 = receivedLine s p ws l' := by
      simp only [l1, receivedLine, pix, n, List.take_of_length_le hle, List.length_map, hbad, hlong, hexp, short, alt, ite_self]
      by_cases halt : pcfg s p 21 20 = 1 <;> simp [halt, b2n, fill]
    rw [← hl1, ← hs4, if_neg (by simp [hbad]), if_neg (by simpa using hdrop)]
    rfl

/-- A line in progress that ends leaves FVAL and the rows of its frame. -/
theorem lineDone_step {p : Nat} {s : State} {l : AuxLine} (ws : List Nat) (hcur : (portOf s p).cur = some l) :
    PortStep frameSide p (lineTakenOff p s) (lineDone p ws s) := by
  unfold lineDone
  extract_lets x n trailer short long pix tr bad fill exp alt s1 s2 s3 s4a s5a s4
  have hreg : ∀ {u : State} {a : Nat} (v : Nat), a % 0x100 ≠ 0x88 → PortStep frameSide p (lineTakenOff p s) u →
      PortStep frameSide p (lineTakenOff p s) (rset u (preg a p) v) := fun v ha h => h.rset v (frames_ne_preg ha p)
  have h2 : PortStep frameSide p (lineTakenOff p s) s2 := .ite (.raise _ _ _ _ _ (hreg _ (by decide) (.refl ..))) (.refl ..)
  have h3 : PortStep frameSide p (lineTakenOff p s) s3 := .ite (.raise _ _ _ _ _ (hreg _ (by decide) h2)) h2
  have h4a : PortStep frameSide p (lineTakenOff p s) s4a := hreg _ (by decide) h3
  have h5a : PortStep frameSide p (lineTakenOff p s) s5a := .ite h4a (hreg _ (by decide) h4a)
  have h4 : PortStep frameSide p (lineTakenOff p s) s4 := .ite (.raise _ _ _ _ _ (h5a.modPort (fun _ => rfl))) h3
  split
  · next h => cases h.symm.trans hcur
  · exact .ite h4 (.ite h4 (h4.trans (ringEntered_step s p _ s4)))

/-- A line that ends leaves FVAL and the rows of its frame, and no line is in progress after it. -/
theorem lineDone_ends {p : Nat} {s : State} (ws : List Nat) (hp : p < s.aux.ports.length) :
    PortStep (fun x => (x.fval, x.rows)) p s (lineDone p ws s) ∧ (portOf (lineDone p ws s) p).cur = none := by
  cases hcur : (portOf s p).cur with
  | none =>
    have hnone : lineDone p ws s = s := by simp only [lineDone, hcur]
    rw [hnone]
    exact ⟨.refl .., hcur⟩
  | some l =>
    have hdone := lineDone_step ws hcur
    refine ⟨(lineTakenOff_step p s).trans (hdone.mono (fun x y h => congrArg (fun v => (v.1, v.2.1)) h)), ?_⟩
    have hview := congrArg (fun v => v.2.2) hdone.view
    rw [lineTakenOff, portOf_setPort_same _ hp] at hview
    exact hview

/-! ### The clauses -/

theorem configured_lt {s : State} {p : Nat} (h : configured s p = true) : p < 2 := by
  simp only [configured, Bool.and_eq_true, decide_eq_true_eq] at h
  exact h.2

/-- Port `x` as the frame that begins at `now` finds it (R276). -/
def frameBegun (now : Nat) (x : AuxPort) : AuxPort := { x with
  fval := true, frames := x.frames + 1, tF := now, rows := 0, fLong := false, fChk := false, cur := none
  drops := x.drops.filter (fun d => x.ring.any (fun l => l.frame == d.1 && l.freeAt.isNone) || x.carry.any (fun r => r.frame == d.1)) }

/-- FVAL has risen on port `p` and its frame is counted; no context has taken effect yet. -/
def frameCounted (p : Nat) (s : State) : State := rwrap (modPort p (frameBegun s.t) s) (preg Reg.AUX_PORT_FRAMES p) 31 0 1

theorem companionFrameStart_eq {s : State} {p : Nat} (hconf : configured s p = true) (hup : up s (0x50000 + p) = true) :
    companionFrameStart p s = ctxApply p (frameCounted p s) := by
  simp only [companionFrameStart, hconf, hup, Bool.not_true, Bool.or_self, Bool.false_eq_true, if_false]
  rfl

theorem rnat_frameCounted (p : Nat) (s : State) :
    rnat (frameCounted p s) (preg Reg.AUX_PORT_FRAMES p) = (rnat s (preg Reg.AUX_PORT_FRAMES p) + 1) % 2 ^ 32 := by
  rw [← rfld_word, frameCounted, rwrap, rfld_rfset_same _ _ _ (by decide) (by decide), rfld_word]
  rfl

/-- R276, R303: FVAL rises on a configured port. -/
theorem companionFrameStart_opens_frame (s : State) (p : Nat) (hlen : s.aux.ports.length = 2) (hconf : configured s p = true)
    (hup : up s (0x50000 + p) = true) (hev : eventsTaken s = true) :
    completes (.companionFrameStart p) s (fun t => (portOf t p).fval = true ∧ (portOf t p).frames = (portOf s p).frames + 1 ∧
      (portOf t p).rows = 0 ∧ (portOf t p).cur = none ∧ (portOf t p).tF = s.t ∧
      rnat t (preg Reg.AUX_PORT_FRAMES p) = (rnat s (preg Reg.AUX_PORT_FRAMES p) + 1) % 2 ^ 32 ∧
      (∀ i, ctxWith (portOf s p) 2 = some i →
        (ctxAt (portOf s p) i).eff ≤ (if rbit s (preg Reg.AUX_BUS_CFG p) 17 then (portOf s p).lvals else (portOf s p).frames + 1) →
        (ctxAt (portOf t p) i).st = 1 ∧ eventPending t 0x50B = true) ∧
      (∀ q, q ≠ p → portSettled (portOf s q) = true → portOf t q = portOf s q)) := by
  have hp : p < s.aux.ports.length := hlen ▸ configured_lt hconf
  have hport : portOf (frameCounted p s) p = frameBegun s.t (portOf s p) := portOf_modPort_same (frameBegun s.t) hp
  have hothers : ∀ q, q ≠ p → portOf (frameCounted p s) q = portOf s q := fun q hq => portOf_setPort_other _ s hq
  have happly := ctxApply_step p (frameCounted p s)
  refine ⟨afterCompanion (companionFrameStart p s), rfl, ?_⟩
  rw [companionFrameStart_eq hconf hup]
  have hview := (lineSide_afterCompanion (ctxApply p (frameCounted p s)) p).trans (happly.view.trans (congrArg lineSide hport))
  have hcount : rnat (afterCompanion (ctxApply p (frameCounted p s))) (preg Reg.AUX_PORT_FRAMES p) =
      rnat (frameCounted p s) (preg Reg.AUX_PORT_FRAMES p) :=
    congrArg BitVec.toNat ((rget_frames_afterCompanion _ p).trans (happly.counts p))
  obtain ⟨hfval, hframes, -, htF, hrows, hcur, -, -⟩ := fields_of_lineSide hview
  refine ⟨hfval, hframes, hrows, hcur, htF, hcount.trans (rnat_frameCounted p s), fun i hi hdue => ?_, fun q hq hsettled => ?_⟩
  · have hlen' : p < (frameCounted p s).aux.ports.length := by
      change p < (s.aux.ports.set p _).length
      rwa [List.length_set]
    have hcfg : rget (frameCounted p s) (preg Reg.AUX_BUS_CFG p) = rget s (preg Reg.AUX_BUS_CFG p) :=
      rget_rset_other _ _ (by unfold preg Reg.AUX_BUS_CFG Reg.AUX_PORT_FRAMES; omega)
    have hev' : eventsTaken (frameCounted p s) = true := (eventsTaken_of_rst rfl).trans hev
    have happlied := ctxApply_applies hlen' (s := frameCounted p s) (i := i) hev' (by rw [hport]; exact hi)
      (by rw [hport, rbit, rnat, hcfg]; exact hdue)
    have hctx := ctxAt_afterCompanion (ctxWith_lt hi) (u := ctxApply p (frameCounted p s)) (q := p) (by rw [happlied.1]; decide)
    exact ⟨(congrArg AuxCtx.st hctx).trans happlied.1, eventPending_afterCompanion happlied.2⟩
  · exact (happly.other_port_kept q hq (by rwa [hothers q hq])).trans (hothers q hq)

theorem loopCount_step (p : Nat) (s : State) : PortStep lineSide p s (loopCount p s) := by
  unfold loopCount
  extract_lets x cfg
  exact .ite (.refl ..) (.ite (.setPort (by rfl) (.refl ..)) (.setPort (by rfl) (.refl ..)))

/-- FVAL has fallen on port `p` after the words `ws`, and AUX_PORT_LAST shows the frame (R280). -/
def frameClosed (p : Nat) (ws : List Nat) (s : State) : State :=
  let u := lineDone p ws s
  let x := portOf u p
  let fl := pfld s p Reg.AUX_PORT_GEOM 28 16
  rset (setPort p { x with fval := false } u) (preg Reg.AUX_PORT_LAST p)
    (packMsb [(b2n (fl != 0 && decide (x.rows < fl)), 1), (b2n x.fLong, 1), (b2n x.fChk, 1), (0, 16), (x.rows, 13)])

/-- What follows a frame that has closed: the rows held back leave the engine and the exposure loop counts the frame. -/
theorem companionFrameEnd_step {s : State} {p : Nat} (ws : List Nat) (hlen : p < s.aux.ports.length) (hconf : configured s p = true)
    (hup : up s (0x50000 + p) = true) (hfval : (portOf s p).fval = true) (hev : eventsTaken s = true) :
    PortStep lineSide p (frameClosed p ws s) (companionFrameEnd p ws s) ∧
      ((portOf s p).rows < pfld s p Reg.AUX_PORT_GEOM 28 16 → eventPending (companionFrameEnd p ws s) 0x501 = true) := by
  obtain ⟨hdone, -⟩ := lineDone_ends ws hlen
  unfold companionFrameEnd
  extract_lets x0 s1 x fl short s2 s3 s4
  rw [if_neg (by simp [hconf, hup, x0, hfval])]
  have h3 : PortStep lineSide p (frameClosed p ws s) s3 :=
    .ite (.raise _ _ _ _ _ (.rset _ (frames_ne_preg (by decide) p) (.refl ..))) (.refl ..)
  have h4 : PortStep lineSide p s3 s4 := .ite (.refl ..) (flushCarry_step p s3)
  have hend := h4.trans (loopCount_step p s4)
  refine ⟨h3.trans hend, fun hrows => hend.pending _ ?_⟩
  have hshort : short = true := by
    have hsame : x.rows = (portOf s p).rows := congrArg Prod.snd hdone.view
    simp only [short, fl, hsame, bne_iff_ne, Bool.and_eq_true, decide_eq_true_eq]
    omega
  have hrst : s1.rst = s.rst := (Laws.within_lineDone p ws s).rst rfl
  have hclosed : s2.rst = s1.rst := rset_rst ..
  simp only [s3, hshort, if_true]
  exact raiseAux_counted_eventPending _ _ _ _ _ _ _ _ (hclosed.trans hrst) hev

/-- R276, R280: FVAL falls on a configured port. -/
theorem companionFrameEnd_closes_frame (s : State) (p : Nat) (ws : List Nat) (hlen : s.aux.ports.length = 2)
    (hconf : configured s p = true) (hup : up s (0x50000 + p) = true) (hfval : (portOf s p).fval = true)
    (hev : eventsTaken s = true) :
    completes (.companionFrameEnd p ws) s (fun t => (portOf t p).fval = false ∧ (portOf t p).cur = none ∧
      ((portOf s p).rows < pfld s p Reg.AUX_PORT_GEOM 28 16 → eventPending t 0x501 = true) ∧
      (∀ q, q ≠ p → portSettled (portOf s q) = true → portOf t q = portOf s q)) := by
  have hp : p < s.aux.ports.length := hlen ▸ configured_lt hconf
  obtain ⟨hdone, hcur⟩ := lineDone_ends ws hp
  obtain ⟨hstep, hshort⟩ := companionFrameEnd_step ws hp hconf hup hfval hev
  have hport : portOf (frameClosed p ws s) p = { portOf (lineDone p ws s) p with fval := false } :=
    (portOf_congr (rset_aux ..) p).trans (portOf_setPort_same _ (by rwa [hdone.length]))
  have hothers : ∀ q, q ≠ p → portOf (frameClosed p ws s) q = portOf s q := fun q hq =>
    (portOf_congr (rset_aux ..) q).trans ((portOf_setPort_other _ (lineDone p ws s) hq).trans (hdone.others q hq))
  obtain ⟨hfval', -, -, -, -, hcur', -, -⟩ := fields_of_lineSide
    ((lineSide_afterCompanion (companionFrameEnd p ws s) p).trans (hstep.view.trans (congrArg lineSide hport)))
  refine ⟨afterCompanion (companionFrameEnd p ws s), rfl, hfval', hcur'.trans hcur, fun hrows => ?_, fun q hq hsettled => ?_⟩
  · exact eventPending_afterCompanion (hshort hrows)
  · exact (hstep.other_port_kept q hq (by rwa [hothers q hq])).trans (hothers q hq)

/-- Port `x` as the line that begins at `now` finds it. -/
def lineBegun (now : Nat) (x : AuxPort) : AuxPort :=
  { x with rows := x.rows + 1, lvals := x.lvals + 1, tL := some now, silent := false, cur := none }

theorem ringHeld_of_room {s : State} {x y : AuxPort} (hroom : (ringLines s x).length < 32) (hring : y.ring = x.ring)
    (hcur : y.cur = none) : ringHeld s y < 32 := by
  have hsame : ringLines s y = ringLines s x := by rw [ringLines, ringLines, hring]
  rw [ringHeld, hsame, hcur]
  exact (Nat.min_le_right ..).trans_lt hroom

section
variable {s : State} {p : Nat} (hconf : configured s p = true) (hup : up s (0x50000 + p) = true)
include hconf hup

/-- A line of a frame that expects it, with a free slot in the ring, is in progress after LVAL has risen (R289, R294). -/
theorem companionLineStart_takes_slot (hp : p < s.aux.ports.length) (hfval : (portOf s p).fval = true)
    (hrows : pfld s p Reg.AUX_PORT_GEOM 28 16 = 0 ∨ (portOf s p).rows < pfld s p Reg.AUX_PORT_GEOM 28 16)
    (hdrop : ((portOf s p).frames, (portOf s p).rows / 16) ∉ (portOf s p).drops)
    (hroom : (ringLines s (portOf s p)).length < 32) :
    ∃ u l, PortStep lineSide p (setPort p (lineBegun s.t (portOf s p)) s) u ∧
      companionLineStart p s = modPort p (fun x => { x with cur := some l }) u ∧
      l.frame = (portOf s p).frames ∧ l.row = (portOf s p).rows ∧ l.words = [] ∧ l.done = false := by
  unfold companionLineStart
  extract_lets x r fl fast s1 _ _ ts lc s2 y line held s3
  have h1 : PortStep lineSide p (setPort p (lineBegun s.t (portOf s p)) s) s1 :=
    .ite (.raise _ _ _ _ _ (ctxApply_step ..)) (ctxApply_step ..)
  have hfree := Laws.within_lamCap s1 ts
  have h2 : PortStep lineSide p (setPort p (lineBegun s.t (portOf s p)) s) s2 :=
    h1.trans (.of_keeps (hfree.aux rfl) (hfree.evt rfl) (hfree.regs rfl))
  obtain ⟨-, -, -, -, -, hcur, hring, -⟩ := fields_of_lineSide (h2.view.trans (congrArg lineSide (portOf_setPort_same _ hp)))
  have hheld : held < 32 := ringHeld_of_room hroom hring hcur
  have hexpected : ¬ (fl != 0 && decide (fl ≤ r)) = true := by
    simp only [fl, r, x, Bool.and_eq_true, bne_iff_ne, decide_eq_true_eq]
    omega
  rw [if_neg (by simp [hconf, hup]), if_neg (by simp [x, hfval]), if_neg hexpected, if_neg (by simpa using hdrop), if_pos hheld]
  exact ⟨s3, line, h2.rset _ (frames_ne_preg (by decide) p), rfl, rfl, rfl, rfl, rfl⟩

/-- LVAL outside a frame is counted and raises 0x505. -/
theorem companionLineStart_outside_frame (hfval : (portOf s p).fval = false) :
    companionLineStart p s = raiseAux 0x505 (0x50000 + p) p [] (rsat s (preg Reg.AUX_PORT_RING p) 15 0 1) := by
  unfold companionLineStart
  extract_lets x
  rw [if_neg (by simp [hconf, hup]), if_pos (by simp [x, hfval])]

end

/-- R289, R294: LVAL rises in a frame. -/
theorem companionLineStart_begins_line (s : State) (p : Nat) (hlen : s.aux.ports.length = 2) (hconf : configured s p = true)
    (hup : up s (0x50000 + p) = true) (hfval : (portOf s p).fval = true)
    (hrows : pfld s p Reg.AUX_PORT_GEOM 28 16 = 0 ∨ (portOf s p).rows < pfld s p Reg.AUX_PORT_GEOM 28 16)
    (hdrop : ((portOf s p).frames, (portOf s p).rows / 16) ∉ (portOf s p).drops)
    (hroom : (ringLines s (portOf s p)).length < 32) :
    completes (.companionLineStart p) s (fun t => (portOf t p).rows = (portOf s p).rows + 1 ∧
      (portOf t p).lvals = (portOf s p).lvals + 1 ∧ (portOf t p).silent = false ∧ (portOf t p).ring = (portOf s p).ring ∧
      (∃ l, (portOf t p).cur = some l ∧ l.frame = (portOf s p).frames ∧ l.row = (portOf s p).rows ∧ l.words = [] ∧
      l.done = false) ∧
      (∀ q, q ≠ p → portSettled (portOf s q) = true → portOf t q = portOf s q)) := by
  have hp : p < s.aux.ports.length := hlen ▸ configured_lt hconf
  obtain ⟨u, l, hstep, hstart, hline⟩ := companionLineStart_takes_slot hconf hup hp hfval hrows hdrop hroom
  obtain ⟨-, -, hlvals, -, hrows', -, hring, hsilent⟩ :=
    fields_of_lineSide (hstep.view.trans (congrArg lineSide (portOf_setPort_same _ hp)))
  have hp' : p < u.aux.ports.length := by
    rw [hstep.length]
    exact hp.trans_eq (List.length_set ..).symm
  have hport : portOf (companionLineStart p s) p = { portOf u p with cur := some l } := by rw [hstart, portOf_modPort_same _ hp']
  have hothers : ∀ q, q ≠ p → portOf (companionLineStart p s) q = portOf s q := fun q hq => by
    rw [hstart, modPort, portOf_setPort_other _ u hq, hstep.others q hq, portOf_setPort_other _ s hq]
  obtain ⟨-, -, hlvals2, -, hrows2, hcur2, hring2, hsilent2⟩ := fields_of_lineSide
    ((lineSide_afterCompanion (companionLineStart p s) p).trans (congrArg lineSide hport))
  refine ⟨afterCompanion (companionLineStart p s), rfl, hrows2.trans hrows', hlvals2.trans hlvals, hsilent2.trans hsilent,
    hring2.trans hring, ⟨l, hcur2, hline⟩, fun q hq hsettled => ?_⟩
  exact (portOf_afterCompanion_settled (by rwa [hothers q hq])).trans (hothers q hq)

/-- R278: LVAL rises outside a frame. -/
theorem companionLineStart_ignores_line (s : State) (p : Nat) (hlen : s.aux.ports.length = 2) (hconf : configured s p = true)
    (hup : up s (0x50000 + p) = true) (hfval : (portOf s p).fval = false) (hev : eventsTaken s = true)
    (hsettled : ∀ q, q < 2 → portSettled (portOf s q) = true) :
    completes (.companionLineStart p) s (fun t => t.aux = s.aux ∧ eventPending t 0x505 = true) := by
  refine ⟨afterCompanion (companionLineStart p s), rfl, ?_⟩
  rw [companionLineStart_outside_frame hconf hup hfval]
  set u := raiseAux 0x505 (0x50000 + p) p [] (rsat s (preg Reg.AUX_PORT_RING p) 15 0 1)
  have haux : u.aux = s.aux := raise_aux ..
  refine ⟨(aux_afterCompanion_settled (by rwa [haux]) (fun q hq => ?_)).trans haux, ?_⟩
  · rw [portOf_congr haux]
    exact hsettled q hq
  · exact eventPending_afterCompanion (raiseAux_counted_eventPending _ _ _ _ _ _ _ _ rfl hev)

section
variable {s : State} {p : Nat} {ws : List Nat} {l : AuxLine} (hlen : s.aux.ports.length = 2) (hconf : configured s p = true)
  (hup : up s (0x50000 + p) = true) (hcur : (portOf s p).cur = some l) (hle : ws.length ≤ lineWords s p)
  (htrailer : ws.length < lineWords s p ∨ pcfg s p 23 23 = 0) (hdrop : (l.frame, l.row / 16) ∉ (portOf s p).drops)
  (hroom : (ringLines s (portOf s p)).length < 32)
include hlen hconf hup hcur hle htrailer hdrop hroom

/-- A line without a trailer to check and without a word in excess ends on port `p` (R279, R280, R294): it enters the ring, and the
events are those of its judgement. -/
theorem companionLineEnd_enters_ring : (companionLineEnd p ws s).evt = (lineJudged p ws s).evt ∧
    portOf (companionLineEnd p ws s) p = { portOf s p with
      cur := none, ring := (portOf s p).ring ++ [receivedLine s p ws l] } ∧
    ∀ q, q ≠ p → portOf (companionLineEnd p ws s) q = portOf s q := by
  have hp : p < s.aux.ports.length := hlen ▸ configured_lt hconf
  have hjudged := lineJudged_step p ws s
  have hport : portOf (lineJudged p ws s) p = { portOf s p with cur := none } := hjudged.view.trans (portOf_setPort_same _ hp)
  have hp' : p < (lineJudged p ws s).aux.ports.length := by
    rw [hjudged.length, (lineTakenOff_step p s).length]
    exact hp
  have hroom' : (ringLines (lineJudged p ws s) (portOf (lineJudged p ws s) p)).length < 32 := by
    rwa [hport, ringLines, lineJudged_t]
  obtain ⟨v, hv⟩ := ringEntered_of_room (s := s) (receivedLine s p ws l) hp' hroom'
  have hend : companionLineEnd p ws s = rset (modPort p (fun x => { x with ring := x.ring ++ [receivedLine s p ws l] })
      (lineJudged p ws s)) (preg Reg.AUX_PORT_RING p) v := by
    rw [companionLineEnd, if_pos (by simp [hconf, hup]), lineDone_enters_ring hcur hle htrailer hdrop, hv]
  rw [hend]
  refine ⟨rfl, ?_, fun q hq => ?_⟩
  · rw [portOf_congr (rset_aux ..), portOf_modPort_same _ hp', hport]
  · exact (portOf_setPort_other _ _ hq).trans ((hjudged.others q hq).trans ((lineTakenOff_step p s).others q hq))

end

/-- R279, R294: a line ends with all its words. -/
theorem companionLineEnd_of_whole_line (s : State) (p : Nat) (ws : List Nat) (l : AuxLine) (hlen : s.aux.ports.length = 2)
    (hconf : configured s p = true) (hup : up s (0x50000 + p) = true) (hsettled : ∀ q, q < 2 → portSettled (portOf s q) = true)
    (hcur : (portOf s p).cur = some l) (htrailer : pcfg s p 23 23 = 0) (hws : ws.length = lineWords s p)
    (hdrop : (l.frame, l.row / 16) ∉ (portOf s p).drops) (hroom : (ringLines s (portOf s p)).length < 32) :
    completes (.companionLineEnd p ws) s (fun t => (portOf t p).cur = none ∧
      (portOf t p).ring = (portOf s p).ring ++ [{ l with
        words := ws.map (· % 2 ^ 20), marks := 0, done := true, short := pcfg s p 21 20 == 1 && l.row % 2 == 1 }] ∧
      t.evt = s.evt ∧ (∀ q, q ≠ p → portSettled (portOf s q) = true → portOf t q = portOf s q)) := by
  have hp : p < 2 := configured_lt hconf
  obtain ⟨hevt, hport, hothers⟩ := companionLineEnd_enters_ring hlen hconf hup hcur hws.le (.inr htrailer) hdrop hroom
  have hjudged : lineJudged p ws s = lineTakenOff p s := if_neg hws.not_lt
  have hline : receivedLine s p ws l = { l with
      words := ws.map (· % 2 ^ 20), marks := 0, done := true, short := pcfg s p 21 20 == 1 && l.row % 2 == 1 } := by
    simp [receivedLine, hws, b2n]
  have hdue : ∀ q, q < 2 → (portOf (companionLineEnd p ws s) q).loopDue = none := fun q hq => by
    obtain ⟨hq', -⟩ := portSettled_iff.mp (hsettled q hq)
    by_cases h : q = p
    · rw [h] at hq' ⊢
      rw [hport]
      exact hq'
    · rwa [hothers q h]
  obtain ⟨-, -, -, -, -, hcur', hring', -⟩ := fields_of_lineSide
    ((lineSide_afterCompanion (companionLineEnd p ws s) p).trans (congrArg lineSide hport))
  refine ⟨afterCompanion (companionLineEnd p ws s), rfl, hcur', hline ▸ hring', ?_, fun q hq hs => ?_⟩
  · rw [afterCompanion_of_not_due hdue]
    exact hevt.trans ((congrArg State.evt hjudged).trans rfl)
  · exact (portOf_afterCompanion_settled (by rwa [hothers q hq])).trans (hothers q hq)

/-- R280, R294: a line ends short. -/
theorem companionLineEnd_of_short_line (s : State) (p : Nat) (ws : List Nat) (l : AuxLine) (hlen : s.aux.ports.length = 2)
    (hconf : configured s p = true) (hup : up s (0x50000 + p) = true) (hcur : (portOf s p).cur = some l)
    (hws : ws.length < lineWords s p) (hev : eventsTaken s = true) (hdrop : (l.frame, l.row / 16) ∉ (portOf s p).drops)
    (hroom : (ringLines s (portOf s p)).length < 32) :
    completes (.companionLineEnd p ws) s (fun t => (portOf t p).cur = none ∧ eventPending t 0x503 = true ∧
      (∃ l1, (portOf t p).ring = (portOf s p).ring ++ [l1] ∧ l1.frame = l.frame ∧ l1.row = l.row ∧ l1.marks = 2 ∧
        l1.words.length = lineWords s p ∧ l1.words.take ws.length = ws.map (· % 2 ^ 20))) := by
  obtain ⟨hevt, hport, -⟩ := companionLineEnd_enters_ring hlen hconf hup hcur hws.le (.inl hws) hdrop hroom
  have hraised : eventPending (lineJudged p ws s) 0x503 = true := by
    rw [lineJudged, if_pos hws]
    exact raiseAux_counted_eventPending _ _ _ _ _ _ _ _ rfl hev
  obtain ⟨-, -, -, -, -, hcur', hring', -⟩ := fields_of_lineSide
    ((lineSide_afterCompanion (companionLineEnd p ws s) p).trans (congrArg lineSide hport))
  refine ⟨afterCompanion (companionLineEnd p ws s), rfl, hcur', eventPending_afterCompanion ((eventPending_of_evt hevt _).trans hraised),
    receivedLine s p ws l, hring', rfl, rfl, ?_, ?_, ?_⟩
  · simp [receivedLine, hws, b2n]
  · simp only [receivedLine, List.length_append, List.length_map, List.length_replicate]
    omega
  · rw [← List.length_map (as := ws) (· % 2 ^ 20)]
    exact List.take_left

/-- Settles O22: the clauses, each proved above, in their order. -/
theorem companionFramesAndLines : Obligations.CompanionFramesAndLines :=
  ⟨companionFrameStart_opens_frame, companionFrameEnd_closes_frame, companionLineStart_begins_line, companionLineStart_ignores_line,
    companionLineEnd_of_whole_line, companionLineEnd_of_short_line⟩

end Sys2Proof.Proofs
end

section
/-! PROOFS. Two statements of the companion bus that fail where the companion does not acknowledge its address at the ID read of
discovery (R299 step 2, R498, log entry 178). Each with a state that the model evaluates. -/

namespace Sys2Proof.Proofs

open Sys2Proof Sys2Proof.Machine

/-- A running device in split mode with companion port 0 configured, which stands as given; every other register is at reset, so that
AUX_BUS_ID names no ID register. -/
def withCompanion (x : AuxPort) : State :=
  withRegister Reg.AUX_CFG 0x21 { runningDevice with aux.ports := [x, AuxPort.reset] }

/-! ### Discovery without an ID register -/

/-- Also where the ID is not to be checked, discovery notes the missing acknowledge. -/
theorem discovery_notes_missing_acknowledge :
    (portOf (epochsRetire (auxSettle (discovery 0 0 true 0 false (withCompanion AuxPort.reset)))) 0).ident = some (0, false) := by
  decide +kernel

/-- Refutes O23: its third clause says that no answer is kept where AUX_BUS_ID names no ID register, whether the companion acknowledges
its address or not. A companion that does not is kept as one, and its first transaction fails. -/
theorem not_companionStripesAndDiscovery : ¬ Obligations.CompanionStripesAndDiscovery := by
  rintro ⟨-, -, hdiscovery, -⟩
  have h := hdiscovery (withCompanion AuxPort.reset) 0 0 0 false rfl (by decide +kernel) (by decide +kernel) rfl (by decide)
    (by decide +kernel)
  obtain ⟨-, -, hident, -⟩ := completes_next h rfl
  rw [discovery_notes_missing_acknowledge, if_pos (by decide +kernel)] at hident
  cases hident

/-! ### The ID read that is not acknowledged -/

/-- Port 0 at the ID read of discovery, which its companion is not going to acknowledge. -/
def readingSilentId : AuxPort := { AuxPort.reset with bus := 3, cure := 0, ident := some (0, false) }

/-- The failed ID read ends discovery at once: the companion is absent and the bus is idle. -/
theorem cbDone_of_unacknowledged_id_frees_bus :
    (portOf (epochsRetire (auxSettle (cbDone 0 false (withCompanion readingSilentId)))) 0).bus = 0 := by decide +kernel

/-- Refutes O24: its sixth clause says that a transaction that fails for the first time is repeated, whichever it is. The ID read of
discovery is not: an address that is not acknowledged there declares the companion absent. -/
theorem not_companionContextsAndBus : ¬ Obligations.CompanionContextsAndBus := by
  rintro ⟨-, -, -, -, -, hfails, -⟩
  have h := hfails (withCompanion readingSilentId) 0 rfl (by decide) (by decide +kernel) (by decide) rfl (by decide +kernel)
  obtain ⟨hport, -⟩ := completes_next h rfl
  have hbus := congrArg AuxPort.bus hport
  rw [cbDone_of_unacknowledged_id_frees_bus] at hbus
  cases hbus

end Sys2Proof.Proofs
end

section
/-! PROOFS. One lane set under the operations of the lanes (R315-R341): what its neighbours keep, what an operation leaves of its own
state, and the events that stay pending. -/

namespace Sys2Proof.Proofs

open Sys2Proof Sys2Proof.Machine

/-! ### One lane set changes -/

theorem laneSet_putSet (s : State) (n k : Nat) (x : LaneSet) : laneSet (putSet n x s) k = if k = n then x else laneSet s k :=
  mgetD_mput s.lnk.sets n k x LaneSet.reset

theorem putSet_regs (n : Nat) (x : LaneSet) (s : State) : (putSet n x s).regs = s.regs := rfl

theorem putSet_evt (n : Nat) (x : LaneSet) (s : State) : (putSet n x s).evt = s.evt := rfl

theorem laneSet_putSet_same (s : State) (n : Nat) (x : LaneSet) : laneSet (putSet n x s) n = x :=
  (laneSet_putSet s n n x).trans (if_pos rfl)

theorem laneSet_putSet_other (s : State) {n k : Nat} (x : LaneSet) (h : k ≠ n) : laneSet (putSet n x s) k = laneSet s k :=
  (laneSet_putSet s n k x).trans (if_neg h)

theorem laneSet_setMod_same (s : State) (n : Nat) (f : LaneSet → LaneSet) : laneSet (setMod n f s) n = f (laneSet s n) :=
  laneSet_putSet_same ..

theorem laneSet_congr {s t : State} (h : t.lnk.sets = s.lnk.sets) (n : Nat) : laneSet t n = laneSet s n := by
  rw [laneSet, laneSet, h]

/-- From `s` to `u` an operation of lane set `n` has passed that leaves the other sets, the view `g` of set `n`, the events that were
pending and the state of the resets. -/
structure SetStep {α : Type} (g : LaneSet → α) (n : Nat) (s u : State) : Prop where
  view : g (laneSet u n) = g (laneSet s n)
  others : ∀ m, m ≠ n → laneSet u m = laneSet s m
  pending : ∀ c, eventPending s c = true → eventPending u c = true
  rst : u.rst = s.rst

namespace SetStep

variable {α β : Type} {g : LaneSet → α} {n : Nat} {s u v : State}

theorem refl (g : LaneSet → α) (n : Nat) (s : State) : SetStep g n s s := ⟨rfl, fun _ _ => rfl, fun _ h => h, rfl⟩

theorem trans (h : SetStep g n s u) (k : SetStep g n u v) : SetStep g n s v where
  view := k.view.trans h.view
  others m hm := (k.others m hm).trans (h.others m hm)
  pending c hc := k.pending c (h.pending c hc)
  rst := k.rst.trans h.rst

/-- A view that another one determines is left too. -/
theorem mono {g' : LaneSet → β} (hg : ∀ x y, g x = g y → g' x = g' y) (h : SetStep g n s u) : SetStep g' n s u :=
  ⟨hg _ _ h.view, h.others, h.pending, h.rst⟩

/-- An operation that leaves the whole set leaves every view of it. -/
theorem all (g : LaneSet → α) (h : SetStep id n s u) : SetStep g n s u := h.mono fun _ _ => congrArg g

theorem eventsTaken (h : SetStep g n s u) (hev : Machine.eventsTaken s = true) : Machine.eventsTaken u = true :=
  (eventsTaken_of_rst h.rst).trans hev

theorem inReset (h : SetStep g n s u) (fid : Nat) : Machine.inReset u fid = Machine.inReset s fid := by
  rw [Machine.inReset, Machine.inReset, h.rst]

/-- An operation that leaves the lane sets and the events. -/
theorem of_keeps (hsets : u.lnk.sets = s.lnk.sets) (hevt : u.evt = s.evt) (hrst : u.rst = s.rst) : SetStep g n s u where
  view := by rw [laneSet_congr hsets]
  others m _ := laneSet_congr hsets m
  pending c hc := by rwa [eventPending_of_evt hevt]
  rst := hrst

theorem raise (code fid : Nat) (args : List Nat) (ctag coord : Nat) (h : SetStep g n s u) :
    SetStep g n s (Machine.raise code fid args ctag coord u) := h.trans {
  view := by rw [laneSet_congr (congrArg Lnk.sets (raise_lnk ..))]
  others := fun m _ => laneSet_congr (congrArg Lnk.sets (raise_lnk ..)) m
  pending := fun _ hc => raise_keeps_pending _ _ _ _ _ hc
  rst := raise_rst .. }

theorem raiseIf (b : Bool) (code fid : Nat) (args : List Nat) (ctag coord : Nat) (h : SetStep g n s u) :
    SetStep g n s (Machine.raiseIf b code fid args ctag coord u) := by
  unfold Machine.raiseIf
  split
  · exact h.raise ..
  · exact h

theorem rset (a v : Nat) (h : SetStep g n s u) : SetStep g n s (Machine.rset u a v) := h.trans (of_keeps rfl rfl rfl)

theorem lnkMod {f : Lnk → Lnk} (hf : (f u.lnk).sets = u.lnk.sets) (h : SetStep g n s u) : SetStep g n s (Machine.lnkMod f u) :=
  h.trans (of_keeps hf rfl rfl)

theorem putSet {x : LaneSet} (hx : g x = g (laneSet u n)) (h : SetStep g n s u) : SetStep g n s (Machine.putSet n x u) := h.trans {
  view := by rw [laneSet_putSet_same, hx]
  others := fun _ hm => laneSet_putSet_other u x hm
  pending := fun _ hc => hc
  rst := rfl }

/-- Two answers for set `n` that a view does not tell apart. -/
theorem of_putSet {x y : LaneSet} (h : g y = g x) : SetStep g n (Machine.putSet n x s) (Machine.putSet n y s) where
  view := by rw [laneSet_putSet_same, laneSet_putSet_same, h]
  others m hm := (laneSet_putSet_other s y hm).trans (laneSet_putSet_other s x hm).symm
  pending _ hc := hc
  rst := rfl

theorem ite {c : Prop} [Decidable c] (hu : SetStep g n s u) (hv : SetStep g n s v) : SetStep g n s (if c then u else v) := by
  split <;> assumption

theorem foldl {f : State → β → State} (hf : ∀ u b, SetStep g n u (f u b)) (l : List β) (h : SetStep g n s u) :
    SetStep g n s (l.foldl f u) := by
  induction l generalizing u with
  | nil => exact h
  | cons b l ih => exact ih (h.trans (hf u b))

end SetStep

/-! ### Units that are lost, and reports -/

theorem snapRowLost_step (k q : Nat) (s : State) : SetStep id k s (snapRowLost q s) :=
  .ite (.refl ..) (.raise _ _ _ _ _ (.rset _ _ (.of_keeps rfl rfl rfl)))

theorem unitLost_step (k n c : Nat) (snap : Option Nat) (s : State) : SetStep id k s (unitLost n c snap s) := by
  have hcount : SetStep id k s (rsat s (Reg.LNK_SET_DROP + 0x80 * n + 4 * c) 31 0 1) := .rset _ _ (.refl ..)
  cases snap with
  | none => exact hcount
  | some q => exact hcount.trans (snapRowLost_step k q _)

theorem queuesLost_step (k n : Nat) (q : List (List LUnit)) (s : State) : SetStep id k s (queuesLost n q s) := by
  unfold queuesLost
  refine .foldl (fun u p => ?_) _ (.refl ..)
  exact .foldl (fun v x => unitLost_step ..) _ (.refl ..)

/-- Event 0x70D leaves every view that the count of packets sent again is no part of. -/
theorem resendReport_step {α : Type} {g : LaneSet → α} (hg : ∀ x : LaneSet, g { x with reDone := 0 } = g x) (n : Nat) (s : State) :
    SetStep g n s (resendReport n s) := by
  unfold resendReport
  exact .ite (.refl ..) (.raise _ _ _ _ _ (.putSet (hg _) (.refl ..)))

/-! ### What goes on the wire (R315, R317, R351) -/

theorem wireAll_step (k lane : Nat) (ps : List (Nat × Nat × Nat)) (s : State) : SetStep id k s (wireAll lane ps s) := .of_keeps rfl rfl rfl

theorem wireWord_step (k lane : Nat) (w : BitVec 128) (s : State) : SetStep id k s (wireWord lane w s) := wireAll_step ..

theorem wirePrbs_step (k lane : Nat) (s : State) : SetStep id k s (wirePrbs lane s) := .of_keeps rfl rfl rfl

theorem wireIdle_step (k lane : Nat) (s : State) : SetStep id k s (wireIdle lane s) := .ite (wirePrbs_step ..) (wireAll_step ..)

/-! ### STATUS packets and planned moves (R327, R337) -/

/-- What neither STATUS packets nor planned moves change of a set. -/
def mapSide (x : LaneSet) : LaneSet := { x with wants := [], planned := none, maps := [], status := [], lEff := 0, statusT := 0 }

theorem fields_of_mapSide {x y : LaneSet} (h : mapSide x = mapSide y) : x.stage = y.stage ∧ x.down = y.down ∧ x.slots = y.slots ∧
    x.spares = y.spares ∧ x.failed = y.failed ∧ x.mapSeq = y.mapSeq ∧ x.faults = y.faults ∧ x.drop = y.drop ∧ x.lossDue = y.lossDue := by
  injection h
  simp only [*, and_self]

/-- A set that is up queues its STATUS (R327). -/
theorem sendStatus_up {n : Nat} {s : State} (cause : Nat) (hst : (laneSet s n).stage = 2) (hdown : (laneSet s n).down = false) :
    ∃ le, (cause = 0 → le = (laneSet s n).lEff) ∧ sendStatus n cause s = putSet n { laneSet s n with
      status := (laneSet s n).status ++ [statusWord s n (cause == 6) cause le], lEff := le, statusT := s.t } s := by
  have hup : ¬((laneSet s n).down = true ∨ (laneSet s n).stage ≠ 2) := by simp [hst, hdown]
  exact ⟨_, fun h => if_pos (.inl h), if_neg hup⟩

theorem sendStatus_step (n cause : Nat) (s : State) : SetStep mapSide n s (sendStatus n cause s) := by
  unfold sendStatus
  exact .ite (.refl ..) (.putSet rfl (.refl ..))

theorem beginWant_step (n : Nat) (s : State) : SetStep mapSide n s (beginWant n s) := by
  unfold beginWant
  dsimp only
  split
  · split
    · exact .putSet rfl (.refl ..)
    · exact .raiseIf _ _ _ _ _ _ (.putSet rfl (.refl ..))
  · exact .refl ..

end Sys2Proof.Proofs
end

section
/-! PROOFS. Data rows and ALIGN rows of a lane set, and the map changes that ALIGN rows end with (R317, R319, R334). -/

namespace Sys2Proof.Proofs

open Sys2Proof Sys2Proof.Machine

/-! ### Packets (R321, R326, R336) -/

/-- What the packets of a set leave of it: its place in the cycle of rows, SWN and its map. -/
def rowSide (x : LaneSet) : Nat × Nat × List Nat × List Nat := (x.rows, x.swn, x.slots, x.spares)

theorem noteAge_step (k n c t : Nat) (s : State) : SetStep id k s (noteAge n c t s) := .ite (.refl ..) (.rset _ _ (.refl ..))

theorem launch_step (n : Nat) (p : LPkt) (s : State) : SetStep rowSide n s (launch n p s) := by
  unfold launch
  refine .ite (.putSet rfl (.refl ..)) (.ite ?_ ?_)
  · refine .trans ?_ (resendReport_step (fun _ => rfl) n _)
    exact .rset _ _ (.putSet rfl (.refl ..))
  · exact .rset _ _ (.putSet rfl (.refl ..))

/-- A packet is launched from a set from which it has been taken. -/
theorem launch_putSet_step {n : Nat} (p : LPkt) {x : LaneSet} {s : State} (hx : rowSide x = rowSide (laneSet s n)) :
    SetStep rowSide n s (launch n p (putSet n x s)) := .trans (.putSet hx (.refl ..)) (launch_step ..)

theorem launchClass_step {n c : Nat} {s t : State} (h : launchClass n c s = some t) : SetStep rowSide n s t := by
  unfold launchClass at h
  dsimp only at h
  split at h
  · cases h
    exact launch_putSet_step _ rfl
  · split at h
    · cases h
    · split at h
      · cases h
      · cases h
        refine .trans ?_ (launch_step ..)
        refine .trans ?_ ((noteAge_step ..).all _)
        exact .putSet rfl (.refl ..)

theorem startPacket_step (n i : Nat) (s : State) : SetStep rowSide n s (startPacket n i s) := by
  unfold startPacket
  dsimp only
  split
  · split
    · exact launch_putSet_step _ rfl
    · exact launch_putSet_step _ rfl
  · split
    · exact .lnkMod rfl (launch_putSet_step _ rfl)
    · split
      · next h => exact launchClass_step h
      · split
        · next h => exact launchClass_step h
        · split
          · next h => exact launchClass_step h
          · cases h : launchClass n 3 s with
            | none => exact .refl ..
            | some t => exact launchClass_step h

/-! ### Data rows (R317) -/

/-- What a slot with a word for it, or with none, leaves of its set. -/
def slotSide (x : LaneSet) : Nat × List Nat × List Nat := (x.rows, x.slots, x.spares)

/-- A slot sends one position: SWN goes on by one. -/
theorem slotWord_step (n i lane : Nat) (s : State) : SetStep slotSide n s (slotWord n i lane s) ∧
    (laneSet (slotWord n i lane s) n).swn = ((laneSet s n).swn + 1) % 2 ^ 48 := by
  obtain ⟨u, hu⟩ : ∃ u, u = if (laneSet s n).left.isEmpty && (laneSet s n).stage == 2 then startPacket n i s else s := ⟨_, rfl⟩
  have hstart : SetStep rowSide n s u := hu ▸ .ite (startPacket_step ..) (.refl ..)
  obtain ⟨x, w, hword, hside, hswn⟩ : ∃ (x : LaneSet) (w : BitVec 128),
      slotWord n i lane s = wireWord lane w (putSet n x (rwrap u (Reg.LNK_DT_COUNT + 0x20 * lane) 31 0 1)) ∧
      slotSide x = slotSide (laneSet u n) ∧ x.swn = ((laneSet u n).swn + 1) % 2 ^ 48 := by
    unfold slotWord
    rw [← hu]
    dsimp only
    split
    · exact ⟨_, _, rfl, rfl, rfl⟩
    · exact ⟨_, _, rfl, rfl, rfl⟩
  have hkept : (laneSet u n).swn = (laneSet s n).swn := congrArg (fun v => v.2.1) hstart.view
  have hcount : SetStep slotSide n s (rwrap u (Reg.LNK_DT_COUNT + 0x20 * lane) 31 0 1) :=
    .rset _ _ (hstart.mono fun _ _ h => congrArg (fun v => (v.1, v.2.2)) h)
  rw [hword]
  refine ⟨.trans (hcount.putSet (by exact hside)) ((wireWord_step ..).all _), ?_⟩
  calc (laneSet (putSet n x _) n).swn = x.swn := congrArg LaneSet.swn (laneSet_putSet_same ..)
    _ = ((laneSet s n).swn + 1) % 2 ^ 48 := by rw [hswn, hkept]

/-- The slots of a row, in their order, each send one position. -/
theorem foldl_slotWord_step (n : Nat) (lane : Nat → Nat) (l : List Nat) (s : State) :
    SetStep slotSide n s (l.foldl (fun s i => slotWord n i (lane i) s) s) ∧
      (l ≠ [] → (laneSet (l.foldl (fun s i => slotWord n i (lane i) s) s) n).swn = ((laneSet s n).swn + l.length) % 2 ^ 48) := by
  refine ⟨.foldl (fun u i => (slotWord_step n i (lane i) u).1) l (.refl ..), ?_⟩
  induction l generalizing s with
  | nil => exact fun h => absurd rfl h
  | cons i l ih =>
    intro _
    have hone := (slotWord_step n i (lane i) s).2
    cases l with
    | nil => exact hone
    | cons j l =>
      rw [List.foldl_cons, ih _ (List.cons_ne_nil _ _), hone, List.length_cons (as := j :: l), Nat.mod_add_mod]
      congr 1
      omega

/-- The state with the words of a row of set `n` sent. -/
def slotsSent (n : Nat) (s : State) : State :=
  (List.range (laneSet s n).slots.length).foldl (fun s' i => slotWord n i ((laneSet s n).slots.getD i 31) s') s

/-- The state with the positions of the spares sent too. -/
def rowSent (n : Nat) (s : State) : State := (laneSet s n).spares.foldl (fun s' l => wireIdle l s') (slotsSent n s)

theorem rowSent_step (n : Nat) (s : State) : SetStep slotSide n s (rowSent n s) := by
  unfold rowSent slotsSent
  refine .foldl (fun u l => (wireIdle_step n l u).all _) _ ?_
  exact (foldl_slotWord_step n _ _ s).1

theorem rowSent_swn {n : Nat} {s : State} (h : (laneSet s n).slots ≠ []) :
    (laneSet (rowSent n s) n).swn = ((laneSet s n).swn + (laneSet s n).slots.length) % 2 ^ 48 := by
  have hidle : SetStep id n (slotsSent n s) (rowSent n s) := .foldl (fun u l => wireIdle_step n l u) _ (.refl ..)
  have hsent := (foldl_slotWord_step n (fun i => (laneSet s n).slots.getD i 31) (List.range (laneSet s n).slots.length) s).2
  rw [List.length_range] at hsent
  exact (congrArg LaneSet.swn hidle.view).trans (hsent (by simpa using h))

theorem laneRowSend_eq {n : Nat} {s : State} (hst : (laneSet s n).stage ≠ 0) (hdown : (laneSet s n).down = false)
    (hslots : (laneSet s n).slots ≠ []) (hdue : alignDue (laneSet s n) = false) :
    laneRowSend n s = setMod n (fun y => { y with
      rows := y.rows + 1, hist := y.hist.filter (fun h => decide (s.t ≤ h.1 + 5100)) }) (rowSent n s) := by
  simp only [laneRowSend, hst, hdown, hslots, hdue, List.isEmpty_iff, Bool.false_eq_true, or_self, if_false]
  rfl

theorem laneRowSend_carries_words (s : State) (n : Nat) (hst : (laneSet s n).stage ≠ 0) (hdown : (laneSet s n).down = false)
    (hslots : (laneSet s n).slots ≠ []) (hdue : alignDue (laneSet s n) = false) :
    completes (.laneRowSend n) s (fun t => (laneSet t n).rows = (laneSet s n).rows + 1 ∧
      (laneSet t n).swn = ((laneSet s n).swn + (laneSet s n).slots.length) % 2 ^ 48 ∧
      (laneSet t n).slots = (laneSet s n).slots ∧ (laneSet t n).spares = (laneSet s n).spares ∧
      (∀ m, m ≠ n → laneSet t m = laneSet s m)) := by
  have hrow := rowSent_step n s
  refine ⟨laneRowSend n s, rfl, ?_⟩
  beta_reduce
  rw [laneRowSend_eq hst hdown hslots hdue, laneSet_setMod_same]
  refine ⟨congrArg (fun v => v.1 + 1) hrow.view, rowSent_swn hslots, congrArg (fun v => v.2.1) hrow.view,
    congrArg (fun v => v.2.2) hrow.view, fun m hm => ?_⟩
  exact (laneSet_putSet_other _ _ hm).trans (hrow.others m hm)

/-! ### ALIGN rows (R319) -/

theorem settleLanes_step (n : Nat) (s : State) : SetStep id n s (settleLanes n s) := by
  unfold settleLanes
  exact .foldl (fun u l => .rset _ _ (.refl ..)) _ (.lnkMod rfl (.refl ..))

/-- An ALIGN row is the map change that it ends with, its positions on the wire and a new count of rows. -/
theorem alignRow_eq {n : Nat} {s : State} (hst : (laneSet s n).stage ≠ 0) (hdown : (laneSet s n).down = false)
    (hdue : alignDue (laneSet s n) = true) :
    ∃ u, SetStep id n (changeMap n s) u ∧ alignRow n s = setMod n (fun z => { z with rows := 0 }) u := by
  simp only [alignRow, hst, hdown, hdue, Bool.false_eq_true, not_true, or_self, if_false]
  refine ⟨_, ?_, rfl⟩
  refine .foldl (fun u l => .ite (wirePrbs_step ..) (wireAll_step ..)) _ (.foldl (fun u i => wireAll_step ..) _ ?_)
  exact settleLanes_step ..

theorem alignRow_keeps_map (s : State) (n : Nat) (hst : (laneSet s n).stage ≠ 0) (hdown : (laneSet s n).down = false)
    (hdue : alignDue (laneSet s n) = true) (hf : (laneSet s n).faults = []) (hp : (laneSet s n).planned = none) :
    completes (.alignRow n) s (fun t => laneSet t n = { laneSet s n with rows := 0 } ∧ (∀ m, m ≠ n →
      laneSet t m = laneSet s m)) := by
  have hchange : changeMap n s = s := by simp [changeMap, hf, hp]
  obtain ⟨u, hsent, hrow⟩ := alignRow_eq hst hdown hdue
  have hview : laneSet u n = laneSet (changeMap n s) n := hsent.view
  refine ⟨alignRow n s, rfl, ?_⟩
  beta_reduce
  rw [hrow, laneSet_setMod_same, hview, hchange]
  exact ⟨rfl, fun m hm => (laneSet_putSet_other _ _ hm).trans ((hsent.others m hm).trans (by rw [hchange]))⟩

/-! ### The map after a fault (R334) -/

theorem alignDue_of_fault {x : LaneSet} {m : MapChange} (h : x.faults = [m]) : alignDue x = true := by simp [alignDue, h]

/-- The state in which the failed lane of `m` has left the map of set `n`, under the next MAP_SEQ. -/
def faultMapped (n : Nat) (m : MapChange) (s : State) : State :=
  setMod n (fun y => { y with mapSeq := (y.mapSeq + 1) % 16, faults := [] }) (applyFault n m s)

/-- Beyond the new map, the map change of a fault queues packets and takes up planned moves again. -/
theorem changeMap_fault_step {n : Nat} {s : State} {m : MapChange} (hf : (laneSet s n).faults = [m])
    (hslots : (laneSet (applyFault n m s) n).slots ≠ []) : SetStep mapSide n (faultMapped n m s) (changeMap n s) := by
  simp only [changeMap, hf, List.isEmpty_cons, Bool.not_false, if_true, List.foldl_cons, List.foldl_nil, laneSet_setMod_same,
    List.isEmpty_iff, hslots, if_false]
  refine .trans ?_ (beginWant_step ..)
  refine .trans ?_ (sendStatus_step ..)
  exact .of_putSet rfl

/-- What an ALIGN row after one fault leaves, where the fault answers with a raise after a change of the set to `x`. -/
theorem alignRow_after_fault {n code fid ctag coord : Nat} {args : List Nat} {s : State} {m : MapChange} {x : LaneSet}
    (hst : (laneSet s n).stage ≠ 0) (hdown : (laneSet s n).down = false) (hf : (laneSet s n).faults = [m])
    (hfault : applyFault n m s = raise code fid args ctag coord (putSet n x s)) (hx : x.slots ≠ []) (hev : eventsTaken s = true) :
    ({ mapSide (laneSet (alignRow n s) n) with rows := 0 } : LaneSet) =
        { mapSide x with rows := 0, mapSeq := (x.mapSeq + 1) % 16, faults := [] } ∧
      (laneSet (alignRow n s) n).rows = 0 ∧ eventPending (alignRow n s) code = true := by
  have hset : laneSet (applyFault n m s) n = x := by
    rw [hfault, laneSet_congr (congrArg Lnk.sets (raise_lnk ..)), laneSet_putSet_same]
  have hmapped : laneSet (faultMapped n m s) n = { x with mapSeq := (x.mapSeq + 1) % 16, faults := [] } := by
    rw [faultMapped, laneSet_setMod_same, hset]
  have hraised : eventPending (faultMapped n m s) code = true :=
    (congrArg (eventPending · code) hfault).trans (raise_eventPending _ _ _ _ _ hev)
  obtain ⟨u, hsent, hrow⟩ := alignRow_eq hst hdown (alignDue_of_fault hf)
  have hmap := (changeMap_fault_step hf (by rwa [hset])).trans (hsent.all mapSide)
  have hview : mapSide (laneSet u n) = _ := hmap.view
  rw [hrow, laneSet_setMod_same]
  refine ⟨?_, rfl, hmap.pending code hraised⟩
  rw [hmapped] at hview
  exact congrArg (fun y : LaneSet => { y with rows := 0 }) hview

theorem applyFault_to_spare {n sp : Nat} {rest : List Nat} {m : MapChange} {s : State} (hm : m.lane ∈ (laneSet s n).slots)
    (hsp : (laneSet s n).spares = sp :: rest) : applyFault n m s = raise 0x702 (setFid n) [] 4 (coLane sp false n)
      (putSet n { laneSet s n with
        slots := (laneSet s n).slots.map (fun l => if l = m.lane then sp else l), spares := rest } s) := by
  simp [applyFault, hm, hsp]

theorem applyFault_without_spare {n : Nat} {m : MapChange} {s : State} (hm : m.lane ∈ (laneSet s n).slots)
    (hsp : (laneSet s n).spares = []) : applyFault n m s = raise 0x703 (setFid n) [] 4 (coLane m.lane false n)
      (putSet n { laneSet s n with slots := (laneSet s n).slots.erase m.lane, lossDue := true } s) := by
  simp [applyFault, hm, hsp]

theorem alignRow_gives_slot_to_spare (s : State) (n sp : Nat) (rest : List Nat) (m : MapChange) (hst : (laneSet s n).stage ≠ 0)
    (hdown : (laneSet s n).down = false) (hf : (laneSet s n).faults = [m]) (hm : m.lane ∈ (laneSet s n).slots)
    (hsp : (laneSet s n).spares = sp :: rest) (hev : eventsTaken s = true) :
    completes (.alignRow n) s (fun t => (laneSet t n).slots = (laneSet s n).slots.map (fun l => if l = m.lane then sp else l) ∧
      (laneSet t n).spares = rest ∧ (laneSet t n).mapSeq = ((laneSet s n).mapSeq + 1) % 16 ∧ (laneSet t n).faults = [] ∧
      (laneSet t n).rows = 0 ∧ eventPending t 0x702 = true) := by
  have hslots : (laneSet s n).slots.map (fun l => if l = m.lane then sp else l) ≠ [] := by
    simpa using List.ne_nil_of_mem hm
  obtain ⟨hview, hrows, hraised⟩ := alignRow_after_fault hst hdown hf (applyFault_to_spare hm hsp) hslots hev
  exact ⟨alignRow n s, rfl, congrArg LaneSet.slots hview, congrArg LaneSet.spares hview, congrArg LaneSet.mapSeq hview,
    congrArg LaneSet.faults hview, hrows, hraised⟩

theorem alignRow_lowers_ndata (s : State) (n : Nat) (m : MapChange) (hst : (laneSet s n).stage ≠ 0)
    (hdown : (laneSet s n).down = false) (hf : (laneSet s n).faults = [m]) (hm : m.lane ∈ (laneSet s n).slots)
    (hsp : (laneSet s n).spares = []) (hleft : (laneSet s n).slots.erase m.lane ≠ []) (hev : eventsTaken s = true) :
    completes (.alignRow n) s (fun t => (laneSet t n).slots = (laneSet s n).slots.erase m.lane ∧
      (laneSet t n).lossDue = true ∧ (laneSet t n).mapSeq = ((laneSet s n).mapSeq + 1) % 16 ∧ (laneSet t n).rows = 0 ∧
      eventPending t 0x703 = true) := by
  obtain ⟨hview, hrows, hraised⟩ := alignRow_after_fault hst hdown hf (applyFault_without_spare hm hsp) hleft hev
  exact ⟨alignRow n s, rfl, congrArg LaneSet.slots hview, congrArg LaneSet.lossDue hview, congrArg LaneSet.mapSeq hview,
    hrows, hraised⟩

/-- Settles O25: the clauses, each proved above, in their order. -/
theorem rowsCarryWordsAndMapChanges : Obligations.RowsCarryWordsAndMapChanges :=
  ⟨laneRowSend_carries_words, alignRow_keeps_map, alignRow_gives_slot_to_spare, alignRow_lowers_ndata⟩

end Sys2Proof.Proofs
end

section
/-! PROOFS. The lane buffer: line units that are admitted, refused or aged out (R328, R330, R331), records that join RECORDS packets (R324)
and the heartbeat (R327). -/

namespace Sys2Proof.Proofs

open Sys2Proof Sys2Proof.Machine

/-! ### Line units (R328, R330) -/

theorem noteFill_step (k : Nat) (s : State) : SetStep id k s (noteFill s) := .lnkMod rfl (.refl ..)

theorem laneSet_pipMod (f : Pip → Pip) (s : State) (n : Nat) : laneSet (pipMod f s) n = laneSet s n := rfl

/-- Nothing is discarded for a unit that fits its region. -/
theorem makeRoom_of_room {n c need : Nat} (fuel : Nat) {s : State}
    (h : lowBytes (laneSet s n) + need ≤ regionBytes s n - p0Reserve) : makeRoom n c need fuel s = s := by
  cases fuel with
  | zero => rfl
  | succ fuel => exact if_pos h

/-- The frame number of a snapshot row. -/
def unitSnap (u : LineUnit) : Option Nat := if u.family = 5 then some (bits u.fmt.toNat 56 41) else none

/-- The unit of class `c` that a line unit makes in the queue of its class. -/
def queuedUnit (s : State) (c : Nat) (u : LineUnit) : LUnit := ⟨s.t, unitSnap u, false, unitPackets c u⟩

section
variable {s : State} {u : LineUnit} {rest : List LineUnit} {n c : Nat} (hu : s.pip.units = u :: rest)
  (hn : n = routeOf s u.family u.plane) (hc : c = famClass u.family) (hbuf : inReset s 0x70301 = false)
  (hdown : (laneSet s n).down = false) (hres : inReset s (setFid n) = false) (hadm : (laneSet s n).admits = true)
include hu hn hc hbuf hdown hres hadm

theorem unitAdmit_of_kept_class (hkept : bit (laneSet s n).drop (3 - c) = false ∨ laterL (dropLine (laneSet s n) c) u.l = true)
    (hroom : lowBytes (laneSet s n) + unitsBytes [queuedUnit s c u] ≤ regionBytes s n - p0Reserve) :
    unitAdmit s = noteFill (putSet n { laneSet s n with
      q := (laneSet s n).q.set c (clsQ (laneSet s n) c ++ [queuedUnit s c u]) } (pipMod (fun p => { p with units := rest }) s)) := by
  have hdrop : (bit (laneSet s n).drop (3 - c) && !laterL (dropLine (laneSet s n) c) u.l) = false := by
    rcases hkept with h | h <;> simp [h]
  have hmake : makeRoom n c _ 8192 (pipMod (fun p => { p with units := rest }) s) = _ := makeRoom_of_room 8192 hroom
  unfold queuedUnit unitSnap at hroom hmake
  simp only [unitAdmit, hu, ← hn, ← hc, hbuf, hdown, hres, hadm, hdrop, hmake, laneSet_pipMod, hroom, Bool.false_eq_true, or_self,
    if_false, if_true, Bool.not_true]
  rfl

theorem unitAdmit_of_dropped_class (hdrop : bit (laneSet s n).drop (3 - c) = true)
    (hl : laterL (dropLine (laneSet s n) c) u.l = false) :
    unitAdmit s = unitLost n c (unitSnap u) (pipMod (fun p => { p with units := rest }) s) := by
  unfold unitAdmit
  simp only [hu, ← hn, ← hc, hbuf, hdown, hres, hadm, hdrop, hl, Bool.false_eq_true, or_self, if_false, Bool.not_true, Bool.not_false,
    Bool.and_self, if_true]
  rfl

end

theorem unitAdmit_queues_unit (s : State) (u : LineUnit) (rest : List LineUnit) (n c : Nat) (hu : s.pip.units = u :: rest)
    (hn : n = routeOf s u.family u.plane) (hc : c = famClass u.family) (hbuf : inReset s 0x70301 = false)
    (hdown : (laneSet s n).down = false) (hres : inReset s (setFid n) = false) (hadm : (laneSet s n).admits = true)
    (hkept : bit (laneSet s n).drop (3 - c) = false ∨ laterL (dropLine (laneSet s n) c) u.l = true)
    (hroom : lowBytes (laneSet s n) + 16 * nsum ((unitPackets c u).map (fun p => p.payload.length)) ≤ regionBytes s n - p0Reserve) :
    completes .unitAdmit s (fun t => t.pip = { s.pip with units := rest } ∧
      laneSet t n = { laneSet s n with q := (laneSet s n).q.set c (clsQ (laneSet s n) c ++
        [⟨s.t, if u.family = 5 then some (bits u.fmt.toNat 56 41) else none, false, unitPackets c u⟩]) } ∧
      (∀ m, m ≠ n → laneSet t m = laneSet s m)) := by
  have hbytes : unitsBytes [queuedUnit s c u] = 16 * nsum ((unitPackets c u).map (fun p => p.payload.length)) := by
    simp [unitsBytes, queuedUnit, nsum]
  refine ⟨unitAdmit s, rfl, ?_⟩
  beta_reduce
  rw [unitAdmit_of_kept_class hu hn hc hbuf hdown hres hadm hkept (hbytes ▸ hroom)]
  exact ⟨rfl, laneSet_putSet_same .., fun m hm => laneSet_putSet_other _ _ hm⟩

/-! ### Units that are lost (R196, R331) -/

theorem unitLost_lnk (n c : Nat) (snap : Option Nat) (s : State) : (unitLost n c snap s).lnk = s.lnk := (Laws.within_unitLost ..).lnk rfl

theorem unitLost_units (n c : Nat) (snap : Option Nat) (s : State) : (unitLost n c snap s).pip.units = s.pip.units := by
  cases snap with
  | none => rfl
  | some q =>
    simp only [unitLost, snapRowLost]
    split
    · rfl
    · rw [raise0_pip]
      rfl

/-- A unit that is lost is counted in LNK_SET_DROP. -/
theorem rnat_unitLost (n c : Nat) (snap : Option Nat) (s : State) : rnat (unitLost n c snap s) (Reg.LNK_SET_DROP + 0x80 * n + 4 * c) =
    min (rnat s (Reg.LNK_SET_DROP + 0x80 * n + 4 * c) + 1) (2 ^ 32 - 1) := by
  have hcount := countedMore_rsat s (Reg.LNK_SET_DROP + 0x80 * n + 4 * c) 1 (hi := 31) (lo := 0) (by omega) (by omega)
  rw [countedMore, rfld_word, rfld_word] at hcount
  refine .trans ?_ hcount
  cases snap with
  | none => rfl
  | some q =>
    simp only [unitLost, snapRowLost]
    split
    · rfl
    · have hne : Reg.LNK_SET_DROP + 0x80 * n + 4 * c ≠ Reg.PIP_SNAP_OUT := by
        simp only [Reg.LNK_SET_DROP, Reg.PIP_SNAP_OUT]
        omega
      rw [rnat, rget_congr (raise0_regs ..), rsat, rget_rfset_other _ _ _ _ hne]
      rfl

theorem unitAdmit_refuses_dropped_class (s : State) (u : LineUnit) (rest : List LineUnit) (n c : Nat) (hu : s.pip.units = u :: rest)
    (hn : n = routeOf s u.family u.plane) (hc : c = famClass u.family) (hbuf : inReset s 0x70301 = false)
    (hdown : (laneSet s n).down = false) (hres : inReset s (setFid n) = false) (hadm : (laneSet s n).admits = true)
    (hdrop : bit (laneSet s n).drop (3 - c) = true) (hl : laterL (dropLine (laneSet s n) c) u.l = false) :
    completes .unitAdmit s (fun t => t.pip.units = rest ∧ t.lnk = s.lnk ∧
      rnat t (Reg.LNK_SET_DROP + 0x80 * n + 4 * c) = min (rnat s (Reg.LNK_SET_DROP + 0x80 * n + 4 * c) + 1) (2 ^ 32 - 1)) := by
  refine ⟨unitAdmit s, rfl, ?_⟩
  beta_reduce
  rw [unitAdmit_of_dropped_class hu hn hc hbuf hdown hres hadm hdrop hl]
  exact ⟨unitLost_units .., unitLost_lnk .., rnat_unitLost ..⟩

/-- A deadline miss of a function that is not in reset raises its event and leaves the lane sets. -/
theorem dlMiss_step (k : Nat) {fid : Nat} (n : Nat) (args : List Nat) (ctag coord : Nat) {s : State} (h : inReset s fid = false) :
    SetStep id k s (dlMiss n fid args ctag coord s) ∧
      (eventsTaken s = true → eventPending (dlMiss n fid args ctag coord s) (0x310 + n) = true) := by
  have hstep : SetStep id k (raise (0x310 + n) fid args ctag coord s) (dlMiss n fid args ctag coord s) := by
    simp only [dlMiss, h, Bool.false_eq_true, if_false]
    exact .ite (.of_keeps rfl rfl rfl) (.rset _ _ (.rset _ _ (.refl ..)))
  exact ⟨.trans (.raise _ _ _ _ _ (.refl ..)) hstep, fun hev => hstep.pending _ (raise_eventPending _ _ _ _ _ hev)⟩

/-- The state in which the unit that has reached its age limit has left its class. -/
def unitAged (n c : Nat) (u : LUnit) (rest : List LUnit) (s : State) : State :=
  raise 0x70A (setFid n) [] 4 (coLane 31 false n)
    (unitLost n c u.snap (noteAge n c u.t (putSet n { laneSet s n with q := (laneSet s n).q.set c rest } s)))

theorem unitAged_step (n c : Nat) (u : LUnit) (rest : List LUnit) (s : State) :
    SetStep id n (putSet n { laneSet s n with q := (laneSet s n).q.set c rest } s) (unitAged n c u rest s) :=
  .raise _ _ _ _ _ (.trans (noteAge_step ..) (unitLost_step ..))

theorem ageDrop_eq {n c : Nat} {u : LUnit} {rest : List LUnit} {s : State} (h1 : 1 ≤ c) (h3 : c ≤ 3)
    (hq : clsQ (laneSet s n) c = u :: rest) :
    ageDrop n c s = dlMiss 5 (setFid n) [n, c] 4 (coLane 31 false n) (unitAged n c u rest s) := by
  simp only [ageDrop, h1, h3, hq, and_self, if_true]
  rfl

theorem ageDrop_drops_unit (s : State) (n c : Nat) (u : LUnit) (rest : List LUnit) (h1 : 1 ≤ c) (h3 : c ≤ 3)
    (hq : clsQ (laneSet s n) c = u :: rest) (hev : eventsTaken s = true) (hres : inReset s (setFid n) = false) :
    completes (.ageDrop n c) s (fun t => laneSet t n = { laneSet s n with q := (laneSet s n).q.set c rest } ∧
      (∀ m, m ≠ n → laneSet t m = laneSet s m) ∧ eventPending t 0x70A = true ∧ eventPending t 0x315 = true) := by
  have hleft := unitAged_step n c u rest s
  have hraised : eventPending (unitAged n c u rest s) 0x70A = true := by
    refine raise_eventPending _ _ _ _ _ ((eventsTaken_of_rst ?_).trans hev)
    exact (Laws.within_unitLost ..).rst rfl |>.trans ((Laws.within_noteAge ..).rst rfl)
  obtain ⟨hmiss, hmissed⟩ := dlMiss_step n 5 [n, c] 4 (coLane 31 false n) ((hleft.inReset (setFid n)).trans hres)
  have hall := hleft.trans hmiss
  refine ⟨ageDrop n c s, rfl, ?_⟩
  beta_reduce
  rw [ageDrop_eq h1 h3 hq]
  exact ⟨hall.view.trans (laneSet_putSet_same ..), fun m hm => (hall.others m hm).trans (laneSet_putSet_other _ _ hm),
    hmiss.pending _ hraised, hmissed (hleft.eventsTaken hev)⟩

/-- Settles O26: the clauses, each proved above, in their order. -/
theorem unitsAreAdmittedAndAgedOut : Obligations.UnitsAreAdmittedAndAgedOut :=
  ⟨unitAdmit_queues_unit, unitAdmit_refuses_dropped_class, ageDrop_drops_unit⟩

/-! ### RECORDS packets (R324) -/

theorem trimP0_step (n fuel : Nat) (s : State) : SetStep (fun x => x.recs) n s (trimP0 n fuel s) := by
  induction fuel generalizing s with
  | zero => exact .refl ..
  | succ fuel ih =>
    simp only [trimP0]
    split
    · split
      · exact .refl ..
      · refine .trans ?_ (ih _)
        exact .raise _ _ _ _ _ (.rset _ _ (.putSet rfl (.refl ..)))
    · exact .refl ..

theorem closeRecs_eq {n : Nat} {r : OpenRecs} {s : State} (h : (laneSet s n).recs = some r) : closeRecs n s = putSet n { laneSet s n with
    recs := none, q := (laneSet s n).q.set 0 (clsQ (laneSet s n) 0 ++ [⟨r.t, none, false, [recordsPacket r]⟩]) } s := by
  simp only [closeRecs, h]

theorem recordsPacketClose_closes (s : State) (n : Nat) (r : OpenRecs) (h : (laneSet s n).recs = some r) :
    completes (.recordsPacketClose n) s (fun t => laneSet t n = { laneSet s n with
      recs := none, q := (laneSet s n).q.set 0 (clsQ (laneSet s n) 0 ++ [⟨r.t, none, false, [recordsPacket r]⟩]) } ∧
      (∀ m, m ≠ n → laneSet t m = laneSet s m)) := by
  refine ⟨closeRecs n s, rfl, ?_⟩
  beta_reduce
  rw [closeRecs_eq h]
  exact ⟨laneSet_putSet_same .., fun m hm => laneSet_putSet_other _ _ hm⟩

theorem closeRecs_step (n : Nat) (s : State) : SetStep (fun _ => ()) n s (closeRecs n s) := by
  unfold closeRecs
  dsimp only
  split
  · exact .refl ..
  · exact .putSet rfl (.refl ..)

theorem enqueueRecord_step (n : Nat) (ws : List (BitVec 128)) (s : State) : SetStep (fun _ => ()) n s (enqueueRecord n ws s) := by
  unfold enqueueRecord
  refine .ite (.refl ..) (.trans (.trans ?_ ((trimP0_step ..).mono fun _ _ _ => rfl)) ((noteFill_step ..).all _))
  exact .putSet rfl (.ite (closeRecs_step ..) (.refl ..))

theorem rget_trimP0 (n fuel : Nat) (s : State) {a : Nat} (h : a ≠ Reg.LNK_SET_DROP + 0x80 * n) :
    rget (trimP0 n fuel s) a = rget s a := by
  induction fuel generalizing s with
  | zero => rfl
  | succ fuel ih =>
    simp only [trimP0]
    split
    · split
      · rfl
      · rw [ih, rget_congr (raise_regs ..), rsat, rget_rfset_other _ _ _ _ h]
        rfl
    · rfl

theorem rget_noteFill (s : State) (a : Nat) : rget (noteFill s) a = rget s a := rfl

theorem rget_putSet (n : Nat) (x : LaneSet) (s : State) (a : Nat) : rget (putSet n x s) a = rget s a := rfl

/-- A record counts only packets that are discarded. -/
theorem rget_enqueueRecord (n : Nat) (ws : List (BitVec 128)) (s : State) {a : Nat} (h : a ≠ Reg.LNK_SET_DROP + 0x80 * n) :
    rget (enqueueRecord n ws s) a = rget s a := by
  unfold enqueueRecord
  dsimp only
  split
  · rfl
  · rw [rget_noteFill, rget_trimP0 n 32 _ h, rget_putSet]
    refine rget_congr ?_ a
    exact (Laws.within_ite (Laws.within_closeRecs n s) (.refl _ s)).regs rfl

/-- The open packet after a record of words `ws` has opened or joined it. -/
def joined (t : Nat) (ws : List (BitVec 128)) : Option OpenRecs → OpenRecs
  | some r => { r with n := r.n + 1, words := r.words ++ ws }
  | none => ⟨t, 1, ws⟩

/-- A record that the open packet has room for, or that finds none open. -/
theorem enqueueRecord_joins {n : Nat} (ws : List (BitVec 128)) {s : State} (hen : setEn s n = true)
    (hdown : (laneSet s n).down = false) (hst : (laneSet s n).stage ≠ 0)
    (hroom : ∀ r, (laneSet s n).recs = some r → r.words.length + ws.length ≤ rfld s Reg.LNK_CFG 15 8) :
    (laneSet (enqueueRecord n ws s) n).recs = some (joined s.t ws (laneSet s n).recs) := by
  have henq : enqueueRecord n ws s =
      noteFill (trimP0 n 32 (putSet n { laneSet s n with recs := some (joined s.t ws (laneSet s n).recs) } s)) := by
    cases hr : (laneSet s n).recs with
    | none => simp [enqueueRecord, hen, hdown, hst, hr, joined]
    | some r => simp [enqueueRecord, hen, hdown, hst, hr, joined, Nat.not_lt.mpr (hroom r hr)]
  rw [henq]
  exact (trimP0_step ..).view.trans (congrArg LaneSet.recs (laneSet_putSet_same ..))

/-- What an operation in a fold over different elements establishes for one of them. -/
theorem foldl_establishes_once {α : Type} {P Q : State → Prop} {f : State → α → State} {k : α} (hP : ∀ u a, a ≠ k → P u → P (f u a))
    (hk : ∀ u, P u → Q (f u k)) (hQ : ∀ u a, a ≠ k → Q u → Q (f u a)) {l : List α} (hl : l.Nodup) (h : k ∈ l) {s : State} (hs : P s) :
    Q (l.foldl f s) := by
  induction l generalizing s with
  | nil => cases h
  | cons a l ih =>
    obtain ⟨ha, hl⟩ := List.nodup_cons.mp hl
    rw [List.foldl_cons]
    by_cases hak : a = k
    · subst hak
      exact List.foldlRecOn (motive := Q) _ _ (hk s hs) (fun u hu b hb => hQ u b (fun e => ha (e ▸ hb)) hu)
    · exact ih hl ((List.mem_cons.mp h).resolve_left (Ne.symm hak)) (hP s a hak hs)

/-- Set `n`, the time and the registers that say where records go are as in `s`. -/
structure RecordsAwait (s : State) (n : Nat) (u : State) : Prop where
  set : laneSet u n = laneSet s n
  time : u.t = s.t
  cfg : rget u Reg.LNK_CFG = rget s Reg.LNK_CFG
  setCfg : rget u (setCfg n) = rget s (setCfg n)

theorem RecordsAwait.other {s u : State} {n : Nat} (h : RecordsAwait s n u) {k : Nat} (hk : k ≠ n) (ws : List (BitVec 128)) :
    RecordsAwait s n (enqueueRecord k ws u) where
  set := ((enqueueRecord_step k ws u).others n hk.symm).trans h.set
  time := ((Laws.within_enqueueRecord k ws u).t rfl).trans h.time
  cfg := (rget_enqueueRecord k ws u (by simp only [Reg.LNK_CFG, Reg.LNK_SET_DROP]; omega)).trans h.cfg
  setCfg := (rget_enqueueRecord k ws u (by simp only [Machine.setCfg, Reg.LNK_SET_CFG, Reg.LNK_SET_DROP]; omega)).trans h.setCfg

/-- A record for set `n` joins its open packet (R324, R328). -/
def recordTo (ws : List (BitVec 128)) (s : State) (n : Nat) : State := if rbit s Reg.LNK_CFG (24 + n) then enqueueRecord n ws s else s

theorem recordTo_joins {n : Nat} (ws : List (BitVec 128)) {s v : State} (hv : RecordsAwait s n v) (hn : n < 4)
    (hbit : rbit s Reg.LNK_CFG (24 + n) = true) (hen : setEn s n = true) (hdown : (laneSet s n).down = false) (hst : (laneSet s n).stage ≠ 0)
    (hroom : ∀ r, (laneSet s n).recs = some r → r.words.length + ws.length ≤ rfld s Reg.LNK_CFG 15 8) :
    (laneSet ((List.range 4).foldl (recordTo ws) v) n).recs = some (joined s.t ws (laneSet s n).recs) := by
  refine foldl_establishes_once (P := RecordsAwait s n) (Q := fun u => (laneSet u n).recs = some (joined s.t ws (laneSet s n).recs))
    (fun u k hk hu => ?_) (fun u hu => ?_) (fun u k hk hu => ?_) List.nodup_range (List.mem_range.mpr hn) hv
  · unfold recordTo
    split
    · exact hu.other hk ws
    · exact hu
  · obtain ⟨hset, htime, hcfg, hsetCfg⟩ := hu
    have hbit' : rbit u Reg.LNK_CFG (24 + n) = true := by rwa [rbit, rnat, hcfg]
    have hen' : setEn u n = true := by rwa [setEn, rbit, rnat, hsetCfg]
    have hjoin := enqueueRecord_joins ws hen' (hset ▸ hdown) (hset ▸ hst) (by rwa [hset, rfld_of_rget hcfg])
    rw [recordTo, if_pos hbit', hjoin, hset]
    cases (laneSet s n).recs with
    | none => rw [joined, joined, htime]
    | some r => rfl
  · unfold recordTo
    split
    · rw [(enqueueRecord_step k ws u).others n (Ne.symm hk), hu]
    · exact hu

theorem recordEnqueue_reaches_sets (s : State) (ws : List (BitVec 128)) (rest : List (List (BitVec 128)))
    (hout : s.vdt.out = ws :: rest) :
    completes .recordEnqueue s (fun t => t.vdt = { s.vdt with out := rest } ∧ ∀ n, n < 4 → rbit s Reg.LNK_CFG (24 + n) = true →
      setEn s n = true → (laneSet s n).down = false → (laneSet s n).stage ≠ 0 →
      ((laneSet s n).recs = none → (laneSet t n).recs = some ⟨s.t, 1, ws⟩) ∧
      (∀ r, (laneSet s n).recs = some r → r.words.length + ws.length ≤ rfld s Reg.LNK_CFG 15 8 →
        (laneSet t n).recs = some { r with n := r.n + 1, words := r.words ++ ws })) := by
  have henq : recordEnqueue s = (List.range 4).foldl (recordTo ws) { s with vdt := { s.vdt with out := rest } } := by
    unfold recordEnqueue
    rw [hout]
    rfl
  have hvdt : (recordEnqueue s).vdt = { s.vdt with out := rest } := by
    rw [henq]
    exact foldl_keeps (g := State.vdt)
      (fun u n => (Laws.within_ite (Laws.within_enqueueRecord n ws u) (.refl _ u)).vdt rfl) _ _
  refine ⟨recordEnqueue s, rfl, ?_⟩
  beta_reduce
  refine ⟨hvdt, fun n hn hbit hen hdown hst => ?_⟩
  have hjoin : (∀ r, (laneSet s n).recs = some r → r.words.length + ws.length ≤ rfld s Reg.LNK_CFG 15 8) →
      (laneSet (recordEnqueue s) n).recs = some (joined s.t ws (laneSet s n).recs) := by
    rw [henq]
    exact recordTo_joins ws ⟨rfl, rfl, rfl, rfl⟩ hn hbit hen hdown hst
  refine ⟨fun hr => ?_, fun r hr hroom => ?_⟩
  · rw [hjoin (by simp [hr]), hr]
    rfl
  · rw [hjoin (by simpa [hr] using hroom), hr]
    rfl

/-! ### The heartbeat (R327) -/

theorem statusHeartbeat_queues_status (s : State) (n : Nat) (hst : (laneSet s n).stage = 2) (hdown : (laneSet s n).down = false) :
    completes (.statusHeartbeat n) s (fun t => laneSet t n = { laneSet s n with
      status := (laneSet s n).status ++ [statusWord s n false 0 (laneSet s n).lEff], statusT := s.t } ∧
      (∀ m, m ≠ n → laneSet t m = laneSet s m)) := by
  obtain ⟨le, hle, hsend⟩ := sendStatus_up 0 hst hdown
  have hbeat : statusHeartbeat n s = sendStatus n 0 s := if_pos hst
  refine ⟨statusHeartbeat n s, rfl, ?_⟩
  beta_reduce
  rw [hbeat, hsend, hle rfl]
  exact ⟨laneSet_putSet_same .., fun m hm => laneSet_putSet_other _ _ hm⟩

/-- Settles O27: the clauses, each proved above, in their order. -/
theorem recordsAndStatusAreQueued : Obligations.RecordsAndStatusAreQueued :=
  ⟨recordEnqueue_reaches_sets, recordsPacketClose_closes, statusHeartbeat_queues_status⟩

end Sys2Proof.Proofs
end

section
/-! PROOFS. Lanes that fail, planned moves, and lanes that return (R333, R334, R336-R338, R351). -/

namespace Sys2Proof.Proofs

open Sys2Proof Sys2Proof.Machine

/-! ### A lane fails (R333, R336) -/

/-- The state in which lane `lane` of set `n` has been found failed and idles. -/
def laneFailed (n lane cause : Nat) (s : State) : State :=
  lnkMod (fun k => { k with wire := mdel k.wire lane, returned := k.returned.erase lane })
    (raise 0x700 (dtFid lane) [lane, cause] 4 (coLane lane false n) (rfset s (Reg.LNK_DT_STATUS + 0x20 * lane) 12 8 (2 ^ cause)))

theorem laneFailed_step (k n lane cause : Nat) (s : State) : SetStep id k s (laneFailed n lane cause s) :=
  .lnkMod rfl (.raise _ _ _ _ _ (.rset _ _ (.refl ..)))

theorem laneFailed_eventPending (n lane cause : Nat) {s : State} (hev : eventsTaken s = true) :
    eventPending (laneFailed n lane cause s) 0x700 = true :=
  (eventPending_of_evt rfl _).trans (raise_eventPending _ _ _ _ _ ((eventsTaken_of_rst (rfset_rst ..)).trans hev))

theorem laneFailed_cause (n lane : Nat) {cause : Nat} (h : cause < 4) (s : State) :
    rfld (laneFailed n lane cause s) (Reg.LNK_DT_STATUS + 0x20 * lane) 12 8 = 2 ^ cause := by
  have hregs : (laneFailed n lane cause s).regs = (rfset s (Reg.LNK_DT_STATUS + 0x20 * lane) 12 8 (2 ^ cause)).regs := raise_regs ..
  rw [rfld_congr hregs, rfld_rfset_same _ _ _ (by omega) (by omega)]
  exact Nat.mod_eq_of_lt (Nat.pow_lt_pow_right (by omega) (by omega))

/-- A data lane waits for the next ALIGN row. -/
theorem failLane_data {n lane : Nat} (cause : Nat) {s : State} (hm : lane ∈ (laneSet s n).slots)
    (hf : (laneSet s n).faults.any (fun m => m.lane == lane) = false) :
    ∃ x : LaneSet, failLane n lane cause s = putSet n x (laneFailed n lane cause s) ∧ x.failed = (laneSet s n).failed ++ [lane] ∧
      x.faults = (laneSet s n).faults ++ [⟨lane, cause, true, 31, none⟩] ∧ x.slots = (laneSet s n).slots := by
  unfold failLane
  simp only [List.contains_iff_mem.mpr hm, hf, Bool.false_eq_true, if_true, if_false]
  exact ⟨_, rfl, rfl, rfl, rfl⟩

/-- A lane in no data slot leaves the spares, and a planned move into it starts anew. -/
theorem failLane_spare {n lane : Nat} (cause : Nat) {s : State} (hm : lane ∉ (laneSet s n).slots) :
    ∃ x : LaneSet, failLane n lane cause s = beginWant n (putSet n x (laneFailed n lane cause s)) ∧
      x.failed = (laneSet s n).failed ++ [lane] ∧ x.spares = (laneSet s n).spares.erase lane ∧ x.slots = (laneSet s n).slots := by
  unfold failLane
  simp only [List.contains_iff_mem, hm, if_false]
  exact ⟨_, rfl, rfl, rfl, rfl⟩

/-- What a lane that fails leaves of the other sets and of the events. -/
theorem failLane_step (n lane cause : Nat) (s : State) : SetStep (fun _ => ()) n s (failLane n lane cause s) := by
  have hfailed : ∀ x, SetStep (fun _ => ()) n s (putSet n x (laneFailed n lane cause s)) := fun x =>
    .putSet rfl ((laneFailed_step ..).all _)
  by_cases hm : lane ∈ (laneSet s n).slots
  · cases hf : (laneSet s n).faults.any (fun m => m.lane == lane) with
    | true =>
      have hsame : failLane n lane cause s = s := by simp [failLane, hm, hf]
      rw [hsame]
      exact .refl ..
    | false =>
      obtain ⟨x, hfail, -⟩ := failLane_data cause hm hf
      rw [hfail]
      exact hfailed _
  · obtain ⟨x, hfail, -⟩ := failLane_spare cause hm
    rw [hfail]
    exact .trans (hfailed _) ((beginWant_step ..).mono fun _ _ _ => rfl)

/-- The reading of the monitor that comes with a fault or a warning. -/
def monitorRead (lane swing cur : Nat) (s : State) : State :=
  rset s (Reg.LNK_DT_MON + 0x20 * lane) (swing % 65536 * 65536 + cur % 65536)

theorem monitorRead_step (k lane swing cur : Nat) (s : State) : SetStep id k s (monitorRead lane swing cur s) := .rset _ _ (.refl ..)

/-- A lane of a set that runs fails after the reading of its monitor. -/
theorem laneFault_fails {s : State} {n lane : Nat} (cause swing cur : Nat) (hset : setOfLane s lane = some n)
    (hst : (laneSet s n).stage ≠ 0) :
    ∃ u, laneFault lane cause swing cur s = failLane n lane (cause % 4) u ∧ SetStep id n s u := by
  refine ⟨monitorRead lane swing cur s, ?_, monitorRead_step ..⟩
  simp only [laneFault, hset, hst, if_false]
  rfl

theorem laneFault_fails_data_lane (s : State) (n lane cause swing cur : Nat) (hset : setOfLane s lane = some n)
    (hst : (laneSet s n).stage ≠ 0) (hm : lane ∈ (laneSet s n).slots)
    (hf : (laneSet s n).faults.any (fun m => m.lane == lane) = false) (hev : eventsTaken s = true) :
    completes (.laneFault lane cause swing cur) s (fun t => (laneSet t n).failed = (laneSet s n).failed ++ [lane] ∧
      (laneSet t n).faults = (laneSet s n).faults ++ [⟨lane, cause % 4, true, 31, none⟩] ∧
      (laneSet t n).slots = (laneSet s n).slots ∧ rfld t (Reg.LNK_DT_STATUS + 0x20 * lane) 12 8 = 2 ^ (cause % 4) ∧
      (∀ m, m ≠ n → laneSet t m = laneSet s m) ∧ eventPending t 0x700 = true) := by
  obtain ⟨u, hfault, hread⟩ := laneFault_fails cause swing cur hset hst
  have hsame : laneSet u n = laneSet s n := hread.view
  have hfound := hread.trans (laneFailed_step n n lane (cause % 4) u)
  obtain ⟨x, hfail, hfailed, hfaults, hslots⟩ := failLane_data (s := u) (cause % 4) (hsame ▸ hm) (hsame ▸ hf)
  rw [hsame] at hfailed hfaults hslots
  refine ⟨laneFault lane cause swing cur s, rfl, ?_⟩
  beta_reduce
  rw [hfault, hfail, laneSet_putSet_same]
  refine ⟨hfailed, hfaults, hslots, ?_, fun m h => (laneSet_putSet_other _ _ h).trans (hfound.others m h), ?_⟩
  · rw [rfld_congr (putSet_regs ..), laneFailed_cause n lane (Nat.mod_lt _ (by omega))]
  · rw [eventPending_of_evt (putSet_evt ..), laneFailed_eventPending _ _ _ (hread.eventsTaken hev)]

theorem laneFault_fails_spare (s : State) (n lane cause swing cur : Nat) (hset : setOfLane s lane = some n)
    (hst : (laneSet s n).stage ≠ 0) (hm : lane ∉ (laneSet s n).slots) (hev : eventsTaken s = true) :
    completes (.laneFault lane cause swing cur) s (fun t => (laneSet t n).failed = (laneSet s n).failed ++ [lane] ∧
      (laneSet t n).spares = (laneSet s n).spares.erase lane ∧ (laneSet t n).slots = (laneSet s n).slots ∧
      (∀ m, m ≠ n → laneSet t m = laneSet s m) ∧ eventPending t 0x700 = true) := by
  obtain ⟨u, hfault, hread⟩ := laneFault_fails cause swing cur hset hst
  have hsame : laneSet u n = laneSet s n := hread.view
  have hfound := hread.trans (laneFailed_step n n lane (cause % 4) u)
  obtain ⟨x, hfail, hfailed, hspares, hslots⟩ := failLane_spare (s := u) (cause % 4) (hsame ▸ hm)
  rw [hsame] at hfailed hspares hslots
  have hmove := beginWant_step n (putSet n x (laneFailed n lane (cause % 4) u))
  have hview := hmove.view
  rw [laneSet_putSet_same] at hview
  obtain ⟨-, -, hs, hsp, hfl, -⟩ := fields_of_mapSide hview
  refine ⟨laneFault lane cause swing cur s, rfl, ?_⟩
  beta_reduce
  rw [hfault, hfail]
  exact ⟨hfl.trans hfailed, hsp.trans hspares, hs.trans hslots,
    fun m h => (hmove.others m h).trans ((laneSet_putSet_other _ _ h).trans (hfound.others m h)),
    hmove.pending _ ((eventPending_of_evt (putSet_evt ..) _).trans (laneFailed_eventPending _ _ _ (hread.eventsTaken hev)))⟩

/-! ### A set without its lanes (R338, R351) -/

/-- What a set that goes down keeps or loses. -/
def downSide (x : LaneSet) : Bool × List Nat × List Nat × List (List LUnit) := (x.down, x.slots, x.spares, x.q)

/-- A set that goes down loses its queues and keeps its map. -/
def setEmptied (n : Nat) (s : State) : State :=
  putSet n { laneSet s n with
    down := true, q := [[], [], [], []], resend := [], recs := none, cur := none, left := [], hist := []
    maps := [], status := [], planned := none, wants := [], faults := [], routeDead := [] } s

theorem downSide_setEmptied (n : Nat) (s : State) :
    downSide (laneSet (setEmptied n s) n) = (true, (laneSet s n).slots, (laneSet s n).spares, [[], [], [], []]) := by
  rw [setEmptied, laneSet_putSet_same, downSide]

theorem setDown_step (n : Nat) (s : State) : SetStep downSide n (setEmptied n s) (setDown n s) := by
  unfold setDown
  refine .raise _ _ _ _ _ (.trans ?_ ((queuesLost_step ..).all _))
  exact resendReport_step (fun _ => rfl) n _

theorem setDown_eventPending (n : Nat) {s : State} (hev : eventsTaken s = true) : eventPending (setDown n s) 0x706 = true := by
  refine raise_eventPending _ _ _ _ _ ((eventsTaken_of_rst ?_).trans hev)
  exact ((Laws.within_queuesLost ..).rst rfl).trans ((Laws.within_resendReport ..).rst rfl)

/-- The state in which every lane of set `n` has failed with its serialiser PLL. -/
def lanesFailed (n : Nat) (s : State) : State :=
  setMod n (fun y => { y with slots := [], spares := [], lossDue := true })
    (((laneSet s n).slots ++ (laneSet s n).spares).foldl (fun s l => failLane n l 2 s) (raise 0x722 (setFid n) [] 4 (coLane 31 false n) s))

theorem lanesFailed_step (n : Nat) (s : State) :
    SetStep (fun _ => ()) n (raise 0x722 (setFid n) [] 4 (coLane 31 false n) s) (lanesFailed n s) :=
  .putSet rfl (.foldl (fun u l => failLane_step n l 2 u) _ (.refl ..))

theorem setPllUnlock_downs (s : State) (n : Nat) (hst : (laneSet s n).stage ≠ 0) (hdown : (laneSet s n).down = false)
    (hev : eventsTaken s = true) :
    completes (.setPllUnlock n) s (fun t => (laneSet t n).down = true ∧ (laneSet t n).slots = [] ∧ (laneSet t n).spares = [] ∧
      (laneSet t n).q = [[], [], [], []] ∧ (∀ m, m ≠ n → laneSet t m = laneSet s m) ∧
      eventPending t 0x722 = true ∧ eventPending t 0x706 = true) := by
  have hunlock : setPllUnlock n s = setDown n (lanesFailed n s) := by
    unfold setPllUnlock
    simp only [hst, hdown, Bool.false_eq_true, or_self, if_false]
    rfl
  have hraised := raise_eventPending 0x722 (setFid n) [] 4 (coLane 31 false n) hev
  have hfailed := lanesFailed_step n s
  have hfailedEv : eventsTaken (lanesFailed n s) = true := hfailed.eventsTaken ((eventsTaken_of_rst (raise_rst ..)).trans hev)
  have hempty : (laneSet (lanesFailed n s) n).slots = [] ∧ (laneSet (lanesFailed n s) n).spares = [] := by
    unfold lanesFailed
    rw [laneSet_setMod_same]
    exact ⟨rfl, rfl⟩
  have hdowned := setDown_step n (lanesFailed n s)
  have hview := hdowned.view
  rw [downSide_setEmptied, hempty.1, hempty.2] at hview
  simp only [downSide, Prod.mk.injEq] at hview
  obtain ⟨hd, hslots, hspares, hq⟩ := hview
  refine ⟨setPllUnlock n s, rfl, ?_⟩
  beta_reduce
  rw [hunlock]
  refine ⟨hd, hslots, hspares, hq, fun m h => ?_, hdowned.pending _ (hfailed.pending _ hraised), setDown_eventPending n hfailedEv⟩
  rw [hdowned.others m h, setEmptied, laneSet_putSet_other _ _ h, hfailed.others m h, laneSet_congr (congrArg Lnk.sets (raise_lnk ..))]

/-! ### Planned moves (R333, R337) -/

/-- A planned move that finds none under way begins at once, into the first spare. -/
theorem requestMove_into_spare {n lane sp : Nat} (cause into : Nat) {rest : List Nat} {s : State} (hcause : cause ≠ 6)
    (hm : lane ∈ (laneSet s n).slots) (hp : (laneSet s n).planned = none) (hw : (laneSet s n).wants = [])
    (hsp : (laneSet s n).spares = sp :: rest) :
    laneSet (requestMove n lane cause into s) n = { laneSet s n with
      planned := some ⟨lane, cause, false, sp, none⟩, maps := (laneSet s n).maps ++ [⟨lane, cause, false, sp, none⟩] } := by
  unfold requestMove beginWant
  simp [laneSet_setMod_same, laneSet_putSet_same, hcause, hm, hp, hw, hsp]

theorem requestMove_step (n lane cause into : Nat) (s : State) : SetStep mapSide n s (requestMove n lane cause into s) := by
  refine .trans ?_ (beginWant_step ..)
  exact .putSet rfl (.refl ..)

/-- The state in which the monitor of lane `lane` has warned (R333). -/
def laneWarned (n lane swing cur : Nat) (s : State) : State :=
  raise 0x701 (dtFid lane) [lane, 4] 4 (coLane lane false n)
    (rfset (monitorRead lane swing cur s) (Reg.LNK_DT_STATUS + 0x20 * lane) 12 8 16)

theorem laneWarned_step (k n lane swing cur : Nat) (s : State) : SetStep id k s (laneWarned n lane swing cur s) ∧
    (eventsTaken s = true → eventPending (laneWarned n lane swing cur s) 0x701 = true) := by
  have hread : SetStep id k s (rfset (monitorRead lane swing cur s) (Reg.LNK_DT_STATUS + 0x20 * lane) 12 8 16) :=
    .rset _ _ (.rset _ _ (.refl ..))
  exact ⟨hread.raise .., fun hev => raise_eventPending _ _ _ _ _ (hread.eventsTaken hev)⟩

theorem laneWarn_plans_move (s : State) (n lane swing cur sp : Nat) (rest : List Nat) (hset : setOfLane s lane = some n)
    (hst : (laneSet s n).stage ≠ 0) (hm : lane ∈ (laneSet s n).slots) (hp : (laneSet s n).planned = none)
    (hw : (laneSet s n).wants = []) (hsp : (laneSet s n).spares = sp :: rest) (hev : eventsTaken s = true) :
    completes (.laneWarn lane swing cur) s (fun t => (laneSet t n).planned = some ⟨lane, 4, false, sp, none⟩ ∧
      (laneSet t n).slots = (laneSet s n).slots ∧ (laneSet t n).maps = (laneSet s n).maps ++ [⟨lane, 4, false, sp, none⟩] ∧
      eventPending t 0x701 = true) := by
  have hwarn : laneWarn lane swing cur s = requestMove n lane 4 31 (laneWarned n lane swing cur s) := by
    simp only [laneWarn, hset, hst, if_false, List.contains_iff_mem.mpr hm, if_true]
    rfl
  obtain ⟨hwarned, hraised⟩ := laneWarned_step n n lane swing cur s
  have hsame : laneSet (laneWarned n lane swing cur s) n = laneSet s n := hwarned.view
  have hmove := requestMove_into_spare (s := laneWarned n lane swing cur s) 4 31 (by decide) (hsame ▸ hm) (hsame ▸ hp) (hsame ▸ hw)
    (hsame ▸ hsp)
  refine ⟨laneWarn lane swing cur s, rfl, ?_⟩
  beta_reduce
  rw [hwarn, hmove, hsame]
  exact ⟨rfl, rfl, rfl, (requestMove_step ..).pending _ (hraised hev)⟩

theorem bits_lane (v : Nat) : bits v 4 0 % 32 = v % 32 := by simp [bits]

theorem laneMove_plans_move (s : State) (n v sp : Nat) (rest : List Nat)
    (hfind : (List.range 4).find? (fun n => (laneSet s n).slots.contains (v % 32)) = some n) (hst : (laneSet s n).stage ≠ 0)
    (hdown : (laneSet s n).down = false) (hp : (laneSet s n).planned = none) (hw : (laneSet s n).wants = [])
    (hsp : (laneSet s n).spares = sp :: rest) (hworks : works s = true) :
    completes (.laneMove v) s (fun t => (laneSet t n).planned = some ⟨v % 32, 5, false, sp, none⟩ ∧
      (laneSet t n).slots = (laneSet s n).slots ∧ (laneSet t n).maps = (laneSet s n).maps ++ [⟨v % 32, 5, false, sp, none⟩]) := by
  have hm : v % 32 ∈ (laneSet s n).slots := by simpa using List.find?_some hfind
  have hmove : laneMove (bits v 4 0) s = requestMove n (v % 32) 5 31 s := by
    simp only [laneMove, bits_lane, hfind]
    simp [hworks, hsp, hdown, hst]
  refine ⟨laneMove (bits v 4 0) s, rfl, ?_⟩
  beta_reduce
  rw [hmove, requestMove_into_spare 5 31 (by decide) hm hp hw hsp]
  exact ⟨rfl, rfl, rfl⟩

theorem laneMove_refused (s : State) (v : Nat) (hno : ∀ n, n < 4 → v % 32 ∉ (laneSet s n).slots) (hev : eventsTaken s = true)
    (hworks : works s = true) : completes (.laneMove v) s (fun t => t.lnk = s.lnk ∧ eventPending t 0x705 = true) := by
  have hfind : (List.range 4).find? (fun n => (laneSet s n).slots.contains (v % 32)) = none :=
    List.find?_eq_none.mpr fun n hn => by simpa using hno n (List.mem_range.mp hn)
  have hmove : laneMove (bits v 4 0) s = raise 0x705 (setFid 0) [] 4 (coLane (v % 32) false 0) s := by
    simp only [laneMove, bits_lane, hfind, hworks, if_true]
  refine ⟨laneMove (bits v 4 0) s, rfl, ?_⟩
  beta_reduce
  rw [hmove]
  exact ⟨raise_lnk .., raise_eventPending _ _ _ _ _ hev⟩

/-! ### Lanes that return (R338) -/

theorem laneReturn_as_spare (s : State) (n lane : Nat)
    (hfind : (List.range 4).find? (fun n => (laneSet s n).failed.contains lane) = some n) (hret : lane ∈ s.lnk.returned)
    (hres : inReset s (dtFid lane) = false) (hst : (laneSet s n).stage ≠ 0) (hdown : (laneSet s n).down = false)
    (hfull : cfgNdata s n ≤ (laneSet s n).slots.length) :
    completes (.laneReturn lane) s (fun t => laneSet t n = { laneSet s n with
      failed := (laneSet s n).failed.erase lane, spares := (laneSet s n).spares ++ [lane] } ∧
      t.lnk.returned = s.lnk.returned.erase lane) := by
  have hback : laneReturn lane s = putSet n { laneSet s n with
      failed := (laneSet s n).failed.erase lane, spares := (laneSet s n).spares ++ [lane] }
      (lnkMod (fun k => { k with returned := k.returned.erase lane }) s) := by
    simp only [laneReturn, hfind]
    simp [hret, hres, hst, hdown, Nat.not_lt.mpr hfull]
  refine ⟨laneReturn lane s, rfl, ?_⟩
  beta_reduce
  rw [hback]
  exact ⟨laneSet_putSet_same .., rfl⟩

theorem laneReturn_as_only_slot (s : State) (n lane : Nat)
    (hfind : (List.range 4).find? (fun n => (laneSet s n).failed.contains lane) = some n) (hret : lane ∈ s.lnk.returned)
    (hres : inReset s (dtFid lane) = false) (hst : (laneSet s n).stage ≠ 0) (hdown : (laneSet s n).down = true)
    (hev : eventsTaken s = true) :
    completes (.laneReturn lane) s (fun t => (laneSet t n).down = false ∧ (laneSet t n).slots = [lane] ∧
      (laneSet t n).failed = (laneSet s n).failed.erase lane ∧ (laneSet t n).mapSeq = ((laneSet s n).mapSeq + 1) % 16 ∧
      eventPending t 0x704 = true) := by
  obtain ⟨w, hw⟩ : ∃ w, w = raise 0x704 (setFid n) [] 4 (coLane lane false n) (putSet n { laneSet s n with
      failed := (laneSet s n).failed.erase lane, slots := [lane], mapSeq := ((laneSet s n).mapSeq + 1) % 16, down := false
      rows := 4095, lossDue := true, routeDead := [] } (lnkMod (fun k => { k with returned := k.returned.erase lane }) s)) := ⟨_, rfl⟩
  have hback : laneReturn lane s = sendStatus n 5 w := by
    simp only [laneReturn, hfind, hw]
    simp [hret, hres, hst, hdown]
  have hstep := sendStatus_step n 5 w
  have hview := hstep.view
  rw [hw, laneSet_congr (congrArg Lnk.sets (raise_lnk ..)), laneSet_putSet_same, ← hw] at hview
  obtain ⟨-, hd, hs, -, hf, hmap, -⟩ := fields_of_mapSide hview
  refine ⟨laneReturn lane s, rfl, ?_⟩
  beta_reduce
  rw [hback]
  exact ⟨hd, hs, hf, hmap, hstep.pending _ (hw ▸ raise_eventPending _ _ _ _ _ hev)⟩

/-- Settles O28: the clauses, each proved above, in their order. -/
theorem failedLanesAndPlannedMoves : Obligations.FailedLanesAndPlannedMoves :=
  ⟨laneFault_fails_data_lane, laneFault_fails_spare, setPllUnlock_downs, laneWarn_plans_move, laneMove_plans_move,
    laneMove_refused, laneReturn_as_spare, laneReturn_as_only_slot⟩

end Sys2Proof.Proofs
end

section
/-! PROOFS. Lane sets that come up, shed classes and go idle, and PRBS tests of lanes (R332, R340, R341, R351). -/

namespace Sys2Proof.Proofs

open Sys2Proof Sys2Proof.Machine

/-! ### The lane policy (R332) -/

/-- The classes dropped after a loss or a return: more of them until the framed demand fits, and otherwise those restored. -/
def policyDrop (s : State) (n : Nat) : Nat :=
  if dropFor s n (laneSet s n).slots.length (laneSet s n).drop = (laneSet s n).drop
  then restoreFor s n (laneSet s n).slots.length (laneSet s n).drop
  else dropFor s n (laneSet s n).slots.length (laneSet s n).drop

/-- The set once the policy has judged it. -/
def policyJudged (s : State) (n : Nat) : LaneSet := { laneSet s n with
  lossDue := false, drop := policyDrop s n
  dropL := (List.range 3).map (fun b =>
    if bit (policyDrop s n) b && !bit (laneSet s n).drop b then nextRegLine s else (laneSet s n).dropL.getD b 0) }

/-- Beside the judged set the policy has its events and a STATUS. -/
theorem lanePolicyUpdate_step {s : State} {n : Nat} (hdue : (laneSet s n).lossDue = true) (hdown : (laneSet s n).down = false)
    (hst : (laneSet s n).stage ≠ 0) : SetStep mapSide n (putSet n (policyJudged s n) s) (lanePolicyUpdate n s) := by
  have hevents (c : State → Nat → Bool) (code : Nat) (l : List Nat) (u : State) :
      SetStep mapSide n u (l.foldl (fun v b => if c s b then raise code (setFid n) [] 4 (coLane 31 false n) v else v) u) :=
    .foldl (fun v b => .ite (.raise _ _ _ _ _ (.refl ..)) (.refl ..)) l (.refl ..)
  have hjudged : (!(laneSet s n).lossDue || (laneSet s n).down || (laneSet s n).stage == 0) = false := by simp [hdue, hdown, hst]
  simp only [lanePolicyUpdate, hjudged, Bool.false_eq_true, if_false]
  refine .ite (.refl ..) (.ite ?_ ?_)
  · refine .trans ?_ (sendStatus_step ..)
    exact hevents (fun s b => bit (policyDrop s n) b && !bit (laneSet s n).drop b) 0x708 _ _
  · refine .trans ?_ (sendStatus_step ..)
    exact hevents (fun s b => bit (laneSet s n).drop b && !bit (policyDrop s n) b) 0x709 _ _

theorem lanePolicyUpdate_judges (s : State) (n : Nat) (hdue : (laneSet s n).lossDue = true) (hdown : (laneSet s n).down = false)
    (hst : (laneSet s n).stage ≠ 0) :
    completes (.lanePolicyUpdate n) s (fun t => (laneSet t n).lossDue = false ∧ (laneSet t n).drop = policyDrop s n ∧
      (∀ m, m ≠ n → laneSet t m = laneSet s m)) := by
  have hstep := lanePolicyUpdate_step hdue hdown hst
  have hview := hstep.view
  rw [laneSet_putSet_same] at hview
  obtain ⟨-, -, -, -, -, -, -, hdrop, hloss⟩ := fields_of_mapSide hview
  exact ⟨lanePolicyUpdate n s, rfl, hloss, hdrop, fun m h => (hstep.others m h).trans (laneSet_putSet_other _ _ h)⟩

/-! ### Bring-up (R340) -/

theorem raise0_keeps_pending (code fid : Nat) (args : List Nat) {s : State} {c : Nat} (h : eventPending s c = true) :
    eventPending (raise0 code fid args s) c = true := raise_keeps_pending _ _ _ _ _ h

theorem commitImage_keeps_pending {s : State} {c : Nat} (h : eventPending s c = true) : eventPending (commitImage s) c = true := by
  unfold commitImage
  dsimp only
  split
  · exact h
  · exact raise0_keeps_pending _ _ _ h

theorem enterRun_keeps_pending {s : State} {c : Nat} (h : eventPending s c = true) : eventPending (enterRun s) c = true := by
  unfold enterRun
  split
  · exact raise0_keeps_pending _ _ _ h
  · exact h

theorem enterReady_keeps_pending {s : State} {c : Nat} (h : eventPending s c = true) : eventPending (enterReady s) c = true := by
  unfold enterReady
  split
  · extract_lets u
    have hready : eventPending u c = true := raise0_keeps_pending _ _ _ ((eventPending_of_evt (rfset_evt ..) c).trans h)
    clear_value u
    refine enterRun_keeps_pending ?_
    split
    · exact commitImage_keeps_pending hready
    · exact hready
  · exact h

/-- The set in bring-up comes up, with its STATUS and its event. -/
theorem setUp_eq {s : State} {n : Nat} (hst : (laneSet s n).stage = 1) (hdown : (laneSet s n).down = false)
    (hres : inReset s (setFid n) = false) :
    setUp n s = raise 0x707 (setFid n) [] 4 (coLane 31 false n) (sendStatus n 7 (putSet n { laneSet s n with stage := 2 } s)) := by
  simp [setUp, hst, hdown, hres]

theorem setUp_comes_up (s : State) (n : Nat) (hst : (laneSet s n).stage = 1) (hdown : (laneSet s n).down = false)
    (hres : inReset s (setFid n) = false) (hev : eventsTaken s = true) :
    completes (.setUp n) s (fun t => (laneSet t n).stage = 2 ∧ (laneSet t n).status.length = (laneSet s n).status.length + 1 ∧
      (∀ m, m ≠ n → laneSet t m = laneSet s m) ∧ eventPending t 0x707 = true) := by
  have hput : laneSet (putSet n { laneSet s n with stage := 2 } s) n = { laneSet s n with stage := 2 } := laneSet_putSet_same ..
  obtain ⟨le, -, hstatus⟩ := sendStatus_up (n := n) (s := putSet n { laneSet s n with stage := 2 } s) 7 (by rw [hput]) (by rw [hput, hdown])
  have hlnk : (setUpReady n s).lnk = (setUp n s).lnk := (Laws.within_enterReady (setUp n s)).lnk rfl
  have hup := congrArg State.lnk (setUp_eq hst hdown hres)
  rw [raise_lnk, hstatus, hput] at hup
  have hset (m : Nat) := laneSet_congr (congrArg Lnk.sets (hlnk.trans hup)) m
  refine ⟨setUpReady n s, rfl, ?_, ?_, fun m h => ?_, ?_⟩
  · rw [hset, laneSet_putSet_same]
  · rw [hset, laneSet_putSet_same, List.length_append, List.length_singleton]
  · rw [hset, laneSet_putSet_other _ _ h, laneSet_putSet_other _ _ h]
  · refine enterReady_keeps_pending ?_
    rw [setUp_eq hst hdown hres]
    exact raise_eventPending _ _ _ _ _ ((sendStatus_step ..).eventsTaken hev)

/-! ### Electrical idle (R341) -/

/-- What a set that goes idle keeps: its failed lanes and its numbers. -/
def idleSet (x : LaneSet) : LaneSet := { LaneSet.reset with failed := x.failed, seq := x.seq, swn := x.swn, mapSeq := x.mapSeq }

theorem setIdle_raises {s : State} {n : Nat} (hcalm : (laneSet s n).calm = true) (hst : (laneSet s n).stage = 2)
    (hempty : p0Empty s n = true ∨ (laneSet s n).down = true) :
    ∃ w, setIdle n s = raise 0x71F (setFid n) [] 4 (coLane 31 false n) w ∧
      w.lnk.sets = (putSet n (idleSet (laneSet s n)) s).lnk.sets ∧ w.rst = s.rst := by
  simp only [setIdle, hcalm, hst, hempty, and_self, if_true]
  exact ⟨_, rfl, rfl, rfl⟩

theorem setIdle_idles (s : State) (n : Nat) (hcalm : (laneSet s n).calm = true) (hst : (laneSet s n).stage = 2)
    (hempty : p0Empty s n = true ∨ (laneSet s n).down = true) (hev : eventsTaken s = true) :
    completes (.setIdle n) s (fun t => (laneSet t n).stage = 0 ∧ (laneSet t n).slots = [] ∧
      (laneSet t n).failed = (laneSet s n).failed ∧ (∀ m, m ≠ n → laneSet t m = laneSet s m) ∧ eventPending t 0x71F = true) := by
  obtain ⟨w, hidle, hsets, hrst⟩ := setIdle_raises hcalm hst hempty
  refine ⟨setIdle n s, rfl, ?_⟩
  beta_reduce
  rw [hidle]
  have hset (m : Nat) := laneSet_congr ((congrArg Lnk.sets (raise_lnk 0x71F (setFid n) [] 4 (coLane 31 false n) w)).trans hsets) m
  rw [hset, laneSet_putSet_same]
  refine ⟨rfl, rfl, rfl, fun m h => ?_, raise_eventPending _ _ _ _ _ ((eventsTaken_of_rst hrst).trans hev)⟩
  rw [hset, laneSet_putSet_other _ _ h]

/-! ### PRBS tests (R351) -/

/-- The test registers of the 24 lanes are registers of the map and none of an event. -/
theorem findReg_laneTest : ∀ lane < 24, findEvt (Reg.LNK_DT_TEST + 0x20 * lane) = none ∧
    (findReg (Reg.LNK_DT_TEST + 0x20 * lane)).isSome = true := by
  decide +kernel

/-- A write of a lane's test register (R351): none of a data slot or a failed lane, the register alone with the function halted. -/
theorem writeReg_laneTest (s : State) {lane : Nat} (v : Nat) (h : lane < 24) :
    writeReg (Reg.LNK_DT_TEST + 0x20 * lane) v s =
      if (laneRole s lane).1 % 2 = 1 then ignoredWrite s
      else if ownerHalted (Reg.LNK_DT_TEST + 0x20 * lane) 31 s then rset s (Reg.LNK_DT_TEST + 0x20 * lane) (v / 2 ^ 31 % 2 * 2 ^ 31)
      else prbsTest lane v s := by
  obtain ⟨hevt, hreg⟩ := findReg_laneTest lane h
  obtain ⟨d, hd⟩ := Option.isSome_iff_exists.mp hreg
  have hpmem : Reg.LNK_DT_TEST + 0x20 * lane ≠ Reg.PEN_PMEM_DATA := by simp only [Reg.LNK_DT_TEST, Reg.PEN_PMEM_DATA]; omega
  have hlane : (Reg.LNK_DT_TEST + 0x20 * lane - Reg.LNK_DT_TEST) / 0x20 = lane := by omega
  have htest : Reg.LNK_DT_TEST ≤ Reg.LNK_DT_TEST + 0x20 * lane ∧ Reg.LNK_DT_TEST + 0x20 * lane < Reg.LNK_DT_TEST + 0x300 ∧
      (Reg.LNK_DT_TEST + 0x20 * lane - Reg.LNK_DT_TEST) % 0x20 = 0 := by omega
  unfold writeReg
  simp only [hevt, hd, hpmem, htest, hlane, and_self, if_true, if_false]

theorem prbsTest_starts (s : State) (lane v : Nat) (hlane : lane < 24) (hrole : (laneRole s lane).1 % 2 = 0)
    (hhalt : ownerHalted (Reg.LNK_DT_TEST + 0x20 * lane) 31 s = false) (hv : bit v 31 = true) (hev : eventsTaken s = true) :
    completes (.prbsTest lane v) s (fun t => lane ∈ t.lnk.prbs ∧ t.lnk.sets = s.lnk.sets ∧ eventPending t 0x721 = true) := by
  have hodd : (laneRole s lane).1 % 2 ≠ 1 := by omega
  obtain ⟨w, hwrite, hprbs, hsets, hrst⟩ : ∃ w, writeReg (Reg.LNK_DT_TEST + 0x20 * lane) v s =
        raise 0x721 (dtFid lane) [] 4 (coLane lane false (laneRole s lane).2.1) w ∧
      w.lnk.prbs = (if s.lnk.prbs.contains lane then s.lnk.prbs else lane :: s.lnk.prbs) ∧ w.lnk.sets = s.lnk.sets ∧
      w.rst = s.rst := by
    simp only [writeReg_laneTest s v hlane, hodd, hhalt, prbsTest, hv, Bool.false_eq_true, if_true, if_false]
    exact ⟨_, rfl, rfl, rfl, rfl⟩
  refine ⟨_, rfl, ?_⟩
  beta_reduce
  rw [hwrite, raise_lnk]
  refine ⟨?_, hsets, raise_eventPending _ _ _ _ _ ((eventsTaken_of_rst hrst).trans hev)⟩
  rw [hprbs]
  split
  case isTrue h => exact List.contains_iff_mem.mp h
  case isFalse => exact List.mem_cons_self

theorem prbsTest_ends (s : State) (lane v : Nat) (hlane : lane < 24) (hrole : (laneRole s lane).1 % 2 = 0)
    (hhalt : ownerHalted (Reg.LNK_DT_TEST + 0x20 * lane) 31 s = false) (hv : bit v 31 = false) :
    completes (.prbsTest lane v) s (fun t =>
      t.lnk = { s.lnk with prbs := s.lnk.prbs.erase lane, wire := mdel s.lnk.wire lane } ∧ t.evt = s.evt) := by
  have hodd : (laneRole s lane).1 % 2 ≠ 1 := by omega
  refine ⟨_, rfl, ?_⟩
  simp only [writeReg_laneTest s v hlane, hodd, hhalt, prbsTest, hv, Bool.false_eq_true, if_false]
  exact ⟨rfl, rfl⟩

theorem bit_top_bit (v : Nat) : bit (v / 2 ^ 31 % 2 * 2 ^ 31 % 2 ^ 32) 31 = bit v 31 := by
  have h : v / 2 ^ 31 % 2 * 2 ^ 31 % 2 ^ 32 / 2 ^ 31 % 2 = v / 2 ^ 31 % 2 := by omega
  rw [bit, bit, h]

theorem rbit_rset_top_bit (s : State) (a v : Nat) : rbit (rset s a (v / 2 ^ 31 % 2 * 2 ^ 31)) a 31 = bit v 31 := by
  rw [rbit, rnat_rset_same, bit_top_bit]

theorem prbsTest_halted (s : State) (lane v : Nat) (hlane : lane < 24) (hrole : (laneRole s lane).1 % 2 = 0)
    (hhalt : ownerHalted (Reg.LNK_DT_TEST + 0x20 * lane) 31 s = true) :
    completes (.prbsTest lane v) s (fun t => rbit t (Reg.LNK_DT_TEST + 0x20 * lane) 31 = bit v 31 ∧
      t.lnk = s.lnk ∧ t.evt = s.evt) := by
  have hodd : (laneRole s lane).1 % 2 ≠ 1 := by omega
  have hwrite : writeReg (Reg.LNK_DT_TEST + 0x20 * lane) v s =
      rset s (Reg.LNK_DT_TEST + 0x20 * lane) (v / 2 ^ 31 % 2 * 2 ^ 31) := by
    simp only [writeReg_laneTest s v hlane, hodd, hhalt, if_true, if_false]
  refine ⟨writeReg (Reg.LNK_DT_TEST + 0x20 * lane) v s, rfl, ?_⟩
  beta_reduce
  rw [hwrite]
  exact ⟨rbit_rset_top_bit .., rset_lnk .., rset_evt ..⟩

theorem prbsTest_refused (s : State) (lane v : Nat) (hlane : lane < 24) (hrole : (laneRole s lane).1 % 2 = 1) :
    completes (.prbsTest lane v) s (fun t => t.lnk = s.lnk) := by
  refine ⟨_, rfl, ?_⟩
  simp only [writeReg_laneTest s v hlane, hrole, if_true]
  exact raise0_lnk ..

/-- Settles O29: the clauses, each proved above, in their order. -/
theorem setsComeUpShedAndIdle : Obligations.SetsComeUpShedAndIdle :=
  ⟨lanePolicyUpdate_judges, setUp_comes_up, setIdle_idles, prbsTest_starts, prbsTest_ends, prbsTest_halted, prbsTest_refused⟩

end Sys2Proof.Proofs
end

section
/-! PROOFS. Received link packets (R342, R343, R346, R347, R461). -/

namespace Sys2Proof.Proofs

open Sys2Proof Sys2Proof.Machine

theorem setXw_rst (s : State) (n : Nat) (x : XwLane) : (setXw s n x).rst = s.rst := rfl

theorem setXw_xwIn (s : State) (n : Nat) (x : XwLane) : (setXw s n x).xwIn = s.xwIn := rfl

theorem xwLane_setXw_same (s : State) (n : Nat) (x : XwLane) : xwLane (setXw s n x) n = x := (xwLane_setXw s n n x).trans (if_pos rfl)

theorem xwLane_setXw_other (s : State) {n k : Nat} (x : XwLane) (h : k ≠ n) : xwLane (setXw s n x) k = xwLane s k :=
  (xwLane_setXw s n k x).trans (if_neg h)

/-! ### What a packet costs, and where it goes -/

/-- The words a packet of `k` words on class `c` of link `n` takes of the peer's credit (R343). -/
def creditUsed (s : State) (n c k : Nat) : Nat := ((xwLane s n).recv.getD c 0 + k + 2 ^ 16 - (xwLane s n).freedTold.getD c 0) % 2 ^ 16

/-- The link once `k` words of class `c` have come and been freed again. -/
def laneGot (x : XwLane) (c k : Nat) : XwLane := { x with recv := addVc x.recv c k, freedOwn := addVc x.freedOwn c k }

/-- The message is handed on; of one for the partner its key is kept (R346). -/
def messageIn (n : Nat) (m : XwMsg) (s : State) : State :=
  if 2 ≤ n ∧ vcOf m ≠ 2 then
    lnkMod (fun q => { q with seen := (dupKey m :: q.seen).take 4096 }) { s with xwIn := s.xwIn ++ [(n, m)] }
  else { s with xwIn := s.xwIn ++ [(n, m)] }

theorem messageIn_xwIn (n : Nat) (m : XwMsg) (s : State) : (messageIn n m s).xwIn = s.xwIn ++ [(n, m)] := by
  unfold messageIn
  split <;> rfl

theorem messageIn_xw (n : Nat) (m : XwMsg) (s : State) : (messageIn n m s).xw = s.xw := by
  unfold messageIn
  split <;> rfl

theorem messageIn_seen {n : Nat} {m : XwMsg} (hn : 2 ≤ n) (hm : vcOf m ≠ 2) (s : State) : dupKey m ∈ (messageIn n m s).lnk.seen := by
  unfold messageIn
  rw [if_pos ⟨hn, hm⟩]
  exact List.mem_cons_self

theorem two_le_length_packetWords (h : Nat) (ps : List (BitVec 128)) : 2 ≤ (packetWords h ps).length := by
  simp [packetWords]

/-! ### The cases of a received packet -/

/-- A packet of a right form of link `n`, up, that is not the second copy, is delivered and gives back its credit. -/
theorem linkPacketReceived_delivers {s : State} {n c h : Nat} {ws ps : List (BitVec 128)} {cn : Nat × Nat} {m : XwMsg}
    (hup : (xwLane s n).st = 2) (hh : h = (ws.headD 0).toNat) (hc : c = min 2 (bits h 123 122)) (hps : ps = (ws.drop 1).dropLast)
    (hws : ws = packetWords h ps) (hcredit : creditUsed s n c ws.length ≤ vcBuf c) (hlen : bits h 119 108 = ps.length)
    (hmax : ps.length ≤ 22) (hlo : 8 ≤ bits h 127 124) (hhi : bits h 127 124 ≤ 12) (hdec : xwDecode h ps cn = some m)
    (hres : inReset s 0x70300 = false) (hacc : vcOf m = 2 ∨ (xwLane s n).accepted = true)
    (hnew : n < 2 ∨ vcOf m = 2 ∨ dupKey m ∉ s.lnk.seen) :
    linkPacketReceived n ws cn s =
      messageIn n m (rwrap (setXw s n (laneGot (xwLane s n) c ws.length)) (xwReg n 0x20) 31 0 1) := by
  have hlong : 2 ≤ ws.length := hws ▸ two_le_length_packetWords h ps
  have hstart : ¬((xwLane s n).st ≠ 2 ∨ ws.length < 2) := by omega
  have hform : ¬(22 < bits h 119 108 ∨ bits h 119 108 ≠ ps.length ∨ bits h 127 124 < 8 ∨ 12 < bits h 127 124) := by omega
  have hopen : ¬(inReset s 0x70300 = true ∨ vcOf m ≠ 2 ∧ ¬(xwLane s n).accepted = true) := by
    rintro (hr | ⟨hv, ha⟩)
    · rw [hres] at hr
      cases hr
    · exact hacc.elim hv ha
  have hfirst : ¬(2 ≤ n ∧ vcOf m ≠ 2 ∧ s.lnk.seen.contains (dupKey m) = true) := by
    rintro ⟨hn, hv, hseen⟩
    rcases hnew with hlt | hvc | hnot
    · omega
    · exact hv hvc
    · exact hnot (List.contains_iff_mem.mp hseen)
  rw [creditUsed] at hcredit
  simp only [linkPacketReceived, ← hh, ← hc, ← hps, hstart, Nat.not_lt.mpr hcredit, ← hws, ne_eq, not_true_eq_false, hform, hdec, hopen,
    hfirst, if_false]
  rfl

theorem linkPacketReceived_delivers_once (s : State) (n c h : Nat) (ws ps : List (BitVec 128)) (cn : Nat × Nat) (m : XwMsg)
    (hup : (xwLane s n).st = 2) (hh : h = (ws.headD 0).toNat) (hc : c = min 2 (bits h 123 122)) (hps : ps = (ws.drop 1).dropLast)
    (hws : ws = packetWords h ps) (hcredit : creditUsed s n c ws.length ≤ vcBuf c) (hlen : bits h 119 108 = ps.length)
    (hmax : ps.length ≤ 22) (hlo : 8 ≤ bits h 127 124) (hhi : bits h 127 124 ≤ 12) (hdec : xwDecode h ps cn = some m)
    (hres : inReset s 0x70300 = false) (hacc : vcOf m = 2 ∨ (xwLane s n).accepted = true)
    (hnew : n < 2 ∨ vcOf m = 2 ∨ dupKey m ∉ s.lnk.seen) :
    completes (.linkPacketReceived n ws cn) s (fun t => t.xwIn = s.xwIn ++ [(n, m)] ∧
      xwLane t n = laneGot (xwLane s n) c ws.length ∧ (∀ k, k ≠ n → xwLane t k = xwLane s k) ∧
      (2 ≤ n → vcOf m ≠ 2 → dupKey m ∈ t.lnk.seen)) := by
  refine ⟨linkPacketReceived n ws cn s, rfl, ?_⟩
  beta_reduce
  rw [linkPacketReceived_delivers hup hh hc hps hws hcredit hlen hmax hlo hhi hdec hres hacc hnew]
  have hxw := (messageIn_xw n m _).trans (rwrap_xw (setXw s n (laneGot (xwLane s n) c ws.length)) (xwReg n 0x20) 31 0 1)
  refine ⟨by rw [messageIn_xwIn, rwrap_xwIn, setXw_xwIn], ?_, fun k hk => ?_, fun hn hm => messageIn_seen hn hm _⟩
  · rw [xwLane_congr hxw, xwLane_setXw_same]
  · rw [xwLane_congr hxw, xwLane_setXw_other _ _ hk]

theorem linkPacketReceived_beyond_credit (s : State) (n : Nat) (ws : List (BitVec 128)) (cn : Nat × Nat) (hup : (xwLane s n).st = 2)
    (hlong : 2 ≤ ws.length) (hcredit : vcBuf (min 2 (bits (ws.headD 0).toNat 123 122)) <
      creditUsed s n (min 2 (bits (ws.headD 0).toNat 123 122)) ws.length) (hev : eventsTaken s = true) :
    completes (.linkPacketReceived n ws cn) s (fun t => t.xwIn = s.xwIn ∧ t.xw = s.xw ∧ eventPending t 0x71D = true) := by
  have hstart : ¬((xwLane s n).st ≠ 2 ∨ ws.length < 2) := by omega
  rw [creditUsed] at hcredit
  have hover : linkPacketReceived n ws cn s = raise 0x71D (xwFid n) [] 4 (coLink n) s := by
    simp only [linkPacketReceived, hstart, hcredit, if_true, if_false]
  refine ⟨linkPacketReceived n ws cn s, rfl, ?_⟩
  beta_reduce
  rw [hover]
  exact ⟨raise_xwIn .., raise_xw .., raise_eventPending _ _ _ _ _ hev⟩

theorem linkPacketReceived_bad_crc (s : State) (n c h : Nat) (ws : List (BitVec 128)) (cn : Nat × Nat) (hup : (xwLane s n).st = 2)
    (hlong : 2 ≤ ws.length) (hh : h = (ws.headD 0).toNat) (hc : c = min 2 (bits h 123 122))
    (hcredit : creditUsed s n c ws.length ≤ vcBuf c) (hcrc : packetWords h ((ws.drop 1).dropLast) ≠ ws) (hev : eventsTaken s = true) :
    completes (.linkPacketReceived n ws cn) s (fun t => t.xwIn = s.xwIn ∧ xwLane t n = laneGot (xwLane s n) c ws.length ∧
      eventPending t 0x714 = true) := by
  have hstart : ¬((xwLane s n).st ≠ 2 ∨ ws.length < 2) := by omega
  rw [creditUsed] at hcredit
  have hbad : linkPacketReceived n ws cn s = raise 0x714 (xwFid n) [] 4 (coLink n)
      (rsat (setXw s n (laneGot (xwLane s n) c ws.length)) (xwReg n 0x14) 31 16 1) := by
    simp only [linkPacketReceived, ← hh, ← hc, hstart, Nat.not_lt.mpr hcredit, ne_eq, hcrc, not_false_eq_true, if_true, if_false]
    rfl
  refine ⟨linkPacketReceived n ws cn s, rfl, ?_⟩
  beta_reduce
  rw [hbad]
  refine ⟨by rw [raise_xwIn, rsat_xwIn, setXw_xwIn], ?_,
    raise_eventPending _ _ _ _ _ ((eventsTaken_of_rst ((rsat_rst ..).trans (setXw_rst ..))).trans hev)⟩
  rw [xwLane_congr (raise_xw ..), xwLane_congr (rsat_xw ..), xwLane_setXw_same]

theorem linkPacketReceived_second_copy (s : State) (n h : Nat) (ws ps : List (BitVec 128)) (cn : Nat × Nat) (m : XwMsg)
    (hh : h = (ws.headD 0).toNat) (hps : ps = (ws.drop 1).dropLast) (hdec : xwDecode h ps cn = some m) (hn : 2 ≤ n) (hm : vcOf m ≠ 2)
    (hseen : dupKey m ∈ s.lnk.seen) : completes (.linkPacketReceived n ws cn) s (fun t => t.xwIn = s.xwIn) := by
  have hcopy : 2 ≤ n ∧ vcOf m ≠ 2 ∧ s.lnk.seen.contains (dupKey m) = true := ⟨hn, hm, List.contains_iff_mem.mpr hseen⟩
  refine ⟨linkPacketReceived n ws cn s, rfl, ?_⟩
  simp only [linkPacketReceived, ← hh, ← hps, hdec]
  rw [if_pos hcopy]
  split
  case isTrue => rfl
  split
  case isTrue => rw [raise_xwIn]
  split
  case isTrue => rw [raise_xwIn, rsat_xwIn, setXw_xwIn]
  split
  case isTrue => rw [raise_xwIn, setXw_xwIn]
  split
  case isTrue => rw [rwrap_xwIn, setXw_xwIn]
  case isFalse => rw [rsat_xwIn, rwrap_xwIn, setXw_xwIn]

/-- Settles O31: the clauses, each proved above, in their order. -/
theorem linkPacketsAreCheckedAndDelivered : Obligations.LinkPacketsAreCheckedAndDelivered :=
  ⟨linkPacketReceived_delivers_once, linkPacketReceived_beyond_credit, linkPacketReceived_bad_crc, linkPacketReceived_second_copy⟩

end Sys2Proof.Proofs
end

section
/-! PROOFS. Eye measurement, the re-adaptation sweep and the swap of the paths (R348, R350). -/

namespace Sys2Proof.Proofs

open Sys2Proof Sys2Proof.Machine

theorem setXw_regs (s : State) (n : Nat) (x : XwLane) : (setXw s n x).regs = s.regs := rfl

theorem rfld_setXw (s : State) (n : Nat) (x : XwLane) (a hi lo : Nat) : rfld (setXw s n x) a hi lo = rfld s a hi lo :=
  rfld_congr (setXw_regs ..) a hi lo

theorem setXw_nrg (s : State) (n : Nat) (x : XwLane) : (setXw s n x).nrg = s.nrg := rfl

/-! ### The FOM fields of a link -/

/-- The state with FOM `f` of the main path and `g` of the shadow path of link `n`. -/
def fomsSet (n f g : Nat) (s : State) : State := rfset (rfset s (xwReg n 0x10) 31 24 f) (xwReg n 0x10) 23 16 g

theorem rfld_fomsSet (n : Nat) {f g : Nat} (hf : f < 256) (hg : g < 256) (s : State) :
    rfld (fomsSet n f g s) (xwReg n 0x10) 31 24 = f ∧ rfld (fomsSet n f g s) (xwReg n 0x10) 23 16 = g := by
  unfold fomsSet
  rw [rfld_rfset_apart _ _ _ (by omega) (by omega) (by omega) (by omega), rfld_rfset_same _ _ _ (by omega) (by omega),
    rfld_rfset_same _ _ _ (by omega) (by omega)]
  exact ⟨Nat.mod_eq_of_lt hf, Nat.mod_eq_of_lt hg⟩

theorem fomsSet_xw (n f g : Nat) (s : State) : (fomsSet n f g s).xw = s.xw := by rw [fomsSet, rfset_xw, rfset_xw]

theorem fomOf_lt (h v : Nat) : fomOf h v < 256 := by unfold fomOf; omega

/-- FOM = min(255, ⌊H × V / 4⌋) of an eye that both margins bound. -/
theorem fomOf_margins {h v : Nat} (hh : h ≤ 32) (hv : v ≤ 32) : fomOf (min 32 h) (min 32 v) = min 255 (h * v / 4) := by
  rw [fomOf, min_eq_right hh, min_eq_right hv]

theorem rfld_fom_lt (s : State) (a : Nat) {hi lo : Nat} (h : hi = lo + 7) : rfld s a hi lo < 256 := by
  have hw : hi - lo + 1 = 8 := by omega
  rw [rfld, bits, hw]
  exact Nat.mod_lt _ (by omega)

/-! ### Eye measurement (R348) -/

/-- An eye measurement of a link that is up: both FOM fields, the run of low ones, and its events. -/
theorem eyeMeasure_up {s : State} {n : Nat} (hm vm hs vs : Nat) (hup : (xwLane s n).st = 2) :
    ∃ x low ask, eyeMeasure n hm vm hs vs s = raiseIf ask 0x718 (xwFid n) [] 4 (coLink n) (raiseIf low 0x717 (xwFid n) [] 4 (coLink n)
        (setXw (fomsSet n (fomOf (min 32 hm) (min 32 vm)) (fomOf (min 32 hs) (min 32 vs)) s) n x)) ∧
      x.lowRun = (if fomOf (min 32 hm) (min 32 vm) < rfld s Reg.LNK_FOM_CFG 23 16 then min 8 ((xwLane s n).lowRun + 1) else 0) ∧
      x.mainPk = (xwLane s n).mainPk := by
  have hst : ¬(xwLane s n).st ≠ 2 := by omega
  simp only [eyeMeasure, hst, if_false, decide_eq_true_eq]
  exact ⟨_, _, _, rfl, rfl, rfl⟩

theorem eyeMeasure_sets_foms (s : State) (n hm vm hs vs : Nat) (_ : n < 4) (hup : (xwLane s n).st = 2) (hhm : hm ≤ 32) (hvm : vm ≤ 32)
    (hhs : hs ≤ 32) (hvs : vs ≤ 32) :
    completes (.eyeMeasure n hm vm hs vs) s (fun t => rfld t (xwReg n 0x10) 31 24 = min 255 (hm * vm / 4) ∧
      rfld t (xwReg n 0x10) 23 16 = min 255 (hs * vs / 4) ∧
      (xwLane t n).lowRun = (if min 255 (hm * vm / 4) < rfld s Reg.LNK_FOM_CFG 23 16 then min 8 ((xwLane s n).lowRun + 1) else 0) ∧
      (xwLane t n).mainPk = (xwLane s n).mainPk ∧ (∀ k, k ≠ n → xwLane t k = xwLane s k)) := by
  obtain ⟨x, low, ask, heye, hrun, hpk⟩ := eyeMeasure_up hm vm hs vs hup
  obtain ⟨hmain, hshadow⟩ := rfld_fomsSet n (fomOf_lt (min 32 hm) (min 32 vm)) (fomOf_lt (min 32 hs) (min 32 vs)) s
  rw [fomOf_margins hhm hvm] at heye hmain hshadow hrun
  rw [fomOf_margins hhs hvs] at heye hmain hshadow
  have hregs := congrArg State.regs heye
  rw [raiseIf_regs, raiseIf_regs, setXw_regs] at hregs
  have hxw := congrArg State.xw heye
  rw [raiseIf_xw, raiseIf_xw] at hxw
  refine ⟨eyeMeasure n hm vm hs vs s, rfl, ?_, ?_, ?_, ?_, fun k hk => ?_⟩
  · rw [rfld_congr hregs, hmain]
  · rw [rfld_congr hregs, hshadow]
  · rw [xwLane_congr hxw, xwLane_setXw_same, hrun]
  · rw [xwLane_congr hxw, xwLane_setXw_same, hpk]
  · rw [xwLane_congr hxw, xwLane_setXw_other _ _ hk, xwLane_congr (fomsSet_xw ..)]

/-! ### The re-adaptation sweep (R350) -/

/-- The state after the sweep of link `n` has been counted and its grant has ended. -/
def sweepDone (n : Nat) (s : State) : State := sweepEnd n (rwrap s (xwReg n 0x28) 15 0 1)

theorem sweepDone_running (n : Nat) (s : State) :
    (sweepDone n s).nrg.running = s.nrg.running.filter (fun g => !(g.order == 3 && g.who == n)) := rfl

theorem sweepDone_rst (n : Nat) (s : State) : (sweepDone n s).rst = s.rst := rfl

theorem readaptSweep_locks (s : State) (n : Nat) (foms : List Nat) (_ : n < 4) (had : (xwLane s n).adapting = true)
    (hup : (xwLane s n).st = 2) (hgain : rfld s (xwReg n 0x10) 31 24 + rfld s Reg.LNK_FOM_CFG 7 0 ≤ (bestFom foms).1) :
    completes (.readaptSweep n foms) s (fun t => xwLane t n = { xwLane s n with
        adapting := false, shadowPk := (bestFom foms).2, bestPk := some (bestFom foms).2 } ∧
      t.nrg.running = s.nrg.running.filter (fun g => !(g.order == 3 && g.who == n))) := by
  have hsweep : readaptSweep n foms s = rfset (setXw (sweepDone n s) n { xwLane s n with
      adapting := false, shadowPk := (bestFom foms).2, bestPk := some (bestFom foms).2 }) (xwReg n 0x10) 23 16 (bestFom foms).1 := by
    have hgo : (!(xwLane s n).adapting || (xwLane s n).st != 2) = false := by simp [had, hup]
    simp only [readaptSweep, hgo, hgain, Bool.false_eq_true, if_true, if_false]
    rfl
  refine ⟨readaptSweep n foms s, rfl, ?_⟩
  beta_reduce
  rw [hsweep, xwLane_congr (rfset_xw ..), xwLane_setXw_same, rfset_nrg, setXw_nrg, sweepDone_running]
  exact ⟨rfl, rfl⟩

theorem readaptSweep_without_gain (s : State) (n : Nat) (foms : List Nat) (_ : n < 4) (had : (xwLane s n).adapting = true)
    (hup : (xwLane s n).st = 2) (hgain : (bestFom foms).1 < rfld s (xwReg n 0x10) 31 24 + rfld s Reg.LNK_FOM_CFG 7 0)
    (hev : eventsTaken s = true) :
    completes (.readaptSweep n foms) s (fun t => xwLane t n = { xwLane s n with adapting := false, sweepT := some s.t } ∧
      t.nrg.running = s.nrg.running.filter (fun g => !(g.order == 3 && g.who == n)) ∧ eventPending t 0x71A = true) := by
  have hsweep : readaptSweep n foms s = raise 0x71A (xwFid n) [] 4 (coLink n)
      (setXw (sweepDone n s) n { xwLane s n with adapting := false, sweepT := some s.t }) := by
    have hgo : (!(xwLane s n).adapting || (xwLane s n).st != 2) = false := by simp [had, hup]
    simp only [readaptSweep, hgo, Nat.not_le.mpr hgain, Bool.false_eq_true, if_false]
    rfl
  have htaken := (eventsTaken_of_rst ((setXw_rst (sweepDone n s) n { xwLane s n with
    adapting := false, sweepT := some s.t }).trans (sweepDone_rst n s))).trans hev
  refine ⟨readaptSweep n foms s, rfl, ?_⟩
  beta_reduce
  rw [hsweep, xwLane_congr (raise_xw ..), xwLane_setXw_same, raise_nrg, setXw_nrg, sweepDone_running]
  exact ⟨rfl, rfl, raise_eventPending _ _ _ _ _ htaken⟩

/-! ### The swap of the paths (R350) -/

/-- Link `x` with its paths exchanged: the shadow's best peaking `b` carries the data. -/
def pathsSwapped (x : XwLane) (b : Nat) : XwLane := { x with mainPk := b, shadowPk := x.mainPk, bestPk := none, lowRun := 0 }

/-- The state with the FOM fields of link `n` exchanged and the swap counted. -/
def fomsSwapped (n : Nat) (s : State) : State :=
  rwrap (rfset (rfset s (xwReg n 0x10) 23 16 (rfld s (xwReg n 0x10) 31 24)) (xwReg n 0x10) 31 24 (rfld s (xwReg n 0x10) 23 16))
    (xwReg n 0x28) 31 16 1

theorem rfld_fomsSwapped (n : Nat) (s : State) :
    rfld (fomsSwapped n s) (xwReg n 0x10) 31 24 = rfld s (xwReg n 0x10) 23 16 ∧
      rfld (fomsSwapped n s) (xwReg n 0x10) 23 16 = rfld s (xwReg n 0x10) 31 24 := by
  have hne : xwReg n 0x10 ≠ xwReg n 0x28 := by unfold xwReg; omega
  have hcount (hi lo : Nat) (u : State) : rfld (rwrap u (xwReg n 0x28) 31 16 1) (xwReg n 0x10) hi lo = rfld u (xwReg n 0x10) hi lo :=
    rfld_of_rget (rget_rfset_other _ _ _ _ hne) _ _
  rw [fomsSwapped, hcount, hcount, rfld_rfset_same _ _ _ (by omega) (by omega),
    rfld_rfset_apart _ _ _ (by omega) (by omega) (by omega) (by omega), rfld_rfset_same _ _ _ (by omega) (by omega)]
  exact ⟨Nat.mod_eq_of_lt (rfld_fom_lt s _ rfl), Nat.mod_eq_of_lt (rfld_fom_lt s _ rfl)⟩

theorem fomsSwapped_xw (n : Nat) (s : State) : (fomsSwapped n s).xw = s.xw := by
  rw [fomsSwapped, rwrap_xw, rfset_xw, rfset_xw]

theorem fomsSwapped_rst (n : Nat) (s : State) : (fomsSwapped n s).rst = s.rst := by
  rw [fomsSwapped, rwrap_rst, rfset_rst, rfset_rst]

theorem eqSwap_exchanges (s : State) (n b : Nat) (_ : n < 4) (hbest : (xwLane s n).bestPk = some b) (hup : (xwLane s n).st = 2)
    (hev : eventsTaken s = true) :
    completes (.eqSwap n) s (fun t => xwLane t n = { xwLane s n with
        mainPk := b, shadowPk := (xwLane s n).mainPk, bestPk := none, lowRun := 0 } ∧
      rfld t (xwReg n 0x10) 31 24 = rfld s (xwReg n 0x10) 23 16 ∧ rfld t (xwReg n 0x10) 23 16 = rfld s (xwReg n 0x10) 31 24 ∧
      eventPending t 0x719 = true) := by
  have hswap : eqSwap n s = raise 0x719 (xwFid n) [] 4 (coLink n) (fomsSwapped n (setXw s n (pathsSwapped (xwLane s n) b))) := by
    simp only [eqSwap, hbest, fomsSwapped, rfld_setXw]
    exact if_pos hup
  obtain ⟨hmain, hshadow⟩ := rfld_fomsSwapped n (setXw s n (pathsSwapped (xwLane s n) b))
  have hrst := (fomsSwapped_rst n _).trans (setXw_rst s n (pathsSwapped (xwLane s n) b))
  refine ⟨eqSwap n s, rfl, ?_⟩
  beta_reduce
  rw [hswap, rfld_congr (raise_regs ..), rfld_congr (raise_regs ..), hmain, hshadow, rfld_setXw, rfld_setXw]
  refine ⟨?_, rfl, rfl, raise_eventPending _ _ _ _ _ ((eventsTaken_of_rst hrst).trans hev)⟩
  rw [xwLane_congr ((raise_xw ..).trans (fomsSwapped_xw ..)), xwLane_setXw_same, pathsSwapped]

/-- Settles O33: the clauses, each proved above, in their order. -/
theorem eyesAreMeasuredAndPathsSwapped : Obligations.EyesAreMeasuredAndPathsSwapped :=
  ⟨eyeMeasure_sets_foms, readaptSweep_locks, readaptSweep_without_gain, eqSwap_exchanges⟩

end Sys2Proof.Proofs
end

section
/-! PROOFS. Two statements on links that fail: a stall on a link whose pair is not accepted (R343, R344), and the partner of a link that
is none of the four (R347). -/

namespace Sys2Proof.Proofs

open Sys2Proof Sys2Proof.Machine

/-! ### A record on a link whose pair is not accepted (R343) -/

/-- Link 0 is up with all its credit and has a record queued, but the pair on it is not accepted. -/
def recordOnUnacceptedLink : State := { runningDevice with
  xw := [(0, { XwLane.reset with st := 2, accepted := false, q1 := [.record 0 0 0 [] (0, 0)] })] }

theorem recordOnUnacceptedLink_picks_none : pickVc (xwLane recordOnUnacceptedLink 0) [0, 1, 2] = none := by decide +kernel

theorem recordOnUnacceptedLink_not_stalled : (xwLane (linkPacketSend 0 recordOnUnacceptedLink) 0).stalled = false := by decide +kernel

/-- Refutes O30: a record is kept back by its credit or because the pair on its link is not accepted (R343), and only the first is a
stall, where the statement counts one whenever no class may send. In `recordOnUnacceptedLink` the credit is there, and no stall is
counted. -/
theorem not_creditGatesLinkPackets : ¬ Obligations.CreditGatesLinkPackets := by
  rintro ⟨-, -, -, hstall, -⟩
  obtain ⟨hlane, -, -⟩ := completes_next
    (hstall recordOnUnacceptedLink 0 (.record 0 0 0 [] (0, 0)) [] rfl recordOnUnacceptedLink_picks_none rfl rfl rfl (by decide +kernel))
    (u := linkPacketSend 0 recordOnUnacceptedLink) rfl
  have hstalled := recordOnUnacceptedLink_not_stalled
  rw [hlane] at hstalled
  cases hstalled

/-! ### The partner of a link (R347) -/

/-- Links 0 and 5 are up, and links 2 and 3, which lead to the partner, are not. -/
def upBesidePartnerLinks : State := { runningDevice with
  xw := [(0, { XwLane.reset with st := 2 }), (5, { XwLane.reset with st := 2 })] }

theorem upBesidePartnerLinks_no_single_link : eventPending (linkWordLockLoss 5 5 upBesidePartnerLinks) 0x71E = false := by
  decide +kernel

/-- Refutes O32: event 0x71E tells that one of links 2 and 3 is left alone (R347), but the statement bounds the number of the link from
below only. Of link 5 the other one would be 5 - 5 = 0; in `upBesidePartnerLinks` both are up, and the loss of link 5 leaves no
partner link alone. -/
theorem not_linksTrainLoseLockAndRetrain : ¬ Obligations.LinksTrainLoseLockAndRetrain := by
  rintro ⟨hloss, -⟩
  obtain ⟨-, -, -, -, -, -, -, hsingle⟩ := completes_next
    (hloss upBesidePartnerLinks 5 5 rfl (by decide) (by decide +kernel)) (u := linkWordLockLoss 5 5 upBesidePartnerLinks) rfl
  have hpending := hsingle (by decide) rfl
  rw [upBesidePartnerLinks_no_single_link] at hpending
  cases hpending

end Sys2Proof.Proofs
end

section
/-! PROOFS. DRIVE, SAMPLE, COUNT and CONST as changes of one engine, and engines that halt (R357, R360, R361, R367, R369). -/

namespace Sys2Proof.Proofs

open Sys2Proof Sys2Proof.Machine

/-! ### Steps that change their engine and go on (R358-R360) -/

theorem standsAt_of_runsAt {s : State} {e op w : Nat} {g : Engine} (h : runsAt s e op w g) : standsAt s e op w g := by
  obtain ⟨hat, hw, hg, -⟩ := h
  exact ⟨hat, hw, hg⟩

section
variable {s : State} {e op w : Nat} {g : Engine} (h : standsAt s e op w g)
include h

theorem eng_of_standsAt : eng s e = g := by
  obtain ⟨-, -, hg⟩ := h
  exact hg.symm

theorem runStep_of_standsAt (f : Nat → Engine → State → State) : runStep e op f s = f w g s := by
  obtain ⟨hat, rfl, rfl⟩ := h
  rw [runStep, if_pos hat]

end

/-- An engine that goes on at a step of its program. -/
theorem stepEnd_within_program {s : State} {e pc : Nat} (dly : Nat) (h : progBase s e + pc ≤ progLimit s e) :
    stepEnd e pc dly s = setEng e (stepOver (eng s e) pc dly) s := by
  have hpc : pc % 2048 = pc := Nat.mod_eq_of_lt (by have := progLimit_lt s e; omega)
  rw [stepEnd, if_neg (by omega), engMod_eq, stepOver, hpc]

/-- A step that first changes its engine and goes on at a step of its program. -/
theorem stepEnd_engMod_of_standsAt {s : State} {e op w pc : Nat} {g : Engine} (h : standsAt s e op w g) (dly : Nat)
    {f : Engine → Engine} (hpc : progBase s e + pc ≤ progLimit s e) :
    stepEnd e pc dly (engMod e f s) = setEng e (stepOver (f g) pc dly) s := by
  rw [engMod_eq, eng_of_standsAt h, stepEnd_within_program (s := setEng e (f g) s) dly hpc, eng_setEng_same, setEng_setEng]

/-- A step that changes its engine, but not the PC, and goes on at the next one. -/
theorem nextStep_engMod_of_runsAt {s : State} {e op w : Nat} {g : Engine} (h : runsAt s e op w g) {f : Engine → Engine}
    (hpc : (f g).pc = g.pc) : nextStep e w (engMod e f s) = setEng e (stepPast (f g) w) s := by
  rw [engMod_eq, eng_of_runsAt h]
  exact nextStep_setEng_of_runsAt h hpc

/-! ### DRIVE, SAMPLE and COUNT (R360) -/

section
variable {s : State} {e w : Nat} {g : Engine}

theorem drive_sets_outputs {o : Nat} (h : runsAt s e 0x0 w g)
    (ho : (opdOf w = 0 ∧ o = immOf w) ∨ (opdOf w = 1 ∧ o = g.out ||| immOf w) ∨ (opdOf w = 2 ∧ o = g.out &&& (0xFFFF ^^^ immOf w)) ∨
      (opdOf w = 3 ∧ o = g.out ^^^ immOf w) ∨ (opdOf w = 4 ∧ o = g.x % 65536)) :
    drive e s = setEng e (stepPast { g with out := o } w) s := by
  rw [drive, runStep_of_runsAt h]
  rcases ho with ⟨hd, rfl⟩ | ⟨hd, rfl⟩ | ⟨hd, rfl⟩ | ⟨hd, rfl⟩ | ⟨hd, rfl⟩ <;>
  · rw [hd]
    exact nextStep_engMod_of_runsAt h rfl

/-- SAMPLE goes on with what its OPD says in X or Y. -/
theorem sample_takes_inputs (h : runsAt s e 0x1 w g) : ∃ u, sample e s = setEng e (stepPast u w) s ∧
    (opdOf w = 0 → u = { g with x := inputs s e }) ∧ (opdOf w = 1 → u = { g with y := inputs s e }) ∧
    (opdOf w = 2 → u = { g with x := (g.x * 2 ^ inN s e) % 2 ^ 32 ||| inputs s e }) := by
  rw [sample, runStep_of_runsAt h]
  dsimp only
  split
  · next hd => exact ⟨_, nextStep_engMod_of_runsAt h rfl, by simp [hd]⟩
  · next hd => exact ⟨_, nextStep_engMod_of_runsAt h rfl, by simp [hd]⟩
  · next h0 h1 => exact ⟨_, nextStep_engMod_of_runsAt h rfl, fun hd => absurd hd h0, fun hd => absurd hd h1, fun _ => rfl⟩

/-- A counter that is decremented, to `c`: at 0 the engine goes on at the next step, else at the target (R360). -/
theorem count_down {f : Engine → Engine} {c : Nat} (h : runsAt s e 0xA w g) (htarget : progBase s e + immOf w % 2048 ≤ progLimit s e)
    (hpc : (f g).pc = g.pc) :
    (if c = 0 then nextStep e w (engMod e f s) else stepEnd e (immOf w % 2048) (dlyOf w) (engMod e f s)) =
      setEng e (stepOver (f g) (if c = 0 then g.pc + 1 else immOf w % 2048) (dlyOf w)) s := by
  split
  · rw [nextStep_engMod_of_runsAt h hpc, stepPast, hpc]
  · exact stepEnd_engMod_of_standsAt (standsAt_of_runsAt h) _ htarget

/-- COUNT goes on with what its OPD says of C0 or C1. -/
theorem count_sets_or_decrements (h : runsAt s e 0xA w g) (htarget : progBase s e + immOf w % 2048 ≤ progLimit s e) :
    ∃ u, count e s = setEng e u s ∧ (opdOf w = 0 → u = stepPast { g with c0 := immOf w } w) ∧
      (opdOf w = 1 → u = stepPast { g with c1 := immOf w } w) ∧
      (opdOf w = 2 → u = stepOver { g with c0 := (g.c0 + 65535) % 65536 }
        (if (g.c0 + 65535) % 65536 = 0 then g.pc + 1 else immOf w % 2048) (dlyOf w)) ∧
      (opdOf w = 3 → u = stepOver { g with c1 := (g.c1 + 65535) % 65536 }
        (if (g.c1 + 65535) % 65536 = 0 then g.pc + 1 else immOf w % 2048) (dlyOf w)) ∧
      (opdOf w = 4 → u = stepPast { g with c0 := g.x % 65536 } w) := by
  rw [count, runStep_of_runsAt h]
  dsimp only
  split
  · next hd => exact ⟨_, nextStep_engMod_of_runsAt h rfl, by simp [hd]⟩
  · next hd => exact ⟨_, nextStep_engMod_of_runsAt h rfl, by simp [hd]⟩
  · next hd => exact ⟨_, count_down h htarget rfl, by simp [hd]⟩
  · next hd => exact ⟨_, count_down h htarget rfl, by simp [hd]⟩
  · next h0 h1 h2 h3 => exact ⟨_, nextStep_engMod_of_runsAt h rfl, fun hd => absurd hd h0, fun hd => absurd hd h1,
      fun hd => absurd hd h2, fun hd => absurd hd h3, fun _ => rfl⟩

/-- A counter that is decremented and does not come to 0 jumps from LIMIT too (R360, R367). -/
theorem count_jumps (h : standsAt s e 0xA w g) (htarget : progBase s e + immOf w % 2048 ≤ progLimit s e) :
    (opdOf w = 2 → (g.c0 + 65535) % 65536 ≠ 0 →
      count e s = setEng e (stepOver { g with c0 := (g.c0 + 65535) % 65536 } (immOf w % 2048) (dlyOf w)) s) ∧
    (opdOf w = 3 → (g.c1 + 65535) % 65536 ≠ 0 →
      count e s = setEng e (stepOver { g with c1 := (g.c1 + 65535) % 65536 } (immOf w % 2048) (dlyOf w)) s) := by
  rw [count, runStep_of_standsAt h]
  constructor <;>
  · intro hd hc
    simp only [hd, if_neg hc]
    exact stepEnd_engMod_of_standsAt h _ htarget

end

/-! ### Engines that halt (R357, R367, R369) -/

theorem eng_congr {s t : State} (h : t.pen = s.pen) (e : Nat) : eng t e = eng s e := by rw [eng, eng, h]

/-- Keeping the levels of pins changes the levels last driven and nothing else (R357). -/
theorem keepLevels_eq (es : List Nat) (s : State) : ∃ l, keepLevels es s = penMod (fun q => { q with last := l }) s := by
  unfold keepLevels penMod
  split <;> exact ⟨_, rfl⟩

@[simp] theorem eng_keepLevels (es : List Nat) (s : State) (e : Nat) : eng (keepLevels es s) e = eng s e := by
  obtain ⟨l, hl⟩ := keepLevels_eq es s
  rw [hl]
  rfl

theorem keepLevels_rst (es : List Nat) (s : State) : (keepLevels es s).rst = s.rst := (Laws.within_keepLevels es s).rst rfl

/-- Engine `g` halted in STATE `st` (R369). -/
def haltedIn (st : Nat) (g : Engine) : Engine := { g with st := st, dirty := false, begun := false }

theorem haltEng_halted {s : State} {e : Nat} (st cause : Nat) (h : engHalted s e = true) : haltEng e st cause s = s := by
  rw [haltEng, if_pos h]

theorem haltEng_running {s : State} {e : Nat} (st cause : Nat) (h : engHalted s e = false) : haltEng e st cause s =
    raise 0x807 (engFid e) [cause] 5 (coEng e) (setEng e (haltedIn st (eng s e)) (keepLevels [e] s)) := by
  rw [haltEng, if_neg (by simp [h]), engMod_eq, eng_keepLevels, haltedIn]

theorem eng_haltEng (s : State) (e st cause k : Nat) :
    eng (haltEng e st cause s) k = if k = e ∧ engHalted s e = false then haltedIn st (eng s e) else eng s k := by
  cases h : engHalted s e
  · rw [haltEng_running st cause h, eng_congr (raise_pen ..), eng_setEng, eng_keepLevels]
    simp
  · rw [haltEng_halted st cause h]
    simp

theorem haltEng_rst (s : State) (e st cause : Nat) : (haltEng e st cause s).rst = s.rst := (Laws.within_haltEng e st cause s).rst rfl

/-- An engine that is halted while the event tree takes occurrences is reported (R369). -/
theorem haltEng_eventPending {s : State} {e : Nat} (st cause : Nat) (h : engHalted s e = false) (hev : eventsTaken s = true) :
    eventPending (haltEng e st cause s) 0x807 = true := by
  rw [haltEng_running st cause h]
  exact raise_eventPending _ _ _ _ _ ((eventsTaken_of_rst (keepLevels_rst [e] s)).trans hev)

/-- A fault halts a running engine in STATE 4 with its two events (R367). -/
theorem engFault_running {s : State} {e : Nat} (h : engHalted s e = false) (hev : eventsTaken s = true) :
    eng (engFault e s) e = haltedIn 4 (eng s e) ∧ (∀ k, k ≠ e → eng (engFault e s) k = eng s k) ∧
      eventPending (engFault e s) 0x807 = true ∧ eventPending (engFault e s) 0x808 = true := by
  have heng : ∀ k, eng (engFault e s) k = if k = e ∧ engHalted s e = false then haltedIn 4 (eng s e) else eng s k := fun k =>
    (eng_congr (raise_pen ..) k).trans (eng_haltEng s e 4 2 k)
  refine ⟨(heng e).trans (if_pos ⟨rfl, h⟩), fun k hk => (heng k).trans (if_neg fun hc => hk hc.1), ?_, ?_⟩
  · exact raise_keeps_pending _ _ _ _ _ (haltEng_eventPending 4 2 h hev)
  · exact raise_eventPending _ _ _ _ _ ((eventsTaken_of_rst (haltEng_rst s e 4 2)).trans hev)

theorem constOp_pc (w : Nat) (g : Engine) : (constOp w g).pc = g.pc := by
  unfold constOp
  dsimp only
  split <;> rfl

/-- CONST at LIMIT leaves its result, and the engine halts (R367). -/
theorem const_at_limit {s : State} {e : Nat} (h : atStep s e 0xD = true) (hlim : progLimit s e < progBase s e + (eng s e).pc + 1)
    (hev : eventsTaken s = true) : (eng (const e s) e).st = 4 ∧ (∀ k, k ≠ e → eng (const e s) k = eng s k) ∧
      eventPending (const e s) 0x807 = true ∧ eventPending (const e s) 0x808 = true := by
  let u := { constOp (curWord s e) (eng s e) with
    pc := (eng s e).pc + 1, delay := dlyOf (curWord s e), st := 1, begun := false, shift := none, edge := false }
  have hconst : const e s = engFault e (setEng e u s) := by
    rw [const, runStep, if_pos h, nextStep, stepEnd, engMod_eq, eng_setEng_same, engMod_eq, eng_setEng_same, setEng_setEng,
      constOp_pc]
    exact if_pos hlim
  have hrun : engHalted (setEng e u s) e = false := by simp [engHalted, u]
  obtain ⟨hst, hother, hhalt, hfault⟩ := engFault_running hrun ((eventsTaken_of_rst rfl).trans hev)
  rw [hconst]
  refine ⟨congrArg Engine.st hst, fun k hk => ?_, hhalt, hfault⟩
  rw [hother k hk, eng_setEng, if_neg hk]

/-- An engine at a step runs. -/
theorem running_of_atStep {s : State} {e op : Nat} (h : atStep s e op = true) : engHalted s e = false := by
  simp only [atStep, Bool.and_eq_true, Bool.not_eq_true'] at h
  obtain ⟨⟨⟨⟨-, hrun⟩, -⟩, -⟩, -⟩ := h
  exact hrun

/-- HALT halts its engine at its own step, and the pins keep their levels (R357, R369). -/
theorem haltStep_halts {s : State} {e : Nat} (h : atStep s e 0xE = true) (hev : eventsTaken s = true) :
    eventPending (haltStep e s) 0x807 = true ∧ eng (haltStep e s) e = haltedIn 3 (eng s e) ∧
      (∀ k, k ≠ e → eng (haltStep e s) k = eng s k) ∧ { (haltStep e s).pen with eng := s.pen.eng } = (keepLevels [e] s).pen := by
  have hrun := running_of_atStep h
  have hhalt : haltStep e s = haltEng e 3 1 s := by rw [haltStep, runStep, if_pos h]
  rw [hhalt]
  refine ⟨haltEng_eventPending 3 1 hrun hev, ?_, fun k hk => ?_, ?_⟩
  · rw [eng_haltEng, if_pos ⟨rfl, hrun⟩]
  · rw [eng_haltEng, if_neg fun hc => hk hc.1]
  · obtain ⟨l, hl⟩ := keepLevels_eq [e] s
    rw [haltEng_running 3 1 hrun, raise_pen, hl]
    rfl

/-- Settles O35: each step by its equation above. -/
theorem pinStepsComputeAndGoOn : Obligations.PinStepsComputeAndGoOn := by
  refine ⟨fun s e w o g h ho => ?_, fun s e w g h => ?_, fun s e w g h htarget => ?_, fun s e w g h htarget => ?_,
    fun s e w h hw hlim hev => ?_, fun s e g h hg hev => ?_⟩
  · refine ⟨_, congrArg Host.Outcome.next (drive_sets_outputs h ho), onlyEngine_setEng s e _, rfl⟩
  · obtain ⟨u, hu, hx, hy, hxs⟩ := sample_takes_inputs h
    refine ⟨_, congrArg Host.Outcome.next hu, rfl, fun hd => ?_, fun hd => ?_, fun hd => ?_⟩
    · exact hx hd ▸ onlyEngine_setEng s e _
    · exact hy hd ▸ onlyEngine_setEng s e _
    · exact hxs hd ▸ onlyEngine_setEng s e _
  · obtain ⟨u, hu, hset0, hset1, hdec0, hdec1, hx⟩ := count_sets_or_decrements h htarget
    refine ⟨_, congrArg Host.Outcome.next hu, rfl, fun hd => ?_, fun hd => ?_, fun hd => ?_, fun hd => ?_, fun hd => ?_⟩
    · exact hset0 hd ▸ onlyEngine_setEng s e _
    · exact hset1 hd ▸ onlyEngine_setEng s e _
    · exact hdec0 hd ▸ onlyEngine_setEng s e _
    · exact hdec1 hd ▸ onlyEngine_setEng s e _
    · exact hx hd ▸ onlyEngine_setEng s e _
  · obtain ⟨hc0, hc1⟩ := count_jumps h htarget
    refine ⟨count e s, rfl, fun hd hc => ?_, fun hd hc => ?_⟩
    · exact hc0 hd hc ▸ ⟨rfl, onlyEngine_setEng s e _⟩
    · exact hc1 hd hc ▸ ⟨rfl, onlyEngine_setEng s e _⟩
  · exact ⟨const e s, rfl, const_at_limit h hlim hev⟩
  · subst hg
    exact ⟨haltStep e s, rfl, haltStep_halts h hev⟩

end Sys2Proof.Proofs
end

section
/-! PROOFS. SHIFT: what one phase does to its engine, and the bits that go out and in as phases pass (R363). -/

namespace Sys2Proof.Proofs

open Sys2Proof Sys2Proof.Machine

/-! ### Outputs that are set again -/

/-- Of two bits that are set, the one that is set again shows its last value alone. -/
theorem setBits_again (o k j x y z : Nat) :
    setBits (setBits (setBits o k k x) j j y) k k z = setBits (setBits o j j y) k k z := by
  refine Nat.eq_of_testBit_eq (fun i => ?_)
  simp only [testBit_setBits]
  by_cases hk : k ≤ i ∧ i < k + (k - k + 1)
  · simp only [if_pos hk]
  · simp only [if_neg hk]

theorem setBits_twice (o k x z : Nat) : setBits (setBits o k k x) k k z = setBits o k k z := by
  refine Nat.eq_of_testBit_eq (fun i => ?_)
  simp only [testBit_setBits]
  by_cases hk : k ≤ i ∧ i < k + (k - k + 1)
  · simp only [if_pos hk]
  · simp only [if_neg hk]

section
variable (s : State) (e w m n o : Nat) (g : Engine) (a b : Bool)

theorem doutSet_doutSet : doutSet s e w n g (doutSet s e w m g o) = doutSet s e w n g o := by
  unfold doutSet
  split
  · rfl
  · exact setBits_twice ..

theorem clkSet_clkSet : clkSet s e a (clkSet s e b o) = clkSet s e a o := setBits_twice ..

theorem doutSet_clkSet_doutSet : doutSet s e w n g (clkSet s e a (doutSet s e w m g o)) = doutSet s e w n g (clkSet s e a o) := by
  unfold doutSet
  split
  · rfl
  · exact setBits_again ..

theorem clkSet_doutSet_clkSet : clkSet s e a (doutSet s e w m g (clkSet s e b o)) = clkSet s e a (doutSet s e w m g o) := by
  unfold doutSet
  split
  · exact clkSet_clkSet ..
  · exact setBits_again ..

end

/-! ### OSR and ISR as bits pass -/

/-- Engine `g` after one whole bit of SHIFT `w` that samples `din`, in the registers of the model (R363). -/
def bitTaken (w : Nat) (din : Bool) (g : Engine) : Engine := { g with
  osr := if opdOf w / 4 = 1 then g.osr else (osrOut (opdOf w / 2 % 2 == 1) g.osr).2
  isr := if opdOf w / 4 = 0 then g.isr else isrIn (opdOf w / 2 % 2 == 1) din g.isr }

theorem b2n_bit (v i : Nat) : b2n (bit v i) = v / 2 ^ i % 2 := by
  rcases Nat.mod_two_eq_zero_or_one (v / 2 ^ i) with h | h <;> simp [b2n, bit, h]

section
variable {w m b : Nat} {g : Engine}

theorem bitsShifted_mode_in (h : opdOf w / 4 = 1) : (bitsShifted w m b g).osr = g.osr := by
  unfold bitsShifted
  split <;> rfl

theorem bitsShifted_mode_out (h : opdOf w / 4 = 0) : (bitsShifted w m b g).isr = g.isr := by
  unfold bitsShifted
  split <;> rfl

theorem bitsShifted_osr_lsb (hmode : opdOf w / 4 ≠ 1) (hl : opdOf w / 2 % 2 = 1) : (bitsShifted w m b g).osr = g.osr / 2 ^ m := by
  unfold bitsShifted
  split
  · next hm => rw [hm, pow_zero, Nat.div_one]
  · rfl

theorem bitsShifted_osr_msb (hmode : opdOf w / 4 ≠ 1) (hl : opdOf w / 2 % 2 ≠ 1) :
    (bitsShifted w m b g).osr ≡ g.osr * 2 ^ m [MOD 2 ^ 32] := by
  unfold bitsShifted
  split
  · next hm => rw [hm, pow_zero, Nat.mul_one]
  · simpa only [if_neg hmode, if_neg hl] using Nat.mod_modEq _ _

theorem bitsShifted_isr_lsb (hmode : opdOf w / 4 ≠ 0) (hl : opdOf w / 2 % 2 = 1) :
    (bitsShifted w m b g).isr = g.isr / 2 ^ m + b * (2 ^ 32 - 2 ^ (32 - m)) := by
  unfold bitsShifted
  split
  · next hm => simp [hm]
  · rfl

theorem bitsShifted_isr_msb (hmode : opdOf w / 4 ≠ 0) (hl : opdOf w / 2 % 2 ≠ 1) :
    (bitsShifted w m b g).isr ≡ g.isr * 2 ^ m + b * (2 ^ m - 1) [MOD 2 ^ 32] := by
  unfold bitsShifted
  split
  · next hm => simp [hm, Nat.ModEq]
  · simpa only [if_neg hmode, if_neg hl] using Nat.mod_modEq _ _

theorem bitsShifted_pc (w m b : Nat) (g : Engine) : (bitsShifted w m b g).pc = g.pc := by
  unfold bitsShifted
  split <;> rfl

/-- Registers that are no part of a SHIFT stay. -/
theorem bitsShifted_with (x y : Nat) : { bitsShifted w m b g with osr := x, isr := y } = { g with osr := x, isr := y } := by
  unfold bitsShifted
  split <;> rfl

/-- The bit that OSR gives next after `m` bits (R363). -/
theorem shiftedBit_succ (hmode : opdOf w / 4 ≠ 1) (hm : m < 32) :
    b2n (osrOut (opdOf w / 2 % 2 == 1) (bitsShifted w m b g).osr).1 = shiftedBit w (m + 1) g := by
  unfold osrOut shiftedBit
  by_cases hl : opdOf w / 2 % 2 = 1
  · simp [hl, b2n_bit, bitsShifted_osr_lsb hmode hl]
  · have hbit : (bitsShifted w m b g).osr.testBit 31 = g.osr.testBit (31 - m) := by
      have hmod := congrArg (Nat.testBit · 31) (bitsShifted_osr_msb (b := b) (m := m) (g := g) hmode hl)
      simpa only [Nat.testBit_mod_two_pow, Nat.testBit_mul_two_pow, Nat.reduceLT, decide_true, Bool.true_and,
        show m ≤ 31 by omega] using hmod
    simp only [beq_iff_eq, hl, if_false]
    rw [bit_eq_testBit, hbit, ← bit_eq_testBit, b2n_bit, Nat.add_comm m, Nat.sub_add_eq]

theorem osr_after_bit (hmode : opdOf w / 4 ≠ 1) :
    (bitsShifted w (m + 1) b g).osr = (osrOut (opdOf w / 2 % 2 == 1) (bitsShifted w m b g).osr).2 := by
  by_cases hl : opdOf w / 2 % 2 = 1
  · simp [osrOut, hl, bitsShifted_osr_lsb hmode hl, Nat.div_div_eq_div_mul, pow_succ]
  · have hdouble := (bitsShifted_osr_msb (b := b) (m := m) (g := g) hmode hl).mul_right 2
    rw [Nat.mul_assoc, ← pow_succ] at hdouble
    have hword : (bitsShifted w (m + 1) b g).osr = g.osr * 2 ^ (m + 1) % 2 ^ 32 := by simp [bitsShifted, hmode, hl]
    simpa [hword, osrOut, hl, Nat.ModEq] using hdouble.symm

theorem isr_after_bit (din : Bool) (hmode : opdOf w / 4 ≠ 0) (hm : m < 32) :
    (bitsShifted w (m + 1) (b2n din) g).isr = isrIn (opdOf w / 2 % 2 == 1) din (bitsShifted w m (b2n din) g).isr := by
  by_cases hl : opdOf w / 2 % 2 = 1
  · have hhigh : 2 ^ (32 - m) = 2 * 2 ^ (31 - m) := by rw [← pow_succ']; congr 1; omega
    have hle : 2 ^ (31 - m) ≤ 2 ^ 31 := Nat.pow_le_pow_right (by decide) (by omega)
    rw [bitsShifted_isr_lsb hmode hl, bitsShifted_isr_lsb hmode hl, hhigh, pow_succ, ← Nat.div_div_eq_div_mul,
      show 32 - (m + 1) = 31 - m by omega]
    generalize 2 ^ (31 - m) = k at *
    cases din
    · simp [isrIn, hl, b2n]
    · simp [isrIn, hl, b2n]
      omega
  · have hpos : 0 < 2 ^ m := by positivity
    have hbits : (g.isr * 2 ^ m + b2n din * (2 ^ m - 1)) * 2 + b2n din = g.isr * 2 ^ (m + 1) + b2n din * (2 ^ (m + 1) - 1) := by
      rw [pow_succ, ← Nat.mul_assoc]
      cases din
      · simp [b2n]
      · simp [b2n]
        omega
    have hnext := ((bitsShifted_isr_msb (b := b2n din) (m := m) (g := g) hmode hl).mul_right 2).add_right (b2n din)
    rw [hbits] at hnext
    have hword : (bitsShifted w (m + 1) (b2n din) g).isr = (g.isr * 2 ^ (m + 1) + b2n din * (2 ^ (m + 1) - 1)) % 2 ^ 32 := by
      simp [bitsShifted, hmode, hl]
    simpa [hword, isrIn, hl, Nat.ModEq] using hnext.symm

/-- One more bit that is shifted is one more bit that the model takes (R363). -/
theorem bitsShifted_succ (din : Bool) (hm : m < 32) : bitsShifted w (m + 1) (b2n din) g = bitTaken w din (bitsShifted w m (b2n din) g) := by
  have hosr : (bitsShifted w (m + 1) (b2n din) g).osr = if opdOf w / 4 = 1 then (bitsShifted w m (b2n din) g).osr
      else (osrOut (opdOf w / 2 % 2 == 1) (bitsShifted w m (b2n din) g).osr).2 := by
    split
    · next hmode => rw [bitsShifted_mode_in hmode, bitsShifted_mode_in hmode]
    · next hmode => exact osr_after_bit hmode
  have hisr : (bitsShifted w (m + 1) (b2n din) g).isr = if opdOf w / 4 = 0 then (bitsShifted w m (b2n din) g).isr
      else isrIn (opdOf w / 2 % 2 == 1) din (bitsShifted w m (b2n din) g).isr := by
    split
    · next hmode => rw [bitsShifted_mode_out hmode, bitsShifted_mode_out hmode]
    · next hmode => exact isr_after_bit din hmode hm
  rw [bitTaken, bitsShifted_with, ← hosr, ← hisr]
  exact bitsShifted_with (w := w) (m := m + 1) (b := b2n din) (g := g) _ _

end

/-! ### Phases that pass -/

theorem shiftPhases_done {s : State} {e : Nat} (w n : Nat) (h : (eng s e).shift = some (0, false)) : shiftPhases e w n s = s := by
  cases n with
  | zero => rfl
  | succ n => rw [shiftPhases, h, beq_self_eq_true, if_pos rfl]

theorem shiftPhases_succ {s : State} {e : Nat} (w n : Nat) (h : (eng s e).shift ≠ some (0, false)) :
    shiftPhases e w (n + 1) s = shiftPhases e w n (shiftPhase e w s) := by
  rw [shiftPhases, if_neg (by simpa using h)]

theorem shiftPhases_add (e w m n : Nat) (s : State) : shiftPhases e w (m + n) s = shiftPhases e w n (shiftPhases e w m s) := by
  induction m generalizing s with
  | zero => rw [Nat.zero_add, shiftPhases]
  | succ m ih =>
    by_cases h : (eng s e).shift = some (0, false)
    · rw [shiftPhases_done w _ h, shiftPhases_done w _ h, shiftPhases_done w _ h]
    · rw [Nat.add_right_comm, shiftPhases_succ w _ h, shiftPhases_succ w _ h, ih]

/-- The input that the SHIFT of engine `e` samples (R363). -/
def dinBit (s : State) (e : Nat) : Bool := bit (inputs s e) (efld s Reg.PEN_ENG_CFG e 7 4)

/-- Engine `g` after `m` whole bits of the `n` of a SHIFT without CLK (R363). -/
def plainBits (s : State) (e w n : Nat) (g : Engine) (m : Nat) : Engine :=
  { bitsShifted w m (b2n (dinBit s e)) g with
    out := if m = 0 then g.out else doutSet s e w m g g.out, shift := some (n - m, false), st := 1 }

/-- Engine `g` after `m` whole bits of the `n` of a SHIFT with CLK (R363). -/
def clockedBits (s : State) (e w n : Nat) (g : Engine) (m : Nat) : Engine :=
  { bitsShifted w m (b2n (dinBit s e)) g with
    out := if m = 0 then g.out else clkSet s e true (doutSet s e w m g g.out), shift := some (n - m, false), st := 1 }

/-- Engine `g` after `m` whole bits of the `n` of a SHIFT with CLK and the inactive phase of the next one (R363). -/
def clockedHalf (s : State) (e w n : Nat) (g : Engine) (m : Nat) : Engine :=
  { bitsShifted w m (b2n (dinBit s e)) g with
    out := doutSet s e w (m + 1) g (clkSet s e false g.out), shift := some (n - m, true), st := 1 }

/-- Output register `o` with the next bit of OSR on DOUT, where the mode puts bits out (R363). -/
def doutNext (s : State) (e w osr o : Nat) : Nat :=
  if opdOf w / 4 = 1 then o else setOut (efld s Reg.PEN_ENG_PINS e 19 16) (osrOut (opdOf w / 2 % 2 == 1) osr).1 o

theorem doutNext_bitsShifted (s : State) (e w b o : Nat) (g : Engine) {m : Nat} (hm : m < 32) :
    doutNext s e w (bitsShifted w m b g).osr o = doutSet s e w (m + 1) g o := by
  unfold doutNext doutSet
  split
  · rfl
  · next hmode => rw [setOut, shiftedBit_succ hmode hm]

theorem clkSet_inactive (s : State) (e o : Nat) :
    clkSet s e false o = setOut (efld s Reg.PEN_ENG_PINS e 3 0) (rbit s (Reg.PEN_ENG_CFG + 0x20 * e) 3) o := by
  rw [clkSet, Bool.false_bne, setOut]

theorem clkSet_active (s : State) (e o : Nat) :
    clkSet s e true o = setOut (efld s Reg.PEN_ENG_PINS e 3 0) (!rbit s (Reg.PEN_ENG_CFG + 0x20 * e) 3) o := by
  rw [clkSet, Bool.true_bne, setOut]

section
variable {s : State} {e w n m : Nat} {g : Engine}

/-- A phase that places the next bit, with CLK inactive. -/
theorem shiftPhase_inactive {u : Engine} {left : Nat} (hclk : opdOf w % 2 = 1) (hu : u.shift = some (left, false)) :
    shiftPhase e w (setEng e u s) = setEng e { u with
      out := doutNext s e w u.osr (clkSet s e false u.out), shift := some (left, true), st := 1 } s := by
  rw [shiftPhase, engMod_eq, eng_setEng_same, setEng_setEng, clkSet_inactive, doutNext]
  simp only [hclk, hu]
  rfl

/-- A phase that takes the bit, with CLK active. -/
theorem shiftPhase_active {u : Engine} {left : Nat} (hclk : opdOf w % 2 = 1) (hu : u.shift = some (left, true)) :
    shiftPhase e w (setEng e u s) = setEng e { bitTaken w (dinBit s e) u with
      out := clkSet s e true u.out, shift := some (left - 1, false), st := 1 } s := by
  rw [shiftPhase, engMod_eq, eng_setEng_same, setEng_setEng, clkSet_active, bitTaken]
  simp only [hclk, hu]
  rfl

/-- A phase that places and takes the bit, without CLK. -/
theorem shiftPhase_plain {u : Engine} {left : Nat} (hclk : opdOf w % 2 = 0) (hu : u.shift = some (left, false)) :
    shiftPhase e w (setEng e u s) = setEng e { bitTaken w (dinBit s e) u with
      out := doutNext s e w u.osr u.out, shift := some (left - 1, false), st := 1 } s := by
  rw [shiftPhase, engMod_eq, eng_setEng_same, setEng_setEng, doutNext, bitTaken]
  simp only [hclk, hu]
  rfl

theorem shiftPhase_plainBits (hclk : opdOf w % 2 = 0) (hm : m < 32) :
    shiftPhase e w (setEng e (plainBits s e w n g m) s) = setEng e (plainBits s e w n g (m + 1)) s := by
  have hout : doutNext s e w (bitsShifted w m (b2n (dinBit s e)) g).osr (plainBits s e w n g m).out = doutSet s e w (m + 1) g g.out := by
    rw [doutNext_bitsShifted _ _ _ _ _ _ hm, plainBits]
    split
    · rfl
    · exact doutSet_doutSet ..
  conv_rhs => rw [plainBits, bitsShifted_succ _ hm, if_neg (Nat.succ_ne_zero m), ← hout]
  rw [shiftPhase_plain hclk rfl]
  rfl

theorem shiftPhase_clockedBits (hclk : opdOf w % 2 = 1) (hm : m < 32) :
    shiftPhase e w (setEng e (clockedBits s e w n g m) s) = setEng e (clockedHalf s e w n g m) s := by
  have hout : doutNext s e w (bitsShifted w m (b2n (dinBit s e)) g).osr (clkSet s e false (clockedBits s e w n g m).out) =
      doutSet s e w (m + 1) g (clkSet s e false g.out) := by
    rw [doutNext_bitsShifted _ _ _ _ _ _ hm, clockedBits]
    split
    · rfl
    · rw [clkSet_clkSet, doutSet_clkSet_doutSet]
  rw [shiftPhase_inactive hclk rfl, clockedHalf, ← hout]
  rfl

theorem shiftPhase_clockedHalf (hclk : opdOf w % 2 = 1) (hm : m < 32) :
    shiftPhase e w (setEng e (clockedHalf s e w n g m) s) = setEng e (clockedBits s e w n g (m + 1)) s := by
  rw [shiftPhase_active hclk rfl, clockedBits, bitsShifted_succ _ hm, if_neg (Nat.succ_ne_zero m), ← clkSet_doutSet_clkSet]
  rfl

/-- The first phase of a SHIFT finds all its bits left. -/
theorem shiftPhases_begin (k : Nat) (hg : eng s e = g) (hs : g.shift = none) (hn : 0 < immOf w % 64) :
    shiftPhases e w (k + 1) s = shiftPhases e w (k + 1) (setEng e { g with shift := some (immOf w % 64, false), st := 1 } s) := by
  have hphase : shiftPhase e w s = shiftPhase e w (setEng e { g with shift := some (immOf w % 64, false), st := 1 } s) := by
    rw [shiftPhase, shiftPhase, engMod_eq, engMod_eq, eng_setEng_same, setEng_setEng, hg, hs]
    rfl
  rw [shiftPhases_succ, shiftPhases_succ, hphase]
  · rw [eng_setEng_same]
    simpa using hn.ne'
  · rw [hg, hs]
    simp

theorem shiftPhases_plainBits (hclk : opdOf w % 2 = 0) (hm : m ≤ n) (hn : n ≤ 32) :
    shiftPhases e w m (setEng e (plainBits s e w n g 0) s) = setEng e (plainBits s e w n g m) s := by
  induction m with
  | zero => rfl
  | succ m ih =>
    have hleft : (eng (setEng e (plainBits s e w n g m) s) e).shift ≠ some (0, false) := by
      rw [eng_setEng_same, plainBits]
      simp
      omega
    rw [shiftPhases_add, ih (by omega), shiftPhases_succ w 0 hleft, shiftPhases, shiftPhase_plainBits hclk (by omega)]

theorem shiftPhases_one_clockedBits (hclk : opdOf w % 2 = 1) (hm : m < n) (hn : n ≤ 32) :
    shiftPhases e w 1 (setEng e (clockedBits s e w n g m) s) = setEng e (clockedHalf s e w n g m) s := by
  have hleft : (eng (setEng e (clockedBits s e w n g m) s) e).shift ≠ some (0, false) := by
    rw [eng_setEng_same, clockedBits]
    simp
    omega
  rw [shiftPhases_succ w 0 hleft, shiftPhases, shiftPhase_clockedBits hclk (by omega)]

theorem shiftPhases_one_clockedHalf (hclk : opdOf w % 2 = 1) (hm : m < 32) :
    shiftPhases e w 1 (setEng e (clockedHalf s e w n g m) s) = setEng e (clockedBits s e w n g (m + 1)) s := by
  have hleft : (eng (setEng e (clockedHalf s e w n g m) s) e).shift ≠ some (0, false) := by
    rw [eng_setEng_same, clockedHalf]
    simp
  rw [shiftPhases_succ w 0 hleft, shiftPhases, shiftPhase_clockedHalf hclk hm]

/-- With CLK a bit takes two phases. -/
theorem shiftPhases_clockedBits (hclk : opdOf w % 2 = 1) (hm : m ≤ n) (hn : n ≤ 32) :
    shiftPhases e w (2 * m) (setEng e (clockedBits s e w n g 0) s) = setEng e (clockedBits s e w n g m) s := by
  induction m with
  | zero => rfl
  | succ m ih =>
    rw [show 2 * (m + 1) = 2 * m + 1 + 1 by omega, shiftPhases_add, shiftPhases_add, ih (by omega),
      shiftPhases_one_clockedBits hclk (by omega) hn, shiftPhases_one_clockedHalf hclk (by omega)]

theorem shiftPhases_clockedHalf (hclk : opdOf w % 2 = 1) (hm : m < n) (hn : n ≤ 32) :
    shiftPhases e w (2 * m + 1) (setEng e (clockedBits s e w n g 0) s) = setEng e (clockedHalf s e w n g m) s := by
  rw [shiftPhases_add, shiftPhases_clockedBits hclk hm.le hn, shiftPhases_one_clockedBits hclk hm hn]

end

/-! ### The step -/

section
variable {s : State} {e w n k : Nat} {g u : Engine}

/-- A SHIFT that is not given all its phases stays in progress. -/
theorem shift_in_progress (h : standsAt s e 0x2 w g) (hk : k ≤ 64) (hu : shiftPhases e w k s = setEng e u s)
    (hleft : u.shift ≠ some (0, false)) : shift e k s = setEng e u s := by
  rw [shift, runStep_of_standsAt h, Nat.min_eq_left hk]
  dsimp only
  rw [hu, eng_setEng_same, if_neg hleft]

/-- A SHIFT that is given all its phases ends with the clock at its inactive level, and the engine goes on. -/
theorem shift_done (h : runsAt s e 0x2 w g) (hu : shiftPhases e w (min k 64) s = setEng e u s) (hpc : u.pc = g.pc)
    (hleft : u.shift = some (0, false)) :
    shift e k s = setEng e (stepPast { u with out := if opdOf w % 2 = 1 then clkSet s e false u.out else u.out } w) s := by
  rw [shift, runStep_of_runsAt h]
  dsimp only
  rw [hu, eng_setEng_same, if_pos hleft, clkSet_inactive]
  split
  · rw [engMod_eq, eng_setEng_same, setEng_setEng]
    exact nextStep_setEng_of_runsAt h hpc
  · exact nextStep_setEng_of_runsAt h hpc

variable (hs : g.shift = none) (hn : n = immOf w % 64) (hn32 : n ≤ 32)
include hs hn hn32

theorem shiftPhases_plain_from_begin (hg : eng s e = g) (hclk : opdOf w % 2 = 0) (hk : 0 < k) (hkn : k ≤ n) :
    shiftPhases e w k s = setEng e (plainBits s e w n g k) s := by
  obtain ⟨j, rfl⟩ := Nat.exists_eq_add_of_lt hk
  rw [Nat.zero_add] at *
  rw [shiftPhases_begin j hg hs (by omega), ← hn]
  exact shiftPhases_plainBits hclk hkn hn32

theorem shiftPhases_clocked_from_begin (hg : eng s e = g) (hclk : opdOf w % 2 = 1) (hk : 0 < k) (hkn : k ≤ 2 * n) :
    shiftPhases e w k s =
      setEng e (if k % 2 = 1 then clockedHalf s e w n g (k / 2) else clockedBits s e w n g (k / 2)) s := by
  obtain ⟨j, rfl⟩ := Nat.exists_eq_add_of_lt hk
  rw [Nat.zero_add] at *
  rw [shiftPhases_begin j hg hs (by omega), ← hn]
  split
  · have hodd : j + 1 = 2 * ((j + 1) / 2) + 1 := by omega
    exact (congrArg (shiftPhases e w · _) hodd).trans (shiftPhases_clockedHalf hclk (by omega) hn32)
  · have heven : j + 1 = 2 * ((j + 1) / 2) := by omega
    exact (congrArg (shiftPhases e w · _) heven).trans (shiftPhases_clockedBits hclk (by omega) hn32)

/-- Phases beyond the last one of a SHIFT do nothing. -/
theorem shiftPhases_whole (hg : eng s e = g) (hpos : 1 ≤ n) (hk : n * (1 + opdOf w % 2) ≤ k) : shiftPhases e w (min k 64) s =
    setEng e (if opdOf w % 2 = 1 then clockedBits s e w n g n else plainBits s e w n g n) s := by
  rcases Nat.mod_two_eq_zero_or_one (opdOf w) with hclk | hclk
  · rw [hclk, Nat.mul_one] at hk
    obtain ⟨r, hr⟩ := Nat.exists_eq_add_of_le (show n ≤ min k 64 by omega)
    have hdone : (plainBits s e w n g n).shift = some (0, false) := by rw [plainBits, Nat.sub_self]
    rw [hr, shiftPhases_add, shiftPhases_plain_from_begin hs hn hn32 hg hclk hpos le_rfl, if_neg (by omega)]
    exact shiftPhases_done w r ((congrArg Engine.shift (eng_setEng_same ..)).trans hdone)
  · rw [hclk] at hk
    obtain ⟨r, hr⟩ := Nat.exists_eq_add_of_le (show 2 * n ≤ min k 64 by omega)
    have hdone : (clockedBits s e w n g n).shift = some (0, false) := by rw [clockedBits, Nat.sub_self]
    rw [hr, shiftPhases_add, shiftPhases_clocked_from_begin hs hn hn32 hg hclk (by omega) le_rfl, if_neg (by omega), if_pos hclk,
      Nat.mul_div_cancel_left n two_pos]
    exact shiftPhases_done w r ((congrArg Engine.shift (eng_setEng_same ..)).trans hdone)

/-- A SHIFT that is given all its phases moves all its bits (R363). -/
theorem shift_moves_bits (h : runsAt s e 0x2 w g) (hpos : 1 ≤ n) (hk : n * (1 + opdOf w % 2) ≤ k) : shift e k s =
    setEng e (stepPast { bitsShifted w n (b2n (dinBit s e)) g with
      out := if opdOf w % 2 = 1 then clkSet s e false (doutSet s e w n g g.out) else doutSet s e w n g g.out } w) s := by
  have hphases := shiftPhases_whole hs hn hn32 (eng_of_runsAt h) hpos hk
  have hn0 : n ≠ 0 := Nat.one_le_iff_ne_zero.mp hpos
  by_cases hclk : opdOf w % 2 = 1
  · rw [if_pos hclk] at hphases
    rw [shift_done h hphases (bitsShifted_pc w n _ g) (by rw [clockedBits, Nat.sub_self]), if_pos hclk, if_pos hclk, clockedBits,
      if_neg hn0, clkSet_clkSet]
    rfl
  · rw [if_neg hclk] at hphases
    rw [shift_done h hphases (bitsShifted_pc w n _ g) (by rw [plainBits, Nat.sub_self]), if_neg hclk, if_neg hclk, plainBits,
      if_neg hn0]
    rfl

/-- A SHIFT without CLK in progress has moved one bit in each phase (R363). -/
theorem shift_plain_in_progress (h : standsAt s e 0x2 w g) (hclk : opdOf w % 2 = 0) (hk : 0 < k) (hkn : k < n) : shift e k s =
    setEng e { bitsShifted w k (b2n (dinBit s e)) g with
      out := doutSet s e w k g g.out, shift := some (n - k, false), st := 1 } s := by
  have hphases := shiftPhases_plain_from_begin hs hn hn32 (eng_of_standsAt h) hclk hk hkn.le
  rw [shift_in_progress h (by omega) hphases (by simp [plainBits]; omega), plainBits, if_neg hk.ne']

/-- A SHIFT with CLK in progress has moved one bit in every two phases (R363). -/
theorem shift_clocked_in_progress (h : standsAt s e 0x2 w g) (hclk : opdOf w % 2 = 1) (hk : 0 < k) (hkn : k < 2 * n) : shift e k s =
    setEng e { bitsShifted w (k / 2) (b2n (dinBit s e)) g with
      out := if k % 2 = 1 then doutSet s e w (k / 2 + 1) g (clkSet s e false g.out)
        else clkSet s e true (doutSet s e w (k / 2) g g.out)
      shift := some (n - k / 2, k % 2 == 1), st := 1 } s := by
  have hphases := shiftPhases_clocked_from_begin hs hn hn32 (eng_of_standsAt h) hclk hk hkn.le
  rcases Nat.mod_two_eq_zero_or_one k with hodd | hodd
  · rw [hodd, if_neg zero_ne_one] at hphases
    rw [shift_in_progress h (by omega) hphases (by simp [clockedBits]; omega), clockedBits, hodd, if_neg (by omega)]
    rfl
  · rw [hodd, if_pos rfl] at hphases
    rw [shift_in_progress h (by omega) hphases (by simp [clockedHalf]), clockedHalf, hodd]
    rfl

end

theorem shiftedBit_one (w : Nat) (g : Engine) :
    shiftedBit w 1 g = if opdOf w / 2 % 2 = 1 then g.osr % 2 else g.osr / 2 ^ 31 % 2 := by
  simp [shiftedBit]

/-- Settles O37: all the phases, and some of them with and without CLK. -/
theorem shiftMovesItsBits : Obligations.ShiftMovesItsBits := by
  refine ⟨?_, fun s e w g h hs hone hclk => ?_, ?_, ?_⟩
  · rintro s e w n phases b g h hs hn hpos hn32 - hk rfl
    exact completes_setEng rfl (shift_moves_bits hs hn hn32 h hpos hk)
  · have hshift := shift_moves_bits (k := 1) hs hone.symm (by decide) h le_rfl (by rw [hclk])
    refine ⟨shift e 1 s, rfl, ?_⟩
    beta_reduce
    rw [hshift, eng_setEng_same, if_neg (by omega), ← shiftedBit_one]
    rfl
  · rintro s e w n k b g h hs hn hclk - hk hkn hn32 rfl
    exact completes_setEng rfl (shift_plain_in_progress hs hn hn32 h hclk hk hkn)
  · rintro s e w n k b g h hs hn hclk - hk hkn hn32 rfl
    exact completes_setEng rfl (shift_clocked_in_progress hs hn hn32 h hclk hk hkn)

end Sys2Proof.Proofs
end

section
/-! PROOFS. The signal bus and SIGNAL (R365, R366), engines that are started and halted together (R368-R371), and writes of step words
(R370). -/

namespace Sys2Proof.Proofs

open Sys2Proof Sys2Proof.Machine

/-! ### Folds that change one thing in each step -/

/-- In a fold whose step at `a` changes of a view `V` what `a` names and keeps `I`, each name of the list is changed once, from what it was,
and every other name keeps what it was. -/
theorem foldl_each {β : Type} {V : State → Nat → β} {I : State → Prop} {f : State → Nat → State} {l : List Nat} {s : State} (hl : l.Nodup)
    (hI : ∀ u a, I u → I (f u a)) (hV : ∀ u a k, k ≠ a → V (f u a) k = V u k) (hs : I s) :
    I (l.foldl f s) ∧ (∀ k, k ∉ l → V (l.foldl f s) k = V s k) ∧
      ∀ k, k ∈ l → ∃ u, I u ∧ V u k = V s k ∧ V (l.foldl f s) k = V (f u k) k := by
  induction l generalizing s with
  | nil => exact ⟨hs, fun _ _ => rfl, fun k hk => absurd hk List.not_mem_nil⟩
  | cons a l ih =>
    obtain ⟨ha, hl⟩ := List.nodup_cons.mp hl
    obtain ⟨hlast, hout, hin⟩ := ih hl (hI s a hs)
    refine ⟨hlast, fun k hk => ?_, fun k hk => ?_⟩
    · obtain ⟨hka, hkl⟩ := List.ne_and_not_mem_of_not_mem_cons hk
      exact (hout k hkl).trans (hV s a k hka)
    · rcases List.mem_cons.mp hk with rfl | hkl
      · exact ⟨s, hs, rfl, hout k ha⟩
      · obtain ⟨u, hu, hsame, hstep⟩ := hin k hkl
        exact ⟨u, hu, hsame.trans (hV s a k fun h => ha (h ▸ hkl)), hstep⟩

/-! ### The signal bus (R365) -/

/-- The first change of the signal bus in its cycle. -/
theorem sigChange_first {s : State} (host : Option Nat) (clr set : Nat) (h : s.pen.sigCyc.at? ≠ some s.t) :
    (sigChange host clr set s).pen.sig = (host.getD s.pen.sig &&& (0xFFFF ^^^ clr)) ||| set := by
  simp only [sigChange, penMod_pen, if_neg h, SigCycle.reset, Nat.zero_or]
  cases host <;> rfl

/-- A later change in the same cycle: the host's word first, then every CLR, then every SET. -/
theorem sigChange_again {s : State} (host : Option Nat) (clr set : Nat) (h : s.pen.sigCyc.at? = some s.t) :
    (sigChange host clr set s).pen.sig = (((host.or s.pen.sigCyc.host).getD s.pen.sigCyc.was) &&&
      (0xFFFF ^^^ (s.pen.sigCyc.clr ||| clr))) ||| (s.pen.sigCyc.set ||| set) := by
  simp only [sigChange, penMod_pen, if_pos h]
  cases host <;> rfl

theorem sigChange_pen (host : Option Nat) (clr set : Nat) (s : State) :
    { (sigChange host clr set s).pen with sig := s.pen.sig, sigCyc := s.pen.sigCyc } = s.pen := rfl

theorem signalBusWrite_works {s : State} (v : Nat) (h : works s = true) : signalBusWrite v s = sigChange (some (v % 65536)) 0 0 s := by
  rw [signalBusWrite, if_pos h]

/-- Clearing no bit leaves the 16 bits of the bus. -/
theorem and_mask16 (v : Nat) : v &&& (0xFFFF ^^^ 0) = v % 65536 := Nat.and_two_pow_sub_one_eq_mod v 16

/-! ### SIGNAL (R365, R366) -/

section
variable {s : State} {e w : Nat} {g : Engine}

/-- A step that has changed no engine and no register goes on at the next one. -/
theorem nextStep_after {u : State} {op : Nat} (h : runsAt s e op w g) (hregs : u.regs = s.regs) (heng : eng u e = eng s e) :
    nextStep e w u = setEng e (stepPast g w) u := by
  obtain ⟨-, -, rfl, hlim⟩ := h
  rw [nextStep_within_program w, heng]
  rw [heng, progBase, progLimit, efld, efld, rfld_congr hregs, rfld_congr hregs]
  exact hlim

theorem signal_changes_bus (h : runsAt s e 0xB w g) (hd : opdOf w ≤ 1) : signal e s = setEng e (stepPast g w)
    (sigChange none (if opdOf w = 1 then immOf w else 0) (if opdOf w = 0 then immOf w else 0) s) := by
  rw [signal, runStep_of_runsAt h]
  rcases Nat.le_one_iff_eq_zero_or_eq_one.mp hd with hd | hd <;> rw [hd] <;> exact nextStep_after h rfl rfl

theorem signal_posts {fwd : Bool} (h : runsAt s e 0xB w g) (hd : opdOf w = if fwd then 3 else 4) :
    signal e s = setEng e (stepPast g w) (postEdge e fwd s) := by
  have hpost : (postEdge e fwd s).regs = s.regs ∧ eng (postEdge e fwd s) e = eng s e := by
    unfold postEdge
    split
    · exact ⟨rfl, rfl⟩
    · exact ⟨raise_regs .., eng_congr (raise_pen ..) e⟩
  rw [signal, runStep_of_runsAt h]
  cases fwd <;> rw [hd] <;> exact nextStep_after h hpost.1 hpost.2

theorem postEdge_from_encoder {fwd : Bool} (hs : rfld s Reg.TBS_SRC_CFG 1 0 = 0) (he : rfld s Reg.TBS_SRC_CFG 19 16 = e) :
    postEdge e fwd s = penMod (fun p => { p with posted := p.posted ++ [fwd] }) s := if_pos ⟨hs, he⟩

theorem postEdge_discarded {fwd : Bool} (h : rfld s Reg.TBS_SRC_CFG 1 0 ≠ 0 ∨ rfld s Reg.TBS_SRC_CFG 19 16 ≠ e) :
    postEdge e fwd s = raise 0x811 (engFid e) [e] 5 (coEng e) s := if_neg (by tauto)

theorem signal_raises_user_event (h : runsAt s e 0xB w g) (hd : opdOf w = 5) :
    signal e s = setEng e (stepPast g w) (raise 0x812 (engFid e) [e, immOf w % 256] 5 (coEng e) s) := by
  rw [signal, runStep_of_runsAt h, hd]
  exact nextStep_after h (raise_regs ..) (eng_congr (raise_pen ..) e)

/-- Two quadrature states that differ in both bits. -/
theorem quadrature_opposite {a b : Nat} (ha : a < 4) (hb : b < 4) (h : a ^^^ b = 3) :
    (a = 0 ∧ b = 3) ∨ (a = 1 ∧ b = 2) ∨ (a = 2 ∧ b = 1) ∨ (a = 3 ∧ b = 0) := by
  have hall : ∀ a : Fin 4, ∀ b : Fin 4, a.val ^^^ b.val = 3 →
      (a.val = 0 ∧ b.val = 3) ∨ (a.val = 1 ∧ b.val = 2) ∨ (a.val = 2 ∧ b.val = 1) ∨ (a.val = 3 ∧ b.val = 0) := by decide
  exact hall ⟨a, ha⟩ ⟨b, hb⟩ h

theorem signal_quadrature_error (h : runsAt s e 0xB w g) (hd : opdOf w = 2) (hx : bits g.x 3 2 ^^^ bits g.x 1 0 = 3) :
    signal e s = setEng e (stepPast g w) (raise 0x810 (engFid e) [] 5 (coEng e) s) := by
  have hnext := nextStep_after h (u := raise 0x810 (engFid e) [] 5 (coEng e) s) (raise_regs ..) (eng_congr (raise_pen ..) e)
  rw [signal, runStep_of_runsAt h, hd, ← hnext]
  have hnew : bits g.x 3 2 < 4 := Nat.mod_lt _ (by decide)
  have hold : bits g.x 1 0 < 4 := Nat.mod_lt _ (by decide)
  rcases quadrature_opposite hnew hold hx with
    ⟨ha, hb⟩ | ⟨ha, hb⟩ | ⟨ha, hb⟩ | ⟨ha, hb⟩ <;> simp only [ha, hb]

/-- A step that raises an event and goes on. -/
theorem completes_setEng_raised {c : Instr} {u : State} {code fid ctag coord : Nat} {args : List Nat} (hc : exec c s = .next u)
    (hu : u = setEng e g (raise code fid args ctag coord s)) (hev : eventsTaken s = true) :
    completes c s (fun t => onlyEngine s t e g ∧ eventPending t code = true) := by
  subst hu
  refine ⟨_, hc, ?_, raise_eventPending code fid args ctag coord hev⟩
  exact onlyEngine_congr (t := setEng e g s) (by rw [setEng, setEng, penMod_pen, penMod_pen, raise_pen]) (onlyEngine_setEng s e g)

end

/-! ### PEN_START (R368, R371) -/

theorem maskEngines_nodup (v : Nat) : (maskEngines v).Nodup := List.nodup_range.filter _

theorem ne_zero_of_mem_maskEngines {v e : Nat} (h : e ∈ maskEngines v) : v ≠ 0 := by
  rintro rfl
  simp [maskEngines, bit] at h

/-- The field of PEN_START and PEN_HALT takes a word of 16 bits whole. -/
theorem bits_low_half {v : Nat} (h : v < 65536) : bits v 15 0 = v := by
  rw [bits, pow_zero, Nat.div_one]
  exact Nat.mod_eq_of_lt h

/-- What the start of one engine leaves: the other engines, the windows of the programs and the function states. -/
theorem startEng_other (s : State) (a : Nat) {k : Nat} (h : k ≠ a) : eng (startEng s a) k = eng s k := by
  unfold startEng
  dsimp only
  split
  · rw [eng_congr (raise_pen ..), eng_congr (rsat_pen ..), eng_setEng, if_neg h]
  · have hset : ∀ (c : Bool) (g : Engine), eng (raiseIf c 0x80A (engFid a) [] 5 (coEng a) (setEng a g s)) k = eng s k := fun c g => by
      rw [eng_congr (raiseIf_pen ..), eng_setEng, if_neg h]
    split
    · rw [engFault, eng_congr (raise_pen ..), eng_haltEng, if_neg fun hc => h hc.1, hset]
    · exact hset _ _

theorem startEng_rst (s : State) (a : Nat) : (startEng s a).rst = s.rst := (Laws.within_startEng s a).rst rfl

theorem startEng_windows (s : State) (a e : Nat) :
    progBase (startEng s a) e = progBase s e ∧ progLimit (startEng s a) e = progLimit s e := by
  have hprog : rget (startEng s a) (Reg.PEN_ENG_PROG + 0x20 * e) = rget s (Reg.PEN_ENG_PROG + 0x20 * e) := by
    unfold startEng
    dsimp only
    split
    · have hne : Reg.PEN_ENG_PROG + 0x20 * e ≠ Reg.PEN_ENG_COUNT + 0x20 * a := by
        dsimp only [Reg.PEN_ENG_PROG, Reg.PEN_ENG_COUNT]
        omega
      rw [rget_congr (raise_regs ..), rsat, rget_rfset_other _ _ _ _ hne]
      rfl
    · split
      · rw [rget_congr ((Laws.within_engFault ..).regs rfl), rget_congr (raiseIf_regs ..)]
        rfl
      · rw [rget_congr (raiseIf_regs ..)]
        rfl
  exact ⟨rfld_of_rget hprog 10 0, rfld_of_rget hprog 26 16⟩

/-- An engine that starts runs from its first step after a program change, and else from the step where it halted (R371). -/
theorem startEng_starts {s : State} {e : Nat} (h : (eng s e).dirty = true ∨ progBase s e + (eng s e).pc ≤ progLimit s e) :
    (eng (startEng s e) e).st = 1 ∧ (eng (startEng s e) e).acc = 0 ∧
      (eng (startEng s e) e).pc = if (eng s e).dirty then 0 else (eng s e).pc := by
  unfold startEng
  dsimp only
  split
  · rw [eng_congr (raise_pen ..), eng_congr (rsat_pen ..), eng_setEng_same]
    exact ⟨rfl, rfl, rfl⟩
  · next hclean =>
    have hpc : ¬ progLimit s e < progBase s e + (eng s e).pc := Nat.not_lt.mpr (h.resolve_left hclean)
    rw [if_neg hpc, eng_congr (raiseIf_pen ..), eng_setEng_same]
    exact ⟨rfl, rfl, rfl⟩

/-- The function states and the windows of the programs are those of `s`. -/
def sameWindows (s u : State) : Prop :=
  u.rst = s.rst ∧ ∀ e, progBase u e = progBase s e ∧ progLimit u e = progLimit s e

theorem startEng_sameWindows {s u : State} (a : Nat) (h : sameWindows s u) : sameWindows s (startEng u a) := by
  obtain ⟨hrst, hwin⟩ := h
  refine ⟨(startEng_rst u a).trans hrst, fun e => ?_⟩
  obtain ⟨hbase, hlimit⟩ := startEng_windows u a e
  exact ⟨hbase.trans (hwin e).1, hlimit.trans (hwin e).2⟩

section
variable {s : State} {es : List Nat}

theorem startAll_starts (hready : ∀ e, e ∈ es → engHalted s e = true ∧ inReset s (engFid e) = false ∧ progBad s e = none) :
    (startAll false es s).2 = raise0 0x806 0x80300 [nsum (es.map (fun e => 2 ^ e))]
      (penMod (fun p => { p with awaitStart := p.awaitStart && p.clockBad }) (es.foldl startEng s)) := by
  have hbusy : es.any (fun e => !engHalted s e || inReset s (engFid e)) = false := by
    refine List.any_eq_false.mpr (fun e he => ?_)
    obtain ⟨hhalt, hreset, -⟩ := hready e he
    simp [hhalt, hreset]
  have hbad : es.find? (fun e => (progBad s e).isSome) = none := by
    refine List.find?_eq_none.mpr (fun e he => ?_)
    obtain ⟨-, -, hgood⟩ := hready e he
    simp [hgood]
  simp only [startAll, hbusy, hbad, Bool.false_eq_true, if_false]

theorem startAll_busy {e : Nat} (he : e ∈ es) (h : engHalted s e = false) :
    (startAll false es s).2 = raise0 0x804 0x80300 [nsum (es.map (fun e => 2 ^ e)), 0] s := by
  have hbusy : es.any (fun e => !engHalted s e || inReset s (engFid e)) = true :=
    List.any_eq_true.mpr ⟨e, he, by simp [h]⟩
  simp only [startAll, hbusy, if_true]

theorem startAll_bad_program {e : Nat} (hready : ∀ k, k ∈ es → engHalted s k = true ∧ inReset s (engFid k) = false) (he : e ∈ es)
    (h : (progBad s e).isSome = true) : ∃ args args' coord, (startAll false es s).2 =
      raise0 0x804 0x80300 args (raise 0x805 0x80300 args' 5 coord s) := by
  have hbusy : es.any (fun e => !engHalted s e || inReset s (engFid e)) = false := by
    refine List.any_eq_false.mpr (fun k hk => ?_)
    obtain ⟨hhalt, hreset⟩ := hready k hk
    simp [hhalt, hreset]
  have hfound : (es.find? (fun e => (progBad s e).isSome)).isSome = true := List.find?_isSome.mpr ⟨e, he, h⟩
  obtain ⟨k, hk⟩ := Option.isSome_iff_exists.mp hfound
  refine ⟨[nsum (es.map (fun e => 2 ^ e)), 1], [k, (progBad s k).getD 0], coEng k, ?_⟩
  simp only [startAll, hbusy, hk, Bool.false_eq_true, if_false]

/-- The engines of a list that start together, each as `startEng_starts` says, and the others as they were. -/
theorem foldl_startEng (hes : es.Nodup)
    (hpc : ∀ e, e ∈ es → (eng s e).dirty = true ∨ progBase s e + (eng s e).pc ≤ progLimit s e) :
    (es.foldl startEng s).rst = s.rst ∧ (∀ e, e ∉ es → eng (es.foldl startEng s) e = eng s e) ∧
      ∀ e, e ∈ es → (eng (es.foldl startEng s) e).st = 1 ∧ (eng (es.foldl startEng s) e).acc = 0 ∧
        (eng (es.foldl startEng s) e).pc = if (eng s e).dirty then 0 else (eng s e).pc := by
  obtain ⟨⟨hrst, -⟩, hout, hin⟩ := foldl_each (V := eng) (I := sameWindows s) hes (fun u a hu => startEng_sameWindows a hu)
    (fun u a k hk => startEng_other u a hk) ⟨rfl, fun _ => ⟨rfl, rfl⟩⟩
  refine ⟨hrst, hout, fun e he => ?_⟩
  obtain ⟨u, ⟨-, hwin⟩, hsame, hlast⟩ := hin e he
  obtain ⟨hbase, hlimit⟩ := hwin e
  rw [hlast, ← hsame]
  exact startEng_starts (by rw [hsame, hbase, hlimit]; exact hpc e he)

end

theorem penStart_works {s : State} {v : Nat} (hw : works s = true) (hr : inReset s 0x80300 = false) (hv : v < 65536) (h0 : v ≠ 0) :
    penStart (bits v 15 0) s = (startAll false (maskEngines v) s).2 := by
  rw [bits_low_half hv, penStart, if_pos]
  simp [hw, hr, hv, h0]

/-! ### PEN_HALT (R369) -/

theorem penHalt_works {s : State} {v : Nat} (hw : works s = true) (hv : v < 65536) :
    penHalt (bits v 15 0) s = (maskEngines v).foldl (fun s e => haltEng e 0 0 s) s := by
  rw [bits_low_half hv, penHalt, if_pos ⟨hw, hv⟩]

theorem haltEng_keeps_pending (e st cause : Nat) {s : State} {c : Nat} (h : eventPending s c = true) :
    eventPending (haltEng e st cause s) c = true := by
  cases hrun : engHalted s e
  · rw [haltEng_running st cause hrun]
    exact raise_keeps_pending _ _ _ _ _ ((eventPending_of_evt ((Laws.within_keepLevels [e] s).evt rfl) c).trans h)
  · rwa [haltEng_halted st cause hrun]

theorem foldl_haltEng_keeps_pending (es : List Nat) (st cause : Nat) {s : State} {c : Nat} (h : eventPending s c = true) :
    eventPending (es.foldl (fun s e => haltEng e st cause s) s) c = true := by
  induction es generalizing s with
  | nil => exact h
  | cons a es ih => exact ih (haltEng_keeps_pending a st cause h)

theorem engHalted_congr {s t : State} {e : Nat} (h : eng t e = eng s e) : engHalted t e = engHalted s e := by
  rw [engHalted, engHalted, h]

section
variable {s : State} {es : List Nat} (st cause : Nat)

theorem eng_foldl_haltEng (hes : es.Nodup) (e : Nat) : eng (es.foldl (fun s e => haltEng e st cause s) s) e =
    if e ∈ es ∧ engHalted s e = false then haltedIn st (eng s e) else eng s e := by
  obtain ⟨-, hout, hin⟩ := foldl_each (V := eng) (I := fun _ => True) (f := fun s e => haltEng e st cause s) (s := s) hes
    (fun _ _ _ => trivial) (fun u a k hk => (eng_haltEng u a st cause k).trans (if_neg fun h => hk h.1)) trivial
  by_cases he : e ∈ es
  · obtain ⟨u, -, hsame, hlast⟩ := hin e he
    rw [hlast, eng_haltEng, engHalted_congr hsame, hsame]
    simp [he]
  · rw [hout e he, if_neg fun h => he h.1]

/-- The first engine that runs is reported halted, and stays reported. -/
theorem foldl_haltEng_eventPending {e : Nat} (he : e ∈ es) (hrun : engHalted s e = false) (hev : eventsTaken s = true) :
    eventPending (es.foldl (fun s e => haltEng e st cause s) s) 0x807 = true := by
  induction es with
  | nil => exact absurd he List.not_mem_nil
  | cons a es ih =>
    rw [List.foldl_cons]
    cases ha : engHalted s a
    · exact foldl_haltEng_keeps_pending es st cause (haltEng_eventPending st cause ha hev)
    · have hne : e ≠ a := by
        rintro rfl
        rw [hrun] at ha
        cases ha
      rw [haltEng_halted st cause ha]
      exact ih ((List.mem_cons.mp he).resolve_left hne)

end

/-! ### Step words (R370) -/

theorem eng_markChanged {es : List Nat} (hes : es.Nodup) (s : State) (e : Nat) :
    eng (markChanged es s) e = if e ∈ es then { eng s e with dirty := true } else eng s e := by
  obtain ⟨-, hout, hin⟩ := foldl_each (V := eng) (I := fun _ => True) (f := fun s e => engMod e (fun g => { g with dirty := true }) s)
    (s := s) hes (fun _ _ _ => trivial) (fun u a k hk => (eng_setEng a _ u k).trans (if_neg hk)) trivial
  by_cases he : e ∈ es
  · obtain ⟨u, -, hsame, hlast⟩ := hin e he
    rw [if_pos he, markChanged, hlast, engMod_eq, eng_setEng_same, hsame]
  · rw [if_neg he, markChanged, hout e he]

theorem markChanged_pmem (es : List Nat) (s : State) : (markChanged es s).pen.pmem = s.pen.pmem :=
  foldl_keeps (g := fun s => s.pen.pmem) (f := fun s e => engMod e (fun g => { g with dirty := true }) s) (fun _ _ => rfl) es s

theorem covering_nodup (s : State) (i : Nat) : (covering s i).Nodup := List.nodup_range.filter _

theorem putStep_pmem (i v : Nat) (s : State) : (putStep i v s).pen.pmem = mputD 0#32 s.pen.pmem i (BitVec.ofNat 32 v) :=
  markChanged_pmem _ _

theorem eng_putStep (i v : Nat) (s : State) (e : Nat) :
    eng (putStep i v s) e = if e ∈ covering s i then { eng s e with dirty := true } else eng s e :=
  eng_markChanged (covering_nodup s i) _ e

section
variable {s : State} (v : Nat) (hw : works s = true) (hr : inReset s 0x80300 = false)
include hw hr

theorem pmemWrite_writes (h : ∀ e, e ∈ covering s (rfld s Reg.PEN_PMEM_ADDR 10 0) → engHalted s e = true) :
    pmemWrite v s = rfset (putStep (rfld s Reg.PEN_PMEM_ADDR 10 0) v s) Reg.PEN_PMEM_ADDR 10 0 (rfld s Reg.PEN_PMEM_ADDR 10 0 + 1) := by
  have hfree : (covering s (rfld s Reg.PEN_PMEM_ADDR 10 0)).any (fun e => !engHalted s e) = false :=
    List.any_eq_false.mpr fun e he => by simp [h e he]
  simp [pmemWrite, hw, hr, hfree]

theorem pmemWrite_refused {e : Nat} (he : e ∈ covering s (rfld s Reg.PEN_PMEM_ADDR 10 0)) (h : engHalted s e = false) :
    pmemWrite v s = raise0 0x80E 0x80300 [] s := by
  have hbusy : (covering s (rfld s Reg.PEN_PMEM_ADDR 10 0)).any (fun e => !engHalted s e) = true :=
    List.any_eq_true.mpr ⟨e, he, by simp [h]⟩
  simp [pmemWrite, hw, hr, hbusy]

end

theorem stepWord_congr {s t : State} (h : t.pen.pmem = s.pen.pmem) (i : Nat) : stepWord t i = stepWord s i := by
  rw [stepWord, stepWord, h]

/-- A step word that is written holds its 32 bits, and the others stay (R370). -/
theorem stepWord_putStep {i : Nat} (hi : i < 2048) (v : Nat) (s : State) :
    stepWord (putStep i v s) i = v % 2 ^ 32 ∧ ∀ j, j < 2048 → j ≠ i → stepWord (putStep i v s) j = stepWord s j := by
  refine ⟨?_, fun j hj hne => ?_⟩
  · rw [stepWord, putStep_pmem, Nat.mod_eq_of_lt hi]
    exact (congrArg BitVec.toNat (Laws.mgetD_mputD_same 0#32 _ i _)).trans (BitVec.toNat_ofNat ..)
  · rw [stepWord, putStep_pmem, Nat.mod_eq_of_lt hj, Laws.mgetD_mputD_other _ _ _ _ hne, stepWord, Nat.mod_eq_of_lt hj]

/-! ### The clauses -/

section
variable {s : State} {e w : Nat} {g : Engine}

theorem signal_sets_or_clears (h : runsAt s e 0xB w g) (hd : opdOf w ≤ 1) (hfirst : s.pen.sigCyc.at? ≠ some s.t) :
    completes (.signal e) s (fun t => t.evt = s.evt ∧ eng t e = stepPast g w ∧ (∀ k, k ≠ e → eng t k = eng s k) ∧
      t.pen.sig = (if opdOf w = 0 then s.pen.sig % 65536 ||| immOf w else s.pen.sig &&& (0xFFFF ^^^ immOf w)) ∧
      t.pen.posted = s.pen.posted) := by
  refine ⟨_, congrArg Host.Outcome.next (signal_changes_bus h hd), rfl, eng_setEng_same .., fun k hk => ?_, ?_, rfl⟩
  · rw [eng_setEng, if_neg hk]
    rfl
  · refine (sigChange_first none (if opdOf w = 1 then immOf w else 0) (if opdOf w = 0 then immOf w else 0) hfirst).trans ?_
    rcases Nat.le_one_iff_eq_zero_or_eq_one.mp hd with hd | hd
    · simp [hd, ← and_mask16]
    · simp [hd]

theorem signal_after_changes {c : SigCycle} (h : runsAt s e 0xB w g) (hd : opdOf w ≤ 1) (hc : c = s.pen.sigCyc)
    (hagain : c.at? = some s.t) :
    completes (.signal e) s (fun t => t.evt = s.evt ∧ eng t e = stepPast g w ∧ (∀ k, k ≠ e → eng t k = eng s k) ∧
      t.pen.sig = ((c.host.getD c.was) &&& (0xFFFF ^^^ (c.clr ||| (if opdOf w = 1 then immOf w else 0)))) |||
        (c.set ||| (if opdOf w = 0 then immOf w else 0))) := by
  subst hc
  refine ⟨_, congrArg Host.Outcome.next (signal_changes_bus h hd), rfl, eng_setEng_same .., fun k hk => ?_, ?_⟩
  · rw [eng_setEng, if_neg hk]
    rfl
  · exact sigChange_again none _ _ hagain

theorem signal_posts_edge (h : runsAt s e 0xB w g) (hd : opdOf w = 3 ∨ opdOf w = 4) (hs : rfld s Reg.TBS_SRC_CFG 1 0 = 0)
    (he : rfld s Reg.TBS_SRC_CFG 19 16 = e) :
    completes (.signal e) s (fun t => t.evt = s.evt ∧ eng t e = stepPast g w ∧
      t.pen.posted = s.pen.posted ++ [decide (opdOf w = 3)] ∧ t.pen.sig = s.pen.sig) := by
  have hd' : opdOf w = if decide (opdOf w = 3) then 3 else 4 := by
    rcases hd with hd | hd <;> simp [hd]
  have hsignal := signal_posts h hd'
  rw [postEdge_from_encoder hs he] at hsignal
  exact ⟨_, congrArg Host.Outcome.next hsignal, rfl, eng_setEng_same .., rfl, rfl⟩

theorem signal_discards_edge (h : runsAt s e 0xB w g) (hd : opdOf w = 3 ∨ opdOf w = 4)
    (hs : rfld s Reg.TBS_SRC_CFG 1 0 ≠ 0 ∨ rfld s Reg.TBS_SRC_CFG 19 16 ≠ e) (hev : eventsTaken s = true) :
    completes (.signal e) s (fun t => onlyEngine s t e (stepPast g w) ∧ eventPending t 0x811 = true) := by
  have hd' : opdOf w = if decide (opdOf w = 3) then 3 else 4 := by
    rcases hd with hd | hd <;> simp [hd]
  have hsignal := signal_posts h hd'
  rw [postEdge_discarded hs] at hsignal
  exact completes_setEng_raised rfl hsignal hev

end

section
variable {s : State} {v : Nat}

theorem signalBusWrite_first (hw : works s = true) (hfirst : s.pen.sigCyc.at? ≠ some s.t) :
    completes (.signalBusWrite v) s (fun t => t.pen.sig = v % 65536 ∧
      { t.pen with sig := s.pen.sig, sigCyc := s.pen.sigCyc } = s.pen) := by
  refine ⟨_, congrArg Host.Outcome.next (signalBusWrite_works v hw), ?_, sigChange_pen ..⟩
  rw [sigChange_first _ _ _ hfirst, Option.getD_some, and_mask16, Nat.mod_mod, Nat.or_zero]

theorem signalBusWrite_again (hw : works s = true) (hagain : s.pen.sigCyc.at? = some s.t) :
    completes (.signalBusWrite v) s (fun t =>
      t.pen.sig = ((v % 65536) &&& (0xFFFF ^^^ s.pen.sigCyc.clr)) ||| s.pen.sigCyc.set) := by
  refine ⟨_, congrArg Host.Outcome.next (signalBusWrite_works v hw), ?_⟩
  beta_reduce
  rw [sigChange_again _ _ _ hagain, Option.some_or, Option.getD_some, Nat.or_zero, Nat.or_zero]

theorem penStart_starts_all (hw : works s = true) (hr : inReset s 0x80300 = false) (h0 : 0 < v) (hv : v < 65536)
    (hev : eventsTaken s = true) (hready : ∀ e, e ∈ maskEngines v → engHalted s e = true ∧ inReset s (engFid e) = false ∧
      progBad s e = none ∧ ((eng s e).dirty = true ∨ progBase s e + (eng s e).pc ≤ progLimit s e)) :
    completes (.penStart v) s (fun t => eventPending t 0x806 = true ∧ (∀ e, e ∉ maskEngines v → eng t e = eng s e) ∧
      (∀ e, e ∈ maskEngines v → (eng t e).st = 1 ∧ (eng t e).acc = 0 ∧
        (eng t e).pc = if (eng s e).dirty then 0 else (eng s e).pc)) := by
  have hchecks : ∀ e, e ∈ maskEngines v → engHalted s e = true ∧ inReset s (engFid e) = false ∧ progBad s e = none := fun e he => by
    obtain ⟨hhalt, hreset, hgood, -⟩ := hready e he
    exact ⟨hhalt, hreset, hgood⟩
  have hpc : ∀ e, e ∈ maskEngines v → (eng s e).dirty = true ∨ progBase s e + (eng s e).pc ≤ progLimit s e := fun e he => by
    obtain ⟨-, -, -, hpc⟩ := hready e he
    exact hpc
  obtain ⟨hrst, hout, hin⟩ := foldl_startEng (maskEngines_nodup v) hpc
  have hstart := (penStart_works hw hr hv h0.ne').trans (startAll_starts hchecks)
  refine ⟨_, congrArg Host.Outcome.next hstart, raise0_eventPending _ _ _ ((eventsTaken_of_rst hrst).trans hev),
    fun e he => ?_, fun e he => ?_⟩
  · rw [eng_congr (raise0_pen ..)]
    exact hout e he
  · rw [eng_congr (raise0_pen ..)]
    exact hin e he

theorem penStart_busy {e : Nat} (hw : works s = true) (hr : inReset s 0x80300 = false) (hv : v < 65536) (he : e ∈ maskEngines v)
    (hrun : engHalted s e = false) (hev : eventsTaken s = true) :
    completes (.penStart v) s (fun t => t.pen = s.pen ∧ eventPending t 0x804 = true) := by
  have hstart := (penStart_works hw hr hv (ne_zero_of_mem_maskEngines he)).trans (startAll_busy he hrun)
  exact ⟨_, congrArg Host.Outcome.next hstart, raise0_pen .., raise0_eventPending _ _ _ hev⟩

theorem penStart_bad_program {e : Nat} (hw : works s = true) (hr : inReset s 0x80300 = false) (hv : v < 65536)
    (he : e ∈ maskEngines v) (hready : ∀ k, k ∈ maskEngines v → engHalted s k = true ∧ inReset s (engFid k) = false)
    (hbad : (progBad s e).isSome = true) (hev : eventsTaken s = true) :
    completes (.penStart v) s (fun t => t.pen = s.pen ∧ eventPending t 0x804 = true ∧ eventPending t 0x805 = true) := by
  obtain ⟨args, args', coord, hall⟩ := startAll_bad_program hready he hbad
  have hstart := (penStart_works hw hr hv (ne_zero_of_mem_maskEngines he)).trans hall
  refine ⟨_, congrArg Host.Outcome.next hstart, (raise0_pen ..).trans (raise_pen ..), ?_, ?_⟩
  · exact raise0_eventPending _ _ _ ((eventsTaken_of_rst (raise_rst ..)).trans hev)
  · exact raise_keeps_pending _ _ _ _ _ (raise_eventPending _ _ _ _ _ hev)

theorem penHalt_halts (hw : works s = true) (hv : v < 65536) (hev : eventsTaken s = true) :
    completes (.penHalt v) s (fun t => (∀ e, e ∉ maskEngines v → eng t e = eng s e) ∧
      (∀ e, e ∈ maskEngines v → engHalted s e = true → eng t e = eng s e) ∧
      (∀ e, e ∈ maskEngines v → engHalted s e = false →
        eng t e = { eng s e with st := 0, dirty := false, begun := false } ∧ eventPending t 0x807 = true)) := by
  refine ⟨_, congrArg Host.Outcome.next (penHalt_works hw hv), fun e he => ?_, fun e he hhalt => ?_, fun e he hrun => ⟨?_, ?_⟩⟩
  · rw [eng_foldl_haltEng 0 0 (maskEngines_nodup v), if_neg fun h => he h.1]
  · rw [eng_foldl_haltEng 0 0 (maskEngines_nodup v), if_neg (by simp [hhalt])]
  · rw [eng_foldl_haltEng 0 0 (maskEngines_nodup v), if_pos ⟨he, hrun⟩, haltedIn]
  · exact foldl_haltEng_eventPending 0 0 he hrun hev

theorem pmemWrite_puts_step {i : Nat} (hw : works s = true) (hr : inReset s 0x80300 = false) (hi : i = rfld s Reg.PEN_PMEM_ADDR 10 0)
    (h : ∀ e, e ∈ covering s i → engHalted s e = true) :
    completes (.pmemWrite v) s (fun t => stepWord t i = v % 2 ^ 32 ∧ (∀ j, j < 2048 → j ≠ i → stepWord t j = stepWord s j) ∧
      rfld t Reg.PEN_PMEM_ADDR 10 0 = (i + 1) % 2048 ∧ (∀ a, a ≠ Reg.PEN_PMEM_ADDR → rget t a = rget s a) ∧
      (∀ e, eng t e = if e ∈ covering s i then { eng s e with dirty := true } else eng s e)) := by
  subst hi
  obtain ⟨hword, hother⟩ := stepWord_putStep (i := rfld s Reg.PEN_PMEM_ADDR 10 0) (Nat.mod_lt _ (by decide)) v s
  refine ⟨_, congrArg Host.Outcome.next (pmemWrite_writes v hw hr h), hword, hother, ?_, fun a ha => ?_, eng_putStep _ v s⟩
  · exact rfld_rfset_same _ _ _ (by decide) (by decide)
  · rw [rget_rfset_other _ _ _ _ ha]
    exact rget_congr ((Laws.within_putStep ..).regs rfl) a

end

/-- Settles O40: the clauses, in their order. -/
theorem enginesStartHaltAndSignal : Obligations.EnginesStartHaltAndSignal :=
  ⟨fun _ _ _ _ h hd hfirst => signal_sets_or_clears h hd hfirst,
    fun _ _ _ _ _ h hd hc hagain => signal_after_changes h hd hc hagain,
    fun _ _ _ _ h hd hs he => signal_posts_edge h hd hs he,
    fun _ _ _ _ h hd hs hev => signal_discards_edge h hd hs hev,
    fun _ _ _ _ h hd hev => completes_setEng_raised rfl (signal_raises_user_event h hd) hev,
    fun _ _ _ _ h hd hx hev => completes_setEng_raised rfl (signal_quadrature_error h hd hx) hev,
    fun _ _ hw hfirst => signalBusWrite_first hw hfirst,
    fun _ _ hw hagain => signalBusWrite_again hw hagain,
    fun _ _ hw hr h0 hv hev hready => penStart_starts_all hw hr h0 hv hev hready,
    fun _ _ _ hw hr hv he hrun hev => penStart_busy hw hr hv he hrun hev,
    fun _ _ _ hw hr hv he hready hbad hev => penStart_bad_program hw hr hv he hready hbad hev,
    fun _ _ hw hv hev => penHalt_halts hw hv hev,
    fun _ _ _ hw hr hi h => pmemWrite_puts_step hw hr hi h,
    fun _ v _ hw hr he hrun hev => ⟨_, congrArg Host.Outcome.next (pmemWrite_refused v hw hr he hrun), raise0_pen .., raise0_regs ..,
      raise0_eventPending _ _ _ hev⟩⟩

end Sys2Proof.Proofs
end

section
/-! PROOFS. Levels of pins and what their monitors make of them (R358, R372-R375), strobes (R376, R377), and the base clock (R380). -/

namespace Sys2Proof.Proofs

open Sys2Proof Sys2Proof.Machine

/-! ### Monitors change -/

theorem monOf_congr {s t : State} (h : t.pen = s.pen) (p : Nat) : monOf t p = monOf s p := by rw [monOf, monOf, h]

theorem monOf_monMod (p : Nat) (f : PinMon → PinMon) (s : State) (q : Nat) :
    monOf (monMod p f s) q = if q = p then f (monOf s p) else monOf s q := by
  split
  · next h =>
    subst h
    exact Laws.mgetD_mputD_same PinMon.reset s.pen.mons q _
  · next h => exact Laws.mgetD_mputD_other _ _ s.pen.mons _ h

/-- From `s` to `u` an operation of the monitors and of the source has passed, which changes of the pins the monitors alone, leaves the
view `g` of every monitor, and the events that were pending. -/
structure MonStep {α : Type} (g : PinMon → α) (s u : State) : Prop where
  pen : { u.pen with mons := s.pen.mons } = s.pen
  view : ∀ q, g (monOf u q) = g (monOf s q)
  pending : ∀ c, eventPending s c = true → eventPending u c = true

namespace MonStep

variable {α : Type} {g : PinMon → α} {s u v : State}

theorem refl (g : PinMon → α) (s : State) : MonStep g s s := ⟨rfl, fun _ => rfl, fun _ h => h⟩

theorem trans (h : MonStep g s u) (k : MonStep g u v) : MonStep g s v where
  pen := (congrArg (fun p : Pen => { p with mons := s.pen.mons }) k.pen).trans h.pen
  view q := (k.view q).trans (h.view q)
  pending c hc := k.pending c (h.pending c hc)

theorem eng (h : MonStep g s u) (e : Nat) : Machine.eng u e = Machine.eng s e := by
  have heng := congrArg (fun p : Pen => mgetD p.eng e Engine.reset) h.pen
  exact heng

theorem level (h : MonStep g s u) : u.pen.level = s.pen.level := by
  have hlevel := congrArg Pen.level h.pen
  exact hlevel

/-- An operation that changes no pin and keeps events pending. -/
theorem of_pen (hpen : u.pen = s.pen) (h : ∀ c, eventPending s c = true → eventPending u c = true) : MonStep g s u :=
  ⟨by rw [hpen], fun q => by rw [monOf_congr hpen], h⟩

theorem raise (code fid : Nat) (args : List Nat) (ctag coord : Nat) (h : MonStep g s u) :
    MonStep g s (Machine.raise code fid args ctag coord u) :=
  h.trans (of_pen (raise_pen ..) fun _ hc => raise_keeps_pending _ _ _ _ _ hc)

theorem encoderState (h : MonStep g s u) : MonStep g s (Machine.encoderState u) := h.trans (of_pen rfl fun _ hc => hc)

theorem monMod {f : PinMon → PinMon} (p : Nat) (hf : ∀ m, g (f m) = g m) (h : MonStep g s u) : MonStep g s (Machine.monMod p f u) :=
  h.trans {
    pen := rfl
    view := fun q => by
      rw [monOf_monMod]
      split
      · next hq => rw [hf, hq]
      · rfl
    pending := fun _ hc => hc }

theorem srcFail (cause : Nat) (h : MonStep g s u) : MonStep g s (Machine.srcFail cause u) := by
  refine h.trans (of_pen ((Laws.within_srcFail cause u).pen rfl) fun c hc => ?_)
  unfold Machine.srcFail applyOnFail
  split
  · split <;> exact raise_keeps_pending _ _ _ _ _ hc
  · exact hc

theorem stuckEnd (p : Nat) (hg : ∀ m b, g { m with stuck := b } = g m) (h : MonStep g s u) : MonStep g s (Machine.stuckEnd p u) := by
  unfold Machine.stuckEnd
  split
  · exact ((h.monMod p fun m => hg m false).raise ..).encoderState
  · exact h

theorem foldl {β : Type} {f : State → β → State} (hf : ∀ u b, MonStep g u (f u b)) (l : List β) (h : MonStep g s u) :
    MonStep g s (l.foldl f u) := by
  induction l generalizing u with
  | nil => exact h
  | cons b l ih => exact ih (h.trans (hf u b))

/-- What one view leaves, a view that it determines leaves too. -/
theorem mono {β : Type} {k : PinMon → β} (hk : ∀ x y, g x = g y → k x = k y) (h : MonStep g s u) : MonStep k s u :=
  ⟨h.pen, fun q => hk _ _ (h.view q), h.pending⟩

end MonStep

/-- What the rate monitor holds (R373). -/
def rateOf (m : PinMon) : Nat × Bool := (m.count, m.overrate)

/-- No part of a monitor. -/
def noView (_ : PinMon) : Unit := ()

theorem runExpectLevel_monStep (s : State) : MonStep rateOf s (runExpectLevel s) := by
  refine .of_pen ((Laws.within_runExpectLevel s).pen rfl) fun c hc => ?_
  unfold runExpectLevel judgeStall
  exact raiseIf_keeps_pending _ _ _ _ _ _ hc

theorem refreshMotion_monStep (s : State) (p : Nat) : MonStep rateOf s (refreshMotion s p) := by
  have hexpect : ∀ e : Bool, MonStep rateOf s (raise 0x81D 0x80100 [] 5 (coPin p 0)
      (monMod p (fun m => { m with expect := e, expectT := s.t }) s)) := fun e => by
    refine (MonStep.monMod p ?_ (.refl rateOf s)).raise ..
    exact fun _ => rfl
  unfold refreshMotion
  dsimp only
  split
  · exact .refl rateOf s
  · split
    · exact hexpect _
    · exact (hexpect _).stuckEnd p fun _ _ => rfl

theorem refreshMotions_monStep (s : State) : MonStep rateOf s (refreshMotions s) := by
  unfold refreshMotions
  dsimp only
  split
  · exact runExpectLevel_monStep s
  · exact (runExpectLevel_monStep s).foldl refreshMotion_monStep _

theorem countEdge_monStep (p : Nat) (s : State) : MonStep noView s (countEdge p s) := by
  unfold countEdge
  split
  · exact .refl noView s
  · extract_lets m rise s1 s2
    have h1 : MonStep noView s s1 := (MonStep.refl noView s).monMod p fun _ => rfl
    have h2 : MonStep noView s s2 := (h1.raise ..).encoderState
    split
    · split
      · exact h2.srcFail 1
      · exact h2
    · exact h1

/-- The edge that takes the count above RATE_MAX sets OVERRATE (R373). -/
theorem countEdge_rises {s : State} {p mx : Nat} (hmax : rateMax s p = some mx) (hcount : mx ≤ (monOf s p).count)
    (hover : (monOf s p).overrate = false) (hev : eventsTaken s = true) :
    rateOf (monOf (countEdge p s) p) = ((monOf s p).count + 1, true) ∧ eventPending (countEdge p s) 0x800 = true := by
  let s1 := monMod p (fun m => { m with count := m.count + 1, overrate := m.overrate || true }) s
  let s2 := encoderState (raise 0x800 0x80100 [p] 5 (coPin p 0) s1)
  have hrise : (decide (mx < (monOf s p).count + 1) && !(monOf s p).overrate) = true := by
    simp [hover, Nat.lt_succ_of_le hcount]
  have hedge : countEdge p s = if encoderPin s p then srcFail 1 s2 else s2 := by
    simp only [countEdge, hmax, hrise, if_true]
    rfl
  have hlater : MonStep rateOf s2 (countEdge p s) := by
    rw [hedge]
    split
    · exact (MonStep.refl rateOf s2).srcFail 1
    · exact .refl rateOf s2
  have hmon : rateOf (monOf s2 p) = ((monOf s p).count + 1, true) := by
    have hpen : s2.pen = s1.pen := raise_pen ..
    rw [monOf_congr hpen, monOf_monMod, if_pos rfl, rateOf, Bool.or_true]
  refine ⟨(hlater.view p).trans hmon, hlater.pending _ ?_⟩
  exact raise_eventPending 0x800 0x80100 [p] 5 (coPin p 0) ((eventsTaken_of_rst (t := s1) rfl).trans hev)

/-! ### Filtered levels (R360, R372) -/

/-- Engine `e` waits at WAITPIN for the edge of pin `p` to `v` (R360). -/
def edgeAwaited (s : State) (p : Nat) (v : Bool) (e : Nat) : Bool :=
  (eng s e).begun && opOf (curWord s e) == 0x3 && (opdOf (curWord s e) == (if v then 2 else 3)) &&
    inBase s e + immOf (curWord s e) % 32 == p

theorem edgeAwaited_congr {s u : State} (p : Nat) (v : Bool) {e : Nat} (hregs : u.regs = s.regs) (hpmem : u.pen.pmem = s.pen.pmem)
    (heng : eng u e = eng s e) : edgeAwaited u p v e = edgeAwaited s p v e := by
  have hfld : ∀ a hi lo, efld u a e hi lo = efld s a e hi lo := fun a hi lo => rfld_congr hregs _ _ _
  have hword : curWord u e = curWord s e := by rw [curWord, curWord, stepWord_congr hpmem, progBase, progBase, hfld, heng]
  rw [edgeAwaited, edgeAwaited, hword, heng, inBase, inBase, hfld]

/-- What `noteEdge` does at one engine. -/
def edgeNoted (p : Nat) (v : Bool) (s : State) (e : Nat) : State :=
  if edgeAwaited s p v e then engMod e (fun g => { g with edge := true }) s else s

theorem noteEdge_eq (p : Nat) (v : Bool) (s : State) : noteEdge p v s = (List.range 16).foldl (edgeNoted p v) s := rfl

theorem eng_edgeNoted (p : Nat) (v : Bool) (s : State) (a k : Nat) :
    eng (edgeNoted p v s a) k = if k = a ∧ edgeAwaited s p v a = true then { eng s k with edge := true } else eng s k := by
  unfold edgeNoted
  split
  · next h =>
    rw [engMod_eq, eng_setEng]
    by_cases hk : k = a
    · simp [hk, h]
    · simp [hk]
  · next h => rw [if_neg fun hc => h hc.2]

/-- Noting an edge changes of the device the engines alone. -/
theorem edgeNoted_keeps (p : Nat) (v : Bool) (s : State) (a : Nat) :
    (edgeNoted p v s a).regs = s.regs ∧ { (edgeNoted p v s a).pen with eng := s.pen.eng } = s.pen := by
  unfold edgeNoted
  split <;> exact ⟨rfl, rfl⟩

/-- The engines that wait for the edge note it, each once; nothing else of the device changes (R360). -/
theorem noteEdge_spec (p : Nat) (v : Bool) (s : State) : (noteEdge p v s).regs = s.regs ∧ (noteEdge p v s).rst = s.rst ∧
    { (noteEdge p v s).pen with eng := s.pen.eng } = s.pen ∧
    ∀ e, e < 16 → eng (noteEdge p v s) e = if edgeAwaited s p v e then { eng s e with edge := true } else eng s e := by
  have hrst : (noteEdge p v s).rst = s.rst := (Laws.within_noteEdge p v s).rst rfl
  rw [noteEdge_eq] at hrst ⊢
  obtain ⟨⟨hregs, hpen⟩, -, hin⟩ := foldl_each (V := eng) (f := edgeNoted p v) (l := List.range 16) (s := s)
    (I := fun u => u.regs = s.regs ∧ { u.pen with eng := s.pen.eng } = s.pen) List.nodup_range
    (fun u a hu => by
      obtain ⟨hregs, hpen⟩ := hu
      obtain ⟨hregs', hpen'⟩ := edgeNoted_keeps p v u a
      exact ⟨hregs'.trans hregs, (congrArg (fun q : Pen => { q with eng := s.pen.eng }) hpen').trans hpen⟩)
    (fun u a k hk => (eng_edgeNoted p v u a k).trans (if_neg fun h => hk h.1)) ⟨rfl, rfl⟩
  refine ⟨hregs, hrst, hpen, fun e he => ?_⟩
  obtain ⟨u, ⟨huregs, hupen⟩, hsame, hlast⟩ := hin e (List.mem_range.mpr he)
  have hupmem : u.pen.pmem = s.pen.pmem := by
    have hpmem := congrArg Pen.pmem hupen
    exact hpmem
  rw [hlast, eng_edgeNoted, edgeAwaited_congr p v huregs hupmem hsame, hsame]
  simp

section
variable {s : State} {p : Nat} {v : Bool}

theorem pinLevelChange_eq (hp : p < 80) (hlev : bit s.pen.level p ≠ v) (hup : up s 0x80100 = true) : pinLevelChange p v s =
    if rbit s Reg.TBS_MOTION_CFG 31 && rfld s Reg.TBS_MOTION_CFG 29 23 == p then refreshMotions (levelSeen p v s)
    else levelSeen p v s := by
  have hgo : ¬ (80 ≤ p ∨ bit s.pen.level p = v ∨ (!up s 0x80100) = true) := by simp [hp, hlev, hup]
  rw [pinLevelChange, if_neg hgo]
  rfl

/-- The state with the filtered level of pin `p` at `v`, noted by the engines that wait for its edge. -/
def levelNoted (p : Nat) (v : Bool) (s : State) : State :=
  noteEdge p v (penMod (fun x => { x with level := setBits x.level p p (b2n v) }) s)

theorem levelSeen_monStep (p : Nat) (v : Bool) (s : State) : MonStep rateOf (countEdge p (levelNoted p v s)) (levelSeen p v s) := by
  unfold levelSeen
  dsimp only
  split
  · refine (MonStep.monMod p ?_ (.refl rateOf _)).stuckEnd p fun _ _ => rfl
    exact fun _ => rfl
  · exact .refl rateOf _

/-- What follows the count of an edge leaves the counts, and of the pins changes the monitors alone (R374). -/
theorem pinLevelChange_monStep (hp : p < 80) (hlev : bit s.pen.level p ≠ v) (hup : up s 0x80100 = true) :
    MonStep rateOf (countEdge p (levelNoted p v s)) (pinLevelChange p v s) := by
  rw [pinLevelChange_eq hp hlev hup]
  split
  · exact (levelSeen_monStep p v s).trans (refreshMotions_monStep _)
  · exact levelSeen_monStep p v s

theorem bit_setBits_other (x y : Nat) {p q : Nat} (h : q ≠ p) : bit (setBits x p p y) q = bit x q := by
  rw [bit_eq_testBit, testBit_setBits, if_neg (by omega), bit_eq_testBit]

theorem levelNoted_level (p : Nat) (v : Bool) (s : State) : (levelNoted p v s).pen.level = setBits s.pen.level p p (b2n v) := by
  obtain ⟨-, -, -, hlevel⟩ := noteEdge_sameMotion p v (penMod (fun x => { x with level := setBits x.level p p (b2n v) }) s)
  rw [levelNoted, hlevel, penMod_pen]

theorem eng_levelNoted (p : Nat) (v : Bool) (s : State) {e : Nat} (he : e < 16) :
    eng (levelNoted p v s) e = if edgeAwaited s p v e then { eng s e with edge := true } else eng s e := by
  obtain ⟨-, -, -, heng⟩ := noteEdge_spec p v (penMod (fun x => { x with level := setBits x.level p p (b2n v) }) s)
  rw [levelNoted, heng e he]
  rfl

theorem edgeAwaited_iff (e : Nat) : edgeAwaited s p v e = true ↔ (eng s e).begun ∧ opOf (curWord s e) = 3 ∧
    opdOf (curWord s e) = (if v then 2 else 3) ∧ inBase s e + immOf (curWord s e) % 32 = p := by
  simp only [edgeAwaited, Bool.and_eq_true, beq_iff_eq, and_assoc]

/-- The monitors and the registers stay while a level is noted. -/
theorem levelNoted_keeps (p : Nat) (v : Bool) (s : State) : (levelNoted p v s).regs = s.regs ∧ (levelNoted p v s).rst = s.rst ∧
    ∀ q, monOf (levelNoted p v s) q = monOf s q := by
  obtain ⟨hregs, hrst, hpen, -⟩ := noteEdge_spec p v (penMod (fun x => { x with level := setBits x.level p p (b2n v) }) s)
  unfold levelNoted
  have hmons := congrArg (fun x : Pen => x.mons) hpen
  refine ⟨hregs, hrst, fun q => ?_⟩
  rw [monOf, hmons]
  rfl

theorem rateMax_congr {s t : State} (h : t.regs = s.regs) (p : Nat) : rateMax t p = rateMax s p := by
  have hrnat : rnat t = rnat s := funext fun a => by rw [rnat, rnat, rget_congr h]
  unfold rateMax monProfile rbit rfld
  rw [hrnat]

theorem pinLevelChange_is_seen (hp : p < 80) (hlev : bit s.pen.level p ≠ v) (hup : up s 0x80100 = true) :
    completes (.pinLevelChange p v) s (fun t => bit t.pen.level p = v ∧
      (∀ q, q ≠ p → bit t.pen.level q = bit s.pen.level q) ∧
      (∀ e, e < 16 → eng t e = if (eng s e).begun ∧ opOf (curWord s e) = 3 ∧ opdOf (curWord s e) = (if v then 2 else 3) ∧
        inBase s e + immOf (curWord s e) % 32 = p then { eng s e with edge := true } else eng s e)) := by
  have hstep := (countEdge_monStep p (levelNoted p v s)).trans ((pinLevelChange_monStep hp hlev hup).mono fun _ _ _ => rfl)
  have hlevel := hstep.level.trans (levelNoted_level p v s)
  refine ⟨pinLevelChange p v s, rfl, ?_, fun q hq => ?_, fun e he => ?_⟩
  · rw [hlevel, bit_setBits_same]
  · rw [hlevel, bit_setBits_other _ _ hq]
  · rw [hstep.eng, eng_levelNoted p v s he]
    exact if_congr (edgeAwaited_iff e) rfl rfl

theorem pinLevelChange_sets_overrate {mx : Nat} (hp : p < 80) (hlev : bit s.pen.level p ≠ v) (hup : up s 0x80100 = true)
    (hmax : rateMax s p = some mx) (hcount : mx ≤ (monOf s p).count) (hover : (monOf s p).overrate = false)
    (hev : eventsTaken s = true) :
    completes (.pinLevelChange p v) s (fun t => (monOf t p).overrate = true ∧ (monOf t p).count = (monOf s p).count + 1 ∧
      eventPending t 0x800 = true) := by
  obtain ⟨hregs, hrst, hmon⟩ := levelNoted_keeps p v s
  have hlater := pinLevelChange_monStep hp hlev hup
  obtain ⟨hrate, hpending⟩ := countEdge_rises (s := levelNoted p v s) ((rateMax_congr hregs p).trans hmax)
    ((hmon p).symm ▸ hcount) ((hmon p).symm ▸ hover) ((eventsTaken_of_rst hrst).trans hev)
  rw [← hlater.view p, hmon, rateOf, Prod.mk.injEq] at hrate
  obtain ⟨hcounted, hset⟩ := hrate
  exact ⟨pinLevelChange p v s, rfl, hset, hcounted, hlater.pending _ hpending⟩

end

/-! ### Rate windows, stuck pins and readback (R358, R373, R374) -/

theorem raiseIf_eventPending {c : Bool} (code fid : Nat) (args : List Nat) (ctag coord : Nat) {s : State} (hc : c = true)
    (h : eventsTaken s = true) : eventPending (raiseIf c code fid args ctag coord s) code = true := by
  rw [raiseIf, if_pos hc]
  exact raise_eventPending _ _ _ _ _ h

section
variable {s : State} {p : Nat}

theorem rateWindowEnd_restarts_count {mx r : Nat} (hp : p < 80) (hup : up s 0x80100 = true) (hmax : rateMax s p = some mx)
    (hev : eventsTaken s = true) :
    completes (.rateWindowEnd p r) s (fun t => (monOf t p).count = 0 ∧
      (monOf t p).overrate = ((monOf s p).overrate && decide (mx < (monOf s p).count)) ∧
      (∀ q, q ≠ p → monOf t q = monOf s q) ∧ (mx < r → eventPending t 0x81C = true) ∧
      ((monOf s p).overrate = true → (monOf s p).count ≤ mx → eventPending t 0x801 = true)) := by
  let fall := (monOf s p).overrate && decide ((monOf s p).count ≤ mx)
  let s0 := monMod p (fun m => { m with count := 0, overrate := m.overrate && !fall }) s
  let s1 := raiseIf fall 0x801 0x80100 [] 5 (coPin p 0) s0
  let s2 := encoderState (raiseIf (decide (mx < r)) 0x81C 0x80100 [] 5 (coPin p 0) s1)
  have hend : rateWindowEnd p r s = s2 := by
    simp only [rateWindowEnd, hmax, hup, Nat.not_le.mpr hp, Bool.not_true, Bool.false_eq_true, or_false, if_false]
    rfl
  have hpen : s2.pen = s0.pen := (raiseIf_pen ..).trans (raiseIf_pen ..)
  have htaken : eventsTaken s1 = true := (eventsTaken_of_rst ((raiseIf_rst ..).trans (rfl : s0.rst = s.rst))).trans hev
  have hmon : ∀ q, monOf s2 q = if q = p then { monOf s p with count := 0, overrate := (monOf s p).overrate && !fall } else monOf s q :=
    fun q => (monOf_congr hpen q).trans (monOf_monMod ..)
  refine ⟨s2, congrArg Host.Outcome.next hend, ?_, ?_, fun q hq => ?_, fun hr => ?_, fun hover hcount => ?_⟩
  · rw [hmon, if_pos rfl]
  · rw [hmon, if_pos rfl]
    rcases Nat.lt_or_ge mx (monOf s p).count with h | h
    · simp [fall, h, Nat.not_le.mpr h]
    · simp [fall, h, Nat.not_lt.mpr h]
  · rw [hmon, if_neg hq]
  · exact raiseIf_eventPending _ _ _ _ _ (decide_eq_true hr) htaken
  · exact raiseIf_keeps_pending _ _ _ _ _ _ (raiseIf_eventPending _ _ _ _ _ (by simp [fall, hover, hcount]) hev)

theorem pinStuckSet_declares (hp : p < 80) (hup : up s 0x80100 = true) (hon : stuckOn s p = true)
    (hexp : (monOf s p).expect = true) (hst : (monOf s p).stuck = false) (hev : eventsTaken s = true) :
    completes (.pinStuckSet p) s (fun t => monOf t p = { monOf s p with stuck := true } ∧
      (∀ q, q ≠ p → monOf t q = monOf s q) ∧ eventPending t 0x802 = true) := by
  let s0 := monMod p (fun m => { m with stuck := true }) s
  let s1 := encoderState (raise 0x802 0x80100 [p] 5 (coPin p 0) s0)
  have hset : pinStuckSet p s = if encoderPin s p && rbit s Reg.TBS_SRC_CFG 11 then srcFail 0 s1 else s1 := by
    rw [pinStuckSet, if_pos ⟨hp, hup, hon, hexp, by simp [hst]⟩]
  have hlater : MonStep id s1 (pinStuckSet p s) := by
    rw [hset]
    split
    · exact (MonStep.refl id s1).srcFail 0
    · exact .refl id s1
  have hpen : s1.pen = s0.pen := raise_pen ..
  have hmon : ∀ q, monOf (pinStuckSet p s) q = if q = p then { monOf s p with stuck := true } else monOf s q :=
    fun q => (hlater.view q).trans ((monOf_congr hpen q).trans (monOf_monMod ..))
  refine ⟨pinStuckSet p s, rfl, ?_, fun q hq => ?_, hlater.pending _ ?_⟩
  · rw [hmon, if_pos rfl]
  · rw [hmon, if_neg hq]
  · exact raise_eventPending 0x802 0x80100 [p] 5 (coPin p 0) ((eventsTaken_of_rst (t := s0) rfl).trans hev)

theorem pinReadback_reports {lim : Bool} (hp : p < 80) (hup : up s 0x80101 = true) (hev : eventsTaken s = true) :
    completes (.pinReadbackMismatch p lim) s (fun t => t.pen = s.pen ∧
      (lim = true → 48 ≤ p → pinDriven s p ≠ .hiz → eventPending t 0x818 = true) ∧
      (lim = false → pinDriven s p = .low → bit s.pen.level p ≠ rbit s (Reg.PEN_PIN_CFG + 4 * p) 13 →
        eventPending t 0x817 = true) ∧
      (lim = false → pinDriven s p = .high → bit s.pen.level p = rbit s (Reg.PEN_PIN_CFG + 4 * p) 13 →
        eventPending t 0x817 = true)) := by
  refine ⟨pinReadback p lim s, rfl, ?_⟩
  rw [pinReadback, if_pos ⟨by omega, hup⟩]
  cases lim
  · rw [if_neg Bool.false_ne_true, if_neg (by omega)]
    refine ⟨raiseIf_pen .., fun h => absurd h Bool.false_ne_true, fun _ hlow hread => ?_, fun _ hhigh hread => ?_⟩
    · exact raiseIf_eventPending _ _ _ _ _ (by simpa [hlow] using hread) hev
    · exact raiseIf_eventPending _ _ _ _ _ (by simp [hhigh, hread]) hev
  · rw [if_pos rfl]
    refine ⟨raiseIf_pen .., fun _ hfield hdriven => ?_, fun h => absurd h.symm Bool.false_ne_true,
      fun h => absurd h.symm Bool.false_ne_true⟩
    have hclass : fieldClass p = true := by
      simp [fieldClass, hfield]
      omega
    have hcarries : portDriven s p = true := by simpa [portDriven, hp] using hdriven
    exact raiseIf_eventPending _ _ _ _ _ (by simp [hclass, hcarries]) hev

end

/-! ### Strobes (R376, R377) -/

theorem strobe_setStrobe (n : Nat) (x : Strobe) (s : State) (k : Nat) : strobe (setStrobe n x s) k = if k = n then x else strobe s k :=
  mgetD_mput s.pen.strobes n k x Strobe.reset

theorem strobe_congr {s t : State} (h : t.pen = s.pen) (n : Nat) : strobe t n = strobe s n := by rw [strobe, strobe, h]

/-- What a strobe holds whatever the window (R377). -/
theorem strobeWin_keeps (s : State) (n : Nat) : (strobeWin s n).on = (strobe s n).on ∧ (strobeWin s n).onT = (strobe s n).onT ∧
    (strobeWin s n).win = s.t / 200000 := by
  unfold strobeWin
  dsimp only
  split
  · next h => exact ⟨rfl, rfl, h⟩
  · exact ⟨rfl, rfl, rfl⟩

section
variable {s : State} {n : Nat}

theorem strobeOn_lights {cfg : Nat} (hn : n < 16) (hcfg : cfg = rnat s (Reg.PEN_ST_CFG + 4 * n)) (hok : strobesOk s = true)
    (hen : bit cfg 31 = true) (hlit : slotLit s n (bits cfg 30 29) = true) (hoff : (strobe s n).on = false)
    (hcap : (strobeWin s n).capped = false) :
    completes (.strobeOn n) s (fun t => (strobe t n).on = true ∧ (strobe t n).onT = s.t ∧
      (strobe t n).used = (strobeWin s n).used ∧ (∀ k, k ≠ n → strobe t k = strobe s k) ∧
      { t.pen with strobes := s.pen.strobes } = s.pen) := by
  subst hcfg
  obtain ⟨hon, -, -⟩ := strobeWin_keeps s n
  have hlit : ∃ x, (strobeOn n s).pen = (setStrobe n x s).pen ∧ x.on = true ∧ x.onT = s.t ∧ x.used = (strobeWin s n).used := by
    unfold strobeOn
    dsimp only
    rw [if_pos ⟨hn, hok, hen, hlit, by simp [hon, hoff], by simp [hcap]⟩]
    split <;> exact ⟨_, rfl, rfl, rfl, rfl⟩
  obtain ⟨x, hpen, hxon, hxT, hxused⟩ := hlit
  have hstrobe : ∀ k, strobe (strobeOn n s) k = if k = n then x else strobe s k := fun k =>
    (strobe_congr hpen k).trans (strobe_setStrobe ..)
  refine ⟨strobeOn n s, rfl, ?_, ?_, ?_, fun k hk => ?_, ?_⟩
  · rw [hstrobe, if_pos rfl, hxon]
  · rw [hstrobe, if_pos rfl, hxT]
  · rw [hstrobe, if_pos rfl, hxused]
  · rw [hstrobe, if_neg hk]
  · rw [hpen]
    rfl

theorem strobeEnded_used (s : State) (n : Nat) : (strobeEnded s n).used =
    (strobeWin s n).used + (s.t - max (strobe s n).onT (200000 * (s.t / 200000))) := by
  obtain ⟨-, hT, hwin⟩ := strobeWin_keeps s n
  rw [strobeEnded, hT, hwin]

theorem strobeOff_ends (hon : (strobe s n).on = true) :
    completes (.strobeOff n) s (fun t => (strobe t n).on = false ∧
      (strobe t n).used = (strobeWin s n).used + (s.t - max (strobe s n).onT (200000 * (s.t / 200000))) ∧
      (∀ k, k ≠ n → strobe t k = strobe s k) ∧ { t.pen with strobes := s.pen.strobes } = s.pen) := by
  have hoff : strobeOff n s = setStrobe n (strobeEnded s n) s := if_pos hon
  refine ⟨_, congrArg Host.Outcome.next hoff, ?_, ?_, fun k hk => ?_, rfl⟩
  · rw [strobe_setStrobe, if_pos rfl, strobeEnded]
  · rw [strobe_setStrobe, if_pos rfl, strobeEnded_used]
  · rw [strobe_setStrobe, if_neg hk]

theorem strobeEarlyEnd_counts {duty : Bool} (hn : n < 16) (hon : (strobe s n).on = true) (hev : eventsTaken s = true) :
    completes (.strobeEarlyEnd n duty) s (fun t => (strobe t n).on = false ∧
      (strobe t n).capped = ((strobeWin s n).capped || duty) ∧ (∀ k, k ≠ n → strobe t k = strobe s k) ∧
      countedMore s t (Reg.PEN_ST_COUNT + 4 * (n / 4)) (8 * (n % 4) + 7) (8 * (n % 4)) 1 ∧
      eventPending t (if duty then 0x814 else 0x813) = true) := by
  let s1 := setStrobe n { strobeEnded s n with capped := (strobeEnded s n).capped || duty } s
  let s2 := rsat s1 (Reg.PEN_ST_COUNT + 4 * (n / 4)) (8 * (n % 4) + 7) (8 * (n % 4)) 1
  have hend : strobeEarlyEnd n duty s = raise (if duty then 0x814 else 0x813) 0x80200 [n, s.tbs.l] 5 (coPin n 1) s2 :=
    if_pos ⟨hn, hon⟩
  have hpen : (strobeEarlyEnd n duty s).pen = s1.pen := by
    rw [hend, raise_pen]
    rfl
  have hstrobe : ∀ k, strobe (strobeEarlyEnd n duty s) k =
      if k = n then { strobeEnded s n with capped := (strobeEnded s n).capped || duty } else strobe s k := fun k =>
    (strobe_congr hpen k).trans (strobe_setStrobe ..)
  refine ⟨strobeEarlyEnd n duty s, rfl, ?_, ?_, fun k hk => ?_, ?_, ?_⟩
  · rw [hstrobe, if_pos rfl, strobeEnded]
  · rw [hstrobe, if_pos rfl, strobeEnded]
  · rw [hstrobe, if_neg hk]
  · rw [hend, countedMore, rfld_congr (raise_regs ..)]
    exact countedMore_rsat s1 _ 1 (by omega) (by omega)
  · rw [hend]
    exact raise_eventPending _ _ _ _ _ ((eventsTaken_of_rst (t := s2) rfl).trans hev)

end

/-! ### The base clock (R380) -/

theorem strobeOff_on (s : State) (n : Nat) : (strobe (strobeOff n s) n).on = false := by
  unfold strobeOff
  split
  · rw [strobe_setStrobe, if_pos rfl, strobeEnded]
  · next h => simpa using h

theorem strobeOff_other (s : State) (n k : Nat) (h : k ≠ n) : strobe (strobeOff n s) k = strobe s k := by
  unfold strobeOff
  split
  · rw [strobe_setStrobe, if_neg h]
  · rfl

theorem strobesOff_on (s : State) {n : Nat} (h : n < 16) : (strobe (strobesOff s) n).on = false := by
  obtain ⟨-, -, hin⟩ := foldl_each (V := strobe) (I := fun _ => True) (f := fun s n => strobeOff n s) (s := s) List.nodup_range
    (fun _ _ _ => trivial) (fun u a k hk => strobeOff_other u a k hk) trivial
  obtain ⟨u, -, -, hlast⟩ := hin n (List.mem_range.mpr h)
  rw [strobesOff, hlast, strobeOff_on]

/-- Halting engines leaves the strobes and the state of the clock. -/
theorem haltEng_strobes (s : State) (e st cause : Nat) :
    (haltEng e st cause s).pen.strobes = s.pen.strobes ∧ (haltEng e st cause s).pen.clockBad = s.pen.clockBad := by
  cases hrun : engHalted s e
  · obtain ⟨l, hl⟩ := keepLevels_eq [e] s
    rw [haltEng_running st cause hrun, raise_pen, hl]
    exact ⟨rfl, rfl⟩
  · rw [haltEng_halted st cause hrun]
    exact ⟨rfl, rfl⟩

theorem haltAll_strobes (st cause : Nat) (s : State) :
    (haltAll st cause s).pen.strobes = s.pen.strobes ∧ (haltAll st cause s).pen.clockBad = s.pen.clockBad := by
  have hkeeps : ∀ l : List Nat, ((l.foldl (fun s e => haltEng e st cause s) s).pen.strobes,
      (l.foldl (fun s e => haltEng e st cause s) s).pen.clockBad) = (s.pen.strobes, s.pen.clockBad) := fun l =>
    foldl_keeps (g := fun s => (s.pen.strobes, s.pen.clockBad)) (fun u e => by
      obtain ⟨hstrobes, hbad⟩ := haltEng_strobes u e st cause
      exact Prod.ext hstrobes hbad) l s
  obtain ⟨hstrobes, hbad⟩ := Prod.mk.inj (hkeeps (List.range 16))
  rw [haltAll]
  exact ⟨hstrobes, hbad⟩

theorem haltAll_halts (cause : Nat) (s : State) {e : Nat} (h : e < 16) : engHalted (haltAll 4 cause s) e = true := by
  have heng := eng_foldl_haltEng (s := s) 4 cause (List.nodup_range (n := 16)) e
  rw [haltAll, engHalted, heng]
  split
  · rfl
  · next hc =>
    have hhalt : engHalted s e = true := by simpa [h] using hc
    exact hhalt

theorem clockFault_stops {s : State} (hclock : s.pen.clockBad = false) (hw : works s = true) (hev : eventsTaken s = true) :
    completes .clockFault s (fun t => t.pen.clockBad = true ∧ (∀ e, e < 16 → engHalted t e = true) ∧
      (∀ n, n < 16 → (strobe t n).on = false) ∧ eventPending t 0x81B = true) := by
  let s1 := penMod (fun p => { p with clockBad := true, awaitStart := true }) (strobesOff s)
  have hfault : clockFault s = raise0 0x81B 0x80300 [] (haltAll 4 2 s1) := by
    rw [clockFault, if_neg (by simp [hclock, hw])]
  obtain ⟨hstrobes, hbad⟩ := haltAll_strobes 4 2 s1
  have hrst : (haltAll 4 2 s1).rst = s.rst := by
    rw [(Laws.within_haltAll 4 2 s1).rst rfl, penMod_rst, (Laws.within_strobesOff s).rst rfl]
  refine ⟨_, congrArg Host.Outcome.next hfault, ?_, fun e he => ?_, fun n hn => ?_,
    raise0_eventPending _ _ _ ((eventsTaken_of_rst hrst).trans hev)⟩
  · rw [raise0_pen, hbad, penMod_pen]
  · rw [engHalted_congr (eng_congr (raise0_pen ..) e), haltAll_halts 2 s1 he]
  · have hoff := strobesOff_on s hn
    rw [strobe] at hoff
    rw [strobe_congr (raise0_pen ..), strobe, hstrobes, penMod_pen]
    dsimp only
    exact hoff

/-- Settles O41: the clauses, in their order. -/
theorem pinLevelsStrobesAndClock : Obligations.PinLevelsStrobesAndClock :=
  ⟨fun _ _ _ hp hlev hup => pinLevelChange_is_seen hp hlev hup,
    fun _ _ _ _ hp hlev hup hmax hcount hover hev => pinLevelChange_sets_overrate hp hlev hup hmax hcount hover hev,
    fun _ _ _ _ hp hup hmax hev => rateWindowEnd_restarts_count hp hup hmax hev,
    fun _ _ hp hup hon hexp hst hev => pinStuckSet_declares hp hup hon hexp hst hev,
    fun _ _ _ hp hup hev => pinReadback_reports hp hup hev,
    fun _ _ _ hn hcfg hok hen hlit hoff hcap => strobeOn_lights hn hcfg hok hen hlit hoff hcap,
    fun _ _ hon => strobeOff_ends hon,
    fun _ _ _ hn hon hev => strobeEarlyEnd_counts hn hon hev,
    fun _ hclock hw hev => clockFault_stops hclock hw hev,
    fun s => ⟨clockRelock s, rfl, rfl⟩⟩

end Sys2Proof.Proofs
end

section
/-! PROOFS. The input meter and its alarms (R384-R386), the entries of the ledger (R387-R389), and the shed steps that take effect at
a line boundary (R393-R395, R406). -/

namespace Sys2Proof.Proofs

open Sys2Proof Sys2Proof.Machine

/-! ### The input meter (R384-R386) -/

theorem satN_of_lt {n x : Nat} (h : x < 2 ^ n) : satN n x = x := min_eq_left (Nat.le_sub_one_of_lt h)

theorem satN_lt (n x : Nat) : satN n x < 2 ^ n := Nat.lt_of_le_of_lt (min_le_right _ _) (Nat.sub_lt (by positivity) one_pos)

theorem rget_rmax_other (s : State) {a b : Nat} (hi lo v : Nat) (h : b ≠ a) : rget (rmax s a hi lo v) b = rget s b :=
  rget_rset_other s _ h

/-- The windows, the health and the energy after the product `x` of a sample pair (R384). -/
def meterTook (x : Nat) (s : State) : State := nrgMod (fun n => { n with
  samples := (x :: n.samples).take 100000, meterOk := !s.thm.monImpl, acc := if !s.thm.monImpl then n.acc + x else n.acc
  accBad := n.accBad || !(!s.thm.monImpl) }) s

/-- The input registers under a sample pair, the extremes apart (R384). -/
def inputShown (v i : Nat) (s : State) : State :=
  rset (rset (rset (rset (rset s Reg.NRG_INPUT_V v) Reg.NRG_INPUT_I i) Reg.NRG_INPUT_P (satN 16 (p10 s)))
    (Reg.NRG_INPUT_P + 4) (satN 16 (p100 s))) (Reg.NRG_INPUT_P + 8) (satN 16 (p1000 s))

theorem meterSample_eq {s : State} {v i : Nat} (hv : v < 65536) (hi : i < 65536) (hrun : domainRuns s 9 = true)
    (hres : inReset s 0x90000 = false) : meterSample v i s =
      rmax (rfset (rmax (inputShown v i (meterTook (v * i) s)) Reg.NRG_INPUT_PMAX 15 0 (p10 (meterTook (v * i) s)))
        Reg.NRG_INPUT_VMIN 15 0 (min v (rfld s Reg.NRG_INPUT_VMIN 15 0))) Reg.NRG_INPUT_VMAX 15 0 v := by
  rw [meterSample, if_neg (by simp [hrun, hres]), Nat.mod_eq_of_lt hv, Nat.mod_eq_of_lt hi, inputShown, meterTook]

theorem inputShown_shows {v i : Nat} (hv : v < 65536) (hi : i < 65536) (s : State) :
    rnat (inputShown v i s) Reg.NRG_INPUT_V = v ∧ rnat (inputShown v i s) Reg.NRG_INPUT_I = i ∧
      rnat (inputShown v i s) Reg.NRG_INPUT_P = satN 16 (p10 s) ∧ rnat (inputShown v i s) (Reg.NRG_INPUT_P + 4) = satN 16 (p100 s) ∧
      rnat (inputShown v i s) (Reg.NRG_INPUT_P + 8) = satN 16 (p1000 s) := by
  have hword : ∀ {x : Nat}, x < 65536 → x % 2 ^ 32 = x := fun h => Nat.mod_eq_of_lt (h.trans (by decide))
  simp (disch := decide) only [inputShown, rnat_rset_other, rnat_rset_same, hword hv, hword hi, hword (satN_lt 16 _), and_self]

theorem meterSample_meters (s : State) (v i : Nat) (hv : v < 65536) (hi : i < 65536) (hrun : domainRuns s 9 = true)
    (hres : inReset s 0x90000 = false) :
    completes (.meterSample v i) s (fun t => t.nrg.samples = (v * i :: s.nrg.samples).take 100000 ∧
      t.nrg.meterOk = !s.thm.monImpl ∧ t.nrg.acc = (if s.thm.monImpl then s.nrg.acc else s.nrg.acc + v * i) ∧
      rnat t Reg.NRG_INPUT_V = v ∧ rnat t Reg.NRG_INPUT_I = i ∧
      rnat t Reg.NRG_INPUT_P = satN 16 (meanMw 1000 t.nrg.samples) ∧
      rnat t (Reg.NRG_INPUT_P + 4) = satN 16 (meanMw 10000 t.nrg.samples) ∧
      rnat t (Reg.NRG_INPUT_P + 8) = satN 16 (meanMw 100000 t.nrg.samples) ∧
      rfld t Reg.NRG_INPUT_VMIN 15 0 = min v (rfld s Reg.NRG_INPUT_VMIN 15 0) ∧
      rfld t Reg.NRG_INPUT_VMAX 15 0 = max (rfld s Reg.NRG_INPUT_VMAX 15 0) v) := by
  have hmax : rfld s Reg.NRG_INPUT_VMAX 15 0 < 65536 := Nat.mod_lt _ (by decide)
  obtain ⟨hV, hI, hP10, hP100, hP1000⟩ := inputShown_shows hv hi (meterTook (v * i) s)
  set u := inputShown v i (meterTook (v * i) s) with hu
  set ext := rmax (rfset (rmax u Reg.NRG_INPUT_PMAX 15 0 (p10 (meterTook (v * i) s))) Reg.NRG_INPUT_VMIN 15 0
    (min v (rfld s Reg.NRG_INPUT_VMIN 15 0))) Reg.NRG_INPUT_VMAX 15 0 v with hext
  have hmeter : meterSample v i s = ext := meterSample_eq hv hi hrun hres
  have hkept : ∀ a, a < Reg.NRG_INPUT_PMAX → rnat ext a = rnat u a := fun a ha => by
    rw [rnat, hext, rget_rmax_other _ _ _ _ (by simp only [Reg.NRG_INPUT_PMAX, Reg.NRG_INPUT_VMAX] at ha ⊢; omega),
      rget_rfset_other _ _ _ _ (by simp only [Reg.NRG_INPUT_PMAX, Reg.NRG_INPUT_VMIN] at ha ⊢; omega),
      rget_rmax_other _ _ _ _ (ne_of_lt ha), rnat]
  have hnrg : ext.nrg = (meterTook (v * i) s).nrg := by
    rw [hext, rmax_nrg, rfset_nrg, rmax_nrg, hu, inputShown, rset_nrg, rset_nrg, rset_nrg, rset_nrg, rset_nrg]
  refine ⟨meterSample v i s, rfl, ?_⟩
  beta_reduce
  rw [hmeter, hnrg, hkept _ (by decide), hkept _ (by decide), hkept _ (by decide), hkept _ (by decide), hkept _ (by decide)]
  refine ⟨rfl, rfl, ?_, hV, hI, hP10, hP100, hP1000, ?_, ?_⟩
  · rw [meterTook, nrgMod_nrg]
    cases s.thm.monImpl <;> rfl
  · rw [rfld_of_rget (rget_rmax_other _ _ _ _ (by decide)), rfld_rfset_same _ _ _ (by decide) (by decide)]
    exact Nat.mod_eq_of_lt (lt_of_le_of_lt (min_le_left _ _) hv)
  · have hvmax : rfld u Reg.NRG_INPUT_VMAX 15 0 = rfld s Reg.NRG_INPUT_VMAX 15 0 := by
      simp (disch := decide) only [hu, inputShown, rfld, rnat_rset_other]
      rfl
    rw [hext, rmax, rfld_rfset_same _ _ _ (by decide) (by decide), rfld_of_rget (rget_rfset_other _ _ _ _ (by decide)),
      rfld_of_rget (rget_rmax_other _ _ _ _ (by decide)), hvmax, satN_of_lt (n := 16) hv]
    exact Nat.mod_eq_of_lt (max_lt hmax hv)

/-- INPUT_OUT_OF_RANGE reports the side on which the metered input lies (R386). -/
theorem inputOutOfRange_reports (s : State) (hrun : domainRuns s 9 = true) (hev : eventsTaken s = true) :
    completes .inputOutOfRange s (fun t =>
      (rfld s Reg.NRG_INPUT_V 15 0 < 43200 → eventPending t 0x909 = true) ∧
      (52800 < rfld s Reg.NRG_INPUT_V 15 0 → eventPending t 0x90A = true) ∧
      (43200 ≤ rfld s Reg.NRG_INPUT_V 15 0 → rfld s Reg.NRG_INPUT_V 15 0 ≤ 52800 → t = s)) := by
  refine ⟨inputOutOfRange s, rfl, ?_⟩
  beta_reduce
  simp only [inputOutOfRange, hrun, Bool.not_true, Bool.false_eq_true, if_false]
  split
  · exact ⟨fun _ => raise0_eventPending _ _ _ hev, fun _ => by omega, fun _ => by omega⟩
  · split
    · exact ⟨fun _ => by omega, fun _ => raise0_eventPending _ _ _ hev, fun _ _ => by omega⟩
    · exact ⟨fun _ => by omega, fun _ => by omega, fun _ _ => rfl⟩

/-! ### What the planner and the ledger leave of each other -/

/-- What the ledger keeps: its entries, the energy of the interval in hand and its start, and the total. -/
def ledgerSide (n : Nrg) : List (List Nat) × Nat × Nat × Nat := (n.ledger, n.acc, n.closeT, n.total)

/-- What the plan and the guard keep: the steps in force and those decided, and what the planner knows of the faults of THM. -/
def planSide (n : Nrg) : (Nat × Nat) × (Option Nat × Option Nat) × Bool × Bool × Bool :=
  ((n.planShed, n.guardShed), (n.planNext, n.guardNext), n.recheck, n.cutNow, n.tb4Now)

theorem breachOn_nrg (s : State) : (breachOn s).nrg = { s.nrg with breach := true, clearT := none } := by
  unfold breachOn
  split
  · next h => rw [nrgMod_nrg, ← h]
  · rw [raise0_nrg, nrgMod_nrg]

theorem nrgMod_rset_nrg (f : Nrg → Nrg) (s : State) (a v : Nat) : (nrgMod f (rset s a v)).nrg = f s.nrg := rfl

theorem setBudget_nrg (p : Nat) (s : State) : (setBudget p s).nrg = { s.nrg with tb := planTb s, checked := true } := by
  unfold setBudget
  exact nrgMod_rset_nrg ..

/-- The energy domain after a re-check of the plan, in which the planner decided `next` (R393, R394, R396). -/
def planJudged (next : Option Nat) (bad breach : Bool) (clear : Option Nat) (tb : Nat) (n : Nrg) : Nrg :=
  { n with planNext := next, planBad := bad, breach := breach, clearT := clear, tb := tb, checked := true }

/-- The plan after its re-check has decided: the steps of the next line boundary, and MGT_BUDGET_NRG (R393, R394). -/
def planChecked (s : State) : State :=
  let p := planDecide s (planTb s) s.nrg.planShed
  setBudget p (nrgMod (fun n => { n with
    planNext := if p = n.planShed then none else some p, planBad := !planFits s (planTb s) p }) s)

/-- A re-check decides, and then the fault of R396 arises, begins to clear, or stays as it is. -/
theorem planRecheck_cases {s : State} (hadm : s.nrg.admitted = true) (hres : inReset s 0x90101 = false) :
    planRecheck s = breachOn (planChecked s) ∨ planRecheck s = nrgMod (fun n => { n with clearT := some s.t }) (planChecked s) ∨
      planRecheck s = planChecked s := by
  have hgo : ¬(!s.nrg.admitted || inReset s 0x90101) = true := by simp [hadm, hres]
  unfold planRecheck
  rw [if_neg hgo]
  extract_lets p bad s1
  split
  · exact .inl rfl
  · split
    · exact .inr (.inl rfl)
    · exact .inr (.inr rfl)

theorem planRecheck_nrg {s : State} (hadm : s.nrg.admitted = true) (hres : inReset s 0x90101 = false) :
    ∃ bad breach clear tb, (planRecheck s).nrg = planJudged (if planDecide s (planTb s) s.nrg.planShed = s.nrg.planShed then none
        else some (planDecide s (planTb s) s.nrg.planShed)) bad breach clear tb s.nrg := by
  have hset : ∀ p f, (setBudget p (nrgMod f s)).nrg = { f s.nrg with tb := planTb (nrgMod f s), checked := true } := fun p f => by
    rw [setBudget_nrg, nrgMod_nrg]
  rcases planRecheck_cases hadm hres with h | h | h
  · rw [h, breachOn_nrg, planChecked, hset]
    exact ⟨_, _, _, _, rfl⟩
  · rw [h, nrgMod_nrg, planChecked, hset]
    exact ⟨_, _, _, _, rfl⟩
  · rw [h, planChecked, hset]
    exact ⟨_, _, _, _, rfl⟩

theorem planRecheck_of_not_admitted {s : State} (h : ¬(s.nrg.admitted = true ∧ inReset s 0x90101 = false)) : planRecheck s = s :=
  if_pos (by simpa [imp_iff_not_or] using h)

/-- A re-check leaves every part of the energy domain that its judgement is no part of. -/
theorem planRecheck_keeps {α : Type} {g : Nrg → α} (hg : ∀ next bad breach clear tb n, g (planJudged next bad breach clear tb n) = g n)
    (s : State) : g (planRecheck s).nrg = g s.nrg := by
  by_cases h : s.nrg.admitted = true ∧ inReset s 0x90101 = false
  · obtain ⟨bad, breach, clear, tb, hn⟩ := planRecheck_nrg h.1 h.2
    rw [hn, hg]
  · rw [planRecheck_of_not_admitted h]

/-! ### The shed steps that take effect (R394, R395) -/

/-- Each of `n` steps is logged and raises event `code`: step `step i` for cause `cause i` (R394). -/
def stepsTaken (code : Nat) (restore : Bool) (step cause : Nat → Nat) (n : Nat) (s : State) : State :=
  (List.range n).foldl (fun s i => raise0 code 0x90101 [cause i, step i] (shedEntry restore (step i) (cause i) s)) s

section
variable (code : Nat) (restore : Bool) (step cause : Nat → Nat) (n : Nat) (s : State)

theorem stepsTaken_succ : stepsTaken code restore step cause (n + 1) s = raise0 code 0x90101 [cause n, step n]
    (shedEntry restore (step n) (cause n) (stepsTaken code restore step cause n s)) := by
  rw [stepsTaken, List.range_succ, List.foldl_append]
  rfl

theorem stepsTaken_regs : (stepsTaken code restore step cause n s).regs = s.regs :=
  foldl_keeps (g := State.regs) (fun _ _ => (raise0_regs ..).trans (nrgMod_regs ..)) _ s

theorem stepsTaken_rst : (stepsTaken code restore step cause n s).rst = s.rst :=
  foldl_keeps (g := State.rst) (fun _ _ => (raise0_rst ..).trans (nrgMod_rst ..)) _ s

/-- Steps that are taken change the shed log alone of the energy domain. -/
theorem stepsTaken_keeps {α : Type} {g : Nrg → α} (hg : ∀ log m, g { m with log := log } = g m) :
    g (stepsTaken code restore step cause n s).nrg = g s.nrg :=
  foldl_keeps (g := fun u => g u.nrg) (fun _ _ => (congrArg g ((raise0_nrg ..).trans (nrgMod_nrg ..))).trans (hg _ _)) _ s

theorem stepsTaken_keeps_pending {c : Nat} (h : eventPending s c = true) :
    eventPending (stepsTaken code restore step cause n s) c = true :=
  List.foldlRecOn (motive := fun u => eventPending u c = true) _ _ h (fun u hu i _ =>
    raise0_keeps_pending _ _ _ ((eventPending_of_evt (t := shedEntry restore (step i) (cause i) u) (nrgMod_evt ..) c).trans hu))

theorem stepsTaken_eventPending (h : 0 < n) (hev : eventsTaken s = true) :
    eventPending (stepsTaken code restore step cause n s) code = true := by
  obtain ⟨m, rfl⟩ := Nat.exists_eq_add_one_of_ne_zero h.ne'
  rw [stepsTaken_succ]
  exact raise0_eventPending _ _ _ ((eventsTaken_of_rst (stepsTaken_rst ..)).trans hev)

end

/-- The decided steps are in force, and none is decided further (R394). -/
def stepsInForce (n : Nrg) : Nrg :=
  { n with planShed := n.planNext.getD n.planShed, guardShed := n.guardNext.getD n.guardShed, planNext := none, guardNext := none }

/-- The decided steps are in force, in MGT_SHED_STATUS, in the log and with their events, the STATUS packets apart. -/
def shedTaken (s : State) : State :=
  let s1 := nrgMod stepsInForce s
  let cause := fun (plan i : Nat) => if i ≤ plan then 1 else 2
  let old := shedNow s
  stepsTaken 0x903 true (fun i => old - i) (fun i => cause s.nrg.planShed (old - i)) (old - shedNow s1)
    (stepsTaken 0x902 false (fun i => old + i + 1) (fun i => cause s1.nrg.planShed (old + i + 1)) (shedNow s1 - old)
      (rfset s1 Reg.MGT_SHED_STATUS 11 8 (stepMask (shedNow s1))))

theorem shedApply_within {s : State} (h : ¬(s.nrg.planNext.isNone = true ∧ s.nrg.guardNext.isNone = true)) :
    Laws.Within 65536 (shedTaken s) (shedApply s) := by
  rw [shedApply, if_neg h]
  exact Laws.within_ite (Laws.within_sendStatusAll ..)
    (Laws.within_ite (Laws.within_sendStatusAll ..) (Laws.Within.refl ..))

theorem stepsInForce_of_none {n : Nrg} (h : n.planNext = none) (h' : n.guardNext = none) : stepsInForce n = n := by
  cases n
  subst h h'
  rfl

theorem shedTaken_nrg {α : Type} {g : Nrg → α} (hg : ∀ log m, g { m with log := log } = g m) (s : State) :
    g (shedTaken s).nrg = g (stepsInForce s.nrg) := by
  rw [shedTaken, stepsTaken_keeps _ _ _ _ _ _ hg, stepsTaken_keeps _ _ _ _ _ _ hg, rfset_nrg, nrgMod_nrg]

/-- At a line boundary the decided steps are in force; the rest of the energy domain, the shed log apart, stays (R394). -/
theorem shedApply_nrg {α : Type} {g : Nrg → α} (hg : ∀ log m, g { m with log := log } = g m) (s : State) :
    g (shedApply s).nrg = g (stepsInForce s.nrg) := by
  by_cases h : s.nrg.planNext.isNone = true ∧ s.nrg.guardNext.isNone = true
  · rw [show shedApply s = s from if_pos h,
      stepsInForce_of_none (Option.isNone_iff_eq_none.mp h.1) (Option.isNone_iff_eq_none.mp h.2)]
  · rw [(shedApply_within h).nrg rfl, shedTaken_nrg hg]

theorem shedTaken_shows (s : State) : rfld (shedTaken s) Reg.MGT_SHED_STATUS 11 8 =
    stepMask (max (s.nrg.planNext.getD s.nrg.planShed) (s.nrg.guardNext.getD s.nrg.guardShed)) % 16 := by
  rw [shedTaken, rfld_congr ((stepsTaken_regs ..).trans (stepsTaken_regs ..)), rfld_rfset_same _ _ _ (by decide) (by decide)]
  rfl

/-- A rise of the steps in force raises 0x902, a fall 0x903 (R394). -/
theorem shedTaken_reports {s : State} (hev : eventsTaken s = true) {new : Nat}
    (hnew : new = max (s.nrg.planNext.getD s.nrg.planShed) (s.nrg.guardNext.getD s.nrg.guardShed)) :
    (shedNow s < new → eventPending (shedTaken s) 0x902 = true) ∧ (new < shedNow s → eventPending (shedTaken s) 0x903 = true) := by
  have hnew' : shedNow (nrgMod stepsInForce s) = new := hnew.symm
  have hrst : ∀ m, eventsTaken (rfset (nrgMod stepsInForce s) Reg.MGT_SHED_STATUS 11 8 m) = true := fun m =>
    (eventsTaken_of_rst ((rfset_rst ..).trans (nrgMod_rst ..))).trans hev
  rw [shedTaken]
  dsimp only
  rw [hnew']
  refine ⟨fun h => stepsTaken_keeps_pending _ _ _ _ _ _ (stepsTaken_eventPending _ _ _ _ _ _ (by omega) (hrst _)), fun h => ?_⟩
  exact stepsTaken_eventPending _ _ _ _ _ _ (by omega) ((eventsTaken_of_rst (stepsTaken_rst ..)).trans (hrst _))

/-! ### The plan at a line boundary (R406, R422, R427) -/

/-- What the planner knows of the faults of THM, and whether R34 is due again. -/
def planDue (n : Nrg) : Bool × Bool × Bool := (n.recheck, n.cutNow, n.tb4Now)

/-- The planner takes over what THM reports, and R34 is due no more (R406). -/
def boundaryTaken (s : State) : State := nrgMod (fun n => { n with recheck := false }) (planAdopt s)

theorem planBoundary_of_not_due {s : State} (h : planDue s.nrg = (false, s.thm.envCut, s.thm.bothBad)) : planBoundary s = s := by
  obtain ⟨hre, hcut, htb4⟩ : s.nrg.recheck = false ∧ s.nrg.cutNow = s.thm.envCut ∧ s.nrg.tb4Now = s.thm.bothBad := by
    simpa [planDue] using h
  exact if_neg (by simp [hre, hcut, htb4])

theorem planBoundary_of_due {s : State} (h : planDue s.nrg ≠ (false, s.thm.envCut, s.thm.bothBad)) :
    planBoundary s = planRecheck (boundaryTaken s) := by
  refine if_pos ?_
  by_contra hno
  exact h (by simpa [planDue, and_assoc] using hno)

theorem planBoundary_keeps_ledger (s : State) : ledgerSide (planBoundary s).nrg = ledgerSide s.nrg := by
  by_cases h : planDue s.nrg = (false, s.thm.envCut, s.thm.bothBad)
  · rw [planBoundary_of_not_due h]
  · rw [planBoundary_of_due h, planRecheck_keeps (g := ledgerSide) (fun _ _ _ _ _ _ => rfl)]
    rfl

/-- From its boundary on the planner knows what THM reports (R406, R422, R427). -/
theorem planBoundary_adopts (s : State) : planDue (planBoundary s).nrg = (false, s.thm.envCut, s.thm.bothBad) := by
  by_cases h : planDue s.nrg = (false, s.thm.envCut, s.thm.bothBad)
  · rw [planBoundary_of_not_due h, h]
  · rw [planBoundary_of_due h, planRecheck_keeps (g := planDue) (fun _ _ _ _ _ _ => rfl)]
    rfl

/-! ### The entries of the ledger (R387-R389) -/

/-- The line whose entry closes was a GAP line. -/
def closesGap (s : State) : Bool := ((s.tbs.hist.find? (fun h => decide (h.tl < s.t))).map (·.gap)).getD true

/-- The energies of the entry that closes (R387). -/
def entryFields (s : State) : List Nat :=
  (ledgerFields s (s.t - s.nrg.closeT) (!s.tbs.standstill && !closesGap s)).map (satN 16)

/-- The FLAGS of the entry that closes (R387). -/
def entryFlags (s : State) : Nat :=
  packMsb [(b2n (s.nrg.granted || !s.nrg.running.isEmpty), 1), (stepMask (shedNow s), 4),
    (b2n (!s.nrg.meterOk || s.nrg.accBad), 1), (b2n (!s.tbs.standstill && closesGap s), 1), (b2n s.tbs.standstill, 1)]

/-- The interval ends: the energy and what ran in it start again (R387). -/
def intervalEnded (now : Nat) (n : Nrg) : Nrg := { n with acc := 0, accBad := false, closeT := now, granted := false }

/-- An entry enters the ledger and the sums since power-on (R387, R388). -/
def entryAdded (fs : List Nat) (rest : List Nat) (now : Nat) (n : Nrg) : Nrg :=
  { intervalEnded now n with
    ledger := ((fs ++ rest) :: n.ledger).take 1024, total := n.total + fs.getD 0 0
    sums := (List.range 14).map (fun i => n.sums.getD i 0 + fs.getD i 0) }

/-- The entry has closed; the shed steps have not yet taken effect. -/
def entryClosed (s : State) : State :=
  if inReset s 0x90100 then nrgMod (intervalEnded s.t) s
  else modelDiverge ((entryFields s).getD 0 0) (nsum ((entryFields s).drop 1))
    (nrgMod (entryAdded (entryFields s) [satN 16 ((s.t - s.nrg.closeT) / 100), entryFlags s] s.t) s)

theorem ledgerEntryClose_eq {s : State} (h : works s = true) : ledgerEntryClose s =
    if s.tbs.standstill then entryClosed s else planBoundary (shedApply (entryClosed s)) := by
  rw [ledgerEntryClose, if_neg (by simp [h])]
  rfl

theorem modelDiverge_keeps {α : Type} {g : Nrg → α} (hg : ∀ a b t l n, g { n with divMeas := a, divModel := b, divT := t, divLast := l } = g n)
    (meas model : Nat) (s : State) : g (modelDiverge meas model s).nrg = g s.nrg := by
  unfold modelDiverge
  extract_lets n a b
  split
  · exact (congrArg g (nrgMod_nrg ..)).trans (hg _ _ _ _ s.nrg)
  · exact (congrArg g ((raiseIf_nrg ..).trans (nrgMod_nrg ..))).trans (hg _ _ _ _ s.nrg)

theorem entryClosed_within (s : State) : Laws.Within 262176 s (entryClosed s) := by
  have hnrg : ∀ f, Laws.Within 262176 s (nrgMod f s) := fun f => (Laws.within_nrgMod f s).weaken rfl
  exact Laws.within_ite (hnrg _) (.next rfl (Laws.within_modelDiverge ..) (hnrg _))

theorem entryClosed_keeps_plan (s : State) : planSide (entryClosed s).nrg = planSide s.nrg := by
  unfold entryClosed
  split
  · rfl
  · rw [modelDiverge_keeps (g := planSide) (fun _ _ _ _ _ => rfl)]
    rfl

theorem entryClosed_ledger {s : State} (h : inReset s 0x90100 = false) : ledgerSide (entryClosed s).nrg =
    (((entryFields s ++ [satN 16 ((s.t - s.nrg.closeT) / 100), entryFlags s]) :: s.nrg.ledger).take 1024, 0, s.t,
      s.nrg.total + (entryFields s).getD 0 0) := by
  rw [entryClosed, if_neg (by simp [h]), modelDiverge_keeps (g := ledgerSide) (fun _ _ _ _ _ => rfl)]
  rfl

theorem ledgerEntryClose_keeps_ledger {s : State} (h : works s = true) :
    ledgerSide (ledgerEntryClose s).nrg = ledgerSide (entryClosed s).nrg := by
  rw [ledgerEntryClose_eq h]
  split
  · rfl
  · rw [planBoundary_keeps_ledger, shedApply_nrg (g := ledgerSide) (fun _ _ => rfl)]
    rfl

theorem ledgerEntryClose_enters (s : State) (dt : Nat) (gap stand : Bool) (hw : works s = true) (hres : inReset s 0x90100 = false)
    (hdt : dt = s.t - s.nrg.closeT) (hstand : stand = s.tbs.standstill)
    (hgap : gap = ((s.tbs.hist.find? (fun h => decide (h.tl < s.t))).map (·.gap)).getD true) :
    completes .ledgerEntryClose s (fun t =>
      (∃ flags, t.nrg.ledger = (((ledgerFields s dt (!stand && !gap)).map (satN 16) ++ [satN 16 (dt / 100), flags]) ::
        s.nrg.ledger).take 1024) ∧
      t.nrg.acc = 0 ∧ t.nrg.closeT = s.t ∧
      t.nrg.total = s.nrg.total + satN 16 ((ledgerFields s dt (!stand && !gap)).getD 0 0)) := by
  subst hdt hstand hgap
  obtain ⟨hledger, hacc, hclose, htotal⟩ : _ ∧ _ ∧ _ ∧ _ := by
    simpa only [ledgerSide, Prod.mk.injEq] using (ledgerEntryClose_keeps_ledger hw).trans (entryClosed_ledger hres)
  refine ⟨ledgerEntryClose s, rfl, ⟨entryFlags s, hledger⟩, hacc, hclose, htotal.trans ?_⟩
  rfl

section
variable {s : State} (hw : works s = true)
include hw

theorem ledgerEntryClose_at_boundary (hm : s.tbs.standstill = false) :
    ledgerEntryClose s = planBoundary (shedApply (entryClosed s)) := by
  rw [ledgerEntryClose_eq hw, if_neg (by simp [hm])]

/-- Decided steps take effect at a line boundary (R394, R395). -/
theorem ledgerEntryClose_sheds (p g : Nat) (hm : s.tbs.standstill = false) (hre : s.nrg.recheck = false)
    (hcut : s.nrg.cutNow = s.thm.envCut) (htb4 : s.nrg.tb4Now = s.thm.bothBad) (hp : p = s.nrg.planNext.getD s.nrg.planShed)
    (hg : g = s.nrg.guardNext.getD s.nrg.guardShed) (hev : eventsTaken s = true) :
    completes .ledgerEntryClose s (fun t => t.nrg.planShed = p ∧ t.nrg.guardShed = g ∧ t.nrg.planNext = none ∧
      t.nrg.guardNext = none ∧
      ((s.nrg.planNext.isSome = true ∨ s.nrg.guardNext.isSome = true) →
        rfld t Reg.MGT_SHED_STATUS 11 8 = stepMask (max p g) % 16) ∧
      (shedNow s < max p g → eventPending t 0x902 = true) ∧ (max p g < shedNow s → eventPending t 0x903 = true)) := by
  subst hp hg
  set u := entryClosed s
  have hu := entryClosed_within s
  obtain ⟨⟨hps, hgs⟩, ⟨hpn, hgn⟩, hre', hcut', htb4'⟩ : (u.nrg.planShed = s.nrg.planShed ∧ u.nrg.guardShed = s.nrg.guardShed) ∧
      (u.nrg.planNext = s.nrg.planNext ∧ u.nrg.guardNext = s.nrg.guardNext) ∧ u.nrg.recheck = s.nrg.recheck ∧
      u.nrg.cutNow = s.nrg.cutNow ∧ u.nrg.tb4Now = s.nrg.tb4Now := by
    simpa only [planSide, Prod.mk.injEq] using entryClosed_keeps_plan s
  have hthm : (shedApply u).thm = s.thm := ((Laws.within_shedApply u).thm rfl).trans (hu.thm rfl)
  have hdue : planDue (shedApply u).nrg = (false, (shedApply u).thm.envCut, (shedApply u).thm.bothBad) := by
    rw [shedApply_nrg (g := planDue) (fun _ _ => rfl), hthm, ← hcut, ← htb4, ← hre, ← hre', ← hcut', ← htb4']
    rfl
  have ht : ledgerEntryClose s = shedApply u := (ledgerEntryClose_at_boundary hw hm).trans (planBoundary_of_not_due hdue)
  have hplan : planSide (shedApply u).nrg = planSide (stepsInForce u.nrg) := shedApply_nrg (g := planSide) (fun _ _ => rfl) u
  obtain ⟨⟨h1, h2⟩, ⟨h3, h4⟩, -⟩ : (_ ∧ _) ∧ (_ ∧ _) ∧ _ := by
    simpa only [planSide, stepsInForce, Prod.mk.injEq] using hplan
  have hshed : shedNow u = shedNow s := by rw [shedNow, hps, hgs, shedNow]
  refine ⟨_, rfl, ?_⟩
  beta_reduce
  rw [ht]
  refine ⟨by rw [h1, hpn, hps], by rw [h2, hgn, hgs], h3, h4, ?_⟩
  by_cases hnone : s.nrg.planNext = none ∧ s.nrg.guardNext = none
  · rw [hnone.1, hnone.2]
    exact ⟨by simp, fun h => absurd h (lt_irrefl _), fun h => absurd h (lt_irrefl _)⟩
  · have hsome : ¬(u.nrg.planNext.isNone = true ∧ u.nrg.guardNext.isNone = true) := by
      rw [hpn, hgn]
      simpa using hnone
    have hto := shedApply_within hsome
    have hreports := shedTaken_reports (new := max (s.nrg.planNext.getD s.nrg.planShed) (s.nrg.guardNext.getD s.nrg.guardShed))
      ((eventsTaken_of_rst (hu.rst rfl)).trans hev) (by rw [hpn, hgn, hps, hgs])
    rw [hshed] at hreports
    rw [rfld_congr (hto.regs rfl), eventPending_of_evt (hto.evt rfl), eventPending_of_evt (hto.evt rfl), shedTaken_shows, hpn, hgn, hps, hgs]
    exact ⟨fun _ => rfl, hreports⟩

/-- A line boundary brings the planner what THM reports, and the re-check that was due (R406, R422, R427). -/
theorem ledgerEntryClose_adopts (hm : s.tbs.standstill = false) :
    completes .ledgerEntryClose s (fun t => t.nrg.recheck = false ∧ t.nrg.cutNow = s.thm.envCut ∧ t.nrg.tb4Now = s.thm.bothBad) := by
  have hthm : (shedApply (entryClosed s)).thm = s.thm :=
    ((Laws.within_shedApply _).thm rfl).trans ((entryClosed_within s).thm rfl)
  have hdue := planBoundary_adopts (shedApply (entryClosed s))
  rw [hthm, ← ledgerEntryClose_at_boundary hw hm] at hdue
  exact ⟨_, rfl, by simpa only [planDue, Prod.mk.injEq] using hdue⟩

/-- In standstill no decided step takes effect (R394). -/
theorem ledgerEntryClose_in_standstill (hm : s.tbs.standstill = true) :
    completes .ledgerEntryClose s (fun t => t.nrg.planShed = s.nrg.planShed ∧ t.nrg.guardShed = s.nrg.guardShed ∧
      t.nrg.planNext = s.nrg.planNext ∧ t.nrg.guardNext = s.nrg.guardNext) := by
  obtain ⟨⟨hps, hgs⟩, ⟨hpn, hgn⟩, -⟩ : (_ ∧ _) ∧ (_ ∧ _) ∧ _ := by
    simpa only [planSide, Prod.mk.injEq] using entryClosed_keeps_plan s
  refine ⟨ledgerEntryClose s, rfl, ?_⟩
  beta_reduce
  rw [ledgerEntryClose_eq hw, if_pos hm]
  exact ⟨hps, hgs, hpn, hgn⟩

end

/-- Settles O42: the clauses, each proved above, in their order. -/
theorem inputIsMeteredAndLedgered : Obligations.InputIsMeteredAndLedgered :=
  ⟨meterSample_meters, inputOutOfRange_reports, ledgerEntryClose_enters,
    fun _ p g hw hm hre hcut htb4 hp hg hev => ledgerEntryClose_sheds hw p g hm hre hcut htb4 hp hg hev,
    fun _ hw hm _ => ledgerEntryClose_adopts hw hm, fun _ hw hm => ledgerEntryClose_in_standstill hw hm⟩

end Sys2Proof.Proofs
end

section
/-! PROOFS. Envelope writes, the metered guard and the envelope-breach fault (R393, R395, R396, R409). -/

namespace Sys2Proof.Proofs

open Sys2Proof Sys2Proof.Machine

/-! ### Writes of NRG_ENV (R409) -/

/-- W_env, the one field of NRG_ENV. -/
def envField : Fld := ⟨15, 0, .rw, 4000, 15000⟩

theorem findReg_NRG_ENV : findReg Reg.NRG_ENV = some (⟨"NRG_ENV", 0x900000, [], [0x3A98], [envField]⟩, 0) := by decide +kernel

theorem findEvt_NRG_ENV : findEvt Reg.NRG_ENV = none := by decide +kernel

theorem mixedFields_NRG_ENV : mixedFields Reg.NRG_ENV = none := by
  rw [mixedFields, findReg_NRG_ENV]
  decide +kernel

theorem crossRefused_NRG_ENV (s : State) (v : Nat) : crossRefused s Reg.NRG_ENV v = false := rfl

theorem writeReg_NRG_ENV (v : Nat) (s : State) : writeReg Reg.NRG_ENV v s =
    if fldRefused v envField then ignoredWrite s else envelopeWrite v s := by
  rw [writeReg_rw s findEvt_NRG_ENV findReg_NRG_ENV (by simp) (by simp [envField]) (by decide) (by decide)]
  have hkept : fldKept Reg.NRG_ENV s envField = false := rfl
  have hmon : ¬(Reg.PEN_MON ≤ Reg.NRG_ENV ∧ Reg.NRG_ENV < Reg.PEN_MON + 16) := by decide
  simp [fieldsWrite, mixedFields_NRG_ENV, crossRefused_NRG_ENV, hkept, hmon, afterWrite]

theorem fldRefused_envField {v : Nat} (h : v < 65536) : fldRefused v envField = true ↔ v < 4000 ∨ 15000 < v := by
  simp [fldRefused, envField, bits, Nat.mod_eq_of_lt h]

theorem planTb_rset (s : State) (a v : Nat) : planTb (rset s a v) = planTb s := by rw [planTb, rset_nrg, rset_thm, planTb]

theorem inReset_of_rst {s t : State} (h : t.rst = s.rst) (fid : Nat) : inReset t fid = inReset s fid := by rw [inReset, inReset, h]

theorem envelopeWrite_rechecks (s : State) (v : Nat) (hlo : 4000 ≤ v) (hhi : v ≤ 15000) (hadm : s.nrg.admitted = true)
    (hres : inReset s 0x90101 = false) :
    completes (.envelopeWrite v) s (fun t => rnat t Reg.NRG_ENV = v ∧
      t.nrg.planNext = (if planDecide (rset s Reg.NRG_ENV v) (planTb s) s.nrg.planShed = s.nrg.planShed then none
        else some (planDecide (rset s Reg.NRG_ENV v) (planTb s) s.nrg.planShed))) := by
  have hv : v % 65536 = v := Nat.mod_eq_of_lt (by omega)
  have hwrite : writeReg Reg.NRG_ENV v s = planRecheck (rset s Reg.NRG_ENV v) := by
    rw [writeReg_NRG_ENV, if_neg (by rw [fldRefused_envField] <;> omega), envelopeWrite, hv, if_pos ⟨hlo, hhi⟩]
  obtain ⟨bad, breach, clear, tb, hnrg⟩ := planRecheck_nrg (s := rset s Reg.NRG_ENV v) (by rw [rset_nrg, hadm])
    ((inReset_of_rst (rset_rst ..) _).trans hres)
  refine ⟨_, congrArg Host.Outcome.next hwrite, ?_, ?_⟩
  · rw [rnat, rget_planRecheck _ (by decide), ← rnat, rnat_rset_same]
    exact Nat.mod_eq_of_lt (by omega)
  · rw [hnrg, planTb_rset, rset_nrg]
    rfl

theorem envelopeWrite_refused (s : State) (v : Nat) (hbad : v < 4000 ∨ 15000 < v) (hv : v < 65536) (hev : eventsTaken s = true) :
    completes (.envelopeWrite v) s (fun t => rnat t Reg.NRG_ENV = rnat s Reg.NRG_ENV ∧ t.nrg = s.nrg ∧ eventPending t 0xB0D = true) := by
  have hwrite : writeReg Reg.NRG_ENV v s = ignoredWrite s := by
    rw [writeReg_NRG_ENV, if_pos ((fldRefused_envField hv).mpr hbad)]
  refine ⟨_, congrArg Host.Outcome.next hwrite, ?_, ?_, ?_⟩
  · rw [ignoredWrite, rnat, rget_congr (raise0_regs ..), rsat, rget_rfset_other _ _ _ _ (by decide), ← rnat]
  · rw [ignoredWrite, raise0_nrg, rsat_nrg]
  · exact raise0_eventPending _ _ _ ((eventsTaken_of_rst (rsat_rst ..)).trans hev)

/-! ### The guard and the breach fault (R395, R396) -/

theorem guardCheck_decides (s : State) (p : Nat)
    (hp : p = max (s.nrg.planNext.getD s.nrg.planShed) (s.nrg.guardNext.getD s.nrg.guardShed)) (hon : guardOn s = true)
    (habove : envMw s < p100 s) (hmore : p < 4) :
    completes .guardCheck s (fun t => t.nrg = { s.nrg with guardNext := some (p + 1), aboveT := some s.t }) := by
  subst hp
  have hgo : guardOn s = true ∧ envMw s < p100 s ∧
      max (s.nrg.planNext.getD s.nrg.planShed) (s.nrg.guardNext.getD s.nrg.guardShed) < 4 := ⟨hon, habove, hmore⟩
  exact ⟨_, congrArg Host.Outcome.next (if_pos hgo), nrgMod_nrg ..⟩

theorem guardCheck_within_envelope (s : State) (h : p100 s ≤ envMw s) : completes .guardCheck s (fun t => t = s) :=
  ⟨_, congrArg Host.Outcome.next (if_neg (fun ⟨_, habove, _⟩ => absurd habove (not_lt.mpr h))), rfl⟩

theorem guardRestore_decides (s : State) (g : Nat) (hg : g + 1 = s.nrg.guardShed) (hon : guardOn s = true)
    (hnext : s.nrg.guardNext = none)
    (hroom : 11 * (p1000 s * 1000000000000 * 100 + stepPower100 s (g + 1)) ≤ 10 * (envMw s * 1000000000000 * 100)) :
    completes .guardRestore s (fun t => t.nrg = { s.nrg with guardNext := some g, roomT := some s.t }) := by
  refine ⟨guardRestore s, rfl, ?_⟩
  beta_reduce
  rw [guardRestore, ← hg, if_pos ⟨hon, Nat.succ_pos g, by rw [hnext]; rfl, hroom⟩, nrgMod_nrg, Nat.add_sub_cancel]

/-- The condition of the breach fault (R396). -/
def breachHolds (s : State) : Bool := s.nrg.planBad || (guardOn s && s.nrg.guardShed == 4 && decide (envMw s < p1000 s))

theorem envelopeBreach_arises (s : State) (hw : works s = true) (hbr : s.nrg.breach = false) (hev : eventsTaken s = true)
    (hcond : s.nrg.planBad = true ∨ (guardOn s = true ∧ s.nrg.guardShed = 4 ∧ envMw s < p1000 s)) :
    completes .envelopeBreach s (fun t => t.nrg = { s.nrg with breach := true, clearT := none } ∧ eventPending t 0x904 = true) := by
  have hholds : breachHolds s = true := by simpa [breachHolds, and_assoc] using hcond
  have ht : envelopeBreach s = breachOn s := by
    rw [envelopeBreach, if_neg (by simp [hw])]
    exact if_pos hholds
  refine ⟨_, congrArg Host.Outcome.next ht, breachOn_nrg s, ?_⟩
  rw [breachOn, if_neg (by simp [hbr])]
  exact raise0_eventPending _ _ _ ((eventsTaken_of_rst (nrgMod_rst ..)).trans hev)

theorem envelopeBreach_clears (s : State) (hw : works s = true) (hbr : s.nrg.breach = true) (hplan : s.nrg.planBad = false)
    (hguard : s.nrg.guardShed ≠ 4) (hev : eventsTaken s = true) :
    completes .envelopeBreach s (fun t => t.nrg = { s.nrg with breach := false, clearT := none } ∧ eventPending t 0x905 = true) := by
  have hholds : ¬breachHolds s = true := by simp [breachHolds, hplan, hguard]
  have ht : envelopeBreach s = raise0 0x905 0x90101 [] (nrgMod (fun n => { n with breach := false, clearT := none }) s) := by
    rw [envelopeBreach, if_neg (by simp [hw])]
    exact (if_neg hholds).trans (if_pos hbr)
  refine ⟨_, congrArg Host.Outcome.next ht, by rw [raise0_nrg, nrgMod_nrg], ?_⟩
  exact raise0_eventPending _ _ _ ((eventsTaken_of_rst (nrgMod_rst ..)).trans hev)

/-- Settles O43: the clauses, each proved above, in their order. -/
theorem envelopeIsKept : Obligations.EnvelopeIsKept :=
  ⟨envelopeWrite_rechecks, envelopeWrite_refused, guardCheck_decides, guardCheck_within_envelope, guardRestore_decides,
    envelopeBreach_arises, envelopeBreach_clears⟩

end Sys2Proof.Proofs
end

section
/-! PROOFS. Grants: requests, their evaluation, and grants by force (R397-R399). -/

namespace Sys2Proof.Proofs

open Sys2Proof Sys2Proof.Machine

/-- A counter counts on from `s` when what went before left it. -/
theorem countedMore_rsat_of_rfld {s u : State} {a hi lo : Nat} (h : rfld u a hi lo = rfld s a hi lo) (n : Nat) (hle : lo ≤ hi)
    (hw : hi < 32) : countedMore s (rsat u a hi lo n) a hi lo n := by
  have hcount := countedMore_rsat u a n hle hw
  rwa [countedMore, h] at hcount

/-! ### A grant is given (R397) -/

/-- Work that begins under a grant writes no register but ARY_SNAP_STATUS. -/
theorem rget_grantWork (g : Grant) (s : State) {a : Nat} (h : a ≠ Reg.ARY_SNAP_STATUS) : rget (grantWork g s) a = rget s a := by
  have hsettle : ∀ u : State, u.regs = s.regs → rget (nvSettle u) a = rget s a := fun u hu =>
    rget_congr (((Laws.within_nvSettle u).regs rfl).trans hu) a
  unfold grantWork
  extract_lets reserve nv bl
  split
  · rfl
  · rw [snapGrant, rget_rfset_other _ _ _ _ h, rget_rfset_other _ _ _ _ h]
    exact rget_congr (s := s) rfl a
  · rfl
  · exact hsettle _ rfl
  · exact hsettle _ rfl
  · rfl
  · exact hsettle _ rfl

/-- The energy domain when grant `g` runs from `now` on (R397). -/
def grantRuns (g : Grant) (now : Nat) (n : Nrg) : Nrg := { n with
  waiting := n.waiting.filter (fun x => !(x.order == g.order && x.who == g.who))
  running := n.running ++ [{ g with t := now }], granted := true }

/-- Grant `g` runs, and its wait is noted (R397). -/
def grantNoted (g : Grant) (s : State) : State :=
  let w := Reg.NRG_GRANT_WAIT + 4 * (g.order - 1)
  rwrap (rmax (nrgMod (grantRuns g s.t) s) w 31 16 ((s.t - g.t) / 200000)) w 15 0 1

/-- Grant `g` is counted as well; its work has not yet begun. -/
def grantCounted (g : Grant) (forced : Bool) (s : State) : State :=
  rsat (grantNoted g s) Reg.NRG_GRANT_COUNT (if forced then 31 else 15) (if forced then 16 else 0) 1

theorem giveGrant_eq (g : Grant) (forced : Bool) (s : State) : giveGrant g forced s = grantWork g (grantCounted g forced s) := rfl

theorem grantCounted_nrg (g : Grant) (forced : Bool) (s : State) : (grantCounted g forced s).nrg = grantRuns g s.t s.nrg := by
  rw [grantCounted, rsat_nrg, grantNoted, rwrap_nrg, rmax_nrg, nrgMod_nrg]

theorem giveGrant_nrg (g : Grant) (forced : Bool) (s : State) : (giveGrant g forced s).nrg = grantRuns g s.t s.nrg :=
  ((Laws.within_grantWork ..).nrg rfl).trans (grantCounted_nrg g forced s)

/-- The waits stand apart from the count. -/
theorem rget_grantNoted (g : Grant) (s : State) : rget (grantNoted g s) Reg.NRG_GRANT_COUNT = rget s Reg.NRG_GRANT_COUNT := by
  have hw : Reg.NRG_GRANT_COUNT ≠ Reg.NRG_GRANT_WAIT + 4 * (g.order - 1) := by
    simp only [Reg.NRG_GRANT_COUNT, Reg.NRG_GRANT_WAIT]
    omega
  exact ((rget_rfset_other _ _ _ _ hw).trans (rget_rmax_other _ _ _ _ hw)).trans (rget_congr (nrgMod_regs ..) _)

/-- A grant counts in its half of NRG_GRANT_COUNT (R397). -/
theorem giveGrant_counts (g : Grant) (forced : Bool) (s : State) : countedMore s (giveGrant g forced s) Reg.NRG_GRANT_COUNT
    (if forced then 31 else 15) (if forced then 16 else 0) 1 := by
  rw [countedMore, giveGrant_eq, rfld_of_rget (rget_grantWork _ _ (by decide)), grantCounted]
  exact countedMore_rsat_of_rfld (rfld_of_rget (rget_grantNoted g s) _ _) 1 (by cases forced <;> decide) (by cases forced <;> decide)

/-! ### Requests and their evaluation (R397, R399) -/

theorem grantRequest_waits (s : State) (o w : Nat) (hwant : wantsGrant s o w = true) (hnew : grantKnown s o w = false)
    (hres : inReset s 0x90101 = false) :
    completes (.grantRequest o w) s (fun t => t.nrg = { s.nrg with waiting := s.nrg.waiting ++ [⟨o, w, s.t, false⟩] }) :=
  ⟨_, congrArg Host.Outcome.next (if_pos (by simp [hwant, hnew, hres])), nrgMod_nrg ..⟩

/-- The waiting requests in the order of the table, oldest first within an order (R397). -/
def requestsInOrder (l : List Grant) : List Grant := [1, 2, 3, 4, 5].flatMap (fun o => l.filter (fun g => g.order == o))

theorem requestsInOrder_single {g : Grant} (h1 : 1 ≤ g.order) (h5 : g.order ≤ 5) : requestsInOrder [g] = [g] := by
  have horder : g.order = 1 ∨ g.order = 2 ∨ g.order = 3 ∨ g.order = 4 ∨ g.order = 5 := by omega
  rcases horder with h | h | h | h | h <;> simp [requestsInOrder, h]

theorem mem_of_mem_requestsInOrder {g : Grant} {l : List Grant} (h : g ∈ requestsInOrder l) : g ∈ l := by
  obtain ⟨_, _, hg⟩ := List.mem_flatMap.mp h
  exact List.mem_of_mem_filter hg

/-- One request is considered: given when its order is open, its work still wants it and it fits (R397, R398). -/
def requestConsidered (s : State) (g : Grant) : State :=
  if orderOpen s g.order && wantsGrant s g.order g.who && grantFits s g.order then giveGrant g false s else s

theorem grantEvaluation_eq (s : State) : grantEvaluation s =
    if inReset s 0x90101 then s else (requestsInOrder s.nrg.waiting).foldl requestConsidered s := rfl

/-- The work that a grant lets begin: the re-adaptation of a link, the snapshot, attestation. -/
theorem grantWork_begins (g : Grant) (s : State) :
    (g.order = 3 → (xwLane (grantWork g s) g.who).adapting = true ∧ (xwLane (grantWork g s) g.who).wantAdapt = false) ∧
      (g.order = 4 → (grantWork g s).ary.snapBusy = true ∧ (grantWork g s).ary.snapPend = false) ∧
      (g.order = 5 → (grantWork g s).mgt.attGranted = true) := by
  refine ⟨fun h => ?_, fun h => ?_, fun h => ?_⟩
  · have hwork : grantWork g s = setXw s g.who { xwLane s g.who with wantAdapt := false, adapting := true } := by
      simp only [grantWork, h]
    rw [hwork, xwLane_setXw, if_pos rfl]
    exact ⟨rfl, rfl⟩
  · have hwork : grantWork g s = snapGrant s := by simp only [grantWork, h]
    rw [hwork, snapGrant, rfset_ary, rfset_ary]
    exact ⟨rfl, rfl⟩
  · have hwork : grantWork g s = { s with mgt := { s.mgt with attGranted := true } } := by simp only [grantWork, h]
    rw [hwork]

theorem grantEvaluation_gives (s : State) (g : Grant) (hres : inReset s 0x90101 = false) (hwait : s.nrg.waiting = [g])
    (h1 : 1 ≤ g.order) (h5 : g.order ≤ 5) (hopen : orderOpen s g.order = true) (hwant : wantsGrant s g.order g.who = true)
    (hfit : grantFits s g.order = true) :
    completes .grantEvaluation s (fun t => t.nrg.waiting = [] ∧ t.nrg.running = s.nrg.running ++ [{ g with t := s.t }] ∧
      countedMore s t Reg.NRG_GRANT_COUNT 15 0 1 ∧
      (g.order = 3 → (xwLane t g.who).adapting = true ∧ (xwLane t g.who).wantAdapt = false) ∧
      (g.order = 4 → t.ary.snapBusy = true ∧ t.ary.snapPend = false) ∧ (g.order = 5 → t.mgt.attGranted = true)) := by
  have ht : grantEvaluation s = giveGrant g false s := by
    rw [grantEvaluation_eq, if_neg (by simp [hres]), hwait, requestsInOrder_single h1 h5]
    exact if_pos (by simp [hopen, hwant, hfit])
  refine ⟨_, congrArg Host.Outcome.next ht, ?_, ?_, giveGrant_counts g false s, grantWork_begins g _⟩
  · rw [giveGrant_nrg, grantRuns, hwait]
    simp
  · rw [giveGrant_nrg, grantRuns]

theorem grantEvaluation_without_room (s : State) (h : ∀ g, g ∈ s.nrg.waiting → grantFits s g.order = false) :
    completes .grantEvaluation s (fun t => t = s) := by
  have hnone : ∀ l : List Grant, (∀ g ∈ l, grantFits s g.order = false) → l.foldl requestConsidered s = s := fun l => by
    induction l with
    | nil => exact fun _ => rfl
    | cons g l ih =>
      intro hl
      have hkept : requestConsidered s g = s := if_neg (by simp [hl g (by simp)])
      rw [List.foldl_cons, hkept, ih (fun x hx => hl x (by simp [hx]))]
  refine ⟨grantEvaluation s, rfl, ?_⟩
  beta_reduce
  rw [grantEvaluation_eq, hnone _ (fun g hg => h g (mem_of_mem_requestsInOrder hg)), ite_self]

/-! ### Requests past their limit (R397, R398) -/

section
variable {s : State} {g : Grant} (hfind : s.nrg.waiting.find? (fun x => x.order == g.order && x.who == g.who) = some g)
include hfind

theorem grantForced_gives (horder : g.order = 1 ∨ g.order = 2 ∨ (g.order = 5 ∧ orderOpen s 5 = true)) (hev : eventsTaken s = true) :
    completes (.grantForced g.order g.who) s (fun t => t.nrg.running = s.nrg.running ++ [{ g with t := s.t }] ∧
      t.nrg.waiting = s.nrg.waiting.filter (fun x => !(x.order == g.order && x.who == g.who)) ∧
      countedMore s t Reg.NRG_GRANT_COUNT 31 16 1 ∧ eventPending t 0x906 = true) := by
  have hopen : orderOpen s g.order = true := by
    rcases horder with h | h | ⟨h, h5⟩
    · simp [orderOpen, h]
    · simp [orderOpen, h]
    · rw [h, h5]
  have ht : grantForced g.order g.who s = raise0 0x906 0x90101 [g.order] (giveGrant g true s) := by
    rw [grantForced, hfind]
    dsimp only
    rw [if_neg (by omega), if_neg (by simp [hopen]; omega)]
  refine ⟨_, congrArg Host.Outcome.next ht, ?_, ?_, ?_, ?_⟩
  · rw [raise0_nrg, giveGrant_nrg, grantRuns]
  · rw [raise0_nrg, giveGrant_nrg, grantRuns]
  · exact (rfld_congr (raise0_regs ..) _ _ _).trans (giveGrant_counts g true s)
  · exact raise0_eventPending _ _ _ ((eventsTaken_of_rst ((Laws.within_giveGrant ..).rst rfl)).trans hev)

theorem grantForced_readaptation_waits (horder : g.order = 3) (hlong : g.long = false) (hev : eventsTaken s = true) :
    completes (.grantForced g.order g.who) s (fun t => t.nrg.running = s.nrg.running ∧
      t.nrg.waiting = s.nrg.waiting.map (fun x => if x = g then { x with long := true } else x) ∧ eventPending t 0x907 = true) := by
  have ht : grantForced g.order g.who s = raise0 0x907 0x90101 [] (nrgMod (fun n => { n with
      waiting := n.waiting.map (fun x => if x = g then { x with long := true } else x) }) s) := by
    rw [grantForced, hfind]
    dsimp only
    rw [if_pos horder, if_neg (by simp [hlong])]
  refine ⟨_, congrArg Host.Outcome.next ht, by rw [raise0_nrg, nrgMod_nrg], by rw [raise0_nrg, nrgMod_nrg], ?_⟩
  exact raise0_eventPending _ _ _ ((eventsTaken_of_rst (nrgMod_rst ..)).trans hev)

end

/-- Settles O44: the clauses, each proved above, in their order. -/
theorem grantsAreAskedGivenAndForced : Obligations.GrantsAreAskedGivenAndForced :=
  ⟨grantRequest_waits, grantEvaluation_gives, grantEvaluation_without_room,
    fun _ _ hfind horder hev => grantForced_gives hfind horder hev,
    fun _ _ hfind horder hlong hev => grantForced_readaptation_waits hfind horder hlong hev⟩

end Sys2Proof.Proofs
end

section
/-! PROOFS. Dips, the power-fail sequence with its seal page, and the restart after it (R400-R403, R433): what is kept of a device
that is held in reset, and what it reports when it starts. -/

namespace Sys2Proof.Proofs

open Sys2Proof Sys2Proof.Machine

/-! ### A device held in reset (R401, R432, R534) -/

theorem mget_filter_key {α : Type} (f : Nat → Bool) (m : Map α) (k : Nat) :
    mget (m.filter (fun p => f p.1)) k = if f k then mget m k else none := by
  induction m with
  | nil => simp
  | cons p m ih =>
    obtain ⟨a, w⟩ := p
    by_cases ha : a = k
    · subst ha
      by_cases hf : f a = true
      · simp [hf, mget]
      · simp [hf, ih]
    · by_cases hf : f a = true
      · simp [hf, mget, ha, ih]
      · simp [hf, mget, ha, ih]

/-- The registers that a device held in reset keeps (R534). -/
theorem rget_heldInReset (s : State) (a : Nat) : rget (heldInReset s) a =
    if a == Reg.NRG_PF_STATUS || a == Reg.MGT_BOOT_COUNT then rget s a else resetOf a := by
  have hregs : (heldInReset s).regs = s.regs.filter (fun p => p.1 == Reg.NRG_PF_STATUS || p.1 == Reg.MGT_BOOT_COUNT) := rfl
  rw [rget, hregs, mgetD, mget_filter_key (fun k => k == Reg.NRG_PF_STATUS || k == Reg.MGT_BOOT_COUNT)]
  split <;> rfl

theorem rget_heldInReset_NRG_PF_STATUS (s : State) : rget (heldInReset s) Reg.NRG_PF_STATUS = rget s Reg.NRG_PF_STATUS := by
  rw [rget_heldInReset, if_pos (by simp)]

theorem heldInReset_heldDown (s : State) : heldDown (heldInReset s) := by
  refine ⟨rfl, rfl, rfl, fun a hpf hboot => ?_⟩
  rw [rget_heldInReset, if_neg (by simp [hpf, hboot])]

/-- The parts by which a device is held down, those of `heldInReset u`. -/
theorem heldDown_of_held {t u : State} (hregs : t.regs = (heldInReset u).regs) (hstep : t.mgt.step = 0) (hstate : t.mgt.state = .boot)
    (hhiz : t.pen.hiz = true) : heldDown t := by
  obtain ⟨-, -, -, hreset⟩ := heldInReset_heldDown u
  exact ⟨hstep, hstate, hhiz, fun a hpf hboot => (rget_congr hregs a).trans (hreset a hpf hboot)⟩

/-- With every rail but the flash domain cut, the recorder goes on and takes no records, and the rest is as held in reset (R401). -/
theorem cutToFlash_keeps (was u : State) : (cutToFlash was u).regs = (heldInReset u).regs ∧
    (cutToFlash was u).nrg = (heldInReset u).nrg ∧ (cutToFlash was u).pen = (heldInReset u).pen ∧
    (cutToFlash was u).mgt.step = 0 ∧ (cutToFlash was u).mgt.state = .boot ∧ (cutToFlash was u).mgt.flash = u.mgt.flash ∧
    (cutToFlash was u).evt.rcd.taking = false ∧ (cutToFlash was u).evt.rcd.intake = [] := by
  unfold cutToFlash
  extract_lets h c
  split
  · exact ⟨rfl, rfl, rfl, rfl, rfl, rfl, rfl, rfl⟩
  · exact ⟨rfl, rfl, rfl, rfl, rfl, rfl, rfl, rfl⟩

/-! ### What the recorder writes of registers (R511, R518) -/

theorem rget_dropSummary (s : State) (a : Nat) : rget (dropSummary s) a = rget s a := by
  unfold dropSummary
  dsimp only
  split
  · exact rget_congr (raise0_regs ..) a
  · rfl

section
variable {a : Nat} (hcount : a ≠ Reg.TBS_DL_COUNT + 4 * 9) (hlast : a ≠ Reg.TBS_DL_LAST + 4 * 9)
include hcount hlast

theorem rget_checkBacklog (s : State) : rget (checkBacklog s) a = rget s a := by
  unfold checkBacklog
  dsimp only
  split
  · unfold dlMissUnless dlMiss
    dsimp only
    split
    · rfl
    · split
      · rfl
      · split
        · exact rget_congr (raise_regs ..) a
        · rw [dlCount, rget_rset_other _ _ hlast, rsat, rget_rfset_other _ _ _ _ hcount]
          exact rget_congr (raise_regs ..) a
  · rfl

theorem rget_backlogJudged (old : Nat) (s : State) : rget (backlogJudged old s) a = rget s a := by
  unfold backlogJudged
  split
  · rfl
  · exact rget_checkBacklog hcount hlast s

theorem rget_queueMirror (seq : Nat) (s : State) : rget (queueMirror seq s) a = rget s a := by
  unfold queueMirror
  dsimp only
  split
  · rfl
  · split
    · rfl
    · split
      · rfl
      · split
        · exact rget_checkBacklog hcount hlast _
        · rfl

theorem rget_writeFront (x : Rec) (rest : List Rec) (s : State) : rget (writeFront x rest s) a = rget s a := by
  unfold writeFront
  extract_lets src rep q r r0 ev w s1
  split
  · rfl
  · rw [rget_queueMirror hcount hlast, rget_backlogJudged hcount hlast,
      foldl_keeps (g := fun u => rget u a) (fun u _ => rget_congr (raise0_regs ..) a)]
    rfl

theorem rget_recordWrite (s : State) : rget (recordWrite s) a = rget s a := by
  unfold recordWrite
  split
  · exact rget_dropSummary _ a
  · exact (rget_dropSummary _ a).trans (rget_writeFront hcount hlast _ _ s)

theorem rget_drainIntake (n : Nat) (s : State) : rget (drainIntake n s) a = rget s a := by
  induction n generalizing s with
  | zero => rfl
  | succ n ih =>
    rw [drainIntake]
    split
    · rfl
    · rw [ih, rget_recordWrite hcount hlast]

end

/-! ### Dips (R400) -/

theorem pfThresholdCross_falls (s : State) (hpf : s.nrg.pf = 0) (htrip : s.thm.trip ≠ 2) (hdown : 0 ∉ s.mgt.downBy) :
    completes (.pfThresholdCross true) s (fun t => t.nrg = { s.nrg with pf := 1, pfT := s.t } ∧ t.regs = s.regs) := by
  have ht : pfThresholdCross true s = nrgMod (fun n => { n with pf := 1, pfT := s.t }) s := by
    rw [pfThresholdCross, if_neg (by simp [hpf]), if_pos rfl, if_pos ⟨hpf, htrip, by simpa using hdown⟩]
  exact ⟨_, congrArg Host.Outcome.next ht, nrgMod_nrg .., nrgMod_regs ..⟩

/-- The input has returned within 20 µs: the dip is counted (R400). -/
def dipCounted (s : State) : State := rsat (nrgMod (fun n => { n with pf := 0 }) s) Reg.NRG_PF_STATUS 31 16 1

theorem dipCounted_counts (s : State) : countedMore s (dipCounted s) Reg.NRG_PF_STATUS 31 16 1 :=
  countedMore_rsat (nrgMod (fun n => { n with pf := 0 }) s) Reg.NRG_PF_STATUS 1 (by decide) (by decide)

theorem pfThresholdCross_returns {s : State} (hpf : s.nrg.pf = 1) : pfThresholdCross false s =
    if alive s then raise0 0x90B 0x90001 [] (dipCounted s) else nrgMod (fun n => { n with due := n.due ++ [0x90B] }) (dipCounted s) := by
  rw [pfThresholdCross, if_neg (by simp), if_neg (by simp), if_pos hpf]
  rfl

theorem pfThresholdCross_reports_dip (s : State) (hpf : s.nrg.pf = 1) (halive : alive s = true) (hev : eventsTaken s = true) :
    completes (.pfThresholdCross false) s (fun t => t.nrg = { s.nrg with pf := 0 } ∧
      countedMore s t Reg.NRG_PF_STATUS 31 16 1 ∧ eventPending t 0x90B = true) := by
  refine ⟨_, congrArg Host.Outcome.next ((pfThresholdCross_returns hpf).trans (if_pos halive)), ?_, ?_, ?_⟩
  · rw [raise0_nrg, dipCounted, rsat_nrg, nrgMod_nrg]
  · exact (rfld_congr (raise0_regs ..) _ _ _).trans (dipCounted_counts s)
  · exact raise0_eventPending _ _ _ ((eventsTaken_of_rst ((rsat_rst ..).trans (nrgMod_rst ..))).trans hev)

theorem pfThresholdCross_keeps_dip_due (s : State) (hpf : s.nrg.pf = 1) (halive : alive s = false) :
    completes (.pfThresholdCross false) s (fun t => t.nrg = { s.nrg with pf := 0, due := s.nrg.due ++ [0x90B] } ∧
      countedMore s t Reg.NRG_PF_STATUS 31 16 1) := by
  refine ⟨_, congrArg Host.Outcome.next ((pfThresholdCross_returns hpf).trans (if_neg (by simp [halive]))), ?_, ?_⟩
  · rw [nrgMod_nrg, dipCounted, rsat_nrg, nrgMod_nrg]
  · exact (rfld_congr (nrgMod_regs ..) _ _ _).trans (dipCounted_counts s)

theorem pfThresholdCross_while_held (s : State) (hpf : s.nrg.pf = 4) :
    completes (.pfThresholdCross true) s (fun t => 0 ∈ t.mgt.downBy ∧ t.nrg = s.nrg ∧ t.regs = s.regs) := by
  refine ⟨_, congrArg Host.Outcome.next (if_pos ⟨rfl, hpf⟩), ?_, mgtMod_nrg .., mgtMod_regs ..⟩
  rw [mgtMod_mgt]
  exact List.mem_cons_self ..

/-! ### The power failure (R401, R402) -/

/-- With no flash operation in hand no erase is abandoned. -/
theorem eraseAbandon_flash_of_idle {s : State} (h : flashIdle s) : (eraseAbandon s).mgt.flash = s.mgt.flash := by
  obtain ⟨hop, hdev, -, herase⟩ := h
  have hnone : begunErases s = [] := by simp [begunErases, hop, hdev]
  have hcut : eraseCut s = s := by simp [eraseCut, hnone, herase]
  rw [eraseAbandon, hcut, mgtMod_mgt]

/-- POWER_FAIL has written its record, and its count is yet to come (R401 step 2). -/
def failureRecorded (s : State) : State := drainIntake 17 (outputsReleased (raise0 0x90C 0x90001 [] (recorderForced (eraseAbandon s))))

theorem rget_failureRecorded (s : State) : rget (failureRecorded s) Reg.NRG_PF_STATUS = rget s Reg.NRG_PF_STATUS := by
  rw [failureRecorded, rget_drainIntake (by decide) (by decide), rget_congr ((Laws.within_outputsReleased _).regs rfl),
    rget_congr (raise0_regs ..), rget_congr ((Laws.within_recorderForced _).regs rfl), rget_congr ((Laws.within_eraseAbandon _).regs rfl)]

theorem failureRecorded_mgt (s : State) : (failureRecorded s).mgt = (eraseAbandon s).mgt := by
  rw [failureRecorded, (Laws.within_drainIntake ..).mgt rfl, (Laws.within_outputsReleased _).mgt rfl, raise0_mgt,
    (Laws.within_recorderForced _).mgt rfl]

/-- The failure is recorded and counted in NRG_PF_STATUS (R401, R402). -/
def failureCounted (s : State) : State :=
  rsat (rfset (failureRecorded s) Reg.NRG_PF_STATUS 5 5 (b2n (programFlying s))) Reg.NRG_PF_STATUS 4 0 1

theorem failureCounted_counts (s : State) : countedMore s (failureCounted s) Reg.NRG_PF_STATUS 4 0 1 := by
  have hbefore : rfld (rfset (failureRecorded s) Reg.NRG_PF_STATUS 5 5 (b2n (programFlying s))) Reg.NRG_PF_STATUS 4 0 =
      rfld s Reg.NRG_PF_STATUS 4 0 := by
    rw [rfld_rfset_apart _ _ _ (by decide) (by decide) (by decide) (by decide), rfld_of_rget (rget_failureRecorded s)]
  exact countedMore_rsat_of_rfld hbefore 1 (by decide) (by decide)

theorem failureCounted_notes_program (s : State) : rfld (failureCounted s) Reg.NRG_PF_STATUS 5 5 = b2n (programFlying s) := by
  rw [failureCounted, rsat, rfld_rfset_apart _ _ _ (by decide) (by decide) (by decide) (by decide),
    rfld_rfset_same _ _ _ (by decide) (by decide)]
  cases programFlying s <;> rfl

theorem powerFail_cuts (s : State) (hpf : s.nrg.pf = 1) (htrip : s.thm.trip ≠ 2) :
    completes .powerFail s (fun t => heldDown t ∧ t.nrg.pf = 2 ∧ countedMore s t Reg.NRG_PF_STATUS 4 0 1 ∧
      rfld t Reg.NRG_PF_STATUS 5 5 = b2n (programFlying s) ∧ t.evt.rcd.taking = false ∧ t.evt.rcd.intake = [] ∧
      (flashIdle s → t.mgt.flash = s.mgt.flash)) := by
  have ht : powerFail s = cutToFlash s (nrgMod (fun n => { n with pf := 2 }) (failureCounted s)) := by
    rw [powerFail, if_neg (by simp [hpf, htrip])]
    rfl
  set u := nrgMod (fun n => { n with pf := 2 }) (failureCounted s) with hu
  obtain ⟨hregs, hnrg, hpen, hstep, hstate, hflash, htaking, hintake⟩ := cutToFlash_keeps s u
  have hfld : ∀ hi lo, rfld (cutToFlash s u) Reg.NRG_PF_STATUS hi lo = rfld (failureCounted s) Reg.NRG_PF_STATUS hi lo := fun hi lo =>
    rfld_of_rget ((rget_congr hregs _).trans ((rget_heldInReset_NRG_PF_STATUS u).trans (rget_congr (nrgMod_regs ..) _))) hi lo
  refine ⟨_, congrArg Host.Outcome.next ht, heldDown_of_held hregs hstep hstate (by rw [hpen]; rfl), ?_, ?_, ?_, htaking, hintake,
    fun hidle => ?_⟩
  · rw [hnrg]
    rfl
  · exact (hfld 4 0).trans (failureCounted_counts s)
  · exact (hfld 5 5).trans (failureCounted_notes_program s)
  · rw [hflash, hu, nrgMod_mgt, failureCounted, rsat_mgt, rfset_mgt, failureRecorded_mgt, eraseAbandon_flash_of_idle hidle]

/-! ### The seal page (R401 steps 4 to 6) -/

/-- What the end of the sequence keeps: NRG_PF_STATUS, the flash, and what fell due before (R401 step 6). -/
theorem pfHold_keeps (u : State) : heldDown (pfHold u) ∧ (pfHold u).nrg.pf = 4 ∧
    rget (pfHold u) Reg.NRG_PF_STATUS = rget u Reg.NRG_PF_STATUS ∧ (pfHold u).mgt.flash = u.mgt.flash ∧
    (pfHold u).nrg.due = if rfld u Reg.NRG_PF_STATUS 7 6 = 2 then u.nrg.due ++ [0x90D] else u.nrg.due := by
  refine ⟨heldInReset_heldDown _, rfl, ?_, rfl, rfl⟩
  rw [pfHold, rget_heldInReset_NRG_PF_STATUS]
  exact rget_congr (nrgMod_regs ..) _

/-- The program in flight has completed, and the hold-up voltage `v` stands in NRG_PF_STATUS (R401 step 4). -/
def voltageNoted (v : Nat) (s : State) : State := rfset (nvDrop (programDone s)) Reg.NRG_PF_STATUS 15 8 (satN 8 v)

theorem sealPlace_rfset_nvDrop (u : State) (a hi lo v : Nat) : sealPlace (rfset (nvDrop u) a hi lo v) = sealPlace u := rfl

theorem sealPlace_voltageNoted (v : Nat) (s : State) : sealPlace (voltageNoted v s) = sealPlace (programDone s) :=
  sealPlace_rfset_nvDrop ..

theorem voltageNoted_due (v : Nat) (s : State) : (voltageNoted v s).nrg.due = s.nrg.due := by
  rw [voltageNoted, rfset_nrg]
  exact congrArg Nrg.due ((Laws.within_programDone s).nrg rfl)

/-- NRG_PF_STATUS with the hold-up voltage and what became of the seal. -/
theorem rfld_sealNoted (v x : Nat) (s : State) : rfld (rfset (voltageNoted v s) Reg.NRG_PF_STATUS 7 6 x) Reg.NRG_PF_STATUS 7 6 = x % 4 ∧
    rfld (rfset (voltageNoted v s) Reg.NRG_PF_STATUS 7 6 x) Reg.NRG_PF_STATUS 15 8 = satN 8 v := by
  refine ⟨rfld_rfset_same _ _ _ (by decide) (by decide), ?_⟩
  rw [rfld_rfset_apart _ _ _ (by decide) (by decide) (by decide) (by decide), voltageNoted,
    rfld_rfset_same _ _ _ (by decide) (by decide)]
  exact Nat.mod_eq_of_lt (satN_lt 8 v)

/-- When a trip came first, enough of NV_HOLD is left for the seal page (R434). -/
def sealFitsHold (s : State) : Bool := decide (islandNow s + 240000 ≤ s.thm.tripTimes.headD 0 + 600000)

/-- The seal page is programmed: the hold-up voltage suffices, the time is there, and the mirror has a page for it (R401, R434). -/
def sealGoes (v : Nat) (s : State) : Bool :=
  decide (75 ≤ v) && (s.thm.trip != 1 || sealFitsHold s) && (sealPlace (programDone s)).isSome

theorem pfSeal_eq {s : State} (v : Nat) (hpf : s.nrg.pf = 2) : pfSeal v s =
    if sealGoes v s then nrgMod (fun n => { n with pf := 3 }) (rfset (voltageNoted v s) Reg.NRG_PF_STATUS 7 6 1)
    else pfHold (rfset (voltageNoted v s) Reg.NRG_PF_STATUS 7 6 2) := by
  rw [pfSeal, if_neg (by simp [hpf]), sealGoes, ← sealPlace_voltageNoted v s]
  rfl

theorem pfSeal_starts_page (s : State) (v : Nat) (hpf : s.nrg.pf = 2) (hv : 75 ≤ v) (htrip : s.thm.trip ≠ 1)
    (hplace : (sealPlace (programDone s)).isSome = true) :
    completes (.pfSeal v) s (fun t => t.nrg.pf = 3 ∧ rfld t Reg.NRG_PF_STATUS 7 6 = 1 ∧ rfld t Reg.NRG_PF_STATUS 15 8 = satN 8 v) := by
  have hgoes : sealGoes v s = true := by simp [sealGoes, hv, htrip, hplace]
  obtain ⟨hstarted, hvolts⟩ := rfld_sealNoted v 1 s
  refine ⟨_, congrArg Host.Outcome.next ((pfSeal_eq v hpf).trans (if_pos hgoes)), by rw [nrgMod_nrg], ?_, ?_⟩
  · exact (rfld_congr (nrgMod_regs ..) _ _ _).trans hstarted
  · exact (rfld_congr (nrgMod_regs ..) _ _ _).trans hvolts

theorem pfSeal_skips_page (s : State) (v : Nat) (hpf : s.nrg.pf = 2) (hno : v < 75 ∨ sealPlace (programDone s) = none) :
    completes (.pfSeal v) s (fun t => heldDown t ∧ t.nrg.pf = 4 ∧ rfld t Reg.NRG_PF_STATUS 7 6 = 2 ∧
      rfld t Reg.NRG_PF_STATUS 15 8 = satN 8 v ∧ t.nrg.due = s.nrg.due ++ [0x90D]) := by
  have hskips : ¬sealGoes v s = true := by
    rcases hno with h | h
    · simp [sealGoes, Nat.not_le.mpr h]
    · simp [sealGoes, h]
  obtain ⟨hskipped, hvolts⟩ := rfld_sealNoted v 2 s
  obtain ⟨hheld, hpf4, hstatus, -, hdue⟩ := pfHold_keeps (rfset (voltageNoted v s) Reg.NRG_PF_STATUS 7 6 2)
  refine ⟨_, congrArg Host.Outcome.next ((pfSeal_eq v hpf).trans (if_neg hskips)), hheld, hpf4,
    (rfld_of_rget hstatus 7 6).trans hskipped, (rfld_of_rget hstatus 15 8).trans hvolts, ?_⟩
  rw [hdue, if_pos hskipped, rfset_nrg, voltageNoted_due]

/-- The bytes of the records of the seal page. -/
def sealBytes (s : State) : List Byte := (sealRecs s).flatMap (fun x => x.2.flatMap granBytes)

/-- The bytes of the header of a sector that the seal page begins. -/
def sealHeader (s : State) : List Byte := granBytes (mirrorHeader (((sealRecs s).head?.map (·.1)).getD 0) (s.evt.rcd.mUse + 1))

theorem flashPut_nil (a : Nat) (s : State) : flashPut a [] s = s := rfl

theorem sealWritten_flash {s : State} {i g : Nat} {first : Bool} (h : sealPlace s = some (i, g, first)) :
    (sealWritten s).mgt.flash =
      (flashPut (mirrorAddr i g) (sealBytes s) (flashPut (mirrorAddr i 0) (if first then sealHeader s else []) s)).mgt.flash := by
  simp only [sealWritten, h]
  rfl

theorem sealWritten_of_no_place {s : State} (h : sealPlace s = none) : sealWritten s = s := by simp only [sealWritten, h]

theorem pfSealDone_holds (s : State) (hpf : s.nrg.pf = 3) :
    completes .pfSealDone s (fun t => heldDown t ∧ t.nrg.pf = 4 ∧ rget t Reg.NRG_PF_STATUS = rget s Reg.NRG_PF_STATUS ∧
      (sealPlace s = none → t.mgt.flash = s.mgt.flash) ∧
      (∀ i g, sealPlace s = some (i, g, false) → t.mgt.flash =
        (flashPut (mirrorAddr i g) ((sealRecs s).flatMap (fun x => x.2.flatMap granBytes)) s).mgt.flash) ∧
      (∀ i g, sealPlace s = some (i, g, true) → t.mgt.flash =
        (flashPut (mirrorAddr i g) ((sealRecs s).flatMap (fun x => x.2.flatMap granBytes)) (flashPut (mirrorAddr i 0)
          (granBytes (mirrorHeader (((sealRecs s).head?.map (·.1)).getD 0) (s.evt.rcd.mUse + 1))) s)).mgt.flash)) := by
  obtain ⟨hheld, hpf4, hstatus, hflash, -⟩ := pfHold_keeps (sealWritten s)
  refine ⟨_, congrArg Host.Outcome.next (if_neg (by simp [hpf])), hheld, hpf4, hstatus.trans (rget_congr ((Laws.within_sealWritten s).regs rfl) _),
    fun h => ?_, fun i g h => ?_, fun i g h => ?_⟩
  · rw [hflash, sealWritten_of_no_place h]
  · rw [hflash, sealWritten_flash h, if_neg (by decide), flashPut_nil, sealBytes]
  · rw [hflash, sealWritten_flash h, if_pos rfl, sealBytes, sealHeader]

/-! ### The start after a power failure (R403, R460) -/

/-- The device at the start, before what the restart reports is raised (R460, R467). -/
def startBase (s : State) : State :=
  let h := heldInReset s
  let s1 := { h with
    t := 0
    mgt := { h.mgt with step := 1, devOps := h.mgt.eraseDue.map (fun a => ⟨9, a, [], false⟩), attCut := false }
    nrg := { h.nrg with due := [] }
    thm := { h.thm with island := h.thm.island + (h.t : Int), tripRec := none, leftCalm := false } }
  if h.mgt.attCut then attStatus 3 s1 else s1

theorem rget_startBase (s : State) {a : Nat} (h : a ≠ Reg.MGT_ATT_STATUS) : rget (startBase s) a = rget (heldInReset s) a := by
  unfold startBase
  extract_lets held m n th s1
  split
  · rw [attStatus, rget_rfset_other _ _ _ _ h]
    rfl
  · rfl

theorem startBase_starts (s : State) : (startBase s).t = 0 ∧ (startBase s).mgt.step = 1 ∧ (startBase s).mgt.state = .boot ∧
    (startBase s).pen.hiz = true ∧ (startBase s).mgt.flash = s.mgt.flash ∧ (startBase s).nrg.pf = s.nrg.pf ∧
    eventsTaken (startBase s) = true := by
  unfold startBase
  extract_lets held m n th s1
  split
  · have hev : eventsTaken (attStatus 3 s1) = eventsTaken s1 := eventsTaken_of_rst (rfset_rst ..)
    rw [hev, attStatus, rfset_t, rfset_mgt, rfset_pen, rfset_nrg]
    exact ⟨rfl, rfl, rfl, rfl, rfl, rfl, rfl⟩
  · exact ⟨rfl, rfl, rfl, rfl, rfl, rfl, rfl⟩

/-- What the start reports is raised; nothing but the event tree changes by it. -/
theorem startUp_within (s : State) : Laws.Within 32 (startBase s) (startUp s) := by
  unfold startUp
  extract_lets h m n th s1 s2
  have hdue : Laws.Within 32 (startBase s) s2 :=
    .next rfl (Laws.within_raiseIf ..) (Laws.within_foldl (fun _ _ hx => .next rfl (Laws.within_raise0 ..) hx) (.refl ..))
  split
  · exact hdue
  · exact .next rfl (Laws.within_raiseIf ..) (.next rfl (Laws.within_raise0 ..) hdue)

theorem eventPending_foldl_raise0 {fid c : Nat} {l : List Nat} (h : c ∈ l) {s : State} (hev : eventsTaken s = true) :
    eventPending (l.foldl (fun s c => raise0 c fid [] s) s) c = true := by
  induction l generalizing s with
  | nil => cases h
  | cons d l ih =>
    rcases List.mem_cons.mp h with rfl | h
    · rw [List.foldl_cons]
      exact List.foldlRecOn (motive := fun u => eventPending u c = true) _ _ (raise0_eventPending _ _ _ hev)
        (fun _ hu _ _ => raise0_keeps_pending _ _ _ hu)
    · exact ih h ((eventsTaken_of_rst (raise0_rst ..)).trans hev)

/-- A start reports what fell due before it (R400, R401). -/
theorem startUp_reports {s : State} {c : Nat} (h : c ∈ s.nrg.due) : eventPending (startUp s) c = true := by
  obtain ⟨-, -, -, -, -, -, hev⟩ := startBase_starts s
  unfold startUp
  extract_lets held m n th s1 s2
  have hdue : eventPending s2 c = true := raiseIf_keeps_pending _ _ _ _ _ _ (eventPending_foldl_raise0 h hev)
  split
  · exact hdue
  · exact raiseIf_keeps_pending _ _ _ _ _ _ (raise0_keeps_pending _ _ _ hdue)

theorem startUp_startsAnew (s : State) : startsAnew (startUp s) := by
  have hto := startUp_within s
  obtain ⟨ht, hstep, hstate, hhiz, -, -, -⟩ := startBase_starts s
  obtain ⟨-, -, -, hreset⟩ := heldInReset_heldDown s
  refine ⟨(hto.t rfl).trans ht, by rw [hto.mgt rfl, hstep], by rw [hto.mgt rfl, hstate], by rw [hto.pen rfl, hhiz],
    fun a hpf hboot hatt => ?_⟩
  rw [rget_congr (hto.regs rfl), rget_startBase s hatt]
  exact hreset a hpf hboot

theorem pfRestart_starts (s : State) (hpf : s.nrg.pf = 4) (hdown : ∀ x, x ∈ s.mgt.downBy → x = 0) (htrip : s.thm.trip = 0) :
    completes .pfRestart s (fun t => startsAnew t ∧ t.nrg.pf = 0 ∧ rget t Reg.NRG_PF_STATUS = rget s Reg.NRG_PF_STATUS ∧
      t.mgt.flash = s.mgt.flash ∧ (∀ c, c ∈ s.nrg.due → eventPending t c = true)) := by
  set u := mgtMod (fun m => { m with downBy := m.downBy.filter (· ≠ 0) }) (nrgMod (fun n => { n with pf := 0 }) s) with hu
  have hfree : u.mgt.downBy.isEmpty = true ∧ u.nrg.pf ≤ 1 ∧ u.thm.trip = 0 := by
    refine ⟨?_, Nat.zero_le 1, htrip⟩
    rw [List.isEmpty_iff]
    exact List.filter_eq_nil_iff.mpr (fun x hx => by simp [hdown x hx])
  have ht : pfRestart s = startUp u := by
    rw [pfRestart, if_neg (by simp [hpf])]
    exact if_pos hfree
  have hto := startUp_within u
  obtain ⟨-, -, -, -, hflash, hpf0, -⟩ := startBase_starts u
  refine ⟨_, congrArg Host.Outcome.next ht, startUp_startsAnew u, ?_, ?_, ?_, fun c hc => startUp_reports hc⟩
  · rw [hto.nrg rfl, hpf0]
    rfl
  · rw [rget_congr (hto.regs rfl), rget_startBase u (by decide), rget_heldInReset_NRG_PF_STATUS]
    rfl
  · rw [hto.mgt rfl, hflash]
    rfl

/-- Settles O45: the clauses, each proved above, in their order. -/
theorem powerFailSealsAndRestarts : Obligations.PowerFailSealsAndRestarts :=
  ⟨pfThresholdCross_falls, pfThresholdCross_reports_dip, pfThresholdCross_keeps_dip_due, powerFail_cuts, pfSeal_starts_page,
    pfSeal_skips_page, pfSealDone_holds, pfThresholdCross_while_held, pfRestart_starts⟩

end Sys2Proof.Proofs
end

section
/-! PROOFS. The hardware trip and the restart after it (R432-R435, R519): what raising an event leaves of the recorder, what a trip
leaves of the device, and the start at once that a restart is. -/

namespace Sys2Proof.Proofs

open Sys2Proof Sys2Proof.Machine

/-! ### What raising an event leaves of the recorder (R502, R512) -/

/-- The ring of the recorder, and what its mirror has in hand. -/
def ringSide (r : Recorder) : Map (BitVec 128) × Option (Nat × List (Nat × List (BitVec 128)) × Bool) × Option Nat :=
  (r.ring, r.mProg, r.mErasing)

theorem ringSide_offerIntake (r : Rec) (e : Evt) : ringSide (offerIntake r e).rcd = ringSide e.rcd := by
  unfold offerIntake
  dsimp only
  split
  · split
    · rfl
    · split <;> rfl
  · split
    · rfl
    · split
      · split <;> rfl
      · rfl

theorem ringSide_squall (cfg : Nat) (r : Rec) (e : Evt) : ringSide (squall cfg r e).rcd = ringSide e.rcd := by
  unfold squall
  extract_lets x d
  clear_value x d
  generalize tokenUnit = q
  split
  · exact ringSide_offerIntake ..
  · rfl

theorem ringSide_evtAfter (s : State) (o : Rec) : ringSide (evtAfter s o).rcd = ringSide s.evt.rcd := by
  unfold evtAfter
  dsimp only
  split
  · split
    · exact ringSide_offerIntake ..
    · exact ringSide_squall ..
  · rfl

theorem ringSide_raise (code fid : Nat) (args : List Nat) (ctag coord : Nat) (s : State) :
    ringSide (raise code fid args ctag coord s).evt.rcd = ringSide s.evt.rcd := by
  unfold raise
  dsimp only
  split
  · rfl
  · exact ringSide_evtAfter ..

theorem flashIdle_congr {s u : State} (hmgt : u.mgt = s.mgt) (hring : ringSide u.evt.rcd = ringSide s.evt.rcd) (h : flashIdle s) :
    flashIdle u := by
  obtain ⟨hop, hdev, hprog, herase⟩ := h
  simp only [ringSide, Prod.mk.injEq] at hring
  obtain ⟨-, hmProg, hmErasing⟩ := hring
  exact ⟨hmgt ▸ hop, hmgt ▸ hdev, hmProg.trans hprog, hmErasing.trans herase⟩

/-! ### A trip (R432, R433, R435) -/

/-- A trip is latched in the island, with its time and what the restart reports of it. -/
def tripLatched (h : Bool) (s : State) : State :=
  thmMod (fun t => { t with
    trip := if programFlying s then 1 else 2, tripTimes := (islandNow s :: t.tripTimes).take 3, lastH2 := h
    lastHold := programFlying s, trips := satN 16 (t.trips + 1), latched := t.latched || decide (3 ≤ tripsInHour s)
    tripRec := some (islandNow s, h, programFlying s, t.latched || decide (3 ≤ tripsInHour s)) }) s

/-- What the always-on island holds of a trip (R432). -/
def islandSide (t : Thm) : Nat × List Nat × Bool × Bool × Nat × Bool := (t.trip, t.tripTimes, t.lastH2, t.lastHold, t.trips, t.latched)

/-- In `t` the device is held in reset with what `v` had of trips, of the ring and of the flash (R432, R519). -/
structure HeldAs (v t : State) : Prop where
  down : heldDown t
  island : islandSide t.thm = islandSide v.thm
  ring : t.evt.rcd.ring = v.evt.rcd.ring
  flash : t.mgt.flash = v.mgt.flash

theorem heldInReset_heldAs (v : State) : HeldAs v (heldInReset v) := ⟨heldInReset_heldDown v, rfl, rfl, rfl⟩

theorem cutToFlash_heldAs (was v : State) : HeldAs v (cutToFlash was v) := by
  obtain ⟨hregs, -, hpen, hstep, hstate, hflash, -, -⟩ := cutToFlash_keeps was v
  refine ⟨heldDown_of_held hregs hstep hstate (congrArg Pen.hiz hpen), ?_, ?_, hflash⟩ <;>
  · unfold cutToFlash
    extract_lets h c
    split <;> rfl

/-- Before a trip cuts the rails, the outputs are released and erases in flight abandoned (R380, R433). -/
def tripReleased (v : State) : State := eraseAbandon (outputsReleased v)

theorem tripReleased_keeps (v : State) : (tripReleased v).thm = v.thm ∧ (tripReleased v).evt.rcd.ring = v.evt.rcd.ring ∧
    (flashIdle v → (tripReleased v).mgt.flash = v.mgt.flash) := by
  have habandon := Laws.within_eraseAbandon (outputsReleased v)
  have hrelease := Laws.within_outputsReleased v
  have hring : ringSide (outputsReleased v).evt.rcd = ringSide v.evt.rcd := ringSide_raise ..
  refine ⟨(habandon.thm rfl).trans (hrelease.thm rfl), ?_, fun hidle => ?_⟩
  · rw [tripReleased, habandon.evt rfl]
    exact congrArg Prod.fst hring
  · rw [tripReleased, eraseAbandon_flash_of_idle (flashIdle_congr (hrelease.mgt rfl) hring hidle), hrelease.mgt rfl]

theorem trip_eq {s : State} (h : Bool) (htrip : s.thm.trip = 0) (hdown : 0 ∉ s.mgt.downBy) (hpf : s.nrg.pf ≤ 1) :
    trip h s = if programFlying s then cutToFlash s (tripReleased (tripLatched h s))
      else heldInReset (tripReleased (nrgMod (fun n => { n with pf := 0 }) (tripLatched h s))) := by
  have hgo : ¬(s.thm.trip ≠ 0 ∨ s.mgt.downBy.contains 0 = true) := by simp [htrip, hdown]
  have hfly : (programFlying s || s.nrg.pf == 3) = programFlying s := by
    rw [show (s.nrg.pf == 3) = false from beq_eq_false_iff_ne.mpr (by omega), Bool.or_false]
  simp only [trip, if_neg hgo, hfly, show ¬ 2 ≤ s.nrg.pf by omega, if_false]
  rfl

theorem trip_heldAs {s : State} (h : Bool) (htrip : s.thm.trip = 0) (hdown : 0 ∉ s.mgt.downBy) (hpf : s.nrg.pf ≤ 1) :
    ∃ v, HeldAs (tripReleased v) (trip h s) ∧ v.thm = (tripLatched h s).thm ∧ v.evt = s.evt ∧ v.mgt = s.mgt := by
  rw [trip_eq h htrip hdown hpf]
  split
  · exact ⟨_, cutToFlash_heldAs .., rfl, rfl, rfl⟩
  · exact ⟨_, heldInReset_heldAs _, rfl, rfl, rfl⟩

theorem trip_cuts (s : State) (h : Bool) (htrip : s.thm.trip = 0) (hdown : 0 ∉ s.mgt.downBy) (hpf : s.nrg.pf ≤ 1) :
    completes (.trip h) s (fun t => heldDown t ∧ t.thm.trip = (if programFlying s then 1 else 2) ∧
      t.thm.tripTimes = (islandNow s :: s.thm.tripTimes).take 3 ∧ t.thm.lastH2 = h ∧ t.thm.lastHold = programFlying s ∧
      t.thm.trips = satN 16 (s.thm.trips + 1) ∧ t.thm.latched = (s.thm.latched || decide (3 ≤ tripsInHour s)) ∧
      t.evt.rcd.ring = s.evt.rcd.ring ∧ (flashIdle s → t.mgt.flash = s.mgt.flash)) := by
  obtain ⟨v, hheld, hthm, hevt, hmgt⟩ := trip_heldAs h htrip hdown hpf
  obtain ⟨hkthm, hkring, hkflash⟩ := tripReleased_keeps v
  have hisland := hheld.island
  rw [hkthm, hthm] at hisland
  simp only [islandSide, tripLatched, thmMod_thm, Prod.mk.injEq] at hisland
  obtain ⟨htr, htimes, hh2, hhold, htrips, hlatched⟩ := hisland
  refine ⟨trip h s, rfl, hheld.down, htr, htimes, hh2, hhold, htrips, hlatched, ?_, fun hidle => ?_⟩
  · rw [hheld.ring, hkring, hevt]
  · rw [hheld.flash, hkflash (flashIdle_congr hmgt (congrArg (fun e => ringSide e.rcd) hevt) hidle), hmgt]

/-! ### The end of the flash hold (R432 step 3, R433) -/

theorem programDone_of_idle {s : State} (h : flashIdle s) : programDone s = s := by
  obtain ⟨hop, hdev, hprog, -⟩ := h
  unfold programDone
  simp only [hop, hdev, hprog]
  split
  · rfl
  · split <;> simp_all

theorem programCut_of_idle {s : State} (h : flashIdle s) : programCut s = s := by
  obtain ⟨hop, hdev, hprog, -⟩ := h
  unfold programCut
  simp only [hop, hdev, hprog]
  split
  · rfl
  · split <;> simp_all

/-- The program in flight ends, or is cut at NV_HOLD (R433). -/
def programEnded (done : Bool) (s : State) : State := if done then programDone s else programCut s

theorem programEnded_keeps (done : Bool) (s : State) : (programEnded done s).thm = s.thm ∧ (programEnded done s).nrg = s.nrg ∧
    (flashIdle s → programEnded done s = s) := by
  cases done
  · exact ⟨(Laws.within_programCut s).thm rfl, (Laws.within_programCut s).nrg rfl, programCut_of_idle⟩
  · exact ⟨(Laws.within_programDone s).thm rfl, (Laws.within_programDone s).nrg rfl, programDone_of_idle⟩

theorem tripFlashCut_eq {s : State} (done : Bool) (htrip : s.thm.trip = 1) (hpf : s.nrg.pf ≤ 1) : tripFlashCut done s =
    heldInReset (nrgMod (fun n => { n with pf := if n.pf = 4 then 4 else 0 })
      (thmMod (fun t => { t with trip := 2 }) (programEnded done s))) := by
  simp only [tripFlashCut, htrip, ne_eq, not_true, show s.nrg.pf ≠ 2 by omega, show s.nrg.pf ≠ 3 by omega, if_false]
  rfl

theorem tripFlashCut_holds (s : State) (done : Bool) (htrip : s.thm.trip = 1) (hpf : s.nrg.pf ≤ 1) :
    completes (.tripFlashCut done) s (fun t => heldDown t ∧ t.thm.trip = 2 ∧ t.nrg.pf = 0 ∧
      t.thm.tripTimes = s.thm.tripTimes ∧ (flashIdle s → t.mgt.flash = s.mgt.flash)) := by
  obtain ⟨hthm, hnrg, hidle⟩ := programEnded_keeps done s
  refine ⟨_, congrArg Host.Outcome.next (tripFlashCut_eq done htrip hpf), heldInReset_heldDown _, rfl, ?_, ?_, fun h => ?_⟩
  · show (if (programEnded done s).nrg.pf = 4 then 4 else 0) = 0
    rw [hnrg, if_neg (by omega)]
  · have htimes : (programEnded done s).thm.tripTimes = s.thm.tripTimes := congrArg _ hthm
    exact htimes
  · exact congrArg (fun u => u.mgt.flash) (hidle h)

/-! ### Restarts (R431, R435, R459) -/

theorem startIfFree_of_free {s : State} (h : nothingHolds s) : startIfFree s = startUp s := by
  obtain ⟨hdown, hpf, htrip⟩ := h
  rw [startIfFree, if_pos ⟨List.isEmpty_iff.mpr hdown, hpf, htrip⟩]

theorem startUp_keeps (s : State) : (startUp s).mgt.flash = s.mgt.flash ∧ islandSide (startUp s).thm = islandSide s.thm := by
  have hto := startUp_within s
  obtain ⟨-, -, -, -, hflash, -, -⟩ := startBase_starts s
  refine ⟨(congrArg Mgt.flash (hto.mgt rfl)).trans hflash, (congrArg islandSide (hto.thm rfl)).trans ?_⟩
  unfold startBase
  extract_lets held m n th s1
  split
  · rw [attStatus, rfset_thm]
    rfl
  · rfl

/-- What fell due before the start has been raised, and the leaving of CALM (R400, R401, R431). -/
def dueRaised (s : State) : State :=
  raiseIf (s.thm.leftCalm || s.mgt.state == .calm) 0xA0B 0xA0201 [] 0 0 (s.nrg.due.foldl (fun s c => raise0 c 0x90001 [] s) (startBase s))

theorem startUp_eq (s : State) : startUp s = match s.thm.tripRec with
    | none => dueRaised s
    | some (t0, h2, hold, latch) => raiseIf latch 0xA0D 0xA0300 [] 0 0
        (raise0 0xA0C 0xA0300 [t0 % 2 ^ 32, t0 / 2 ^ 32, b2n h2, b2n hold] (dueRaised s)) := rfl

theorem foldl_raise0_rst (fid : Nat) (l : List Nat) (s : State) : (l.foldl (fun s c => raise0 c fid [] s) s).rst = s.rst :=
  foldl_keeps (g := State.rst) (fun _ _ => raise0_rst ..) l s

theorem dueRaised_eventsTaken (s : State) : eventsTaken (dueRaised s) = true := by
  obtain ⟨-, -, -, -, -, -, hev⟩ := startBase_starts s
  rw [dueRaised, eventsTaken_of_rst (raiseIf_rst ..), eventsTaken_of_rst (foldl_raise0_rst ..), hev]

/-- A start reports the trip before it (R435). -/
theorem startUp_reports_trip {s : State} (h : s.thm.tripRec.isSome = true) : eventPending (startUp s) 0xA0C = true := by
  obtain ⟨⟨t0, h2, hold, latch⟩, hrec⟩ := Option.isSome_iff_exists.mp h
  rw [startUp_eq, hrec]
  exact raiseIf_keeps_pending _ _ _ _ _ _ (raise0_eventPending _ _ _ (dueRaised_eventsTaken s))

/-- A start out of CALM reports that it has left it (R431). -/
theorem startUp_reports_calm {s : State} (h : (s.thm.leftCalm || s.mgt.state == .calm) = true) :
    eventPending (startUp s) 0xA0B = true := by
  obtain ⟨-, -, -, -, -, -, hev⟩ := startBase_starts s
  have hdue : eventPending (dueRaised s) 0xA0B = true := by
    rw [dueRaised]
    exact raiseIf_eventPending _ _ _ _ _ h ((eventsTaken_of_rst (foldl_raise0_rst ..)).trans hev)
  rw [startUp_eq]
  split
  · exact hdue
  · exact raiseIf_keeps_pending _ _ _ _ _ _ (raise0_keeps_pending _ _ _ hdue)

theorem tripRestart_starts (s : State) (htrip : s.thm.trip = 2) (hpf : s.nrg.pf ≤ 1) (hdown : s.mgt.downBy = []) :
    completes .tripRestart s (fun t => startsAnew t ∧ t.thm.trip = 0 ∧ t.thm.latched = s.thm.latched ∧
      t.mgt.flash = s.mgt.flash ∧ (s.thm.tripRec.isSome = true → eventPending t 0xA0C = true)) := by
  have ht : tripRestart s = startUp (thmMod (fun t => { t with trip := 0 }) s) := by
    rw [tripRestart, if_pos ⟨htrip, .inl hpf⟩]
    exact startIfFree_of_free ⟨hdown, hpf, rfl⟩
  obtain ⟨hflash, hisland⟩ := startUp_keeps (thmMod (fun t => { t with trip := 0 }) s)
  simp only [islandSide, thmMod_thm, Prod.mk.injEq] at hisland
  obtain ⟨htr, -, -, -, -, hlatched⟩ := hisland
  exact ⟨_, congrArg Host.Outcome.next ht, startUp_startsAnew _, htr, hlatched, hflash, fun h => startUp_reports_trip h⟩

/-- Settles O50: the clauses, each proved above, in their order. -/
theorem tripCutsAndRestarts : Obligations.TripCutsAndRestarts := ⟨trip_cuts, tripFlashCut_holds, tripRestart_starts⟩

end Sys2Proof.Proofs
end

section
/-! PROOFS. The orderly stop, CALM and the restarts from it (R429-R431, R437, R459). -/

namespace Sys2Proof.Proofs

open Sys2Proof Sys2Proof.Machine

/-! ### The confirmation (R429) -/

theorem orderlyStopConfirm_confirmed {s : State} {v m : Int} (hstop : s.thm.stop = 1) (hbad : s.thm.bothBad = false)
    (hpf : s.nrg.pf = 0) (htrip : s.thm.trip = 0) (hv : mget s.thm.reconv s.thm.hot = some v)
    (hm : m = (tMaxOf (s.thm.ts.set s.thm.hot v) s.thm.excl).1) : orderlyStopConfirm s =
    if stopCond m (riseRate s m) then
      raise0 0xA09 0xA0201 [] (thmMod (fun t => { t with stop := 2, stopT := s.t, stops := satN 8 (t.stops + 1) }) s)
    else raise0 0xA14 0xA0201 [] (thmMod (fun t => { t with stop := 0 }) s) := by
  unfold orderlyStopConfirm
  simp only [hstop, hv, hbad, hpf, htrip, hm, bne_self_eq_false, Bool.or_self, Bool.false_eq_true, if_false]

theorem orderlyStopConfirm_decides (s : State) (v m : Int) (hstop : s.thm.stop = 1) (hbad : s.thm.bothBad = false)
    (hpf : s.nrg.pf = 0) (htrip : s.thm.trip = 0) (hv : mget s.thm.reconv s.thm.hot = some v)
    (hm : m = (tMaxOf (s.thm.ts.set s.thm.hot v) s.thm.excl).1) (hev : eventsTaken s = true) :
    completes .orderlyStopConfirm s (fun t =>
      (stopCond m (riseRate s m) = true → eventPending t 0xA09 = true ∧
        t.thm = { s.thm with stop := 2, stopT := s.t, stops := satN 8 (s.thm.stops + 1) }) ∧
      (stopCond m (riseRate s m) = false → eventPending t 0xA14 = true ∧ t.thm = { s.thm with stop := 0 })) := by
  refine ⟨_, congrArg Host.Outcome.next (orderlyStopConfirm_confirmed hstop hbad hpf htrip hv hm), fun hc => ?_, fun hc => ?_⟩
  · rw [if_pos hc]
    exact ⟨raise0_eventPending _ _ _ hev, raise0_thm ..⟩
  · rw [if_neg (by simp [hc])]
    exact ⟨raise0_eventPending _ _ _ hev, raise0_thm ..⟩

theorem orderlyStopConfirm_dropped (s : State) (v : Int) (hstop : s.thm.stop = 1)
    (hno : s.thm.bothBad = true ∨ s.nrg.pf ≠ 0 ∨ s.thm.trip ≠ 0) (hv : mget s.thm.reconv s.thm.hot = some v) :
    completes .orderlyStopConfirm s (fun t => t.thm = { s.thm with stop := 0 } ∧ t.evt = s.evt) := by
  have hc : (s.thm.bothBad || s.nrg.pf != 0 || s.thm.trip != 0) = true := by simpa [or_assoc] using hno
  have ht : orderlyStopConfirm s = thmMod (fun t => { t with stop := 0 }) s := by
    unfold orderlyStopConfirm
    simp only [hstop, hv, hc, if_true]
  exact ⟨_, congrArg Host.Outcome.next ht, rfl, rfl⟩

/-! ### The cut (R430) -/

theorem aryResetScope_snapshot_evt (s : State) : (aryResetScope 0x10001 s).evt = s.evt := by
  simp only [aryResetScope, show (0x10001 : Nat) ≠ 0x10000 by decide, if_false, if_true]
  split
  · rw [rfset_evt, rfset_evt]
    rfl
  · rfl

theorem rowsLost_keeps_pending (snaps : List (Option Nat)) {s : State} {c : Nat} (h : eventPending s c = true) :
    eventPending (rowsLost snaps s) c = true :=
  List.foldlRecOn (motive := fun u => eventPending u c = true) _ _ h (fun u hu q _ => (snapRowLost_step 0 q u).pending c hu)

theorem foldl_queuesLost_keeps_pending (l : Map LaneSet) (q : Nat × LaneSet → List (List LUnit)) {s : State} {c : Nat}
    (h : eventPending s c = true) : eventPending (l.foldl (fun s p => queuesLost p.1 (q p) s) s) c = true :=
  List.foldlRecOn (motive := fun u => eventPending u c = true) _ _ h (fun _ hu p _ => (queuesLost_step 0 p.1 _ _).pending c hu)

theorem snapUnitsDiscarded_keeps_pending {s : State} {c : Nat} (h : eventPending s c = true) :
    eventPending (snapUnitsDiscarded s) c = true := by
  unfold snapUnitsDiscarded
  refine foldl_queuesLost_keeps_pending _ _ (rowsLost_keeps_pending _ ?_)
  rwa [eventPending_of_evt (lnkMod_evt ..), eventPending_of_evt (pipMod_evt ..)]

theorem arrayStopped_keeps_pending {s : State} {c : Nat} (h : eventPending s c = true) : eventPending (arrayStopped s) c = true := by
  rw [arrayStopped, eventPending_of_evt (aryMod_evt ..), eventPending_of_evt ((Laws.within_grantDrop ..).evt rfl)]
  refine snapUnitsDiscarded_keeps_pending ?_
  rwa [eventPending_of_evt (aryResetScope_snapshot_evt s)]

theorem strobesForced_forces {s : State} (hev : eventsTaken s = true) : (strobesForced s).vdt = s.vdt ∧
    (strobesForced s).pen.forcedOff = true ∧ (∀ n, n < 16 → (strobe (strobesForced s) n).on = false) ∧
    eventPending (strobesForced s) 0x816 = true := by
  have hoff := Laws.within_strobesOff s
  refine ⟨by rw [strobesForced, raise0_vdt, penMod_vdt, hoff.vdt rfl], by rw [strobesForced, raise0_pen, penMod_pen],
    fun n hn => ?_, ?_⟩
  · have hoffn := strobesOff_on s hn
    rw [strobe] at hoffn
    rw [strobesForced, strobe_congr (raise0_pen ..), strobe, penMod_pen]
    dsimp only
    exact hoffn
  · have hrst : (penMod (fun p => { p with forcedOff := true }) (strobesOff s)).rst = s.rst := by rw [penMod_rst, hoff.rst rfl]
    exact raise0_eventPending _ _ _ ((eventsTaken_of_rst hrst).trans hev)

theorem eventPending_privQueued (s : State) (c : Nat) : eventPending (privQueued s) c = eventPending s c := rfl

/-- The objects in the table have closed and reservations are released (R430 step 3). -/
def objectsClosed (s : State) : State := vdtMod (fun v => { v with resv := [] }) (vdtResetScope 0x60C00 s)

/-- The stop at its cut, before the calm STATUS goes out (R430 step 3). -/
def stopCut (s : State) : State :=
  thmMod (fun t => { t with stop := 3 }) (mgtMod (fun m => { m with capturing := false }) (arrayStopped (strobesForced (objectsClosed s))))

theorem orderlyStopCut_eq {s : State} (hstop : s.thm.stop = 2) : orderlyStopCut s = privQueued (calmSets (stopCut s)) :=
  if_neg (by simp [hstop])

theorem orderlyStopCut_cuts (s : State) (hstop : s.thm.stop = 2) (hev : eventsTaken s = true) :
    completes .orderlyStopCut s (fun t => t.thm = { s.thm with stop := 3 } ∧ t.mgt.capturing = false ∧ t.vdt.resv = [] ∧
      t.ary.reads = [] ∧ t.ary.flight = [] ∧ images t = false ∧ t.pen.forcedOff = true ∧ (∀ n, n < 16 →
      (strobe t n).on = false) ∧ eventPending t 0x816 = true) := by
  have hscope := Laws.within_vdtResetScope 0x60C00 s
  have hclosed : eventsTaken (objectsClosed s) = true := (eventsTaken_of_rst (hscope.rst rfl)).trans hev
  obtain ⟨hvdt, hforced, hoff, hpending⟩ := strobesForced_forces hclosed
  have hstrobes := Laws.within_strobesForced (objectsClosed s)
  have harray := Laws.within_arrayStopped (strobesForced (objectsClosed s))
  have hcalm := Laws.within_calmSets (stopCut s)
  have hqueued := Laws.within_privQueued (calmSets (stopCut s))
  refine ⟨_, congrArg Host.Outcome.next (orderlyStopCut_eq hstop), ?_⟩
  have hthm : (stopCut s).thm = { s.thm with stop := 3 } := by
    rw [stopCut, thmMod_thm, mgtMod_thm, harray.thm rfl, hstrobes.thm rfl]
    exact congrArg (fun t : Thm => { t with stop := 3 }) (hscope.thm rfl)
  have hpen : (privQueued (calmSets (stopCut s))).pen = (strobesForced (objectsClosed s)).pen := by
    rw [hqueued.pen rfl, hcalm.pen rfl, stopCut, thmMod_pen, mgtMod_pen, harray.pen rfl]
  have hary : (privQueued (calmSets (stopCut s))).ary = (arrayStopped (strobesForced (objectsClosed s))).ary := by
    rw [hqueued.ary rfl, hcalm.ary rfl, stopCut, thmMod_ary, mgtMod_ary]
  refine ⟨by rw [hqueued.thm rfl, hcalm.thm rfl, hthm], ?_, ?_, by rw [hary, arrayStopped, aryMod_ary],
    by rw [hary, arrayStopped, aryMod_ary], ?_, by rw [hpen, hforced], fun n hn => ?_, ?_⟩
  · rw [hqueued.mgt rfl, hcalm.mgt rfl, stopCut, thmMod_mgt, mgtMod_mgt]
  · rw [hqueued.vdt rfl, hcalm.vdt rfl, stopCut, thmMod_vdt, mgtMod_vdt, harray.vdt rfl, hvdt, objectsClosed, vdtMod_vdt]
  · have hstop3 : (privQueued (calmSets (stopCut s))).thm.stop = 3 := by rw [hqueued.thm rfl, hcalm.thm rfl, hthm]
    rw [images, hstop3, decide_eq_false (lt_irrefl 3), Bool.and_false]
  · rw [strobe_congr hpen, hoff n hn]
  · have hcut : eventPending (stopCut s) 0x816 = true := by
      rw [stopCut, eventPending_of_evt (thmMod_evt ..), eventPending_of_evt (mgtMod_evt ..)]
      exact arrayStopped_keeps_pending hpending
    rw [eventPending_privQueued, eventPending_of_evt (hcalm.evt rfl), hcut]

/-! ### CALM (R430 step 6) -/

theorem engHalted_haltAll {st : Nat} (cause : Nat) (s : State) {e : Nat} (h1 : st ≠ 1) (h2 : st ≠ 2) (he : e < 16) :
    engHalted (haltAll st cause s) e = true := by
  have heng := eng_foldl_haltEng (s := s) st cause (List.nodup_range (n := 16)) e
  rw [haltAll, engHalted, heng]
  split
  · simp [haltedIn, h1, h2]
  · next hc =>
    have hhalt : engHalted s e = true := by simpa [he] using hc
    exact hhalt

theorem calmEntered_calms (s : State) (hstop : s.thm.stop = 3) (hmir : privMirrored s = true)
    (hempty : ∀ n, n < 4 → (laneSet s n).down = true ∨ p0Empty s n = true) (hev : eventsTaken s = true) :
    completes .calmEntered s (fun t => t.thm = { s.thm with stop := 4 } ∧ t.mgt = { s.mgt with state := .calm } ∧
      (∀ e, e < 16 → engHalted t e = true) ∧ eventPending t 0xA0A = true) := by
  have hsets : (List.range 4).all (fun n => (laneSet s n).down || p0Empty s n) = true :=
    List.all_eq_true.mpr fun n hn => Bool.or_eq_true _ _ ▸ hempty n (List.mem_range.mp hn)
  set u := thmMod (fun t => { t with stop := 4 }) (mgtMod (fun m => { m with state := .calm }) (haltAll 0 4 s)) with hu
  have ht : calmEntered s = raise0 0xA0A 0xA0201 [] u := if_pos ⟨hstop, hmir, hsets⟩
  have hhalt := Laws.within_haltAll 0 4 s
  have hrst : u.rst = s.rst := by rw [hu, thmMod_rst, mgtMod_rst, hhalt.rst rfl]
  have hpen : (raise0 0xA0A 0xA0201 [] u).pen = (haltAll 0 4 s).pen := by rw [raise0_pen, hu, thmMod_pen, mgtMod_pen]
  refine ⟨_, congrArg Host.Outcome.next ht, ?_, ?_, fun e he => ?_, raise0_eventPending _ _ _ ((eventsTaken_of_rst hrst).trans hev)⟩
  · rw [raise0_thm, hu, thmMod_thm, mgtMod_thm, hhalt.thm rfl]
  · rw [raise0_mgt, hu, thmMod_mgt, mgtMod_mgt, hhalt.mgt rfl]
  · rw [engHalted_congr (eng_congr hpen e)]
    exact engHalted_haltAll 4 s (by decide) (by decide) he

/-! ### Restarts at once (R431, R459) -/

theorem flashUndefined_mgt (a n : Nat) (s : State) : ∃ x, (flashUndefined a n s).mgt = { s.mgt with flash := x } := by
  induction n generalizing a s with
  | zero => exact ⟨_, rfl⟩
  | succ n ih => exact ih ..

theorem nvCutShort_mgt (o : NvOp) (s : State) : ∃ x, (nvCutShort o s).mgt = { s.mgt with flash := x } := by
  unfold nvCutShort
  split
  · exact ⟨_, rfl⟩
  · split <;> exact flashUndefined_mgt ..

theorem programCut_mgt (s : State) : ∃ x, (programCut s).mgt = { s.mgt with flash := x } := by
  unfold programCut
  split
  · exact ⟨_, rfl⟩
  · split
    · exact flashUndefined_mgt ..
    · exact nvCutShort_mgt ..
    · exact nvCutShort_mgt ..
    · exact ⟨_, rfl⟩

theorem foldl_nvCutShort_mgt (l : List NvOp) (s : State) :
    ∃ x, (l.foldl (fun s o => nvCutShort o s) s).mgt = { s.mgt with flash := x } := by
  induction l generalizing s with
  | nil => exact ⟨_, rfl⟩
  | cons o l ih =>
    obtain ⟨x, hx⟩ := nvCutShort_mgt o s
    obtain ⟨y, hy⟩ := ih (nvCutShort o s)
    exact ⟨y, by rw [List.foldl_cons, hy, hx]⟩

theorem eraseCut_mgt (s : State) : ∃ x, (eraseCut s).mgt = { s.mgt with flash := x } := by
  obtain ⟨x, hx⟩ := foldl_nvCutShort_mgt (begunErases s) s
  unfold eraseCut
  extract_lets s1
  split
  · next i _ =>
    obtain ⟨y, hy⟩ := flashUndefined_mgt (mirrorAddr i 0) 4096 s1
    exact ⟨y, by rw [hy, hx]⟩
  · exact ⟨x, hx⟩

theorem eraseCut_of_idle {s : State} (h : flashIdle s) : eraseCut s = s := by
  obtain ⟨hop, hdev, -, herase⟩ := h
  have hnone : begunErases s = [] := by simp [begunErases, hop, hdev]
  simp [eraseCut, hnone, herase]

/-- The flash work in hand is cut short (R459). -/
def workCut (s : State) : State := eraseCut (programCut s)

theorem workCut_keeps (s : State) : (∃ x, (workCut s).mgt = { s.mgt with flash := x }) ∧ (workCut s).thm = s.thm ∧
    (workCut s).nrg = s.nrg ∧ (flashIdle s → workCut s = s) := by
  obtain ⟨x, hx⟩ := programCut_mgt s
  obtain ⟨y, hy⟩ := eraseCut_mgt (programCut s)
  have hprog := Laws.within_programCut s
  have herase := Laws.within_eraseCut (programCut s)
  refine ⟨⟨y, by rw [workCut, hy, hx]⟩, (herase.thm rfl).trans (hprog.thm rfl), (herase.nrg rfl).trans (hprog.nrg rfl), fun hidle => ?_⟩
  rw [workCut, programCut_of_idle hidle, eraseCut_of_idle hidle]

theorem restartNow_eq {s : State} (h : nothingHolds s) : restartNow s = startUp (heldInReset (workCut s)) := by
  obtain ⟨⟨x, hmgt⟩, hthm, hnrg, -⟩ := workCut_keeps s
  obtain ⟨hdown, hpf, htrip⟩ := h
  have hfree : nothingHolds (workCut s) := ⟨by rw [hmgt, hdown], by rw [hnrg]; exact hpf, by rw [hthm]; exact htrip⟩
  exact startIfFree_of_free hfree

/-- A restart keeps the flash where no operation was in hand, and the island (R432, R459). -/
theorem restartNow_keeps {s : State} (h : nothingHolds s) : islandSide (restartNow s).thm = islandSide s.thm ∧
    (flashIdle s → (restartNow s).mgt.flash = s.mgt.flash) := by
  obtain ⟨-, hthm, -, hidle⟩ := workCut_keeps s
  obtain ⟨hflash, hisland⟩ := startUp_keeps (heldInReset (workCut s))
  rw [restartNow_eq h]
  refine ⟨hisland.trans ?_, fun hi => hflash.trans ?_⟩
  · have hheld : islandSide (heldInReset (workCut s)).thm = islandSide (workCut s).thm := rfl
    rw [hheld, hthm]
  · rw [hidle hi]
    rfl

theorem restartNow_startsAnew {s : State} (h : nothingHolds s) : startsAnew (restartNow s) := by
  rw [restartNow_eq h]
  exact startUp_startsAnew _

theorem restartNow_reports_calm {s : State} (h : nothingHolds s) (hcalm : s.mgt.state = .calm) :
    eventPending (restartNow s) 0xA0B = true := by
  obtain ⟨⟨x, hmgt⟩, -⟩ := workCut_keeps s
  have hleft : ((heldInReset (workCut s)).thm.leftCalm || (heldInReset (workCut s)).mgt.state == .calm) = true := by
    have hstate : (workCut s).mgt.state = .calm := by rw [hmgt, hcalm]
    show ((workCut s).thm.leftCalm || (workCut s).mgt.state == .calm || _) = true
    simp [hstate]
  rw [restartNow_eq h]
  exact startUp_reports_calm hleft

theorem calmAutoRestart_starts (s : State) (hcalm : s.mgt.state = .calm) (hauto : rbit s Reg.THM_CFG 31 = true)
    (hcool : s.thm.coolT.isSome = true) (h : nothingHolds s) :
    completes .calmAutoRestart s (fun t => startsAnew t ∧ eventPending t 0xA0B = true) :=
  ⟨_, congrArg Host.Outcome.next (if_pos ⟨hcalm, hauto, hcool⟩), restartNow_startsAnew h, restartNow_reports_calm h hcalm⟩

theorem thmRestart_wrong_key (s : State) (k : Nat) (hk : k ≠ 0xC3) (hev : eventsTaken s = true) :
    completes (.thmRestart k) s (fun t => t.thm = s.thm ∧ t.mgt = s.mgt ∧ t.regs = s.regs ∧ eventPending t 0xA0E = true) :=
  ⟨_, congrArg Host.Outcome.next (if_pos hk), raise0_thm .., raise0_mgt .., raise0_regs .., raise0_eventPending _ _ _ hev⟩

theorem thmRestart_from_calm (s : State) (hcalm : s.mgt.state = .calm) (h : nothingHolds s) :
    completes (.thmRestart 0xC3) s (fun t => startsAnew t ∧ eventPending t 0xA0B = true) := by
  have ht : thmRestart 0xC3 s = restartNow s := by simp [thmRestart, hcalm]
  exact ⟨_, congrArg Host.Outcome.next ht, restartNow_startsAnew h, restartNow_reports_calm h hcalm⟩

theorem thmRestart_from_tripLatch (s : State) (hlatch : s.mgt.state = .tripLatch) (h : nothingHolds s) :
    completes (.thmRestart 0xC3) s (fun t => startsAnew t ∧ t.thm.latched = false) := by
  set u := thmMod (fun t => { t with latched := false }) s with hu
  have ht : thmRestart 0xC3 s = restartNow u := by simp [thmRestart, hlatch, hu]
  have hfree : nothingHolds u := h
  obtain ⟨hisland, -⟩ := restartNow_keeps hfree
  simp only [islandSide, Prod.mk.injEq] at hisland
  obtain ⟨-, -, -, -, -, hlatched⟩ := hisland
  exact ⟨_, congrArg Host.Outcome.next ht, restartNow_startsAnew hfree, hlatched⟩

/-- Settles O49: the clauses, each proved above, in their order. -/
theorem orderlyStopReachesCalm : Obligations.OrderlyStopReachesCalm :=
  ⟨orderlyStopConfirm_decides, orderlyStopConfirm_dropped, orderlyStopCut_cuts, calmEntered_calms, calmAutoRestart_starts,
    thmRestart_wrong_key, thmRestart_from_calm, thmRestart_from_tripLatch⟩

end Sys2Proof.Proofs
end

section
/-! PROOFS. The converters of housekeeping: rounds with their visits, urgent requests and their results (R413-R419, R437). -/

namespace Sys2Proof.Proofs

open Sys2Proof Sys2Proof.Machine

/-! ### One converter changes -/

theorem convAt_congr {s t : State} (h : t.thm.conv = s.thm.conv) (c : Nat) : convAt t c = convAt s c := by rw [convAt, convAt, h]

theorem convAt_convMod_same {s : State} {c : Nat} (f : Conv → Conv) (h : c < s.thm.conv.length) :
    convAt (convMod c f s) c = f (convAt s c) := by
  simp [convAt, convMod, h]

theorem convAt_convMod_other {s : State} {c d : Nat} (f : Conv → Conv) (h : d ≠ c) : convAt (convMod c f s) d = convAt s d := by
  simp [convAt, convMod, h.symm]

/-- In `t`, converter `c` is `k` and the other one is as in `s`. -/
structure ConvStep (c : Nat) (k : Conv) (s t : State) : Prop where
  at_c : convAt t c = k
  other : convAt t (1 - c) = convAt s (1 - c)
  length : t.thm.conv.length = s.thm.conv.length

variable {s t u : State} {c : Nat} {k l : Conv}

theorem ConvStep.of_keeps (h : t.thm.conv = s.thm.conv) : ConvStep c (convAt s c) s t :=
  ⟨convAt_congr h c, convAt_congr h _, congrArg List.length h⟩

theorem ConvStep.trans (h : ConvStep c k s t) (h' : ConvStep c l t u) : ConvStep c l s u :=
  ⟨h'.at_c, h'.other.trans h.other, h'.length.trans h.length⟩

theorem convMod_step (f : Conv → Conv) (hc : c < 2) (hlen : s.thm.conv.length = 2) : ConvStep c (f (convAt s c)) s (convMod c f s) :=
  ⟨convAt_convMod_same f (hlen ▸ hc), convAt_convMod_other f (by omega), List.length_set⟩

theorem ConvStep.convMod (h : ConvStep c k s t) (f : Conv → Conv) (hc : c < 2) (hlen : s.thm.conv.length = 2) :
    ConvStep c (f k) s (convMod c f t) :=
  h.trans (h.at_c ▸ convMod_step f hc (h.length.trans hlen))

/-- A converter with its next visit begun (R415). -/
def begun (s : State) (k : Conv) : Conv := { k with settle := (k.visits.head?.map (settleOf s)).getD 0 }

theorem ConvStep.beginVisit (h : ConvStep c k s t) (hc : c < 2) (hlen : s.thm.conv.length = 2) :
    ConvStep c (begun t k) s (beginVisit c t) := h.convMod (begun t) hc hlen

theorem settleOf_of_not_ain (s : State) {chan : Nat} (h : chan % 32 < 18) : settleOf s chan = 1 := by
  have hno : ainOf chan = none := if_neg (by omega)
  rw [settleOf, hno]

/-! ### The start of a round (R413, R416) -/

theorem serving_works {s : State} {c : Nat} (h : convServes s c = true) : inReset s (convFid c) = false ∧ (convAt s c).faulty = false := by
  simp only [convServes, convHealthy, Bool.or_eq_true, Bool.and_eq_true, Bool.not_eq_true'] at h
  tauto

/-- The settings of auxiliary input `n` written since the last round take effect (R416). -/
def ainTaken (s : State) (n : Nat) : State :=
  let v := rnat s (Reg.THM_AIN_CFG + 4 * n)
  let a := ainAt s n
  if v = a.cfg then s
  else ainMod n (fun a => { a with cfg := v, vals := [], since := 0, twice := a.twice || bits v 1 0 != bits a.cfg 1 0 }) s

def ainsTaken (s : State) : State := (List.range 8).foldl ainTaken s

theorem ainTaken_conv (s : State) (n : Nat) : (ainTaken s n).thm.conv = s.thm.conv := by
  unfold ainTaken
  dsimp only
  split <;> rfl

theorem ainsTaken_conv (s : State) : (ainsTaken s).thm.conv = s.thm.conv := by
  rw [ainsTaken]
  exact foldl_keeps (g := fun u => u.thm.conv) ainTaken_conv (List.range 8) s

/-- The channels of converter `c` (R410). -/
def ownChans (c : Nat) : List Nat := (List.range 22).map (fun i => 32 * c + i)

/-- Converter `c` begins its visits of a round (R413). -/
def visitsBegun (c : Nat) (s : State) : State :=
  beginVisit c (convMod c (fun k => { k with visits := ownChans c, aborts := 0, part := inReset s (convFid c) }) s)

/-- A round begins, and its visits are yet to begin (R413). -/
def roundOpened (s : State) : State := thmMod (fun t => { t with running := true, t0 := s.t, late := false, res := [] }) (ainsTaken s)

/-- A strobe whose sense check of the round is yet to be made (R379). -/
def unsensed (x : Strobe) : Strobe := { x with sensed := false }

theorem hkRoundStart_eq {s : State} (hrun : s.thm.running = false) (hdom : domainRuns s 10 = true) (hres : inReset s 0xA0100 = false)
    (h0 : convServes s 0 = true) (h1 : convServes s 1 = true) : hkRoundStart s =
    penMod (fun p => { p with strobes := p.strobes.map (fun p => (p.1, unsensed p.2)) })
      (visitsBegun 1 (visitsBegun 0 (roundOpened s))) := by
  have hserver : (serverOf s 0).isNone = false := by simp [serverOf, h0]
  unfold hkRoundStart
  rw [if_neg (by simp [hrun, hdom, hres, hserver])]
  extract_lets s0 own vis s1 s2 p
  have hown (c : Nat) (h : convServes s c = true) (h' : convServes s (1 - c) = true) : vis c = ownChans c := by
    obtain ⟨hr, hf⟩ := serving_works h
    simp only [vis, hr, hf, h, h', Bool.false_eq_true, or_self, Bool.not_true, Bool.and_false, if_false]
    rfl
  have hs2 : s2 = visitsBegun 1 (visitsBegun 0 s1) := by
    rw [visitsBegun, visitsBegun, ← hown 0 h0 h1, ← hown 1 h1 h0]
    rfl
  have hs1 : s1 = roundOpened s := rfl
  have hp : p = s2.pen := rfl
  rw [hp, hs2, hs1]
  generalize visitsBegun 1 _ = u
  rfl

theorem visitsBegun_step {s : State} {c : Nat} (hc : c < 2) (hlen : s.thm.conv.length = 2) :
    ∃ k, ConvStep c k s (visitsBegun c s) ∧ k.visits = ownChans c ∧ k.aborts = 0 ∧ k.settle = 1 := by
  have hstep := (convMod_step (fun k => { k with visits := ownChans c, aborts := 0, part := inReset s (convFid c) }) hc hlen).beginVisit hc hlen
  have hfirst : (32 * c + 0) % 32 < 18 := by omega
  exact ⟨_, hstep, rfl, rfl, settleOf_of_not_ain _ hfirst⟩

/-- The round in progress: that it runs, since when, and its results. -/
def roundSide (t : Thm) : Bool × Nat × Map Int := (t.running, t.t0, t.res)

theorem visitsBegun_roundSide (c : Nat) (s : State) : roundSide (visitsBegun c s).thm = roundSide s.thm := rfl

theorem roundOpened_roundSide (s : State) : roundSide (roundOpened s).thm = (true, s.t, []) := rfl

theorem strobe_unsensed (s : State) (n : Nat) :
    (strobe (penMod (fun p => { p with strobes := p.strobes.map (fun p => (p.1, unsensed p.2)) }) s) n).sensed = false := by
  rw [strobe, penMod_pen]
  dsimp only
  rw [mgetD, mget_map unsensed]
  cases mget s.pen.strobes n <;> rfl

theorem hkRoundStart_begins (s : State) (hrun : s.thm.running = false) (hdom : domainRuns s 10 = true)
    (hres : inReset s 0xA0100 = false) (h0 : convServes s 0 = true) (h1 : convServes s 1 = true) (hlen : s.thm.conv.length = 2) :
    completes .hkRoundStart s (fun t => t.thm.running = true ∧ t.thm.t0 = s.t ∧ t.thm.res = [] ∧
      (∀ c, c < 2 → (convAt t c).visits = (List.range 22).map (fun i => 32 * c + i) ∧ (convAt t c).aborts = 0 ∧
        (convAt t c).settle = 1) ∧ (∀ n, (strobe t n).sensed = false)) := by
  have hopen : (roundOpened s).thm.conv.length = 2 := by rw [roundOpened, thmMod_thm, ainsTaken_conv, hlen]
  obtain ⟨k0, hstep0, hv0, ha0, hs0⟩ := visitsBegun_step (c := 0) (by decide) hopen
  obtain ⟨k1, hstep1, hv1, ha1, hs1⟩ := visitsBegun_step (c := 1) (by decide) (hstep0.length.trans hopen)
  set u := visitsBegun 1 (visitsBegun 0 (roundOpened s)) with hu
  have hside : roundSide u.thm = (true, s.t, []) := by
    rw [hu, visitsBegun_roundSide, visitsBegun_roundSide, roundOpened_roundSide]
  simp only [roundSide, Prod.mk.injEq] at hside
  obtain ⟨hrunning, ht0, hresults⟩ := hside
  refine ⟨_, congrArg Host.Outcome.next (hkRoundStart_eq hrun hdom hres h0 h1), hrunning, ht0, hresults, fun c hc => ?_,
    strobe_unsensed u⟩
  rw [convAt_congr (congrArg Thm.conv (penMod_thm _ u)) c]
  obtain rfl | rfl : c = 0 ∨ c = 1 := by omega
  · have hat0 : convAt u 0 = k0 := hstep1.other.trans hstep0.at_c
    rw [hat0]
    exact ⟨hv0, ha0, hs0⟩
  · rw [hstep1.at_c]
    exact ⟨hv1, ha1, hs1⟩

/-! ### Conversions (R413-R415) -/

section

variable {s : State} {c chan : Nat} {rest : List Nat} (hc : c < 2) (hlen : s.thm.conv.length = 2) (hdom : domainRuns s 10 = true)

include hc hdom in
theorem hkConversionDone_settles (v : Int) (hserve : (convAt s c).serving = none) (hvis : (convAt s c).visits = chan :: rest)
    (hset : 0 < (convAt s c).settle) : hkConversionDone c v s = convMod c (fun k => { k with settle := k.settle - 1 }) s := by
  simp only [hkConversionDone, Nat.mod_eq_of_lt hc, hdom, hserve, hvis, hset, Bool.not_true, Bool.false_eq_true, if_false, if_true]

/-- The result of the visit in front of converter `c`, to channel `chan`, is delivered (R413, R416). -/
def delivered (c chan : Nat) (v : Int) (s : State) : State :=
  let s1 := thmMod (fun t => { t with res := mput t.res (resKey c chan) v }) s
  if serverOf s (chan / 32) = some c then ainDeliver chan v s1 else s1

theorem ainDeliver_keeps (chan : Nat) (v : Int) (s : State) : (ainDeliver chan v s).thm.res = s.thm.res ∧
    (ainDeliver chan v s).thm.conv = s.thm.conv := by
  unfold ainDeliver
  split <;> exact ⟨rfl, rfl⟩

theorem delivered_keeps (c chan : Nat) (v : Int) (s : State) :
    (delivered c chan v s).thm.res = mput s.thm.res (resKey c chan) v ∧ (delivered c chan v s).thm.conv = s.thm.conv := by
  unfold delivered
  extract_lets s1
  split
  · exact ainDeliver_keeps chan v s1
  · exact ⟨rfl, rfl⟩

/-- Converter `c` has made the visit in front, and `rest` are left to it. -/
def visitMade (c chan : Nat) (rest : List Nat) (v : Int) (s : State) : State :=
  convMod c (fun k => { k with visits := rest, aborts := 0 }) (delivered c chan v s)

include hc hdom in
theorem hkConversionDone_delivers (v : Int) (hserve : (convAt s c).serving = none) (hvis : (convAt s c).visits = chan :: rest)
    (hset : (convAt s c).settle = 0) : hkConversionDone c v s = afterUrgent c (visitMade c chan rest v s) := by
  simp only [hkConversionDone, Nat.mod_eq_of_lt hc, hdom, hserve, hvis, hset, Bool.not_true, Bool.false_eq_true, if_false, lt_irrefl]
  rfl

include hc hdom in
theorem hkConversionDone_urgent (v : Int) {u : Urgent} (hserve : (convAt s c).serving = some (u, false)) :
    hkConversionDone c v s = convMod c (fun k => { k with serving := some (u, true) }) s := by
  simp only [hkConversionDone, Nat.mod_eq_of_lt hc, hdom, hserve, Bool.not_true, Bool.false_eq_true, if_false]

theorem afterUrgent_of_none_waiting {c : Nat} {s : State} (h : (convAt s c).queue = []) :
    afterUrgent c s = beginVisit c (convMod c (fun k => { k with serving := none }) s) := by
  simp only [afterUrgent, h]

end

theorem hkConversionDone_discards (s : State) (c chan : Nat) (v : Int) (rest : List Nat) (hc : c < 2) (hlen : s.thm.conv.length = 2)
    (hdom : domainRuns s 10 = true) (hserve : (convAt s c).serving = none) (hvis : (convAt s c).visits = chan :: rest)
    (hset : 0 < (convAt s c).settle) :
    completes (.hkConversionDone c v) s (fun t => convAt t c = { convAt s c with settle := (convAt s c).settle - 1 } ∧
      convAt t (1 - c) = convAt s (1 - c) ∧ t.thm.res = s.thm.res) :=
  have hstep := convMod_step (fun k => { k with settle := k.settle - 1 }) hc hlen
  ⟨_, congrArg Host.Outcome.next (hkConversionDone_settles hc hdom v hserve hvis hset), hstep.at_c, hstep.other, rfl⟩

theorem hkConversionDone_gives_result (s : State) (c chan : Nat) (v : Int) (rest : List Nat) (hc : c < 2)
    (hlen : s.thm.conv.length = 2) (hdom : domainRuns s 10 = true) (hserve : (convAt s c).serving = none)
    (hvis : (convAt s c).visits = chan :: rest) (hset : (convAt s c).settle = 0) (hqueue : (convAt s c).queue = []) :
    completes (.hkConversionDone c v) s (fun t => mget t.thm.res (resKey c chan) = some v ∧
      (∀ k, k ≠ resKey c chan → mget t.thm.res k = mget s.thm.res k) ∧ (convAt t c).visits = rest ∧
      (convAt t c).aborts = 0 ∧ (convAt t c).serving = none ∧ convAt t (1 - c) = convAt s (1 - c)) := by
  obtain ⟨hres, hconv⟩ := delivered_keeps c chan v s
  have hmade : ConvStep c { convAt s c with visits := rest, aborts := 0 } s (visitMade c chan rest v s) :=
    (ConvStep.of_keeps hconv).convMod (fun k => { k with visits := rest, aborts := 0 }) hc hlen
  have hdone : hkConversionDone c v s = beginVisit c (convMod c (fun k => { k with serving := none }) (visitMade c chan rest v s)) :=
    (hkConversionDone_delivers hc hdom v hserve hvis hset).trans (afterUrgent_of_none_waiting (by rw [hmade.at_c, hqueue]))
  have hstep := (hmade.convMod (fun k => { k with serving := none }) hc hlen).beginVisit hc hlen
  refine ⟨hkConversionDone c v s, rfl, ?_⟩
  beta_reduce
  rw [hdone, hstep.at_c]
  have hmget (k : Nat) : mget (delivered c chan v s).thm.res k = mget (mput s.thm.res (resKey c chan) v) k := by rw [hres]
  exact ⟨(hmget _).trans (Laws.mget_mput_same ..), fun k hk => (hmget k).trans (Laws.mget_mput_other _ _ hk), rfl, rfl, rfl, hstep.other⟩

theorem hkConversionDone_settles_urgent (s : State) (c : Nat) (v : Int) (u : Urgent) (hc : c < 2) (hlen : s.thm.conv.length = 2)
    (hdom : domainRuns s 10 = true) (hserve : (convAt s c).serving = some (u, false)) :
    completes (.hkConversionDone c v) s (fun t => convAt t c = { convAt s c with serving := some (u, true) } ∧
      convAt t (1 - c) = convAt s (1 - c)) :=
  have hstep := convMod_step (fun k => { k with serving := some (u, true) }) hc hlen
  ⟨_, congrArg Host.Outcome.next (hkConversionDone_urgent hc hdom v hserve), hstep.at_c, hstep.other⟩

/-! ### A late round (R67, R437) -/

theorem dlMiss_counts {n fid : Nat} {args : List Nat} {ctag coord : Nat} {s : State} (hres : inReset s fid = false)
    (hsup : inReset s 0x30200 = false) :
    dlMiss n fid args ctag coord s = dlCount n s.tbs.l (raise (0x310 + n) fid args ctag coord s) := by
  simp only [dlMiss, hres, hsup, Bool.false_eq_true, if_false]

theorem dlCount_counts {s u : State} (n l : Nat) (hregs : u.regs = s.regs) :
    countedMore s (dlCount n l u) (Reg.TBS_DL_COUNT + 4 * n) 31 0 1 := by
  have hcount : countedMore s (rsat u (Reg.TBS_DL_COUNT + 4 * n) 31 0 1) (Reg.TBS_DL_COUNT + 4 * n) 31 0 1 :=
    countedMore_rsat_of_rfld (rfld_congr hregs ..) 1 (by decide) (by decide)
  have hother : Reg.TBS_DL_COUNT + 4 * n ≠ Reg.TBS_DL_LAST + 4 * n := by simp
  rw [dlCount, countedMore, rfld_of_rget (rget_rset_other _ _ hother)]
  exact hcount

theorem dlHkMiss_counts (s : State) (hrun : s.thm.running = true) (hlate : s.thm.late = false)
    (hboth : (inReset s 0xA0000 && inReset s 0xA0001) = false) (hres : inReset s 0xA0100 = false) (hsup : inReset s 0x30200 = false)
    (hev : eventsTaken s = true) :
    completes .dlHkMiss s (fun t => t.thm = { s.thm with missed := true, late := true } ∧ eventPending t 0x318 = true ∧
      countedMore s t (Reg.TBS_DL_COUNT + 32) 31 0 1) := by
  set u := thmMod (fun t => { t with missed := true, late := true }) s with hu
  have hmiss : dlHkMiss s = dlCount 8 s.tbs.l (raise 0x318 0xA0100 [] 8 0 u) := by
    rw [dlHkMiss, if_pos (by simp [hrun, hlate]), dlMissUnless, hboth, if_neg Bool.false_ne_true]
    exact dlMiss_counts hres hsup
  refine ⟨_, congrArg Host.Outcome.next hmiss, ?_, ?_, dlCount_counts 8 _ ?_⟩
  · rw [dlCount_thm, raise_thm, hu, thmMod_thm]
  · rw [eventPending_of_evt ((Laws.within_dlCount ..).evt rfl)]
    exact raise_eventPending _ _ _ _ _ hev
  · rw [raise_regs, hu, thmMod_regs]

/-! ### Urgent requests (R415, R417, R418) -/

/-- Request `u` is no longer among those that wait for a converter. -/
def requestTaken (u : Urgent) (s : State) : State := thmMod (fun t => { t with asked := t.asked.erase u }) s

section

variable {s : State} {u : Urgent} {c : Nat} (hdom : domainRuns s 10 = true) (hnext : nextAsked s = some u)
  (hserver : serverOf s (u.chan / 32) = some c) (hserve : (convAt s c).serving = none)

include hdom hnext hserver hserve

theorem urgentRequest_of_idle (hvis : (convAt s c).visits = []) :
    urgentRequest s = convMod c (fun k => { k with serving := some (u, false) }) (requestTaken u s) := by
  simp only [urgentRequest, hdom, hnext, hserver, hserve, hvis, if_true, Option.isSome_none, Bool.false_eq_true, if_false, List.isEmpty_nil]
  rfl

theorem urgentRequest_aborts (hvis : (convAt s c).visits ≠ []) (hab : (convAt s c).aborts < 2) :
    urgentRequest s = convMod c (fun k => { k with serving := some (u, false), aborts := k.aborts + 1 }) (requestTaken u s) := by
  have hsome : (convAt s c).visits.isEmpty = false := List.isEmpty_eq_false_iff.mpr hvis
  simp only [urgentRequest, hdom, hnext, hserver, hserve, hsome, hab, if_true, Option.isSome_none, Bool.false_eq_true, if_false]
  rfl

theorem urgentRequest_waits (hvis : (convAt s c).visits ≠ []) (hab : 2 ≤ (convAt s c).aborts) (hroom : (convAt s c).queue.length < 8) :
    urgentRequest s = raise 0xA13 (convFid c) [] 8 (coHk (u.chan % 32) (u.chan / 32 == 1))
      (rsat (convMod c (fun k => { k with queue := insertUrgent u k.queue }) (requestTaken u s)) Reg.THM_URGENT 15 0 1) := by
  have hsome : (convAt s c).visits.isEmpty = false := List.isEmpty_eq_false_iff.mpr hvis
  simp only [urgentRequest, hdom, hnext, hserver, hserve, hsome, hab, hroom, not_lt.mpr, if_true, Option.isSome_none,
    Bool.false_eq_true, if_false]
  rfl

end

theorem urgentRequest_takes_converter (s : State) (u : Urgent) (c : Nat) (hdom : domainRuns s 10 = true) (hnext : nextAsked s = some u)
    (hserver : serverOf s (u.chan / 32) = some c) (hc : c < 2) (hlen : s.thm.conv.length = 2) (hserve : (convAt s c).serving = none)
    (hfree : (convAt s c).visits = [] ∨ (convAt s c).aborts < 2) :
    completes .urgentRequest s (fun t => t.thm.asked = s.thm.asked.erase u ∧
      (convAt t c).serving = some (u, false) ∧ (convAt t c).visits = (convAt s c).visits ∧
      ((convAt s c).visits ≠ [] → (convAt t c).aborts = (convAt s c).aborts + 1)) := by
  have htaken : ConvStep c (convAt s c) s (requestTaken u s) := .of_keeps rfl
  by_cases hvis : (convAt s c).visits = []
  · have hat := (htaken.convMod (fun k => { k with serving := some (u, false) }) hc hlen).at_c
    refine ⟨_, congrArg Host.Outcome.next (urgentRequest_of_idle hdom hnext hserver hserve hvis), rfl, ?_⟩
    rw [hat]
    exact ⟨rfl, rfl, fun h => absurd hvis h⟩
  · have hat := (htaken.convMod (fun k => { k with serving := some (u, false), aborts := k.aborts + 1 }) hc hlen).at_c
    refine ⟨_, congrArg Host.Outcome.next (urgentRequest_aborts hdom hnext hserver hserve hvis (hfree.resolve_left hvis)), rfl, ?_⟩
    rw [hat]
    exact ⟨rfl, rfl, fun _ => rfl⟩

theorem urgentRequest_defers (s : State) (u : Urgent) (c : Nat) (hdom : domainRuns s 10 = true) (hnext : nextAsked s = some u)
    (hserver : serverOf s (u.chan / 32) = some c) (hc : c < 2) (hlen : s.thm.conv.length = 2) (hserve : (convAt s c).serving = none)
    (hvis : (convAt s c).visits ≠ []) (hab : 2 ≤ (convAt s c).aborts) (hroom : (convAt s c).queue.length < 8)
    (hev : eventsTaken s = true) :
    completes .urgentRequest s (fun t => t.thm.asked = s.thm.asked.erase u ∧
      convAt t c = { convAt s c with queue := insertUrgent u (convAt s c).queue } ∧ eventPending t 0xA13 = true ∧
      countedMore s t Reg.THM_URGENT 15 0 1) := by
  have htaken : ConvStep c (convAt s c) s (requestTaken u s) := .of_keeps rfl
  have hat := (htaken.convMod (fun k => { k with queue := insertUrgent u k.queue }) hc hlen).at_c
  set w := convMod c (fun k => { k with queue := insertUrgent u k.queue }) (requestTaken u s) with hw
  refine ⟨_, congrArg Host.Outcome.next (urgentRequest_waits hdom hnext hserver hserve hvis hab hroom), ?_, ?_, ?_, ?_⟩
  · rw [raise_thm, rsat_thm]
    rfl
  · rw [convAt_congr (s := w) (by rw [raise_thm, rsat_thm]), hat]
  · exact raise_eventPending _ _ _ _ _ ((eventsTaken_of_rst (rsat_rst ..)).trans hev)
  · have hcount : countedMore s (rsat w Reg.THM_URGENT 15 0 1) Reg.THM_URGENT 15 0 1 :=
      countedMore_rsat_of_rfld (rfld_congr rfl ..) 1 (by decide) (by decide)
    rw [countedMore, rfld_congr (raise_regs ..)]
    exact hcount

/-! ### Results of urgent requests (R379, R417, R419) -/

/-- The urgent visit of converter `c` has ended and is counted. -/
def urgentEnded (c : Nat) (s : State) : State := rsat (afterUrgent c s) Reg.THM_URGENT 31 16 1

theorem urgentEnded_keeps (c : Nat) (s : State) : countedMore s (urgentEnded c s) Reg.THM_URGENT 31 16 1 ∧
    eventsTaken (urgentEnded c s) = eventsTaken s ∧
    (c < 2 → s.thm.conv.length = 2 → (convAt s c).queue = [] → (convAt (urgentEnded c s) c).serving = none) := by
  have hafter := Laws.within_afterUrgent c s
  refine ⟨countedMore_rsat_of_rfld (rfld_congr (hafter.regs rfl) ..) 1 (by decide) (by decide), ?_, fun hc hlen hqueue => ?_⟩
  · rw [urgentEnded, eventsTaken_of_rst (rsat_rst ..), eventsTaken_of_rst (hafter.rst rfl)]
  · have hstep := (convMod_step (fun k => { k with serving := none }) hc hlen).beginVisit hc hlen
    rw [urgentEnded, convAt_congr (congrArg Thm.conv (rsat_thm ..)), afterUrgent_of_none_waiting hqueue, hstep.at_c]
    rfl

/-- A strobe's sense reading lies outside its bounds (R379). -/
def senseBad (s : State) (v : Int) : Bool :=
  decide (rfld s Reg.PEN_ST_SENSE 31 16 ≠ 0) &&
    (decide (v < rfld s Reg.PEN_ST_SENSE 15 0) || decide ((rfld s Reg.PEN_ST_SENSE 31 16 : Int) < v))

theorem urgentResult_eq {s : State} {c : Nat} (v : Int) {u : Urgent} (hc : c < 2) (hdom : domainRuns s 10 = true)
    (hserve : (convAt s c).serving = some (u, true)) : urgentResult c v s =
    if u.prio = 1 then thmMod (fun t => { t with reconv := mput t.reconv u.who v }) (urgentEnded c s)
    else if u.prio = 2 then raiseIf (senseBad s v) 0x815 0x80200 [u.who, ofSigned 32 v] 5 (coPin u.who 1) (urgentEnded c s)
    else raiseIf (decide (v < 10800)) 0xA12 0xA0100 [] 8 (coHk 17 false) (urgentEnded c s) := by
  simp only [urgentResult, Nat.mod_eq_of_lt hc, hdom, hserve, if_true]
  rfl

theorem urgentResult_goes_to_requester (s : State) (c : Nat) (v : Int) (u : Urgent) (hc : c < 2) (hlen : s.thm.conv.length = 2)
    (hdom : domainRuns s 10 = true) (hserve : (convAt s c).serving = some (u, true)) (hev : eventsTaken s = true) :
    completes (.urgentResult c v) s (fun t => countedMore s t Reg.THM_URGENT 31 16 1 ∧
      ((convAt s c).queue = [] → (convAt t c).serving = none) ∧
      (u.prio = 1 → mget t.thm.reconv u.who = some v) ∧
      (u.prio = 2 → rfld s Reg.PEN_ST_SENSE 31 16 ≠ 0 →
        (v < rfld s Reg.PEN_ST_SENSE 15 0 ∨ (rfld s Reg.PEN_ST_SENSE 31 16 : Int) < v) → eventPending t 0x815 = true) ∧
      (u.prio = 3 → v < 10800 → eventPending t 0xA12 = true)) := by
  obtain ⟨hcount, htaken, hfree⟩ := urgentEnded_keeps c s
  have htaken : eventsTaken (urgentEnded c s) = true := htaken.trans hev
  refine ⟨_, congrArg Host.Outcome.next (urgentResult_eq v hc hdom hserve), ?_⟩
  split
  case isTrue h1 =>
    exact ⟨hcount, hfree hc hlen, fun _ => Laws.mget_mput_same .., fun h2 => by omega, fun h3 => by omega⟩
  case isFalse h1 =>
    split
    case isTrue h2 =>
      refine ⟨?_, ?_, fun h => absurd h h1, fun _ hhi hout => raiseIf_eventPending _ _ _ _ _ ?_ htaken, fun h3 => by omega⟩
      · rwa [countedMore, rfld_congr (raiseIf_regs ..)]
      · rw [convAt_congr (congrArg Thm.conv (raiseIf_thm ..))]
        exact hfree hc hlen
      · simpa [senseBad, hhi] using hout
    case isFalse h2 =>
      refine ⟨?_, ?_, fun h => absurd h h1, fun h => absurd h h2, fun _ hv => raiseIf_eventPending _ _ _ _ _ (decide_eq_true hv) htaken⟩
      · rwa [countedMore, rfld_congr (raiseIf_regs ..)]
      · rw [convAt_congr (congrArg Thm.conv (raiseIf_thm ..))]
        exact hfree hc hlen

/-- Settles O47: the clauses, each proved above, in their order. -/
theorem roundsAndUrgentVisits : Obligations.RoundsAndUrgentVisits :=
  ⟨hkRoundStart_begins, hkConversionDone_discards, hkConversionDone_gives_result, hkConversionDone_settles_urgent, dlHkMiss_counts,
    urgentRequest_takes_converter, urgentRequest_defers, urgentResult_goes_to_requester⟩

end Sys2Proof.Proofs
end

section
/-! PROOFS. The end of a housekeeping round: what its judgements leave, its readings, and the temperature band that it decides (R412,
R413, R420-R429). -/

namespace Sys2Proof.Proofs

open Sys2Proof Sys2Proof.Machine

/-! ### What the judgements of a round leave (R411, R420-R429) -/

/-- What no judgement of a round changes: the account of the round, the readings, and the band in force with the one decided. -/
def roundView (t : Thm) : Bool × Nat × Nat × Bool × List Int × Nat × Option Nat :=
  (t.running, t.rounds, t.lastMs, t.missed, t.ts, t.tb, t.tbNext)

/-- What the judgements of rails and sensors leave besides: whether both converters are faulty. -/
def sensorView (t : Thm) : (Bool × Nat × Nat × Bool × List Int × Nat × Option Nat) × Bool := (roundView t, t.bothBad)

/-- What the alarms that follow leave besides: the temperature judged, and the exclusions. -/
def alarmView (t : Thm) : ((Bool × Nat × Nat × Bool × List Int × Nat × Option Nat) × Bool) × Int × Int × List Nat :=
  (sensorView t, t.tMax, t.raw, t.excl)

theorem convMod_roundView (c : Nat) (f : Conv → Conv) (s : State) : roundView (convMod c f s).thm = roundView s.thm := rfl

theorem convFault_roundView (c : Nat) (s : State) : roundView (convFault c s).thm = roundView s.thm := by
  unfold convFault
  extract_lets s1
  split
  · rw [raise0_thm]
    rfl
  · rw [raise_thm]
    rfl

theorem judgeConv_roundView (lim : Nat) (bad : List Nat) (unsure : Bool) (s : State) (c : Nat) :
    roundView (judgeConv lim bad unsure s c).thm = roundView s.thm := by
  unfold judgeConv
  split
  · rfl
  · split
    · extract_lets n s1
      have hs1 : roundView s1.thm = roundView s.thm := by
        rw [show s1.thm = _ from raise_thm ..]
        exact convMod_roundView ..
      split
      · exact (convFault_roundView c s1).trans hs1
      · exact hs1
    · exact convMod_roundView ..

theorem judgeMonitor_roundView (alone : Bool) (s : State) : roundView (judgeMonitor alone s).thm = roundView s.thm := by
  unfold judgeMonitor
  extract_lets n s1
  split
  · rw [raise0_thm]
    rfl
  · rfl

theorem judgeRail_sensorView (s : State) (r : Nat) : sensorView (judgeRail s r).thm = sensorView s.thm := by
  unfold judgeRail
  split
  · extract_lets tol side old n hit e
    rw [raiseIf_thm]
    rfl
  · rfl

theorem askReconv_alarmView (i : Nat) (s : State) : alarmView (askReconv i s).thm = alarmView s.thm := by
  unfold askReconv
  split <;> rfl

theorem judgeSensor_sensorView (ex : List Nat) (s : State) (i : Nat) : sensorView (judgeSensor ex s i).thm = sensorView s.thm := by
  unfold judgeSensor
  extract_lets v oor isOut mark exclude
  have hexclude (n : Nat) (u : State) : sensorView (exclude n u).thm = sensorView u.thm := by
    simp only [exclude, raise_thm]
    rfl
  have hask (u : State) : sensorView (askReconv i u).thm = sensorView u.thm := congrArg Prod.fst (askReconv_alarmView i u)
  clear_value exclude
  split
  · split
    · rfl
    · split
      · rfl
      · rw [raise_thm]
        rfl
  · split
    · exact hexclude ..
    · split
      · rfl
      · split
        · rfl
        · split
          · exact hask _
          · split
            · exact hask _
            · split
              · exact hexclude ..
              · rfl

theorem thmFault_alarmView (s : State) : alarmView (thmFault s).thm = alarmView s.thm := by
  unfold thmFault
  extract_lets ex sens s1
  have hs1 : alarmView s1.thm = alarmView s.thm := by
    simp only [s1]
    split <;> rfl
  split
  · rw [raise0_thm]
    exact hs1
  · exact hs1

theorem riseAlarm_alarmView (s : State) : alarmView (riseAlarm s).thm = alarmView s.thm := by
  unfold riseAlarm
  extract_lets hot up down s1
  split
  · rw [raise0_thm]
    rfl
  · split
    · rw [raise0_thm]
      rfl
    · rfl

theorem stopTrigger_alarmView (s : State) : alarmView (stopTrigger s).thm = alarmView s.thm := by
  unfold stopTrigger
  split
  · exact askReconv_alarmView ..
  · split
    · exact askReconv_alarmView ..
    · rfl

/-! ### The verdict on a round (R425, R426) -/

/-- The converters and the monitor have been judged (R420). -/
def convsJudged (first : Bool) (s : State) : State :=
  judgeMonitor (suspects s).2.1 ([0, 1].foldl (judgeConv (if first then 1 else 3) (suspects s).1 (suspects s).2.2) s)

/-- The rails have been judged (R411). -/
def railsJudged (first : Bool) (s : State) : State := (List.range 12).foldl judgeRail (convsJudged first s)

/-- The sensors have been judged (R424). -/
def sensorsJudged (first : Bool) (s : State) : State :=
  (List.range 16).foldl (judgeSensor (railsJudged first s).thm.excl) (railsJudged first s)

/-- T_max is that of the readings of `s`, and stands with its rise in the history at `now` (R425, R428). -/
def tempJudged (now : Nat) (changed : Bool) (s : State) : State :=
  thmMod (fun t => { t with
    tMax := (tMaxOf s.thm.ts s.thm.excl).1, raw := (tMaxOf s.thm.ts s.thm.excl).2, rate := riseRate s (tMaxOf s.thm.ts s.thm.excl).1
    hist := ((now, (tMaxOf s.thm.ts s.thm.excl).1, changed) :: t.hist).filter (fun h => decide (now ≤ h.1 + 400000000)) }) s

/-- The band that the temperature `m` indicates after the band `cur`; `first` is the round of start-up step 4 (R426). -/
def bandAfter (first : Bool) (cur : Nat) (m : Int) : Nat := if first then bandOf m else nextBand cur m

/-- The band that T_max indicates is decided (R426). -/
def bandDecided (first : Bool) (m : Int) (s : State) : State :=
  thmMod (fun t => { t with
    tbNext := if bandAfter first (s.thm.tbNext.getD s.thm.tb) m = t.tb then none
      else some (bandAfter first (s.thm.tbNext.getD s.thm.tb) m) }) s

theorem roundDecide_eq (first : Bool) (s : State) : roundDecide first s =
    if (convsJudged first s).thm.bothBad then thmFault (convsJudged first s)
    else if inReset s 0xA0200 then railsJudged first s
    else stopTrigger (riseAlarm (thmFault (bandDecided first (tMaxOf (sensorsJudged first s).thm.ts (sensorsJudged first s).thm.excl).1
      (tempJudged s.t ((sensorsJudged first s).thm.excl != (railsJudged first s).thm.excl) (sensorsJudged first s))))) := by
  unfold roundDecide
  extract_lets sus s1 s2 ex s3 changed m rate s4 cur nb s5
  have h1 : convsJudged first s = s1 := rfl
  have h2 : railsJudged first s = s2 := by rw [railsJudged, h1]
  have h3 : sensorsJudged first s = s3 := by rw [sensorsJudged, h2]
  rw [h3, h2, h1]
  clear_value s3 s2 s1
  rfl

theorem convsJudged_roundView (first : Bool) (s : State) : roundView (convsJudged first s).thm = roundView s.thm :=
  (judgeMonitor_roundView ..).trans (foldl_keeps (g := fun u => roundView u.thm) (fun u c => judgeConv_roundView _ _ _ u c) [0, 1] s)

theorem railsJudged_sensorView (first : Bool) (s : State) : sensorView (railsJudged first s).thm = sensorView (convsJudged first s).thm :=
  foldl_keeps (g := fun u => sensorView u.thm) judgeRail_sensorView (List.range 12) _

theorem sensorsJudged_sensorView (first : Bool) (s : State) :
    sensorView (sensorsJudged first s).thm = sensorView (convsJudged first s).thm :=
  (foldl_keeps (g := fun u => sensorView u.thm) (judgeSensor_sensorView _) (List.range 16) _).trans (railsJudged_sensorView first s)

/-! ### The round as a whole (R412, R413) -/

/-- What a round that has delivered every visit is judged from: it is counted, and its readings stand. -/
def roundRead (s : State) : State :=
  firstRound (takeReadings (thmMod (fun t => { t with
    running := false, rounds := (t.rounds + 1) % 2 ^ 32, lastMs := satN 8 ((s.t - s.thm.t0) / 200000)
    missed := if decide (s.t - s.thm.t0 ≤ 2 * hkPeriod s * 200000) then false else t.missed }) s))

/-- Whether the round is the first of start-up step 4 (R436). -/
def isFirstRound (s : State) : Bool := s.mgt.step == 4 && !s.mgt.stepsDone.contains 40

/-- The time since which T_max is below 90 degrees is kept up (R431). -/
def coolTimed (now : Nat) (s : State) : State :=
  thmMod (fun t => { t with
    coolT := if t.tMax < 1440 then (match t.coolT with | some x => some x | none => some now) else none }) s

theorem hkRoundEnd_eq (s : State) (h : roundDelivered s = true) :
    hkRoundEnd s = coolTimed s.t (roundDecide (isFirstRound s) (roundRead s)) := by
  unfold hkRoundEnd
  rw [if_neg (by simp [h])]
  rfl

theorem hkRoundEnd_of_not_delivered (s : State) (h : roundDelivered s = false) : hkRoundEnd s = s := by
  unfold hkRoundEnd
  rw [if_pos (by simp [h])]

theorem isFirstRound_of_step (s : State) (h : s.mgt.step ≠ 4) : isFirstRound s = false := by
  simp [isFirstRound, h]

theorem coolTimed_alarmView (now : Nat) (s : State) : alarmView (coolTimed now s).thm = alarmView s.thm := rfl

theorem coolTimed_bothBad (now : Nat) (s : State) : (coolTimed now s).thm.bothBad = s.thm.bothBad := rfl

theorem firstRound_thm (s : State) : (firstRound s).thm = s.thm := by
  unfold firstRound
  split <;> rfl

theorem firstRound_rst (s : State) : (firstRound s).rst = s.rst := by
  unfold firstRound
  split <;> rfl

theorem takeReadings_roundView (s : State) : roundView (takeReadings s).thm =
    (s.thm.running, s.thm.rounds, s.thm.lastMs, s.thm.missed,
      (List.range 16).map (fun i => (hkResult s (i / 8) (4 + i % 8)).getD (s.thm.ts.getD i 0)), s.thm.tb, s.thm.tbNext) := by
  unfold takeReadings
  extract_lets ts th s1 sh s3
  have hsh (c i : Nat) (u : State) : (sh c i u).thm = u.thm := by
    simp only [sh]
    split <;> rfl
  rw [foldl_keeps (g := State.thm) (fun u r => by split <;> rfl) (List.range 12) s3]
  simp only [s3, hsh]
  rfl

/-- A delivered round is counted in time, the sensors take its readings, and the band in force stands. -/
theorem roundRead_roundView (s : State) : roundView (roundRead s).thm =
    (false, (s.thm.rounds + 1) % 2 ^ 32, satN 8 ((s.t - s.thm.t0) / 200000),
      (if decide (s.t - s.thm.t0 ≤ 2 * hkPeriod s * 200000) then false else s.thm.missed),
      (List.range 16).map (fun i => (hkResult s (i / 8) (4 + i % 8)).getD (s.thm.ts.getD i 0)), s.thm.tb, s.thm.tbNext) := by
  unfold roundRead
  rw [firstRound_thm, takeReadings_roundView]
  rfl

theorem roundRead_rst (s : State) : (roundRead s).rst = s.rst := by
  unfold roundRead
  rw [firstRound_rst, (Laws.within_takeReadings _).rst rfl]
  rfl

/-- The account of a round and its readings: what its verdict never changes. -/
def accountView (t : Thm) : Bool × Nat × Nat × Bool × List Int := (t.running, t.rounds, t.lastMs, t.missed, t.ts)

theorem accountView_of_roundView {t u : Thm} (h : roundView t = roundView u) : accountView t = accountView u :=
  congrArg (fun v : Bool × Nat × Nat × Bool × List Int × Nat × Option Nat => (v.1, v.2.1, v.2.2.1, v.2.2.2.1, v.2.2.2.2.1)) h

theorem accountView_of_sensorView {t u : Thm} (h : sensorView t = sensorView u) : accountView t = accountView u :=
  accountView_of_roundView (congrArg Prod.fst h)

theorem accountView_of_alarmView {t u : Thm} (h : alarmView t = alarmView u) : accountView t = accountView u :=
  accountView_of_sensorView (congrArg Prod.fst h)

/-- The alarms that follow the decision of the band leave its view. -/
theorem alarmsRaised_alarmView (s : State) : alarmView (stopTrigger (riseAlarm (thmFault s))).thm = alarmView s.thm :=
  (stopTrigger_alarmView _).trans ((riseAlarm_alarmView _).trans (thmFault_alarmView s))

theorem bandDecided_accountView (first : Bool) (m : Int) (now : Nat) (changed : Bool) (s : State) :
    accountView (bandDecided first m (tempJudged now changed s)).thm = accountView s.thm := rfl

theorem roundDecide_accountView (first : Bool) (s : State) : accountView (roundDecide first s).thm = accountView s.thm := by
  have hconv : accountView (convsJudged first s).thm = accountView s.thm := accountView_of_roundView (convsJudged_roundView first s)
  have hrail : accountView (railsJudged first s).thm = accountView (convsJudged first s).thm :=
    accountView_of_sensorView (railsJudged_sensorView first s)
  have hsens : accountView (sensorsJudged first s).thm = accountView (convsJudged first s).thm :=
    accountView_of_sensorView (sensorsJudged_sensorView first s)
  rw [roundDecide_eq]
  split
  · exact (accountView_of_alarmView (thmFault_alarmView _)).trans hconv
  · split
    · exact hrail.trans hconv
    · rw [accountView_of_alarmView (alarmsRaised_alarmView _), bandDecided_accountView, hsens, hconv]

/-- With a converter that is good and the sensors' function out of reset, the decision of the band stands behind every alarm. -/
theorem roundDecide_alarmView (first : Bool) (s : State) (hres : inReset s 0xA0200 = false)
    (hgood : (roundDecide first s).thm.bothBad = false) :
    alarmView (roundDecide first s).thm = alarmView (bandDecided first
      (tMaxOf (sensorsJudged first s).thm.ts (sensorsJudged first s).thm.excl).1
      (tempJudged s.t ((sensorsJudged first s).thm.excl != (railsJudged first s).thm.excl) (sensorsJudged first s))).thm := by
  rw [roundDecide_eq] at hgood ⊢
  by_cases hbad : (convsJudged first s).thm.bothBad = true
  · rw [if_pos hbad] at hgood
    have h : (thmFault (convsJudged first s)).thm.bothBad = (convsJudged first s).thm.bothBad :=
      congrArg (fun v => v.1.2) (thmFault_alarmView _)
    rw [h, hbad] at hgood
    cases hgood
  · rw [if_neg hbad, if_neg (by simp [hres])]
    exact alarmsRaised_alarmView _

/-- T_max, the reading behind it and the band indicated are those of the sensors' readings and exclusions. -/
def bandStands (first : Bool) (tb : Nat) (tbNext : Option Nat) (t : Thm) : Prop :=
  t.tMax = (tMaxOf t.ts t.excl).1 ∧ t.raw = (tMaxOf t.ts t.excl).2 ∧ t.tb = tb ∧
    t.tbNext = if bandAfter first (tbNext.getD tb) t.tMax = tb then none else some (bandAfter first (tbNext.getD tb) t.tMax)

theorem bandStands_of_alarmView {first : Bool} {tb : Nat} {tbNext : Option Nat} {t u : Thm} (h : alarmView t = alarmView u)
    (hu : bandStands first tb tbNext u) : bandStands first tb tbNext t := by
  simp only [alarmView, sensorView, roundView, Prod.mk.injEq] at h
  obtain ⟨⟨⟨-, -, -, -, hts, htb, hnext⟩, -⟩, htMax, hraw, hexcl⟩ := h
  unfold bandStands at hu ⊢
  rw [hts, htb, hnext, htMax, hraw, hexcl]
  exact hu

theorem bandDecided_bandStands (first : Bool) (now : Nat) (changed : Bool) (s : State) :
    bandStands first s.thm.tb s.thm.tbNext
      (bandDecided first (tMaxOf s.thm.ts s.thm.excl).1 (tempJudged now changed s)).thm := ⟨rfl, rfl, rfl, rfl⟩

theorem roundDecide_bandStands (first : Bool) (s : State) (hres : inReset s 0xA0200 = false)
    (hgood : (roundDecide first s).thm.bothBad = false) :
    bandStands first s.thm.tb s.thm.tbNext (roundDecide first s).thm := by
  have hview : roundView (sensorsJudged first s).thm = roundView s.thm :=
    (congrArg Prod.fst (sensorsJudged_sensorView first s)).trans (convsJudged_roundView first s)
  simp only [roundView, Prod.mk.injEq] at hview
  obtain ⟨-, -, -, -, -, htb, hnext⟩ := hview
  have hstands := bandStands_of_alarmView (roundDecide_alarmView first s hres hgood) (bandDecided_bandStands ..)
  rwa [htb, hnext] at hstands

theorem hkRoundEnd_accountView (s : State) (h : roundDelivered s = true) : accountView (hkRoundEnd s).thm =
    (false, (s.thm.rounds + 1) % 2 ^ 32, satN 8 ((s.t - s.thm.t0) / 200000),
      (if decide (s.t - s.thm.t0 ≤ 2 * hkPeriod s * 200000) then false else s.thm.missed),
      (List.range 16).map (fun i => (hkResult s (i / 8) (4 + i % 8)).getD (s.thm.ts.getD i 0))) := by
  rw [hkRoundEnd_eq s h, accountView_of_alarmView (coolTimed_alarmView ..), roundDecide_accountView]
  have hread := roundRead_roundView s
  simp only [roundView, Prod.mk.injEq] at hread
  obtain ⟨hrun, hrounds, hlast, hmiss, hts, -, -⟩ := hread
  rw [accountView, hrun, hrounds, hlast, hmiss, hts]

theorem hkRoundEnd_bandStands (s : State) (h : roundDelivered s = true) (hres : inReset s 0xA0200 = false) (hstep : s.mgt.step ≠ 4)
    (hgood : (hkRoundEnd s).thm.bothBad = false) : bandStands false s.thm.tb s.thm.tbNext (hkRoundEnd s).thm := by
  rw [hkRoundEnd_eq s h, isFirstRound_of_step s hstep] at hgood ⊢
  rw [coolTimed_bothBad] at hgood
  have hread := roundRead_roundView s
  simp only [roundView, Prod.mk.injEq] at hread
  obtain ⟨-, -, -, -, -, htb, hnext⟩ := hread
  have hres' : inReset (roundRead s) 0xA0200 = false := (inReset_of_rst (roundRead_rst s) _).trans hres
  have hstands := bandStands_of_alarmView (coolTimed_alarmView s.t _) (roundDecide_bandStands false (roundRead s) hres' hgood)
  rwa [htb, hnext] at hstands

/-- Settles O48: the judgements of a round leave its account and its readings, and the alarms that follow the decision of the band
leave that decision. -/
theorem roundEndJudgesTemperature : Obligations.RoundEndJudgesTemperature := by
  refine ⟨fun s h => ⟨_, rfl, ?_⟩, fun s h hres hstep => ⟨_, rfl, ?_⟩, fun s h => ⟨_, rfl, hkRoundEnd_of_not_delivered s h⟩⟩
  · have hacc := hkRoundEnd_accountView s h
    simp only [accountView, Prod.mk.injEq] at hacc
    obtain ⟨hrun, hrounds, hlast, hmiss, hts⟩ := hacc
    refine ⟨hrun, hrounds, hlast, fun htime => ?_, hts⟩
    exact hmiss.trans (if_pos (decide_eq_true htime))
  · exact fun hgood => hkRoundEnd_bandStands s h hres hstep hgood

end Sys2Proof.Proofs
end

section
/-! PROOFS. Start-up up to RUN (R435, R436, R460, R462): which step ends when, the time it shows, and what SAFE, READY and RUN set. -/

namespace Sys2Proof.Proofs

open Sys2Proof Sys2Proof.Machine

/-! ### The end of a step (R460) -/

/-- Step `i` is done once it has ended, whatever was done before. -/
theorem stepEnded_mem (i : Nat) (s : State) : i ∈ (stepEnded i s).mgt.stepsDone := by
  change i ∈ (if s.mgt.stepsDone.contains i then s.mgt.stepsDone else i :: s.mgt.stepsDone)
  split
  · next h => simpa using h
  · exact List.mem_cons_self

theorem stepEnded_stepTimed (i : Nat) (s : State) : stepTimed s (stepEnded i s) i :=
  ⟨stepEnded_mem i s, rnat_rset_same ..⟩

/-- The time of a step stands as long as its register and the list of the steps done stand. -/
theorem stepTimed_of_keeps {s t u : State} {i : Nat} (h : stepTimed s t i) (hdone : u.mgt.stepsDone = t.mgt.stepsDone)
    (hreg : rget u (Reg.MGT_SU_STEP + 4 * (i - 1)) = rget t (Reg.MGT_SU_STEP + 4 * (i - 1))) : stepTimed s u i := by
  obtain ⟨hmem, htime⟩ := h
  refine ⟨hdone ▸ hmem, ?_⟩
  rw [rnat, hreg]
  exact htime

theorem stepTimed_of_regs {s t u : State} {i : Nat} (h : stepTimed s t i) (hdone : u.mgt.stepsDone = t.mgt.stepsDone)
    (hreg : u.regs = t.regs) : stepTimed s u i := stepTimed_of_keeps h hdone (by rw [rget, rget, hreg])

/-! ### SAFE (R455) -/

theorem enterSafe_mgt (s : State) : (enterSafe s).mgt = { s.mgt with state := .safe, capturing := false } := by
  unfold enterSafe
  rw [raise0_mgt, mgtMod_mgt, penMod_mgt, tbsMod_mgt, (Laws.within_strobesOff s).mgt rfl]

theorem enterSafe_hiz (s : State) : (enterSafe s).pen.hiz = true := by
  unfold enterSafe
  rw [raise0_pen]
  rfl

theorem enterSafe_regs (s : State) : (enterSafe s).regs = s.regs := (Laws.within_enterSafe s).regs rfl

theorem safeBase_evt (s : State) : (mgtMod (fun m => { m with state := .safe, capturing := false })
    (penMod (fun p => { p with hiz := true }) (tbsMod (fun b => { b with inService := false }) (strobesOff s)))).evt = s.evt := by
  rw [mgtMod_evt, penMod_evt, tbsMod_evt, (Laws.within_strobesOff s).evt rfl]

theorem safeBase_rst (s : State) : (mgtMod (fun m => { m with state := .safe, capturing := false })
    (penMod (fun p => { p with hiz := true }) (tbsMod (fun b => { b with inService := false }) (strobesOff s)))).rst = s.rst := by
  rw [mgtMod_rst, penMod_rst, tbsMod_rst, (Laws.within_strobesOff s).rst rfl]

theorem enterSafe_keeps_pending {s : State} {c : Nat} (h : eventPending s c = true) : eventPending (enterSafe s) c = true := by
  unfold enterSafe
  exact raise0_keeps_pending _ _ _ ((eventPending_of_evt (safeBase_evt s) c).trans h)

theorem enterSafe_eventPending {s : State} (hev : eventsTaken s = true) : eventPending (enterSafe s) 0xB02 = true := by
  unfold enterSafe
  exact raise0_eventPending _ _ _ ((eventsTaken_of_rst (safeBase_rst s)).trans hev)

/-! ### Which step ends (R460) -/

/-- The branch of another step is not taken. -/
theorem not_step {n k : Nat} {p : Prop} (h : n ≠ k) : ¬ (n = k ∧ p) := fun hp => h hp.1

theorem not_idle_of_boot {s : State} (h : s.mgt.state = .boot) : ¬ (s.mgt.state ≠ .boot ∧ s.mgt.state ≠ .starting) :=
  fun hs => hs.1 h

theorem not_idle_of_starting {s : State} (h : s.mgt.state = .starting) : ¬ (s.mgt.state ≠ .boot ∧ s.mgt.state ≠ .starting) :=
  fun hs => hs.2 h

/-- The straps are read at the end of step 1 (R435). -/
def strapsRead (s : State) : State :=
  { (mgtMod (fun m => { m with step := 2 }) (stepEnded 1 { s with free := s.free + 1 })) with
    mb := { s.mb with strap := (Config.strapAddr s.free).toNat, pecStrap := Config.strapPec s.free } }

/-- Step 2 has ended, with what the flash reports (R441). -/
def flashAsked (q : Sfdp) (s : State) : State := mgtMod (fun m => { m with sfdpOk := sfdpAccepted q }) (stepEnded 2 s)

variable {s : State} (q : Sfdp) (bad : Nat)

theorem startupStepEnd_one (hst : s.mgt.state = .boot) (hstep : s.mgt.step = 1) : startupStepEnd 1 q bad s = strapsRead s := by
  unfold startupStepEnd
  extract_lets ok st x s1
  rw [if_neg (not_idle_of_boot hst), if_pos ⟨rfl, hstep⟩]
  rfl

theorem startupStepEnd_two (hst : s.mgt.state = .boot) (hstep : s.mgt.step = 2) : startupStepEnd 2 q bad s =
    if s.thm.latched then mgtMod (fun m => { m with state := .tripLatch }) (flashAsked q s)
    else if sfdpAccepted q then nvSettle (mgtMod (fun m => { m with state := .starting, step := 3 }) (flashAsked q s))
    else enterSafe (raise0 0xB09 0xB0001 [] (flashAsked q s)) := by
  unfold startupStepEnd
  extract_lets ok st x s1
  rw [if_neg (not_idle_of_boot hst), if_neg (not_step (by decide)), if_pos ⟨rfl, hstep⟩]
  rfl

theorem startupStepEnd_three (hst : s.mgt.state = .starting) (hstep : s.mgt.step = 3) (hturn : nvTurn s 0 = true) :
    startupStepEnd 3 q bad s = nvSettle (chooseSlot (bit bad 0) (bit bad 1) s) := by
  unfold startupStepEnd
  extract_lets ok st x s1
  rw [if_neg (not_idle_of_starting hst), if_neg (not_step (by decide)), if_neg (not_step (by decide)), if_pos ⟨rfl, hstep, hturn⟩]

theorem startupStepEnd_four (hst : s.mgt.state = .starting) (hstep : s.mgt.step = 4) (hround : 40 ∈ s.mgt.stepsDone) :
    startupStepEnd 4 q bad s = step4 bad s := by
  unfold startupStepEnd
  extract_lets ok st x s1
  rw [if_neg (not_idle_of_starting hst), if_neg (not_step (by decide)), if_neg (not_step (by decide)), if_neg (not_step (by decide)),
    if_pos ⟨rfl, hstep, List.contains_iff_mem.mpr hround⟩]

theorem startupStepEnd_five (hst : s.mgt.state = .starting) (hstep : s.mgt.step = 5) (hcal : s.col.calibrated = true) :
    startupStepEnd 5 q bad s = mgtMod (fun m => { m with step := 6 }) (stepEnded 5 s) := by
  unfold startupStepEnd
  extract_lets ok st x s1
  rw [if_neg (not_idle_of_starting hst), if_neg (not_step (by decide)), if_neg (not_step (by decide)), if_neg (not_step (by decide)),
    if_neg (not_step (by decide)), if_pos ⟨rfl, hstep, hcal⟩]

theorem startupStepEnd_six (hst : s.mgt.state = .starting) (hstep : s.mgt.step = 5 ∨ s.mgt.step = 6) (htrained : linksTrained s = true)
    (hdisc : discovered s = true) (hnew : 6 ∉ s.mgt.stepsDone) : startupStepEnd 6 q bad s = stepEnded 6 s := by
  unfold startupStepEnd
  extract_lets ok st x s1
  rw [if_neg (not_idle_of_starting hst), if_neg (not_step (by decide)), if_neg (not_step (by decide)), if_neg (not_step (by decide)),
    if_neg (not_step (by decide)), if_neg (not_step (by decide)), if_pos ⟨rfl, hstep, htrained, hdisc, by simpa using hnew⟩]

theorem startupStepEnd_seven (hst : s.mgt.state = .starting) : startupStepEnd 7 q bad s = enterReady s := by
  unfold startupStepEnd
  extract_lets ok st x s1
  rw [if_neg (not_idle_of_starting hst), if_neg (not_step (by decide)), if_neg (not_step (by decide)), if_neg (not_step (by decide)),
    if_neg (not_step (by decide)), if_neg (not_step (by decide)), if_neg (not_step (by decide)), if_pos rfl]

/-! ### Steps 1 and 2 (R435, R441) -/

theorem strapsRead_stepTimed (s : State) : stepTimed s (strapsRead s) 1 :=
  stepTimed_of_regs (stepEnded_stepTimed 1 { s with free := s.free + 1 }) rfl rfl

theorem flashAsked_stepTimed (s : State) : stepTimed s (flashAsked q s) 2 := stepTimed_of_regs (stepEnded_stepTimed 2 s) rfl rfl

theorem startupStepEnd_two_stepTimed (hst : s.mgt.state = .boot) (hstep : s.mgt.step = 2) :
    stepTimed s (startupStepEnd 2 q bad s) 2 := by
  rw [startupStepEnd_two q bad hst hstep]
  split
  · exact stepTimed_of_regs (flashAsked_stepTimed q s) rfl rfl
  · split
    · exact stepTimed_of_regs (flashAsked_stepTimed q s) rfl rfl
    · refine stepTimed_of_regs (flashAsked_stepTimed q s) ?_ ?_
      · rw [enterSafe_mgt, raise0_mgt]
      · rw [enterSafe_regs, raise0_regs]

/-- Without a flash that is known the device is SAFE, and both events say so (R441, R455). -/
theorem unknownFlash_isSafe (hev : eventsTaken s = true) :
    (enterSafe (raise0 0xB09 0xB0001 [] s)).mgt.state = .safe ∧ (enterSafe (raise0 0xB09 0xB0001 [] s)).pen.hiz = true ∧
      eventPending (enterSafe (raise0 0xB09 0xB0001 [] s)) 0xB09 = true ∧
      eventPending (enterSafe (raise0 0xB09 0xB0001 [] s)) 0xB02 = true := by
  refine ⟨?_, enterSafe_hiz _, enterSafe_keeps_pending (raise0_eventPending _ _ _ hev),
    enterSafe_eventPending ((eventsTaken_of_rst (raise0_rst ..)).trans hev)⟩
  rw [enterSafe_mgt]

/-! ### READY and RUN (R452, R460) -/

/-- RUN has been reached (R460). -/
def runReached (s : State) : State :=
  rfset (stepEnded 8 (mgtMod (fun m => { m with state := .run }) s)) Reg.MGT_SU_TIME 15 0 (suMs s)

theorem enterRun_of_ready (hst : s.mgt.state = .ready) (hcap : 2048 ≤ s.mgt.captured) :
    enterRun s = raise0 0xB05 0xB0003 [] (runReached s) := if_pos ⟨hst, hcap⟩

theorem enterRun_of_captured (hcap : s.mgt.captured < 2048) : enterRun s = s := if_neg fun h => absurd h.2 (by omega)

/-- READY has been reached (R460). -/
def readyReached (s : State) : State :=
  rfset (stepEnded 7 (mgtMod (fun m => { m with state := .ready, step := 8 }) s)) Reg.MGT_SU_TIME 31 16 (suMs s)

theorem enterReady_of_setsUp (hst : s.mgt.state = .starting) (hstep : s.mgt.step = 7) (hup : allSetsUp s = true)
    (hauto : s.mgt.autoCommit = false) (hcap : s.mgt.captured < 2048) :
    enterReady s = raise0 0xB04 0xB0003 [] (readyReached s) := by
  unfold enterReady
  rw [if_pos ⟨hst, hstep, hup⟩]
  extract_lets s1
  have hmgt : s1.mgt = (readyReached s).mgt := raise0_mgt ..
  rw [if_neg (by rw [hmgt]; exact Bool.eq_false_iff.mp hauto)]
  exact enterRun_of_captured (by rw [hmgt]; exact hcap)

theorem enterReady_of_not_up (hup : allSetsUp s = false) : enterReady s = s := if_neg fun h => by simp [hup] at h

theorem suMs_lt (s : State) : suMs s < 2 ^ 16 := by
  unfold suMs satN
  omega

theorem rfld_readyReached (s : State) : rfld (readyReached s) Reg.MGT_SU_TIME 31 16 = suMs s := by
  unfold readyReached
  rw [rfld_rfset_same _ _ _ (by decide) (by decide)]
  exact Nat.mod_eq_of_lt (suMs_lt s)

theorem rfld_runReached (s : State) : rfld (runReached s) Reg.MGT_SU_TIME 15 0 = suMs s := by
  unfold runReached
  rw [rfld_rfset_same _ _ _ (by decide) (by decide)]
  exact Nat.mod_eq_of_lt (suMs_lt s)

theorem readyReached_stepTimed (s : State) : stepTimed s (readyReached s) 7 :=
  stepTimed_of_keeps (stepEnded_stepTimed 7 (mgtMod (fun m => { m with state := .ready, step := 8 }) s)) rfl
    (rget_rfset_other _ _ _ _ (by decide))

theorem runReached_stepTimed (s : State) : stepTimed s (runReached s) 8 :=
  stepTimed_of_keeps (stepEnded_stepTimed 8 (mgtMod (fun m => { m with state := .run }) s)) rfl
    (rget_rfset_other _ _ _ _ (by decide))

end Sys2Proof.Proofs
end

section
/-! PROOFS. Start-up step 3 (R453-R456): a slot that is loaded, and SAFE when no slot holds an image. -/

namespace Sys2Proof.Proofs

open Sys2Proof Sys2Proof.Machine

/-! ### A slot that is loaded (R456) -/

theorem evtConfigured_mgt (old s : State) : (evtConfigured old s).mgt = s.mgt := by
  unfold evtConfigured
  exact (Laws.within_noteRise ..).mgt rfl

theorem digestRegs_mgt (a : Nat) (bs : List Byte) (s : State) : (digestRegs a bs s).mgt = s.mgt := (Laws.within_digestRegs a bs s).mgt rfl

theorem loadImage_loaded {sl : Nat} {s u : State} (h : loadImage sl s = some u) : u.mgt.loaded = true := by
  unfold loadImage at h
  extract_lets toc at h
  split at h
  · cases h
  · split at h
    · cases h
    · split at h
      · cases h
      · obtain rfl := Option.some.inj h
        rw [evtConfigured_mgt, nrgMod_mgt, pipMod_mgt, digestRegs_mgt, digestRegs_mgt]
        rfl

theorem laneVerdict_loaded {sl : Nat} {ary : Ary} {r : Option Nat × State} {s : State} (h : (laneVerdict sl ary r s).1 = true) :
    (laneVerdict sl ary r s).2 = { r.2 with ary := ary } := by
  unfold laneVerdict at h ⊢
  split
  · next hr =>
    rw [hr] at h
    cases h
  · rfl

/-- An image that passes its checks stands in management as it was loaded. -/
theorem imageVerdict_mgt {sl : Nat} {u s : State} (h : (imageVerdict sl u s).1 = true) : (imageVerdict sl u s).2.mgt = u.mgt := by
  unfold imageVerdict at h ⊢
  split
  · next hc =>
    rw [hc] at h
    cases h
  · next hc =>
    rw [hc] at h
    rw [laneVerdict_loaded h]
    exact (Laws.within_laneChecks _).mgt rfl

theorem tryLoad_loaded {sl : Nat} {s : State} (h : (tryLoad sl s).1 = true) : (tryLoad sl s).2.mgt.loaded = true := by
  unfold tryLoad at h ⊢
  split
  · next hd =>
    rw [if_pos hd] at h
    cases h
  · next hd =>
    rw [if_neg hd] at h
    split
    · next hl =>
      rw [hl] at h
      cases h
    · next s1 hl =>
      rw [hl] at h
      split
      · next hg =>
        simp only [hg, if_true] at h
        cases h
      · next hg =>
        simp only [hg] at h
        rw [imageVerdict_mgt h, (Laws.within_loadListedBands _).mgt rfl, (Laws.within_loadPrograms _).mgt rfl,
          (Laws.within_budgetRow _).mgt rfl]
        exact loadImage_loaded hl

/-- A slot is tried, after another one with event 0xB01 (R454). -/
def slotTried (sl : Nat) (s : State) : Bool × State :=
  let s0 := if s.mgt.tried.isEmpty then s else raise0 0xB01 0xB0000 [] (mgtMod (fun m => { m with fallback := true }) s)
  tryLoad sl (mgtMod (fun m => { m with tried := m.tried ++ [sl] }) s0)

theorem loadFirst_cons (sl : Nat) (rest : List Nat) (s : State) :
    loadFirst (sl :: rest) s = if (slotTried sl s).1 then slotTried sl s else loadFirst rest (slotTried sl s).2 := rfl

theorem loadFirst_loaded (l : List Nat) {s : State} (h : (loadFirst l s).1 = true) : (loadFirst l s).2.mgt.loaded = true := by
  induction l generalizing s with
  | nil => cases h
  | cons sl rest ih =>
    rw [loadFirst_cons] at h ⊢
    by_cases hr : (slotTried sl s).1 = true
    · rw [if_pos hr]
      exact tryLoad_loaded hr
    · rw [if_neg hr] at h ⊢
      exact ih h

theorem countBoot_stepsDone (s : State) : (countBoot s).mgt.stepsDone = s.mgt.stepsDone := by
  unfold countBoot
  split <;> rfl

theorem countBoot_step (s : State) : (countBoot s).mgt.step = s.mgt.step := by
  unfold countBoot
  split <;> rfl

theorem countBoot_loaded (s : State) : (countBoot s).mgt.loaded = s.mgt.loaded := by
  unfold countBoot
  split <;> rfl

/-- The slots that were verified and not tried show RESULT 2 (R453). -/
def verifiedShown (ok : List Nat) (s : State) : State :=
  (ok.filter (fun sl => !s.mgt.tried.contains sl)).foldl (fun s sl => slotResult sl 2 s) s

theorem verifiedShown_mgt (ok : List Nat) (s : State) : (verifiedShown ok s).mgt = s.mgt :=
  foldl_keeps (g := State.mgt) (fun u sl => (Laws.within_slotResult sl 2 u).mgt rfl) _ s

/-- What step 3 makes of the slots `ok` that passed steps 1 to 8 of R453: one of them is loaded, or the device is SAFE. -/
def slotChosen (ok : List Nat) (s : State) : State :=
  let r := loadFirst (candidates s ok) s
  if r.1 then countBoot (mgtMod (fun m => { m with step := 4 }) (stepEnded 3 (activate (verifiedShown ok r.2))))
  else enterSafe (countBoot (stepEnded 3 (verifiedShown ok r.2)))

/-- Step 3 ends in SAFE, or with an image that is loaded (R454, R455). -/
theorem slotChosen_safe_or_loaded (ok : List Nat) (s : State) :
    ((slotChosen ok s).mgt.state = .safe ∧ (slotChosen ok s).pen.hiz = true) ∨
      ((slotChosen ok s).mgt.step = 4 ∧ (slotChosen ok s).mgt.loaded = true ∧ 3 ∈ (slotChosen ok s).mgt.stepsDone) := by
  unfold slotChosen
  extract_lets r
  split
  · next hr =>
    right
    have hmgt : (activate (verifiedShown ok r.2)).mgt = r.2.mgt := ((Laws.within_activate _).mgt rfl).trans (verifiedShown_mgt ..)
    have hloaded : (activate (verifiedShown ok r.2)).mgt.loaded = true := by
      rw [hmgt]
      exact loadFirst_loaded _ hr
    clear_value r
    generalize activate (verifiedShown ok r.2) = u at hloaded
    refine ⟨?_, ?_, ?_⟩
    · rw [countBoot_step]
      rfl
    · rw [countBoot_loaded]
      exact hloaded
    · rw [countBoot_stepsDone]
      exact stepEnded_mem 3 u
  · left
    refine ⟨?_, enterSafe_hiz _⟩
    rw [enterSafe_mgt]

/-- The first checks of a slot that step 3 has not tried and that showed no fault (R453). -/
def headChecked (a : List Nat × State) (p : Nat × Bool) : List Nat × State :=
  if a.2.mgt.tried.contains p.1 || decide (2 < rfld a.2 (Reg.MGT_SLOT_STATUS + 4 * p.1) 31 28) then a
  else (if (verifyHead p.1 p.2 a.2).1 = 0 then a.1 ++ [p.1] else a.1, (verifyHead p.1 p.2 a.2).2)

theorem chooseSlot_eq (errA errB : Bool) (s : State) : chooseSlot errA errB s =
    slotChosen (headChecked (headChecked ([], if s.mgt.tried.isEmpty then s else evtConfigured s (clearConfig (creditSettle s))) (0, errA))
        (1, errB)).1
      (headChecked (headChecked ([], if s.mgt.tried.isEmpty then s else evtConfigured s (clearConfig (creditSettle s))) (0, errA))
        (1, errB)).2 := rfl

end Sys2Proof.Proofs
end

section
/-! PROOFS. Start-up step 3 without an image in either slot (R453, R455), and step 4 (R436, R454). -/

namespace Sys2Proof.Proofs

open Sys2Proof Sys2Proof.Machine

/-! ### A slot without the magic (R445, R453) -/

/-- The registers of slot `sl` show no image (R471). -/
def slotBlank (sl : Nat) (s : State) : State :=
  digestRegs (Reg.MGT_SLOT_DIGEST + 0x40 * sl) (List.replicate 64 0#8)
    (rset (rset s (Reg.MGT_SLOT_SEQ + 4 * sl) 0) (Reg.MGT_SLOT_STATUS + 4 * sl)
      (rnat s (Reg.MGT_SLOT_STATUS + 4 * sl) / 2 ^ 27 * 2 ^ 27))

/-- The first bytes of slot `sl` are not those of an image (R445). -/
def noMagic (s : State) (sl : Nat) : Prop := imgBytes s sl 0 4 ≠ [0x42#8, 0x50#8, 0x43#8, 0x46#8]

theorem noMagic_congr {s t : State} (h : t.mgt = s.mgt) {sl : Nat} (hs : noMagic s sl) : noMagic t sl := by
  unfold noMagic imgBytes flashBytes at *
  rwa [h]

variable {s : State} {sl : Nat}

theorem verifyHead_of_noMagic (h : noMagic s sl) : verifyHead sl false s = (3, slotInvalid sl 3 (slotBlank sl s)) := by
  have hres : headResult s sl false = 3 := by
    unfold headResult
    rw [if_neg (by decide)]
    exact if_pos h
  unfold verifyHead
  extract_lets r a s1 s2 s3 s4
  have hr : r = 3 := hres
  have h2 : s2 = s1 := if_pos (Or.inr hr)
  have h3 : s3 = s2 := if_neg (by omega)
  have h4 : s4 = s3 := if_neg (by omega)
  rw [if_neg (by omega), h4, h3, h2, hr]
  rfl

theorem slotBlank_mgt (sl : Nat) (s : State) : (slotBlank sl s).mgt = s.mgt := by
  unfold slotBlank
  rw [(Laws.within_digestRegs ..).mgt rfl, rset_mgt, rset_mgt]

theorem slotBlank_rst (sl : Nat) (s : State) : (slotBlank sl s).rst = s.rst := by
  unfold slotBlank
  rw [(Laws.within_digestRegs ..).rst rfl, rset_rst, rset_rst]

theorem slotInvalid_keeps_pending (sl r : Nat) {u : State} {c : Nat} (h : eventPending u c = true) :
    eventPending (slotInvalid sl r u) c = true := by
  unfold slotInvalid
  exact raise0_keeps_pending _ _ _ ((eventPending_of_evt ((Laws.within_slotResult ..).evt rfl) c).trans h)

theorem slotInvalid_eventPending (sl r : Nat) {u : State} (h : eventsTaken u = true) : eventPending (slotInvalid sl r u) 0xB00 = true := by
  unfold slotInvalid
  exact raise0_eventPending _ _ _ ((eventsTaken_of_rst ((Laws.within_slotResult ..).rst rfl)).trans h)

theorem rfld_slotInvalid_same (sl r : Nat) (u : State) :
    rfld (slotInvalid sl r u) (Reg.MGT_SLOT_STATUS + 4 * sl) 31 28 = r % 16 := by
  unfold slotInvalid
  rw [rfld_congr (raise0_regs ..)]
  exact rfld_rfset_same _ _ _ (by decide) (by decide)

/-- The status register of a slot stands while the other slot is verified. -/
theorem rget_verified_other {k : Nat} (r : Nat) (s : State) (hk : k < 2) (h : k ≠ sl) :
    rget (slotInvalid sl r (slotBlank sl s)) (Reg.MGT_SLOT_STATUS + 4 * k) = rget s (Reg.MGT_SLOT_STATUS + 4 * k) := by
  unfold slotInvalid
  rw [rget_congr (raise0_regs ..)]
  unfold slotResult slotBlank digestRegs
  have hdigest (i : Nat) : Reg.MGT_SLOT_STATUS + 4 * k ≠ Reg.MGT_SLOT_DIGEST + 0x40 * sl + 4 * i := by
    simp only [Reg.MGT_SLOT_STATUS, Reg.MGT_SLOT_DIGEST]
    omega
  have hseq : Reg.MGT_SLOT_STATUS + 4 * k ≠ Reg.MGT_SLOT_SEQ + 4 * sl := by
    simp only [Reg.MGT_SLOT_STATUS, Reg.MGT_SLOT_SEQ]
    omega
  rw [rget_rfset_other _ _ _ _ (by omega),
    foldl_keeps (g := fun u => rget u (Reg.MGT_SLOT_STATUS + 4 * k)) (fun u i => rget_rset_other u _ (hdigest i)),
    rget_rset_other _ _ (by omega), rget_rset_other _ _ hseq]

theorem headChecked_of_noMagic {ok : List Nat} (htried : s.mgt.tried = []) (hstatus : rfld s (Reg.MGT_SLOT_STATUS + 4 * sl) 31 28 ≤ 2)
    (h : noMagic s sl) : headChecked (ok, s) (sl, false) = (ok, slotInvalid sl 3 (slotBlank sl s)) := by
  unfold headChecked
  rw [if_neg (by simp [htried, hstatus]), verifyHead_of_noMagic h]
  rfl

/-- Neither slot holds an image. -/
def bothInvalid (s : State) : State := slotInvalid 1 3 (slotBlank 1 (slotInvalid 0 3 (slotBlank 0 s)))

theorem candidates_nil (s : State) : candidates s [] = [] := by
  unfold candidates
  rw [if_neg (by simp)]
  rfl

theorem slotChosen_of_none (s : State) : slotChosen [] s = enterSafe (countBoot (stepEnded 3 s)) := by
  unfold slotChosen
  rw [candidates_nil]
  exact if_neg Bool.false_ne_true

theorem chooseSlot_of_noMagic (htried : s.mgt.tried = []) (hstatus : ∀ sl, sl < 2 → rfld s (Reg.MGT_SLOT_STATUS + 4 * sl) 31 28 ≤ 2)
    (h : ∀ sl, sl < 2 → noMagic s sl) : chooseSlot false false s = enterSafe (countBoot (stepEnded 3 (bothInvalid s))) := by
  have hmgt : (slotInvalid 0 3 (slotBlank 0 s)).mgt = s.mgt := ((Laws.within_slotInvalid ..).mgt rfl).trans (slotBlank_mgt 0 s)
  have hfirst : headChecked ([], s) (0, false) = ([], slotInvalid 0 3 (slotBlank 0 s)) :=
    headChecked_of_noMagic htried (hstatus 0 (by decide)) (h 0 (by decide))
  have hsecond : headChecked ([], slotInvalid 0 3 (slotBlank 0 s)) (1, false) = ([], bothInvalid s) := by
    refine headChecked_of_noMagic (by rw [hmgt, htried]) ?_ (noMagic_congr hmgt (h 1 (by decide)))
    rw [rfld_of_rget (rget_verified_other 3 s (by decide) (by decide))]
    exact hstatus 1 (by decide)
  rw [chooseSlot_eq, if_pos (by rw [htried]; rfl), hfirst, hsecond, slotChosen_of_none]

theorem bothInvalid_rst (s : State) : (bothInvalid s).rst = s.rst := by
  unfold bothInvalid
  rw [(Laws.within_slotInvalid ..).rst rfl, slotBlank_rst, (Laws.within_slotInvalid ..).rst rfl, slotBlank_rst]

theorem bothInvalid_eventPending (hev : eventsTaken s = true) : eventPending (bothInvalid s) 0xB00 = true := by
  refine slotInvalid_eventPending _ _ ((eventsTaken_of_rst ?_).trans hev)
  rw [slotBlank_rst, (Laws.within_slotInvalid ..).rst rfl, slotBlank_rst]

theorem bothInvalid_result (s : State) {k : Nat} (hk : k < 2) : rfld (bothInvalid s) (Reg.MGT_SLOT_STATUS + 4 * k) 31 28 = 3 := by
  obtain rfl | rfl : k = 0 ∨ k = 1 := by omega
  · unfold bothInvalid
    rw [rfld_of_rget (rget_verified_other 3 _ (by decide) (by decide))]
    exact rfld_slotInvalid_same 0 3 _
  · exact rfld_slotInvalid_same 1 3 _

theorem rget_countBoot_other {a : Nat} (s : State) (h : a ≠ Reg.MGT_BOOT_COUNT) : rget (countBoot s) a = rget s a := by
  unfold countBoot
  split
  · rfl
  · rw [rget_congr (mgtMod_regs ..), rget_rset_other s _ h]

theorem rget_stepEnded_other {a i : Nat} (s : State) (h : a ≠ Reg.MGT_SU_STEP + 4 * (i - 1)) : rget (stepEnded i s) a = rget s a :=
  rget_rset_other s _ h

theorem stepCounted_rst (i : Nat) (s : State) : (countBoot (stepEnded i s)).rst = s.rst := by
  rw [(Laws.within_countBoot _).rst rfl, (Laws.within_stepEnded ..).rst rfl]

theorem stepCounted_evt (i : Nat) (s : State) : (countBoot (stepEnded i s)).evt = s.evt := by
  rw [(Laws.within_countBoot _).evt rfl, (Laws.within_stepEnded ..).evt rfl]

/-- Nothing that step 3 counts and shows at its end touches the status of a slot. -/
theorem rget_safeAfterThree {k : Nat} (hk : k < 2) (s : State) :
    rget (enterSafe (countBoot (stepEnded 3 s))) (Reg.MGT_SLOT_STATUS + 4 * k) = rget s (Reg.MGT_SLOT_STATUS + 4 * k) := by
  have hcount : Reg.MGT_SLOT_STATUS + 4 * k ≠ Reg.MGT_BOOT_COUNT := by
    simp only [Reg.MGT_SLOT_STATUS, Reg.MGT_BOOT_COUNT]
    omega
  have hstep : Reg.MGT_SLOT_STATUS + 4 * k ≠ Reg.MGT_SU_STEP + 4 * (3 - 1) := by
    simp only [Reg.MGT_SLOT_STATUS, Reg.MGT_SU_STEP]
    omega
  rw [rget_congr (enterSafe_regs _), rget_countBoot_other _ hcount, rget_stepEnded_other _ hstep]

end Sys2Proof.Proofs
end

section
/-! PROOFS. Start-up step 4 (R35, R436, R454): the comparators, the band, the admission and the engines of AUTO. -/

namespace Sys2Proof.Proofs

open Sys2Proof Sys2Proof.Machine

/-! ### Without a good comparator (R436) -/

/-- What step 4 found of the comparators stands, with an event for each one that is bad. -/
def comparatorsTested (bad : Nat) (s : State) : State :=
  (List.range 2).foldl (fun s c => raiseIf (bit bad c) 0xA0F 0xA0300 [] 0 0 s) (thmMod (fun t => { t with cmpTest := bad % 4 }) s)

variable {s u : State}

theorem comparatorsTested_rst (bad : Nat) (s : State) : (comparatorsTested bad s).rst = s.rst :=
  foldl_keeps (g := State.rst) (fun _ _ => raiseIf_rst ..) _ _

theorem bothComparatorsBad_eventPending (hev : eventsTaken s = true) : eventPending (comparatorsTested 3 s) 0xA0F = true := by
  change eventPending (raiseIf (bit 3 1) 0xA0F 0xA0300 [] 0 0 (raiseIf (bit 3 0) 0xA0F 0xA0300 [] 0 0
    (thmMod (fun t => { t with cmpTest := 3 % 4 }) s))) 0xA0F = true
  exact raiseIf_keeps_pending _ _ _ _ _ _ (raiseIf_eventPending _ _ _ _ _ (by decide) hev)

theorem comparatorsTested_good (s : State) : comparatorsTested 0 s = thmMod (fun t => { t with cmpTest := 0 }) s := by
  change raiseIf (bit 0 1) 0xA0F 0xA0300 [] 0 0 (raiseIf (bit 0 0) 0xA0F 0xA0300 [] 0 0 (thmMod (fun t => { t with cmpTest := 0 }) s)) = _
  have hbit (i : Nat) : bit 0 i = false := by simp [bit]
  rw [hbit, hbit]
  rfl

/-! ### What follows the band (R35, R393) -/

/-- Step 4 once the admission `r` has been made: the engines of AUTO, then the links. -/
def autoStarted (r : Bool × State) : State :=
  if !r.1 then step4Failed 3 0 r.2
  else if !(startAuto r.2).1 then step4Failed 3 0x80300 (startAuto r.2).2
  else linksBegin <| mgtMod (fun m => { m with step := 5 })
    (slotResult (startAuto r.2).2.mgt.slot 1 (stepEnded 4 (startAuto r.2).2))

/-- Step 4 once the band is chosen. -/
def bandAdmitted (u : State) : State := autoStarted (admission u)

theorem step4_eq (bad : Nat) (s : State) : step4 bad s =
    if bad % 4 = 3 then enterSafe (stepEnded 4 (comparatorsTested bad s)) else bandAdmitted (startBand (comparatorsTested bad s)) := by
  unfold step4 comparatorsTested bandAdmitted
  rfl

theorem step4_of_bothBad (s : State) : step4 3 s = enterSafe (stepEnded 4 (comparatorsTested 3 s)) := by
  rw [step4_eq, if_pos rfl]

theorem step4_of_good (s : State) : step4 0 s = bandAdmitted (startBand (thmMod (fun t => { t with cmpTest := 0 }) s)) := by
  rw [step4_eq, if_neg (by decide), comparatorsTested_good]

/-- What follows the band stays within the registers, the events, management, the links, the pins and the plan. -/
theorem autoStarted_within {r : Bool × State} (h : Laws.Within 459425 s r.2) : Laws.Within 459425 s (autoStarted r) := by
  have hauto : Laws.Within 459425 s (startAuto r.2).2 := .after (Laws.within_startAuto _) rfl h
  unfold autoStarted
  split
  · exact .after (Laws.within_step4Failed ..) rfl h
  · split
    · exact .after (Laws.within_step4Failed ..) rfl hauto
    · refine .after (Laws.within_linksBegin _) rfl (.after (Laws.within_mgtMod ?_) rfl ?_)
      · exact id
      · exact .after (Laws.within_slotResult ..) rfl (.after (Laws.within_stepEnded ..) rfl hauto)

theorem bandAdmitted_within (u : State) : Laws.Within 459425 u (bandAdmitted u) :=
  autoStarted_within (.after (Laws.within_admission u) rfl (.refl _ _))

theorem startBand_thm (s : State) : (startBand s).thm = { s.thm with tb := s.thm.tbNext.getD s.thm.tb, tbNext := none } := by
  unfold startBand
  rw [(Laws.within_dsnuNext _).thm rfl]

theorem startBand_ary (s : State) : (startBand s).ary = { s.ary with tb := s.thm.tbNext.getD s.thm.tb } := by
  unfold startBand
  rw [(Laws.within_dsnuNext _).ary rfl]

theorem dsnuNext_slot (s : State) : (dsnuNext s).mgt.slot = s.mgt.slot := by
  unfold dsnuNext
  split
  · rfl
  · split <;> rfl

theorem startBand_slot (s : State) : (startBand s).mgt.slot = s.mgt.slot := by
  unfold startBand
  rw [dsnuNext_slot]

/-! ### An admission that is refused (R393, R454) -/

/-- What the admission sheds (R393). -/
def stepsShed (u : State) : Nat := shedFrom (planAdopt u) (planTb (planAdopt u)) 4 0

/-- Whether the verdict path fits with what is shed (R34). -/
def planPasses (u : State) : Bool := planFits (planAdopt u) (planTb (planAdopt u)) (stepsShed u)

/-- The admission stands in the planner and is shown (R393). -/
def admissionShown (u : State) : State :=
  nrgMod (fun n => { n with
    planShed := stepsShed u, guardShed := 0, planNext := none, guardNext := none, admitted := planPasses u, planBad := false })
    (rfset (rfset (setBudget (stepsShed u) (planAdopt u)) Reg.MGT_SHED_STATUS 3 0 (stepMask (stepsShed u)))
      Reg.MGT_SHED_STATUS 11 8 (stepMask (stepsShed u)))

theorem admission_eq (u : State) : admission u =
    if planPasses u then (true, raiseIf (decide (0 < stepsShed u)) 0x900 0x90101 [] 0 0
      ((List.range (stepsShed u)).foldl (fun s i => shedEntry false (i + 1) 0 s) (admissionShown u)))
    else (false, raise0 0x901 0x90101 [] (admissionShown u)) := by
  unfold admission
  rfl

theorem admissionShown_rst (u : State) : (admissionShown u).rst = u.rst := by
  unfold admissionShown
  rw [nrgMod_rst, rfset_rst, rfset_rst, (Laws.within_setBudget ..).rst rfl, (Laws.within_planAdopt u).rst rfl]

theorem admission_refused (h : (admission u).1 = false) (hev : eventsTaken u = true) : eventPending (admission u).2 0x901 = true := by
  rw [admission_eq] at h ⊢
  by_cases hok : planPasses u = true
  · rw [if_pos hok] at h
    cases h
  · rw [if_neg hok]
    exact raise0_eventPending _ _ _ ((eventsTaken_of_rst (admissionShown_rst u)).trans hev)

theorem configFault_keeps_pending (n sl f : Nat) {c : Nat} (h : eventPending s c = true) :
    eventPending (configFault n sl f s) c = true := by
  unfold configFault
  exact slotInvalid_keeps_pending _ _ (raise0_keeps_pending _ _ _ ((eventPending_of_evt (rset_evt ..) c).trans h))

theorem configFault_eventPending (n sl f : Nat) (hev : eventsTaken s = true) : eventPending (configFault n sl f s) 0xB03 = true := by
  unfold configFault
  exact slotInvalid_keeps_pending _ _ (raise0_eventPending _ _ _ ((eventsTaken_of_rst (rset_rst ..)).trans hev))

theorem step4Failed_evt (n f : Nat) (s : State) : (step4Failed n f s).evt = (configFault n s.mgt.slot f s).evt := by
  unfold step4Failed
  rw [(Laws.within_nvSettle _).evt rfl, mgtMod_evt, penMod_evt]

theorem step4Failed_step (n f : Nat) (s : State) : (step4Failed n f s).mgt.step = 3 ∧ (step4Failed n f s).mgt.loaded = false :=
  ⟨rfl, rfl⟩

theorem bandAdmitted_refused (h : (admission u).1 = false) : bandAdmitted u = step4Failed 3 0 (admission u).2 := by
  unfold bandAdmitted autoStarted
  rw [if_pos (by rw [h]; rfl)]

/-- A refused admission goes back to step 3 with both its events (R454). -/
theorem bandAdmitted_of_refused (h : (admission u).1 = false) (hev : eventsTaken u = true) :
    (bandAdmitted u).mgt.step = 3 ∧ (bandAdmitted u).mgt.loaded = false ∧ eventPending (bandAdmitted u) 0x901 = true ∧
      eventPending (bandAdmitted u) 0xB03 = true := by
  have hev' : eventsTaken (admission u).2 = true := (eventsTaken_of_rst ((Laws.within_admission u).rst rfl)).trans hev
  have hpend := admission_refused h hev
  rw [bandAdmitted_refused h]
  generalize (admission u).2 = v at hev' hpend
  obtain ⟨hstep, hloaded⟩ := step4Failed_step 3 0 v
  refine ⟨hstep, hloaded, ?_, ?_⟩
  · rw [eventPending_of_evt (step4Failed_evt ..)]
    exact configFault_keeps_pending _ _ _ hpend
  · rw [eventPending_of_evt (step4Failed_evt ..)]
    exact configFault_eventPending _ _ _ hev'

/-! ### An admission that passes -/

theorem shedEntry_regs (restore : Bool) (step cause : Nat) (s : State) : (shedEntry restore step cause s).regs = s.regs :=
  (Laws.within_shedEntry restore step cause s).regs rfl

/-- The admission writes the budget and the shed status alone. -/
theorem rget_admission_other {a : Nat} (u : State) (hb : a ≠ Reg.MGT_BUDGET_NRG) (hs : a ≠ Reg.MGT_SHED_STATUS) :
    rget (admission u).2 a = rget u a := by
  have hshown : rget (admissionShown u) a = rget u a := by
    unfold admissionShown setBudget
    rw [rget_congr (nrgMod_regs ..), rget_rfset_other _ _ _ _ hs, rget_rfset_other _ _ _ _ hs, rget_congr (nrgMod_regs ..),
      rget_rset_other _ _ hb, rget_congr ((Laws.within_planAdopt u).regs rfl)]
  rw [admission_eq]
  split
  · rw [rget_congr (raiseIf_regs ..), rget_congr (foldl_keeps (g := State.regs) (fun v i => shedEntry_regs _ _ _ v) _ _), hshown]
  · rw [rget_congr (raise0_regs ..), hshown]

theorem startAuto_of_none (h : ∀ e, e < 16 → engAuto s e = false) : startAuto s = (true, s) := by
  have hes : (List.range 16).filter (fun e => engAuto s e) = [] :=
    List.filter_eq_nil_iff.mpr fun e he => by simp [h e (List.mem_range.mp he)]
  unfold startAuto
  rw [hes]
  rfl

theorem engAuto_admission (u : State) {e : Nat} (he : e < 16) : engAuto (admission u).2 e = engAuto u e := by
  have hb : Reg.PEN_ENG_CFG + 0x20 * e ≠ Reg.MGT_BUDGET_NRG := by
    simp only [Reg.PEN_ENG_CFG, Reg.MGT_BUDGET_NRG]
    omega
  have hs : Reg.PEN_ENG_CFG + 0x20 * e ≠ Reg.MGT_SHED_STATUS := by
    simp only [Reg.PEN_ENG_CFG, Reg.MGT_SHED_STATUS]
    omega
  unfold engAuto rbit rnat
  rw [rget_admission_other u hb hs]

theorem autoStarted_of_none (h : startAuto s = (true, s)) : autoStarted (true, s) =
    linksBegin (mgtMod (fun m => { m with step := 5 }) (slotResult s.mgt.slot 1 (stepEnded 4 s))) := by
  unfold autoStarted
  rw [h]
  rfl

theorem bandAdmitted_passed (h : (admission u).1 = true) (hauto : ∀ e, e < 16 → engAuto u e = false) :
    bandAdmitted u = linksBegin (mgtMod (fun m => { m with step := 5 })
      (slotResult (admission u).2.mgt.slot 1 (stepEnded 4 (admission u).2))) := by
  have hnone (e : Nat) (he : e < 16) : engAuto (admission u).2 e = false := (engAuto_admission u he).trans (hauto e he)
  unfold bandAdmitted
  generalize admission u = r at h hnone
  obtain ⟨ok, v⟩ := r
  subst h
  exact autoStarted_of_none (startAuto_of_none hnone)

/-- An admission that passes ends step 4, and the slot shows RESULT 1 (R453). -/
theorem bandAdmitted_of_passed (h : (admission u).1 = true) (hauto : ∀ e, e < 16 → engAuto u e = false) :
    (bandAdmitted u).mgt.step = 5 ∧ 4 ∈ (bandAdmitted u).mgt.stepsDone ∧
      rfld (bandAdmitted u) (Reg.MGT_SLOT_STATUS + 4 * u.mgt.slot) 31 28 = 1 := by
  have hslot : u.mgt.slot = (admission u).2.mgt.slot := congrArg Mgt.slot ((Laws.within_admission u).mgt rfl).symm
  rw [bandAdmitted_passed h hauto, (Laws.within_linksBegin _).mgt rfl, rfld_congr ((Laws.within_linksBegin _).regs rfl), hslot]
  clear hslot
  generalize (admission u).2 = v
  rw [mgtMod_mgt, (Laws.within_slotResult ..).mgt rfl, rfld_congr (mgtMod_regs ..)]
  exact ⟨rfl, stepEnded_mem 4 v, rfld_rfset_same _ _ _ (by decide) (by decide)⟩

end Sys2Proof.Proofs
end

section
/-! PROOFS. The bring-up of the lane sets at the end of start-up (R340, R460), and the settlement of the start-up statement. -/

namespace Sys2Proof.Proofs

open Sys2Proof Sys2Proof.Machine

/-! ### Registers that a set going down leaves (R196, R338) -/

/-- An address of the configuration of a lane set: it lies below the counters of its set (R315, R471). -/
def laneCfgAddr (a : Nat) : Prop := 0x700100 ≤ a ∧ a % 128 < 56

theorem laneCfgAddr_setCfg (n : Nat) : laneCfgAddr (setCfg n) := by
  unfold laneCfgAddr setCfg
  simp only [Reg.LNK_SET_CFG]
  omega

theorem laneCfgAddr_lanes (n : Nat) {j : Nat} (h : j < 6) : laneCfgAddr (Reg.LNK_SET_LANES + 0x80 * n + 4 * j) := by
  unfold laneCfgAddr
  simp only [Reg.LNK_SET_LANES]
  omega

variable {s u : State} {a n : Nat}

theorem rget_snapRowLost (q : Nat) (s : State) (h : laneCfgAddr a) : rget (snapRowLost q s) a = rget s a := by
  obtain ⟨hlo, -⟩ := h
  unfold snapRowLost
  split
  · rfl
  · rw [rget_congr (raise0_regs ..)]
    exact rget_rset_other _ _ (by simp only [Reg.PIP_SNAP_OUT]; omega)

theorem rget_rowsLost (snaps : List (Option Nat)) (s : State) (h : laneCfgAddr a) : rget (rowsLost snaps s) a = rget s a :=
  foldl_keeps (g := fun u => rget u a) (fun u q => rget_snapRowLost q u h) _ s

/-- A unit of class 0 that is lost is counted beyond the configuration of its set. -/
theorem rget_unitLost (n : Nat) (snap : Option Nat) (s : State) (h : laneCfgAddr a) : rget (unitLost n 0 snap s) a = rget s a := by
  have hcount : rget (rsat s (Reg.LNK_SET_DROP + 0x80 * n + 4 * 0) 31 0 1) a = rget s a :=
    rget_rset_other _ _ (by obtain ⟨-, hlow⟩ := h; simp only [Reg.LNK_SET_DROP]; omega)
  unfold unitLost
  split
  · rw [rget_snapRowLost _ _ h, hcount]
  · exact hcount

theorem rget_queuesLost_privileged (n : Nat) (q : List LUnit) (s : State) (h : laneCfgAddr a) :
    rget (queuesLost n [q, [], [], []] s) a = rget s a := by
  have hclass : queuesLost n [q, [], [], []] s = q.foldl (fun s x => unitLost n 0 x.snap s) s := rfl
  rw [hclass]
  exact foldl_keeps (g := fun u => rget u a) (fun u x => rget_unitLost n x.snap u h) q s

/-- A set with privileged units alone goes down and leaves the configuration of the sets. -/
theorem rget_setDown {q : List LUnit} (hq : (laneSet s n).q = [q, [], [], []]) (h : laneCfgAddr a) :
    rget (setDown n s) a = rget s a := by
  have hdown : ∃ r, downQueues (laneSet s n) = [r, [], [], []] := ⟨_, by rw [downQueues, hq]; rfl⟩
  obtain ⟨r, hr⟩ := hdown
  unfold setDown
  rw [rget_congr (raise_regs ..), hr, rget_queuesLost_privileged _ _ _ h, rget_congr ((Laws.within_resendReport ..).regs rfl)]
  rfl

/-! ### The bring-up of a set (R340) -/

/-- The next data slot: the lane configured for it, or a spare in place of a lane that failed (R333). -/
def slotFilled (bad : List Nat) (a : List Nat × List Nat) (l : Nat) : List Nat × List Nat :=
  if bad.contains l then
    match a.2 with
    | sp :: rest => (a.1 ++ [sp], rest)
    | [] => a
  else (a.1 ++ [l], a.2)

/-- The data slots with which set `n` begins, and the spares that are left. -/
def slotsFilled (n : Nat) (s : State) : List Nat × List Nat :=
  (cfgSlots s n).1.foldl (slotFilled (laneSet s n).failed)
    ([], (cfgSlots s n).2.filter (fun l => !(laneSet s n).failed.contains l))

/-- Set `n` as its bring-up begins (R340). -/
def setBegun (n : Nat) (s : State) : LaneSet :=
  { LaneSet.reset with
    stage := 1, slots := (slotsFilled n s).1, spares := (slotsFilled n s).2, failed := (laneSet s n).failed
    q := [clsQ (laneSet s n) 0, [], [], []], recs := (laneSet s n).recs, seq := (laneSet s n).seq, rows := 4095
    lossDue := decide ((slotsFilled n s).1.length < (cfgSlots s n).1.length) }

/-- The bring-up of set `n` has begun, and the units that it drops are lost. -/
def bringUpBegun (n : Nat) (s : State) : State :=
  rowsLost (queueSnaps ((laneSet s n).q.drop 1)) (putSet n (setBegun n s) s)

theorem setBringUp_eq (n : Nat) (s : State) : setBringUp n s =
    if !setEn s n || inReset s (setFid n) then s
    else if (slotsFilled n s).1.isEmpty then setDown n (bringUpBegun n s) else bringUpBegun n s := rfl

theorem rowsLost_step (k : Nat) (snaps : List (Option Nat)) (s : State) : SetStep id k s (rowsLost snaps s) :=
  .foldl (fun u q => snapRowLost_step k q u) _ (.refl ..)

theorem laneSet_bringUpBegun_same (n : Nat) (s : State) : laneSet (bringUpBegun n s) n = setBegun n s :=
  (rowsLost_step n _ _).view.trans (laneSet_putSet_same ..)

theorem laneSet_bringUpBegun_other {k : Nat} (s : State) (h : k ≠ n) : laneSet (bringUpBegun n s) k = laneSet s k :=
  ((rowsLost_step n _ _).others k h).trans (laneSet_putSet_other _ _ h)

theorem rget_bringUpBegun (n : Nat) (s : State) (h : laneCfgAddr a) : rget (bringUpBegun n s) a = rget s a :=
  rget_rowsLost _ _ h

/-- A set whose bring-up begins leaves the other sets. -/
theorem laneSet_setBringUp_other {k : Nat} (s : State) (h : k ≠ n) : laneSet (setBringUp n s) k = laneSet s k := by
  rw [setBringUp_eq]
  split
  · rfl
  · split
    · rw [(setDown_step n _).others k h, setEmptied, laneSet_putSet_other _ _ h, laneSet_bringUpBegun_other s h]
    · exact laneSet_bringUpBegun_other s h

/-- A set whose bring-up begins leaves the configuration of the sets. -/
theorem rget_setBringUp (n : Nat) (s : State) (h : laneCfgAddr a) : rget (setBringUp n s) a = rget s a := by
  rw [setBringUp_eq]
  split
  · rfl
  · split
    · rw [rget_setDown (congrArg LaneSet.q (laneSet_bringUpBegun_same n s)) h, rget_bringUpBegun n s h]
    · exact rget_bringUpBegun n s h

theorem slotsFilled_of_no_fault (h : (laneSet s n).failed = []) : (slotsFilled n s).1 = (cfgSlots s n).1 := by
  have hfill (l acc sp : List Nat) : l.foldl (slotFilled []) (acc, sp) = (acc ++ l, sp) := by
    induction l generalizing acc with
    | nil => simp
    | cons x l ih =>
      have hone : slotFilled [] (acc, sp) x = (acc ++ [x], sp) := rfl
      rw [List.foldl_cons, hone, ih, List.append_assoc, List.singleton_append]
  rw [slotsFilled, h, hfill]
  rfl

/-- What the bring-up of the sets leaves throughout: management, the resets, and the configuration of the sets. -/
structure BringUpKeeps (s u : State) : Prop where
  mgt : u.mgt = s.mgt
  rst : u.rst = s.rst
  cfg : ∀ a, laneCfgAddr a → rget u a = rget s a

namespace BringUpKeeps

theorem setBringUp (h : BringUpKeeps s u) (n : Nat) : BringUpKeeps s (Machine.setBringUp n u) where
  mgt := ((Laws.within_setBringUp n u).mgt rfl).trans h.mgt
  rst := ((Laws.within_setBringUp n u).rst rfl).trans h.rst
  cfg a ha := (rget_setBringUp n u ha).trans (h.cfg a ha)

theorem setEn (h : BringUpKeeps s u) (n : Nat) : Machine.setEn u n = Machine.setEn s n := by
  unfold Machine.setEn rbit rnat
  rw [h.cfg _ (laneCfgAddr_setCfg n)]

theorem rfld_setCfg (h : BringUpKeeps s u) (n hi lo : Nat) : rfld u (setCfg n) hi lo = rfld s (setCfg n) hi lo :=
  rfld_of_rget (h.cfg _ (laneCfgAddr_setCfg n)) hi lo

theorem cfgLane (h : BringUpKeeps s u) (n : Nat) {p : Nat} (hp : p < 36) : Machine.cfgLane u n p = Machine.cfgLane s n p :=
  rfld_of_rget (h.cfg _ (laneCfgAddr_lanes n (by omega))) _ _

theorem slots (h : BringUpKeeps s u) (n : Nat) : (cfgSlots u n).1 = (cfgSlots s n).1 := by
  unfold cfgSlots cfgNdata
  rw [h.rfld_setCfg]
  refine List.map_congr_left fun p hp => h.cfgLane n ?_
  have hlt : rfld s (setCfg n) 25 21 < 32 := by
    unfold rfld bits
    omega
  exact (List.mem_range.mp hp).trans (by omega)

end BringUpKeeps

/-- Set `n` begins its bring-up with its configured lanes. -/
theorem setBringUp_begins (hen : setEn u n = true) (hres : inReset u (setFid n) = false) (hfailed : (laneSet u n).failed = [])
    (hslots : (cfgSlots u n).1 ≠ []) :
    (laneSet (setBringUp n u) n).stage = 1 ∧ (laneSet (setBringUp n u) n).slots = (cfgSlots u n).1 := by
  have hfill := slotsFilled_of_no_fault hfailed
  rw [setBringUp_eq, if_neg (by simp [hen, hres]), if_neg (by rw [hfill]; simpa using hslots), laneSet_bringUpBegun_same]
  exact ⟨rfl, hfill⟩

/-- The bring-up of the four sets. -/
def setsBegun (s : State) : State := (List.range 4).foldl (fun s n => setBringUp n s) s

theorem setsBegun_begins (hn : n < 4) (hen : setEn s n = true) (hres : inReset s (setFid n) = false)
    (hfailed : (laneSet s n).failed = []) (hslots : (cfgSlots s n).1 ≠ []) :
    BringUpKeeps s (setsBegun s) ∧ (laneSet (setsBegun s) n).stage = 1 ∧ (laneSet (setsBegun s) n).slots = (cfgSlots s n).1 := by
  refine foldl_establishes_once (P := fun u => BringUpKeeps s u ∧ laneSet u n = laneSet s n)
    (Q := fun u => BringUpKeeps s u ∧ (laneSet u n).stage = 1 ∧ (laneSet u n).slots = (cfgSlots s n).1) (k := n)
    ?_ ?_ ?_ List.nodup_range (List.mem_range.mpr hn) ⟨⟨rfl, rfl, fun _ _ => rfl⟩, rfl⟩
  · rintro u m hm ⟨hkeeps, hset⟩
    exact ⟨hkeeps.setBringUp m, (laneSet_setBringUp_other u hm.symm).trans hset⟩
  · rintro u ⟨hkeeps, hset⟩
    obtain ⟨hstage, hs⟩ := setBringUp_begins (hkeeps.setEn n ▸ hen) ((inReset_of_rst hkeeps.rst _).trans hres) (hset ▸ hfailed)
      (hkeeps.slots n ▸ hslots)
    exact ⟨hkeeps.setBringUp n, hstage, hs.trans (hkeeps.slots n)⟩
  · rintro u m hm ⟨hkeeps, hstage, hs⟩
    rw [laneSet_setBringUp_other u hm.symm]
    exact ⟨hkeeps.setBringUp m, hstage, hs⟩

/-- A set that has begun its bring-up is not UP. -/
theorem not_allSetsUp (hn : n < 4) (hen : setEn s n = true) (hstage : (laneSet s n).stage = 1) : allSetsUp s = false := by
  refine List.all_eq_false.mpr ⟨n, List.mem_range.mpr hn, ?_⟩
  simp [hen, hstage]

theorem laneBringupBegin_eq (hst : s.mgt.state = .starting) (hstep : s.mgt.step = 6) (h5 : 5 ∈ s.mgt.stepsDone)
    (h6 : 6 ∈ s.mgt.stepsDone) : laneBringupBegin s = enterReady (setsBegun (mgtMod (fun m => { m with step := 7 }) s)) :=
  if_pos ⟨hst, hstep, List.contains_iff_mem.mpr h5, List.contains_iff_mem.mpr h6⟩

theorem laneBringupBegin_begins (hst : s.mgt.state = .starting) (hstep : s.mgt.step = 6) (h5 : 5 ∈ s.mgt.stepsDone)
    (h6 : 6 ∈ s.mgt.stepsDone) (hn : n < 4) (hen : setEn s n = true) (hres : inReset s (setFid n) = false)
    (hfailed : (laneSet s n).failed = []) (hslots : (cfgSlots s n).1 ≠ []) :
    completes .laneBringupBegin s (fun t => t.mgt.step = 7 ∧ t.mgt.state = .starting ∧ (laneSet t n).stage = 1 ∧
      (laneSet t n).slots = (cfgSlots s n).1) := by
  obtain ⟨hkeeps, hstage, hs⟩ := setsBegun_begins (s := mgtMod (fun m => { m with step := 7 }) s) hn hen hres hfailed hslots
  have hup := not_allSetsUp hn ((hkeeps.setEn n).trans hen) hstage
  refine ⟨_, congrArg Host.Outcome.next ((laneBringupBegin_eq hst hstep h5 h6).trans (enterReady_of_not_up hup)), ?_, ?_, hstage, hs⟩
  · rw [hkeeps.mgt]
    rfl
  · rw [hkeeps.mgt]
    exact hst

end Sys2Proof.Proofs
end

section
/-! PROOFS. The steps of start-up, each from the state in which it ends (R435, R436, R454, R460, R462). -/

namespace Sys2Proof.Proofs

open Sys2Proof Sys2Proof.Machine

theorem startup_reads_straps (s : State) (q : Sfdp) (bad : Nat) (hst : s.mgt.state = .boot) (hstep : s.mgt.step = 1) :
    completes (.startupStepEnd 1 q bad) s (fun t => t.mgt.step = 2 ∧ stepTimed s t 1 ∧
      ∃ n, t.mb.strap = (Config.strapAddr n).toNat ∧ t.mb.pecStrap = Config.strapPec n) :=
  ⟨_, congrArg Host.Outcome.next (startupStepEnd_one q bad hst hstep), rfl, strapsRead_stepTimed s, s.free, rfl, rfl⟩

theorem startup_asks_flash (s : State) (q : Sfdp) (bad : Nat) (hst : s.mgt.state = .boot) (hstep : s.mgt.step = 2)
    (hev : eventsTaken s = true) :
    completes (.startupStepEnd 2 q bad) s (fun t => stepTimed s t 2 ∧
      (s.thm.latched = true → t.mgt.state = .tripLatch) ∧
      (s.thm.latched = false → sfdpAccepted q = true → t.mgt.state = .starting ∧ t.mgt.step = 3) ∧
      (s.thm.latched = false → sfdpAccepted q = false → t.mgt.state = .safe ∧ t.pen.hiz = true ∧ eventPending t 0xB09 = true ∧
        eventPending t 0xB02 = true)) := by
  refine ⟨startupStepEnd 2 q bad s, rfl, startupStepEnd_two_stepTimed q bad hst hstep, fun hl => ?_, fun hl hok => ?_,
    fun hl hok => ?_⟩
  · rw [startupStepEnd_two q bad hst hstep, if_pos hl]
    rfl
  · rw [startupStepEnd_two q bad hst hstep, if_neg (by simp [hl]), if_pos hok]
    exact ⟨rfl, rfl⟩
  · rw [startupStepEnd_two q bad hst hstep, if_neg (by simp [hl]), if_neg (by simp [hok])]
    exact unknownFlash_isSafe (s := flashAsked q s) hev

/-- The order of the flash operations settles, and the rest of management stands. -/
theorem nvSettle_mgt (s : State) : (nvSettle s).mgt = { s.mgt with nvStack := nvNext s } := rfl

theorem nvSettle_pen (s : State) : (nvSettle s).pen = s.pen := rfl

theorem startup_loads_slot (s : State) (q : Sfdp) (bad : Nat) (hst : s.mgt.state = .starting) (hstep : s.mgt.step = 3)
    (hturn : nvTurn s 0 = true) :
    completes (.startupStepEnd 3 q bad) s (fun t => (t.mgt.state = .safe ∧ t.pen.hiz = true) ∨
      (t.mgt.step = 4 ∧ t.mgt.loaded = true ∧ 3 ∈ t.mgt.stepsDone)) := by
  refine ⟨_, congrArg Host.Outcome.next (startupStepEnd_three q bad hst hstep hturn), ?_⟩
  beta_reduce
  rw [chooseSlot_eq, nvSettle_mgt, nvSettle_pen]
  exact slotChosen_safe_or_loaded _ _

theorem startup_without_image (s : State) (q : Sfdp) (hst : s.mgt.state = .starting) (hstep : s.mgt.step = 3)
    (hturn : nvTurn s 0 = true) (htried : s.mgt.tried = []) (hev : eventsTaken s = true)
    (hstatus : ∀ sl, sl < 2 → rfld s (Reg.MGT_SLOT_STATUS + 4 * sl) 31 28 ≤ 2)
    (hmagic : ∀ sl, sl < 2 → imgBytes s sl 0 4 ≠ [0x42#8, 0x50#8, 0x43#8, 0x46#8]) :
    completes (.startupStepEnd 3 q 0) s (fun t => t.mgt.state = .safe ∧ eventPending t 0xB00 = true ∧
      eventPending t 0xB02 = true ∧ ∀ sl, sl < 2 → rfld t (Reg.MGT_SLOT_STATUS + 4 * sl) 31 28 = 3) := by
  have hbit (i : Nat) : bit 0 i = false := by simp [bit]
  have hend : startupStepEnd 3 q 0 s = nvSettle (enterSafe (countBoot (stepEnded 3 (bothInvalid s)))) := by
    rw [startupStepEnd_three q 0 hst hstep hturn, hbit, hbit, chooseSlot_of_noMagic htried hstatus hmagic]
  have hcounted : eventPending (countBoot (stepEnded 3 (bothInvalid s))) 0xB00 = true :=
    (eventPending_of_evt (stepCounted_evt ..) _).trans (bothInvalid_eventPending hev)
  have hrst : (countBoot (stepEnded 3 (bothInvalid s))).rst = s.rst := (stepCounted_rst ..).trans (bothInvalid_rst s)
  refine ⟨_, congrArg Host.Outcome.next hend, ?_, ?_, ?_, fun sl hsl => ?_⟩
  · rw [nvSettle_mgt, enterSafe_mgt]
  · rw [eventPending_of_evt ((Laws.within_nvSettle _).evt rfl)]
    exact enterSafe_keeps_pending hcounted
  · rw [eventPending_of_evt ((Laws.within_nvSettle _).evt rfl)]
    exact enterSafe_eventPending ((eventsTaken_of_rst hrst).trans hev)
  · rw [rfld_congr ((Laws.within_nvSettle _).regs rfl), rfld_of_rget (rget_safeAfterThree hsl _)]
    exact bothInvalid_result s hsl

theorem startup_without_comparator (s : State) (q : Sfdp) (hst : s.mgt.state = .starting) (hstep : s.mgt.step = 4)
    (hround : 40 ∈ s.mgt.stepsDone) (hev : eventsTaken s = true) :
    completes (.startupStepEnd 4 q 3) s (fun t => t.mgt.state = .safe ∧ eventPending t 0xA0F = true ∧
      eventPending t 0xB02 = true) := by
  have hend := (startupStepEnd_four q 3 hst hstep hround).trans (step4_of_bothBad s)
  have hrst : (stepEnded 4 (comparatorsTested 3 s)).rst = s.rst :=
    ((Laws.within_stepEnded ..).rst rfl).trans (comparatorsTested_rst 3 s)
  have hpend : eventPending (stepEnded 4 (comparatorsTested 3 s)) 0xA0F = true :=
    (eventPending_of_evt ((Laws.within_stepEnded ..).evt rfl) _).trans (bothComparatorsBad_eventPending hev)
  refine ⟨_, congrArg Host.Outcome.next hend, ?_, enterSafe_keeps_pending hpend,
    enterSafe_eventPending ((eventsTaken_of_rst hrst).trans hev)⟩
  rw [enterSafe_mgt]

theorem startup_chooses_band (s u : State) (q : Sfdp) (hst : s.mgt.state = .starting) (hstep : s.mgt.step = 4)
    (hround : 40 ∈ s.mgt.stepsDone) (hev : eventsTaken s = true)
    (hu : u = startBand { s with thm := { s.thm with cmpTest := 0 } }) :
    completes (.startupStepEnd 4 q 0) s (fun t => t.thm.tb = s.thm.tbNext.getD s.thm.tb ∧ t.ary.tb = t.thm.tb ∧
      ((admission u).1 = false → t.mgt.step = 3 ∧ t.mgt.loaded = false ∧ eventPending t 0x901 = true ∧
        eventPending t 0xB03 = true) ∧
      ((admission u).1 = true → (∀ e, e < 16 → engAuto s e = false) → t.mgt.step = 5 ∧ 4 ∈ t.mgt.stepsDone ∧
        rfld t (Reg.MGT_SLOT_STATUS + 4 * s.mgt.slot) 31 28 = 1)) := by
  have hband : u = startBand (thmMod (fun t => { t with cmpTest := 0 }) s) := hu
  have hend : startupStepEnd 4 q 0 s = bandAdmitted u := by
    rw [startupStepEnd_four q 0 hst hstep hround, step4_of_good, hband]
  have htb : u.thm.tb = s.thm.tbNext.getD s.thm.tb := by rw [hband, startBand_thm, thmMod_thm]
  have hary : u.ary.tb = s.thm.tbNext.getD s.thm.tb := by rw [hband, startBand_ary, thmMod_thm]
  have hslot : u.mgt.slot = s.mgt.slot := by rw [hband, startBand_slot, thmMod_mgt]
  have hrst : u.rst = s.rst := by rw [hband, (Laws.within_startBand _).rst rfl, thmMod_rst]
  have hregs : u.regs = s.regs := by rw [hband, (Laws.within_startBand _).regs rfl, thmMod_regs]
  refine ⟨_, congrArg Host.Outcome.next hend, ?_, ?_, fun hrefused => ?_, fun hpassed hauto => ?_⟩
  · rw [(bandAdmitted_within u).thm rfl, htb]
  · rw [(bandAdmitted_within u).ary rfl, (bandAdmitted_within u).thm rfl, hary, htb]
  · exact bandAdmitted_of_refused hrefused ((eventsTaken_of_rst hrst).trans hev)
  · rw [← hslot]
    refine bandAdmitted_of_passed hpassed fun e he => ?_
    unfold engAuto rbit rnat
    rw [rget_congr hregs]
    exact hauto e he

theorem startup_calibrated (s : State) (q : Sfdp) (bad : Nat) (hst : s.mgt.state = .starting) (hstep : s.mgt.step = 5)
    (hcal : s.col.calibrated = true) :
    completes (.startupStepEnd 5 q bad) s (fun t => t.mgt.step = 6 ∧ stepTimed s t 5) :=
  ⟨_, congrArg Host.Outcome.next (startupStepEnd_five q bad hst hstep hcal), rfl, stepTimed_of_regs (stepEnded_stepTimed 5 s) rfl rfl⟩

theorem startup_trained (s : State) (q : Sfdp) (bad : Nat) (hst : s.mgt.state = .starting)
    (hstep : s.mgt.step = 5 ∨ s.mgt.step = 6) (htrained : linksTrained s = true) (hdisc : discovered s = true)
    (hnew : 6 ∉ s.mgt.stepsDone) :
    completes (.startupStepEnd 6 q bad) s (fun t => t.mgt.step = s.mgt.step ∧ stepTimed s t 6) :=
  ⟨_, congrArg Host.Outcome.next (startupStepEnd_six q bad hst hstep htrained hdisc hnew), rfl, stepEnded_stepTimed 6 s⟩

theorem startup_begins_lanes (s : State) (n : Nat) (hst : s.mgt.state = .starting) (hstep : s.mgt.step = 6)
    (h5 : 5 ∈ s.mgt.stepsDone) (h6 : 6 ∈ s.mgt.stepsDone) (hn : n < 4) (hen : setEn s n = true)
    (hres : inReset s (setFid n) = false) (hfailed : (laneSet s n).failed = []) (hslots : (cfgSlots s n).1 ≠ []) :
    completes .laneBringupBegin s (fun t => t.mgt.step = 7 ∧ t.mgt.state = .starting ∧ (laneSet t n).stage = 1 ∧
      (laneSet t n).slots = (cfgSlots s n).1) :=
  laneBringupBegin_begins hst hstep h5 h6 hn hen hres hfailed hslots

theorem startup_is_ready (s : State) (q : Sfdp) (bad : Nat) (hst : s.mgt.state = .starting) (hstep : s.mgt.step = 7)
    (hup : allSetsUp s = true) (hauto : s.mgt.autoCommit = false) (hcap : s.mgt.captured < 2048) (hev : eventsTaken s = true) :
    completes (.startupStepEnd 7 q bad) s (fun t => t.mgt.state = .ready ∧ t.mgt.step = 8 ∧ stepTimed s t 7 ∧
      rfld t Reg.MGT_SU_TIME 31 16 = suMs s ∧ eventPending t 0xB04 = true) := by
  have hend := (startupStepEnd_seven q bad hst).trans (enterReady_of_setsUp hst hstep hup hauto hcap)
  refine ⟨_, congrArg Host.Outcome.next hend, ?_, ?_, ?_, ?_, raise0_eventPending _ _ _ hev⟩
  · rw [raise0_mgt]
    rfl
  · rw [raise0_mgt]
    rfl
  · exact stepTimed_of_regs (readyReached_stepTimed s) (congrArg Mgt.stepsDone (raise0_mgt ..)) (raise0_regs ..)
  · rw [rfld_congr (raise0_regs ..), rfld_readyReached]

theorem startup_captures (s : State) (h5 : s.mgt.stepsDone.contains 5 = true) (hworks : works s = true)
    (hcap : s.mgt.capturing = false) (hrole : s.grp.role ≠ 2) (hstop : s.thm.stop < 3) :
    completes .captureBegin s (fun t => t.mgt = { s.mgt with capturing := true }) :=
  ⟨_, congrArg Host.Outcome.next (if_pos ⟨h5, hworks, by rw [hcap]; rfl, Or.inl hrole, hstop⟩), rfl⟩

theorem startup_is_running (s : State) (hst : s.mgt.state = .ready) (hcap : 2048 ≤ s.mgt.captured) (hev : eventsTaken s = true) :
    completes .warmupEnd s (fun t => t.mgt.state = .run ∧ stepTimed s t 8 ∧ rfld t Reg.MGT_SU_TIME 15 0 = suMs s ∧
      eventPending t 0xB05 = true) := by
  refine ⟨_, congrArg Host.Outcome.next (enterRun_of_ready hst hcap), ?_, ?_, ?_, raise0_eventPending _ _ _ hev⟩
  · rw [raise0_mgt]
    rfl
  · exact stepTimed_of_regs (runReached_stepTimed s) (congrArg Mgt.stepsDone (raise0_mgt ..)) (raise0_regs ..)
  · rw [rfld_congr (raise0_regs ..), rfld_runReached]

theorem bootRestart_startsAnew (s : State) (halive : alive s = true) (h : nothingHolds s) :
    completes .bootRestart s (fun t => startsAnew t ∧ (flashIdle s → t.mgt.flash = s.mgt.flash)) :=
  ⟨_, congrArg Host.Outcome.next (if_pos halive), restartNow_startsAnew h, (restartNow_keeps h).2⟩

/-- Settles O51: the steps of start-up in their order, each proved above. -/
theorem startupRunsItsSteps : Obligations.StartupRunsItsSteps :=
  ⟨startup_reads_straps, startup_asks_flash, startup_loads_slot, startup_without_image, startup_without_comparator,
    startup_chooses_band, startup_calibrated, startup_trained, startup_begins_lanes, startup_is_ready, startup_captures,
    startup_is_running, bootRestart_startsAnew⟩

end Sys2Proof.Proofs
end
